-- ==== Sys2Proof/Word.lean ====
section
/-! DEFINITION. The word types of the OJ1024: bytes, 16-bit and 32-bit words, micro-ops (R3, R5). -/

namespace Sys2Proof

/-- A byte of memory or an 8-bit register. -/
abbrev Byte := BitVec 8
/-- A 16-bit pointer, pair or address (R59). -/
abbrev W16 := BitVec 16
/-- A 24-bit micro-op (R125). -/
abbrev W24 := BitVec 24
/-- A 32-bit register or flit (R143). -/
abbrev W32 := BitVec 32

end Sys2Proof
end

