-- ==== Sys2Proof/Syntax.lean ====
section
/-! DEFINITION. The commands of the block: one constructor per row of spec/opcode_table.json, in the
table's order, and the operand types they carry.  A tile instruction names the physical tile that
executes it; a register access names the owner ID of its master (R16). -/

namespace Sys2Proof

/-- Optional guard prefix of R93 (sense, guard number) and the wide prefix of R92. -/
structure Pfx where
  guard : Option (Bool × Fin 8)
  wide  : Bool
  deriving DecidableEq, Repr

/-- MOV, or the decode trap that file 95 lists inside the MOV step: bytes that R94 and R96 refuse. -/
inductive MovForm where
  | copy (x : Pfx) (d s : Fin 16)
  | decodeTrap (bytes : List Byte)
  deriving DecidableEq, Repr

/-- How a request of a gate operation or time read failed: no response within the limit (R318), a CRC failure that no
retry masked (R156), or an ERROR. -/
inductive ReqFail where
  | late
  | crc
  | refused
  deriving DecidableEq, Repr

/-- How the reply of a gate operation or time read ended (R111, R175): `good`, with the record read back;
`found`, with the record read back although requests failed; `lost`, with neither READ of the record answered, after the
GATE_OP was or was not applied; `missed`, with the record read and the GATE_OP never applied; `beaten`, for a TREADY
whose slot a cancel took in the same resolution (R194).  `fails` lists the requests that failed. -/
inductive Reply where
  | good
  | found (fails : List ReqFail)
  | lost (applied : Bool) (fails : List ReqFail)
  | missed (fails : List ReqFail)
  | beaten
  deriving DecidableEq, Repr

/-- The requests that failed on the way of a reply. -/
def Reply.fails : Reply → List ReqFail
  | .found l | .lost _ l | .missed l => l
  | .good | .beaten => []

/-- The fields that an operand mode supplies (R122, R123); the mode number is kept because modes
8 to 15 trap. -/
structure CustomArgs where
  entry : Fin 16
  mode  : Fin 16
  a     : Fin 16
  b     : Fin 16
  pf    : Fin 8
  gf    : Fin 8
  k     : W16
  deriving DecidableEq, Repr

/-- Message kinds of R147 that a target serves; any other KIND is `other`. -/
inductive MsgKind where
  | write | read | msg | gateOp | event | writeFixed | other (n : Nat)
  deriving DecidableEq, Repr

/-- A request as it reaches its target (R144 to R147).  `phys` is the physical tile that the sender's interface
resolved the destination to, where it lies in the sender's court (R150); `hub` says that the link hub issued it
for another device (R355); `cut`, that the sender closed its worm with ABANDON after these bytes (R159); `beaten`, that
on its arrival a request that prevails over it falls within the same resolution (R194, R508); `user`, the owner for whom
a DMA channel sent it, who is its user though the channel has been released since (R242, R253). -/
structure Msg where
  kind    : MsgKind
  len     : Nat
  srcId   : Nat
  srcPhys : Nat
  srcDev  : Nat
  tag     : Nat
  cap     : Nat
  chk     : Bool
  dev     : Nat
  space   : Nat
  addr    : Nat
  data    : List Byte
  badCrc  : Bool
  phys    : Option Nat := none
  hub     : Bool := false
  cut     : Bool := false
  beaten  : Bool := false
  user    : Option Nat := none
  deriving DecidableEq, Repr

/-- Response kinds of R147. -/
inductive RespKind where
  | done | retry | error
  deriving DecidableEq, Repr

/-- A response as it reaches its requester (R146, R147, R157); `hub` says that the link hub's port is the
requester's (R151), and `fromPhys` is the physical tile that sent it, 0x7FF for any other target. -/
structure Resp where
  kind    : RespKind
  dstPhys : Nat
  dstId   : Nat
  tag     : Nat
  cap     : Nat
  status  : Nat
  data    : List Byte
  badCrc  : Bool
  hub     : Bool := false
  fromPhys : Nat := 0x7FF
  deriving DecidableEq, Repr

/-- A master interface that waits for a response (R170, R317, R318). -/
inductive Requester where
  | tile (phys : Nat)
  | dma (engine : Nat)
  | router
  | host
  | hub
  deriving DecidableEq, Repr

/-- Who pushes into a queue (R177): a tile's GATE_OP, a hardware producer, or a register write. -/
inductive PushBy where
  | gate (phys opnum : Nat)
  | hardware (owner : Nat)
  | master (owner : Nat)
  deriving DecidableEq, Repr

/-- Who pops a queue, reads an action register or asks a dispatcher (R174, R176): a tile's GATE_OP,
or a register access with SRC_ID, SRC_PHYS and TAG. -/
inductive AskBy where
  | gate (phys opnum : Nat)
  | access (srcId srcPhys tag : Nat)
  deriving DecidableEq, Repr

/-- Who makes a slot ready; `beaten` says that a cancel of the slot in the same resolution discards it (R194). -/
structure ReadyBy where
  asker  : AskBy
  beaten : Bool
  deriving DecidableEq, Repr

/-- Who writes a register; `beaten` as in `Msg`. -/
structure RegBy where
  master : Nat
  beaten : Bool
  deriving DecidableEq, Repr

/-- A custom instruction as it runs: its operands, and the remote accesses that are served between its micro-ops,
each with the number of the executed micro-op that it precedes (R132). -/
structure CustomRun where
  args : CustomArgs
  mid  : List (Nat × Msg)
  deriving DecidableEq, Repr

/-- What is restarted, or why; `absorbed` says that a wider reset requested together with it takes it in (R15). -/
structure Restart (α : Type) where
  what     : α
  absorbed : Bool
  deriving DecidableEq, Repr

/-- A cold start: TEST_EN at the release of RESET_N (R493), and whether a device restart was requested together with it,
whose row comes next and which it takes in (R15). -/
structure ColdStart where
  testEn  : Bool
  absorbs : Bool
  deriving DecidableEq, Repr

/-- The restart of a court; `accepted` lists the requests that its tiles had accepted and not yet answered (R170). -/
structure CourtRestart where
  court    : Nat
  absorbed : Bool
  accepted : List Msg
  deriving DecidableEq, Repr

/-- How a PMBus poll went: the regulator answered; or, where it did not, what the STATUS_WORD read after it
says (R39, R57).  `mode` is what VOUT_MODE returns at the first poll after start-up. -/
structure Poll where
  good  : Bool
  fault : Bool
  mode  : Byte
  deriving DecidableEq, Repr

/-- The parts a line judge watches (R317, R318); of a tile, `port` says that it is the memory port, which the
diagnostic path then finds unanswering (R326). -/
inductive StallUnit where
  | tile (phys : Nat) (port : Bool)
  | router (court : Nat)
  | dmaMover (engine : Nat)
  | array (port : Nat)
  | crossing (island : Nat)
  deriving DecidableEq, Repr

/-- The memories that the scrubber visits (R319, R234). -/
inductive ScrubMem where
  | tile (phys : Nat)
  | buffers
  | mgmt
  | model
  deriving DecidableEq, Repr

/-- Supplies of the monitors (R323, R496). -/
inductive Rail where
  | vddCin | vddAon | vddSd | vddaSd | vddSio
  deriving DecidableEq, Repr

/-- The causes of the five reset kinds that need telling apart (R13, R321). -/
inductive MgmtCause where
  | referee | firmware | otherBank
  deriving DecidableEq, Repr

/-- What a MEMBER NOTICE changes (R372). -/
inductive NoticeKind where
  | cap (dev cap : Nat)
  | mark (dev : Nat) (out : Bool)
  | aliased (dev standby : Nat) (map : List Nat)
  | unaliased (dev : Nat)
  | configured (dev : Nat) (inSet : Bool)
  deriving DecidableEq, Repr
/-- The captain's full tables (R372): caps, devices marked out, the configured set, and the aliases with their court
maps, as of a notice sequence. -/
structure FabTables where
  caps    : List (Nat × Nat)
  out     : List Nat
  members : List Nat
  aliases : List (Nat × Nat × List Nat)
  seq     : Nat
  deriving DecidableEq, Repr

/-- What a MEMBER packet says (R365 to R376).  The reports to the captain (silence, an announcement of a send-off, a
device that has joined again, a leave, a request for the full tables) have no row of their own in the opcode table
and come under NOTICE (log 126). -/
inductive MemberBody where
  | status (number : Nat)
  | confirm (number cap epoch noticeSeq : Nat)
  | redirect (captain : Nat)
  | notice (seq : Nat) (k : NoticeKind)
  | sentOff
  | takeover (dev : Nat)
  | tables (t : FabTables)
  | silence (dev : Nat) (announced : Bool)
  | rejoined (dev : Nat)
  | leave (dev : Nat)
  | askTables
  deriving DecidableEq, Repr

/-- A fabric packet's header and payload (R347, R348).  `body` is what the payload of a MEMBER packet says; the spec
lays out no bytes for it (log 126).  A packet on the way to a port may be corrupted, and then fails its CRC-32. -/
structure Packet where
  typ   : Nat
  vc    : Nat
  seq   : Nat
  dst   : Nat
  src   : Nat
  dcap  : Nat
  kind  : Nat
  ftag  : Nat
  srcId : Nat
  space : Nat
  addr  : Nat
  len   : Nat
  data  : List Byte
  badCrc : Bool
  body  : Option MemberBody := none
  deriving DecidableEq, Repr

/-- A MEMBER packet that comes in by a port, but for what it says (R347 to R349). -/
structure MemberIn where
  port : Nat
  vc   : Nat
  seq  : Nat
  src  : Nat
  dst  : Nat
  dcap : Nat
  data : List Byte
  badCrc : Bool
  deriving DecidableEq, Repr

/-- The packet, with what it says. -/
def MemberIn.packet (a : MemberIn) (b : MemberBody) : Packet :=
  { typ := 3, vc := a.vc, seq := a.seq, dst := a.dst, src := a.src, dcap := a.dcap, kind := 0, ftag := 0, srcId := 0
    space := 0, addr := 0, len := a.data.length, data := a.data, badCrc := a.badCrc, body := some b }

/-- What comes under NOTICE: a change with its notice sequence, or a report to the captain, which has none (R372,
log 126). -/
inductive NoticeSays where
  | change (k : NoticeKind)
  | silence (dev : Nat) (announced : Bool)
  | rejoined (dev : Nat)
  | leave (dev : Nat)
  | askTables
  deriving DecidableEq, Repr

/-- A NOTICE as a MEMBER packet says it. -/
def NoticeSays.body (seq : Nat) : NoticeSays → MemberBody
  | .change k => .notice seq k
  | .silence d a => .silence d a
  | .rejoined d => .rejoined d
  | .leave d => .leave d
  | .askTables => .askTables

/-- A TAKEOVER for the standby of a device (R373). -/
structure TakeoverIn where
  from_ : MemberIn
  dev   : Nat
  deriving DecidableEq, Repr

/-- The sets in the captain's full tables (R372). -/
structure FabSets where
  out     : List Nat
  members : List Nat
  aliases : List (Nat × Nat × List Nat)
  deriving DecidableEq, Repr

/-- A LINK packet (R349). -/
structure LinkPkt where
  ackSeq  : Nat
  nak     : Bool
  credits : List Nat
  deriving DecidableEq, Repr

/-- A HEARTBEAT packet (R349, R363). -/
structure Heartbeat where
  device   : Nat
  dcap     : Nat
  port     : Nat
  state    : Nat
  captain  : Nat
  configId : Nat
  deriving DecidableEq, Repr

/-- Wake inputs and watched sources (R269, R440). -/
inductive WakeBy where
  | pinEdge (n : Nat) (rising : Bool)
  | alarm (k : Nat)
  | linkPort (p : Nat)
  | vbus
  | source (n : Nat)
  deriving DecidableEq, Repr

/-- A frame on a feed port, from the destination address through the FCS (R454). -/
structure Frame where
  bytes  : List Byte
  fcsOk  : Bool
  pause  : Bool
  deriving DecidableEq, Repr

/-- Host accesses by BAR (R384, R406, R465). -/
structure HostAcc where
  bar    : Nat
  offset : Nat
  size   : Nat
  write  : Option (List Byte)
  tag    : Nat
  deriving DecidableEq, Repr

/-- What one serial unit exchanged (R310): an SPI frame, a UART character or an I2C byte. -/
structure SerUnit where
  rx        : Option Nat
  rxParity  : Bool
  rxFraming : Bool
  nack      : Bool
  arbLost   : Bool
  deriving DecidableEq, Repr

/-- A bus reset, after which the bus runs at high or full speed, or VBUS falling (R470, R473). -/
structure BusReset where
  vbusFell : Bool
  high     : Bool
  deriving DecidableEq, Repr

/-- Configuration-space writes that act (R467, R469). -/
inductive CfgWrite where
  | dState (d3hot : Bool)
  | msixEnable (on : Bool)
  | functionMask (on : Bool)
  | busMaster (on : Bool)
  | vectorMask (v : Nat) (on : Bool)
  | aspmL1 (on : Bool)
  | aerClear (v : W32)
  deriving DecidableEq, Repr

/-- Causes of R468. -/
inductive FlrCause where
  | flr | hotReset | linkDown | perst
  deriving DecidableEq, Repr

/-- The commands: one constructor per row of the opcode table. -/
inductive Instr where
  -- tile instructions, R101
  | mov (p : Nat) (f : MovForm)
  | add (p : Nat) (x : Pfx) (d s : Fin 16)
  | adc (p : Nat) (x : Pfx) (d s : Fin 16)
  | sub (p : Nat) (x : Pfx) (d s : Fin 16)
  | sbc (p : Nat) (x : Pfx) (d s : Fin 16)
  | and (p : Nat) (x : Pfx) (d s : Fin 16)
  | or (p : Nat) (x : Pfx) (d s : Fin 16)
  | xor (p : Nat) (x : Pfx) (d s : Fin 16)
  | mul (p : Nat) (x : Pfx) (d s : Fin 16)
  | muls (p : Nat) (x : Pfx) (d s : Fin 16)
  | not (p : Nat) (x : Pfx) (d : Fin 16)
  | neg (p : Nat) (x : Pfx) (d : Fin 16)
  | inc (p : Nat) (x : Pfx) (d : Fin 16)
  | dec (p : Nat) (x : Pfx) (d : Fin 16)
  | swap (p : Nat) (x : Pfx) (d : Fin 16)
  | movp (p : Nat) (x : Pfx) (pd ps : Fin 8)
  | movpw (p : Nat) (x : Pfx) (pd : Fin 8) (s : Fin 16)
  | movwp (p : Nat) (x : Pfx) (d : Fin 16) (ps : Fin 8)
  | addpw (p : Nat) (x : Pfx) (pd : Fin 8) (s : Fin 16)
  | addpb (p : Nat) (x : Pfx) (pd : Fin 8) (s : Fin 16)
  -- immediates, R102, R103
  | movi (p : Nat) (x : Pfx) (d : Fin 16) (imm : W16)
  | addi (p : Nat) (x : Pfx) (d : Fin 16) (imm : W16)
  | movip (p : Nat) (x : Pfx) (pd : Fin 8) (imm : W16)
  | addip (p : Nat) (x : Pfx) (pd : Fin 8) (simm : Byte)
  | subi (p : Nat) (x : Pfx) (d : Fin 16) (imm : W16)
  | adci (p : Nat) (x : Pfx) (d : Fin 16) (imm : W16)
  | sbci (p : Nat) (x : Pfx) (d : Fin 16) (imm : W16)
  | andi (p : Nat) (x : Pfx) (d : Fin 16) (imm : W16)
  | ori (p : Nat) (x : Pfx) (d : Fin 16) (imm : W16)
  | xori (p : Nat) (x : Pfx) (d : Fin 16) (imm : W16)
  | shl (p : Nat) (x : Pfx) (d c : Fin 16)
  | shr (p : Nat) (x : Pfx) (d c : Fin 16)
  | asr (p : Nat) (x : Pfx) (d c : Fin 16)
  | rol (p : Nat) (x : Pfx) (d c : Fin 16)
  | ror (p : Nat) (x : Pfx) (d c : Fin 16)
  | rlc (p : Nat) (x : Pfx) (d c : Fin 16)
  | rrc (p : Nat) (x : Pfx) (d c : Fin 16)
  -- memory, R104
  | ld (p : Nat) (x : Pfx) (r : Fin 16) (b : Fin 8) (disp : W16)
  | st (p : Nat) (x : Pfx) (r : Fin 16) (b : Fin 8) (disp : W16)
  | ldw (p : Nat) (x : Pfx) (r : Fin 16) (b : Fin 8) (disp : W16)
  | stw (p : Nat) (x : Pfx) (r : Fin 16) (b : Fin 8) (disp : W16)
  | ldp (p : Nat) (x : Pfx) (r b : Fin 8) (disp : W16)
  | stp (p : Nat) (x : Pfx) (r b : Fin 8) (disp : W16)
  | lea (p : Nat) (x : Pfx) (r b : Fin 8) (disp : W16)
  -- control transfer, R105
  | jmp (p : Nat) (x : Pfx) (target : W16)
  | call (p : Nat) (x : Pfx) (target : W16)
  | ret (p : Nat) (x : Pfx)
  | bra (p : Nat) (x : Pfx) (rel : W16)
  | jmpp (p : Nat) (x : Pfx) (b : Fin 8)
  | callp (p : Nat) (x : Pfx) (b : Fin 8)
  | djnz (p : Nat) (x : Pfx) (d : Fin 16) (rel : Byte)
  | bcc (p : Nat) (x : Pfx) (c : Fin 8) (rel : W16)
  | nop (p : Nat) (x : Pfx)
  -- compare to guard, R107
  | cmpg (p : Nat) (x : Pfx) (c : Fin 8) (d s : Fin 16) (g : Fin 8)
  | cmpgi (p : Nat) (x : Pfx) (c : Fin 8) (d : Fin 16) (g : Fin 8) (imm : W16)
  -- decimal, R108
  | dadd (p : Nat) (x : Pfx) (d s : Fin 16)
  | dsub (p : Nat) (x : Pfx) (d s : Fin 16)
  | dadj (p : Nat) (x : Pfx) (d : Fin 16) (m : Bool)
  | dshl (p : Nat) (x : Pfx) (d s : Fin 16)
  | dshr (p : Nat) (x : Pfx) (d s : Fin 16)
  | b2d (p : Nat) (x : Pfx) (d s : Fin 16)
  | d2b (p : Nat) (x : Pfx) (d s : Fin 16)
  -- bits and guards, R109
  | bset (p : Nat) (x : Pfx) (d : Fin 16) (b : Fin 8)
  | bclr (p : Nat) (x : Pfx) (d : Fin 16) (b : Fin 8)
  | btgl (p : Nat) (x : Pfx) (d : Fin 16) (b : Fin 8)
  | btst (p : Nat) (x : Pfx) (d : Fin 16) (b : Fin 8) (i : Bool) (g : Fin 8)
  | gand (p : Nat) (x : Pfx) (g a b : Fin 8) (i : Bool)
  | gor (p : Nat) (x : Pfx) (g a b : Fin 8) (i : Bool)
  | gxor (p : Nat) (x : Pfx) (g a b : Fin 8) (i : Bool)
  | gmov (p : Nat) (x : Pfx) (g a : Fin 8)
  | gtod (p : Nat) (x : Pfx) (d : Fin 16)
  | dtog (p : Nat) (x : Pfx) (s : Fin 16)
  -- system instructions, R110
  | send (p : Nat) (x : Pfx) (b g : Fin 8)
  | qpush (p : Nat) (x : Pfx) (d : Fin 16) (q : W16) (g : Fin 8) (r : Reply)
  | qpop (p : Nat) (x : Pfx) (d : Fin 16) (q : W16) (g : Fin 8) (r : Reply)
  | time (p : Nat) (x : Pfx) (b g : Fin 8) (r : Reply)
  | stim (p : Nat) (x : Pfx) (port : Fin 32) (d : Fin 16) (n : Fin 8)
  | sleep (p : Nat) (x : Pfx)
  | tready (p : Nat) (x : Pfx) (d : Fin 16) (g : Fin 8) (r : Reply)
  | tcancel (p : Nat) (x : Pfx) (d : Fin 16) (g : Fin 8) (r : Reply)
  | tdone (p : Nat) (x : Pfx) (r : Reply)
  | gets (p : Nat) (x : Pfx) (d : Fin 16) (sys : Byte)
  | sets (p : Nat) (x : Pfx) (s : Fin 16) (sys : Byte)
  | rete (p : Nat) (x : Pfx)
  | trap (p : Nat) (x : Pfx) (imm : Byte)
  | fence (p : Nat) (x : Pfx)
  | customInstruction (p : Nat) (x : Pfx) (c : CustomRun)
  -- tile happenings and system-register rows
  | eventEntry (p : Nat)
  | tileWake (p : Nat)
  | paceCompareMatch (p : Nat)
  | sysPcnt0 (p : Nat) (x : Pfx) (d : Fin 16)
  | sysDtdat2 (p : Nat) (x : Pfx) (s : Fin 16)
  | sysDtcmt (p : Nat) (x : Pfx) (s : Fin 16)
  | sysRxsize (p : Nat) (x : Pfx) (baseHi : Bool) (s : Fin 16)
  -- network
  | write (m : Msg)
  | read (m : Msg)
  | writeFixed (m : Msg)
  | msg (m : Msg)
  | event (m : Msg)
  | done (r : Resp)
  | retry (r : Resp)
  | error (r : Resp)
  | abandon (m : Msg) (arrived : Nat)
  | sendCompletion (p tag : Nat)
  -- queues, dispatchers, pool
  | queuePush (q : Nat) (entry : W32) (by_ : PushBy)
  | queuePop (q : Nat) (by_ : AskBy)
  | flush (master q : Nat)
  | queueTailExpiry (q : Nat)
  | dispReady (c slot : Nat) (by_ : ReadyBy)
  | dispCancel (c slot : Nat) (by_ : AskBy) (withReady : Bool)
  | dispTdone (c phys opnum : Nat)
  | dispatch (c : Nat)
  | cancelLimitExpiry (c slot : Nat)
  | poolTake (by_ : AskBy)
  | poolGive (master : Nat) (v : W32)
  | poolFree (master : Nat) (v : W32)
  | engReturn (master : Nat) (v : W32)
  -- inspection engine
  | frameHandoff (f : Nat)
  | lineTimeout (s : Nat)
  | lineProcess (s : Nat)
  | flushUsExpiry (s kind : Nat)
  | strmCmd (master s : Nat) (v : W32)
  | enginePoolRetry
  | enginePushAccepted (q : Nat)
  | modelMemoryWrite (master addr : Nat) (data : List Byte)
  | streamDrained (s : Nat)
  -- DMA
  | dmaRun (master ch : Nat) (v : W32)
  | dmaStop (master ch : Nat) (v : W32)
  | dmaStopComplete (ch : Nat)
  | dmaReset (master ch : Nat)
  | dmaBeat (e : Nat)
  | dmaDescriptorComplete (ch : Nat)
  -- event router
  | eventFiring (n : Nat)
  | deliveryStart (n : Nat)
  | deliveryConfirm (n : Nat)
  | deliveryResend (n : Nat)
  | deliveryTimeout (n : Nat)
  | holdIntervalEnd (g : Nat)
  | evrTgt (master n : Nat) (v : W32)
  | evrFired (master w : Nat) (v : W32)
  | evrHold (master g : Nat) (v : W32)
  -- time unit
  | secondTick
  | timeNs (master size : Nat)
  | timeAonLo (master lag : Nat)
  | timeCommitAbsolute (master : Nat)
  | timeCommitRelative (master : Nat)
  | commitApply
  | timeRate (master : Nat) (v : W32)
  | slewEnd
  | alarmFire (k : Nat)
  | arm (master k : Nat) (v : W32)
  | releaseAlarm (master k : Nat)
  | aonCalibration (measured : Nat)
  | relock
  | syncLost
  -- field I/O
  | pinInputChange (n mv : Nat)
  | deglitchExpiry (n : Nat)
  | pinCfg (master n : Nat) (v : W32)
  | pinSet (master w : Nat) (v : W32)
  | pinClr (master w : Nat) (v : W32)
  | vioLoss (b mv : Nat)
  | timerBoundary (n : Nat)
  | timerCompareMatch (n : Nat)
  | chainedAction (n : Nat)
  | timerCapture (n : Nat)
  | tmrShadowWrite (master n : Nat) (reg : Fin 3) (v : W32)
  | tmrCnt (master n : Nat) (v : W32)
  | tmrCtl (master n : Nat) (v : W32)
  | serTx (master e : Nat) (v : W32)
  | serRx (by_ : AskBy) (e : Nat)
  | serCtl (master e : Nat) (v : W32)
  | serialUnitDone (e : Nat) (u : SerUnit)
  -- faults and resets
  | lineJudgeStall (u : StallUnit)
  | responseTimeout (by_ : Requester) (tag : Nat)
  | invalidCode (u : StallUnit)
  | scrubVisit (m : ScrubMem) (word : Nat) (single : Bool)
  | refereeOutvote (k : Fin 3)
  | lockstepMismatch
  | refereeMajorityLoss
  | supplyOutOfRange (r : Rail)
  | referenceClockLoss
  | temperatureRead (readings : List Int)
  | tileSubstitution (t : Nat) (copyBad : Bool)
  | courtSubstitution (c : Nat)
  | duplexPromotion (t : Nat)
  | coldStart (c : ColdStart)
  | deviceRestart
  | managementRestart (c : Restart MgmtCause)
  | courtRestart (c : CourtRestart)
  | tileRestart (p : Restart Nat)
  -- pace and power
  | paceLoop (readings : List Nat)
  | paceAlarm (c : Nat)
  | powerEstimate (mw : Nat)
  | courtPark (c : Nat)
  | pmbusPoll (ok : Poll) (vout iout temp : Nat)
  | pmbAlertN (fault : Bool)
  | regulatorRetry (ok : Bool)
  | placementRefresh (busy : List Nat)
  | islandWake (i : Nat)
  -- fabric
  | rateDetectTurn (f : Nat)
  | portUp (p : Nat) (h : Heartbeat)
  | laneLoss (p : Nat) (lane : Fin 2)
  | laneRestore (p : Nat)
  | req (p : Nat) (k : Packet)
  | rsp (p : Nat) (k : Packet)
  | beacon (p : Nat) (k : Packet) (residence : Nat)
  | link (p : Nat) (k : LinkPkt)
  | heartbeat (p : Nat) (h : Heartbeat)
  | replayTimeout (p : Nat)
  | replayLimit (p : Nat)
  | heartbeatSend
  | neighbourSilent (p : Nat)
  | statusSend
  | status (a : MemberIn) (number : Nat)
  | confirm (a : MemberIn) (number cap epoch noticeSeq : Nat)
  | redirect (a : MemberIn) (captain : Nat)
  | notice (a : MemberIn) (seq : Nat) (b : NoticeSays)
  | sentOff (a : MemberIn)
  | takeover (a : TakeoverIn)
  | membershipUnconfirmed
  | candidateMove
  | captainQuorumLoss
  | fabricSubstitution (d : Nat) (standby : Option (Nat × List Nat))
  | beaconSend
  | delayExchange (p : Nat) (t1 t2 t3 t4 : Int)
  | linkWakeRequest (p : Nat)
  -- mailboxes
  | mbxDoorbell (master dev m : Nat) (v : W32)
  | mbxAbort (master dev m : Nat)
  | mbxTake (by_ : AskBy) (dev m : Nat)
  | mbxGive (master dev m : Nat)
  | holderExpiry (m : Nat)
  | commandTake (m : Nat)
  | deadlineExpiry (m : Nat)
  | hwAborted (m : Nat)
  -- mailbox commands
  | getIdentity (m : Nat)
  | getCapabilities (m : Nat)
  | echo (m : Nat)
  | abort (m : Nat)
  | loadTileImage (m : Nat)
  | startTile (m : Nat)
  | stopTile (m : Nat)
  | setPaceTarget (m : Nat)
  | setPowerCap (m : Nat)
  | loadDecodeTable (m : Nat)
  | claim (m : Nat)
  | release (m : Nat)
  | queryOwner (m : Nat)
  | grantWindowOpen (m : Nat)
  | grantWindowClose (m : Nat)
  | updateBegin (m : Nat) (fuseOk : Bool)
  | updateChunk (m : Nat)
  | updateVerify (m : Nat)
  | updateActivate (m : Nat)
  | updateConfirm (m : Nat)
  | updateStatus (m : Nat)
  | updateCancel (m : Nat)
  | calReadFactory (m : Nat)
  | calWriteUser (m : Nat)
  | calApply (m : Nat)
  | calRevert (m : Nat)
  | calRecordWrite
  | faultLogRead (m : Nat)
  | substituteTile (m : Nat) (copyBad : Bool)
  | readmitTile (m : Nat) (pass : Bool)
  | setDuplex (m : Nat)
  | sendOff (m : Nat)
  | timeSet (m : Nat)
  | timeAdjustRate (m : Nat)
  | timeAdjustSlew (m : Nat)
  | timeSyncMode (m : Nat)
  | powerStateSet (m : Nat)
  | drizzleProgram (m : Nat)
  | wakeRecordRead (m : Nat)
  | modelLoad (m : Nat)
  | modelLoadValidate (m : Nat)
  | modelSwitch (m : Nat)
  | streamConfigure (m : Nat)
  | streamEnable (m : Nat)
  | streamStop (m : Nat)
  | feedRuleLoad (m : Nat)
  | fabricJoin (m : Nat)
  | fabricLeave (m : Nat)
  | fabricRouteSet (m : Nat)
  | fabricMembers (m : Nat)
  | authChallenge (m : Nat)
  | authResponse (m : Nat)
  | debugEnable (m : Nat)
  | logRead (m : Nat)
  | countersRead (m : Nat)
  -- power states
  | wakeInput (w : WakeBy)
  | sleepExit
  | drizzleCycle (rx : List (List Byte))
  | drizzleWaitEnd (rx : List (List Byte))
  -- boot and update in the background
  | trialSelfTest (pass : Bool)
  | backgroundErase
  -- ports
  | frameReceived (f : Nat) (k : Frame)
  | hostAccess (a : HostAcc)
  | msixSend (v : Nat)
  | functionLevelReset (c : FlrCause)
  | serviceBulkCommand (bytes : List Byte)
  | vendorAbort
  | vendorState
  | busReset (r : BusReset)
  -- debug
  | dbgAccess (op space : Fin 4) (addr : Nat) (data : W32)
  | frostEnter
  | frostLeave
  | debugLine14 (t : Nat)
  | debugHalt (t : Nat)
  | debugResume (t : Nat)
  | debugStep (t : Nat)
  | dbgPatchAddr (u : Fin 16) (v : W32)
  | tapReset
  | testInstructionReplaced (ir : Nat)
  -- registers without a row of their own
  | rcRead (by_ : AskBy) (addr : Nat)
  | registerWrite (by_ : RegBy) (addr : Nat) (v : W32)
  -- supplies, links, USB, tags
  | vioRise (b mv : Nat)
  | supplyRestored (r : Rail)
  | powerLoss
  | aonOscillatorStop
  | feedBlockLock (f : Nat) (fast : Bool)
  | feedLinkDown (f : Nat)
  | hostLinkUp (gen width : Nat)
  | configurationSpaceWrite (w : CfgWrite)
  | vbusRise
  | setConfiguration
  | suspend (on : Bool)
  | tagRestExpiry (by_ : Requester) (tag : Nat)
  | fullTables (a : MemberIn) (caps : List (Nat × Nat)) (sets : FabSets) (seq : Nat)
  deriving DecidableEq, Repr

end Sys2Proof
end

