-- ==== Sys2Proof/Decode.lean ====
section
/-! DEFINITION. Words of the opcode table.  The table gives no row any bits, so no word spells a command;
the byte encoding of the tile instructions stands in Machine/TileCode.lean. -/

namespace Sys2Proof

/-- The command that a word spells by the table's bits: none, for every word. -/
def decodeTableWord (_nbits _w : Nat) : Option Instr := none

end Sys2Proof
end

