-- ==== Sys2Proof/Config.lean ====
section
/-! DEFINITION. What one part holds in OTP or leaves open: opaque functions, with no value to evaluate.
Every one is named in the assumption log (log 5 for free values, log 18 for OTP contents and cryptography). -/

namespace Sys2Proof.Config

/-- A fresh 16-bit value the manual leaves undefined (T0-T3 under R126); applied to State.free. -/
opaque freeWord : Nat → BitVec 16
/-- A fresh byte the manual leaves undefined (the overlap of a DMA copy); applied to State.free. -/
opaque freeByte : Nat → BitVec 8
/-- A fresh number the manual leaves open (a fresh challenge byte of R479 is taken from it). -/
opaque freeNat : Nat → Nat
/-- SERIAL of R401, from OTP. -/
opaque serial : BitVec 64
/-- FW_VERSION of the firmware in a bank (R401). -/
opaque fwVersion : Nat → BitVec 32
/-- The first 16 bytes of HMAC-SHA-256 under the OTP debug key (R479). -/
opaque debugMac : List (BitVec 8) → Vector (BitVec 8) 16
/-- The hash of a public key in an OTP key slot (R417). -/
opaque keyHash : Nat → Vector (BitVec 8) 32
/-- Whether a signature is a valid ECDSA P-256 signature by a public key over a SHA-256 hash (R417). -/
opaque ecdsaP256 : (pubkey hash signature : List (BitVec 8)) → Bool
/-- The ROLLBACK value of the image a bank holds at manufacture (R416, R418). -/
opaque factoryRollback : Nat → Fin 64
/-- The REVOKE value of the image a bank holds at manufacture (R418). -/
opaque factoryRevoke : Nat → Nat
/-- Factory calibration values of an item (R431), 16 bits each. -/
opaque factoryCal : Nat → Nat → BitVec 16
/-- Proportion of a pace correction: rail steps of 5 mV for each 1 % of error (R41). -/
opaque railGain : Nat
/-- The VOUT_COMMAND data word for a voltage in mV in a VID mode, which the regulator's VID table gives (R39). -/
opaque vidWord : (mode : BitVec 8) → (mv : Nat) → BitVec 16
/-- A firmware log entry's text (R403 LOG_READ, R471), by State.free. -/
opaque logText : Nat → List (BitVec 8)
/-- The line of text that the console shows of a log entry: sequence, code and text (R471). -/
opaque consoleLine : (seq code : Nat) → List (BitVec 8) → List (BitVec 8)
/-- The IPv4 link-local address that RFC 3927 draws from a seed at its n-th try, as an offset from 169.254.1.0
(R461). -/
opaque linkLocal : (seed : BitVec 64) → (try_ : Nat) → Fin 65024
/-- Words of 4 bytes after the header of a capability record whose layout R402 does not give, by record ID. -/
opaque capWords : Nat → Fin 39
/-- FLAGS.VOLATILE of such a record (R400). -/
opaque capVolatile : Nat → Bool
/-- Byte `i` after the header of such a record, from the numbers that the record carries (R402). -/
opaque capField : (id : Nat) → (carried : List Nat) → (i : Nat) → BitVec 8

/-- The payload of a MEMBER packet, whose bytes the spec does not lay out (R349). -/
opaque memberBytes : MemberBody → List (BitVec 8)

end Sys2Proof.Config
end

