-- ==== Sys2Proof/Machine/State.lean ====
section
/-! DEFINITION. The state of the OJ1024 as plain data.  A list of (number, value) pairs stands for a
table; an unlisted number holds the table's Cold value.  Memories are lists of Host.Cell. -/

namespace Sys2Proof.Machine

/-- A table by number; unlisted entries hold the table's Cold value. -/
abbrev Table (α : Type) := List (Nat × α)

/-- A memory: cells at rising addresses, none equal to what an unlisted byte reads as. -/
abbrev Mem := List Host.Cell

/-- The status byte's fields (R61). -/
structure Flags where
  c : Bool := false
  h : Bool := false
  v : Bool := false
  n : Bool := false
  z : Bool := false
  deriving DecidableEq, Repr

/-- Where a load writes back (R69). -/
inductive LoadDest where
  | data (r : Fin 16) | pair (r : Fin 16) | ptr (r : Fin 8)
  deriving DecidableEq, Repr

/-- A load in its memory/writeback step (R69). -/
structure LoadWb where
  dest : LoadDest
  val  : W16
  deriving DecidableEq, Repr

/-- What a tile's core is doing: `halted` after a double trap (R86), `dbgHalted` by DBG_TILE (R488),
`resetWait` at the reset vector until the firmware has applied the kept entries (R138). -/
inductive RunState where
  | stopped | running | sleeping | halted | dbgHalted | resetWait
  deriving DecidableEq, Repr

/-- A request that a tile's interface holds outstanding (R157 to R159); `since` is the tick of its last issue. -/
structure SendReq where
  tag    : Nat
  op     : Nat
  desc   : W16
  len    : Nat
  target : Nat
  loc    : W16
  notify : Bool
  resends : Nat
  since  : Nat
  final  : Option Nat
  deriving DecidableEq, Repr

/-- One physical tile (R59, R77, R157).  `resting` gives the tick at which a tag's rest began (R170); `waiting`
is the instruction that waits for a reply and has not retired (R111), as its opcode and operands; `dblAt` is the tick
of the last double trap (R325). -/
structure Tile where
  d : Vector Byte 16 := Vector.replicate 16 0
  p : Vector W16 8 := Vector.replicate 8 0
  g : Vector Bool 8 := Vector.replicate 8 false
  fl : Flags := {}
  pc : W16 := 0
  rs : Vector W16 8 := Vector.replicate 8 0
  rsTop : Fin 8 := 0
  rsDepth : Nat := 0
  rsTrap : Bool := false
  rsIdx : Fin 8 := 0
  pend : W16 := 0
  en : W16 := 0x2000
  act : W16 := 0
  evOn : Bool := false
  inh : Bool := false
  chain : Bool := false
  vec : W16 := 0x0010
  spc : W16 := 0
  sst : Byte := 0
  dbl : Bool := false
  dblAt : Nat := 0
  cause : Nat := 0
  trapArg : Byte := 0
  staged : Table Byte := []
  rxBase : W16 := 0
  rxLog : Nat := 0
  rxHead : W16 := 0
  rxTail : W16 := 0
  pcnt : W32 := 0
  pcntSnap : W32 := 0
  pcmp : W32 := 0
  cntOn : Bool := false
  cmpOn : Bool := false
  pcHit : Bool := false
  dtsel : Byte := 0
  shadow : Table W24 := []
  active : Table (List W24) := []
  dtValid : W16 := 0
  task : Byte := 0xFF
  taskRun : Bool := false
  run : RunState := .stopped
  wb : Option LoadWb := none
  prefetch : Table W32 := []
  mem : Mem := []
  bad : List Nat := []
  fixes : Table (List Nat) := []
  opnum : W16 := 0
  nextTag : Nat := 0
  sends : List SendReq := []
  resting : Table Nat := []
  waiting : Option (List Nat) := none
  dbgSlept : Bool := false
  strayResp : Nat := 0
  deriving DecidableEq, Repr

/-- What a gate compares of a duplex request (R336): kind, target and payload. -/
structure ReqSig where
  kind : MsgKind
  dev  : Nat
  space : Nat
  addr : Nat
  crc  : W16
  deriving DecidableEq, Repr

/-- A duplex pair (R333 to R337). -/
structure Duplex where
  primary : Nat
  partner : Nat
  auto    : Bool
  nPrim   : Nat
  nPart   : Nat
  log     : Table ReqSig
  held    : Table (ReqSig × Nat)
  outcomes : Table (Nat × List Byte)
  tags    : Table Nat
  nDone   : Nat
  deriving DecidableEq, Repr

/-- What the court gates hold (R165), with the fences and retirements of R329, R330. -/
structure Gates where
  map     : Table (Option Nat) := []
  serves  : Table (Option Nat) := []
  caps    : Table Nat := []
  fenced  : List Nat := []
  retired : List Nat := []
  offCount : Table Nat := []
  drops   : Table Nat := []
  duplex  : Table Duplex := []
  catchUp : Table Duplex := []
  deriving DecidableEq, Repr

/-- An 8-byte result record (R174). -/
structure Result where
  res  : Byte := 0
  data : W32 := 0
  opnum : W16 := 0
  deriving DecidableEq, Repr

/-- The last action read of a register, for R176: SRC_ID, SRC_PHYS, TAG and the outcome bytes. -/
structure LastRead where
  srcId : Nat
  srcPhys : Nat
  tag : Nat
  outcome : Nat
  deriving DecidableEq, Repr

/-- A hardware queue (R177 to R188). Sticky and enable bits: 0 NONEMPTY, 1 FULL, 2 EMPTY, 3 TAIL,
4 REFUSED. -/
structure Queue where
  fill : List W32 := []
  drain : List W32 := []
  en : BitVec 5 := 0
  sticky : BitVec 5 := 0
  pushCnt : W32 := 0
  popCnt : W32 := 0
  refCnt : Nat := 0
  tailSwap : Bool := false
  tailLimit : Nat := 0
  tailStart : Option Nat := none
  line10 : Bool := false
  give : Bool := false
  owner : Nat := 0x4FF
  results : Table Result := []
  lastReads : List LastRead := []
  deriving DecidableEq, Repr

/-- Slot states of R189. -/
inductive SlotState where
  | unset | idle | ready | running | cancelling
  deriving DecidableEq, Repr

/-- A task slot (R189, R195, R197). -/
structure Slot where
  st : SlotState := .unset
  tile : Nat := 0xFF
  again : Bool := false
  cls : Nat := 0
  prio : Nat := 0
  readyAt : Nat := 0
  cancelAt : Nat := 0
  cancelLimit : Nat := 0
  deriving DecidableEq, Repr

/-- A court dispatcher (R189 to R197). -/
structure Disp where
  en : Bool := false
  place : Nat := 0
  cancelLimit : Nat := 10
  tiles : BitVec 64 := 0
  classes : Table (BitVec 64) := []
  race : Nat := 0
  discard : Nat := 0
  expired : Nat := 0
  slots : Table Slot := []
  readySeq : Nat := 0
  lastPos : Nat := 63
  results : Table Result := []
  deriving DecidableEq, Repr

/-- The buffer pool (R198 to R201).  Buffers `fresh` to 2,047 have never been taken; `freed` lists the
others that are free, oldest first. -/
structure Pool where
  owner : Table Nat := []
  gen : Table Nat := []
  fresh : Nat := 0
  freed : List Nat := []
  reserve : Nat := 0x40
  low : Nat := 0x80
  err : BitVec 5 := 0
  evctl : BitVec 5 := 7
  cntDouble : Nat := 0
  cntForeign : Nat := 0
  cntStale : Nat := 0
  cntEmpty : Nat := 0
  offender : W32 := 0
  enginePushed : List Nat := []
  lastReads : List LastRead := []
  deriving DecidableEq, Repr

/-- What tells a request of one master from another: SRC_ID, SRC_PHYS, SRC device and TAG. -/
structure ReqKey where
  srcId : Nat
  srcPhys : Nat
  srcDev : Nat
  tag : Nat
  deriving DecidableEq, Repr

/-- The key of a request. -/
def keyOf (m : Msg) : ReqKey := ⟨m.srcId, m.srcPhys, m.srcDev, m.tag⟩

/-- A grant window (R404); while it closes, the accesses that it had accepted (R28). -/
structure Window where
  num : Nat
  master : Nat
  dev : Nat
  rw : Bool
  slot : Nat
  base : Nat
  size : Nat
  closing : Bool
  accepted : List ReqKey := []
  deriving DecidableEq, Repr

/-- Device time with its unknown mark, as stamped on frames and records. -/
structure Stamp where
  sec : Nat := 0
  ns : Nat := 0
  unknown : Bool := false
  deriving DecidableEq, Repr

/-- Stream states of R203. -/
inductive StreamState where
  | off | armed | running | draining | error
  deriving DecidableEq, Repr

/-- Parameters of R204. -/
structure StreamParams where
  pixels : Nat := 1
  bands : Nat := 1
  bil : Bool := false
  pixOff : Bool := false
  left : Bool := false
  little : Bool := false
  container : Nat := 2
  bits : Nat := 16
  lineWidth : Nat := 32
  window : Nat := 2
  lineTimeout : Nat := 2000
  maxSpan : Nat := 65535
  itemQuota : Nat := 64
  itemQ : Nat := 272
  histQ : Nat := 273
  statusQ : Nat := 274
  flushUs : Nat := 0
  lineRate : Nat := 1
  deriving DecidableEq, Repr

/-- A line being assembled or waiting in the backlog (R207, R209): sample values by index in
pixel-major order. -/
structure LineBuf where
  line : Nat
  samples : Table Nat := []
  bufs : List Nat := []
  stamp : Stamp := {}
  firstAt : Nat := 0
  deriving DecidableEq, Repr

/-- A run of foreground pixels and the item it belongs to, if any (R213, R215). -/
structure Run where
  a : Nat
  b : Nat
  item : Option Nat
  deriving DecidableEq, Repr

/-- An item accumulator (R217). Flag bits as R219; `bank` is the model bank under which it was opened. -/
structure Item where
  num : Nat
  first : Nat
  last : Nat
  xMin : Nat
  xMax : Nat
  area : Nat := 0
  sumX : Nat := 0
  sumDl : Nat := 0
  sums : List Int := []
  sumSq : Nat := 0
  sqMin : Int := 0
  sqMax : Int := 0
  cnts : List Nat := []
  sat : Nat := 0
  merges : Nat := 0
  flags : BitVec 16 := 0
  stamp : Stamp := {}
  bank : Nat := 0
  deriving DecidableEq, Repr

/-- One histogram strip (R220, R221). -/
structure HistStrip where
  bins : Table Nat := []
  sum : Int := 0
  count : Nat := 0
  min : Int := 0
  max : Int := 0
  sat : Bool := false
  deriving DecidableEq, Repr

/-- A histogram period (R220). -/
structure HistPeriod where
  strips : Table HistStrip := []
  first : Option Nat := none
  released : Nat := 0
  lines : Nat := 0
  gap : Bool := false
  deriving DecidableEq, Repr

/-- An open record buffer (R223). -/
structure RecBuf where
  handle : Nat
  count : Nat
  since : Nat
  deriving DecidableEq, Repr

/-- Counters of R238 for one stream. -/
structure StreamCnt where
  late : Nat := 0
  badPkt : Nat := 0
  missing : Nat := 0
  incomplete : Nat := 0
  dropped : Nat := 0
  itemOvf : Nat := 0
  runOvf : Nat := 0
  clip : Nat := 0
  stall : Nat := 0
  deriving DecidableEq, Repr

/-- One stream of the inspection engine (R203 to R238): `flushDue` marks a push of its buffers that waits, and
`endLine` is the line after the last released when a stop came. -/
structure Stream where
  st : StreamState := .off
  configured : Bool := false
  par : StreamParams := {}
  l0 : Option Nat := none
  prevLine : Nat := 0
  opens : List LineBuf := []
  backlog : List LineBuf := []
  line : Nat := 0
  swLine : Nat := 0
  closed : Nat := 0
  cnt : StreamCnt := {}
  nextItem : Nat := 1
  items : List Item := []
  runs : List Run := []
  splitRuns : List Run := []
  missRun : Nat := 0
  hist : HistPeriod := {}
  pendingStatus : List (Nat × Nat × Nat) := []
  recs : Table RecBuf := []
  switchAt : Option Nat := none
  switched : Bool := false
  begun : Bool := false
  stopPacked : Bool := false
  flushDue : Bool := false
  endLine : Option Nat := none
  deriving DecidableEq, Repr

/-- A record that waits for a buffer or a full buffer that waits for a queue (R226). -/
structure HeldPush where
  queue : Nat
  entry : W32
  deriving DecidableEq, Repr

/-- A record waiting for a pool buffer (R226): stream, kind and its 128 bytes. -/
structure HeldRec where
  stream : Nat
  kind : Nat
  bytes : List Byte
  deriving DecidableEq, Repr

/-- The inspection engine (R203 to R238). -/
structure Engine where
  streams : Table Stream := []
  homeBank : Nat := 0
  homeValid : Bool := false
  homeId : Nat := 0
  awayValid : Bool := false
  awayId : Nat := 0
  switching : Bool := false
  err : Byte := 0
  retOff : W32 := 0
  noStream : Nat := 0
  eccAddr : Nat := 0
  heldPush : List HeldPush := []
  heldRec : List HeldRec := []
  waitSince : Option Nat := none
  retryAt : Nat := 0
  halted : Bool := false
  mem : Mem := []
  bad : List Nat := []
  deriving DecidableEq, Repr

/-- A DMA descriptor's fields (R243). -/
structure Desc where
  src : Nat := 0
  dst : Nat := 0
  len : Nat := 0
  ctl : BitVec 16 := 0
  next : Nat := 0
  deriving DecidableEq, Repr

/-- What a DMA channel is doing: fetching a descriptor, moving its bytes, or writing its status back. -/
inductive ChanPhase where
  | idle | fetch | move | writeBack
  deriving DecidableEq, Repr

/-- A DMA request that has no response yet: its message, the offset of its first byte in the descriptor, and
its resends (R156). -/
structure DmaReq where
  msg : Msg
  off : Nat
  resends : Nat
  since : Nat
  deriving DecidableEq, Repr

/-- A DMA channel (R241 to R253).  `endSt` is the status with which the descriptor is to end; `ends` says that
it had completed when a stop was requested (R255); `inbox` holds source data that the mover has not yet copied into
staging, `failOff` the lowest offset of a write that failed; `rseq` and `wseq` number reads and writes for their tags. -/
structure Chan where
  evErr : Bool := true
  prio : Nat := 0
  busy : Bool := false
  stopping : Bool := false
  preempted : Bool := false
  last : Nat := 0
  ownErr : Bool := false
  err : Bool := false
  stopped : Bool := false
  done : Bool := false
  descAddr : Nat := 0
  cur : Nat := 0
  remain : Nat := 0
  confirmed : Nat := 0
  owner : Nat := 0x4FF
  desc : Desc := {}
  phase : ChanPhase := .idle
  staging : List Byte := []
  written : Nat := 0
  rd : Option DmaReq := none
  unacked : List DmaReq := []
  inbox : List Byte := []
  failOff : Option Nat := none
  rseq : Nat := 0
  wseq : Nat := 0
  endSt : Option Nat := none
  ends : Bool := false
  deriving DecidableEq, Repr

/-- A DMA engine (R247, R251, R253).  `turns` holds, by priority, the channel whose turn it is and the beats left of
its burst. -/
structure DmaEngine where
  resting : Table Nat := []
  beats : W32 := 0
  turns : Table (Nat × Nat) := []
  fenced : Bool := false
  halted : Bool := false
  deriving DecidableEq, Repr

/-- An event source (R258, R265, R271); `resentAt` is the tick of the last send of its EVENT message and `resends`
counts those of R156. -/
structure Src where
  pend : Bool := false
  act : Bool := false
  owner : Nat := 0x4FF
  fires : BitVec 16 := 0
  fired : Bool := false
  kind : Nat := 0
  tile : Nat := 0
  line : Nat := 0
  vector : Nat := 0
  sentAt : Nat := 0
  retry : Bool := false
  sentKind : Nat := 0
  sentTile : Nat := 0
  sentLine : Nat := 0
  resentAt : Nat := 0
  resends : Nat := 0
  deriving DecidableEq, Repr

/-- A group's hold-off (R263). -/
structure Hold where
  us : Nat := 0
  start : Option Nat := none
  last : Nat := 15
  deriving DecidableEq, Repr

/-- The event router (R256 to R272). -/
structure Router where
  src : Table Src := []
  hold : Table Hold := []
  err : BitVec 4 := 0
  offender : W32 := 0
  lost : Nat := 0
  deliv : W32 := 0
  wakeCfg : W32 := 0
  watch : Table W32 := []
  deriving DecidableEq, Repr

/-- A time alarm (R279, R280). -/
structure Alarm where
  ns : Nat := 0
  sec : Nat := 0
  period : Nat := 0
  armed : Bool := false
  owner : Nat := 0x4FF
  late : Bool := false
  stepped : Bool := false
  fired : Bool := false
  byStep : Bool := false
  converted : Bool := false
  deriving DecidableEq, Repr

/-- A staged commit (R276). -/
structure Commit where
  absolute : Bool
  sec : Nat
  ns : Nat
  deriving DecidableEq, Repr

/-- The time unit (R273 to R291). -/
structure TimeUnit where
  sec : Nat := 0
  ns : Nat := 0
  frac : Nat := 0
  rate : Int := 0
  newRate : Option Int := none
  slewLeft : Int := 0
  slewOn : Bool := false
  unknown : Bool := true
  carried : Bool := false
  holdover : Bool := false
  syncLost : Bool := false
  mode : Nat := 0
  unc : W32 := 0
  err : BitVec 3 := 0
  owner : Nat := 0x400
  newNs : Nat := 0
  newSec : Nat := 0
  commit : Option Commit := none
  stepCnt : W32 := 0
  snapSec : Nat := 0
  alarms : Table Alarm := []
  syncTimeout : Nat := 3
  lastSync : Nat := 0
  ptpPort : Nat := 0
  ptpOpts : Nat := 0
  deriving DecidableEq, Repr

/-- One fault-log record (R324). -/
structure FaultRec where
  ns : Nat
  sec : Nat
  unknown : Bool
  deferred : Bool
  source : Nat
  unit : Nat
  logical : Nat
  oldCap : Nat
  newCap : Nat
  action : Nat
  arg : Nat
  seq : Nat
  deriving DecidableEq, Repr

/-- A Drizzle step (R447). -/
structure DrizStep where
  op : Nat
  a : Nat
  b : Nat
  n : Nat
  arg : W32
  deriving DecidableEq, Repr

/-- A Drizzle program with the kept pin settings (R446, R448). -/
structure Drizzle where
  period : Nat
  slots : List (Nat × List Nat × W32 × W32)
  steps : List DrizStep
  pins : Table W32
  deriving DecidableEq, Repr

/-- The wake record (R445); `state` 0 means cleared. -/
structure WakeRec where
  state : Nat := 0
  kind : Nat := 0
  code : Nat := 0
  race : Nat := 0
  ns : Nat := 0
  sec : Nat := 0
  unknown : Bool := false
  carried : Bool := false
  slept : Nat := 0
  cycles : Nat := 0
  overruns : Nat := 0
  regs : List W32 := []
  deriving DecidableEq, Repr

/-- The always-on domain (R282, R284, R324, R445, R447); PIN_SAFE stands with the pins. -/
structure Aon where
  count : Nat := 0
  phase : Nat := 0
  rate : Nat := 2000000000
  anchorSec : Nat := 0
  anchorNs : Nat := 0
  anchorCount : Nat := 0
  snapHi : Nat := 0
  lastLo : Nat := 0
  oscStopped : Bool := false
  log : List FaultRec := []
  nextSeq : Nat := 0
  wake : WakeRec := {}
  drizzle : Option Drizzle := none
  sregs : Table W32 := []
  deriving DecidableEq, Repr

/-- Causes that hold a pin in its safe state (R300). -/
inductive SafeCause where
  | restart | thermal | sendOff | membership | frost | sleep | released
  deriving DecidableEq, Repr

/-- A field pin (R293 to R301, R313).  `padMv` is the pad's voltage as the board last gave it, and `contended` the level
that the pin drove against it then (R511).  `drizzleOut` is the level that the Drizzle sequencer drives, and `drizzleHiZ`
says that it lets the pin float (R447, R449). -/
structure Pin where
  cfg : W32 := 0x00300C00
  owner : Nat := 0x4FF
  dgl : Nat := 0
  edges : BitVec 16 := 0
  level : Bool := false
  recv : Bool := false
  recvAt : Nat := 0
  padMv : Nat := 0
  trackMv : Option Nat := none
  trackHi : Nat := 0
  trackLo : Nat := 0
  trackAt : Nat := 0
  safeLevel : Nat := 0
  safeFrost : Bool := false
  causes : List SafeCause := []
  configured : Bool := false
  contended : Option Bool := none
  drizzleOut : Option Bool := none
  drizzleHiZ : Bool := false
  deriving DecidableEq, Repr

/-- An I/O bank's supply (R296, R496): BANK_STAT.VIO and the supply level in mV. -/
structure Bank where
  vio : Nat := 0
  mv : Nat := 0
  deriving DecidableEq, Repr

/-- What a chained action does (R305). -/
inductive ChainAct where
  | start | stop | reset
  deriving DecidableEq, Repr

/-- A timer channel (R302 to R308). -/
structure Timer where
  run : Bool := false
  updlock : Bool := false
  mode : Nat := 0
  prescale : Nat := 0
  evsel : BitVec 4 := 0
  count : Nat := 0
  top : Nat := 0xFFFFFFFF
  cmpa : Nat := 0
  cmpb : Nat := 0
  sTop : Nat := 0xFFFFFFFF
  sCmpa : Nat := 0
  sCmpb : Nat := 0
  wTop : Bool := false
  wCmpa : Bool := false
  wCmpb : Bool := false
  act : W32 := 0
  chain : W32 := 0
  capcfg : W32 := 0
  cap : Nat := 0
  capCnt : BitVec 16 := 0
  capUnread : Bool := false
  stMatch : Bool := false
  stBound : Bool := false
  stCap : Bool := false
  stCapOvr : Bool := false
  down : Bool := false
  out : Bool := false
  owner : Nat := 0x4FF
  presc : Nat := 0
  due : List (ChainAct × Nat) := []
  frozen : Bool := false
  entered : Bool := false
  capDue : Bool := false
  deriving DecidableEq, Repr

/-- A serial engine (R309 to R312). Sticky bits: 0 parity, 1 framing, 2 arbitration lost, 3 NACK,
4 RX overflow, 5 TXREF.  `held` says that an I2C transaction is open or that SPI's CS is held low (R309, R310), and
`mosi` is the bit that MOSI rests at, and `sent` holds what each unit put on signals 0 and 1 (R309). -/
structure Ser where
  ctl : W32 := 0
  rate : W32 := 0
  tx : List W32 := []
  rx : List W32 := []
  sticky : BitVec 6 := 0
  busy : Bool := false
  held : Bool := false
  mosi : Bool := false
  owner : Nat := 0x4FF
  frozen : Bool := false
  sent : List (List (Bool × Bool)) := []
  deriving DecidableEq, Repr

/-- The field I/O unit (R292 to R313).  `xfers` lists what the Drizzle sequencer's XFER steps have sent, with the serial
engine (R447), and `lag` is how far the spread clock lags, in thousandths of a period (R48). -/
structure FieldIo where
  pins : Table Pin := []
  banks : Table Bank := []
  timers : Table Timer := []
  serial : Table Ser := []
  err : BitVec 3 := 0
  offender : W32 := 0
  xfers : List (Nat × List Byte) := []
  lag : Nat := 0
  deriving DecidableEq, Repr

/-- Why the device is held in device restart (R46, R322, R323). -/
inductive HeldRestart where
  | thermal | supply (r : Rail) | sendOff | power
  deriving DecidableEq, Repr

/-- Steps 3 to 6 of a substitution that wait for the firmware (R328): the logical tile, its old physical tile, whether
the copy fails, and the ACTION of its record. -/
structure Deferred where
  t : Nat
  old : Nat
  copyBad : Bool
  action : Nat
  deriving DecidableEq, Repr

/-- Referee and recovery bookkeeping (R319 to R338).  `held` lists the causes that hold the device in its restart, and
`tripped` says that source 24 is to fire once the restart completes (R46, R322, R323).  `deadPorts` are physical tiles
whose memory port does not answer (R326).  `deferred`, `releaseDue`, `rePairs` and `moversDue` wait for the firmware: substitutions,
the claims of logical tiles without a spare, duplex tiles to pair again, and DMA engines to fence (R318, R328, R332,
R333).  `absorb` says that the next device restart was requested together with a cold start (R15). -/
structure Faults where
  outvoted : Table (List Nat) := []
  disabled : List Nat := []
  lastMismatch : Option Nat := none
  doubleAt : Table Nat := []
  held : List HeldRestart := []
  tripped : Bool := false
  backupOsc : Bool := false
  deadPorts : List Nat := []
  deferred : List Deferred := []
  releaseDue : List Nat := []
  rePairs : List (Nat × Bool) := []
  moversDue : List Nat := []
  hardWords : Table (List Nat) := []
  bufFixes : Table (List Nat) := []
  mgmtFixes : Table (List Nat) := []
  modelFixes : Table (List Nat) := []
  badBuf : List Nat := []
  badMgmt : List Nat := []
  sentSelfOff : Bool := false
  absorb : Bool := false
  deriving DecidableEq, Repr

/-- Pace and rail of one court, or of the engine as number 17 (R41 to R44): paces in thousands per second,
rails and body bias in mV (R38, R434); `need` is the voltage that the target needs, which a parked court keeps (R36), and `ramp` the voltage to
which the rail is on its way (R44, R58); `trim` is the delta in mV that its regulator is trimmed by (R431). -/
structure Court where
  target : Nat := 600000
  eff : Nat := 600000
  rail : Nat := 800
  need : Nat := 800
  parkMv : Nat := 500
  parkUs : Nat := 1000
  parked : Bool := false
  ramp : Option Nat := none
  bias : Int := 0
  meters : List Nat := [600000, 600000, 600000, 600000]
  belowSince : Option Nat := none
  alarmed : Bool := false
  okSince : Option Nat := none
  lullSince : Option Nat := none
  trim : Int := 0
  deriving DecidableEq, Repr

/-- PMBus commands to the external regulator (R39). -/
inductive PmbCmd where
  | operation (on : Bool) | voutMode | voutCommand (mv : Nat) | readVout | readIout | readTemperature
  | statusWord | clearFaults
  deriving DecidableEq, Repr

/-- A PMBus transaction: the regulator's address, the command, and the packet error code that the device appends to what
it writes; on a read the regulator appends its own (R39). -/
structure PmbTx where
  addr : Nat
  cmd : PmbCmd
  pec : Option Byte
  deriving DecidableEq, Repr

/-- The power and pace controller (R36 to R57).  `okVdd` is the setpoint that the regulator last reported to have
reached within 10 mV, `pmbMode` is its VOUT_MODE byte, read once at start-up while `modeDue` (log 124), `pmbSent` lists
the PMBus transactions, and `spread` the islands whose clock is spread (R48).
`stoppedIslands` have a stopped clock that can start, `wakeAsked` those that an access has asked to start, and in `resync`
both sides of the crossing have yet to resynchronise their FIFO pointers (R51 to R53). -/
structure Pace where
  courts : Table Court := []
  vddCin : Nat := 950
  capTenths : Nat := 450
  floorM : Nat := 160
  estimate : Nat := 0
  capping : Bool := false
  temps : List Int := List.replicate 21 250
  warned : Bool := false
  pmbFails : Nat := 0
  silent : Bool := false
  retryAt : Nat := 0
  okVdd : Nat := 950
  pmbMode : Byte := 0x17
  modeDue : Bool := false
  pmbSent : List PmbTx :=
    [⟨0x40, .operation true, some 0x97⟩, ⟨0x40, .voutMode, none⟩, ⟨0x40, .voutCommand 950, some 0x23⟩]
  pmbVout : Nat := 950
  pmbIout : Nat := 0
  pmbTemp : Nat := 0
  placeTemps : List Int := []
  placePaces : List Nat := []
  placeBusy : List Nat := []
  stoppedIslands : List Nat := []
  wakeAsked : List Nat := []
  resync : List Nat := []
  spread : List Nat := []
  deriving DecidableEq, Repr

/-- A link port (R343 to R353, R363, R380).  `tx` holds the transmit settings that its lanes were trained with (R431). -/
structure LinkPort where
  up : Bool := false
  heldDown : Bool := false
  lanes : Nat := 0
  lostLane : Option Nat := none
  lostAt : Nat := 0
  txSeq : Nat := 0
  rxSeq : Nat := 0
  replay : List Packet := []
  replays : Nat := 0
  progressAt : Nat := 0
  sentUnits : Table Nat := []
  freed : Table Nat := []
  rxFreed : Table Nat := []
  nakSent : Bool := false
  wantAck : Bool := false
  nbDevice : Nat := 0
  nbState : Nat := 3
  nbCap : Nat := 0
  nbCaptain : Nat := 0
  nbConfig : Nat := 0
  lastBeat : Nat := 0
  silent : Bool := false
  delay : Int := 0
  delayAt : Nat := 0
  tx : List Int := []
  dropBad : Nat := 0
  queued : List Packet := []
  sentBeat : Option Heartbeat := none
  deriving DecidableEq, Repr

/-- A request that the hub serves for another device (R355): the on-chip tag, the delivering port, the
packet and its resends. -/
structure HubServe where
  tag : Nat
  port : Nat
  packet : Packet
  resends : Nat
  since : Nat
  deriving DecidableEq, Repr

/-- What the hub records against an FTAG (R355). -/
structure FtagRec where
  dst : Nat
  srcId : Nat
  srcPhys : Nat
  tag : Nat
  cap : Nat
  parent : Nat
  part : Nat
  parts : Nat
  deriving DecidableEq, Repr

/-- A split remote request still in progress (R355). -/
structure RemoteReq where
  id : Nat
  full : Nat := 0
  srcId : Nat
  srcPhys : Nat
  tag : Nat
  cap : Nat
  statuses : Table Nat
  datas : Table (List Byte)
  parts : Nat
  isRead : Bool
  deriving DecidableEq, Repr

/-- A standby entry of FABRIC_JOIN (R364, R374, R375). -/
structure Standby where
  member : Nat
  courts : List Nat
  streams : Nat
  deriving DecidableEq, Repr

/-- The alias of a substituted device (R374). -/
structure AliasRec where
  dev : Nat
  host : Nat
  courts : List Nat
  deriving DecidableEq, Repr

/-- A routing override (R360). -/
structure Override where
  number : Nat
  mask : Nat
  port : Nat
  deriving DecidableEq, Repr

/-- The link hub and the fabric membership (R355 to R380).  `sent` holds the bytes of every packet that left, by port
(R347); `beats` holds the heartbeats, with the tick at which each left; `fwDue` holds the MEMBER packets, by port and
source, that wait for the firmware (R366). -/
structure Fabric where
  ports : Table LinkPort := []
  ftags : Table FtagRec := []
  remotes : List RemoteReq := []
  nextFtag : Nat := 0
  nextRemote : Nat := 0
  nextHubTag : Nat := 0
  hubResting : Table Nat := []
  overrides : List Override := []
  caps : Table Nat := []
  out : List Nat := []
  gone : List Nat := []
  aliases : List AliasRec := []
  dropped : Nat := 0
  sentOffAt : Table Nat := []
  joined : Bool := false
  everConfirmed : Bool := false
  unconfirmed : Bool := false
  configId : Nat := 0
  nx : Nat := 1
  ny : Nat := 1
  wrapX : Bool := false
  wrapY : Bool := false
  members : List Nat := []
  statusPeriod : Nat := 1000
  holdUs : Nat := 5000
  standby : List Standby := []
  candidate : Nat := 0
  captain : Option Nat := none
  isCaptain : Bool := false
  epoch : Nat := 0
  noticeSeq : Nat := 0
  statusNo : Nat := 0
  unanswered : Nat := 0
  sentStatus : Table Nat := []
  confirmedAt : Nat := 0
  gotStatus : Table Nat := []
  electedAt : Nat := 0
  needTables : Bool := false
  announced : List Nat := []
  silentDevs : Table Nat := []
  fwDue : List (Nat × Nat × MemberBody) := []
  takeovers : List Nat := []
  beaconSeq : Nat := 0
  lastBeacon : Option Nat := none
  sent : List (Nat × List Byte) := []
  beats : List (Nat × Nat × List Byte) := []
  beatAt : Nat := 0
  statusAt : Nat := 0
  beaconAt : Nat := 0
  serving : List HubServe := []
  joinBox : Option Nat := none
  joinAt : Nat := 0
  routeDue : Option (List Override) := none
  badType : Nat := 0
  deriving DecidableEq, Repr

/-- A mailbox (R383 to R398). STATE: 0 Idle, 1 Queued, 2 Running, 3 Complete. -/
structure Mbx where
  cmd : Mem := []
  resp : Mem := []
  st : Nat := 0
  tag : Nat := 0
  aborting : Bool := false
  overrun : Bool := false
  locked : Bool := false
  foreign : Bool := false
  expired : Bool := false
  holder : Option (Nat × Nat) := none
  holderCap : Nat := 0
  bellAt : Nat := 0
  lastAct : Nat := 0
  endAs : Option Nat := none
  abortAt : Nat := 0
  stops : Nat := 0
  lastReads : List LastRead := []
  deriving DecidableEq, Repr

/-- An entry of the firmware's log (R403 LOG_READ, R471). -/
structure LogEntry where
  seq : Nat
  code : Nat
  text : List Byte
  deriving DecidableEq, Repr

/-- The management side (R22, R387, R396, R399). -/
structure Mgmt where
  boxes : Table Mbx := []
  up : Bool := true
  restarting : Bool := false
  restartAt : Nat := 0
  otherBank : Bool := false
  trial : Bool := false
  bank : Nat := 0
  restarts : BitVec 16 := 0
  hwAborts : Nat := 0
  recovery : Bool := false
  mem : Mem := []
  windows : List Window := []
  updateBox : Option Nat := none
  calBox : Option Nat := none
  modelBox : Option Nat := none
  hostErrors : Nat := 0
  log : List LogEntry := []
  deriving DecidableEq, Repr

/-- A journal record whose header is valid, with its marks as they read in flash (R414). STATE: 0 CONFIRMED,
1 DOWNLOADING, 2 ACTIVATING. -/
structure Journal where
  seq : Nat := 0
  state : Nat := 0
  active : Nat := 0
  fallback : Bool := false
  reverted : Bool := false
  imageLen : Nat := 0
  sectorMarks : BitVec 64 := BitVec.allOnes 64
  trialMarks : List Byte := [0xFF, 0xFF, 0xFF]
  confirmMark : Byte := 0xFF
  revertMark : Byte := 0xFF
  deriving DecidableEq, Repr

/-- The boot record's fields (R413). -/
structure BootRec where
  pmbAddr : Nat := 0x40
  ref : Nat := 0
  spread : Nat := 0
  hostConfirm : Bool := false
  stallTile : Nat := 20
  stallArray : Nat := 20
  stallResp : Nat := 20
  stallCross : Nat := 20
  device : Nat := 0
  deriving DecidableEq, Repr

/-- Flash, OTP fuses, update and calibration (R409 to R432).  `copy0` and `copy1` are the boot record copies as they read
in flash, `bootRec` what the boot ROM took from them; the pairs `journal`, `cal`, `fault` and `dir` are the alternating
records of R411 on the two devices, none where no valid record stands: their sequence numbers with the overlay if one
is active, the retired tiles, and the device whose slot rules for each logical tile; `slots` holds the tile images,
by 1,024 × device + tile; `absent` lists the devices that cannot be read; `eff` is the overlay that the units hold. -/
structure Boot where
  bootRec : BootRec := {}
  copy0 : Mem := []
  copy1 : Mem := []
  absent : List Nat := []
  journal0 : Option Journal := none
  journal1 : Option Journal := none
  bank0 : Mem := []
  bank1 : Mem := []
  factory : List Nat := [0]
  erased : List Nat := []
  verified : Bool := false
  trialPassed : Bool := false
  acked : Nat := 0
  antiRoll : Nat := 0
  revoked : List Nat := []
  fault0 : Option (Nat × List Nat) := none
  fault1 : Option (Nat × List Nat) := none
  dir0 : Option (Nat × Table Nat) := none
  dir1 : Option (Nat × Table Nat) := none
  slots : Table Mem := []
  keptEntries : Table (Table (List W24)) := []
  staged : Option (Table (List Int)) := none
  overlay : Table (List Int) := []
  overlayOn : Bool := false
  recordDue : Option Nat := none
  cal0 : Option (Nat × Option (Table (List Int))) := none
  cal1 : Option (Nat × Option (Table (List Int))) := none
  eff : Table (List Int) := []
  deriving DecidableEq, Repr

/-- Device power states (R434). -/
inductive PState where
  | run | doldrums | drizzle | off
  deriving DecidableEq, Repr

/-- Sleep entry, wakes and Drizzle cycles (R438 to R451).  `ticks` counts 5 ns since the response that
precedes entry (State.now stands still in a sleep state); `wake` is the KIND and CODE of the wake that came
first; `base` is the always-on counter at the end of entry, `nextCycle` the ticks from there to the next Drizzle cycle,
`waitEnd` the tick at which a Drizzle WAIT ends, and `engines` what the serial engines of a cycle's slots held when they
stopped (R445, R449). -/
structure Power where
  st : PState := .run
  emulated : Bool := false
  keepOsc : Bool := false
  ticks : Nat := 0
  base : Nat := 0
  wake : Option (Nat × Nat) := none
  race : Nat := 0
  latched : List Nat := []
  slept : Nat := 0
  cycles : Nat := 0
  overruns : Nat := 0
  nextCycle : Nat := 0
  inCycle : Bool := false
  step : Nat := 0
  waitEnd : Option Nat := none
  engines : List (Nat × Ser) := []
  deriving DecidableEq, Repr

/-- A header-match rule (R456). -/
structure Rule where
  dest : Nat := 0
  stream : Nat := 0
  queue : Nat := 0
  lineOff : Nat := 0
  offOff : Nat := 0
  idOff : Nat := 0xFF
  little : Bool := false
  off32 : Bool := false
  payOff : Nat := 14
  templ : List Byte := []
  mask : List Byte := []
  deriving DecidableEq, Repr

/-- A matched frame on its way to a stream (R205, R458). -/
structure Handoff where
  sid : Nat
  handle : Nat
  payPos : Nat
  payLen : Nat
  lineRaw : Nat
  offset : Nat
  stamp : Stamp
  deriving DecidableEq, Repr

/-- What the firmware transmits on a feed port (R461): messages of IEEE 1588, and the ARP traffic of the link-local
address, named by its offset from 169.254.1.0. -/
inductive FeedTxKind where
  | announce | sync | followUp | delayReq | delayResp
  | arpProbe (addr : Nat) | arpAnnounce (addr : Nat) | arpReply (addr : Nat)
  deriving DecidableEq, Repr

/-- A frame sent on a feed port, with its transmit timestamp (R461, R462). -/
structure FeedTx where
  kind : FeedTxKind
  stamp : Stamp
  deriving DecidableEq, Repr

/-- A feed port (R453 to R463).  `ptpSync` holds the sequence number and receive time of the last Sync, `ptpReq` the times
T1 to T3 of a delay exchange under way, `pathDelay` its last result, all in ns (R287); `turnAt` is when the rate being
tried was begun (R453), and `tx` the transmit settings in use (R431).  `fifo` holds frames received behind one that is held back (R455), with
their time stamps. -/
structure Feed where
  sent : List FeedTx := []
  ptpAt : Nat := 0
  llTry : Nat := 0
  llStep : Nat := 0
  llAt : Nat := 0
  ptpSync : Option (Nat × Int) := none
  ptpReq : Option (Int × Int × Int) := none
  pathDelay : Int := 0
  turnAt : Nat := 0
  tx : List Int := []
  up : Bool := false
  fast : Bool := true
  rules : Table Rule := []
  counts : Table Nat := []
  handoffs : List Handoff := []
  toFirmware : List Nat := []
  heldPush : Option (Nat × W32) := none
  fifo : List (List Byte × Stamp) := []
  deriving DecidableEq, Repr

/-- A host access that is a request on the chip (R466): its message, the host's own tag, the offset in its BAR, the bytes
that a read wants, and its resends (R156). -/
structure HostReq where
  msg : Msg
  pcie : Nat
  off : Nat
  size : Nat
  resends : Nat
  since : Nat
  deriving DecidableEq, Repr

/-- The host port (R464 to R469).  `outs` holds its requests that have no response yet; `done` lists the
completions it has sent, by the host's tag, and `unsupported` the tags of reads that it answered as Unsupported Request.
`table` holds the message addresses and data of the MSI-X table, `msgs` the messages sent; `aer` is AER's uncorrectable
error status and `aspm` says that ASPM L1 is enabled (log 142). -/
structure HostPort where
  outs : List HostReq := []
  nextTag : Nat := 0
  resting : Table Nat := []
  done : List (Nat × List Byte) := []
  linkUp : Bool := false
  gen : Nat := 0
  width : Nat := 0
  d3hot : Bool := false
  msix : Bool := false
  fmask : Bool := false
  bme : Bool := false
  unmasked : List Nat := []
  pba : List Nat := []
  sent : Table Nat := []
  table : Mem := []
  msgs : List (Nat × Nat) := []
  unsupported : List Nat := []
  aer : W32 := 0
  aspm : Bool := false
  deriving DecidableEq, Repr

/-- The service port (R470 to R474): the response kept for endpoint 0x82, the transfers sent there and what
bRequest 0x02 last returned, the console's lines, the transfers on endpoint 0x83, and whether the bus runs at high speed. -/
structure Service where
  vbus : Bool := false
  configured : Bool := false
  suspended : Bool := false
  kept : List Byte := []
  transfers : Nat := 0
  stateRead : List Byte := []
  console : List (List Byte) := []
  consoleSeq : Nat := 0
  traceOut : List (List Byte) := []
  high : Bool := false
  deriving DecidableEq, Repr

/-- One debug path (R479, R480). -/
structure DbgPath where
  granted : Nat := 0
  level : Nat := 0
  challenge : Option (Nat × List Byte × Nat) := none
  misses : List Nat := []
  refusedUntil : Nat := 0
  jtag : Bool := false
  trace : Bool := false
  deriving DecidableEq, Repr

/-- A patch unit (R490). -/
structure Patch where
  addr : W32 := 0
  data : W32 := 0
  deriving DecidableEq, Repr

/-- The debug block, trace and TAP (R479 to R493).  `traceBytes` is what the trace pins carried last.  `haltDue` lists the tiles that a debugger has asked to halt at their next
boundary; `wantFrost` holds the requests to enter (true) or leave
frost that are not yet carried out, oldest first. -/
structure Debug where
  dbg : DbgPath := {}
  svc : DbgPath := {}
  trigEn : Bool := false
  trigSrc : Nat := 0
  req : Bool := false
  frost : Bool := false
  wantFrost : List Bool := []
  haltDue : List Nat := []
  tile : Nat := 0
  refused : Bool := false
  stimEn : W32 := 0
  frostAt : Nat := 0
  traceCtl : BitVec 3 := 0
  drops : Nat := 0
  dropsUnsent : Nat := 0
  fifo : List Byte := []
  traceBytes : List Byte := []
  patches : Table Patch := []
  accStatus : Nat := 0
  accData : W32 := 0
  ir : Nat := 0x01
  testMode : Bool := false
  nextTag : Nat := 0
  deriving DecidableEq, Repr

/-- The block.  `now` counts ticks of 5 ns outside the sleep states and `wall` all of them. -/
structure State where
  pending : List Instr := []
  now : Nat := 0
  wall : Nat := 0
  free : Nat := 0
  tiles : Table Tile := []
  gates : Gates := {}
  flight : List Msg := []
  replies : List Resp := []
  queues : Table Queue := []
  disps : Table Disp := []
  pool : Pool := {}
  bufMem : Mem := []
  engine : Engine := {}
  chans : Table Chan := []
  dmaEng : Table DmaEngine := []
  router : Router := {}
  time : TimeUnit := {}
  aon : Aon := {}
  fio : FieldIo := {}
  faults : Faults := {}
  pace : Pace := {}
  fabric : Fabric := {}
  mgmt : Mgmt := {}
  boot : Boot := {}
  power : Power := {}
  feeds : Table Feed := []
  host : HostPort := {}
  service : Service := {}
  dbgBlock : Debug := {}
  deriving DecidableEq, Repr

/-- A step that stops with a fault. -/
inductive Fault where
  /-- Raised by a command that names a tile, queue, slot, stream, channel, pin, port or mailbox the spec
  says does not exist (log 3): safe. -/
  | noSuchUnit
  deriving DecidableEq, Repr

/-- A step that gives a command no meaning. -/
inductive Refusal where
  /-- Raised by an arm of exec whose command has no meaning yet: safe. -/
  | notModelled (mnemonic : String)
  deriving DecidableEq, Repr

/-- Targets that the firmware sets before it accepts the first command (R267), as (source, KIND,
vector), in rising order of source. -/
def State.bootTargets : List (Nat × Nat × Nat) :=
  ((List.range 32).map fun n => (n, 2, 0)) ++ [(53, 2, 0)] ++
  ((List.range 8).flatMap fun m =>
    (80 + 2 * m, 2, 0) :: (if m < 2 then [(81 + 2 * m, 3, m)] else []))

/-- The router with the targets of R267 and Cold values elsewhere; owner is the firmware. -/
def Router.booted : Router :=
  { src := State.bootTargets.map fun e =>
      (e.1, { kind := e.2.1, vector := e.2.2, owner := 0x400 }) }

/-- The machine right after reset: Cold values of every table (R11), the boot sequence of R419 done
and the firmware accepting commands (log 9). The router's table is R267's. -/
def State.reset : State := { router := Router.booted }

end Sys2Proof.Machine
end

