-- ==== Sys2Proof/Machine/Ops.lean ====
section
/-! DEFINITION. The named operations over tables, bit fields, memories and bytes, the lookups of every
unit in the state, event firing (R257), fault reports (R324) and trace packets (R491). -/

namespace Sys2Proof.Machine

/-! ### Tables -/

/-- The entry of number `k`, or the Cold value `d`. -/
def tget {α : Type} (d : α) (k : Nat) : Table α → α
  | [] => d
  | (j, v) :: r => if j = k then v else tget d k r

/-- Set entry `k`, keeping numbers rising. -/
def tput {α : Type} (k : Nat) (v : α) : Table α → Table α
  | [] => [(k, v)]
  | (j, w) :: r =>
    if j = k then (k, v) :: r
    else if k < j then (k, v) :: (j, w) :: r
    else (j, w) :: tput k v r

/-- Forget entry `k`. -/
def tdel {α : Type} (k : Nat) (m : Table α) : Table α := m.filter fun e => e.1 != k

/-- The entry of number `k`, if listed. -/
def tfind? {α : Type} (k : Nat) : Table α → Option α
  | [] => none
  | (j, v) :: r => if j = k then some v else tfind? k r

/-! ### Numbers, fields and bytes (R3, R5) -/

/-- The field of `w` bits from bit `lo` of a number. -/
def bitsOf (v lo w : Nat) : Nat := v / 2 ^ lo % 2 ^ w
/-- Bit `i` of a number. -/
def bitAt (v i : Nat) : Bool := v / 2 ^ i % 2 == 1
/-- The field of `w` bits from bit `lo` of a register (R3). -/
def fld (v : W32) (lo w : Nat) : Nat := bitsOf v.toNat lo w
/-- Bit `i` of a register. -/
def bitq (v : W32) (i : Nat) : Bool := v.getLsbD i
/-- A Bool as a bit. -/
def b2n (b : Bool) : Nat := if b then 1 else 0
/-- A register value. -/
def w32 (n : Nat) : W32 := BitVec.ofNat 32 n
/-- Two's-complement value of `n` in `w` bits. -/
def sint (w n : Nat) : Int :=
  let m := n % 2 ^ w
  if m < 2 ^ (w - 1) then (m : Int) else (m : Int) - (2 ^ w : Nat)
/-- `i` as an unsigned number of `w` bits. -/
def uint (w : Nat) (i : Int) : Nat := (i % ((2 ^ w : Nat) : Int)).toNat

/-- `k` bytes of `n`, least significant first (R5). -/
def leBytes (n : Nat) : Nat → List Byte
  | 0 => []
  | k + 1 => BitVec.ofNat 8 n :: leBytes (n / 256) k
/-- The number that bytes spell, least significant first (R5). -/
def leNum : List Byte → Nat
  | [] => 0
  | b :: r => b.toNat + 256 * leNum r
/-- The number that bytes spell, most significant first. -/
def beNum (bs : List Byte) : Nat := leNum bs.reverse
/-- Bytes `a` to `a + n - 1` of a list, zero past its end. -/
def sliceB (bs : List Byte) (a n : Nat) : List Byte :=
  (List.range n).map fun i => (bs[a + i]?).getD 0
/-- Little-endian number at bytes `a` to `a + n - 1`. -/
def leAt (bs : List Byte) (a n : Nat) : Nat := leNum (sliceB bs a n)

/-- Saturating increment at `cap`. -/
def satInc (cap n : Nat) : Nat := if n < cap then n + 1 else cap
/-- Counters of 16 bits that saturate (R188, R197, R201). -/
def inc16 (n : Nat) : Nat := satInc 0xFFFF n
/-- Counters that hold at 0xFFFF_FFFF (R238). -/
def inc32 (n : Nat) : Nat := satInc 0xFFFFFFFF n
/-- A saturating addition at 0xFFFF_FFFF. -/
def add32 (n k : Nat) : Nat := min 0xFFFFFFFF (n + k)

/-! ### Memories -/

/-- The byte at `a`; `d` where nothing is listed. -/
def memGet (d : Byte) (a : Nat) : Mem → Byte
  | [] => d
  | (b, v) :: r => if b = a then v else memGet d a r

/-- Store a byte, keeping the canonical form: addresses rising, no entry equal to `d`. -/
def memPut (d : Byte) (a : Nat) (v : Byte) : Mem → Mem
  | [] => if v = d then [] else [(a, v)]
  | (b, w) :: r =>
    if b = a then (if v = d then r else (a, v) :: r)
    else if a < b then (if v = d then (b, w) :: r else (a, v) :: (b, w) :: r)
    else (b, w) :: memPut d a v r

/-- Addresses from `lo` on rise strictly and no entry equals `d`. -/
def Mem.wfFrom (d : Byte) : Nat → Mem → Bool
  | _, [] => true
  | lo, (a, v) :: r => decide (lo ≤ a) && v != d && Mem.wfFrom d (a + 1) r

/-- The canonical form of a memory whose unlisted bytes read as `d`. -/
def Memory.wf (d : Byte) (m : Mem) : Bool := Mem.wfFrom d 0 m

/-- `n` bytes from `a`. -/
def memRead (d : Byte) (m : Mem) (a n : Nat) : List Byte :=
  (List.range n).map fun i => memGet d (a + i) m

/-- Store bytes from `a` on. -/
def memWrite (d : Byte) (m : Mem) (a : Nat) : List Byte → Mem
  | [] => m
  | b :: r => memWrite d (memPut d a b m) (a + 1) r

/-! ### CRC (R148, R414) -/

/-- One byte of the CRC-16 of R148: polynomial 0x1021, most significant bit first. -/
def crc16Byte (c : W16) (b : Byte) : W16 :=
  (List.range 8).foldl (fun c _ => if c.msb then (c <<< 1) ^^^ 0x1021 else c <<< 1)
    (c ^^^ ((b.zeroExtend 16) <<< 8))

/-- The CRC-16 of R148: initial value 0xFFFF, no reflection, no final XOR. -/
def crc16 (bs : List Byte) : W16 := bs.foldl crc16Byte 0xFFFF

/-- One byte of the IEEE 802.3 CRC-32 (reflected, 0xEDB8_8320). -/
def crc32Byte (c : W32) (b : Byte) : W32 :=
  (List.range 8).foldl (fun c _ => if c.getLsbD 0 then (c >>> 1) ^^^ 0xEDB88320 else c >>> 1)
    (c ^^^ b.zeroExtend 32)

/-- The IEEE 802.3 CRC-32 of bytes (R228, R413, R414). -/
def crc32 (bs : List Byte) : W32 := ~~~ (bs.foldl crc32Byte 0xFFFFFFFF)

/-! ### Packets on the wire (R347 to R349) -/

/-- The 128-bit header of a packet, least significant byte first (R348); of TYPE 2 and 3, bits [127:66] are zero. -/
def pktHeader (k : Packet) : List Byte :=
  let low := k.typ % 16 + k.vc % 8 * 2 ^ 4 + k.seq % 4096 * 2 ^ 8 + k.dst % 2 ^ 14 * 2 ^ 20 +
    k.src % 2 ^ 14 * 2 ^ 34 + k.dcap % 256 * 2 ^ 48 + k.len % 1024 * 2 ^ 56
  let high := k.kind % 16 * 2 ^ 66 + k.ftag % 4096 * 2 ^ 70 + k.srcId % 4096 * 2 ^ 82 + k.space % 2 * 2 ^ 94 +
    k.addr % 2 ^ 32 * 2 ^ 96
  leBytes (low + if k.typ = 2 ∨ k.typ = 3 then 0 else high) 16

/-- A packet as its bytes follow on the lanes: header, payload, and the CRC-32 over both, least significant byte
first (R347). -/
def framed (header payload : List Byte) : List Byte :=
  header ++ payload ++ leBytes (crc32 (header ++ payload)).toNat 4

/-- A sequenced packet on the wire. -/
def pktWire (k : Packet) : List Byte := framed (pktHeader k) k.data

/-- A LINK packet on the wire (R349). -/
def linkWire (k : LinkPkt) : List Byte :=
  framed (leBytes (8 + k.ackSeq % 4096 * 2 ^ 8 + b2n k.nak * 2 ^ 20 +
    ((List.range 8).map fun v => (k.credits[v]?).getD 0 % 4096 * 2 ^ (24 + 12 * v)).foldl (· + ·) 0) 16) []

/-- A HEARTBEAT packet on the wire (R349). -/
def beatWire (h : Heartbeat) : List Byte :=
  framed (leBytes (9 + h.device % 2 ^ 14 * 2 ^ 8 + h.dcap % 256 * 2 ^ 22 + h.port % 4 * 2 ^ 30 +
    h.state % 4 * 2 ^ 32 + h.captain % 2 ^ 14 * 2 ^ 34 + h.configId % 2 ^ 32 * 2 ^ 48) 16) []

/-! ### Outcomes -/

/-- The outcome of a meaning. -/
abbrev Out := Host.Outcome State Fault Refusal

/-- The next state, when the command names units that exist (log 3). -/
def ok (exists_ : Bool) (s : State) : Out := if exists_ then .next s else .fault .noSuchUnit

/-- `s'` when the happening's conditions hold in `s`, else `s` unchanged (log 2). -/
def when_ (c : Bool) (s' s : State) : State := if c then s' else s

/-! ### Units of the state -/

/-- Physical tile `p`. -/
def State.tile (s : State) (p : Nat) : Tile := tget {} p s.tiles
/-- Replace physical tile `p`. -/
def State.setTile (s : State) (p : Nat) (t : Tile) : State := { s with tiles := tput p t s.tiles }
/-- Queue `q`. -/
def State.queue (s : State) (q : Nat) : Queue := tget {} q s.queues
/-- Replace queue `q`. -/
def State.setQueue (s : State) (q : Nat) (v : Queue) : State :=
  { s with queues := tput q v s.queues }
/-- Dispatcher of court `c`. -/
def State.disp (s : State) (c : Nat) : Disp := tget {} c s.disps
/-- Replace the dispatcher of court `c`. -/
def State.setDisp (s : State) (c : Nat) (v : Disp) : State := { s with disps := tput c v s.disps }
/-- Stream `k` of the engine; its Cold queues are 272 + 3s and the next two (R204). -/
def State.stream (s : State) (k : Nat) : Stream :=
  tget { par := { itemQ := 272 + 3 * k, histQ := 273 + 3 * k, statusQ := 274 + 3 * k } } k
    s.engine.streams
/-- Replace stream `k`. -/
def State.setStream (s : State) (k : Nat) (v : Stream) : State :=
  { s with engine := { s.engine with streams := tput k v s.engine.streams } }
/-- DMA channel 8e + k. -/
def State.chan (s : State) (ch : Nat) : Chan := tget {} ch s.chans
/-- Replace a DMA channel. -/
def State.setChan (s : State) (ch : Nat) (v : Chan) : State := { s with chans := tput ch v s.chans }
/-- DMA engine `e`. -/
def State.dmaE (s : State) (e : Nat) : DmaEngine := tget {} e s.dmaEng
/-- Replace a DMA engine. -/
def State.setDmaE (s : State) (e : Nat) (v : DmaEngine) : State :=
  { s with dmaEng := tput e v s.dmaEng }
/-- Event source `n`. -/
def State.src (s : State) (n : Nat) : Src := tget {} n s.router.src
/-- Replace event source `n`. -/
def State.setSrc (s : State) (n : Nat) (v : Src) : State :=
  { s with router := { s.router with src := tput n v s.router.src } }
/-- Hold-off of group `g`. -/
def State.hold (s : State) (g : Nat) : Hold := tget {} g s.router.hold
/-- Replace the hold-off of group `g`. -/
def State.setHold (s : State) (g : Nat) (v : Hold) : State :=
  { s with router := { s.router with hold := tput g v s.router.hold } }
/-- Alarm `k`. -/
def State.alarm (s : State) (k : Nat) : Alarm := tget {} k s.time.alarms
/-- Replace alarm `k`. -/
def State.setAlarm (s : State) (k : Nat) (v : Alarm) : State :=
  { s with time := { s.time with alarms := tput k v s.time.alarms } }
/-- Field pin `n`. -/
def State.pin (s : State) (n : Nat) : Pin := tget {} n s.fio.pins
/-- Replace field pin `n`. -/
def State.setPin (s : State) (n : Nat) (v : Pin) : State :=
  { s with fio := { s.fio with pins := tput n v s.fio.pins } }
/-- Timer channel `n`. -/
def State.timer (s : State) (n : Nat) : Timer := tget {} n s.fio.timers
/-- Replace timer channel `n`. -/
def State.setTimer (s : State) (n : Nat) (v : Timer) : State :=
  { s with fio := { s.fio with timers := tput n v s.fio.timers } }
/-- Serial engine `e`. -/
def State.ser (s : State) (e : Nat) : Ser := tget {} e s.fio.serial
/-- Replace serial engine `e`. -/
def State.setSer (s : State) (e : Nat) (v : Ser) : State :=
  { s with fio := { s.fio with serial := tput e v s.fio.serial } }
/-- I/O bank `b`. -/
def State.bank (s : State) (b : Nat) : Bank := tget {} b s.fio.banks
/-- Replace I/O bank `b`. -/
def State.setBank (s : State) (b : Nat) (v : Bank) : State :=
  { s with fio := { s.fio with banks := tput b v s.fio.banks } }
/-- The Cold pace record of a court, or of the engine (17), whose default target is 800 M (R43). -/
def courtCold (c : Nat) : Court :=
  if c = 17 then { target := 800000, eff := 800000, rail := 900, need := 900, meters := [800000, 800000] } else {}
/-- Court `c`, or the engine as 17. -/
def State.court (s : State) (c : Nat) : Court := tget (courtCold c) c s.pace.courts
/-- Replace a court's pace record. -/
def State.setCourt (s : State) (c : Nat) (v : Court) : State :=
  { s with pace := { s.pace with courts := tput c v s.pace.courts } }
/-- Mailbox `m`. -/
def State.mbx (s : State) (m : Nat) : Mbx := tget {} m s.mgmt.boxes
/-- Replace mailbox `m`. -/
def State.setMbx (s : State) (m : Nat) (v : Mbx) : State :=
  { s with mgmt := { s.mgmt with boxes := tput m v s.mgmt.boxes } }
/-- Link port `p`. -/
def State.port (s : State) (p : Nat) : LinkPort := tget {} p s.fabric.ports
/-- Replace link port `p`. -/
def State.setPort (s : State) (p : Nat) (v : LinkPort) : State :=
  { s with fabric := { s.fabric with ports := tput p v s.fabric.ports } }
/-- Feed port `f`. -/
def State.feed (s : State) (f : Nat) : Feed := tget {} f s.feeds
/-- A feed port loses its link: detection begins again at 25.78125 GBd (R453). -/
def Feed.linkDown (v : Feed) (now : Nat) : Feed :=
  { v with up := false, fast := true, turnAt := now, ptpSync := none, ptpReq := none }
/-- The rate tried on feed port `f` has had its 2 ms without block lock (R453). -/
def State.turnDue (s : State) (f : Nat) : Bool :=
  !(s.feed f).up && !s.faults.backupOsc && decide ((s.feed f).turnAt + 400000 ≤ s.now)
/-- Replace feed port `f`. -/
def State.setFeed (s : State) (f : Nat) (v : Feed) : State := { s with feeds := tput f v s.feeds }

/-- Own device number (R358, R413). -/
def State.device (s : State) : Nat := s.boot.bootRec.device

/-- This device's own cap (R371). -/
def State.ownDcap (s : State) : Nat := tget 1 s.device s.fabric.caps

/-- This device's heartbeat on port `p` (R349, R363). -/
def State.beat (s : State) (p : Nat) : Heartbeat :=
  { device := s.device, dcap := s.ownDcap, port := p
    state := if s.faults.sentSelfOff then 2 else if !s.fabric.joined then 3
      else if s.fabric.unconfirmed then 1 else 0
    captain := s.fabric.captain.getD 0, configId := s.fabric.configId }

/-- Ticks of 5 ns in `us` microseconds. -/
def usTicks (us : Nat) : Nat := us * 200
/-- Whole microseconds since tick `t`. -/
def State.usSince (s : State) (t : Nat) : Nat := (s.now - t) / 200

/-! ### Tiles, maps and caps (R17, R18, R139, R165) -/

/-- The physical tile that serves logical tile `t`, if any. -/
def State.physOf (s : State) (t : Nat) : Option Nat := tget (some t) t s.gates.map
/-- The logical tile that physical tile `p` serves, if any; bench tiles serve none at reset. -/
def State.logicalOf (s : State) (p : Nat) : Option Nat :=
  tget (if p < 1024 then some p else none) p s.gates.serves
/-- The cap of logical tile `t` (R165: 0x01 at cold start). -/
def State.capOf (s : State) (t : Nat) : Nat := tget 1 t s.gates.caps
/-- The next cap: old plus one, 0xFF followed by 0x01 (R165, R371). -/
def nextCap (c : Nat) : Nat := if c ≥ 0xFF then 1 else c + 1
/-- Whether physical tile `p` is fenced (R166). -/
def State.isFenced (s : State) (p : Nat) : Bool := s.gates.fenced.contains p
/-- The duplex pair that physical tile `p` belongs to, with its logical tile (R333). -/
def State.duplexOf (s : State) (p : Nat) : Option (Nat × Duplex) :=
  s.gates.duplex.find? fun e => e.2.primary == p || e.2.partner == p
/-- A bench tile that serves nothing, is healthy and no partner (R325, R330). -/
def State.isFreeSpare (s : State) (p : Nat) : Bool :=
  decide (p < 1088) && (s.logicalOf p).isNone && !s.isFenced p && !s.gates.retired.contains p &&
    (s.duplexOf p).isNone
/-- The free spares in rising order: bench tiles and readmitted tiles. -/
def State.freeSpares (s : State) : List Nat := (List.range 1088).filter s.isFreeSpare

/-- Set a local event line pending at a tile (R79, R80). -/
def Tile.raise (t : Tile) (line : Nat) : Tile := { t with pend := t.pend ||| (1 <<< line) }
/-- Set a local event line pending at physical tile `p`. -/
def State.setLine (s : State) (p line : Nat) : State := s.setTile p ((s.tile p).raise line)
/-- Set a line pending at the physical tile of logical tile `t`, and at its partner if it is duplex
(R334). -/
def State.setLineL (s : State) (t line : Nat) : State :=
  match s.physOf t with
  | none => s
  | some p =>
    let s1 := s.setLine p line
    match tfind? t s.gates.duplex with
    | some d => s1.setLine d.partner line
    | none => s1

/-! ### Time stamps -/

/-- Device time now, with its unknown mark (R273, R274). -/
def State.stamp (s : State) : Stamp :=
  { sec := s.time.sec, ns := s.time.ns, unknown := s.time.unknown }

/-- The device is held in a device restart (R46, R322, R323). -/
def State.inHold (s : State) : Bool := !s.faults.held.isEmpty

/-- The device works: it is powered, outside the sleep states or in one that a debugger emulates, and held in no
restart (R322, R323, R434, R489). -/
def State.live (s : State) : Bool := (s.power.st == .run || s.power.emulated) && !s.inHold

/-- The device is in Run and held in no restart. -/
def State.running (s : State) : Bool := s.power.st == .run && !s.inHold

/-- The field I/O unit has power: in Run, and during a Drizzle cycle (R434). -/
def State.ioRuns (s : State) : Bool := !s.inHold && (s.power.st == .run || s.power.inCycle)

/-! ### Event firing (R257, R258) -/

/-- What one firing does to a source. -/
def Src.fire (v : Src) : Src :=
  { v with fires := v.fires + 1, fired := true, pend := v.pend || v.kind != 0 }

/-- A request to enter or leave frost, unless the last one asked the same (R486). -/
def State.askFrost (s : State) (on : Bool) : State :=
  let d := s.dbgBlock
  if d.wantFrost.getLast?.getD d.frost = on then s
  else { s with dbgBlock := { d with wantFrost := d.wantFrost ++ [on] } }

/-- Sources that a chapter marks reserved: they never fire (R47, R256, R291, R316, R469, R474). -/
def reservedSource (n : Nat) : Bool :=
  decide (26 ≤ n ∧ n < 32) || decide (55 ≤ n ∧ n < 64) || decide (76 ≤ n ∧ n < 80) || decide (293 ≤ n ∧ n < 296) ||
    n == 299

/-- A firing in Run; a firing of TRIG_SRC with TRIG_EN asks for frost (R486). -/
def State.fireRun (s : State) (n : Nat) : State :=
  let s1 := s.setSrc n ((s.src n).fire)
  if s.dbgBlock.trigEn && s.dbgBlock.trigSrc == n then
    s1.askFrost true
  else s1

/-! ### Wakes (R269, R270, R438 to R441) -/

/-- Ticks from the response to the end of entry step 4, and from there to the end of step 6: the bounds of
R438 (log 27). -/
def entryBounds (off : Bool) : Nat × Nat := (64000, if off then 400200 else 30200)

/-- RACE of a wake that arrives now (R441, R445). -/
def State.raceNow (s : State) : Nat :=
  let b := entryBounds (s.power.st == .off)
  if s.power.ticks < b.1 then 1 else if s.power.ticks < b.1 + b.2 then 2 else 0

/-- Counter ticks of the always-on domain since entry ended, zero before (R445). -/
def State.sleptNow (s : State) : Nat :=
  (s.aon.count + 2 ^ 48 - s.power.base) % 2 ^ 48

/-- A wake: the first one is kept for the wake record (R441, R445). -/
def State.wakeNow (s : State) (kind code : Nat) : State :=
  if s.power.st = .run ∨ s.power.wake.isSome then s
  else
    { s with power := { s.power with
        wake := some (kind, code), race := s.raceNow, slept := s.sleptNow } }

/-- The watch register that names source `n`, lowest first. -/
def State.watchOf (s : State) (n : Nat) : Option Nat :=
  (s.router.watch.find? fun e => bitq e.2 31 && fld e.2 0 9 == n).map fun e => e.1

/-- Source `n` can fire in the sleep state: during entry steps 2 to 4, a field pin's outside Off, and field
I/O in a Drizzle cycle (R440, R441). -/
def State.mayWatch (s : State) (n : Nat) : Bool :=
  s.raceNow == 1 || (s.power.st != .off && decide (396 ≤ n) && decide (n < 492)) ||
    (s.power.inCycle && decide (300 ≤ n) && decide (n < 492))

/-- Source `n` fires.  In a sleep state the always-on domain latches a watched source, which wakes the
device (R270, R441). -/
def State.fire (s : State) (n : Nat) : State :=
  if reservedSource n then s
  else if s.power.st = .run then s.fireRun n
  else
    match s.watchOf n with
    | some k =>
      if s.mayWatch n then
        ({ s with power := { s.power with
            latched := if s.power.latched.contains n then s.power.latched
              else s.power.latched ++ [n] } }).wakeNow 0 k
      else s
    | none => s

/-- Fire when `c` holds. -/
def State.fireIf (s : State) (c : Bool) (n : Nat) : State := if c then s.fire n else s

/-- Fire several sources in order. -/
def State.fireAll (s : State) (ns : List Nat) : State := ns.foldl State.fire s

/-! ### The fault log (R324) -/

/-- Append a fault-log record, with FLAGS bit 1 where `late` says that its action was deferred; past 256 records the
oldest is overwritten. -/
def State.logAs (s : State) (late : Bool) (source unit logical oldCap newCap action arg : Nat) : State :=
  let r : FaultRec :=
    { ns := s.time.ns, sec := s.time.sec, unknown := s.time.unknown,
      deferred := late, source, unit, logical, oldCap, newCap, action, arg,
      seq := s.aon.nextSeq }
  let log := s.aon.log ++ [r]
  { s with aon := { s.aon with
      log := if log.length > 256 then log.drop 1 else log
      nextSeq := (s.aon.nextSeq + 1) % 2 ^ 32 } }

/-- Append a record of a fault whose action is not deferred. -/
def State.logFault (s : State) (source unit logical oldCap newCap action arg : Nat) : State :=
  s.logAs false source unit logical oldCap newCap action arg

/-- Record a fault and fire its source (R314). -/
def State.report (s : State) (source unit logical action arg : Nat) : State :=
  (s.logFault source unit logical 0 0 action arg).fire source

/-! ### Trace (R491) -/

/-- The bytes of a trace packet. -/
def tracePacket (kind src ns : Nat) (payload : List Byte) : List Byte :=
  BitVec.ofNat 8 kind :: BitVec.ofNat 8 payload.length :: leBytes src 2 ++ leBytes ns 4 ++ payload

/-- Whether a path routes the trace stream (R480). -/
def State.traceRouted (s : State) : Bool := s.dbgBlock.dbg.trace || s.dbgBlock.svc.trace

/-- A packet enters the 16 KiB FIFO, or is dropped whole, counted, and source 509 fires; a DROP packet
goes first once there is room. -/
def State.trace (s : State) (kind src : Nat) (payload : List Byte) : State :=
  if !s.traceRouted then s
  else
    let pkt := tracePacket kind src s.time.ns payload
    let pre := if s.dbgBlock.dropsUnsent = 0 then [] else
      tracePacket 3 0 s.time.ns (leBytes s.dbgBlock.dropsUnsent 4)
    if s.dbgBlock.fifo.length + pre.length + pkt.length ≤ 16384 then
      { s with dbgBlock := { s.dbgBlock with fifo := s.dbgBlock.fifo ++ pre ++ pkt, dropsUnsent := 0 } }
    else
      { s with dbgBlock := { s.dbgBlock with
          drops := inc32 s.dbgBlock.drops, dropsUnsent := s.dbgBlock.dropsUnsent + 1 } }.fire 509

/-- A fresh number for an undefined value, and the state with the counter advanced (log 5). -/
def State.takeFree (s : State) : Nat × State := (s.free, { s with free := s.free + 1 })

/-- The overlay in force. -/
def Boot.inForce (b : Boot) : Table (List Int) := if b.overlayOn then b.overlay else []

/-- Calibration delta of an item's value under the overlay that the units hold (R431, R432). -/
def State.delta (s : State) (item i : Nat) : Int :=
  ((tget [] item s.boot.eff)[i]?).getD 0

/-- Swing, pre and post cursor of SerDes lane `i`: the factory values with the overlay's deltas, which its port takes at
its next training (R431, R453). -/
def State.laneTx (s : State) (i : Nat) : List Int :=
  (List.range 3).map fun k => ((Config.factoryCal 4 (3 * i + k)).toNat : Int) + s.delta 4 (3 * i + k)

end Sys2Proof.Machine
end

