-- ==== Sys2Proof/Machine/Flags.lean ====
section
/-! DEFINITION. The flag groups of R100 and the arithmetic that feeds them, on numbers of `w` bits
(8 or 16): an exact result, then the narrowed one. -/

namespace Sys2Proof.Machine

/-- N and Z of a `w`-bit result (R100). -/
def Flags.nz (f : Flags) (w r : Nat) : Flags := { f with n := bitAt r (w - 1), z := r % 2 ^ w == 0 }

/-- The result and the flags of an addition in the Arith group (R100): H is the carry out of bit 3,
or of bit 11 in the wide form. -/
def addF (w a b c : Nat) (f : Flags) : Nat × Flags :=
  let r := (a + b + c) % 2 ^ w
  (r, { c := decide (2 ^ w ≤ a + b + c)
        h := decide (2 ^ (w - 4) ≤ a % 2 ^ (w - 4) + b % 2 ^ (w - 4) + c)
        v := decide (sint w a + sint w b + c ≠ sint w r)
        n := f.n, z := f.z : Flags }.nz w r)

/-- The result and the flags of a subtraction in the Arith group (R100): C and H are borrows. -/
def subF (w a b c : Nat) (f : Flags) : Nat × Flags :=
  let r := uint w ((a : Int) - b - c)
  (r, { c := decide (a < b + c)
        h := decide (a % 2 ^ (w - 4) < b % 2 ^ (w - 4) + c)
        v := decide (sint w a - sint w b - c ≠ sint w r)
        n := f.n, z := f.z : Flags }.nz w r)

/-- The Step group: as Arith with C unchanged (R100). -/
def Flags.step (f : Flags) (r : Nat × Flags) : Nat × Flags := (r.1, { r.2 with c := f.c })

/-- The Logic group (R100). -/
def logicF (w r : Nat) (f : Flags) : Nat × Flags :=
  (r, { c := false, h := f.h, v := false, n := f.n, z := f.z : Flags }.nz w r)

/-- The Shift group: C as given, V clear (R100). -/
def shiftF (w r : Nat) (c : Bool) (f : Flags) : Nat × Flags :=
  (r, { c := c, h := f.h, v := false, n := f.n, z := f.z : Flags }.nz w r)

/-- The Swap group (R100). -/
def swapF (w r : Nat) (f : Flags) : Nat × Flags := (r, f.nz w r)

/-- The Mul group, with C as the row states (R100, R101, R127). -/
def mulF (signed : Bool) (a b : Nat) (f : Flags) : Nat × Flags :=
  let e : Int := if signed then sint 8 a * sint 8 b else (a % 256 : Int) * (b % 256)
  let r := uint 16 e
  let c := if signed then decide (e < -128 ∨ 127 < e) else decide (255 < e)
  (r, { c := c, h := f.h, v := false, n := f.n, z := f.z : Flags }.nz 16 r)

/-- The seven shifts and rotates. -/
inductive ShiftOp where
  | shl | shr | asr | rol | ror | rlc | rrc
  deriving DecidableEq, Repr

/-- One step of a shift or rotate of a `w`-bit value: the value and the bit that left or crossed
(R102, R103). -/
def shift1 (op : ShiftOp) (w : Nat) (vc : Nat × Bool) : Nat × Bool :=
  let v := vc.1
  let top := bitAt v (w - 1)
  let low := bitAt v 0
  match op with
  | .shl => (2 * v % 2 ^ w, top)
  | .shr => (v / 2, low)
  | .asr => (v / 2 + b2n top * 2 ^ (w - 1), low)
  | .rol => (2 * v % 2 ^ w + b2n top, top)
  | .ror => (v / 2 + b2n low * 2 ^ (w - 1), low)
  | .rlc => (2 * v % 2 ^ w + b2n vc.2, top)
  | .rrc => (v / 2 + b2n vc.2 * 2 ^ (w - 1), low)

/-- `n` steps of a shift, from the current C. -/
def shiftN (op : ShiftOp) (w : Nat) : Nat → Nat × Bool → Nat × Bool
  | 0, vc => vc
  | n + 1, vc => shiftN op w n (shift1 op w vc)

/-- A shift or rotate by `n` with its flags (R103). -/
def shiftOpF (op : ShiftOp) (w n v : Nat) (f : Flags) : Nat × Flags :=
  let r := shiftN op w n (v, f.c)
  shiftF w r.1 r.2 f

/-- The conditions of the compares (R107). -/
def cmpCond (c w a b : Nat) : Bool :=
  match c with
  | 0 => a == b
  | 1 => a != b
  | 2 => decide (a < b)
  | 3 => decide (b ≤ a)
  | 4 => decide (sint w a < sint w b)
  | 5 => decide (sint w b ≤ sint w a)
  | 6 => decide (a ≤ b)
  | _ => decide (b < a)

/-- The flag-branch conditions (R105). -/
def flagCond (c : Nat) (f : Flags) : Bool :=
  match c with
  | 0 => f.z
  | 1 => !f.z
  | 2 => f.c
  | 3 => !f.c
  | 4 => f.n
  | 5 => !f.n
  | 6 => f.v
  | _ => !f.v

/-! ### Decimal arithmetic (R108) -/

/-- DADJ in add mode on byte `a` with H and C: result, H and C. -/
def dadjAdd (a : Nat) (h c : Bool) : Nat × Bool × Bool :=
  let low := h || decide (9 < a % 16)
  let high := c || decide (0x99 < a)
  ((a + 6 * b2n low + 0x60 * b2n high) % 256, low, high)

/-- DADJ in subtract mode. -/
def dadjSub (a : Nat) (h c : Bool) : Nat × Bool × Bool :=
  (uint 8 ((a : Int) - 6 * b2n h - 0x60 * b2n c), h, c)

/-- One byte of DADD. -/
def dadd8 (a b : Nat) (c : Bool) : Nat × Bool × Bool :=
  let t := a + b + b2n c
  dadjAdd (t % 256) (decide (16 ≤ a % 16 + b % 16 + b2n c)) (decide (256 ≤ t))

/-- One byte of DSUB. -/
def dsub8 (a b : Nat) (c : Bool) : Nat × Bool × Bool :=
  dadjSub (uint 8 ((a : Int) - b - b2n c)) (decide (a % 16 < b % 16 + b2n c)) (decide (a < b + b2n c))

/-- A decimal byte operation on 8 or 16 bits: low byte first, its C carried in; H of the last byte. -/
def decWide (f : Nat → Nat → Bool → Nat × Bool × Bool) (wide : Bool) (a b : Nat) (c : Bool) :
    Nat × Bool × Bool :=
  let lo := f (a % 256) (b % 256) c
  if wide then
    let hi := f (a / 256) (b / 256) lo.2.2
    (lo.1 + 256 * hi.1, hi.2.1, hi.2.2)
  else lo

/-- The Dec group: V as given, N and Z of the result (R100). -/
def decF (w : Nat) (r : Nat) (h c v : Bool) (f : Flags) : Nat × Flags :=
  (r, { c := c, h := h, v := v, n := f.n, z := f.z : Flags }.nz w r)

/-! ### The status byte (R61) -/

/-- ST as a byte. -/
def Flags.toByte (f : Flags) : Byte :=
  BitVec.ofNat 8 (16 * b2n f.c + 8 * b2n f.h + 4 * b2n f.v + 2 * b2n f.n + b2n f.z)

/-- ST from a byte; bits 7:5 are reserved. -/
def Flags.ofByte (b : Byte) : Flags :=
  { c := b.getLsbD 4, h := b.getLsbD 3, v := b.getLsbD 2, n := b.getLsbD 1, z := b.getLsbD 0 }

end Sys2Proof.Machine
end

