-- ==== Sys2Proof/Machine/Operands.lean ====
section
/-! DEFINITION. The operand forms of the tile instructions: registers, pairs, pointers and guards (R59,
R60), effective addresses (R62), prefixes (R92 to R94) and the tile's own memory accesses (R64, R69). -/

namespace Sys2Proof.Machine

/-- Operand width in bits of an instruction that takes the wide prefix (R98). -/
def opW (wide : Bool) : Nat := if wide then 16 else 8

/-- Bytes that the prefixes add (R92). -/
def pfxLen (x : Pfx) : Nat := b2n x.guard.isSome + b2n x.wide

/-- Whether the guard prefix lets the instruction execute (R93); G0 is true. -/
def Tile.guardMet (t : Tile) (x : Pfx) : Bool :=
  match x.guard with
  | none => true
  | some (sense, n) => (if n = 0 then true else t.g[n]) == sense

/-- Data register as a number. -/
def Tile.dreg (t : Tile) (r : Fin 16) : Nat := t.d[r].toNat

/-- The register above `r`, modulo 16. -/
def nextReg (r : Fin 16) : Fin 16 := r + 1

/-- A data register, or the pair at `r` (R60). -/
def Tile.rd (t : Tile) (wide : Bool) (r : Fin 16) : Nat :=
  if wide then t.dreg r + 256 * t.dreg (nextReg r) else t.dreg r

/-- Write a data register. -/
def Tile.setD (t : Tile) (r : Fin 16) (v : Nat) : Tile := { t with d := t.d.set r (BitVec.ofNat 8 v) }

/-- Write a data register, or the pair at `r`. -/
def Tile.wr (t : Tile) (wide : Bool) (r : Fin 16) (v : Nat) : Tile :=
  if wide then (t.setD r v).setD (nextReg r) (v / 256) else t.setD r v

/-- Write a pointer. -/
def Tile.setP (t : Tile) (r : Fin 8) (v : W16) : Tile := { t with p := t.p.set r v }

/-- Write a guard; G0 ignores writes (R59). -/
def Tile.setG (t : Tile) (r : Fin 8) (v : Bool) : Tile :=
  if r = 0 then t else { t with g := t.g.set r v }

/-- Guard `r`; G0 reads true (R59). -/
def Tile.guard (t : Tile) (r : Fin 8) : Bool := if r = 0 then true else t.g[r]

/-- Write a result and the flags. -/
def Tile.wrF (t : Tile) (wide : Bool) (r : Fin 16) (v : Nat × Flags) : Tile :=
  { t.wr wide r v.1 with fl := v.2 }

/-- An odd register where the encoding wants an even one (R60, R101). -/
def odd (r : Fin 16) : Bool := r.val % 2 == 1

/-- Decode outcome of an instruction that the tables mark W: an odd pair traps with cause 0x1.  A decode trap
stands with the bytes after the prefixes that show it: the byte that names the registers is number `at_` (R95,
R97). -/
def decW (x : Pfx) (regs : List (Fin 16)) (at_ : Nat := 2) : Option (Nat × Nat) :=
  if x.wide && regs.any odd then some (1, at_) else none

/-- Decode outcome of an instruction without a wide form: 0x2 for the wide prefix, then 0x1 when a bit
or register is forbidden, as byte `at_` shows (R94, R95, R510). -/
def decN (x : Pfx) (bad : Bool) (at_ : Nat := 2) : Option (Nat × Nat) :=
  if x.wide then some (2, 1) else if bad then some (1, at_) else none

/-- The effective address (R62). -/
def Tile.ea (t : Tile) (b : Fin 8) (disp : W16) : W16 := t.p[b] + disp

/-- Word number of a tile byte address (R64). -/
def wordOf (a : W16) : Nat := a.toNat / 4

/-- Whether one of `n` bytes from `a` lies in a word with an uncorrectable error. -/
def Tile.anyBad (t : Tile) (a : W16) (n : Nat) : Bool :=
  (List.range n).any fun i => t.bad.contains (wordOf (a + BitVec.ofNat 16 i))

/-- Byte of the tile's memory. -/
def Tile.byte (t : Tile) (a : W16) : Byte := memGet 0 a.toNat t.mem

/-- Store a byte. -/
def Tile.store (t : Tile) (a : W16) (v : Byte) : Tile := { t with mem := memPut 0 a.toNat v t.mem }

/-- A 16-bit datum: low byte first, modulo 0x1_0000 (R62). -/
def Tile.word (t : Tile) (a : W16) : W16 :=
  BitVec.ofNat 16 ((t.byte a).toNat + 256 * (t.byte (a + 1)).toNat)

/-- Store a 16-bit datum. -/
def Tile.storeW (t : Tile) (a v : W16) : Tile :=
  (t.store a (BitVec.ofNat 8 v.toNat)).store (a + 1) (BitVec.ofNat 8 (v.toNat / 256))

/-- `n` bytes from `a`, modulo 0x1_0000. -/
def Tile.bytes (t : Tile) (a : W16) (n : Nat) : List Byte :=
  (List.range n).map fun i => t.byte (a + BitVec.ofNat 16 i)

/-- Store bytes from `a`, modulo 0x1_0000. -/
def Tile.storeBytes (t : Tile) (a : W16) : List Byte → Tile
  | [] => t
  | b :: r => (t.store a b).storeBytes (a + 1) r

/-- The word numbers that `n` bytes from `a` cover only in part (R64): those with a byte outside. -/
def partWords (a : W16) (n : Nat) : List Nat :=
  ((List.range n).map fun i => wordOf (a + BitVec.ofNat 16 i)).filter fun w =>
    ((List.range n).countP fun i => wordOf (a + BitVec.ofNat 16 i) == w) != 4

/-- The word numbers that `n` bytes from `a` cover whole. -/
def wholeWords (a : W16) (n : Nat) : List Nat :=
  ((List.range n).map fun i => wordOf (a + BitVec.ofNat 16 i)).filter fun w =>
    ((List.range n).countP fun i => wordOf (a + BitVec.ofNat 16 i) == w) == 4

/-- Whether a store of `n` bytes meets an uncorrectable error in a word it covers in part. -/
def Tile.storeBad (t : Tile) (a : W16) (n : Nat) : Bool :=
  (partWords a n).any fun w => t.bad.contains w

/-- Give the words that `n` bytes from `a` cover whole fresh ECC (R64). -/
def Tile.freshen (t : Tile) (a : W16) (n : Nat) : Tile :=
  { t with bad := t.bad.filter fun w => !(wholeWords a n).contains w }

/-- The load in its memory/writeback step lands (R69). -/
def Tile.land (t : Tile) : Tile :=
  match t.wb with
  | none => t
  | some ⟨.data r, v⟩ => { t.setD r v.toNat with wb := none }
  | some ⟨.pair r, v⟩ => { t.wr true r v.toNat with wb := none }
  | some ⟨.ptr r, v⟩ => { t.setP r v with wb := none }

end Sys2Proof.Machine
end

