-- ==== Sys2Proof/Machine/TileMicro.lean ====
section
/-! DEFINITION. Micro-ops (R125 to R130), the commit check of R135 and the run of a decode-table entry
(R124, R127, R129, R130, R133). -/

namespace Sys2Proof.Machine

/-! ### Fields of a micro-op (R125) -/

/-- OP. -/
def uOp (u : W24) : Nat := bitsOf u.toNat 19 5
/-- W. -/
def uW (u : W24) : Bool := u.getLsbD 18
/-- END. -/
def uEnd (u : W24) : Bool := u.getLsbD 17
/-- X. -/
def uX (u : W24) : Nat := bitsOf u.toNat 12 5
/-- Y. -/
def uY (u : W24) : Nat := bitsOf u.toNat 7 5
/-- F. -/
def uF (u : W24) : Nat := bitsOf u.toNat 0 7
/-- imm12 of LDI and ADDI, sign-extended. -/
def uImm (u : W24) : Int := sint 12 (bitsOf u.toNat 0 12)

/-- The micro-ops up to the first with END, if there is one (R135). -/
def uopsToEnd : List W24 → Option (List W24)
  | [] => none
  | u :: r => if uEnd u then some [u] else (uopsToEnd r).map (u :: ·)

/-- Selectors of which a micro-op makes a 16-bit use (R135). -/
def wideUses (u : W24) : List Nat :=
  if !uW u then []
  else
    match uOp u with
    | 0x08 | 0x09 | 0x0A | 0x0B | 0x0C | 0x0D | 0x0E | 0x0F | 0x10 => [uX u]
    | _ => [uX u, uY u]

/-- F bits that R127 leaves unused are zero, and Y is zero in the shifts (R127, R135). -/
def uopFieldsOk (u : W24) : Bool :=
  match uOp u with
  | 0x00 => uF u == 0
  | 0x01 | 0x02 | 0x03 | 0x04 | 0x05 | 0x06 | 0x07 | 0x0B | 0x0C => uF u % 64 == 0
  | 0x08 | 0x09 | 0x0A => bitsOf (uF u) 4 2 == 0 && uY u == 0
  | 0x11 => !bitAt (uF u) 3 || uF u % 8 == 0
  | 0x12 => !bitAt (uX u) 1 || uF u % 8 == 0
  | _ => true

/-- Whether Y can hold an address (R128). -/
def addrSel (y : Nat) : Bool := decide (0x10 ≤ y ∧ y ≤ 0x13) || y == 0x16 || decide (0x18 ≤ y)

/-- The checks of R135 that concern one micro-op alone. -/
def uopOk (u : W24) : Bool :=
  decide (uOp u ≤ 0x12) && uopFieldsOk u &&
    !(decide (uOp u ≤ 0x0F) && uX u == 0x17) &&
    (wideUses u).all (fun x => !(decide (x < 16) && x % 2 == 1)) &&
    (!(uOp u == 0x0B || uOp u == 0x0C) || uW u) &&
    (!(decide (0x08 ≤ uOp u ∧ uOp u ≤ 0x0A) && !uW u) || decide (uF u % 16 < 8)) &&
    (!(uOp u == 0x0F || uOp u == 0x10) || addrSel (uY u))

/-- The stores form one unbroken run of at most 4 that ends with the END micro-op (R130). -/
def storesOk (us : List W24) : Bool :=
  let after := us.dropWhile fun u => uOp u != 0x10
  after.all (fun u => uOp u == 0x10) && decide (after.length ≤ 4)

/-- No SKIP passes the END micro-op (R135). -/
def skipsOk : List W24 → Bool
  | [] => true
  | u :: r =>
    (!(uOp u == 0x12) || uF u / 8 == 0 || decide (uF u / 8 < r.length)) && skipsOk r

/-- The entry that a commit makes active, or none for an ill-formed shadow (R135). -/
def checkEntry (us : List W24) : Option (List W24) :=
  match uopsToEnd us with
  | none => none
  | some e => if e.all uopOk && storesOk e && skipsOk e then some e else none

/-! ### Running an entry -/

/-- Where a selector points (R126). -/
inductive UReg where
  | data (r : Fin 16) | temp (i : Fin 4) | ptr (r : Fin 8) | konst
  deriving DecidableEq, Repr

/-- The operand of a selector (R126). -/
def uReg (c : CustomArgs) (x : Nat) : UReg :=
  if x < 0x10 then .data (Fin.ofNat 16 x)
  else if x < 0x14 then .temp (Fin.ofNat 4 x)
  else if x = 0x14 then .data c.a
  else if x = 0x15 then .data c.b
  else if x = 0x16 then .ptr c.pf
  else if x = 0x17 then .konst
  else .ptr (Fin.ofNat 8 x)

/-- What an entry runs on: the registers it reads, the same with the load of the preceding instruction
landed, T0 to T3 and the LD whose write-back is due. -/
structure UCtx where
  m : Tile
  n : Tile
  t : Vector W16 4
  due : Option (UReg × Bool × Nat)
  deriving DecidableEq, Repr

/-- Read a selector at 8 or 16 bits (R126). -/
def UCtx.read (k : UCtx) (c : CustomArgs) (wide : Bool) (x : Nat) : Nat :=
  match uReg c x with
  | .data r => k.m.rd wide r
  | .temp i => k.t[i].toNat % 2 ^ opW wide
  | .ptr r => k.m.p[r].toNat % 2 ^ opW wide
  | .konst => c.k.toNat % 2 ^ opW wide

/-- A 16-bit operand after an 8-bit or 16-bit write (R126). -/
def merge16 (wide : Bool) (old : W16) (v : Nat) : W16 :=
  if wide then BitVec.ofNat 16 v else BitVec.ofNat 16 (old.toNat / 256 * 256 + v % 256)

/-- Write a register of one tile copy. -/
def Tile.uWrite (t : Tile) (r : UReg) (wide : Bool) (v : Nat) : Tile :=
  match r with
  | .data i => t.wr wide i v
  | .ptr i => t.setP i (merge16 wide t.p[i] v)
  | _ => t

/-- Write a register of an entry's context. -/
def UCtx.write (k : UCtx) (r : UReg) (wide : Bool) (v : Nat) : UCtx :=
  { k with
    m := k.m.uWrite r wide v
    n := k.n.uWrite r wide v
    t := match r with
      | .temp i => k.t.set i (merge16 wide k.t[i] v)
      | _ => k.t }

/-- The due write-back of an LD lands (R129). -/
def UCtx.land (k : UCtx) : UCtx :=
  match k.due with
  | none => k
  | some (r, wide, v) => { k with due := none }.write r wide v

/-- Set the flags. -/
def UCtx.setFl (k : UCtx) (f : Flags) : UCtx :=
  { k with m := { k.m with fl := f }, n := { k.n with fl := f } }

/-- The guard that CMPG writes or SKIP tests. -/
def uGuard (c : CustomArgs) (useGf : Bool) (u : W24) : Fin 8 :=
  if useGf then c.gf else Fin.ofNat 8 (uF u)

/-- Memory address of LD and ST (R127). -/
def UCtx.addr (k : UCtx) (c : CustomArgs) (u : W24) : W16 :=
  BitVec.ofNat 16 (k.read c true (uY u)) + BitVec.ofInt 16 (sint 7 (uF u))

/-- Result and flags of the arithmetic micro-ops (R127). -/
def uAlu (op w x y n : Nat) (f : Flags) : Nat × Flags :=
  match op with
  | 0x01 => addF w x y 0 f
  | 0x02 => addF w x y (b2n f.c) f
  | 0x03 => subF w x y 0 f
  | 0x04 => subF w x y (b2n f.c) f
  | 0x05 => logicF w (x &&& y) f
  | 0x06 => logicF w (x ||| y) f
  | 0x07 => logicF w (x ^^^ y) f
  | 0x08 => shiftOpF .shl w n x f
  | 0x09 => shiftOpF .shr w n x f
  | 0x0A => shiftOpF .asr w n x f
  | 0x0B => mulF false x y f
  | 0x0C => mulF true x y f
  | _ => (y, f)

/-- One micro-op other than ST: the next context and the micro-ops to skip, or the address of an LD that
meets an uncorrectable error (R133). -/
def uStep (c : CustomArgs) (u : W24) (k : UCtx) : Except W16 (UCtx × Nat) :=
  let w := uW u
  let op := uOp u
  let dst := uReg c (uX u)
  if op = 0x0F then
    let a := k.addr c u
    if k.m.anyBad a (if w then 2 else 1) then .error a
    else
      let v := if w then (k.m.word a).toNat else (k.m.byte a).toNat
      .ok ({ k.land with due := some (dst, w, v) }, 0)
  else if op = 0x11 then
    let g := uGuard c (bitAt (uF u) 3) u
    let v := cmpCond (bitsOf (uF u) 4 3) (opW w) (k.read c w (uX u)) (k.read c w (uY u))
    let k1 := k.land
    .ok ({ k1 with m := k1.m.setG g v, n := k1.n.setG g v }, 0)
  else if op = 0x12 then
    let g := k.m.guard (uGuard c (bitAt (uX u) 1) u)
    .ok (k.land, if g == !bitAt (uX u) 0 then uF u / 8 else 0)
  else if op = 0x0D then
    .ok (k.land.write dst w (uint (opW w) (uImm u)), 0)
  else if op = 0x0E then
    .ok (k.land.write dst w (uint (opW w) (k.read c w (uX u) + uImm u)), 0)
  else
    let mul := op == 0x0B || op == 0x0C
    let x := k.read c (w && !mul) (uX u)
    let y := k.read c (w && !mul) (uY u)
    let r := uAlu op (opW w) x y (uF u % 16 + 1) k.m.fl
    let k1 := k.land.write dst w r.1
    .ok (if op != 0 && bitAt (uF u) 6 then k1.setFl r.2 else k1, 0)

/-- The bytes of a store run in order: addresses from the registers at the start of the run, data as the
run proceeds (R130). -/
def uStores (c : CustomArgs) (start : UCtx) : List W24 → UCtx → List (W16 × Byte)
  | [], _ => []
  | u :: r, k =>
    let a := start.addr c u
    let v := k.read c (uW u) (uX u)
    let here := (a, BitVec.ofNat 8 v) ::
      (if uW u then [(a + 1, BitVec.ofNat 8 (v / 256))] else [])
    here ++ uStores c start r k.land

/-- Write the bytes of a run. -/
def Tile.storeAll (t : Tile) : List (W16 × Byte) → Tile
  | [] => t
  | e :: r => (t.store e.1 e.2).storeAll r

/-- Words that a run covers only in part hold no uncorrectable error, and whole words take fresh ECC; else the address
that meets one (R130). -/
def Tile.storeRun (t : Tile) (ws : List (W16 × Byte)) : Except W16 Tile :=
  let whole (w : Nat) : Bool :=
    (List.range 4).all fun i => ws.any fun e => e.1.toNat == 4 * w + i
  match ws.find? fun e => t.bad.contains (wordOf e.1) && !whole (wordOf e.1) with
  | some e => .error e.1
  | none =>
    let t1 := t.storeAll ws
    .ok { t1 with bad := t1.bad.filter fun w => !whole w }

/-- Run the micro-ops of an entry; the address at which a micro-op traps with cause 0x6 (R133). `fuel` counts the
micro-ops left. -/
def uRun (c : CustomArgs) : Nat → List W24 → UCtx → Except W16 UCtx
  | 0, _, k => .ok k
  | _ + 1, [], k => .ok k
  | fuel + 1, u :: r, k =>
    if uOp u = 0x10 then
      match k.m.storeRun (uStores c k (u :: r) k) with
      | .error a => .error a
      | .ok m =>
        let k1 := k.land
        .ok { k1 with
          m := { k1.m with mem := m.mem, bad := m.bad }
          n := { k1.n with mem := m.mem, bad := m.bad } }
    else
      match uStep c u k with
      | .error a => .error a
      | .ok (k1, n) => uRun c fuel (r.drop n) k1

/-- The tile after an entry: registers landed, and an LD of the END micro-op left to write back in the
instruction after (R129). A load into a temporary leaves a write-back without effect. -/
def UCtx.finish (k : UCtx) : Tile :=
  match k.due with
  | none => k.n
  | some (.data r, wide, v) =>
    { k.n with wb := some ⟨if wide then .pair r else .data r, BitVec.ofNat 16 v⟩ }
  | some (.ptr r, wide, v) => { k.n with wb := some ⟨.ptr r, merge16 wide k.n.p[r] v⟩ }
  | some _ => { k.n with wb := some ⟨.ptr 0, k.n.p[0]⟩ }

end Sys2Proof.Machine
end

