-- ==== Sys2Proof/Machine/TileCore.lean ====
section
/-! DEFINITION. The tile core: prefetch (R67), retirement (R78), traps and entry (R81, R85, R86), the
frame of one instruction (R69, R93, R95) and the system registers (R75 to R77). -/

namespace Sys2Proof.Machine

/-! ### Identity -/

/-- The logical tile whose program physical tile `p` runs: the one it serves, or its pair's. -/
def State.identOf (s : State) (p : Nat) : Option Nat :=
  match s.logicalOf p with
  | some t => some t
  | none => (s.duplexOf p).map fun e => e.1

/-- SRC_ID of physical tile `p`; a tile that serves nothing carries 0x4FF, which names no owner. -/
def State.ownerOf (s : State) (p : Nat) : Nat := (s.identOf p).getD 0x4FF

/-- Work that reaches physical court `c` ends its lull and turns its rail back towards what its target needs, from
where the rail stands (R44, R58, R89). -/
def State.wakeCourt (s : State) (c : Nat) : State :=
  let v := s.court c
  if v.parked then s.setCourt c { v with parked := false, lullSince := none, ramp := some v.need }
  else if v.lullSince.isSome then s.setCourt c { v with lullSince := none }
  else s

/-! ### Prefetch (R67) -/

/-- The 32-bit word of memory. -/
def Tile.memWord (t : Tile) (w : Nat) : W32 := w32 (leNum (memRead 0 t.mem (4 * w) 4))

/-- The word as fetched: the prefetched content, or memory. -/
def Tile.fetchWord (t : Tile) (w : Nat) : W32 := (tfind? w t.prefetch).getD (t.memWord w)

/-- The byte at `a` as fetched. -/
def Tile.fetchByte (t : Tile) (a : W16) : Byte :=
  BitVec.ofNat 8 (bitsOf (t.fetchWord (wordOf a)).toNat (8 * (a.toNat % 4)) 8)

/-- Words that an instruction of `len` bytes at pc needs, and the two that follow (R67). -/
def prefetchWords (pc : W16) (len : Nat) : List Nat :=
  let w := pc.toNat / 4
  (List.range ((pc.toNat % 4 + len + 3) / 4 + 2)).map fun i => (w + i) % 16384

/-- The prefetched words once an instruction of `len` bytes is decoded. -/
def Tile.prefetchFor (t : Tile) (len : Nat) : Table W32 :=
  (prefetchWords t.pc len).foldl (fun m w => tput w (t.fetchWord w) m) []

/-! ### Retirement (R78) -/

/-- One instruction retires. -/
def Tile.retire (t : Tile) : Tile :=
  if t.cntOn then
    let n := t.pcnt + 1
    if t.cmpOn && n == t.pcmp then { t with pcnt := n, pcHit := true }.raise 11
    else { t with pcnt := n, pcHit := false }
  else { t with pcHit := false }

/-! ### Entry and traps -/

/-- An enabled line is pending (R81, R87). -/
def Tile.lineUp (t : Tile) : Bool := t.pend &&& t.en != 0

/-- The tile is at an instruction boundary at which it may stop or take entry: not directly after a load, and
with no instruction waiting for a reply (R71, R111). -/
def Tile.atBoundary (t : Tile) : Bool := t.wb.isNone && t.waiting.isNone

/-- Event entry is due at this boundary (R71, R81, R111). -/
def Tile.due (t : Tile) : Bool := t.evOn && t.lineUp && t.atBoundary

/-- Steps 2 and 3 of R81 with the saved pc. -/
def Tile.enter (t : Tile) (spc : W16) : Tile :=
  { t with spc := spc, sst := t.fl.toByte, evOn := false, inh := true, pc := t.vec, prefetch := [] }

/-- A trap (R85), or a double trap that halts the tile and reports it (R86). -/
def State.tileTrap (s : State) (p code : Nat) (arg : Byte) (t : Tile) (spc : W16) : State :=
  let t1 := { t.land with cause := code, trapArg := arg }
  if t.inh && !t.evOn then
    (s.setTile p { t1 with dbl := true, dblAt := s.wall, run := .halted }).report 4 p ((s.identOf p).getD 0xFFFF) 3
      code
  else s.setTile p ((t1.raise 13).enter spc)

/-! ### One instruction -/

/-- An uncorrectable error that tile `p` meets at address `a` of its own memory is recorded and fires source 6 (R314 to
R316). -/
def State.noteBad (s : State) (p : Nat) (a : W16) : State := s.report 6 p ((s.identOf p).getD 0xFFFF) 0 a.toNat

/-- What an instruction that executes does: continue, transfer, trap, trap on an uncorrectable error at an address,
wait for a reply without retiring (R111), continue and then act on the rest of the device, or do something else with
the device as it stands. -/
inductive Eff where
  | go (n : Tile)
  | wait (key : List Nat)
  | jump (n : Tile) (pc : W16)
  | trap (code : Nat) (arg : Byte)
  | bad (a : W16)
  | act (n : Tile) (post : State → State)
  | own (f : State → State)

/-- The tile after an instruction of `len` bytes that does not transfer. -/
def Tile.seq (n : Tile) (t : Tile) (len : Nat) : Tile :=
  { n with pc := t.pc + BitVec.ofNat 16 len, prefetch := t.prefetchFor len }.retire

/-- The tile after a taken transfer (R67). -/
def Tile.jumpTo (n : Tile) (pc : W16) : Tile := { n with pc := pc, prefetch := [] }.retire

/-- A word that the instruction's bytes lie in has an uncorrectable error (R64, R95). -/
def Tile.fetchBad (t : Tile) (len : Nat) : Bool := t.anyBad t.pc len

/-- One instruction of `len` bytes at tile `p`.  `dec` is a decode trap (R95); `body` gets the tile whose
registers it reads and the same tile with the preceding load landed, to which it writes (R69, R120). -/
def State.tileStep (s : State) (p len : Nat) (x : Pfx) (dec : Option Nat) (body : Tile → Tile → Eff) :
    State :=
  let t := s.tile p
  if t.fetchBad len then (s.noteBad p t.pc).tileTrap p 5 0 t t.pc
  else
    match dec with
    | some c => s.tileTrap p c 0 t t.pc
    | none =>
      if t.guardMet x then
        match body t t.land with
        | .go n => s.setTile p (n.seq t len)
        | .wait key => s.setTile p { t with waiting := some key }
        | .jump n pc => s.setTile p (n.jumpTo pc)
        | .trap c a => s.tileTrap p c a t t.pc
        | .bad a => (s.noteBad p a).tileTrap p 6 0 t t.pc
        | .act n post => post (s.setTile p (n.seq t len))
        | .own f => f s
      else s.setTile p (t.land.seq t len)

/-- A debugger has asked tile `p` to halt, and it stands at a boundary where it does (R488). -/
def State.haltsNow (s : State) (p : Nat) : Bool := s.dbgBlock.haltDue.contains p && (s.tile p).atBoundary

/-- Tile `p` runs, and the device is in Run and not in frost (R63, R486, R488). -/
def State.goes (s : State) (p : Nat) : Bool :=
  (s.tile p).run == .running && !s.dbgBlock.frost && s.running && !s.haltsNow p

/-- Tile `p` executes its next instruction now: it runs, no event entry is due, and no instruction waits (R63,
R81, R111, R486). -/
def State.ready (s : State) (p : Nat) : Bool :=
  s.goes p && !(s.tile p).due && (s.tile p).waiting.isNone

/-- The bytes that decode reads: all of the instruction's, or those up to the one that makes it trap (R95). -/
def decodeLen (x : Pfx) (len : Nat) (dec : Option (Nat × Nat)) : Nat :=
  match dec with
  | some e => pfxLen x + e.2
  | none => pfxLen x + len

/-- One instruction of tile `p` from its decoded form. -/
def State.tileInsn (s : State) (p len : Nat) (x : Pfx) (dec : Option (Nat × Nat)) (body : Tile → Tile → Eff) :
    State :=
  s.tileStep p (decodeLen x len dec) x (dec.map (·.1)) body

/-- The meaning of a tile instruction. -/
def State.tileExec (s : State) (p len : Nat) (x : Pfx) (dec : Option (Nat × Nat)) (body : Tile → Tile → Eff) :
    Out :=
  ok (decide (p < 1088)) (when_ (s.ready p) (s.tileInsn p len x dec body) s)

/-- The instruction that waits goes on, once its reply is there. -/
def State.resumeTile (s : State) (p : Nat) : State := s.setTile p { s.tile p with waiting := none }

/-- The meaning of a tile instruction that may wait for a reply: `key` tells it from any other, and while one
waits no other runs (R111). -/
def State.tileExecW (s : State) (p len : Nat) (x : Pfx) (dec : Option (Nat × Nat)) (key : List Nat)
    (body : Tile → Tile → Eff) : Out :=
  let again := s.goes p && (s.tile p).waiting == some key
  ok (decide (p < 1088)) <|
    if again then (s.resumeTile p).tileInsn p len x dec body
    else when_ (s.ready p) (s.tileInsn p len x dec body) s

/-! ### Return stack (R72 to R74) -/

/-- Push a return address, or none for the trap of R74. -/
def Tile.push (n : Tile) (a : W16) : Option Tile :=
  if n.rsTrap && n.rsDepth == 8 then none
  else
    let top := n.rsTop + 1
    some { n with rsTop := top, rs := n.rs.set top a, rsDepth := min 8 (n.rsDepth + 1) }

/-- Pop a return address, or none for the trap of R74. -/
def Tile.pop (n : Tile) : Option (W16 × Tile) :=
  if n.rsTrap && n.rsDepth == 0 then none
  else some (n.rs[n.rsTop], { n with rsTop := n.rsTop - 1, rsDepth := n.rsDepth - 1 })

/-! ### System registers (R77) -/

/-- A queue for which the tile is the registered consumer holds an entry (R79, R187). -/
def State.line10Up (s : State) (p : Nat) : Bool :=
  match s.identOf p with
  | none => false
  | some t => s.queues.any fun e =>
      e.2.line10 && e.2.owner == t && !(e.2.fill.isEmpty && e.2.drain.isEmpty)

/-- Lines 8 and 10 become pending again while their conditions hold (R79).  DESIGN CHOICE: SYS_RXTAIL is held as written and
compared with SYS_RXHEAD as it stands, also at or past the ring size (R77, log 145). -/
def State.relevel (s : State) (p : Nat) (t : Tile) : Tile :=
  let t1 := if t.rxHead != t.rxTail then t.raise 8 else t
  if s.line10Up p then t1.raise 10 else t1

/-- Lines 8 and 10 become pending once they are enabled, while their conditions hold (R79). -/
def State.enableLevel (s : State) (p : Nat) (t : Tile) : Tile :=
  let t1 := if t.en.getLsbD 8 && t.rxHead != t.rxTail then t.raise 8 else t
  if t1.en.getLsbD 10 && s.line10Up p then t1.raise 10 else t1

/-- Low byte of a 16-bit value. -/
def lo8 (v : W16) : Byte := BitVec.ofNat 8 v.toNat
/-- High byte of a 16-bit value. -/
def hi8 (v : W16) : Byte := BitVec.ofNat 8 (v.toNat / 256)
/-- Byte `i` of a number. -/
def byteOf (v i : Nat) : Byte := BitVec.ofNat 8 (v / 256 ^ i)

/-- The shadow micro-op at the selected position (R134). -/
def Tile.dtSel (t : Tile) : W24 := tget 0 t.dtsel.toNat t.shadow

/-- The value that GETS returns (R75, R76, R77); reserved addresses read 0x00. -/
def State.sysRead (s : State) (p : Nat) (t : Tile) (a : Nat) : Byte :=
  let tile := (s.identOf p).getD (Config.freeWord s.free).toNat % 1024
  match a with
  | 0x00 => lo8 t.pend
  | 0x01 => hi8 t.pend
  | 0x02 => lo8 t.en
  | 0x03 => hi8 t.en
  | 0x04 => lo8 t.act
  | 0x05 => hi8 t.act
  | 0x06 => BitVec.ofNat 8 (128 * b2n t.evOn + 64 * b2n t.inh + 32 * b2n t.chain)
  | 0x08 => lo8 t.vec
  | 0x09 => hi8 t.vec
  | 0x0A => lo8 t.spc
  | 0x0B => hi8 t.spc
  | 0x0C => t.sst
  | 0x0D => t.fl.toByte
  | 0x0E => BitVec.ofNat 8 (128 * b2n t.dbl + t.cause % 16)
  | 0x0F => t.trapArg
  | 0x10 => byteOf tile 0
  | 0x11 => byteOf tile 1
  | 0x12 => byteOf (s.capOf tile) 0
  | 0x13 => byteOf s.device 0
  | 0x14 => byteOf s.device 1
  | 0x15 => if t.taskRun then t.task else 0xFF
  | 0x16 => BitVec.ofNat 8 (b2n t.taskRun)
  | 0x18 => lo8 t.rxBase
  | 0x19 => hi8 t.rxBase
  | 0x1A => BitVec.ofNat 8 t.rxLog
  | 0x1B => lo8 t.rxHead
  | 0x1C => hi8 t.rxHead
  | 0x1D => lo8 t.rxTail
  | 0x1E => hi8 t.rxTail
  | 0x20 => byteOf t.pcnt.toNat 0
  | 0x21 => byteOf t.pcntSnap.toNat 1
  | 0x22 => byteOf t.pcntSnap.toNat 2
  | 0x23 => byteOf t.pcntSnap.toNat 3
  | 0x24 => byteOf t.pcmp.toNat 0
  | 0x25 => byteOf t.pcmp.toNat 1
  | 0x26 => byteOf t.pcmp.toNat 2
  | 0x27 => byteOf t.pcmp.toNat 3
  | 0x28 => BitVec.ofNat 8 (128 * b2n t.cntOn + 64 * b2n t.cmpOn)
  | 0x2C => BitVec.ofNat 8 (128 * b2n t.rsTrap + t.rsDepth)
  | 0x2D => BitVec.ofNat 8 t.rsIdx.val
  | 0x2E => lo8 t.rs[t.rsTop - t.rsIdx]
  | 0x2F => hi8 t.rs[t.rsTop - t.rsIdx]
  | 0x30 => t.dtsel
  | 0x31 => byteOf t.dtSel.toNat 0
  | 0x32 => byteOf t.dtSel.toNat 1
  | 0x33 => byteOf t.dtSel.toNat 2
  | 0x35 => lo8 t.dtValid
  | 0x36 => hi8 t.dtValid
  | _ => 0

/-- A GETS of SYS_PCNT0 takes the snapshot (R9, R76). -/
def Tile.snapPcnt (t : Tile) (a : Nat) : Tile := if a = 0x20 then { t with pcntSnap := t.pcnt } else t

/-- The staged low byte (R76), zero before the first SETS (log 7). -/
def Tile.stagedB (t : Tile) (a : Nat) : Nat := (tget 0 a t.staged).toNat

/-- Stage a byte. -/
def Tile.stage (t : Tile) (a : Nat) (v : Byte) : Tile := { t with staged := tput a v t.staged }

/-- A 16-bit value of a staged low byte and a high byte. -/
def Tile.pair16 (t : Tile) (a : Nat) (hi : Byte) : W16 :=
  BitVec.ofNat 16 (t.stagedB a + 256 * hi.toNat)

/-- A W1C write of the pending bits: ones clear and set the active bits (R77, R82). -/
def Tile.clearPend (t : Tile) (m : W16) : Tile :=
  { t with pend := t.pend &&& ~~~ m, act := t.act ||| m }

/-- A write of SYS_RXBASE_HI or SYS_RXSIZE zeroes head and tail (R163). -/
def Tile.ringZero (t : Tile) : Tile := { t with rxHead := 0, rxTail := 0 }

/-- The shadow of entry `e`: its 16 micro-ops (R134). -/
def Tile.shadowOf (t : Tile) (e : Nat) : List W24 :=
  (List.range 16).map fun i => tget 0 (16 * e + i) t.shadow

/-- Commit shadow entry `e` (R135). -/
def Tile.commitEntry (t : Tile) (e : Nat) : Tile :=
  match checkEntry (t.shadowOf e) with
  | some us => { t with active := tput e us t.active, dtValid := t.dtValid ||| (1 <<< e) }
  | none => { t with active := tdel e t.active, dtValid := t.dtValid &&& ~~~ ((1 : W16) <<< e) }

/-- What a SETS does to the tile (R75 to R77).  The event bytes of 0x00 to 0x03 are written one by one, and a DEPTH
above 8 leaves DEPTH alone (log 7). -/
def State.sysWrite (s : State) (p : Nat) (t : Tile) (a : Nat) (v : Byte) : Tile :=
  match a with
  | 0x00 => s.relevel p (t.clearPend (v.zeroExtend 16))
  | 0x01 => s.relevel p (t.clearPend (v.zeroExtend 16 <<< 8))
  | 0x02 => { t with en := (t.en &&& 0xFF00) ||| v.zeroExtend 16 }
  | 0x03 => s.enableLevel p { t with en := (t.en &&& 0x00FF) ||| (v.zeroExtend 16 <<< 8) ||| 0x2000 }
  | 0x06 => { t with evOn := v.getLsbD 7 }
  | 0x08 | 0x0A | 0x18 | 0x1D | 0x2E | 0x24 | 0x25 | 0x26 | 0x31 | 0x32 => t.stage a v
  | 0x09 => { t with vec := t.pair16 0x08 v }
  | 0x0B => { t with spc := t.pair16 0x0A v }
  | 0x0C => { t with sst := v }
  | 0x0D => { t with fl := Flags.ofByte v }
  | 0x19 => { t with rxBase := t.pair16 0x18 v &&& 0xFF00 }.ringZero
  | 0x1A =>
    let k := v.toNat % 16
    { t with rxLog := if 8 ≤ k ∧ k ≤ 14 then k else 0 }.ringZero
  | 0x1E => { t with rxTail := t.pair16 0x1D v &&& 0xFFF8 }
  | 0x27 =>
    { t with pcmp := w32 (t.stagedB 0x24 + 256 * t.stagedB 0x25 + 65536 * t.stagedB 0x26 +
        16777216 * v.toNat) }
  | 0x28 => { t with cntOn := v.getLsbD 7, cmpOn := v.getLsbD 6 }
  | 0x2C => { t with
      rsTrap := v.getLsbD 7, rsDepth := if v.toNat % 16 ≤ 8 then v.toNat % 16 else t.rsDepth }
  | 0x2D => { t with rsIdx := Fin.ofNat 8 v.toNat }
  | 0x2F =>
    let k : Fin 8 := t.rsTop - t.rsIdx
    { t with rs := t.rs.set k (t.pair16 0x2E v) }
  | 0x30 => { t with dtsel := v }
  | 0x33 =>
    { t with shadow := tput t.dtsel.toNat (BitVec.ofNat 24 (t.stagedB 0x31 + 256 * t.stagedB 0x32 +
        65536 * v.toNat)) t.shadow }
  | 0x34 => if 0x80 ≤ v.toNat ∧ v.toNat ≤ 0x8F then t.commitEntry (v.toNat - 0x80) else t
  | _ => t

end Sys2Proof.Machine
end

