-- ==== Sys2Proof/Machine/Windows.lean ====
section
/-! DEFINITION. Who may reach which range of unit space (R21 to R28, R31, R177, R356, R386, R481, R482), the crossings
into the clocked islands (R48, R51 to R53), and what an access to a register does there (R16, R26). -/

namespace Sys2Proof.Machine

/-- Owner IDs of the owner table (R16). -/
def inOwnerTable (o : Nat) : Bool :=
  decide (o < 0x400) || decide (0x400 ≤ o ∧ o ≤ 0x404) || decide (0x410 ≤ o ∧ o ≤ 0x420) ||
    decide (0x430 ≤ o ∧ o ≤ 0x433) || decide (0x440 ≤ o ∧ o ≤ 0x443)

/-- The owner whose windows serve a master: a DMA channel's owner for its engine (R242). -/
def State.userOf (s : State) (id dev tag : Nat) : Nat :=
  if dev == s.device && decide (0x410 ≤ id) && decide (id < 0x420) then
    (s.chan (8 * (id - 0x410) + tag % 8)).owner
  else id

/-- A range of unit space that no window may cover. -/
def forbiddenRanges : List (Nat × Nat) :=
  [(0x02000000, 0x200000), (0x04000000, 0x4400000), (0x10040000, 0x10000), (0x100C0000, 0x60000),
   (0x1012F000, 0x1000), (0x10130000, 0x30000)]

/-- Two ranges meet. -/
def meets (a b : Nat × Nat) : Bool := decide (a.1 < b.1 + b.2) && decide (b.1 < a.1 + a.2)

/-- The debug master may do what needs a level beyond the closed set (R480 to R482). -/
def State.dbgMay (s : State) (level : Nat) : Bool := s.dbgBlock.dbg.jtag && decide (level ≤ s.dbgBlock.dbg.level)

/-- The master of an access: SRC_ID, SRC_PHYS, TAG and SRC device.  `beaten` says that a request that prevails over
this one falls within the same resolution of the target's arbiter (R194, R508); `user` is the owner for whom a DMA
channel sent it (R242). -/
structure Who where
  id   : Nat
  phys : Nat
  tag  : Nat
  dev  : Nat
  beaten : Bool := false
  user : Option Nat := none
  deriving DecidableEq, Repr

/-- The master of a request. -/
def whoOf (m : Msg) : Who :=
  { id := m.srcId, phys := m.srcPhys, tag := m.tag, dev := m.srcDev, beaten := m.beaten, user := m.user }

/-- A master of this device with no request of its own, as register rows name it: a tile's accesses come from
its physical tile. -/
def State.whoIs (s : State) (master : Nat) : Who :=
  { id := master, phys := if master < 1024 then (s.physOf master).getD 0x7FF else 0x7FF, tag := 0
    dev := s.device }

/-- A master of device `dev`; another device's hosts come by the link hub. -/
def State.whoOn (s : State) (master dev : Nat) : Who :=
  if dev = s.device then s.whoIs master else { id := master, phys := 0x7FF, tag := 0, dev := dev }

/-- The owner ID that owner-field checks see: another device's request counts as the link port that delivered it
(R356). -/
def State.ownId (s : State) (w : Who) : Nat :=
  if w.dev = s.device then w.id
  else 0x440 + ((s.fabric.serving.find? fun x => x.tag == w.tag).map fun x => x.port).getD 0

/-- The owner whose windows serve a master. -/
def State.actsFor (s : State) (w : Who) : Nat := w.user.getD (s.userOf w.id w.dev w.tag)

/-! ### Ranges (R22) -/

/-- A unit address lies in a range of the unit map. -/
def inUnitMap (a : Nat) : Bool :=
  decide (a < 0x800000) || decide (0x1000000 ≤ a ∧ a < 0x1400000) ||
    decide (0x2000000 ≤ a ∧ a < 0x2200000) || decide (0x4000000 ≤ a ∧ a < 0x8400000) ||
    decide (0x10000000 ≤ a ∧ a < 0x10160000)

/-- All of `n` bytes from `a` lie inside `lo` to `hi - 1`. -/
def within (a n lo hi : Nat) : Bool := decide (lo ≤ a) && decide (a + n ≤ hi)

/-- Some of `n` bytes from `a` lies inside `lo` to `hi - 1`. -/
def touches (a n lo hi : Nat) : Bool := decide (a < hi) && decide (lo < a + n)

/-- An access that meets a range that no window may cover (R23). -/
def closedRange (a n : Nat) : Bool := forbiddenRanges.any (meets (a, n))

/-- The bench queues' registers (R177). -/
def benchQueues (a n : Nat) : Bool := touches a n 0x10094000 0x10094400

/-- The doorbell block (R383). -/
def inDoorbell (a n : Nat) : Bool := within a n 0x10000800 0x10000A00

/-! ### Windows (R24 to R28, R386) -/

/-- A standing window serves the access: a tile's, also to the DMA channel that acts for it, or a remote host's
(R242, R386). -/
def State.standing (s : State) (w : Who) (a n : Nat) (write : Bool) : Bool :=
  if w.dev = s.device then
    decide (s.actsFor w < 0x400) &&
      (within a n 0x1001A000 0x1001E000 || inDoorbell a n ||
        (!write && within a n 0x10000000 0x10000800))
  else w.id == 0x401 && (within a n 0x10016000 0x1001A000 || inDoorbell a n)

/-- A window of the master covers the access; a closing one serves only what it had accepted (R28). -/
def State.granted (s : State) (w : Who) (m : Option Msg) (a n : Nat) (write : Bool) : Bool :=
  s.mgmt.windows.any fun x =>
    x.master == s.actsFor w && x.dev == w.dev && (x.rw || !write) &&
      within (s.device * 2 ^ 34 + 2 ^ 32 + a) n x.base (x.base + x.size) &&
      (!x.closing || m.any fun k => x.accepted.contains (keyOf k))

/-- Ranges that only the debug master reaches (R22). -/
def debugOnly (a n : Nat) : Bool :=
  touches a n 0x2000000 0x2200000 || touches a n 0x4000000 0x8400000 || touches a n 0x10130000 0x10140000

/-- What the debug master reaches before a level is granted (R482). -/
def debugOpen (a n : Nat) : Bool :=
  within a n 0x10000000 0x10000800 || within a n 0x1001E000 0x10020000 ||
    within a n 0x100008E0 0x10000900

/-- Why the debug master may not make an access of unit space: 0 for none, else a status of R157 or 3 for not
authorised (R480 to R483). -/
def State.debugReach (s : State) (a n : Nat) (write : Bool) : Nat :=
  if debugOpen a n then 0
  else if !s.dbgMay 1 then 3
  else if write && !s.dbgMay 2 then 0x82
  else if touches a n 0x4000000 0x8400000 && !s.dbgMay 2 then 0x82
  else if write && touches a n 0x2000000 0x2200000 && !s.dbgMay 3 then 0x82
  else 0

/-- Why an access of `n` bytes at unit address `a` is refused: 0 for none, else the status (R21, R157). -/
def State.reach (s : State) (w : Who) (m : Option Msg) (a n : Nat) (write : Bool) : Nat :=
  if !inUnitMap a || !inUnitMap (a + n - 1) then 0x81
  else if w.id == 0x400 && w.dev == s.device then if debugOnly a n then 0x82 else 0
  else if w.id == 0x403 && w.dev == s.device then s.debugReach a n write
  else if closedRange a n || benchQueues a n then 0x82
  else if s.standing w a n write || s.granted w m a n write then 0
  else 0x82

/-! ### Islands (R48, R51 to R53) -/

/-- The clocked island that holds a register block of unit space (R48). -/
def islandOf (a : Nat) : Option Nat :=
  if 0x2000000 ≤ a ∧ a < 0x2200000 then some 2
  else
    match a / 0x10000 with
    | 0x1003 => some 0
    | 0x1004 => some 9
    | 0x1005 | 0x1006 | 0x1007 => some 1
    | 0x100C | 0x100D => some 5
    | 0x100E => some 6
    | 0x100F => some 7
    | 0x1010 => some 8
    | 0x1013 => some 4
    | 0x1015 => some 3
    | _ => none

/-- The island whose clocks are recovered from SerDes signals: feed and link ports (R48, R52). -/
def serdesIsland : Nat := 5

/-- The receive clock of the feed or link port whose registers lie at `a` is recovered from a signal that is absent:
each feed port holds a quarter of its block, and the link ports' block is taken as one (R22, R48, R52, log 122). -/
def State.deadAt (s : State) (a : Nat) : Bool :=
  if a / 0x10000 = 0x100C then !(s.feed (a % 0x10000 / 0x4000)).up
  else if a / 0x10000 = 0x100D then !((List.range 4).any fun p => (s.port p).up)
  else false

/-- The clock of the island that holds `a` runs, and both sides of its crossing have resynchronised their FIFO
pointers: an access into it need not wait (R51 to R53). -/
def State.islandRuns (s : State) (a : Nat) : Bool :=
  !s.deadAt a && (islandOf a).all fun i => !s.pace.stoppedIslands.contains i && !s.pace.resync.contains i

/-- An access into island `i` has the stopped clock start, and passes once the pointers are resynchronised (R51, R53). -/
def State.startIsland (s : State) (i : Nat) : State :=
  { s with pace := { s.pace with
      stoppedIslands := s.pace.stoppedIslands.filter (· != i), wakeAsked := s.pace.wakeAsked.filter (· != i)
      resync := s.pace.resync.filter (· != i) } }

/-- The island that holds `a` is awake. -/
def State.crossed (s : State) (a : Nat) : State :=
  if s.islandRuns a then s else match islandOf a with
    | some i => s.startIsland i
    | none => s

/-- An access that waits at the crossing into the island that holds `a` asks a stopped clock to start (R51). -/
def State.askWake (s : State) (a : Nat) : State :=
  match islandOf a with
  | some i =>
    if s.pace.stoppedIslands.contains i && !s.pace.wakeAsked.contains i then
      { s with pace := { s.pace with wakeAsked := s.pace.wakeAsked ++ [i] } }
    else s
  | none => s

/-- The crossbar port of a unit address (R151). -/
def unitPort (a : Nat) : Nat :=
  let o := a % 0x10000
  if a < 0x800000 then 17
  else if a < 0x1400000 then 19
  else if a < 0x2200000 then 22
  else if a < 0x8400000 then (a - 0x4000000) / 0x400000
  else
    match a / 0x10000 with
    | 0x1008 => 18
    | 0x1009 => if o < 0x4400 then o / 0x400 else if o < 0x4C00 then 17 else (o - 0x4C00) / 4 % 16
    | 0x100A => 19
    | 0x100B => 17
    | 0x100C => 19
    | 0x100D => 20
    | 0x100E => 19
    | 0x100F => 19
    | 0x1011 => o / 0x1000
    | 0x1012 => if o < 0x8000 then o / 0x800 else 16
    | 0x1015 => 19
    | _ => 22

/-! ### Register accesses (R16, R21, R26) -/

/-- A tile that sends nothing: a fenced one (R166), or one that serves no logical tile and so has no owner ID to
carry as SRC_ID (R16). -/
def State.silentTile (s : State) (p : Nat) : Bool := s.isFenced p || (s.identOf p).isNone

/-- A master carries an ID of the owner table, a tile that of the logical tile it serves, and a unit no physical tile
(R16, R146). -/
def State.genuine (s : State) (w : Who) : Bool :=
  inOwnerTable w.id &&
    (if w.dev == s.device && decide (w.id < 0x400) then
      decide (w.phys < 1088) && !s.silentTile w.phys && s.ownerOf w.phys == w.id
    else w.phys == 0x7FF)

/-- The bench queues are closed to others than the firmware, and the debug block to others than the debug master (R177,
R484). -/
def regOpen (id a : Nat) : Bool :=
  (id == 0x400 || !benchQueues a 4) && (id == 0x403 || !touches a 4 0x10130000 0x10140000)

/-- An aligned word of the register blocks (R22). -/
def isReg (a : Nat) : Bool := a % 4 == 0 && decide (0x10000000 ≤ a ∧ a < 0x10160000)

/-- BAR0 shows the register at `a` (R26, R384). -/
def inBar0 (a : Nat) : Bool := within a 4 0x10000000 0x10000A00 || within a 4 0x10010000 0x10014000

/-- The units' own paths: the engine and the feed ports to the pool (R198, R199), the service port to its mailbox's
registers (R472). -/
def ownPath (id a : Nat) : Bool :=
  (a / 0x10000 == 0x100A && (id == 0x420 || decide (0x430 ≤ id ∧ id ≤ 0x433))) || (id == 0x402 && inDoorbell a 4)

/-- A master reaches `n` bytes of registers at `a`: the firmware, the debug master at its level, the host through
BAR0, a unit by its own path, or the holder of a window (R16, R22, R26). -/
def State.mayReach (s : State) (w : Who) (a n : Nat) (write : Bool) : Bool :=
  ownPath w.id a || (w.id == 0x401 && w.dev == s.device && inBar0 a) || (regOpen w.id a && s.reach w none a n write == 0)

/-- An access of `n` bytes to registers at `a` acts as it comes: the device works, its master is one and reaches them,
and it need not wait at a crossing. -/
def State.reaches (s : State) (w : Who) (a n : Nat) (write : Bool) : Bool :=
  s.live && s.genuine w && s.mayReach w a n write && s.islandRuns a

/-- A host access outside its windows, or one that ended in error (R27, R466). -/
def State.hostError (s : State) : State :=
  { s with mgmt := { s.mgmt with hostErrors := inc32 s.mgmt.hostErrors } }.fire 289

/-- A crossing into the clocked islands, in fault records (R140, R324). -/
def crossUnit : Nat := 0x8000 + 22

/-- The line judge reports the crossing into the island that holds `a`, whose clock cannot start (R52, R318); ARG as
LINE_JUDGE_STALL gives it. -/
def State.crossFails (s : State) (a : Nat) : State := s.report 2 crossUnit 0xFFFF 0 (2 * (islandOf a).getD 0)

/-- A write ends with an error: line 12 of a tile, source 289 and the count of the host (R21, R27). -/
def State.writeFails (s : State) (w : Who) : State :=
  if w.dev ≠ s.device then s
  else if w.phys < 1088 then s.setLine w.phys 12
  else if w.id = 0x401 then s.hostError
  else s

/-- A register row: a write by `w` at `a` does `f`.  It has no effect in a hold or a sleep state or by what is no
master, waits for a clock that can start, and ends with an error outside its master's reach or where the clock cannot
start (R16, R21, R26, R51, R52, log 123). -/
def State.regWrite (s : State) (w : Who) (a n : Nat) (f : State → State) : State :=
  if !(s.live && s.genuine w) then s
  else if !s.mayReach w a n true then s.writeFails w
  else if s.deadAt a then (s.crossFails a).writeFails w
  else f (s.crossed a)

/-- SRC_ID, SRC_PHYS and TAG of an action read; a gate operation reads with its tile's. -/
def State.readerOf (s : State) : AskBy → Nat × Nat × Nat
  | .gate p n => (s.ownerOf p, p, n)
  | .access i p t => (i, p, t)

/-- The DONE that answers a read of `n` bytes (R147). -/
def State.answerRead (s : State) (by_ : AskBy) (v n : Nat) : State :=
  let r := s.readerOf by_
  { s with replies := s.replies ++ [{ kind := .done, dstPhys := r.2.1, dstId := r.1, tag := r.2.2
                                      cap := if r.2.1 < 1088 then s.capOf r.1 else 0
                                      status := 0, data := leBytes v n, badCrc := false }] }

/-- The reader of an action read on this device, or on another one. -/
def State.askerWho (s : State) (by_ : AskBy) (dev : Nat) : Who :=
  let i := s.readerOf by_
  { id := i.1, phys := i.2.1, tag := i.2.2, dev := dev }

/-- The ERROR that answers a read (R147, R157). -/
def State.failRead (s : State) (by_ : AskBy) (status : Nat) : State :=
  let r := s.readerOf by_
  { s with replies := s.replies ++ [{ kind := .error, dstPhys := r.2.1, dstId := r.1, tag := r.2.2
                                      cap := if r.2.1 < 1088 then s.capOf r.1 else 0
                                      status := status, data := [], badCrc := false }] }

/-- A register row: a read of `n` bytes at `a`, which `f` performs, is answered with its value; in error otherwise, as
`regWrite` (R7, R21, R26, R51, R52). -/
def State.regRead (s : State) (by_ : AskBy) (dev a n : Nat) (f : State → State × Nat) : State :=
  let w := s.askerWho by_ dev
  if !(s.live && s.genuine w) then s
  else if !s.mayReach w a n false then s.failRead by_ 0x82
  else if s.deadAt a then (s.crossFails a).failRead by_ 0x85
  else
    let r := f (s.crossed a)
    r.1.answerRead by_ r.2 n

end Sys2Proof.Machine
end

