-- ==== Sys2Proof/Machine/Queues.lean ====
section
/-! DEFINITION. The buffer pool (R198 to R201) and the hardware queues (R177 to R188): the operations that
instructions, register accesses and hardware producers share, and the rows of the queues and the pool. -/

namespace Sys2Proof.Machine

/-! ### Action reads (R176) -/

/-- The stored outcome of a master's previous action read with the same tag. -/
def storedRead (l : List LastRead) (srcId srcPhys tag : Nat) : Option Nat :=
  match l.find? fun r => r.srcId == srcId && r.srcPhys == srcPhys with
  | some r => if r.tag = tag then some r.outcome else none
  | none => none

/-- Remember a master's action read. -/
def noteRead (l : List LastRead) (srcId srcPhys tag outcome : Nat) : List LastRead :=
  ⟨srcId, srcPhys, tag, outcome⟩ :: l.filter fun r => !(r.srcId == srcId && r.srcPhys == srcPhys)

/-! ### The buffer pool -/

/-- The free count (R198). -/
def Pool.freeCount (l : Pool) : Nat := 2048 - l.fresh + l.freed.length
/-- Owner of buffer `n`; 0x4FF when free. -/
def Pool.ownerOf (l : Pool) (n : Nat) : Nat := tget 0x4FF n l.owner
/-- Generation of buffer `n`. -/
def Pool.genOf (l : Pool) (n : Nat) : Nat := tget 0 n l.gen
/-- The handle of buffer `n`. -/
def Pool.handle (l : Pool) (n : Nat) : Nat := l.genOf n * 2048 + n

/-- The readers that the reserve does not bind (R198). -/
def reserveFree (o : Nat) : Bool := o == 0x420 || decide (0x430 ≤ o ∧ o ≤ 0x433)

/-- Crossbar port of the pool in fault records (R151, R324). -/
def poolUnit : Nat := 0x8000 + 19

/-- Words of a memory that hold an uncorrectable error after a write of `n` bytes at `a`: those written whole
are good again (R319). -/
def writtenBad (bad : List Nat) (a n : Nat) : List Nat :=
  bad.filter fun w => !(decide (a ≤ 4 * w) && decide (4 * w + 4 ≤ a + n))

/-- Write bytes into the port buffer memory. -/
def State.writeBuf (s : State) (a : Nat) (bytes : List Byte) : State :=
  { s with
    bufMem := memWrite 0 s.bufMem a bytes
    faults := { s.faults with badBuf := writtenBad s.faults.badBuf a bytes.length } }

/-- Take the oldest-freed buffer for owner `o`: its handle, or none with EMPTY set (R198, R200). -/
def State.take (s : State) (o : Nat) : State × Option Nat :=
  let l := s.pool
  let n := l.freeCount
  if n = 0 || (n ≤ l.reserve && !reserveFree o) then
    let s1 := { s with pool := { l with err := l.err ||| 8, cntEmpty := inc16 l.cntEmpty } }
    (if l.evctl.getLsbD 3 then s1.report 15 poolUnit 0xFFFF 0 3 else s1, none)
  else
    let b := if l.fresh < 2048 then l.fresh else l.freed.headD 0
    let l1 :=
      if l.fresh < 2048 then { l with fresh := l.fresh + 1, owner := tput b o l.owner }
      else { l with freed := l.freed.drop 1, owner := tput b o l.owner }
    let low := decide (l.low ≤ n) && decide (n - 1 < l.low)
    let s1 := { s with pool := if low then { l1 with err := l1.err ||| 16 } else l1 }
    (if low && l.evctl.getLsbD 4 then s1.report 15 poolUnit 0xFFFF 0 4 else s1, some (l.handle b))

/-- The checks of R199 in their order: 1 DOUBLE, 2 FOREIGN, 3 STALE, 0 when the operation passes. -/
def Pool.check (l : Pool) (caller handle : Nat) (dest : Option Nat) : Nat :=
  let b := handle % 2048
  let g := handle / 2048 % 32
  if l.ownerOf b == 0x4FF && g == (l.genOf b + 31) % 32 then 1
  else if g != l.genOf b then 3
  else if l.ownerOf b != caller || dest.any (fun o => !inOwnerTable o) then 2
  else 0

/-- Record a refusal and fire its source (R199). -/
def State.poolRefuse (s : State) (cause op caller handle : Nat) : State :=
  let l := s.pool
  let bit := if cause = 1 then 0 else if cause = 2 then 1 else 2
  let l1 := { l with
    err := l.err ||| (1 <<< bit)
    cntDouble := if cause = 1 then inc16 l.cntDouble else l.cntDouble
    cntForeign := if cause = 2 then inc16 l.cntForeign else l.cntForeign
    cntStale := if cause = 3 then inc16 l.cntStale else l.cntStale
    offender := w32 (cause * 2 ^ 30 + op * 2 ^ 28 + caller % 4096 * 2 ^ 16 + handle % 65536) }
  let s1 := { s with pool := l1 }
  if l.evctl.getLsbD bit then s1.report (12 + bit) poolUnit 0xFFFF 0 handle else s1

/-- Free a buffer (R198, R199). -/
def State.poolFreeOp (s : State) (caller handle : Nat) : State :=
  let l := s.pool
  let c := l.check caller handle none
  if c ≠ 0 then s.poolRefuse c 0 caller handle
  else
    let b := handle % 2048
    { s with pool := { l with
        owner := tdel b l.owner
        gen := tput b ((l.genOf b + 1) % 32) l.gen
        freed := l.freed ++ [b]
        enginePushed := l.enginePushed.filter (· != b) } }

/-- Give a buffer to another owner (R198, R199). -/
def State.poolGiveOp (s : State) (caller handle dest : Nat) : State :=
  let l := s.pool
  let c := l.check caller handle (some dest)
  if c ≠ 0 then s.poolRefuse c 1 caller handle
  else { s with pool := { l with owner := tput (handle % 2048) dest l.owner } }

/-- Whether a give passes the checks. -/
def State.giveOk (s : State) (caller handle dest : Nat) : Bool := s.pool.check caller handle (some dest) == 0

/-- The word that POOL_TAKE returns (R201). -/
def takeWord : Option Nat → Nat
  | none => 0
  | some h => 2 ^ 31 + h

/-- An action read of POOL_TAKE (R176, R198) for `owner`: the state and the value read. -/
def State.readTake (s : State) (owner srcId srcPhys tag : Nat) : State × Nat :=
  match storedRead s.pool.lastReads srcId srcPhys tag with
  | some v => (s, v)
  | none =>
    let r := s.take owner
    let v := takeWord r.2
    ({ r.1 with pool := { r.1.pool with
        lastReads := noteRead r.1.pool.lastReads srcId srcPhys tag v } }, v)

/-! ### Queue notices (R183, R186, R225) -/

/-- Bit of the queue in QUEUE_SUMMARY (R186). -/
def Queue.summary (v : Queue) : Bool := v.sticky &&& v.en != 0

/-- The source that changes from `a` to `b` of queue `q` fire: a court's summary when the queue's bit
rises (R186), or a record queue's source for each enabled sticky bit that rises (R225). -/
def State.queueNotices (s : State) (q : Nat) (a b : Queue) : State :=
  let s1 := s.setQueue q b
  if q < 256 then s1.fireIf (!a.summary && b.summary) (492 + q / 16)
  else if 272 ≤ q then s1.fireIf (b.sticky &&& ~~~ a.sticky &&& b.en != 0) (224 + (q - 272))
  else s1

/-- Both banks empty. -/
def Queue.isEmpty (v : Queue) : Bool := v.fill.isEmpty && v.drain.isEmpty

/-- Whether a push is accepted (R178, R202). -/
def Queue.hasRoom (v : Queue) : Bool := v.isEmpty || decide (v.fill.length < 32)

/-- The queue after an accepted push (R178, R183, R184, R185).  DEDUCED: the timer starts whatever QUEUE_TAIL.LIMIT is, so
that a LIMIT written later counts from the start (log 147). -/
def Queue.push (v : Queue) (now : Nat) (e : W32) : Queue :=
  if v.isEmpty then
    { v with drain := [e], pushCnt := v.pushCnt + 1, sticky := v.sticky ||| 1, tailStart := some now }
  else
    let fill := v.fill ++ [e]
    { v with fill := fill, pushCnt := v.pushCnt + 1
             sticky := if fill.length = 32 then v.sticky ||| 2 else v.sticky }

/-- Push into queue `q`: accepted, or refused with REFUSED and the counter (R178, R179, R187). -/
def State.qPush (s : State) (q : Nat) (e : W32) : State × Bool :=
  let v := s.queue q
  if v.hasRoom then
    let v1 := v.push s.now e
    let s1 := s.queueNotices q v v1
    (if v.isEmpty && v.line10 && decide (v.owner < 1024) then s1.setLineL v.owner 10 else s1, true)
  else
    (s.queueNotices q v { v with sticky := v.sticky ||| 16, refCnt := inc16 v.refCnt }, false)

/-- A push that the queue refuses whatever its room (R177, R179). -/
def State.qRefuse (s : State) (q : Nat) : State :=
  let v := s.queue q
  s.queueNotices q v { v with sticky := v.sticky ||| 16, refCnt := inc16 v.refCnt }

/-- The tag byte and entry of a pop, with the queue after it (R180, R181, R183 to R185). -/
def Queue.pop (v : Queue) (now : Nat) : Queue × Option (Nat × W32) :=
  let v1 := if v.drain.isEmpty then { v with drain := v.fill, fill := [] } else v
  match v1.drain with
  | [] => (v, none)
  | e :: r =>
    let v2 := { v1 with drain := r, popCnt := v1.popCnt + 1, tailStart := some now }
    let v3 :=
      if r.isEmpty then
        if v2.fill.length = 32 then { v2 with drain := v2.fill, fill := [], sticky := v2.sticky ||| 4 }
        else { v2 with sticky := v2.sticky ||| 4 }
      else v2
    (v3, some (v.popCnt.toNat % 128 * 2 + 1, e))

/-- Pop queue `q`. -/
def State.qPop (s : State) (q : Nat) : State × Option (Nat × W32) :=
  let v := s.queue q
  let r := v.pop s.now
  (s.queueNotices q v r.1, r.2)

/-- The 64-bit word of a pop: tag, data, zeros (R181). -/
def popWord : Option (Nat × W32) → Nat
  | none => 0
  | some (t, e) => t + 256 * e.toNat

/-- An action read of QUEUE_POP (R176, R181). -/
def State.readPop (s : State) (q srcId srcPhys tag : Nat) : State × Nat :=
  match storedRead (s.queue q).lastReads srcId srcPhys tag with
  | some v => (s, v)
  | none =>
    let r := s.qPop q
    let v := popWord r.2
    let w := r.1.queue q
    (r.1.setQueue q { w with lastReads := noteRead w.lastReads srcId srcPhys tag v }, v)

/-- A flush (R182, R188): both banks empty, counters unchanged. -/
def State.qFlush (s : State) (q : Nat) : State := s.setQueue q { s.queue q with fill := [], drain := [] }

/-- A hardware producer's push of an entry whose bits [15:0] are a handle: held while the queue has no
room, else the buffer goes to OWNER first when GIVE is set (R179, R187). -/
def State.hwPush (s : State) (q : Nat) (e : W32) (producer : Nat) : State × Bool :=
  let v := s.queue q
  if v.hasRoom then
    let s1 := if v.give then s.poolGiveOp producer (fld e 0 16) v.owner else s
    ((s1.qPush q e).1, true)
  else (s, false)

/-- A write to QUEUE_PUSH (R177, R179, R188). -/
def State.writePush (s : State) (q : Nat) (e : W32) (master : Nat) : State :=
  if q < 256 then (s.qPush q e).1
  else if master != 0x400 then if 272 ≤ q then s.qRefuse q else s
  else (s.qPush q e).1

/-! ### Gate operations (R173 to R175) -/

/-- The record of a gate operation. -/
def mkResult (res : Nat) (data : W32) (opnum : Nat) : Result :=
  { res := BitVec.ofNat 8 res, data := data, opnum := BitVec.ofNat 16 opnum }

/-- Store the record of physical tile `p` at queue `q` (R174). -/
def State.setQResult (s : State) (q p : Nat) (r : Result) : State :=
  let v := s.queue q
  s.setQueue q { v with results := tput p r v.results }

/-- A QPUSH applied at its queue: the record, or none for the error 0x82 of the bench queues (R177). -/
def State.gatePush (s : State) (q p opnum : Nat) (e : W32) : State × Option Result :=
  if 256 ≤ q && q < 272 then (s, none)
  else
    let r := if q < 256 then s.qPush q e else (s.qRefuse q, false)
    let rec_ := mkResult (b2n r.2) 0 opnum
    (r.1.setQResult q p rec_, some rec_)

/-- A QPOP applied at its queue (R177, R180, R181). -/
def State.gatePop (s : State) (q p opnum : Nat) : State × Option Result :=
  if 256 ≤ q && q < 272 then (s, none)
  else
    let r := s.qPop q
    let rec_ := match r.2 with
      | none => mkResult 0 0 opnum
      | some (t, e) => mkResult t e opnum
    (r.1.setQResult q p rec_, some rec_)

/-! ### Rows -/

/-- The address of a register of queue `q` (R22, R188). -/
def queueReg (q off : Nat) : Nat := 0x10090000 + 0x40 * q + off
/-- The address of a register of the pool (R22, R201). -/
def poolReg (off : Nat) : Nat := 0x100A0000 + off

/-- A gate operation of physical tile `p` takes effect: the device works and the tile serves a logical tile and is not
fenced (R16, R166, R173). -/
def State.gated (s : State) (p : Nat) : Bool := s.live && decide (p < 1088) && !s.silentTile p

/-- The effect `s'` of a gate operation of physical tile `p`. -/
def byTile (p : Nat) (s' s : State) : State := when_ (s.gated p) s' s

/-- QUEUE_PUSH (R178): by a gate operation, a hardware producer or a register write. -/
def execQueuePush (q : Nat) (entry : W32) (by_ : PushBy) (s : State) : Out :=
  ok (decide (q < 304)) <|
    match by_ with
    | .gate p opnum => byTile p (s.gatePush q p opnum entry).1 s
    | .hardware o => when_ (s.live && inOwnerTable o) (s.hwPush q entry o).1 s
    | .master o => s.regWrite (s.whoIs o) (queueReg q 0) 4 fun u => u.writePush q entry o

/-- QUEUE_POP (R180): by a gate operation or an action read; the bench queues answer only the firmware
(R177). -/
def execQueuePop (q : Nat) (by_ : AskBy) (s : State) : Out :=
  ok (decide (q < 304)) <|
    match by_ with
    | .gate p opnum => byTile p (s.gatePop q p opnum).1 s
    | .access i p t => s.regRead by_ s.device (queueReg q 8) 8 fun u => u.readPop q i p t

/-- FLUSH (R182, R188). -/
def execFlush (master q : Nat) (s : State) : Out :=
  ok (decide (q < 304)) <|
    s.regWrite (s.whoIs master) (queueReg q 0x10) 4 fun u => u.qFlush q

/-- QUEUE_TAIL_EXPIRY (R185): LIMIT has passed since the timer started; at most once in an interval. -/
def execQueueTailExpiry (q : Nat) (s : State) : Out :=
  let v := s.queue q
  let due := s.live && v.tailLimit != 0 && v.tailStart.any fun t => decide (v.tailLimit ≤ s.usSince t)
  let v1 := { v with tailStart := none }
  let v2 :=
    if v.isEmpty then v1
    else
      let v3 := { v1 with sticky := v1.sticky ||| 8 }
      if v.tailSwap && v.drain.isEmpty then { v3 with drain := v.fill, fill := [] } else v3
  ok (decide (q < 304)) (when_ due (s.queueNotices q v v2) s)

/-- POOL_TAKE (R198). -/
def execPoolTake (by_ : AskBy) (s : State) : Out :=
  let i := s.readerOf by_
  ok true (s.regRead by_ s.device (poolReg 0) 4 fun u => u.readTake i.1 i.1 i.2.1 i.2.2)

/-- POOL_GIVE (R199): [27:16] the new owner, [15:0] the handle. -/
def execPoolGive (master : Nat) (v : W32) (s : State) : Out :=
  ok true (s.regWrite (s.whoIs master) (poolReg 0xC) 4 fun u => u.poolGiveOp master (fld v 0 16) (fld v 16 12))

/-- POOL_FREE (R199). -/
def execPoolFree (master : Nat) (v : W32) (s : State) : Out :=
  ok true (s.regWrite (s.whoIs master) (poolReg 8) 4 fun u => u.poolFreeOp master (fld v 0 16))

end Sys2Proof.Machine
end

