-- ==== Sys2Proof/Machine/Dispatcher.lean ====
section
/-! DEFINITION. Court dispatchers (R189 to R197) and the restart of one physical tile (R13, R59, R138,
R170, R196), which an expired cancel limit causes. -/

namespace Sys2Proof.Machine

/-! ### Slots -/

/-- Slot `n`. -/
def Disp.slot (d : Disp) (n : Nat) : Slot := tget {} n d.slots
/-- Replace slot `n`. -/
def Disp.setSlot (d : Disp) (n : Nat) (v : Slot) : Disp := { d with slots := tput n v d.slots }

/-- A slot that runs or is being cancelled. -/
def Slot.busy (v : Slot) : Bool := v.st == .running || v.st == .cancelling

/-- A slot that ends with no tile. -/
def Slot.idle (v : Slot) : Slot := { v with st := .idle, tile := 0xFF, again := false }

/-- A slot that becomes Ready, in its place in the order (R191). -/
def Disp.makeReady (d : Disp) (n : Nat) : Disp :=
  { d with readySeq := d.readySeq + 1 }.setSlot n
    { d.slot n with st := .ready, tile := 0xFF, again := false, readyAt := d.readySeq }

/-- A discarded request (R189). -/
def Disp.discarded (d : Disp) : Disp := { d with discard := inc16 d.discard }

/-- A ready request (R189): the dispatcher and whether it was applied. -/
def Disp.ready (d : Disp) (n : Nat) : Disp × Bool :=
  let v := d.slot n
  match v.st with
  | .unset => (d.discarded, false)
  | .idle => (d.makeReady n, true)
  | .ready => (d, true)
  | .running => (d.setSlot n { v with again := true }, true)
  | .cancelling => (d.discarded, false)

/-- A cancel request (R189, R195): the dispatcher, whether it was applied, and the position whose line 15
is set. -/
def Disp.cancel (d : Disp) (n now : Nat) : Disp × Bool × Option Nat :=
  let v := d.slot n
  match v.st with
  | .unset => (d.discarded, false, none)
  | .idle => (d, true, none)
  | .ready => (d.setSlot n v.idle, true, none)
  | .running =>
    (d.setSlot n { v with
        st := .cancelling, again := false, cancelAt := now, cancelLimit := d.cancelLimit },
      true, some v.tile)
  | .cancelling => (d, true, none)

/-- The slot that the tile at a position runs, if any. -/
def Disp.runs (d : Disp) (pos : Nat) : Option Nat :=
  (d.slots.find? fun e => e.2.busy && e.2.tile == pos).map fun e => e.1

/-- TDONE from the tile at a position (R118, R189). -/
def Disp.tdone (d : Disp) (pos : Nat) : Disp :=
  match d.runs pos with
  | none => d
  | some n =>
    let v := d.slot n
    if v.st == .running && v.again then d.makeReady n else d.setSlot n v.idle

/-- A ready request at court `c`. -/
def State.dReady (s : State) (c n : Nat) : State × Bool :=
  let r := (s.disp c).ready n
  (s.setDisp c r.1, r.2)

/-- A cancel request at court `c`; line 15 of the running tile becomes pending. -/
def State.dCancel (s : State) (c n : Nat) : State × Bool :=
  let r := (s.disp c).cancel n s.now
  let s1 := s.setDisp c r.1
  (match r.2.2 with
   | none => s1
   | some pos => s1.setLineL (64 * c + pos) 15, r.2.1)

/-- TDONE of physical tile `p` at its court's dispatcher. -/
def State.dTdone (s : State) (c p : Nat) : State :=
  match s.identOf p with
  | some t => if t / 64 = c then s.setDisp c ((s.disp c).tdone (t % 64)) else s
  | none => s

/-- Store the record of physical tile `p` at dispatcher `c` (R174). -/
def State.setDResult (s : State) (c p : Nat) (r : Result) : State :=
  let d := s.disp c
  s.setDisp c { d with results := tput p r d.results }

/-- TREADY, TCANCEL and TDONE applied at a dispatcher, with their records (R173, R174). -/
def State.gateReady (s : State) (c n p opnum : Nat) : State × Option Result :=
  let r := s.dReady c n
  let rec_ := mkResult (b2n r.2) 0 opnum
  (r.1.setDResult c p rec_, some rec_)

/-- A TREADY beaten by a cancel of its slot in the same resolution: discarded, with the race counted and 0x00 in
its record (R194). -/
def State.beaten (s : State) (c : Nat) : State :=
  let d := s.disp c
  s.setDisp c { d.discarded with race := inc16 d.race }

def State.gateBeaten (s : State) (c p opnum : Nat) : State × Option Result :=
  let rec_ := mkResult 0 0 opnum
  ((s.beaten c).setDResult c p rec_, some rec_)

def State.gateCancel (s : State) (c n p opnum : Nat) : State × Option Result :=
  let r := s.dCancel c n
  let rec_ := mkResult (b2n r.2) 0 opnum
  (r.1.setDResult c p rec_, some rec_)

def State.gateTdone (s : State) (c p opnum : Nat) : State × Option Result :=
  let rec_ := mkResult 1 0 opnum
  ((s.dTdone c p).setDResult c p rec_, some rec_)

/-! ### A tile's task ends with its tile (R196) -/

/-- The slot that logical tile `t` runs returns to Idle, whatever AGAIN holds. -/
def State.dropTask (s : State) (t : Nat) : State :=
  let c := t / 64
  let d := s.disp c
  match d.runs (t % 64) with
  | none => s
  | some n => s.setDisp c (d.setSlot n (d.slot n).idle)

/-! ### Restart of a tile -/

/-- Cold values of the items of R59 other than memory and shadow micro-ops; interface state stays with
the interface, and the tags of its requests rest (R13, R59, R138, R170). -/
def Tile.cold (t : Tile) (now : Nat) : Tile :=
  { mem := t.mem, bad := t.bad, fixes := t.fixes, shadow := t.shadow, opnum := t.opnum
    nextTag := t.nextTag, resting := t.resting ++ t.sends.map fun r => (r.tag, now), strayResp := t.strayResp }

/-- Write the shadow of an entry and commit it (R137). -/
def Tile.loadEntry (t : Tile) (e : Nat) (us : List W24) : Tile :=
  ({ t with shadow :=
      (List.range 16).foldl (fun m i => tput (16 * e + i) ((us[i]?).getD 0) m) t.shadow }).commitEntry e

/-- The firmware applies the entries that it keeps for logical tile `t` (R138). -/
def State.applyKept (s : State) (l : Option Nat) (t : Tile) : Tile :=
  match l with
  | none => t
  | some n => (tget [] n s.boot.keptEntries).foldl (fun t e => t.loadEntry e.1 e.2) t

/-- The tile after a restart; lines 8 and 10 are Cold too, and become pending again once they are enabled while
their conditions persist (R59, R79). -/
def State.restartedTile (s : State) (p : Nat) (started : Bool) : Tile :=
  let t := (s.tile p).cold s.now
  if !started then t
  else if s.mgmt.restarting then { t with run := .resetWait }
  else { s.applyKept (s.identOf p) t with run := .running }

/-- A tile restart (R13, R138, R196): a started tile resumes at 0x0000 once its kept entries are applied,
a stopped one stays stopped, and the task it ran ends. -/
def State.restartTile (s : State) (p : Nat) : State :=
  let t1 := s.restartedTile p ((s.tile p).run != .stopped)
  let s1 := s.setTile p t1
  match s.identOf p with
  | none => s1
  | some l => s1.dropTask l

/-! ### Choice of a tile (R190 to R193) -/

/-- A physical tile can take a task (R190). -/
def State.canTake (s : State) (p : Nat) : Bool :=
  ((s.tile p).run == .running || (s.tile p).run == .sleeping) && !s.isFenced p

/-- Whether position `pos` of court `c` is eligible for a slot of class `k` (R190). -/
def State.eligible (s : State) (c k pos : Nat) : Bool :=
  let d := s.disp c
  let cls : BitVec 64 := tget (if k = 0 then BitVec.allOnes 64 else 0) k d.classes
  d.tiles.getLsbD pos && cls.getLsbD pos && (d.runs pos).isNone &&
    (s.physOf (64 * c + pos)).any s.canTake

/-- Number of the sensor at a grid corner point, where one sits (R193). -/
def sensorAt (i j : Nat) : Option Nat :=
  if j = 0 then if 1 ≤ i ∧ i ≤ 3 then some (i - 1) else none
  else if j ≤ 3 then if i ≤ 4 then some (3 + 5 * (j - 1) + i) else none
  else if j = 4 then if 1 ≤ i ∧ i ≤ 3 then some (17 + i) else none
  else none

/-- Sensors whose higher reading a quadrant takes: its corner point's, or at a corner of the grid the two
next to it. The bench takes sensors 18 to 20. -/
def quadSensors (court qx qy : Nat) : List Nat :=
  if 16 ≤ court then [18, 19, 20]
  else
    let i := court % 4 + qx
    let j := court / 4 + qy
    match sensorAt i j with
    | some k => [k]
    | none =>
      (sensorAt (if i = 0 then 1 else 3) j).toList ++ (sensorAt i (if j = 0 then 1 else 3)).toList

/-- The higher of some readings. -/
def maxReading (l : List Int) : Int :=
  match l with
  | [] => 0
  | a :: r => r.foldl max a

/-- The keys of R193 for a position: temperature bin, pace, busy share, rotation; the smaller is the
better. -/
def State.placeKeys (s : State) (c pos : Nat) : List Int :=
  let d := s.disp c
  let p := (s.physOf (64 * c + pos)).getD 0
  let court := p / 64
  let qx := p % 8 / 4
  let qy := p % 64 / 8 / 4
  let temp := maxReading ((quadSensors court qx qy).map fun k => (s.pace.placeTemps[k]?).getD 0)
  let pace := (s.pace.placePaces[4 * court + qx + 2 * qy]?).getD 0
  let busy := (s.pace.placeBusy[p]?).getD 0
  let rot : Int := ((pos + 127 - d.lastPos) % 64 : Nat)
  match d.place with
  | 0 => [temp / 20, -(pace : Int), (busy : Int), rot]
  | 1 => [(pos : Int)]
  | _ => [rot]

/-- Lexicographic order of key lists. -/
def keysLt : List Int → List Int → Bool
  | a :: r, b :: q => decide (a < b) || (a == b && keysLt r q)
  | _, _ => false

/-- The best of some positions. -/
def State.bestPos (s : State) (c : Nat) : List Nat → Option Nat
  | [] => none
  | a :: r =>
    match s.bestPos c r with
    | none => some a
    | some b => if keysLt (s.placeKeys c b) (s.placeKeys c a) then some b else some a

/-- The better of two Ready slots: lower PRIO, then earlier Ready (R191). -/
def slotBefore (a b : Nat × Slot) : Bool :=
  decide (a.2.prio < b.2.prio) || (a.2.prio == b.2.prio && decide (a.2.readyAt < b.2.readyAt))

/-- Insert a slot into its place in the order. -/
def insertSlot (a : Nat × Slot) : List (Nat × Slot) → List (Nat × Slot)
  | [] => [a]
  | b :: r => if slotBefore a b then a :: b :: r else b :: insertSlot a r

/-- Ready slots in the order of R191. -/
def Disp.readyOrder (d : Disp) : List (Nat × Slot) :=
  (d.slots.filter fun e => e.2.st == .ready).foldr insertSlot []

/-- The first Ready slot whose class has an eligible tile, and the tile chosen (R191 to R193). -/
def State.pick (s : State) (c : Nat) : Option (Nat × Nat) :=
  (s.disp c).readyOrder.findSome? fun e =>
    (s.bestPos c ((List.range 64).filter (s.eligible c e.2.cls))).map fun pos => (e.1, pos)

/-- The start reaches a physical tile: SYS_TASK, RUN and line 9 (R192). -/
def State.startTask (s : State) (p n : Nat) : State :=
  (s.setTile p ({ s.tile p with task := BitVec.ofNat 8 n, taskRun := true }.raise 9)).wakeCourt (p / 64)

/-! ### Rows -/

/-- The address of a register of the dispatcher of court `c` (R22, R197). -/
def dispReg (c off : Nat) : Nat := 0x10120000 + 0x800 * c + off

/-- DISP_READY (R189): a TREADY operation or a write of the register; `beaten` by a cancel of the slot in the same
resolution, it is discarded and the race counted (R194). -/
def execDispReady (c slot : Nat) (by_ : ReadyBy) (s : State) : Out :=
  ok (decide (c < 16) && decide (slot < 256)) <|
    match by_.asker with
    | .gate p opnum => byTile p (if by_.beaten then s.gateBeaten c p opnum else s.gateReady c slot p opnum).1 s
    | .access _ _ _ => s.regWrite (s.askerWho by_.asker s.device) (dispReg c 0x50) 4 fun u =>
      if by_.beaten then u.beaten c else (u.dReady c slot).1

/-- DISP_CANCEL (R189, R194): with a ready request in the same resolution whose own row does not tell it (a DBG_ACCESS),
that request is discarded and the race counted; TREADY, DISP_READY, WRITE, WRITE_FIXED and REGISTER_WRITE tell it. -/
def execDispCancel (c slot : Nat) (by_ : AskBy) (withReady : Bool) (s : State) : Out :=
  let raced (u : State) : State := if withReady then u.beaten c else u
  ok (decide (c < 16) && decide (slot < 256)) <|
    match by_ with
    | .gate p opnum => byTile p (raced s |>.gateCancel c slot p opnum).1 s
    | .access _ _ _ => s.regWrite (s.askerWho by_ s.device) (dispReg c 0x54) 4 fun u => ((raced u).dCancel c slot).1

/-- DISP_TDONE (R189). -/
def execDispTdone (c phys opnum : Nat) (s : State) : Out :=
  ok (decide (c < 16) && decide (phys < 1088)) (byTile phys (s.gateTdone c phys opnum).1 s)

/-- DISPATCH (R192): a Ready slot starts on the best eligible tile; a duplex tile starts on both. -/
def execDispatch (c : Nat) (s : State) : Out :=
  let d := s.disp c
  let s' :=
    match s.pick c with
    | none => s
    | some (n, pos) =>
      let s1 := s.setDisp c
        { d.setSlot n { d.slot n with st := .running, tile := pos, again := false } with
          lastPos := pos }
      match s.physOf (64 * c + pos) with
      | none => s1
      | some p =>
        let s2 := s1.startTask p n
        match tfind? (64 * c + pos) s.gates.duplex with
        | some x => s2.startTask x.partner n
        | none => s2
  ok (decide (c < 16)) (when_ (d.en && !s.dbgBlock.frost && s.power.st == .run && !s.inHold) s' s)

/-- CANCEL_LIMIT_EXPIRY (R195): a tile restart, the slot Idle, the count, source 23 and its record. The
limits are held in frost (R487).  DESIGN CHOICE: of a duplex logical tile only the primary restarts (log 148). -/
def execCancelLimitExpiry (c slot : Nat) (s : State) : Out :=
  let d := s.disp c
  let v := d.slot slot
  let due := v.st == .cancelling && decide (v.cancelLimit ≤ s.usSince v.cancelAt) && !s.dbgBlock.frost && s.live
  let l := 64 * c + v.tile
  let s1 := s.setDisp c { d.setSlot slot v.idle with expired := inc16 d.expired }
  let s2 :=
    match s.physOf l with
    | none => s1
    | some p => (s1.restartTile p).report 23 p l 3 slot
  ok (decide (c < 16) && decide (slot < 256)) (when_ due s2 s)

end Sys2Proof.Machine
end

