-- ==== Sys2Proof/Machine/Interface.lean ====
section
/-! DEFINITION. The tile's network interface and the court gates: injection of requests (R150, R157,
R158), duplex numbering and divergence (R333 to R338), gate operations (R173 to R175), requests served at
a tile (R160 to R167, R509), responses (R156, R159, R166) and completion (R159, R162). -/

namespace Sys2Proof.Machine

/-! ### Duplex pairs -/

/-- What an owning gate compares of a request (R336). -/
def sigOf (m : Msg) : ReqSig :=
  { kind := m.kind, dev := m.dev, space := m.space, addr := m.addr, crc := crc16 m.data }

/-- What physical tile `p` is to its owning gate. -/
inductive Role where
  | single
  | primary (t : Nat) (d : Duplex)
  | partner (t : Nat) (d : Duplex)
  | catchUp (d : Duplex)
  deriving DecidableEq, Repr

/-- The role of physical tile `p` (R333, R337). -/
def State.roleOf (s : State) (p : Nat) : Role :=
  match s.duplexOf p with
  | some (t, d) => if d.primary = p then .primary t d else .partner t d
  | none =>
    match tfind? p s.gates.catchUp with
    | some d => .catchUp d
    | none => .single

/-- Replace the pair of logical tile `t`. -/
def State.setDuplex (s : State) (t : Nat) (d : Duplex) : State :=
  { s with gates := { s.gates with duplex := tput t d s.gates.duplex } }

/-- Replace what a promoted tile still has to catch up on; nothing once it has. -/
def State.setCatchUp (s : State) (p : Nat) (d : Duplex) : State :=
  { s with gates := { s.gates with
      catchUp := if d.nPart < d.nDone then tput p d s.gates.catchUp else tdel p s.gates.catchUp } }

/-- Start a pair at an instruction boundary: the partner takes the primary's memory and architectural
state (R333). -/
def State.pair (s : State) (t partner : Nat) (auto : Bool) : State :=
  match s.physOf t with
  | none => s
  | some p =>
    let s1 := s.setTile partner
      { s.tile p with sends := [], resting := [], strayResp := 0, bad := [], fixes := (s.tile partner).fixes }
    { s1 with gates := { s1.gates with serves := tput partner none s1.gates.serves } }.setDuplex t
      { primary := p, partner := partner, auto := auto, nPrim := 0, nPart := 0, log := [], held := []
        outcomes := [], tags := [], nDone := 0 }

/-- Source 22 as the free spares, `n` before, fall to 4 and as they reach 0 (R332). -/
def State.noteBench (s : State) (n : Nat) : State :=
  let m := s.freeSpares.length
  let s1 := if 4 < n ∧ m ≤ 4 then s.report 22 0xFFFF 0xFFFF 0 m else s
  if 0 < n ∧ m = 0 then s1.report 22 0xFFFF 0xFFFF 0 m else s1

/-- A change that may take free spares. -/
def State.withBench (s : State) (f : State → State) : State := (f s).noteBench s.freeSpares.length

/-- A new pair of logical tile `t` may begin: its primary stands at an instruction boundary, and has caught up with the
primary that it followed (R333, R337). -/
def State.mayPair (s : State) (t : Nat) : Bool :=
  (s.physOf t).all fun p =>
    ((s.tile p).run != .running || (s.tile p).atBoundary) && (tfind? p s.gates.catchUp).isNone

/-- With AUTO, the firmware re-pairs a logical tile with the lowest free spare, once its primary is at a boundary and no
management restart runs (R333, R338). -/
def State.rePair (s : State) (t : Nat) (auto : Bool) : State :=
  if !auto || (s.physOf t).isNone || (tfind? t s.gates.duplex).isSome then s
  else if s.mgmt.restarting || !s.mayPair t then
    { s with faults := { s.faults with rePairs := s.faults.rePairs ++ [(t, true)] } }
  else
    match s.freeSpares.head? with
    | some q => s.withBench fun u => u.pair t q true
    | none => s

/-- Fence a physical tile (R166): one more send-off of it (R330). -/
def State.fence (s : State) (p : Nat) : State :=
  if s.isFenced p then s
  else
    let g := s.gates
    { s with gates := { g with
        fenced := g.fenced ++ [p], offCount := tput p (tget 0 p g.offCount + 1) g.offCount } }

/-- The partner of logical tile `t` is fenced and the primary carries on (R336, R338). -/
def State.dropPartner (s : State) (t : Nat) (d : Duplex) : State :=
  let s1 := s.fence d.partner
  { s1 with gates := { s1.gates with duplex := tdel t s1.gates.duplex } }.rePair t d.auto

/-- A divergence: source 21 fires and the partner is fenced (R336). -/
def State.diverge (s : State) (t : Nat) (d : Duplex) : State :=
  (s.report 21 d.partner t 0 0).dropPartner t d

/-- The response by which the gate answers an absorbed request: DONE, or the ERROR that its primary's drew (R335). -/
def State.absorb (s : State) (p tag : Nat) (outcome : Nat × List Byte) : State :=
  { s with replies := s.replies ++
      [{ kind := if outcome.1 = 0 then .done else .error, dstPhys := p, dstId := s.ownerOf p, tag := tag
         cap := s.capOf (s.ownerOf p), status := outcome.1, data := outcome.2, badCrc := false }] }

/-- A read of an action register of the unit map: QUEUE_POP, POOL_TAKE, SER_RX or MBX_TAKE (R176). -/
def ReqSig.isAction (m : ReqSig) : Bool :=
  m.space == 1 && m.kind == .read &&
    ((decide (0x10090000 ≤ m.addr ∧ m.addr < 0x10094C00) && m.addr % 0x40 == 8) ||
      m.addr == 0x100A0000 ||
      (decide (0x10070000 ≤ m.addr ∧ m.addr < 0x10080000) && m.addr % 0x100 == 0xC) ||
      (decide (0x10000800 ≤ m.addr ∧ m.addr < 0x10000900) && m.addr % 0x20 == 0x10))

/-- A request that reads an action register. -/
def isAction (m : Msg) : Bool := (sigOf m).isAction

/-- Requests that the gate answers itself for a partner (R335). -/
def ReqSig.absorbed (g : ReqSig) : Bool :=
  match g.kind with
  | .read => g.isAction
  | _ => true

/-- A request that the gate answers itself for a partner. -/
def absorbed (m : Msg) : Bool := (sigOf m).absorbed

/-- Put a request into the network. -/
def State.fly (s : State) (m : Msg) : State := { s with flight := s.flight ++ [m] }

/-- A request of physical tile `p` leaves its interface (R150, R166, R334 to R336). -/
def State.inject (s : State) (p : Nat) (m : Msg) : State :=
  if s.silentTile p then s
  else
    match s.roleOf p with
    | .single => s.fly m
    | .primary t d =>
      let k := d.nPrim + 1
      let d1 := { d with nPrim := k, log := tput k (sigOf m) d.log, tags := tput m.tag k d.tags }
      match tfind? k d.held with
      | none => (s.setDuplex t d1).fly m
      | some (g, tag) =>
        let d2 := { d1 with held := tdel k d.held }
        if g = sigOf m then
          if isAction m then (s.setDuplex t d1).fly m
          else if m.kind = .read then (s.setDuplex t d2).fly m
          else ((s.setDuplex t d2).fly m).absorb d.partner tag (0, [])
        else (s.fly m).diverge t d2
    | .partner t d =>
      let k := d.nPart + 1
      let d1 := { d with nPart := k, log := tdel k d.log }
      match tfind? k d.log with
      | none =>
        let s1 := s.setDuplex t { d1 with held := tput k (sigOf m, m.tag) d.held }
        if absorbed m then s1 else s1.fly m
      | some g =>
        if g = sigOf m then
          if !absorbed m then (s.setDuplex t d1).fly m
          else
            match m.kind with
            | .read =>
              match tfind? k d.outcomes with
              | some o => (s.setDuplex t d1).absorb p m.tag o
              | none => s.setDuplex t { d1 with held := tput k (g, m.tag) d.held }
            | _ => (s.setDuplex t d1).absorb p m.tag (0, [])
        else s.diverge t d1
    | .catchUp d =>
      let k := d.nPart + 1
      let s1 := s.setCatchUp p { d with nPart := k }
      if absorbed m then s1.absorb p m.tag ((tfind? k d.outcomes).getD (0, [])) else s1.fly m

/-- Keep the last 16 outcomes (R335). -/
def keepOutcome (k : Nat) (o : Nat × List Byte) (m : Table (Nat × List Byte)) : Table (Nat × List Byte) :=
  let l := tput k o m
  l.drop (l.length - 16)

/-- The gate keeps the outcome of an action read of a primary, and gives it to a partner that waits. -/
def State.noteOutcome (s : State) (p tag : Nat) (o : Nat × List Byte) : State :=
  match s.roleOf p with
  | .primary t d =>
    match tfind? tag d.tags with
    | none => s
    | some k =>
      let d1 := { d with outcomes := keepOutcome k o d.outcomes }
      match tfind? k d.held with
      | some (_, ptag) =>
        (s.setDuplex t { d1 with held := tdel k d.held }).absorb d.partner ptag o
      | none => s.setDuplex t d1
  | _ => s

/-- The request of a primary with a tag is an action read of which the gate knows no outcome. -/
def Duplex.unknown (d : Duplex) (tag : Nat) : Bool :=
  match tfind? tag d.tags with
  | none => false
  | some k => (tfind? k d.outcomes).isNone && ((tfind? k d.log).any ReqSig.isAction || (tfind? k d.held).isSome)

/-- An action read of a primary that ended without an outcome gives its final status to the partner (R335). -/
def State.noteFailure (s : State) (p tag status : Nat) : State :=
  match s.roleOf p with
  | .primary _ d => if d.unknown tag && status != 0 then s.noteOutcome p tag (status, []) else s
  | _ => s

/-- The gate notes that a primary's request has completed (R337). -/
def State.noteDone (s : State) (p tag : Nat) : State :=
  match s.roleOf p with
  | .primary t d =>
    match tfind? tag d.tags with
    | none => s
    | some k => s.setDuplex t { d with nDone := max d.nDone k, tags := tdel tag d.tags }
  | _ => s

/-! ### Gate operations -/

/-- A GATE_OP payload (R173). -/
def gatePayload (opc target : Nat) (entry : W32) (opnum : Nat) : List Byte :=
  BitVec.ofNat 8 opc :: 0 :: leBytes target 2 ++ leBytes entry.toNat 4 ++ leBytes opnum 2 ++ [0, 0]

/-- A result record as bytes (R174). -/
def Result.bytes (r : Result) : List Byte :=
  r.res :: leBytes r.data.toNat 4 ++ 0 :: leBytes r.opnum.toNat 2

/-- A result record from bytes. -/
def Result.ofBytes (bs : List Byte) : Result :=
  { res := sliceB bs 0 1 |>.headD 0, data := w32 (leAt bs 1 4), opnum := BitVec.ofNat 16 (leAt bs 6 2) }

/-- OPC, TARGET, ENTRY and OPNUM of a GATE_OP payload; none for an undefined OPC or a reserved byte that is not
zero (R173). -/
def gateDecode (bs : List Byte) : Option (Nat × Nat × W32 × Nat) :=
  let opc := leAt bs 0 1
  if bs.length = 12 ∧ 1 ≤ opc ∧ opc ≤ 5 ∧ leAt bs 1 1 = 0 ∧ leAt bs 10 2 = 0 then
    some (opc, leAt bs 2 2, w32 (leAt bs 4 4), leAt bs 8 2)
  else none

/-- The result record of physical tile `p` at the queue or dispatcher with registers at `addr` (R174). -/
def State.recordAt (s : State) (addr p : Nat) : Result :=
  if addr < 0x10120000 then tget {} p (s.queue ((addr - 0x10090000) / 0x40)).results
  else tget {} p (s.disp ((addr - 0x10120000) / 0x800)).results

/-- The record that the READ behind GATE_OP number `n` finds, where its OPNUM matches (R175). -/
def State.outcomeOf (s : State) (addr p n : Nat) : Option Result :=
  let r := s.recordAt addr p
  if r.opnum.toNat = n then some r else none

/-- What `gateOp` compares of a duplex tile's GATE_OP. -/
def gateSig (s : State) (addr opc target : Nat) (entry : W32) (opnum : Nat) : ReqSig :=
  { kind := .gateOp, dev := s.device, space := 1, addr := addr
    crc := crc16 (gatePayload opc target entry opnum) }

/-- A gate operation of physical tile `p`, with the READ that fetches its record (R173, R175, R335): the
state and the record, with no record where the GATE_OP drew an error.  A request that the partner has had held under its
number is another one, so the pair diverges (R336).  None: the tile still waits (fenced,
or a partner ahead of its primary). -/
def State.gateOp (s : State) (p addr opc target : Nat) (entry : W32)
    (apply : State → Nat → State × Option Result) : Option (State × Option Result) :=
  if s.silentTile p then none
  else
    let n := (s.tile p).opnum
    let s0 := s.setTile p { s.tile p with opnum := n + 1 }
    let sig := gateSig s addr opc target entry n.toNat
    match s.roleOf p with
    | .single => some (apply s0 n.toNat)
    | .primary t d =>
      let k := d.nPrim + 1
      let r := apply s0 n.toNat
      let d1 := { d with
        nPrim := k + 1, nDone := k + 1
        log := tput k sig (tput (k + 1) { sig with kind := .read, crc := crc16 [] } d.log)
        outcomes := match r.2 with
          | some x => keepOutcome k (0, x.bytes) d.outcomes
          | none => d.outcomes }
      some (if (tfind? k d.held).isSome then r.1.diverge t d1 else r.1.setDuplex t d1, r.2)
    | .partner t d =>
      let k := d.nPart + 1
      match tfind? k d.log with
      | none => none
      | some g =>
        let d1 := { d with nPart := k + 1, log := tdel (k + 1) (tdel k d.log) }
        if g = sig then
          some (s0.setDuplex t d1, (tfind? k d.outcomes).map fun o => Result.ofBytes o.2)
        else some (s0.diverge t d1, none)
    | .catchUp d =>
      let k := d.nPart + 1
      some (s0.setCatchUp p { d with nPart := k + 1 }, (tfind? k d.outcomes).map fun o => Result.ofBytes o.2)

/-! ### SEND (R157, R158) -/

/-- The first tag from `next` on in rotation that is free, of 256 (R176). -/
def freeTag? (next : Nat) (free : Nat → Bool) : Option Nat :=
  ((List.range 256).map fun i => (next + i) % 256).find? free

/-- The next tag in rotation that is neither outstanding nor resting (R158, R170, R176). -/
def Tile.newTag (t : Tile) : Nat :=
  (freeTag? t.nextTag fun n => !(t.sends.any fun r => r.tag == n) && (tfind? n t.resting).isNone).getD t.nextTag

/-- A descriptor that SEND refuses with cause 0xA (R158). -/
def descBad (d : List Byte) : Bool :=
  let op := leAt d 0 1
  let len := leAt d 2 2
  op % 4 == 3 || bitsOf op 2 5 != 0 || leAt d 12 4 != 0 || len == 0 ||
    (op % 4 == 2 && decide (256 < len)) || decide (2048 < len)

/-- The physical tile to which a tile's interface routes a request directly: one of its own physical court, by its
position table (R150), in which a duplex tile is invalid (R334). -/
def State.directTo (s : State) (p dev space addr : Nat) : Option Nat :=
  if dev = s.device ∧ space = 0 then (s.physOf (addr / 65536 % 1024)).filter fun q =>
    q / 64 == p / 64 && (tfind? (addr / 65536 % 1024) s.gates.duplex).isNone
  else none

/-- The request that a descriptor asks for. -/
def State.sendMsg (s : State) (p : Nat) (r : SendReq) : Msg :=
  let t := s.tile p
  let o := s.ownerOf p
  let kind := if r.op % 4 = 0 then MsgKind.write else if r.op % 4 = 1 then .read else .msg
  { kind := kind, len := r.len, srcId := o, srcPhys := p, srcDev := s.device, tag := r.tag
    cap := s.capOf o, chk := false, dev := r.target / 2 ^ 34, space := r.target / 2 ^ 32 % 4
    addr := r.target % 2 ^ 32, data := if r.op % 4 = 1 then [] else t.bytes r.loc r.len
    badCrc := false
    phys := s.directTo p (r.target / 2 ^ 34) (r.target / 2 ^ 32 % 4) (r.target % 2 ^ 32) }

/-- The payload of a WRITE or MSG meets an uncorrectable error (R159). -/
def Tile.payloadBad (t : Tile) (r : SendReq) : Bool := r.op % 4 != 1 && t.anyBad r.loc r.len

/-- Store a request's final status for SEND_COMPLETION to write. -/
def Tile.finish (t : Tile) (tag status : Nat) : Tile :=
  { t with sends := t.sends.map fun r => if r.tag = tag then { r with final := some status } else r }

/-- Bytes of the payload flits before the first that meets an uncorrectable error. -/
def Tile.goodBytes (t : Tile) (r : SendReq) : Nat :=
  4 * ((List.range ((r.len + 3) / 4)).takeWhile fun k =>
    !t.anyBad (r.loc + BitVec.ofNat 16 (4 * k)) (min 4 (r.len - 4 * k))).length

/-- Send a request by `put`.  Where its payload cannot be read, it completes with 0x83 and source 6 fires; the flits
of a WRITE before the bad word go out in a worm that the interface closes with ABANDON (R159). -/
def State.sendBy (s : State) (p : Nat) (r : SendReq) (put : State → Msg → State) : State :=
  if (s.tile p).payloadBad r then
    let m := s.sendMsg p r
    let n := (s.tile p).goodBytes r
    let s1 := if m.kind = .write ∧ n ≠ 0 then put s { m with data := m.data.take n, cut := true } else s
    (s1.setTile p ((s1.tile p).finish r.tag 0x83)).report 6 p (s.ownerOf p) 0 r.loc.toNat
  else put s (s.sendMsg p r)

/-- Inject a request. -/
def State.issue (s : State) (p : Nat) (r : SendReq) : State := s.sendBy p r fun u m => u.inject p m

/-- SEND of the descriptor at `a` (R158): the state with the guard written. -/
def State.sendAt (s : State) (p : Nat) (a : W16) (g : Fin 8) : State :=
  let t := s.tile p
  let d := t.bytes a 16
  if 16 ≤ t.sends.length then s.setTile p (t.setG g false)
  else
    let tag := t.newTag
    let r : SendReq :=
      { tag := tag, op := leAt d 0 1 % 4, desc := a, len := leAt d 2 2, target := leAt d 4 6
        loc := BitVec.ofNat 16 (leAt d 10 2), notify := bitAt (leAt d 0 1) 7, resends := 0
        since := s.now, final := none }
    let t1 := (t.store (a + 1) 0xFF).setG g true
    (s.setTile p { t1 with nextTag := (tag + 1) % 256, sends := t.sends ++ [r] }).issue p r

/-! ### The receive ring (R160 to R163) -/

/-- Why a ring entry is not written. -/
inductive RingRes where
  | wrote (t : Tile) | full | off | bad

/-- An entry header (R160). -/
def ringHeader (etype srcId len dev x cap : Nat) : List Byte :=
  leBytes (etype % 16 * 4096 + srcId % 4096) 2 ++ leBytes len 2 ++ leBytes (dev % 16384) 2 ++
    [BitVec.ofNat 8 x, BitVec.ofNat 8 cap]

/-- Write bytes of an entry; words covered only in part must hold no uncorrectable error (R509). -/
def Tile.netStore (t : Tile) (a : W16) (bs : List Byte) : Option Tile :=
  if t.storeBad a bs.length then none else some ((t.storeBytes a bs).freshen a bs.length)

/-- A pad entry's header (R160); the fields that R160 leaves open for it hold a free byte. -/
def padHeader (len : Nat) (x : Byte) : List Byte :=
  x :: (0xF0 ||| (x &&& 0x0F)) :: leBytes len 2 ++ [x, x, x, x]

/-- Place an entry, after a pad entry where it would run past the end (R161).  DESIGN CHOICE: a SYS_RXTAIL at or past the
ring size counts modulo that size for the free space (R77, log 145). -/
def Tile.ringPut (t : Tile) (free : Byte) (entry : List Byte) : RingRes :=
  if t.rxLog = 0 then .off
  else
    let size := 2 ^ t.rxLog
    let head := t.rxHead.toNat % size
    let used := (head + size - t.rxTail.toNat % size) % size
    let need := (entry.length + 7) / 8 * 8
    let pad := if size < head + need then size - head else 0
    if size < used + pad + need + 8 then .full
    else
      let base := t.rxBase
      let t1 := if pad = 0 then some t
        else t.netStore (base + BitVec.ofNat 16 head) (padHeader (pad - 8) free)
      let at_ := if pad = 0 then head else 0
      match t1.bind fun u => u.netStore (base + BitVec.ofNat 16 at_) entry with
      | none => .bad
      | some u => .wrote ({ u with rxHead := BitVec.ofNat 16 ((at_ + need) % size) }.raise 8)

/-! ### Requests served at a tile -/

/-- The response to a request (R145, R146). -/
def mresp (m : Msg) (kind : RespKind) (status : Nat) (data : List Byte) : Resp :=
  { kind := kind, dstPhys := m.srcPhys, dstId := m.srcId, tag := m.tag, cap := m.cap
    status := status, data := data, badCrc := false, hub := m.hub }

/-- DONE without data. -/
def mok (m : Msg) : Resp := mresp m .done 0 []
/-- ERROR with a status of R157. -/
def merr (m : Msg) (status : Nat) : Resp :=
  mresp m .error status [BitVec.ofNat 8 status, 0, 0, 0]

/-- A request fails its cap check: a tile of this device with a cap other than the mirror's (R166). -/
def State.stale (s : State) (m : Msg) : Bool :=
  decide (m.srcId < 0x400) && m.srcDev == s.device && m.cap != s.capOf m.srcId

/-- A stale request: source 3 and the drop counter of the checking court (R167). -/
def State.staleDrop (s : State) (m : Msg) (court : Nat) : State :=
  let g := s.gates
  { s with gates := { g with drops := tput court (tget 0 court g.drops + 1) g.drops } }.report 3
    m.srcPhys m.srcId 0 court

/-- Apply the flits of a WRITE in order from offset `a`; with the number of those applied when one meets a word that
it cannot merge (R164, R509). `whole` lists the words that the data covers whole. -/
def Tile.applyFlits (t : Tile) (whole : List Nat) : Nat → Nat → W16 → List Byte → Tile × Option Nat
  | 0, _, _, _ => (t, none)
  | fuel + 1, n, a, bs =>
    match bs with
    | [] => (t, none)
    | _ =>
      let flit := bs.take 4
      let bad := (List.range flit.length).any fun i =>
        let w := wordOf (a + BitVec.ofNat 16 i)
        t.bad.contains w && !whole.contains w
      if bad then (t, some n)
      else (t.storeBytes a flit).applyFlits whole fuel (n + 1) (a + 4) (bs.drop 4)

/-- A remote WRITE of a tile's memory: the words that the flits applied cover whole take fresh ECC. -/
def Tile.netWrite (t : Tile) (a : W16) (bs : List Byte) : Tile × Bool :=
  let r := t.applyFlits (wholeWords a bs.length) (bs.length + 1) 0 a bs
  match r.2 with
  | none => (r.1.freshen a bs.length, true)
  | some n => (r.1.freshen a (4 * n), false)

/-- Beats of a WRITE_FIXED at one address (R147). -/
def Tile.netBeats (t : Tile) (a : W16) : Nat → List Byte → Tile × Bool
  | 0, _ => (t, true)
  | n + 1, bs =>
    let r := t.netWrite a (bs.take 8)
    if r.2 then r.1.netBeats a n (bs.drop 8) else r

/-- A request of kind WRITE, READ, WRITE_FIXED, MSG or EVENT at physical tile `p`, whose court leaves lull (R44, R89). -/
def State.serveAt (s0 : State) (m : Msg) (p : Nat) : State × Resp :=
  let s := s0.wakeCourt (p / 64)
  let t := s.tile p
  let off : W16 := BitVec.ofNat 16 m.addr
  match m.kind with
  | .write =>
    let r := t.netWrite off m.data
    let s1 := s.setTile p r.1
    if r.2 then (s1, mok m) else (s1.report 6 p (s.ownerOf p) 0 off.toNat, merr m 0x83)
  | .writeFixed =>
    let r := t.netBeats off ((m.data.length + 7) / 8) m.data
    let s1 := s.setTile p r.1
    if r.2 then (s1, mok m) else (s1.report 6 p (s.ownerOf p) 0 off.toNat, merr m 0x83)
  | .read =>
    if t.anyBad off m.len then (s.report 6 p (s.ownerOf p) 0 off.toNat, merr m 0x83)
    else (s, mresp m .done 0 (t.bytes off m.len))
  | .msg =>
    match t.ringPut (Config.freeByte s.free) (ringHeader 0 m.srcId m.data.length m.srcDev m.tag m.cap ++ m.data) with
    | .off => (s, merr m 0x8A)
    | .full => (s, merr m 0x89)
    | .bad => (s.report 6 p (s.ownerOf p) 0 t.rxHead.toNat, merr m 0x83)
    | .wrote t1 => ({ s.setTile p t1 with free := s.free + 1 }, mok m)
  | .event => (s.setLine p ((m.data.headD 0).toNat % 8), mok m)
  | _ => (s, merr m 0x8C)

/-- A request for logical tile `t` at the router of physical tile `p`: a fence answers it (R166), the interface
checks the cap where no gate has set CHK (R145, R166, R167), and the tile serves it, on both tiles of a duplex pair
(R155, R334). -/
def State.routedAt (s : State) (m : Msg) (t p : Nat) : State × Resp :=
  if s.isFenced p then (s, merr m 0x8B)
  else if !m.chk && s.stale m then (s.staleDrop m (p / 64), merr m 0x87)
  else
    match m.kind with
    | .gateOp => (s, merr m 0x81)
    | .other _ => (s, merr m 0x8C)
    | k =>
      if m.badCrc && (k == .msg || k == .event) then (s, mresp m .retry 0 [])
      else
        let r := s.serveAt m p
        let s1 :=
          match tfind? t s.gates.duplex with
          | some d => if k == .read then r.1 else (r.1.serveAt m d.partner).1
          | none => r.1
        if m.badCrc then (s1, mresp m .retry 0 []) else (s1, r.2)

/-- A request at a tile's router, with the tile that its response comes from. -/
def State.serveRouted (s : State) (m : Msg) (t p : Nat) : State × Resp :=
  let r := s.routedAt m t p
  (r.1, { r.2 with fromPhys := p })

/-- A request in tile space (R21, R150, R151, R166, R167): one that its sender's interface routed directly goes to
the tile resolved then; any other is resolved by the owning gate, and the gate of the tile's physical court checks
its cap and sets CHK as it forwards it into its mesh (log 99). -/
def State.serveTile (s : State) (m : Msg) : State × Resp :=
  let t := m.addr / 65536 % 1024
  if m.addr / 2 ^ 26 != 0 then (s, merr m 0x81)
  else
    match m.phys with
    | some p => s.serveRouted m t p
    | none =>
      match s.physOf t with
      | none => (s, merr m 0x8B)
      | some p =>
        if s.stale m then (s.staleDrop m (p / 64), merr m 0x87)
        else s.serveRouted { m with chk := true } t p

/-- A GATE_OP at the gate that its address names, performed whole after a good tail (R147, R173, R177). -/
def State.serveGate (s : State) (m : Msg) : State × Resp :=
  if m.badCrc then (s, mresp m .retry 0 [])
  else
    match gateDecode m.data with
    | none => (s, merr m 0x81)
    | some (opc, target, entry, n) =>
      if decide (opc ≤ 2) && m.addr == 0x10090000 + 0x40 * target && decide (target < 304) then
        let r := if opc = 1 then s.gatePush target m.srcPhys n entry else s.gatePop target m.srcPhys n
        (r.1, if r.2.isSome then mok m else merr m 0x82)
      else if decide (3 ≤ opc) && decide (0x10120000 ≤ m.addr ∧ m.addr < 0x10128000) && decide (target < 256) then
        let c := (m.addr - 0x10120000) / 0x800
        ((match opc with
          | 3 => s.gateReady c target m.srcPhys n
          | 4 => s.gateCancel c target m.srcPhys n
          | _ => s.gateTdone c m.srcPhys n).1, mok m)
      else (s, merr m 0x81)

/-! ### Responses at a tile (R156, R166, R509) -/

/-- The outstanding request with a tag. -/
def Tile.outstanding (t : Tile) (tag : Nat) : Option SendReq :=
  t.sends.find? fun r => r.tag == tag && r.final.isNone

/-- Whether a tile accepts a response (R166).  DEDUCED: the cap is held against every response, so an ERROR 0x87, which
echoes the request's old cap, is discarded at an unfenced sender whose cap has changed, R167 notwithstanding (log 146). -/
def State.accepts (s : State) (r : Resp) : Option SendReq :=
  let t := s.tile r.dstPhys
  if !s.isFenced r.dstPhys && r.cap == s.capOf (s.ownerOf r.dstPhys) then t.outstanding r.tag else none

/-- A response that is not accepted is discarded and counted; the router of a fenced tile drops it. -/
def State.stray (s : State) (p : Nat) : State :=
  if s.isFenced p then s
  else s.setTile p { s.tile p with strayResp := (s.tile p).strayResp + 1 }

/-- READ data reaches LOCAL: bytes of words that cannot be merged are left out (R509). -/
def Tile.readBack (t : Tile) (a : W16) (bs : List Byte) : Tile × Bool :=
  let skip := (partWords a bs.length).filter fun w => t.bad.contains w
  let t1 := ((List.range bs.length).zip bs).foldl
    (fun u e =>
      let b := a + BitVec.ofNat 16 e.1
      if skip.contains (wordOf b) then u else u.store b e.2) t
  (t1.freshen a bs.length, skip.isEmpty)

/-- A request completes at its tile. -/
def State.finishAt (s : State) (p tag status : Nat) : State :=
  ((s.setTile p ((s.tile p).finish tag status)).noteFailure p tag status).noteDone p tag

/-- A resend of R156, or completion with 0x88 and source 7 after three. -/
def State.resendOr (s : State) (p : Nat) (q : SendReq) (may : Bool) : State :=
  if may && decide (q.resends < 3) then
    let q1 := { q with resends := q.resends + 1, since := s.now }
    let t := s.tile p
    let s1 := s.setTile p
      { t with sends := t.sends.map fun x => if x.tag = q.tag then q1 else x }
    let s2 := s1.sendBy p q1 fun u m => if u.isFenced p then u else u.fly m
    if t.payloadBad q1 then s2.noteDone p q.tag else s2
  else (s.finishAt p q.tag 0x88).report 7 p (s.ownerOf p) 0 0x88

/-- DONE at a tile. -/
def State.doneAt (s : State) (r : Resp) : State :=
  let p := r.dstPhys
  match s.accepts r with
  | none => s.stray p
  | some q =>
    if r.badCrc then s.resendOr p q (q.op % 4 != 2)
    else if q.op % 4 = 1 then
      let b := (s.tile p).readBack q.loc (r.data.take q.len)
      let s1 := s.setTile p b.1
      if b.2 then s1.finishAt p q.tag 0
      else (s1.finishAt p q.tag 0x83).report 6 p (s.ownerOf p) 0 q.loc.toNat
    else s.finishAt p q.tag 0

/-- RETRY at a tile; a MSG whose response was corrupted is not sent again (R156). -/
def State.retryAt (s : State) (r : Resp) : State :=
  match s.accepts r with
  | none => s.stray r.dstPhys
  | some q => s.resendOr r.dstPhys q (!r.badCrc || q.op % 4 != 2)

/-- ERROR at a tile. -/
def State.errorAt (s : State) (r : Resp) : State :=
  match s.accepts r with
  | none => s.stray r.dstPhys
  | some q =>
    if r.badCrc then s.resendOr r.dstPhys q (q.op % 4 != 2)
    else s.finishAt r.dstPhys q.tag r.status

/-! ### Completion (R159, R160, R162) -/

/-- The completion entry of a request (R160). -/
def State.completionEntry (s : State) (p : Nat) (q : SendReq) (status : Nat) : List Byte :=
  ringHeader 1 (s.ownerOf p) 0 s.device status (q.desc.toNat % 256) ++ leBytes q.desc.toNat 8

/-- Write STATUS, then the completion entry; line 12 for a status other than 0x00 (R159). -/
def State.complete (s : State) (p : Nat) (q : SendReq) (status : Nat) : State :=
  let t := s.tile p
  let t1 := t.store (q.desc + 1) (BitVec.ofNat 8 status)
  let t2 := { t1 with
    sends := t.sends.filter (fun r => r.tag != q.tag)
    resting := if status = 0x85 then t.resting ++ [(q.tag, s.now)] else t.resting }
  let t3 := if status = 0 then t2 else t2.raise 12
  if q.notify then
    match t3.ringPut (Config.freeByte s.free) (s.completionEntry p q status) with
    | .wrote u => { s.setTile p u with free := s.free + 1 }
    | .bad => (s.setTile p t3).report 6 p (s.ownerOf p) 0 t3.rxHead.toNat
    | _ => s.setTile p t3
  else s.setTile p t3

/-- SEND_COMPLETION (R159): the interface writes the final status of the request with this tag. -/
def execSendCompletion (p tag : Nat) (s : State) : Out :=
  ok (decide (p < 1088)) <|
    match (s.tile p).sends.find? fun r => r.tag == tag && r.final.isSome with
    | none => s
    | some q => when_ s.running (s.complete p q (q.final.getD 0)) s

/-- A tag has rested for 10 µs (R170). -/
def State.rested (s : State) (l : Table Nat) (tag : Nat) : Bool :=
  l.any fun e => e.1 == tag && decide (10 ≤ s.usSince e.2)

/-- TAG_REST_EXPIRY (R170): after 10 µs a tag may be used again, by a tile, a DMA engine, the host port or the link
hub; the event router's responses are told by their source, and its tags do not rest. -/
def execTagRestExpiry (by_ : Requester) (tag : Nat) (s : State) : Out :=
  match by_ with
  | .tile p =>
    let t := s.tile p
    ok (decide (p < 1088)) (when_ (s.rested t.resting tag && s.live) (s.setTile p { t with resting := tdel tag t.resting }) s)
  | .dma e =>
    let v := s.dmaE e
    ok (decide (e < 16)) (when_ (s.rested v.resting tag && s.live) (s.setDmaE e { v with resting := tdel tag v.resting }) s)
  | .host =>
    let h := s.host
    ok true (when_ (s.rested h.resting tag && s.live) { s with host := { h with resting := tdel tag h.resting } } s)
  | .hub =>
    let f := s.fabric
    ok true (when_ (s.rested f.hubResting tag && s.live) { s with fabric := { f with hubResting := tdel tag f.hubResting } } s)
  | .router => ok true s

end Sys2Proof.Machine
end

