-- ==== Sys2Proof/Machine/EventRouter.lean ====
section
/-! DEFINITION. The event router (R256 to R272): deliveries, hold-off, owners and its registers. -/

namespace Sys2Proof.Machine

/-- Crossbar port of the router in fault records (R151, R324). -/
def ioUnit : Nat := 0x8000 + 22

/-- EVR_TGTn (R271). -/
def Src.tgt (v : Src) : W32 :=
  w32 (v.kind * 2 ^ 30 + v.tile * 2 ^ 16 + v.line * 2 ^ 8 + v.vector)

/-- EVR_SRCn (R271). -/
def Src.reg (v : Src) : W32 :=
  w32 (b2n v.pend * 2 ^ 31 + b2n v.act * 2 ^ 30 + v.owner * 2 ^ 16 + v.fires.toNat)

/-- The group's interval is running (R263). -/
def Hold.busy (h : Hold) : Bool := h.start.isSome

/-- PEND = 1 and ACT = 0 (R258). -/
def State.deliverable (s : State) (n : Nat) : Bool := (s.src n).pend && !(s.src n).act

/-- Whether source `n` is the next of its group in rotation (R263). -/
def State.nextInGroup (s : State) (n : Nat) : Bool :=
  let g := n / 16
  let last := (s.hold g).last
  let dist (m : Nat) := (m % 16 + 31 - last) % 16
  ((List.range 16).map (16 * g + ·)).all fun m => !s.deliverable m || decide (dist n ≤ dist m)

/-- The EVENT message of a delivery (R260).  The router has no owner ID of its own; its requests carry
0x400. -/
def State.eventMsg (s : State) (n : Nat) : Msg :=
  let v := s.src n
  { kind := .event, len := 4, srcId := 0x400, srcPhys := 0x7FF, srcDev := s.device, tag := n % 256
    cap := 0, chk := false, dev := s.device, space := 0, addr := v.sentTile * 65536
    data := BitVec.ofNat 8 v.sentLine :: 0 :: leBytes n 2, badCrc := false }

/-- An MSI-X message of vector `v` may be sent (R467). -/
def HostPort.maySend (h : HostPort) (v : Nat) : Bool := h.msix && !h.fmask && h.bme && h.unmasked.contains v

/-- A message of vector `v` is sent, with the address and the data of its table entry, and its pending bit clears
(R465, R467). -/
def HostPort.send (h : HostPort) (v : Nat) : HostPort :=
  { h with
    sent := tput v (tget 0 v h.sent + 1) h.sent
    msgs := h.msgs ++ [(leNum (memRead 0 h.table (16 * v) 8), leNum (memRead 0 h.table (16 * v + 8) 4))], pba := h.pba.filter (· != v) }

/-- The host port takes a vector (R260, R467). -/
def State.hostVector (s : State) (v : Nat) : State :=
  { s with host :=
      if s.host.maySend v then s.host.send v
      else { s.host with pba := if s.host.pba.contains v then s.host.pba else s.host.pba ++ [v] } }

/-- A delivery of source `n` starts (R258, R260, R263); with EVENT packets on, trace shows it (R491). -/
def State.startDelivery (s : State) (n : Nat) : State :=
  let v := s.src n
  let h := s.hold (n / 16)
  let s1 := s.setSrc n
    { v with pend := false, act := true, sentAt := s.now, resentAt := s.now, resends := 0, retry := false
             sentKind := v.kind, sentTile := v.tile, sentLine := v.line }
  let s2 := s1.setHold (n / 16)
    { h with last := n % 16, start := if h.us = 0 then none else some s.now }
  let s3 := if s.dbgBlock.traceCtl.getLsbD 1 then s2.trace 2 n (leBytes v.tgt.toNat 4) else s2
  if v.kind = 1 then s3.fly (s3.eventMsg n)
  else if v.kind = 3 then s3.hostVector v.vector
  else s3

/-- The target confirms (R258): ACT clears and the delivery is counted. -/
def State.confirmDelivery (s : State) (n : Nat) : State :=
  let s1 := s.setSrc n { s.src n with act := false, retry := false }
  { s1 with router := { s1.router with deliv := s1.router.deliv + 1 } }

/-- A delivery is dropped (R261). -/
def State.dropDelivery (s : State) (n : Nat) : State :=
  let s1 := s.setSrc n { s.src n with act := false, retry := false }
  { s1 with router := { s1.router with
      lost := inc16 s1.router.lost, err := s1.router.err ||| 4 } }.report 17 ioUnit 0xFFFF 0 n

/-- A response that answers the EVENT of source `n`. -/
def respFor (r : Resp) (n : Nat) : Bool :=
  r.dstPhys == 0x7FF && r.dstId == 0x400 && r.data == leBytes n 2

/-- What an ERROR to the router does: a resend is due, or the delivery is dropped (R261). -/
def State.deliveryError (s : State) (n status : Nat) : State :=
  if !(s.src n).act then s
  else if status = 0x8B ∨ status = 0x84 ∨ status = 0x85 ∨ status = 0x88 then
    s.setSrc n { s.src n with retry := true }
  else s.dropDelivery n

/-- A RETRY, or a response with a bad CRC, reaches the router: three resends at most after a RETRY, then 0x88 and
source 7; after a corrupted response 0x88 at once (R156). -/
def State.deliveryRetry (s : State) (n : Nat) (may : Bool) : State :=
  let v := s.src n
  if may && decide (v.resends < 3) then
    (s.setSrc n { v with resends := v.resends + 1, resentAt := s.now }).fly (s.eventMsg n)
  else (s.deliveryError n 0x88).report 7 ioUnit 0xFFFF 0 0x88

/-- Masters that may write EVR_TGTn (R266). -/
def tgtMaster (master n : Nat) : Bool :=
  if n < 32 || (decide (80 ≤ n) && decide (n < 96)) then master == 0x400
  else if 508 ≤ n then master == 0x400 || master == 0x403
  else true

/-- Masters that may write EVR_HOLDg (R266). -/
def holdMaster (master g : Nat) : Bool :=
  if g = 0 ∨ g = 1 ∨ g = 5 then master == 0x400
  else if g = 31 then master == 0x400 || master == 0x403
  else true

/-- A write refused under R266: PROT, no source. -/
def State.evrProt (s : State) : State :=
  { s with router := { s.router with err := s.router.err ||| 8 } }

/-- A target write refused under R265 (cause 1) or R268 (cause 2). -/
def State.evrRefuse (s : State) (cause master n : Nat) : State :=
  { s with router := { s.router with
      err := s.router.err ||| (if cause = 1 then 2 else 1)
      offender := w32 (cause * 2 ^ 30 + master % 4096 * 2 ^ 16 + n) } }.report 17 ioUnit 0xFFFF 0 n

/-- A reserved bit, or a field that KIND does not use, is not zero (R268). -/
def badTgt (v : W32) : Bool :=
  let kind := fld v 30 2
  fld v 26 4 != 0 || fld v 11 5 != 0 || fld v 6 2 != 0 ||
    (kind != 1 && (fld v 16 10 != 0 || fld v 8 3 != 0)) || (kind != 3 && fld v 0 6 != 0)

/-- A write of EVR_TGTn (R265, R266, R268). -/
def State.writeTgt (s : State) (master n : Nat) (v : W32) : State :=
  let x := s.src n
  if !tgtMaster master n then s.evrProt
  else if !(x.owner == 0x4FF || x.owner == master || master == 0x400) then s.evrRefuse 1 master n
  else if badTgt v then s.evrRefuse 2 master n
  else
    let kind := fld v 30 2
    s.setSrc n { x with
      kind := kind, tile := fld v 16 10, line := fld v 8 3, vector := fld v 0 6
      owner := if kind = 0 then 0x4FF else master
      pend := if kind = 0 then false else x.pend }

/-- A write of EVR_FIREDw: ones clear the bits of sources that the writer owns or no one owns (R265). -/
def State.writeFired (s : State) (master w : Nat) (v : W32) : State :=
  (List.range 32).foldl (fun u i =>
    let n := 32 * w + i
    let x := u.src n
    if bitq v i && (x.owner == master || x.owner == 0x4FF || master == 0x400) && x.fired then
      u.setSrc n { x with fired := false }
    else u) s

/-- A write of EVR_HOLDg (R264, R266): an interval that has run for the new time ends at once. -/
def State.writeHold (s : State) (master g : Nat) (v : W32) : State :=
  if !holdMaster master g then s.evrProt
  else
    let us := fld v 0 16
    let h := s.hold g
    s.setHold g { h with
      us := us
      start := match h.start with
        | none => none
        | some t => if us ≤ s.usSince t then none else some t }

/-! ### Rows -/

/-- EVENT_FIRING (R256 to R258). -/
def execEventFiring (n : Nat) (s : State) : Out :=
  ok (decide (n < 512)) (when_ (!s.inHold) (s.fire n) s)

/-- DELIVERY_START (R258, R263). -/
def execDeliveryStart (n : Nat) (s : State) : Out :=
  let h := s.hold (n / 16)
  let due := s.deliverable n && !h.busy && (h.us == 0 || s.nextInGroup n) && s.power.st == .run
  ok (decide (n < 512)) (when_ due (s.startDelivery n) s)

/-- DELIVERY_CONFIRM (R258, R260): a tile's DONE, the firmware outside a management restart, or the host
port at once. -/
def execDeliveryConfirm (n : Nat) (s : State) : Out :=
  let v := s.src n
  let s' :=
    if !v.act then s
    else if v.sentKind = 1 then
      if s.replies.any fun r => respFor r n && r.kind == .done then
        { s with replies := s.replies.filter fun r => !respFor r n }.confirmDelivery n
      else s
    else if v.sentKind = 2 then if s.mgmt.up && !s.mgmt.restarting then s.confirmDelivery n else s
    else s.confirmDelivery n
  ok (decide (n < 512)) (when_ s.running s' s)

/-- DELIVERY_RESEND (R261): every 1 µs after an ERROR of the listed ones, with ACT held. -/
def execDeliveryResend (n : Nat) (s : State) : Out :=
  let v := s.src n
  let due := v.act && v.retry && decide (1 ≤ s.usSince v.resentAt)
  let s1 := s.setSrc n { v with retry := false, resentAt := s.now, resends := 0 }
  ok (decide (n < 512)) (when_ (due && s.running) (s1.fly (s.eventMsg n)) s)

/-- DELIVERY_TIMEOUT (R261): no DONE within 5 ms of the first send. -/
def execDeliveryTimeout (n : Nat) (s : State) : Out :=
  let v := s.src n
  let due := v.act && v.sentKind == 1 && decide (5000 ≤ s.usSince v.sentAt)
  ok (decide (n < 512)) (when_ (due && s.running) (s.dropDelivery n) s)

/-- HOLD_INTERVAL_END (R263). -/
def execHoldIntervalEnd (g : Nat) (s : State) : Out :=
  let h := s.hold g
  let due := h.start.any fun t => decide (h.us ≤ s.usSince t)
  ok (decide (g < 32)) (when_ (due && s.running) (s.setHold g { h with start := none }) s)

/-- EVR_TGT (R265, R266, R268). -/
def execEvrTgt (master n : Nat) (v : W32) (s : State) : Out :=
  ok (decide (n < 512)) (s.regWrite (s.whoIs master) (0x10021000 + 8 * n) 4 fun u => u.writeTgt master n v)

/-- EVR_FIRED (R265). -/
def execEvrFired (master w : Nat) (v : W32) (s : State) : Out :=
  ok (decide (w < 16)) (s.regWrite (s.whoIs master) (0x10020400 + 4 * w) 4 fun u => u.writeFired master w v)

/-- EVR_HOLD (R264, R266). -/
def execEvrHold (master g : Nat) (v : W32) (s : State) : Out :=
  ok (decide (g < 32)) (s.regWrite (s.whoIs master) (0x10020080 + 4 * g) 4 fun u => u.writeHold master g v)

end Sys2Proof.Machine
end

