-- ==== Sys2Proof/Machine/TimeUnit.lean ====
section
/-! DEFINITION. The time unit (R273 to R291) and the always-on counter's time (R282 to R286). -/

namespace Sys2Proof.Machine

/-! ### Counting (R273) -/

/-- Nearest integer to `a / b` for `b > 0`, halves away from zero. -/
def roundDiv (a : Int) (b : Nat) : Int :=
  if 0 ≤ a then (2 * a + b) / (2 * b) else -((2 * (-a) + b) / (2 * b))

/-- SLEW's share of one tick at 500 ppm, in 2⁻³² ns / 100 (R278). -/
def slewPerTick : Int := 1073741824

/-- SLEW's share of the next tick, in 2⁻³² ns / 100: 500 ppm in its direction, or the remainder (R278). -/
def TimeUnit.slewShare (t : TimeUnit) : Int :=
  if !t.slewOn then 0 else max (-slewPerTick) (min slewPerTick (t.slewLeft * 100))

/-- The increment of one tick in units of 2⁻³² ns, with a share of SLEW in hundredths of that unit (R273). -/
def TimeUnit.incrementWith (t : TimeUnit) (share : Int) : Nat :=
  let rate := t.newRate.getD t.rate
  (roundDiv (5 * 2 ^ 32 * (10 ^ 12 + rate) + share * 10 ^ 10) (10 ^ 12)).toNat

/-- The increment of the next tick in units of 2⁻³² ns (R273). -/
def TimeUnit.increment (t : TimeUnit) : Nat := t.incrementWith t.slewShare

/-- What the next tick absorbs of a slew: what SLEW adds to its increment, as rounded (R273, R278). -/
def TimeUnit.slewAbsorbed (t : TimeUnit) : Int := (t.increment : Int) - t.incrementWith 0

/-- NS and fraction in units of 2⁻³² ns. -/
def TimeUnit.units (t : TimeUnit) : Nat := t.ns * 2 ^ 32 + t.frac

/-- One second in units of 2⁻³² ns. -/
def secondUnits : Nat := 1000000000 * 2 ^ 32

/-- The amount of the next advance: a tick's increment, or a counter tick's in holdover (R273, R286). -/
def State.advance (s : State) : Nat :=
  if s.time.holdover then s.aon.rate * 2 ^ 16 else s.time.increment

/-- The next advance passes the end of the second. -/
def State.secondDue (s : State) : Bool := decide (secondUnits ≤ s.time.units + s.advance)

/-- The time after the next advance, whether or not it passes a second; the rate written and the slew take
their share, but for holdover (R273, R278, R286). -/
def State.advanced (s : State) : TimeUnit :=
  let t := s.time
  let u := t.units + s.advance
  let t1 := { t with
    sec := (t.sec + u / secondUnits) % 2 ^ 48
    ns := u % secondUnits / 2 ^ 32
    frac := u % 2 ^ 32 }
  if t.holdover then t1
  else { t1 with rate := t.newRate.getD t.rate, newRate := none, slewLeft := t.slewLeft - t.slewAbsorbed }

/-- SYNC packets: SEC and two zero bytes (R491). -/
def State.traceSync (s : State) : State := s.trace 0 0 (leBytes s.time.sec 6 ++ [0, 0])

/-! ### Alarms (R279 to R281) -/

/-- Device time in ns. -/
def TimeUnit.abs (t : TimeUnit) : Nat := t.sec * 1000000000 + t.ns
/-- An alarm's target in ns. -/
def Alarm.target (a : Alarm) : Nat := a.sec * 1000000000 + a.ns

/-- Disarm a one-shot alarm; move a periodic one's target past `now` (R280). -/
def Alarm.after (a : Alarm) (now : Nat) : Alarm :=
  if a.period = 0 then { a with armed := false }
  else
    let t := if now < a.target then a.target else a.target + ((now - a.target) / a.period + 1) * a.period
    { a with sec := t / 1000000000 % 2 ^ 48, ns := t % 1000000000 }

/-- Alarm `k` fires with its marks (R280). -/
def State.fireAlarm (s : State) (k : Nat) (late stepped : Bool) : State :=
  let a := s.alarm k
  let a1 := { a with
    fired := true, late := a.late || late, stepped := a.stepped || stepped, byStep := false }
  (s.setAlarm k (a1.after s.time.abs)).fire (64 + k)

/-- An alarm that fires now fires more than 2 µs after its target (R280). -/
def State.isLate (s : State) (a : Alarm) : Bool := decide (a.target + 2000 < s.time.abs)

/-- Alarms whose target lies after `old` and at or before the time fire with STEPPED, and with LATE where `late` or
where the time now lies more than 2 µs past the target; in frost they are held (R280, R281, R285).  Alarms converted
for wake are left to R439. -/
def State.stepAlarms (s : State) (old : Nat) (late : Bool) : State :=
  (List.range 8).foldl (fun u k =>
    let a := u.alarm k
    if a.armed && !a.converted && decide (old < a.target) && decide (a.target ≤ u.time.abs) then
      if s.dbgBlock.frost then u.setAlarm k { a with byStep := true } else u.fireAlarm k (late || u.isLate a) true
    else u) s

/-! ### Commits (R276) -/

/-- The time a commit gives, in whole ns, or none where it is refused: the result lies outside the range
of time. -/
def commitTime (c : Commit) (t : TimeUnit) : Option Nat :=
  if c.absolute then some (c.sec * 1000000000 + c.ns)
  else
    let v : Int := t.abs + sint 48 c.sec * 1000000000 + c.ns
    if v < 0 ∨ (2 ^ 48 : Int) * 1000000000 ≤ v then none else some v.toNat

/-- Set BADVAL. -/
def State.timeBad (s : State) : State :=
  { s with time := { s.time with err := s.time.err ||| 4 } }

/-- A refused staged commit leaves the tick's ordinary advance. -/
def State.plainTick (s : State) : State :=
  let s1 := { s with time := s.advanced }
  if s.secondDue then (s1.fire 72).traceSync else s1

/-- Apply a commit at its tick (R276, R278, R280). -/
def State.applyCommit (s : State) (c : Commit) : State :=
  let t := s.advanced
  let s0 := { s with time := { s.time with commit := none } }
  match commitTime c t with
  | none => s0.plainTick.timeBad
  | some v =>
    let t1 := { t with
      commit := none, sec := v / 1000000000, ns := v % 1000000000
      frac := if c.absolute then 0 else t.frac
      unknown := t.unknown && !c.absolute
      carried := t.carried && !c.absolute
      unc := if c.absolute then 0 else t.unc
      stepCnt := t.stepCnt + 1, slewOn := false, slewLeft := 0 }
    ({ s with time := t1 }.fire 75).stepAlarms s.time.abs false

/-- Stage a commit with the values in the staging registers (R276). -/
def State.writeCommit (s : State) (master code : Nat) : State :=
  let t := s.time
  if t.owner != master then { s with time := { t with err := t.err ||| 1 } }
  else if 999999999 < t.newNs || (code != 1 && code != 3) then s.timeBad
  else { s with time := { t with commit := some ⟨code == 1, t.newSec, t.newNs⟩ } }

/-- A write of TIME_RATE (R276, R290). -/
def State.writeRate (s : State) (master : Nat) (v : W32) : State :=
  let t := s.time
  let r := sint 32 v.toNat
  if t.owner != master then { s with time := { t with err := t.err ||| 1 } }
  else if r < -500000000 ∨ 500000000 < r then s.timeBad
  else { s with time := { t with newRate := some r } }

/-- A slew by an offset in ns (R278). -/
def State.startSlew (s : State) (offset : Int) : State :=
  { s with time := { s.time with slewLeft := offset * 2 ^ 32, slewOn := true } }

/-! ### Alarm registers (R279) -/

/-- Whether a master may write alarm `k`. -/
def State.alarmMaster (s : State) (master k : Nat) : Bool :=
  let o := (s.alarm k).owner
  o == 0x4FF || o == master || master == 0x400

/-- A write refused because another owner holds the alarm. -/
def State.alarmHeld (s : State) : State := { s with time := { s.time with err := s.time.err ||| 2 } }

/-- A write of ALM_CTL: RELEASE, then the W1C bits, then ARM (R279, R290).  An alarm that a step reached in frost and that
is disarmed or armed anew no longer fires for it (R280). -/
def State.writeAlmCtl (s : State) (master k : Nat) (v : W32) : State :=
  if !s.alarmMaster master k then s.alarmHeld
  else
    let a := s.alarm k
    let a1 := { a with
      byStep := a.byStep && a.armed && bitq v 31 && !bitq v 30
      late := a.late && !bitq v 2, stepped := a.stepped && !bitq v 1, fired := a.fired && !bitq v 0 }
    if bitq v 30 then s.setAlarm k { a1 with armed := false, owner := 0x4FF }
    else if bitq v 31 then
      if 999999999 < a.ns then (s.setAlarm k a1).timeBad
      else s.setAlarm k { a1 with armed := true, owner := if a.owner = 0x4FF then master else a.owner }
    else s.setAlarm k { a1 with armed := false }

/-- A write of ALM_NS, ALM_SEC_LO, ALM_SEC_HI or ALM_PERIOD (R279). -/
def State.writeAlm (s : State) (master k off : Nat) (v : W32) : State :=
  if !s.alarmMaster master k then s.alarmHeld
  else
    let a := s.alarm k
    if a.armed then s.timeBad
    else
      s.setAlarm k <|
        match off with
        | 0x00 => { a with ns := fld v 0 30 }
        | 0x04 => { a with sec := a.sec / 2 ^ 32 * 2 ^ 32 + v.toNat }
        | 0x08 => { a with sec := a.sec % 2 ^ 32 + fld v 0 16 * 2 ^ 32 }
        | _ => { a with period := v.toNat }

/-! ### Carrying time (R282 to R285) -/

/-- The anchor takes the time and the count, and the stop record starts afresh (R282, R284). -/
def State.anchor (s : State) : State :=
  { s with aon := { s.aon with
      anchorSec := s.time.sec, anchorNs := s.time.ns, anchorCount := s.aon.count, oscStopped := false } }

/-- A carry (R283 to R285): the time from the anchor and the counter, or the anchor time with UNKNOWN when
the oscillator stopped; source 74 fires.  TIME_UNC rounds to the nearest ns, which the worked example needs (log 38). -/
def State.carry (s : State) : State :=
  let a := s.aon
  let old := a.anchorSec * 1000000000 + a.anchorNs
  if a.oscStopped then
    { s with time := { s.time with
        sec := a.anchorSec, ns := a.anchorNs, frac := 0, unknown := true, carried := true
        unc := 0xFFFFFFFF } }.fire 74
  else
    let x := (a.count + 2 ^ 48 - a.anchorCount) % 2 ^ 48 * a.rate
    let el := x / 65536
    let t := old + el
    ({ s with time := { s.time with
        sec := t / 1000000000 % 2 ^ 48, ns := t % 1000000000, frac := x % 65536 * 65536
        carried := true, unc := w32 (min 0xFFFFFFFF (61036 + (el * 50 + 500000) / 1000000)) } }.fire 74).stepAlarms
      old true

/-! ### Registers (R290) -/

/-- TIME_STAT. -/
def TimeUnit.stat (t : TimeUnit) : Nat :=
  t.mode * 16 + b2n t.syncLost * 8 + b2n t.holdover * 4 + b2n t.carried * 2 + b2n t.unknown

/-- ALM_CTL. -/
def Alarm.ctl (a : Alarm) : Nat :=
  b2n a.armed * 2 ^ 31 + a.owner * 2 ^ 16 + b2n a.late * 4 + b2n a.stepped * 2 + b2n a.fired

/-- A sample of the time: SEC is latched (R275). -/
def State.sampleTime (s : State) : State := { s with time := { s.time with snapSec := s.time.sec } }

/-- The count that a read of TIME_AON_LO samples: an edge at most 2 ticks old, never below an earlier read
(R290). -/
def State.sampleAon (s : State) (lag : Nat) : State :=
  let c := max s.aon.lastLo (s.aon.count - min lag 2)
  { s with aon := { s.aon with lastLo := c, snapHi := c / 2 ^ 32 } }

/-- The access by which a master reads a register of its own row: its tile's, or a unit's. -/
def State.accessBy (s : State) (master : Nat) : AskBy :=
  .access master (if master < 1024 then (s.physOf master).getD 0x7FF else 0x7FF) 0

/-! ### Rows -/

/-- The address of a register of alarm `k` (R22, R290). -/
def almReg (k off : Nat) : Nat := 0x10030100 + 0x20 * k + off

/-- SECOND_TICK (R273): the advance that passes 999,999,999 ns; source 72 and a SYNC packet (R491). -/
def execSecondTick (s : State) : Out :=
  ok true (when_ (s.secondDue && s.running && s.time.commit.isNone) (({ s with time := s.advanced }).fire 72).traceSync s)

/-- TIME_NS (R275): a sample of the time; a 16-byte read returns all of it. -/
def execTimeNs (master size : Nat) (s : State) : Out :=
  ok true (s.regRead (s.accessBy master) s.device 0x10030000 (max 1 (min size 16)) fun u =>
    (u.sampleTime, u.time.ns + u.time.sec * 2 ^ 32 + u.time.stat * 2 ^ 96))

/-- TIME_AON_LO (R290). -/
def execTimeAonLo (master lag : Nat) (s : State) : Out :=
  ok true (s.regRead (s.accessBy master) s.device 0x10030034 4 fun u =>
    let u1 := u.sampleAon lag
    (u1, u1.aon.lastLo % 2 ^ 32))

/-- TIME_COMMIT_ABSOLUTE (R276): a write of code 0x1. -/
def execTimeCommitAbsolute (master : Nat) (s : State) : Out := 
  ok true (s.regWrite (s.whoIs master) 0x1003002C 4 fun u => u.writeCommit master 1)

/-- TIME_COMMIT_RELATIVE (R276): a write of code 0x3. -/
def execTimeCommitRelative (master : Nat) (s : State) : Out := 
  ok true (s.regWrite (s.whoIs master) 0x1003002C 4 fun u => u.writeCommit master 3)

/-- COMMIT_APPLY (R276): the tick of a staged commit. -/
def execCommitApply (s : State) : Out :=
  ok true <|
    match s.time.commit with
    | none => s
    | some c => when_ s.running (s.applyCommit c) s

/-- TIME_RATE (R273, R276). -/
def execTimeRate (master : Nat) (v : W32) (s : State) : Out :=
  ok true (s.regWrite (s.whoIs master) 0x10030018 4 fun u => u.writeRate master v)

/-- SLEW_END (R278): the offset is absorbed and SLEW returns to zero. -/
def execSlewEnd (s : State) : Out :=
  ok true (when_ (s.time.slewOn && s.running && s.time.slewLeft == 0)
    { s with time := { s.time with slewOn := false } } s)

/-- ALARM_FIRE (R279 to R281): the time is at or past the target of an armed alarm, outside frost. -/
def execAlarmFire (k : Nat) (s : State) : Out :=
  let a := s.alarm k
  let due := a.armed && !s.dbgBlock.frost && decide (a.target ≤ s.time.abs) && s.power.st == .run
  ok (decide (k < 8))
    (when_ due (s.fireAlarm k (s.isLate a) a.byStep) s)

/-- ARM (R279): a write of ALM_CTL. -/
def execArm (master k : Nat) (v : W32) (s : State) : Out :=
  ok (decide (k < 8)) (s.regWrite (s.whoIs master) (almReg k 0x10) 4 fun u => u.writeAlmCtl master k v)

/-- RELEASE_ALARM (R290): a write of RELEASE. -/
def execReleaseAlarm (master k : Nat) (s : State) : Out :=
  ok (decide (k < 8)) 
    (s.regWrite (s.whoIs master) (almReg k 0x10) 4 fun u => u.writeAlmCtl master k 0x40000000)

/-- The counter has ticked in the last 5 ns (R282). -/
def Aon.atEdge (a : Aon) (osc : Int) : Bool := decide (a.phase < (163840 * (10000000 + osc)).toNat)

/-- AON_CALIBRATION (R282): at a counter edge; `measured` is the length of 32,768 counter ticks in 2⁻³² ns of device
time. -/
def execAonCalibration (measured : Nat) (s : State) : Out :=
  let s1 := { s with aon := { s.aon with rate := (measured + 2 ^ 30) / 2 ^ 31 % 2 ^ 32 } }
  ok true (when_ (!s.time.holdover && s.power.st == .run && s.aon.atEdge (s.delta 5 1)) s1.anchor s)

/-- RELOCK (R286): the PLL is locked again; time is carried, HOLDOVER clears, and the islands' crossings resynchronise
(R53).  While it is locked, the row is the
firmware's change of the reference source: holdover until the next RELOCK, and no source fires (log 119). -/
def execRelock (s : State) : Out :=
  let back := { s with
    time := { s.time with holdover := false }, faults := { s.faults with backupOsc := false }
    pace := { s.pace with resync := List.range 12 } }
  let change := { s with
    time := { s.time with holdover := true }, faults := { s.faults with backupOsc := true } }
  ok true (if s.time.holdover then back.carry else when_ (s.mgmt.up && !s.mgmt.restarting && s.power.st == .run) change s)

/-- SYNC_LOST (R288): no sync message for SYNC_TIMEOUT in mode 1 or 2. -/
def execSyncLost (s : State) : Out :=
  let t := s.time
  let due := (t.mode == 1 || t.mode == 2) && !t.syncLost && s.running &&
    decide (t.syncTimeout * 1000000 ≤ s.usSince t.lastSync)
  ok true (when_ due ({ s with time := { t with syncLost := true } }.fire 73) s)

end Sys2Proof.Machine
end

