-- ==== Sys2Proof/Machine/FieldIo.lean ====
section
/-! DEFINITION. The field I/O unit: pins and safe states (R292 to R301, R313), timer channels (R302 to
R308) and serial engines (R309 to R312). -/

namespace Sys2Proof.Machine

/-! ### Refusals (R293, R294) -/

/-- A refused write: cause 1 OWNER, 2 ROUTE, 3 RANGE; block 0 pins, 1 timers, 2 serial. -/
def State.fioRefuse (s : State) (cause block master offset : Nat) : State :=
  { s with fio := { s.fio with
      err := s.fio.err ||| (1 <<< (cause - 1))
      offender := w32 (cause * 2 ^ 30 + block * 2 ^ 28 + master % 4096 * 2 ^ 16 + offset) } }.report 18
    ioUnit 0xFFFF 0 offset

/-- The owner of a resource, or the firmware (R293). -/
def mayWrite (owner master : Nat) : Bool := owner == master || master == 0x400

/-! ### Pins -/

/-- Fields of PIN_CFG (R313). -/
def Pin.func (v : Pin) : Nat := fld v.cfg 28 4
def Pin.sel (v : Pin) : Nat := fld v.cfg 23 5
def Pin.edge (v : Pin) : Nat := fld v.cfg 14 2

/-- Lower end of a bank's window in mV, by its sampled level (R496). -/
def vioLow (vio : Nat) : Nat := if vio = 1 then 1620 else 2970
/-- Upper end of a bank's window in mV. -/
def vioHigh (vio : Nat) : Nat := if vio = 1 then 1980 else 3630
/-- Level sampled as a bank's supply rises (R496). -/
def vioLevel (mv : Nat) : Nat := if mv < 1550 then 0 else if mv ≤ 2600 then 1 else 2

/-- The bank drives and senses its pins: VIO neither absent nor below its range (R296). -/
def Bank.live (b : Bank) : Bool := b.vio != 0 && decide (vioLow b.vio ≤ b.mv)
/-- The bank is in its window (R496). -/
def Bank.inRange (b : Bank) : Bool := b.live && decide (b.mv ≤ vioHigh b.vio)

/-- Hysteresis in percent of VIO (R297). -/
def hysPercent (h : Nat) : Nat := if h = 0 then 2 else if h = 1 then 5 else if h = 2 then 10 else 15

/-- The threshold in mV: fixed, or tracked within 3/32 to 29/32 of VIO (R297). -/
def Pin.threshold (v : Pin) (b : Bank) : Nat :=
  let fixed := b.mv * fld v.cfg 6 5 / 32
  if bitq v.cfg 13 then
    max (b.mv * 3 / 32) (min (b.mv * 29 / 32) (v.trackMv.getD fixed))
  else fixed

/-- What the receiver sees at a pad voltage: it rises at the threshold plus half the hysteresis and falls
at the threshold minus half of it (R297). -/
def Pin.receive (v : Pin) (b : Bank) (mv : Nat) : Bool :=
  let half := b.mv * hysPercent (fld v.cfg 11 2)
  if v.recv then decide (200 * v.threshold b < 200 * mv + half)
  else decide (200 * v.threshold b + half ≤ 200 * mv)

/-- The tracked threshold after a pad voltage is seen: it moves towards the midpoint of the high and low
levels by at most VIO / 32 per ms (R297). -/
def Pin.track (v : Pin) (b : Bank) (mv now : Nat) : Pin :=
  if !bitq v.cfg 13 then { v with trackMv := none }
  else
    let th := v.threshold b
    let first := v.trackMv.isNone
    let hi := if th ≤ mv then mv else if first then th else v.trackHi
    let lo := if mv < th then mv else if first then th else v.trackLo
    let mid := (hi + lo) / 2
    let room := if first then 0 else b.mv * ((now - v.trackAt) / 200000) / 32
    let new := if th ≤ mid then min mid (th + room) else max mid (th - room)
    { v with trackMv := some new, trackHi := hi, trackLo := lo
             trackAt := if first || 0 < room then now else v.trackAt }

/-! ### What drives a pin (R296, R298, R299, R309) -/

/-- MODE of SER_CTL. -/
def Ser.mode (e : Ser) : Nat := fld e.ctl 30 2

/-- The level of signal `k` of a serial engine between two units; none where the signal is an input or released
(R298, R309, R311).  SPI: SCK rests at its mode's idle level and CS is low during a transfer.  I2C: SCL is held low
while a transaction is open and while the engine is stopped.  UART: TX rests high, and RTS, with RTS/CTS on, is low
while the receive FIFO has room (log 102). -/
def Ser.signal (e : Ser) (k : Nat) : Option Bool :=
  match e.mode, k with
  | 1, 0 => some (decide (2 ≤ fld e.ctl 28 2))
  | 1, 1 => some e.mosi
  | 1, 3 => some (!(e.busy || e.held))
  | 2, 0 => if e.held || e.frozen then some false else none
  | 3, 0 => some true
  | 3, 2 => if bitq e.ctl 12 then some (decide (32 ≤ e.rx.length)) else none
  | _, _ => none

/-- The pin is in its safe state (R300). -/
def Pin.safe (v : Pin) : Bool := !v.causes.isEmpty

/-- What a pin drives: none for Hi-Z, which every pin is in recovery (R296, R298, R299, R301, R421). -/
def State.pinDrive (s : State) (n : Nat) : Option Bool :=
  let v := s.pin n
  let od (b : Bool) : Option Bool := if b && bitq v.cfg 18 then none else some b
  if s.mgmt.recovery || !(s.bank (n / 16)).live then none
  else if v.safe then if v.safeLevel = 1 then some false else if v.safeLevel = 2 then some true else none
  else if v.drizzleHiZ then none
  else if v.drizzleOut.isSome then v.drizzleOut.bind od
  else if v.func = 1 then od (bitq v.cfg 5)
  else if v.func = 2 then od (s.timer v.sel).out
  else if v.func = 3 then ((s.ser (v.sel / 4)).signal (v.sel % 4)).bind od
  else none

/-- The voltage of a level that pin `n` drives. -/
def State.levelMv (s : State) (n : Nat) (level : Bool) : Nat := if level then (s.bank (n / 16)).mv else 0

/-- The voltage at a pad: the level that the pin drives, which its own receiver reads back (R297), unless the board
drives against it; else what the board gives it (R511). -/
def State.padOf (s : State) (n : Nat) : Nat :=
  let v := s.pin n
  match s.pinDrive n with
  | some b => if v.contended = some b then v.padMv else s.levelMv n b
  | none => v.padMv

/-- The pad voltage is seen against the bank's calibrated reference (R431): the receiver may change and its
deglitch time starts (R297).  In a sleep state the source of a watched pin follows the receiver (R440). -/
def State.seePad (s : State) (n : Nat) : State :=
  let b := s.bank (n / 16)
  let v := s.pin n
  let seen := ((s.padOf n : Int) - s.delta 6 (n / 16)).toNat
  if !b.live then s
  else
    let r := v.receive b seen
    let v1 := v.track b seen s.now
    if r == v.recv then s.setPin n v1
    else
      (s.setPin n { v1 with recv := r, recvAt := s.wall }).fireIf
        (s.power.st != .run && bitAt v.edge (if r then 0 else 1)) (396 + n)

/-- The pad of pin `n` is at a voltage.  Where the pin drives another, outside wiring drives against it, and the pad stays
at this voltage while the pin drives so (R511). -/
def State.padChange (s : State) (n mv : Nat) : State :=
  let against := (s.pinDrive n).filter fun b => s.levelMv n b != mv
  (s.setPin n { s.pin n with padMv := mv, contended := against }).seePad n

/-- Capture pins that an edge of pin `n` serves: their channels have a capture due (R306). -/
def State.captureEdge (s : State) (n : Nat) (rising : Bool) : State :=
  (List.range 32).foldl (fun u k =>
    let t := u.timer k
    if bitAt (fld t.capcfg 8 2) (if rising then 0 else 1) && fld t.capcfg 16 7 == n then
      u.setTimer k { t with capDue := true }
    else u) s

/-- The deglitched level changes (R297): edge count and source, and captures. -/
def State.pinEdge (s : State) (n : Nat) : State :=
  let v := s.pin n
  let hit := bitAt v.edge (if v.recv then 0 else 1)
  let s1 := s.setPin n { v with level := v.recv, edges := if hit then v.edges + 1 else v.edges }
  (s1.fireIf hit (396 + n)).captureEdge n v.recv

/-- Add a safe-state cause to a pin. -/
def Pin.hold (v : Pin) (c : SafeCause) : Pin :=
  if v.causes.contains c then v else { v with causes := v.causes ++ [c] }
/-- End a safe-state cause of a pin. -/
def Pin.letGo (v : Pin) (c : SafeCause) : Pin := { v with causes := v.causes.filter (· != c) }

/-- Change every pin. -/
def State.mapPins (s : State) (f : Nat → Pin → Pin) : State :=
  { s with fio := { s.fio with
      pins := (List.range 96).foldl (fun m n => tput n (f n (tget {} n m)) m) s.fio.pins } }

/-- Every pin enters its safe state for a cause (R300). -/
def State.safeAll (s : State) (c : SafeCause) : State := s.mapPins fun _ v => v.hold c
/-- A cause ends at every pin. -/
def State.safeEnd (s : State) (c : SafeCause) : State := s.mapPins fun _ v => v.letGo c

/-- A field of PIN_CFG outside its stated range (R313). -/
def badPinCfg (v : W32) : Bool :=
  decide (3 < fld v 28 4) || fld v 16 2 == 3 || decide (fld v 6 5 < 3) || decide (29 < fld v 6 5)

/-- A PIN_CFG that connects resources of different owners (R294). -/
def State.badRoute (s : State) (n : Nat) (v : W32) : Bool :=
  let o := (s.pin n).owner
  let sel := fld v 23 5
  (fld v 28 4 == 2 && (s.timer sel).owner != o) || (fld v 28 4 == 3 && (s.ser (sel / 4)).owner != o)

/-- An applied PIN_CFG ends the causes that last until one (R300). -/
def Pin.configure (v : Pin) (w : W32) : Pin :=
  { (((v.letGo .restart).letGo .thermal).letGo .released) with
    cfg := w &&& 0xFFFFFFE0, configured := true
    trackMv := if bitq w 13 && bitq v.cfg 13 then v.trackMv else none }

/-- A write of PIN_CFG (R293, R294). -/
def State.writePinCfg (s : State) (master n : Nat) (w : W32) : State :=
  let v := s.pin n
  let off := 0x100 + 0x10 * n
  if !mayWrite v.owner master then s.fioRefuse 1 0 master off
  else if badPinCfg w then s.fioRefuse 3 0 master off
  else if s.badRoute n w then s.fioRefuse 2 0 master off
  else s.setPin n (v.configure w)

/-- A write of PIN_SETw or PIN_CLRw: applied to the pins the writer owns, and refused once for the others
(R293). -/
def State.writePinBits (s : State) (master w : Nat) (v : W32) (set : Bool) : State :=
  let s1 := (List.range 32).foldl (fun u i =>
    let n := 32 * w + i
    let p := u.pin n
    if bitq v i && mayWrite p.owner master then
      u.setPin n { p with cfg := if set then p.cfg ||| 0x20 else p.cfg &&& 0xFFFFFFDF }
    else u) s
  if (List.range 32).any fun i => bitq v i && !mayWrite (s.pin (32 * w + i)).owner master then
    s1.fioRefuse 1 0 master ((if set then 0x20 else 0x30) + 4 * w)
  else s1

/-- A write of one of pin `n`'s registers (R293, R294, R300, R313). -/
def State.writePinReg (s : State) (master n off : Nat) (w : W32) : State :=
  let v := s.pin n
  let o := 0x100 + 0x10 * n + off
  if off = 0 then s.writePinCfg master n w
  else if !mayWrite v.owner master then s.fioRefuse 1 0 master o
  else if off = 4 then s
  else if off = 8 then
    if 50000 < fld w 0 16 then s.fioRefuse 3 0 master o else s.setPin n { v with dgl := fld w 0 16 }
  else if fld w 0 2 = 3 then s.fioRefuse 3 0 master o
  else
    let v1 := if s.dbgBlock.frost && bitq w 8 then v.hold .frost else v.letGo .frost
    s.setPin n { v1 with safeLevel := fld w 0 2, safeFrost := bitq w 8 }

/-- A bank's supply is at `mv`: VIO reads 0 below 1.55 V (R496); leaving the window fires source 10 with
the bank number (R323). -/
def State.bankAt (s : State) (b mv : Nat) : State :=
  let k := s.bank b
  let k1 : Bank := { vio := if mv < 1550 then 0 else k.vio, mv := mv }
  let s1 := s.setBank b k1
  if k.inRange && !k1.inRange then s1.report 10 0xFFFF 0xFFFF 0 b else s1

/-! ### Timer channels -/

/-- The active values that the shadows written replace (R304). -/
def Timer.applyShadows (t : Timer) : Timer :=
  if t.updlock then t
  else { t with
    top := if t.wTop then t.sTop else t.top
    cmpa := if t.wCmpa then t.sCmpa else t.cmpa
    cmpb := if t.wCmpb then t.sCmpb else t.cmpb
    wTop := false, wCmpa := false, wCmpb := false }

/-- A shadow awaits a boundary. -/
def Timer.waiting (t : Timer) : Bool := t.wTop || t.wCmpa || t.wCmpb

/-- The next count step is a boundary (R302). -/
def Timer.atBoundary (t : Timer) : Bool :=
  if t.mode = 0 then decide (t.top ≤ t.count)
  else if t.mode = 1 then t.count == 0 || decide (t.top < t.count)
  else decide (t.top < t.count) || (t.down && decide (t.count ≤ 1))

/-- A count step that is no boundary (R302). -/
def Timer.stepCount (t : Timer) : Timer :=
  if t.mode = 0 then { t with count := t.count + 1 }
  else if t.mode = 1 then { t with count := t.count - 1 }
  else if t.down then { t with count := t.count - 1 }
  else
    let n := t.count + 1
    { t with count := if t.top < n then t.top - 1 else n, down := decide (t.top ≤ n) }

/-- The count step of a boundary, with the shadows applied first (R302, R304). -/
def Timer.boundaryStep (t : Timer) : Timer :=
  let u := t.applyShadows
  { u with count := if t.mode = 1 then u.top else 0, down := false, stBound := true, presc := 0 }

/-- Which of CMPA, CMPB, TOP, BOTTOM the count stands at. -/
def Timer.hits (t : Timer) : List Bool :=
  [decide (t.count = t.cmpa ∧ t.cmpa ≤ t.top), decide (t.count = t.cmpb ∧ t.cmpb ≤ t.top),
   t.count == t.top, t.count == 0]

/-- The direction in which the count was entered (R303): a compare of TOP matches up and one of 0 down. -/
def Timer.enteredDown (t : Timer) : Bool :=
  t.mode == 1 || (t.mode == 2 && (t.count == 0 || (t.down && t.count != t.top)))

/-- Pin actions of the four events (R303, R308). -/
def Timer.pinActs (t : Timer) : List Nat :=
  let d := t.enteredDown
  [fld t.act (if d then 8 else 10) 2, fld t.act (if d then 4 else 6) 2, fld t.act 2 2, fld t.act 0 2]

/-- The action that prevails: CMPB over CMPA over TOP or BOTTOM, those with an action (R303). -/
def Timer.prevailing (t : Timer) : Nat :=
  let a := (t.hits.zip t.pinActs).map fun e => if e.1 then e.2 else 0
  let at_ (i : Nat) := (a[i]?).getD 0
  if at_ 1 ≠ 0 then at_ 1 else if at_ 0 ≠ 0 then at_ 0 else if at_ 2 ≠ 0 then at_ 2 else at_ 3

/-- A pin action: none, high, low, toggle. -/
def actOn (a : Nat) (out : Bool) : Bool :=
  if a = 1 then true else if a = 2 then false else if a = 3 then !out else out

/-- A chain code: start, stop, reset (R308). -/
def chainOf (c : Nat) : Option ChainAct :=
  if c = 1 then some .start else if c = 2 then some .stop else if c = 3 then some .reset else none

/-- A chained action on channel `n`, due one field tick later (R305). -/
def State.chainTo (s : State) (n : Nat) (a : ChainAct) : State :=
  let t := s.timer n
  s.setTimer n { t with due := t.due ++ [(a, s.now + 1)] }

/-- Chained actions and the source of the events of channel `n` (R305, R306). -/
def State.chainEvents (s : State) (n : Nat) (t : Timer) : State :=
  (List.range 4).foldl (fun u i =>
    if (t.hits[i]?).getD false then
      let u1 := u.fireIf (t.evsel.getLsbD i) (332 + 2 * n)
      let u2 := match chainOf (fld t.chain (2 * i) 2) with
        | some a => u1.chainTo n a
        | none => u1
      match chainOf (fld t.chain (8 + 2 * i) 2) with
      | some a => u2.chainTo (fld t.chain 16 5) a
      | none => u2
    else u) s

/-- The events of the count that channel `n` has entered (R303, R305, R306). -/
def State.timerEvents (s : State) (n : Nat) (t : Timer) : State :=
  let t1 := { t with
    out := actOn t.prevailing t.out, entered := false
    stMatch := t.stMatch || (t.hits[0]?).getD false || (t.hits[1]?).getD false }
  (s.setTimer n t1).chainEvents n t

/-- The channel counts: RUN and not stopped by frost or sleep (R307). -/
def Timer.counting (t : Timer) : Bool := t.run && !t.frozen

/-- A reset (R305): a boundary only for the shadows. -/
def Timer.reset (t : Timer) : Timer :=
  let u := t.applyShadows
  { u with count := if t.mode = 1 then u.top else 0, down := false, presc := 0, entered := false }

/-- The chained actions due: a reset first, then a stop prevails over a start (R305). -/
def Timer.chained (t : Timer) (now : Nat) : Timer :=
  let acts := (t.due.filter fun e => decide (e.2 ≤ now)).map (·.1)
  let t1 := { t with due := t.due.filter fun e => decide (now < e.2) }
  let t2 := if acts.contains .reset then t1.reset else t1
  if acts.contains .stop then { t2 with run := false }
  else if acts.contains .start then { t2 with run := true }
  else t2

/-- A capture of channel `n` (R306); with CLR the channel is reset as by a chained action. -/
def State.capture (s : State) (n : Nat) : State :=
  let t := s.timer n
  let s1 := s.setTimer n { t with
    cap := t.count, capCnt := t.capCnt + 1, stCap := true, stCapOvr := t.stCapOvr || t.capUnread
    capUnread := true, capDue := false }
  let s2 := if bitq t.capcfg 0 then s1.chainTo n .reset else s1
  s2.fire (333 + 2 * n)

/-- A write of TMR_TOP (0), TMR_CMPA (1) or TMR_CMPB (2) (R293, R294, R302, R304). -/
def State.writeShadow (s : State) (master n reg : Nat) (v : W32) : State :=
  let t := s.timer n
  let off := 0x40 * n + 0x0C + 4 * reg
  if !mayWrite t.owner master then s.fioRefuse 1 1 master off
  else if reg = 0 ∧ v.toNat < (if t.mode = 2 then 2 else 1) then s.fioRefuse 3 1 master off
  else
    let t1 :=
      if reg = 0 then { t with sTop := v.toNat, wTop := true }
      else if reg = 1 then { t with sCmpa := v.toNat, wCmpa := true }
      else { t with sCmpb := v.toNat, wCmpb := true }
    s.setTimer n (if t.run then t1 else t1.applyShadows)

/-- A write of TMR_CNT (R304). -/
def State.writeCnt (s : State) (master n : Nat) (v : W32) : State :=
  let t := s.timer n
  let off := 0x40 * n + 8
  if !mayWrite t.owner master then s.fioRefuse 1 1 master off
  else if t.run then s.fioRefuse 3 1 master off
  else s.setTimer n { t with count := v.toNat, down := false, entered := false }

/-- A write of TMR_CTL (R302, R304): UPDLOCK is taken before RUN. -/
def State.writeCtl (s : State) (master n : Nat) (v : W32) : State :=
  let t := s.timer n
  let off := 0x40 * n
  let mode := fld v 28 2
  if !mayWrite t.owner master then s.fioRefuse 1 1 master off
  else if mode = 3 ∨ (mode = 2 ∧ (t.top < 2 ∨ t.sTop < 2)) then s.fioRefuse 3 1 master off
  else
    let t1 := { t with
      updlock := bitq v 30, mode := mode, prescale := fld v 16 8
      evsel := BitVec.ofNat 4 (fld v 0 4)
      down := t.down && mode == t.mode
      presc := if t.prescale = fld v 16 8 then t.presc else 0 }
    let t2 := if t.run then t1 else t1.applyShadows
    s.setTimer n { t2 with run := bitq v 31 }

/-- A write of the other registers of channel `n` (R293, R294, R308). -/
def State.writeTmr (s : State) (master n off : Nat) (v : W32) : State :=
  let t := s.timer n
  let o := 0x40 * n + off
  match off with
  | 0x00 => s.writeCtl master n v
  | 0x08 => s.writeCnt master n v
  | 0x0C => s.writeShadow master n 0 v
  | 0x10 => s.writeShadow master n 1 v
  | 0x14 => s.writeShadow master n 2 v
  | 0x04 =>
    if !mayWrite t.owner master then s.fioRefuse 1 1 master o
    else s.setTimer n { t with
      stCapOvr := t.stCapOvr && !bitq v 3, stCap := t.stCap && !bitq v 2
      stBound := t.stBound && !bitq v 1, stMatch := t.stMatch && !bitq v 0 }
  | 0x18 =>
    if !mayWrite t.owner master then s.fioRefuse 1 1 master o
    else s.setTimer n { t with act := v &&& 0xFFF }
  | 0x1C =>
    if !mayWrite t.owner master then s.fioRefuse 1 1 master o
    else if fld v 8 8 != 0 && (s.timer (fld v 16 5)).owner != t.owner then s.fioRefuse 2 1 master o
    else s.setTimer n { t with chain := v &&& 0x1FFFFF }
  | 0x20 =>
    if !mayWrite t.owner master then s.fioRefuse 1 1 master o
    else if 95 < fld v 16 7 then s.fioRefuse 3 1 master o
    else if fld v 8 2 != 0 && (s.pin (fld v 16 7)).owner != t.owner then s.fioRefuse 2 1 master o
    else s.setTimer n { t with capcfg := v &&& 0x7F0301 }
  | 0x24 | 0x28 | 0x2C => if mayWrite t.owner master then s else s.fioRefuse 1 1 master o
  | _ => s

/-- Registers of a channel as read (R308). -/
def Timer.read (t : Timer) : Nat → Nat
  | 0x00 => b2n t.run * 2 ^ 31 + b2n t.updlock * 2 ^ 30 + t.mode * 2 ^ 28 + t.prescale * 2 ^ 16 +
      t.evsel.toNat
  | 0x04 => b2n (t.mode == 1 || t.down) * 2 ^ 31 + b2n t.waiting * 2 ^ 30 + b2n t.stCapOvr * 8 +
      b2n t.stCap * 4 + b2n t.stBound * 2 + b2n t.stMatch
  | 0x08 => t.count
  | 0x0C => t.sTop
  | 0x10 => t.sCmpa
  | 0x14 => t.sCmpb
  | 0x18 => t.act.toNat
  | 0x1C => t.chain.toNat
  | 0x20 => t.capcfg.toNat
  | 0x24 => t.cap
  | 0x28 => t.capCnt.toNat
  | 0x2C => t.owner
  | _ => 0

/-! ### Serial engines -/

/-- A field of SER_CTL that its mode uses lies outside its range (R309, R312). -/
def badSerCtl (v : W32) : Bool :=
  let m := fld v 30 2
  (m == 1 && decide (fld v 22 5 < 3)) || (m == 2 && fld v 20 2 == 3) ||
    (m == 3 && (decide (4 < fld v 16 4) || fld v 14 2 == 3))

/-- A write of SER_TX (R293, R310): a full FIFO drops the entry and sets TXREF. -/
def State.writeSerTx (s : State) (master e : Nat) (v : W32) : State :=
  let x := s.ser e
  if !mayWrite x.owner master then s.fioRefuse 1 2 master (0x100 * e + 8)
  else if 32 ≤ x.tx.length then
    (s.setSer e { x with sticky := x.sticky ||| 32 }).fire (303 + 4 * e)
  else s.setSer e { x with tx := x.tx ++ [v], busy := x.busy || x.mode != 0 }

/-- A write of SER_CTL (R293, R311). -/
def State.writeSerCtl (s : State) (master e : Nat) (v : W32) : State :=
  let x := s.ser e
  if !mayWrite x.owner master then s.fioRefuse 1 2 master (0x100 * e)
  else if x.busy || badSerCtl v then s.fioRefuse 3 2 master (0x100 * e)
  else s.setSer e { x with
    ctl := v &&& 0xFFFFF800, busy := fld v 30 2 != 0 && !x.tx.isEmpty
    held := x.held && fld v 30 2 == x.mode && (x.mode != 1 || bitq v 11) }

/-- SPI's DIV lies outside the limits of SCK, 25 kHz to 50 MHz (R294, R309). -/
def badSerRate (x : Ser) (v : W32) : Bool := x.mode == 1 && (decide (fld v 4 16 < 1) || decide (3999 < fld v 4 16))

/-- A write of an engine's other registers (R312). -/
def State.writeSer (s : State) (master e off : Nat) (v : W32) : State :=
  let x := s.ser e
  match off with
  | 0x00 => s.writeSerCtl master e v
  | 0x08 => s.writeSerTx master e v
  | 0x04 =>
    if !mayWrite x.owner master then s.fioRefuse 1 2 master (0x100 * e + 4)
    else if badSerRate x v then s.fioRefuse 3 2 master (0x100 * e + 4)
    else s.setSer e { x with rate := v &&& 0xFFFFF }
  | 0x10 =>
    if !mayWrite x.owner master then s.fioRefuse 1 2 master (0x100 * e + 0x10)
    else s.setSer e { x with sticky := x.sticky &&& ~~~ (BitVec.ofNat 6 (fld v 0 6)) }
  | 0x0C | 0x14 => if mayWrite x.owner master then s else s.fioRefuse 1 2 master (0x100 * e + off)
  | _ => s

/-- SER_STAT (R312). -/
def Ser.stat (x : Ser) : Nat :=
  b2n x.busy * 2 ^ 31 + x.tx.length * 2 ^ 16 + x.rx.length * 2 ^ 8 + x.sticky.toNat

/-- The word that a pop returns: bit 31 VALID, [8:0] data; zero from an empty FIFO (R310, R312). -/
def serWord : List W32 → Nat
  | [] => 0
  | v :: _ => 2 ^ 31 + v.toNat % 512

/-- A read of SER_RX pops one entry (R310); it is none of the action registers of R176, so a read sent again pops
again. -/
def State.readSer (s : State) (e : Nat) : State × Nat :=
  let x := s.ser e
  (s.setSer e { x with rx := x.rx.drop 1 }, serWord x.rx)

/-- The transmit entry that the unit serves. -/
def Ser.front (x : Ser) : W32 := x.tx.headD 0

/-- Data bits of a unit: an SPI frame's, 8 of an I2C byte, a UART character's (R309, R312). -/
def Ser.bits (x : Ser) : Nat :=
  if x.mode = 1 then fld x.ctl 22 5 + 1 else if x.mode = 2 then 8 else fld x.ctl 16 4 + 5

/-- What a unit receives: in I2C a byte for a READ entry and none for another, a READ that the operand gives no byte
finding SDA released (R310); else what the operand gives; as many bits as the unit has. -/
def Ser.received (x : Ser) (u : SerUnit) : Option Nat :=
  (if x.mode = 2 then if bitq x.front 10 then some (u.rx.getD 0xFF) else none else u.rx).map (· % 2 ^ x.bits)

/-- The error bits that one unit sets in its mode (R312): parity only where there is a parity bit; the acknowledge of a
READ byte is the controller's own. -/
def serErrors (x : Ser) (u : SerUnit) : BitVec 6 :=
  let past := (x.received u).isSome && decide (32 ≤ x.rx.length)
  BitVec.ofNat 6 (b2n (x.mode == 3 && u.rxParity && fld x.ctl 14 2 != 0) + 2 * b2n (x.mode == 3 && u.rxFraming) +
    4 * b2n (x.mode == 2 && u.arbLost) + 8 * b2n (x.mode == 2 && u.nack && !bitq x.front 10) + 16 * b2n past)

/-- After a unit: an I2C transaction is open from START to STOP, or to a lost arbitration; CS stays low with HOLD
(R309, R310). -/
def Ser.heldAfter (x : Ser) (u : SerUnit) : Bool :=
  if x.mode = 1 then bitq x.ctl 11
  else if x.mode = 2 then (x.held || bitq x.front 8) && !bitq x.front 9 && !u.arbLost
  else false

/-- The last bit of an SPI frame on MOSI (R309, R312). -/
def Ser.mosiAfter (x : Ser) : Bool :=
  if x.mode = 1 then bitq x.front (if bitq x.ctl 27 then x.bits - 1 else 0) else x.mosi

/-- The bits of a number, `n` of them, least significant first. -/
def bitList (v n : Nat) : List Bool := (List.range n).map fun i => v.testBit i

/-- What a unit puts on signals 0 and 1, in the order of its steps (R309, R310, log 138).  SPI: two half periods of SCK for
each bit on MOSI, in the clock mode of SER_CTL.  I2C: SCL and SDA, where true is released, through START, the nine
bits with the controller's own acknowledge of a READ byte, and STOP.  UART: TX through start bit, data, parity and
stop bits; signal 1 is an input. -/
def Ser.unitWave (x : Ser) (u : SerUnit) : List (Bool × Bool) :=
  let v := x.front.toNat
  match x.mode with
  | 1 =>
    let pol := bitq x.ctl 29
    let pha := bitq x.ctl 28
    let bits := if bitq x.ctl 27 then bitList v x.bits else (bitList v x.bits).reverse
    bits.flatMap fun b => [(pol != pha, b), (pol == pha, b)]
  | 2 =>
    let read := bitq x.front 10
    let data := if read then List.replicate 8 true else (bitList v 8).reverse
    let start := if bitq x.front 8 then [(true, true), (true, false)] else []
    let stop := if bitq x.front 9 then [(false, false), (true, false), (true, true)] else []
    if u.arbLost then start
    else start ++ ((data ++ [!read || bitq x.front 11]).flatMap fun b => [(false, b), (true, b)]) ++ stop
  | 3 =>
    let data := bitList v x.bits
    let odd := (data.filter id).length % 2 == 1
    let par := match fld x.ctl 14 2 with
      | 1 => [odd]
      | 2 => [!odd]
      | _ => []
    (false :: data ++ par ++ (if bitq x.ctl 13 then [true, true] else [true])).map fun b => (b, true)
  | _ => []

/-- A unit completes (R310): an SPI frame or I2C byte takes the entry at the front, and so does a UART
character that was sent; what was received enters the receive FIFO. -/
def State.serUnit (s : State) (e : Nat) (u : SerUnit) : State :=
  let x := s.ser e
  let sent := x.mode != 3 || u.rx.isNone
  let tx := if sent then x.tx.drop 1 else x.tx
  let rx := match x.received u with
    | none => x.rx
    | some d => if x.rx.length < 32 then x.rx ++ [w32 d] else x.rx
  let err := serErrors x u
  let busy := x.busy && !tx.isEmpty
  let s1 := s.setSer e { x with
    tx := tx, rx := rx, sticky := x.sticky ||| err, busy := busy, held := x.heldAfter u, mosi := x.mosiAfter
    sent := if sent then x.sent ++ [x.unitWave u] else x.sent }
  let s2 := s1.fireIf (decide (8 < x.tx.length) && decide (tx.length ≤ 8)) (300 + 4 * e)
  let s3 := s2.fireIf (x.rx.isEmpty && !rx.isEmpty) (301 + 4 * e)
  let s4 := s3.fireIf (x.busy && !busy) (302 + 4 * e)
  s4.fireIf (err != 0) (303 + 4 * e)

/-! ### Rows -/

/-- The address of a register of timer channel `n` (R22, R308). -/
def tmrReg (n off : Nat) : Nat := 0x10060000 + 0x40 * n + off
/-- The address of a register of serial engine `e` (R22, R312). -/
def serReg (e off : Nat) : Nat := 0x10070000 + 0x100 * e + off

/-- PIN_INPUT_CHANGE (R297): the pad of pin `n` is at `mv` millivolts. -/
def execPinInputChange (n mv : Nat) (s : State) : Out := ok (decide (n < 96)) (s.padChange n mv)

/-- DEGLITCH_EXPIRY (R296, R297): the receiver has held a new level for DGL × 20 ns. -/
def execDeglitchExpiry (n : Nat) (s : State) : Out :=
  let v := s.pin n
  let due := v.recv != v.level && decide (4 * v.dgl ≤ s.wall - v.recvAt) && (s.bank (n / 16)).live && s.ioRuns
  ok (decide (n < 96)) (when_ due (s.pinEdge n) s)

/-- PIN_CFG (R293, R294). -/
def execPinCfg (master n : Nat) (v : W32) (s : State) : Out :=
  ok (decide (n < 96)) 
    (s.regWrite (s.whoIs master) (0x10050100 + 0x10 * n) 4 fun u => u.writePinCfg master n v)

/-- PIN_SET (R293). -/
def execPinSet (master w : Nat) (v : W32) (s : State) : Out :=
  ok (decide (w < 3)) 
    (s.regWrite (s.whoIs master) (0x10050020 + 4 * w) 4 fun u => u.writePinBits master w v true)

/-- PIN_CLR (R293). -/
def execPinClr (master w : Nat) (v : W32) (s : State) : Out :=
  ok (decide (w < 3)) 
    (s.regWrite (s.whoIs master) (0x10050030 + 4 * w) 4 fun u => u.writePinBits master w v false)

/-- VIO_LOSS (R296, R323): the bank's supply has left its range, at `mv`. -/
def execVioLoss (b mv : Nat) (s : State) : Out := ok (decide (b < 6)) (s.bankAt b mv)

/-- VIO_RISE (R496): the level is sampled. -/
def execVioRise (b mv : Nat) (s : State) : Out :=
  ok (decide (b < 6)) (s.setBank b { vio := vioLevel mv, mv := mv })

/-- TIMER_BOUNDARY (R302 to R304): the count step of this tick is a boundary. -/
def execTimerBoundary (n : Nat) (s : State) : Out :=
  let t := s.timer n
  let due := t.counting && t.atBoundary && t.presc == t.prescale
  ok (decide (n < 32)) (when_ (due && s.ioRuns) (s.timerEvents n t.boundaryStep) s)

/-- TIMER_COMPARE_MATCH (R303): the count has entered a value that has events. -/
def execTimerCompareMatch (n : Nat) (s : State) : Out :=
  let t := s.timer n
  ok (decide (n < 32)) (when_ (t.entered && s.ioRuns) (s.timerEvents n t) s)

/-- CHAINED_ACTION (R305). -/
def execChainedAction (n : Nat) (s : State) : Out :=
  let t := s.timer n
  let due := !t.frozen && t.due.any fun e => decide (e.2 ≤ s.now)
  ok (decide (n < 32)) (when_ (due && s.ioRuns) (s.setTimer n (t.chained s.now)) s)

/-- TIMER_CAPTURE (R306): a deglitched edge of the capture pin has arrived. -/
def execTimerCapture (n : Nat) (s : State) : Out :=
  ok (decide (n < 32)) (when_ ((s.timer n).capDue && s.ioRuns) (s.capture n) s)

/-- TMR_SHADOW_WRITE (R304). -/
def execTmrShadowWrite (master n : Nat) (reg : Fin 3) (v : W32) (s : State) : Out :=
  ok (decide (n < 32)) 
    (s.regWrite (s.whoIs master) (tmrReg n (0xC + 4 * reg.val)) 4 fun u => u.writeShadow master n reg.val v)

/-- TMR_CNT (R304). -/
def execTmrCnt (master n : Nat) (v : W32) (s : State) : Out :=
  ok (decide (n < 32)) 
    (s.regWrite (s.whoIs master) (tmrReg n 8) 4 fun u => u.writeCnt master n v)

/-- TMR_CTL (R304). -/
def execTmrCtl (master n : Nat) (v : W32) (s : State) : Out :=
  ok (decide (n < 32)) 
    (s.regWrite (s.whoIs master) (tmrReg n 0) 4 fun u => u.writeCtl master n v)

/-- SER_TX (R310). -/
def execSerTx (master e : Nat) (v : W32) (s : State) : Out :=
  ok (decide (e < 8)) 
    (s.regWrite (s.whoIs master) (serReg e 8) 4 fun u => u.writeSerTx master e v)

/-- SER_RX (R310). -/
def execSerRx (by_ : AskBy) (e : Nat) (s : State) : Out :=
  ok (decide (e < 8)) (s.regRead by_ s.device (serReg e 0xC) 4 fun u => u.readSer e)

/-- SER_CTL (R311). -/
def execSerCtl (master e : Nat) (v : W32) (s : State) : Out :=
  ok (decide (e < 8)) 
    (s.regWrite (s.whoIs master) (serReg e 0) 4 fun u => u.writeSerCtl master e v)

/-- CTS holds a UART's transmitter: RTS/CTS is on, and a pin on the engine's CTS signal reads high (R298, R309). -/
def State.ctsHolds (s : State) (e : Nat) : Bool :=
  bitq (s.ser e).ctl 12 && (s.ser e).mode == 3 && s.fio.pins.any fun (x : Nat × Pin) =>
    x.2.func == 3 && x.2.sel == 4 * e + 3 && x.2.level

/-- SERIAL_UNIT_DONE (R310, R311): in a mode that is on, outside frost and sleep, with an entry to send or,
for a UART, a character received. -/
def execSerialUnitDone (e : Nat) (u : SerUnit) (s : State) : Out :=
  let x := s.ser e
  let due := x.mode != 0 && !x.frozen && ((x.busy && !(u.rx.isNone && s.ctsHolds e)) || (x.mode == 3 && u.rx.isSome))
  ok (decide (e < 8)) (when_ (due && s.ioRuns) (s.serUnit e u) s)

end Sys2Proof.Machine
end

