-- ==== Sys2Proof/Machine/EngineIn.lean ====
section
/-! DEFINITION. The inspection engine's input side: model memory (R227 to R231), line numbers
(R207) and the packing of records (R222 to R226). -/

namespace Sys2Proof.Machine

/-- Crossbar port of the engine in fault records (R151, R324). -/
def engUnit : Nat := 0x8000 + 17

/-- The engine works: the device is in Run, and no stop of R237 holds the engine. -/
def State.engineRuns (s : State) : Bool := s.running && !s.engine.halted

/-- A change of the engine's own fields. -/
def State.setEngine (s : State) (e : Engine) : State := { s with engine := e }

/-- Set bits of ENG_ERR. -/
def State.engErr (s : State) (bit : Nat) : State :=
  s.setEngine { s.engine with err := s.engine.err ||| (1 <<< bit) }

/-- Stream `k` is Armed or Running. -/
def Stream.live (v : Stream) : Bool := v.st == .armed || v.st == .running

/-! ### Model memory (R227 to R230) -/

/-- Bytes of one bank. -/
def bankSize : Nat := 0x400000
/-- The physical bank that is away. -/
def Engine.awayBank (e : Engine) : Nat := 1 - e.homeBank

/-- Where model images are read: one physical bank, with a free number for the bytes of uncorrectable
words. -/
structure Model where
  mem : Mem
  bad : List Nat
  base : Nat
  free : Nat

/-- The model in physical bank `b`. -/
def State.model (s : State) (b : Nat) : Model :=
  { mem := s.engine.mem, bad := s.engine.bad, base := b * bankSize, free := s.free }

/-- Byte at offset `o` of the bank. -/
def Model.byte (m : Model) (o : Nat) : Nat :=
  let a := m.base + o
  if m.bad.contains (a / 4) then (Config.freeByte (m.free + o)).toNat else (memGet 0 a m.mem).toNat

/-- Little-endian number of `n` bytes at offset `o`. -/
def Model.num (m : Model) (o : Nat) : Nat → Nat
  | 0 => 0
  | n + 1 => m.byte o + 256 * m.num (o + 1) n

/-- Signed number of `n` bytes at offset `o`. -/
def Model.int (m : Model) (o n : Nat) : Int := sint (8 * n) (m.num o n)

/-- Offset of the section for stream `k`, 0 for none. -/
def Model.sect (m : Model) (k : Nat) : Nat := m.num (16 + 4 * k) 4

/-- A section header (R229). -/
structure Section where
  off : Nat
  pixels : Nat
  bands : Nat
  nidx : Nat
  nrules : Nat
  corrMode : Nat
  gshift : Nat
  corrOff : Nat
  projOff : Nat
  ruleOff : Nat
  fgMask : Nat
  defClass : Nat
  sqIdx : Nat
  sumIdx : List Nat
  clsCnt : List Nat
  roiFirst : Nat
  roiLast : Nat
  histIndex : Nat
  hshift : Nat
  hbase : Int
  histLines : Nat
  histClasses : Nat
  strips : List (Nat × Nat)
  deriving DecidableEq, Repr

/-- The section header at offset `o`. -/
def Model.sectionAt (m : Model) (o : Nat) : Section :=
  { off := o, pixels := m.num o 2, bands := m.num (o + 2) 2, nidx := m.byte (o + 4)
    nrules := m.byte (o + 5), corrMode := m.byte (o + 6), gshift := m.byte (o + 7)
    corrOff := m.num (o + 8) 4, projOff := m.num (o + 12) 4, ruleOff := m.num (o + 16) 4
    fgMask := m.num (o + 20) 2, defClass := m.byte (o + 22), sqIdx := m.byte (o + 23)
    sumIdx := (List.range 8).map fun i => m.byte (o + 24 + i)
    clsCnt := (List.range 4).map fun i => m.byte (o + 32 + i)
    roiFirst := m.num (o + 36) 2, roiLast := m.num (o + 38) 2
    histIndex := m.byte (o + 40), hshift := m.byte (o + 41), hbase := m.int (o + 42) 2
    histLines := m.num (o + 44) 2, histClasses := m.num (o + 46) 2
    strips := (List.range 4).map fun i => (m.num (o + 48 + 4 * i) 2, m.num (o + 50 + 4 * i) 2) }

/-- Bytes of a projection row (R230). -/
def projStride (bands : Nat) : Nat := 8 + (2 * bands + 7) / 8 * 8

/-- The tables of a section as (offset, length) (R230). -/
def Section.tables (x : Section) : List (Nat × Nat) :=
  [(x.corrOff, if x.corrMode = 0 then 0 else if x.corrMode = 1 then 4 * x.bands
      else 4 * x.pixels * x.bands),
   (x.projOff, x.nidx * projStride x.bands), (x.ruleOff, 72 * x.nrules)]

/-- Whether one word of a range of the bank is uncorrectable. -/
def Model.badIn (m : Model) (r : Nat × Nat) : Option Nat :=
  m.bad.find? fun w => decide (m.base + r.1 < 4 * w + 4) && decide (4 * w < m.base + r.1 + r.2)

/-- The first uncorrectable word that a line of stream `k` reads: its section's header, and the tables unless the line
is missing (R234, log 103). -/
def Model.badFor (m : Model) (k : Nat) (missing : Bool) : Option Nat :=
  let x := m.sectionAt (m.sect k)
  ((16 + 4 * k, 4) :: (x.off, 64) :: (if missing then [] else x.tables)).findSome? m.badIn

/-- Fields of a section in their ranges (R229, R230). -/
def Model.sectionOk (m : Model) (x : Section) : Bool :=
  decide (1 ≤ x.pixels ∧ x.pixels ≤ 4096) && decide (1 ≤ x.bands ∧ x.bands ≤ 256) &&
  decide (1 ≤ x.nidx ∧ x.nidx ≤ 16) && decide (x.nrules ≤ 32) && decide (x.corrMode ≤ 2) &&
  decide (x.gshift ≤ 24) && x.tables.all (fun t => t.1 % 8 == 0) &&
  decide (x.fgMask < 0x8000) && decide (x.defClass ≤ 14) &&
  (x.sqIdx == 0xFF || decide (x.sqIdx < x.nidx)) &&
  x.sumIdx.all (fun i => i == 0xFF || decide (i < x.nidx)) && x.clsCnt.all (fun c => decide (c ≤ 15)) &&
  decide (x.roiFirst ≤ x.roiLast ∧ x.roiLast < x.pixels) &&
  (x.histIndex == 0xFF || decide (x.histIndex < x.nidx)) && decide (x.hshift ≤ 15) &&
  decide (1 ≤ x.histLines) && x.strips.all (fun t => decide (t.2 < t.1) || decide (t.2 < x.pixels)) &&
  (List.range x.nidx).all (fun i =>
    let r := x.projOff + i * projStride x.bands
    decide (m.byte (r + 4) ≤ 31) && m.num (r + 5) 3 == 0) &&
  (List.range x.nrules).all (fun i =>
    let r := x.ruleOff + 72 * i
    decide (m.byte r ≤ 14) && m.byte (r + 1) == 0 && m.num (r + 4) 4 == 0)

/-- No two ranges of the list overlap. -/
def disjoint : List (Nat × Nat) → Bool
  | [] => true
  | a :: r => r.all (fun b => a.2 == 0 || b.2 == 0 || decide (a.1 + a.2 ≤ b.1) || decide (b.1 + b.2 ≤ a.1))
      && disjoint r

/-- The image bytes of a bank from `o`. -/
def Model.bytes (m : Model) (o n : Nat) : List Byte :=
  (List.range n).map fun i => BitVec.ofNat 8 (m.byte (o + i))

/-- The sections of an image as headers. -/
def Model.sections (m : Model) : List Section :=
  ((List.range 4).filter fun k => m.sect k != 0).map fun k => m.sectionAt (m.sect k)

/-- What validation finds (R231): 0 valid, 1 VERIFY_FAILED, 2 BAD_ARGUMENT.  A SIZE outside its range has
no CRC to match. -/
def Model.validate (m : Model) : Nat :=
  let size := m.num 8 4
  if m.num 0 4 ≠ 0x4C444D49 ∨ m.num 4 2 ≠ 1 ∨ size < 0x140 ∨ bankSize < size then 1
  else if m.num 12 4 ≠ (crc32 (m.bytes 16 (size - 16))).toNat then 1
  else
    let secs := m.sections
    let ranges := (0, 256) :: secs.flatMap fun x => (x.off, 64) :: x.tables
    if secs.all (fun x => x.off % 8 == 0 && m.sectionOk x) &&
        ranges.all (fun r => r.2 == 0 || decide (r.1 + r.2 ≤ size)) && disjoint ranges then 0
    else 2

/-- A write into model memory (R227): served only in the away bank outside a switch; false for the error
completion. -/
def State.writeModel (s : State) (addr : Nat) (data : List Byte) : State × Bool :=
  let e := s.engine
  let lo := e.awayBank * bankSize
  if e.switching || decide (addr < lo) || decide (lo + bankSize < addr + data.length) then
    (s.engErr 6, false)
  else
    (s.setEngine { e with
      mem := memWrite 0 e.mem addr data, awayValid := false
      bad := e.bad.filter fun w => !(decide (addr ≤ 4 * w) && decide (4 * w + 4 ≤ addr + data.length)) },
      true)

/-! ### Line numbers (R207) -/

/-- The signed distance from `b` to `a` of 32-bit line numbers. -/
def lineDiff (a b : Nat) : Int := sint 32 (a + 2 ^ 32 - b)

/-- The value nearest to `prev` with the low `w` bits of `raw`; a tie is a free choice. -/
def extendLine (w prev raw : Nat) (tie : Bool) : Nat :=
  let m := 2 ^ w
  let d := (raw % m + m - prev % m) % m
  if 2 * d < m ∨ (2 * d = m ∧ tie) then (prev + d) % 2 ^ 32 else (prev + d + 2 ^ 32 - m) % 2 ^ 32

/-! ### Status records (R222) -/

/-- Count a departure: the first line since the code was last emitted (or, for 0x3 to 0x5, the line itself) and the
sum of the counts. -/
def addStatus (code line n : Nat) : List (Nat × Nat × Nat) → List (Nat × Nat × Nat)
  | [] => [(code, line, n)]
  | (c, l, k) :: r =>
    if c = code then (c, if 3 ≤ code ∧ code ≤ 5 ∨ lineDiff line l < 0 then line else l, k + n) :: r
    else (c, l, k) :: addStatus code line n r

/-- Add to a stream's pending status. -/
def Stream.note (v : Stream) (code line n : Nat) : Stream :=
  { v with pendingStatus := addStatus code line n v.pendingStatus }

/-- Samples of a whole line. -/
def Stream.lineSamples (v : Stream) : Nat := v.par.pixels * v.par.bands

/-- Address of buffer `h` in the port buffer memory (R198). -/
def bufAddr (h : Nat) : Nat := h % 2048 * 2048

/-- Free the engine's buffers. -/
def State.freeBufs (s : State) (l : List Nat) : State := l.foldl (fun u h => u.poolFreeOp 0x420 h) s

/-! ### Packing (R223, R224, R226) -/

/-- The engine waits under R226. -/
def Engine.waiting (e : Engine) : Bool := !e.heldPush.isEmpty || !e.heldRec.isEmpty

/-- The stream whose entry or record the engine waits for. -/
def Engine.waiter (e : Engine) : Nat :=
  match e.heldPush with
  | h :: _ => fld h.entry 20 2
  | [] => (e.heldRec.head?.map fun h => h.stream).getD 0

/-- A wait starts; a try for a buffer is 1 µs from the next (R226). -/
def State.startWait (s : State) : State :=
  s.setEngine { s.engine with
    waitSince := some (s.engine.waitSince.getD s.now), retryAt := s.now }

/-- STRM_STALL of the stream that waits counts the microseconds waited so far (R226); `waitSince` is where the one
not yet counted began. -/
def State.countStall (s : State) : State :=
  match s.engine.waitSince with
  | none => s
  | some t =>
    let n := s.usSince t
    if n = 0 then s
    else
      let k := s.engine.waiter
      let v := s.stream k
      let s1 := s.setStream k { v with cnt := { v.cnt with stall := add32 v.cnt.stall n } }
      s1.setEngine { s1.engine with waitSince := some (t + usTicks n) }

/-- A wait ends once nothing is held. -/
def State.endWait (s : State) : State :=
  if s.engine.waiting then s else s.setEngine { s.engine with waitSince := none }

/-- Record queue of a stream for a kind. -/
def Stream.queueOf (v : Stream) (kind : Nat) : Nat :=
  if kind = 0 then v.par.itemQ else if kind = 1 then v.par.histQ else v.par.statusQ

/-- The queue entry of a buffer (R223). -/
def recEntry (k kind count handle : Nat) : W32 :=
  w32 (handle % 65536 + count % 16 * 2 ^ 16 + k * 2 ^ 20 + kind * 2 ^ 22)

/-- A queue has taken an entry of the engine, whose buffer is now one that the engine pushed (R224). -/
def State.notePushed (s : State) (e : W32) : State :=
  { s with pool := { s.pool with enginePushed := fld e 0 11 :: s.pool.enginePushed } }

/-- Push an entry of the engine; held while the queue is full (R179, R226). -/
def State.enginePush (s : State) (q : Nat) (e : W32) : State :=
  if s.engine.heldPush.isEmpty then
    let r := s.hwPush q e 0x420
    if r.2 then r.1.notePushed e
    else (s.setEngine { s.engine with heldPush := [⟨q, e⟩] }).startWait
  else s.setEngine { s.engine with heldPush := s.engine.heldPush ++ [⟨q, e⟩] }

/-- Push the open buffer of a kind, if it holds a record. -/
def State.pushBuf (s : State) (k kind : Nat) : State :=
  let v := s.stream k
  match tfind? kind v.recs with
  | none => s
  | some b =>
    (s.setStream k { v with recs := tdel kind v.recs }).enginePush (v.queueOf kind)
      (recEntry k kind b.count b.handle)

/-- Push every non-empty buffer of stream `k`. -/
def State.pushAll (s : State) (k : Nat) : State := ((s.pushBuf k 0).pushBuf k 1).pushBuf k 2

/-- Push every non-empty buffer of stream `k`, once the records that wait have entered theirs and outside frost
(R223, R226, R237). -/
def State.flushStream (s : State) (k : Nat) : State :=
  if s.engine.halted || !s.engine.heldRec.isEmpty then s.setStream k { s.stream k with flushDue := true }
  else (s.setStream k { s.stream k with flushDue := false }).pushAll k

/-- The flushes that were put off. -/
def State.dueFlushes (s : State) : State :=
  (List.range 4).foldl (fun u k => if (u.stream k).flushDue then u.flushStream k else u) s

/-- Write a record into the open buffer `b` and push it after the 16th. -/
def State.putRec (s : State) (k kind : Nat) (b : RecBuf) (bytes : List Byte) : State :=
  let v := s.stream k
  let s1 := (s.writeBuf (bufAddr b.handle + 128 * b.count) bytes).setStream k
    { v with recs := tput kind { b with count := b.count + 1 } v.recs }
  if b.count = 15 then s1.pushBuf k kind else s1

/-- Write a record, taking a buffer where none is open; false where the pool gives none. -/
def State.tryRec (s : State) (k kind : Nat) (bytes : List Byte) : State × Bool :=
  match tfind? kind (s.stream k).recs with
  | some b => (s.putRec k kind b bytes, true)
  | none =>
    let r := s.take 0x420
    match r.2 with
    | none => (r.1, false)
    | some h => (r.1.putRec k kind { handle := h, count := 0, since := s.now } bytes, true)

/-- Emit a record; while the engine waits it is held. -/
def State.emit (s : State) (k kind : Nat) (bytes : List Byte) : State :=
  let hold (u : State) :=
    (u.setEngine { u.engine with heldRec := u.engine.heldRec ++ [⟨k, kind, bytes⟩] }).startWait
  if s.engine.waiting then hold s
  else
    let r := s.tryRec k kind bytes
    if r.2 then r.1 else hold r.1

/-- Emit the records that were held, until one must wait again. -/
def State.drainHeld (s : State) : List HeldRec → State
  | [] => s
  | h :: r =>
    if s.engine.waiting then s.setEngine { s.engine with heldRec := s.engine.heldRec ++ (h :: r) }
    else (s.emit h.stream h.kind h.bytes).drainHeld r

/-- A record with its CRC-16 (R218). -/
def withCrc (bs : List Byte) : List Byte :=
  let b := sliceB bs 0 126
  b ++ leBytes (crc16 b).toNat 2

/-- A status record (R222). -/
def statusRec (src code line arg : Nat) : List Byte :=
  withCrc (3 :: BitVec.ofNat 8 src :: leBytes code 2 ++ leBytes line 4 ++ leBytes arg 4)

end Sys2Proof.Machine
end

