-- ==== Sys2Proof/Machine/Engine.lean ====
section
/-! DEFINITION. The inspection engine's line processing (R210 to R221, R232 to R236) and the rows of the
engine. -/

namespace Sys2Proof.Machine

/-! ### Pixels (R210 to R212) -/

/-- Clamp to 16-bit two's complement. -/
def sat16 (v : Int) : Int := max (-32768) (min 32767 v)

/-- An arithmetic shift right by `n` with the rounding term of R210. -/
def roundShift (v : Int) (n : Nat) : Int :=
  if n = 0 then v else (v + 2 ^ (n - 1)) / 2 ^ n

/-- A correction: the value and whether it was clamped (R210). -/
def Model.correct (m : Model) (x : Section) (bits pixel band v : Nat) : Int × Bool :=
  if x.corrMode = 0 then ((if bits ≤ 15 then v * 2 ^ (15 - bits) else v / 2 : Nat), false)
  else
    let o := x.corrOff + 4 * (if x.corrMode = 1 then band else pixel * x.bands + band)
    let p : Int := ((v : Int) - m.num o 2) * m.num (o + 2) 2
    let c := roundShift p x.gshift
    (sat16 c, c != sat16 c)

/-- An index: the value and whether it was clamped (R211). -/
def Model.project (m : Model) (x : Section) (i : Nat) (cs : List Int) : Int × Bool :=
  let r := x.projOff + i * projStride x.bands
  let acc := ((List.range cs.length).zip cs).foldl
    (fun a e => a + e.2 * m.int (r + 8 + 2 * e.1) 2) (m.int r 4)
  let v := roundShift acc (m.byte (r + 4) % 32)
  (sat16 v, v != sat16 v)

/-- Whether rule `r` matches (R212).  A bit of MASK for an index that the section does not form tests nothing (log 132). -/
def Model.ruleHit (m : Model) (x : Section) (r : Nat) (idx : List Int) : Bool :=
  let o := x.ruleOff + 72 * r
  let mask := m.num (o + 2) 2
  ((List.range idx.length).zip idx).all fun e =>
    !bitAt mask e.1 || (decide (m.int (o + 8 + 4 * e.1) 2 ≤ e.2) && decide (e.2 ≤ m.int (o + 10 + 4 * e.1) 2))

/-- What a line gives for one pixel. -/
structure Pixel where
  cls : Nat
  idx : List Int
  sat : Bool
  clips : Nat
  deriving DecidableEq, Repr

/-- The class by the rules (R212). -/
def Model.classify (m : Model) (x : Section) (idx : List Int) : Nat :=
  match (List.range x.nrules).find? fun r => m.ruleHit x r idx with
  | some r => m.byte (x.ruleOff + 72 * r)
  | none => x.defClass

/-- One pixel of a line.  A pixel that lacks a sample takes class 15; a free value stands for the sample, and no clamp
of it is counted. -/
def Model.pixel (m : Model) (x : Section) (p : StreamParams) (b : LineBuf) (n : Nat) : Pixel :=
  let xs := (List.range p.bands).map fun k => (k, tfind? (n * p.bands + k) b.samples)
  let cs := xs.map fun e =>
    let c := m.correct x p.bits n e.1 (e.2.getD (Config.freeNat (m.free + 16 * n + e.1) % 2 ^ p.bits))
    (c.1, c.2 && e.2.isSome)
  let is := (List.range x.nidx).map fun i => m.project x i (cs.map (·.1))
  let idx := is.map (·.1)
  { cls := if xs.any (·.2.isNone) then 15 else if n < x.roiFirst ∨ x.roiLast < n then 0 else m.classify x idx
    idx := idx, sat := xs.any fun e => e.2 == some (2 ^ p.bits - 1)
    clips := cs.countP (·.2) + is.countP (·.2) }

/-- Foreground (R212). -/
def Section.fg (x : Section) (c : Nat) : Bool := c != 15 && bitAt x.fgMask c

/-- Runs of adjacent foreground pixels, from pixel `n` on; `start` is the open run's first pixel (R213). -/
def formRuns (x : Section) (n : Nat) (start : Option Nat) : List Pixel → List Run
  | [] => match start with
    | none => []
    | some a => [⟨a, n - 1, none⟩]
  | q :: r =>
    if x.fg q.cls then formRuns x (n + 1) (some (start.getD n)) r
    else match start with
      | none => formRuns x (n + 1) none r
      | some a => ⟨a, n - 1, none⟩ :: formRuns x (n + 1) none r

/-! ### Items (R213 to R217) -/

/-- Runs of two lines connect: 8-connectivity (R213). -/
def Run.touches (r q : Run) : Bool := decide (r.a ≤ q.b + 1) && decide (q.a ≤ r.b + 1)

/-- What one line's segmentation works on. -/
structure Seg where
  prev : List Run
  split : List Run
  items : List Item
  nextItem : Nat
  done : List Run
  itemOvf : Nat
  deriving DecidableEq, Repr

/-- Bits of an item's FLAGS (R219). -/
def Item.flag (i : Item) (bit : Nat) : Item := { i with flags := i.flags ||| (1 <<< bit) }
/-- A flag set when `c` holds. -/
def Item.flagIf (i : Item) (c : Bool) (bit : Nat) : Item := if c then i.flag bit else i

/-- The item that survives a merge: earlier FIRST_LINE, then lower ITEM (R214). -/
def Item.before (a b : Item) : Bool :=
  decide (lineDiff a.first b.first < 0) || (a.first == b.first && decide (a.num < b.num))

/-- Pairwise sums, as long as the longer list. -/
def sumLists : List Int → List Int → List Int
  | [], b => b
  | a, [] => a
  | x :: a, y :: b => (x + y) :: sumLists a b

/-- The survivor takes every accumulator of `b`; SUM_DL is taken against its own FIRST_LINE (R214, R217).  Each absorbed
item adds its MERGES and one (log 133). -/
def Item.merge (a b : Item) : Item :=
  let latest := if lineDiff a.last b.last < 0 then b else a
  { a with
    last := latest.last, stamp := latest.stamp
    xMin := min a.xMin b.xMin, xMax := max a.xMax b.xMax
    area := a.area + b.area, sumX := a.sumX + b.sumX
    sumDl := a.sumDl + b.sumDl + b.area * (lineDiff b.first a.first).toNat
    sums := sumLists a.sums b.sums, sumSq := a.sumSq + b.sumSq
    sqMin := if a.area = 0 then b.sqMin else if b.area = 0 then a.sqMin else min a.sqMin b.sqMin
    sqMax := if a.area = 0 then b.sqMax else if b.area = 0 then a.sqMax else max a.sqMax b.sqMax
    cnts := (sumLists (a.cnts.map Int.ofNat) (b.cnts.map Int.ofNat)).map Int.toNat
    sat := a.sat + b.sat, merges := a.merges + b.merges + 1
    flags := a.flags ||| b.flags ||| (if a.bank = b.bank then 0x40 else 0x140) }

/-- Rename item `b` to `a` in runs. -/
def renameRuns (a b : Nat) (l : List Run) : List Run :=
  l.map fun r => if r.item = some b then { r with item := some a } else r

/-- Merge item `b` into item `a`. -/
def Seg.mergeInto (g : Seg) (a b : Item) : Seg :=
  { g with
    items := (g.items.filter fun i => i.num != b.num).map fun i => if i.num = a.num then i.merge b else i
    prev := renameRuns a.num b.num g.prev, done := renameRuns a.num b.num g.done }

/-- Merge all of `l` into the one that survives. -/
def Seg.mergeAll (g : Seg) : List Item → Seg × Option Nat
  | [] => (g, none)
  | a :: r =>
    let win := r.foldl (fun x y => if y.before x then y else x) a
    ((a :: r).foldl (fun u x =>
      if x.num = win.num then u
      else match u.items.find? fun i => i.num == x.num with
        | some y => u.mergeInto win y
        | none => u) g, some win.num)

/-- One run of line `l` (R214, R215). `room` says whether the engine has an accumulator for one more item
of the stream when it holds so many; an accumulator that a merge of the same line has freed counts as free (log 134). -/
def Seg.addRun (g : Seg) (bank l : Nat) (stamp : Stamp) (room : Nat → Bool) (r : Run) : Seg :=
  let near := g.prev.filter fun q => r.touches q
  let partial_ := near.any fun q => q.item.isNone
  let nums := near.filterMap fun q => q.item
  let conn := g.items.filter fun i => nums.contains i.num
  let cont := g.split.filter fun q => r.touches q
  match g.mergeAll conn with
  | (g1, some n) =>
    { g1 with
      items := g1.items.map fun i =>
        if i.num = n then (i.flagIf partial_ 5).flagIf (!cont.isEmpty) 3 else i
      done := g1.done ++ [{ r with item := some n }] }
  | (g1, none) =>
    if room g1.items.length then
      let n := g1.nextItem
      let i : Item := { num := n, first := l, last := l, xMin := r.a, xMax := r.b, stamp := stamp, bank := bank }
      let from_ := cont.filterMap fun q => q.item
      let joined := g1.split.filter fun q => match q.item with
        | some k => from_.contains k
        | none => false
      { g1 with
        items := g1.items ++ [(i.flagIf partial_ 5).flagIf (!cont.isEmpty) 3]
        nextItem := n + 1
        prev := g1.prev ++ joined.map fun q => { q with item := some n }
        split := g1.split.filter fun q => !joined.contains q
        done := g1.done ++ [{ r with item := some n }] }
    else { g1 with itemOvf := g1.itemOvf + 1, done := g1.done ++ [r] }

/-- Accumulate one pixel (R217). -/
def Item.addPixel (i : Item) (x : Section) (l n : Nat) (q : Pixel) : Item :=
  let at_ (j : Nat) : Int := if j = 0xFF then 0 else (q.idx[j]?).getD 0
  let sq := at_ x.sqIdx
  let i1 := { i with
    area := i.area + 1, sumX := i.sumX + n
    sumDl := i.sumDl + (lineDiff l i.first).toNat
    xMin := min i.xMin n, xMax := max i.xMax n
    sums := sumLists i.sums (x.sumIdx.map at_)
    sumSq := i.sumSq + (sq * sq).toNat
    sqMin := if i.area = 0 then sq else min i.sqMin sq
    sqMax := if i.area = 0 then sq else max i.sqMax sq
    cnts := (sumLists (i.cnts.map Int.ofNat) (x.clsCnt.map fun c => if c = q.cls then 1 else 0)).map
      Int.toNat
    sat := i.sat + b2n q.sat }
  ((i1.flagIf (n == x.roiFirst) 0).flagIf (n == x.roiLast) 1).flagIf (q.clips != 0) 9

/-- An item that holds lines, or stays open, under another model than the one it was opened under (R219, R233). -/
def Item.mixed (i : Item) (bank : Nat) : Item := i.flagIf (i.bank != bank) 8

/-- Accumulate a run's pixels into its item, under the model in `bank`. -/
def addRunPixels (x : Section) (bank l : Nat) (px : List Pixel) (stamp : Stamp) (items : List Item)
    (r : Run) : List Item :=
  match r.item with
  | none => items
  | some n => items.map fun i =>
      if i.num = n then
        ((List.range (r.b - r.a + 1)).map (r.a + ·)).foldl
          (fun j k => match px[k]? with
            | some q => j.addPixel x l k q
            | none => j) { i.mixed bank with last := l, stamp := stamp }
      else i

/-! ### Records (R218, R221) -/

/-- SRC byte (R218). -/
def srcByte (bank k : Nat) : Nat := bank * 16 + k

/-- An item record.  R219's table gives bit 10 of FLAGS to TIME_UNKNOWN where its sentence calls bits [15:10] zero: the bit is set
(log 131). -/
def itemRec (bank k : Nat) (i : Item) : List Byte :=
  let flags := (i.flagIf i.stamp.unknown 10).flags
  let sum (j : Nat) := leBytes (uint 48 ((i.sums[j]?).getD 0)) 6
  withCrc (1 :: BitVec.ofNat 8 (srcByte bank k) :: leBytes flags.toNat 2 ++ leBytes i.num 4 ++
    leBytes i.first 4 ++ leBytes i.last 4 ++ leBytes i.xMin 2 ++ leBytes i.xMax 2 ++ leBytes i.area 4 ++
    leBytes i.sumX 6 ++ leBytes i.sumDl 6 ++ leBytes i.stamp.ns 4 ++ leBytes i.stamp.sec 4 ++
    (List.range 8).flatMap sum ++ leBytes i.sumSq 8 ++
    (List.range 4).flatMap (fun j => leBytes ((i.cnts[j]?).getD 0) 4) ++ leBytes i.sat 4 ++
    leBytes (uint 16 i.sqMin) 2 ++ leBytes (uint 16 i.sqMax) 2 ++ leBytes (min 255 i.merges) 1 ++ [0])

/-- A histogram record. -/
def histRec (bank k strip index : Nat) (p : HistPeriod) (h : HistStrip) (short unknown : Bool) :
    List Byte :=
  let flags := b2n h.sat + 2 * b2n p.gap + 4 * b2n short + 8 * b2n unknown
  withCrc (2 :: BitVec.ofNat 8 (srcByte bank k) :: leBytes flags 2 ++ leBytes strip 1 ++ leBytes index 1 ++
    leBytes p.lines 2 ++ leBytes (p.first.getD 0) 4 ++ [0, 0, 0, 0] ++
    (List.range 48).flatMap (fun j => leBytes (tget 0 j h.bins) 2) ++ leBytes (uint 48 h.sum) 6 ++
    leBytes h.count 4 ++ leBytes (uint 16 h.min) 2 ++ leBytes (uint 16 h.max) 2)

/-- Close items: their records are emitted in the order of their numbers and counted. -/
def State.closeItems (s : State) (bank k : Nat) (l : List Item) : State :=
  l.foldl (fun u i =>
    let v := u.stream k
    (u.setStream k { v with closed := (v.closed + 1) % 2 ^ 32 }).emit k 0 (itemRec bank k i)) s

/-- A strip in use: its first pixel is not above its last (R220). -/
def Section.usedStrips (x : Section) : List (Nat × (Nat × Nat)) :=
  ((List.range 4).zip x.strips).filter fun e => decide (e.2.1 ≤ e.2.2)

/-- End of a histogram period (R220): one record per strip, and the histograms start afresh. -/
def State.endPeriod (s : State) (bank k : Nat) (x : Section) (short : Bool) : State :=
  if x.histIndex = 0xFF then s
  else
    let p := (s.stream k).hist
    let s1 := x.usedStrips.foldl (fun u e =>
      u.emit k 1 (histRec bank k e.1 x.histIndex p (tget {} e.1 p.strips) short u.time.unknown)) s
    s1.setStream k { s1.stream k with hist := {} }

/-- One pixel in a strip (R220). -/
def stripAdd (h : HistStrip) (x : Section) (v : Int) : HistStrip :=
  let b := (max 0 (min 47 ((v - x.hbase) / 2 ^ x.hshift))).toNat
  let n := tget 0 b h.bins
  { bins := tput b (if n < 0xFFFF then n + 1 else n) h.bins
    sat := h.sat || n == 0xFFFF
    sum := h.sum + v, count := h.count + 1
    min := if h.count = 0 then v else min h.min v, max := if h.count = 0 then v else max h.max v }

/-- A line's pixels in the period's strips. -/
def HistPeriod.addLine (p : HistPeriod) (x : Section) (px : List Pixel) : HistPeriod :=
  { p with strips := x.usedStrips.foldl (fun m e =>
      let h := ((List.range px.length).zip px).foldl (fun h q =>
        if decide (e.2.1 ≤ q.1) && decide (q.1 ≤ e.2.2) && bitAt x.histClasses q.2.cls then
          stripAdd h x ((q.2.idx[x.histIndex]?).getD 0)
        else h) (tget {} e.1 m)
      tput e.1 h m) p.strips }

/-- Count the released line `l`; the period ends at HIST_LINES.  Without a histogram there is no period. -/
def State.countLine (s : State) (bank k : Nat) (x : Section) (l : Nat) (gap processed : Bool) : State :=
  let v := s.stream k
  let p := v.hist
  let p1 := { p with
    first := some (p.first.getD l), released := p.released + 1, gap := p.gap || gap
    lines := p.lines + b2n processed }
  if x.histIndex = 0xFF then s
  else if x.histLines ≤ p1.released then (s.setStream k { v with hist := p1 }).endPeriod bank k x false
  else s.setStream k { v with hist := p1 }

/-- Count `n` released lines that were dropped, from line `l` on. -/
def State.countLost (s : State) (bank k : Nat) (x : Section) (l : Nat) : Nat → State
  | 0 => s
  | n + 1 => (s.countLine bank k x l true false).countLost bank k x ((l + 1) % 2 ^ 32) n

/-- Emit the pending status records, at most one of each code (R222). -/
def State.emitStatus (s : State) (bank k : Nat) : State :=
  let v := s.stream k
  v.pendingStatus.foldl
    (fun u e => u.emit k 2 (statusRec (srcByte bank k) e.1 (if e.1 = 7 then v.line else e.2.1) e.2.2))
    (s.setStream k { v with pendingStatus := [] })

/-! ### Model switch (R232, R233) -/

/-- Stream `k` has switched, or counts as switched. -/
def Stream.counted (v : Stream) : Bool :=
  v.switched || v.switchAt.isNone || v.st == .off || v.st == .error

/-- The banks exchange roles once every stream has switched (R232). -/
def State.tryExchange (s : State) : State :=
  let e := s.engine
  if e.switching && (List.range 4).all (fun k => (s.stream k).counted) then
    { s with engine := { e with
        homeBank := e.awayBank, homeValid := true, homeId := e.awayId
        awayValid := false, switching := false
        streams := e.streams.map fun x => (x.1, { x.2 with switched := false, switchAt := none }) } }
  else s

/-- The physical bank that stream `k` processes with. -/
def State.bankOf (s : State) (k : Nat) : Nat :=
  if s.engine.switching && (s.stream k).switched then s.engine.awayBank else s.engine.homeBank

/-- The section of stream `k` in a bank. -/
def State.sectionIn (s : State) (bank k : Nat) : Section :=
  let m := s.model bank
  m.sectionAt (m.sect k)

/-- The line at which a stream that processes line `l` next is to switch (R232, R233): its switch line, or the next line
where that has been processed or none is named, as for an Armed stream; before the first line that is processed, that
line is the next. -/
def Stream.switchLine (v : Stream) (l : Nat) : Option Nat :=
  v.switchAt.map fun t =>
    if !v.begun then if t = 0xFFFFFFFF ∨ lineDiff t l ≤ 0 then l else t
    else if t = 0xFFFFFFFF ∨ lineDiff t v.line ≤ 0 then (v.line + 1) % 2 ^ 32
    else t

/-- The line at which stream `k` switches, if that comes no later than line `l`. -/
def State.switchDue (s : State) (k l : Nat) : Option Nat :=
  let v := s.stream k
  if s.engine.switching && !v.switched then (v.switchLine l).filter fun t => decide (0 ≤ lineDiff l t) else none

/-- The stream switches at line `l` (R232, R233): the period ends with SHORT and SWITCH_DONE is noted. -/
def State.switchAtLine (s : State) (k l : Nat) : State :=
  let bank := s.engine.homeBank
  let s1 := if (s.stream k).hist.released = 0 then s else s.endPeriod bank k (s.sectionIn bank k) true
  (s1.setStream k ({ s1.stream k with switched := true, swLine := l }.note 1 l s.engine.awayId)).tryExchange

/-! ### One line -/

/-- Missing lines before or at a line close the open items from the second in a row on, else they carry
GAP (R209, R216). -/
def State.missLines (s : State) (bank k n : Nat) : State :=
  if n = 0 then s
  else
    let v := s.stream k
    let items := v.items.map fun i => i.flag 4
    if 2 ≤ v.missRun + n then
      (s.setStream k { v with items := [], runs := [], splitRuns := [], missRun := 2 }).closeItems bank k
        items
    else s.setStream k { v with items := items, missRun := 1 }

/-- `n` lines from line `l` on that were released and dropped: they count as missing (R209, R220). -/
def State.lostLines (s : State) (k l n : Nat) : State :=
  let bank := s.bankOf k
  if n = 0 then s else (s.missLines bank k n).countLost bank k (s.sectionIn bank k) l n

/-- Accumulators open over all streams (R215). -/
def State.openItems (s : State) : Nat :=
  (s.engine.streams.map fun e => e.2.items.length).foldl (· + ·) 0

/-- A line that holds samples (R210 to R217). -/
def State.fullLine (s : State) (bank k : Nat) (x : Section) (b : LineBuf) : State :=
  let v := s.stream k
  let m := s.model bank
  let l := b.line
  let px := (List.range v.par.pixels).map fun n => m.pixel x v.par b n
  let partial_ := decide (b.samples.length < v.lineSamples)
  let all := formRuns x 0 none px
  let others := s.openItems - v.items.length
  let room (n : Nat) : Bool := decide (n < v.par.itemQuota) && decide (others + n < 256)
  let g0 : Seg :=
    { prev := v.runs, split := v.splitRuns, items := v.items, nextItem := v.nextItem, done := [], itemOvf := 0 }
  let g := (all.take 512).foldl (fun g r => g.addRun bank l b.stamp room r) g0
  let past := all.drop 512
  let hit := g.done.filterMap fun r => r.item
  let acc := g.done.foldl (addRunPixels x bank l px b.stamp) g.items
  let keep (i : Item) : Bool := partial_ && (g.prev.any fun r => r.item == some i.num &&
    ((List.range (r.b - r.a + 3)).any fun d =>
      decide (1 ≤ r.a + d) && (px[r.a + d - 1]?).any fun q => q.cls == 15))
  let step (i : Item) : Item :=
    if hit.contains i.num then i.flagIf partial_ 4 else if keep i then i.flag 4 else i
  let items := acc.map step
  let spans (i : Item) : Bool := decide ((v.par.maxSpan : Int) ≤ lineDiff i.last i.first + 1)
  let splits := items.filter fun i => hit.contains i.num && spans i
  let gone := items.filter fun i => !hit.contains i.num && !keep i
  let left := items.filter fun i =>
    !(splits.any fun j => j.num == i.num) && !(gone.any fun j => j.num == i.num)
  let held := g.prev.filter fun r => match r.item with
    | some n => !hit.contains n && (left.any fun i => i.num == n)
    | none => false
  let isSplit (r : Run) : Bool := splits.any fun j => r.item == some j.num
  let clips := (px.map fun q => q.clips).foldl (· + ·) 0
  let v1 := { v with
    items := left, nextItem := g.nextItem, missRun := 0
    runs := (g.done.filter fun r => !isSplit r) ++ past ++ held
    splitRuns := g.done.filter isSplit
    cnt := { v.cnt with
      clip := add32 v.cnt.clip clips, itemOvf := add32 v.cnt.itemOvf g.itemOvf
      runOvf := add32 v.cnt.runOvf past.length } }
  let v2 := if g.itemOvf = 0 then v1 else v1.note 4 l g.itemOvf
  let v3 := if past.isEmpty then v2 else v2.note 5 l past.length
  let v4 := if partial_ then v3.note 3 l (v.lineSamples - b.samples.length) else v3
  let v5 := { v4 with hist := if x.histIndex = 0xFF then v4.hist else v4.hist.addLine x px }
  let s1 := s.setStream k v5
  let s2 := if g.itemOvf = 0 then s1 else s1.engErr 1
  let s3 := if past.isEmpty then s2 else s2.engErr 2
  s3.closeItems bank k (gone ++ splits.map fun i => i.flag 2)

/-- The stream goes into Error after a line that met an uncorrectable word (R234); one that drains has had its stop, and
goes on to Off (R236, log 130). -/
def State.modelError (s : State) (bank k l word : Nat) : State :=
  let v := s.stream k
  let addr := 4 * word
  let s1 := (s.setStream k ({ v with st := if v.st = StreamState.draining then .draining else .error, items := [], runs := [], splitRuns := [] }.note 8 l
      addr)).closeItems bank k (v.items.map fun i => i.flag 7)
  let s2 := ((s1.emitStatus bank k).flushStream k).engErr 5
  ({ s2 with engine := { s2.engine with eccAddr := addr } }.report 8 engUnit 0xFFFF 0 addr).tryExchange

/-- Items that stay open past the line at hand carry MIXED where they were opened under another model (R233). -/
def State.markMixed (s : State) (k : Nat) : State :=
  let bank := s.bankOf k
  s.setStream k { s.stream k with items := (s.stream k).items.map fun i => i.mixed bank }

/-- The dropped lines from `next` up to line `l`, `lost` of them, with the switch that falls among them; items that stay
open across a switch line that was itself dropped carry MIXED (R209, R233). -/
def State.upToLine (s : State) (k l next lost : Nat) : State :=
  match s.switchDue k l with
  | none => s.lostLines k next lost
  | some t =>
    let before := min lost (lineDiff t next).toNat
    let u := (s.lostLines k next before).switchAtLine k t
    if before = lost then u
    else ((u.lostLines k t 1).markMixed k).lostLines k ((t + 1) % 2 ^ 32) (lost - before - 1)

/-- The pixels and the histogram count of line `b` (R214, R216, R220, R222). -/
def State.applyLine (s : State) (bank k : Nat) (b : LineBuf) : State :=
  let x := s.sectionIn bank k
  let s1 :=
    if b.samples.isEmpty then
      let u := s.missLines bank k 1
      u.setStream k ((u.stream k).note 2 b.line 1)
    else s.fullLine bank k x b
  s1.countLine bank k x b.line (decide (b.samples.length < (s.stream k).lineSamples)) true

/-- Line `b` is done with: its buffers are free, and its items carry the switch mark (R219, R224). -/
def State.lineDone (s : State) (bank k : Nat) (b : LineBuf) : State :=
  let w := s.stream k
  let s1 := (s.setStream k { w with
    line := b.line, begun := true, items := w.items.map fun i => i.mixed bank }).freeBufs b.bufs
  { s1 with free := s1.free + 0x500000 }

/-- Process the line at the front of the backlog (R214, R216, R220, R222, R234). -/
def State.processLine (s : State) (k : Nat) : State :=
  let v := s.stream k
  match v.backlog with
  | [] => s
  | b :: rest =>
    let next := (v.line + 1) % 2 ^ 32
    let lost := if v.begun then (lineDiff b.line next).toNat else 0
    let s1 := (s.setStream k { v with backlog := rest }).upToLine k b.line next lost
    let bank := s1.bankOf k
    let s2 := (s1.applyLine bank k b).lineDone bank k b
    match (s1.model bank).badFor k b.samples.isEmpty with
    | some word => s2.modelError bank k b.line word
    | none => s2.emitStatus bank k

/-! ### Release and backlog (R207, R209) -/

/-- The open line L, empty if no frame has come for it. -/
def Stream.open_ (v : Stream) (l : Nat) : LineBuf :=
  (v.opens.find? fun b => b.line == l).getD { line := l }

/-- A backlog that is full while the engine does not wait loses its oldest line to processing first: it fills only
while the output stage waits (R209). -/
def State.makeRoom (s : State) (k : Nat) : State :=
  if 4 ≤ (s.stream k).backlog.length ∧ !s.engine.waiting ∧ !s.engine.halted then s.processLine k else s

/-- Release line L0 of stream `k`: counted, and into the backlog or dropped whole; the samples that a dropped line lacked
do not enter LINE_INCOMPLETE (log 136). -/
def State.releaseOne (s0 : State) (k : Nat) : State :=
  let s := s0.makeRoom k
  let v := s.stream k
  let l := v.l0.getD 0
  let b := v.open_ l
  let n := b.samples.length
  let cnt := { v.cnt with
    missing := if n = 0 then inc32 v.cnt.missing else v.cnt.missing
    incomplete := if n ≠ 0 ∧ n < v.lineSamples then inc32 v.cnt.incomplete else v.cnt.incomplete }
  let v1 := { v with
    cnt := cnt, l0 := some ((l + 1) % 2 ^ 32), opens := v.opens.filter fun x => x.line != l }
  if v.backlog.length < 4 then s.setStream k { v1 with backlog := v1.backlog ++ [b] }
  else
    let v2 := { v1 with cnt := { cnt with dropped := inc32 cnt.dropped } }.note 6 l 1
    ((s.setStream k (if n = 0 then v2.note 2 l 1 else v2)).engErr 3).freeBufs b.bufs

/-- Release `n` lines one by one. -/
def State.releaseLines (s : State) (k : Nat) : Nat → State
  | 0 => s
  | n + 1 => (s.releaseOne k).releaseLines k n

/-- Release L0 while all its samples have arrived. -/
def State.releaseComplete (s : State) (k : Nat) : Nat → State
  | 0 => s
  | n + 1 =>
    let v := s.stream k
    if (v.open_ (v.l0.getD 0)).samples.length = v.lineSamples then (s.releaseOne k).releaseComplete k n
    else s

/-! ### Samples (R206) -/

/-- Valid bits of a container value. -/
def StreamParams.sample (p : StreamParams) (bs : List Byte) : Nat :=
  let v := if p.little then leNum bs else beNum bs
  if p.left then v / 2 ^ (8 * p.container - p.bits) else v % 2 ^ p.bits

/-- Index in pixel-major order of sample number `i` of the line as sent. -/
def StreamParams.index (p : StreamParams) (i : Nat) : Nat :=
  if p.bil then i % p.pixels * p.bands + i / p.pixels else i

/-- First sample number of a payload with offset `o`. -/
def StreamParams.firstSample (p : StreamParams) (o : Nat) : Nat := if p.pixOff then o * p.bands else o

/-- Samples of a frame as (index, value). -/
def State.samplesOf (s : State) (p : StreamParams) (h : Handoff) : List (Nat × Nat) :=
  let n := h.payLen / p.container
  let a := bufAddr h.handle + h.payPos
  (List.range n).map fun i =>
    (p.index (p.firstSample h.offset + i), p.sample (memRead 0 s.bufMem (a + i * p.container) p.container))

/-- A frame that R208 or R458 drops. -/
def badPacket (p : StreamParams) (h : Handoff) : Bool :=
  let unit := if p.pixOff then p.container * p.bands else p.container
  h.payLen == 0 || h.payLen % unit != 0 ||
    decide (p.pixels * p.bands < p.firstSample h.offset + h.payLen / p.container)

/-- Store a frame's samples in an open line. -/
def LineBuf.store (b : LineBuf) (xs : List (Nat × Nat)) (h : Handoff) (now : Nat) : LineBuf :=
  { b with
    samples := xs.foldl (fun m x => tput x.1 x.2 m) b.samples
    bufs := b.bufs ++ [h.handle]
    stamp := if b.bufs.isEmpty then h.stamp else b.stamp
    firstAt := if b.bufs.isEmpty then now else b.firstAt }

/-- Put an open line back in its place. -/
def putOpen (b : LineBuf) (l0 : Nat) : List LineBuf → List LineBuf
  | [] => [b]
  | x :: r =>
    if x.line = b.line then b :: r
    else if lineDiff b.line l0 < lineDiff x.line l0 then b :: x :: r
    else x :: putOpen b l0 r

/-- A late frame (R207). -/
def State.lateFrame (s : State) (k : Nat) (h : Handoff) : State :=
  let v := s.stream k
  ((s.setStream k ({ v with cnt := { v.cnt with late := inc32 v.cnt.late } }.note 7 v.line 1)).engErr
    0).poolFreeOp 0x420 h.handle

/-- Store a frame of line `l` of stream `k`, inside the window. -/
def State.storeFrame (s : State) (k l : Nat) (h : Handoff) : State :=
  let v := s.stream k
  let b := v.open_ l
  let xs := s.samplesOf v.par h
  if xs.any fun x => (tfind? x.1 b.samples).isSome then s.lateFrame k h
  else
    (s.setStream k { v with opens := putOpen (b.store xs h s.now) (v.l0.getD 0) v.opens }).releaseComplete
      k 8

/-- A frame of a live stream, with its extended line number (R207). -/
def State.placeFrame (s : State) (k : Nat) (h : Handoff) : State :=
  let v := s.stream k
  let tie := Config.freeNat s.free % 2 == 1
  let l := match v.l0 with
    | none => h.lineRaw % 2 ^ 32
    | some _ => extendLine v.par.lineWidth v.prevLine h.lineRaw tie
  let s1 := { s with free := s.free + 1 }.setStream k
    { v with st := .running, prevLine := l, l0 := some (v.l0.getD l) }
  let d := lineDiff l (v.l0.getD l)
  if d < 0 then s1.lateFrame k h
  else if d < v.par.window then s1.storeFrame k l h
  else (s1.releaseLines k (d.toNat + 1 - v.par.window)).storeFrame k l h

/-- A matched frame reaches the engine (R205, R208). -/
def State.takeFrame (s : State) (h : Handoff) : State :=
  let v := s.stream h.sid
  if 4 ≤ h.sid ∨ !v.live then
    ({ s with engine := { s.engine with noStream := inc32 s.engine.noStream } }.engErr 7).poolFreeOp
      0x420 h.handle
  else if badPacket v.par h then
    (s.setStream h.sid { v with cnt := { v.cnt with badPkt := inc32 v.cnt.badPkt } }).poolFreeOp 0x420
      h.handle
  else s.placeFrame h.sid h

/-! ### Stop (R236) -/

/-- A stop: frames not yet released are freed and the stream drains. -/
def State.stopStream (s : State) (k : Nat) : State :=
  let v := s.stream k
  (s.setStream k { v with
    st := .draining, opens := [], endLine := v.l0, l0 := none, stopPacked := false }).freeBufs
    (v.opens.flatMap fun b => b.bufs)

/-- A drained stream takes the lines dropped after the last processed as missing, closes its items with STOPPED, ends
its period with SHORT and notes STOPPED. -/
def State.packStop (s0 : State) (k : Nat) : State :=
  let w := s0.stream k
  let next := (w.line + 1) % 2 ^ 32
  let lost := if w.begun then (w.endLine.map fun e => (lineDiff e next).toNat).getD 0 else 0
  let s := s0.lostLines k next lost
  let v := s.stream k
  let bank := s.bankOf k
  let x := s.sectionIn bank k
  let s1 := (s.setStream k { v with
      items := [], runs := [], splitRuns := [], stopPacked := true }).closeItems bank k
    (v.items.map fun i => i.flag 7)
  let s2 := if v.hist.released = 0 then s1 else s1.endPeriod bank k x true
  (s2.setStream k ((s2.stream k).note 9 v.line v.items.length)).emitStatus bank k

/-- The buffers are pushed, and once their queues have taken them the stream is Off; it counts as switched (R232,
R236). -/
def State.stopDone (s : State) (k : Nat) : State :=
  let s1 := s.pushAll k
  let v := s1.stream k
  if s1.engine.waiting then s1
  else (s1.setStream k { v with st := .off, backlog := [], endLine := none, flushDue := false }).tryExchange

/-! ### Rows -/

/-- FRAME_HANDOFF (R205, R237): the port gives the buffer to 0x420 and the frame to its stream. -/
def execFrameHandoff (f : Nat) (s : State) : Out :=
  let v := s.feed f
  let s' := match v.handoffs with
    | [] => s
    | h :: r =>
      ((s.setFeed f { v with handoffs := r }).poolGiveOp (0x430 + f) h.handle 0x420).takeFrame h
  ok (decide (f < 4)) (when_ s.engineRuns s' s)

/-- LINE_TIMEOUT (R207): L0 is released once LINE_TIMEOUT has passed since the first frame of a later
line; that frame may have come before the line at hand became L0 (log 135). -/
def execLineTimeout (k : Nat) (s : State) : Out :=
  let v := s.stream k
  let due := match v.l0 with
    | none => false
    | some l => v.st == .running && s.engineRuns && (v.opens.any fun b =>
        b.line != l && decide (v.par.lineTimeout ≤ s.usSince b.firstAt))
  ok (decide (k < 4)) (when_ due ((s.releaseOne k).releaseComplete k 8) s)

/-- LINE_PROCESS (R214, R226): a line of a Running or Draining stream while the engine does not wait. -/
def execLineProcess (k : Nat) (s : State) : Out :=
  let v := s.stream k
  let due := (v.st == .running || v.st == .draining) && s.engineRuns && !s.engine.waiting
  ok (decide (k < 4)) (when_ due (s.processLine k) s)

/-- FLUSH_US_EXPIRY (R223). -/
def execFlushUsExpiry (k kind : Nat) (s : State) : Out :=
  let v := s.stream k
  let due := v.par.flushUs != 0 && s.engineRuns &&
    (tfind? kind v.recs).any fun b => decide (v.par.flushUs ≤ s.usSince b.since)
  ok (decide (k < 4) && decide (kind < 3)) (when_ due (s.pushBuf k kind) s)

/-- STRM_CMD (R223): FLUSH pushes every non-empty buffer. -/
def execStrmCmd (master k : Nat) (v : W32) (s : State) : Out :=
  ok (decide (k < 4)) 
    (s.regWrite (s.whoIs master) (0x100B0110 + 0x40 * k) 4 fun u => when_ (bitq v 0) (u.flushStream k) u)

/-- The records held leave for their buffers. -/
def State.retryHeld (s : State) : State :=
  ({ s with engine := { s.engine with heldRec := [] } }.drainHeld s.engine.heldRec).endWait

/-- ENGINE_POOL_RETRY (R226): every 1 µs. -/
def execEnginePoolRetry (s : State) : Out :=
  let e := s.engine
  let due := !e.heldRec.isEmpty && e.heldPush.isEmpty && s.engineRuns && decide (1 ≤ s.usSince e.retryAt)
  ok true (when_ due s.countStall.retryHeld s)

/-- A held push enters its queue; once none is held, the records held leave for their buffers. -/
def State.acceptHeld (s0 : State) (h : HeldPush) : State :=
  let s := s0.countStall
  let s1 := { s with engine := { s.engine with heldPush := s.engine.heldPush.erase h } }
  let s2 := (s1.hwPush h.queue h.entry 0x420).1.notePushed h.entry
  if s2.engine.heldPush.isEmpty then s2.retryHeld else s2

/-- ENGINE_PUSH_ACCEPTED (R226): the first held push of queue `q` enters it. -/
def execEnginePushAccepted (q : Nat) (s : State) : Out :=
  let s' := match s.engine.heldPush.find? fun h => h.queue == q with
    | none => s
    | some h => s.acceptHeld h
  ok (decide (q < 304)) (when_ ((s.queue q).hasRoom && s.engineRuns) s' s)

/-- MODEL_MEMORY_WRITE (R227). -/
def execModelMemoryWrite (master addr : Nat) (data : List Byte) (s : State) : Out :=
  ok (decide (addr + data.length ≤ 2 * bankSize)) 
    (s.regWrite (s.whoIs master) addr (max 1 data.length) fun u => (u.writeModel addr data).1)

/-- A write of ENG_RETURN (R224). -/
def State.writeEngReturn (s : State) (master : Nat) (v : W32) : State :=
  let h := fld v 0 16
  let b := h % 2048
  if s.pool.ownerOf b == 0x420 && s.pool.enginePushed.contains b && s.pool.genOf b == h / 2048 then
    s.poolFreeOp 0x420 h
  else
    { s with engine := { s.engine with retOff := w32 (master % 4096 * 2 ^ 16 + h) } }.engErr 4

/-- ENG_RETURN (R224). -/
def execEngReturn (master : Nat) (v : W32) (s : State) : Out :=
  ok true (s.regWrite (s.whoIs master) 0x100B0010 4 fun u => u.writeEngReturn master v)

/-- STREAM_DRAINED (R236): the backlog of a Draining stream is empty. -/
def execStreamDrained (k : Nat) (s : State) : Out :=
  let v := s.stream k
  let due := v.st == .draining && v.backlog.isEmpty && s.engineRuns && !s.engine.waiting
  let s1 := if v.stopPacked then s else s.packStop k
  ok (decide (k < 4)) (when_ due (if s1.engine.waiting then s1 else s1.stopDone k) s)

end Sys2Proof.Machine
end

