-- ==== Sys2Proof/Machine/Sha256.lean ====
section
/-! DEFINITION. SHA-256, which R417 and R479 name; the spec does not define it and the definition is that of FIPS 180-4
(log 139). -/

namespace Sys2Proof.Machine

/-- The round constants: 16 of 64. -/
def shaK0 : List W32 :=
  [0x428a2f98, 0x71374491, 0xb5c0fbcf, 0xe9b5dba5, 0x3956c25b, 0x59f111f1, 0x923f82a4, 0xab1c5ed5,
   0xd807aa98, 0x12835b01, 0x243185be, 0x550c7dc3, 0x72be5d74, 0x80deb1fe, 0x9bdc06a7, 0xc19bf174]
/-- The next 16 round constants. -/
def shaK1 : List W32 :=
  [0xe49b69c1, 0xefbe4786, 0x0fc19dc6, 0x240ca1cc, 0x2de92c6f, 0x4a7484aa, 0x5cb0a9dc, 0x76f988da,
   0x983e5152, 0xa831c66d, 0xb00327c8, 0xbf597fc7, 0xc6e00bf3, 0xd5a79147, 0x06ca6351, 0x14292967]
/-- The next 16 round constants. -/
def shaK2 : List W32 :=
  [0x27b70a85, 0x2e1b2138, 0x4d2c6dfc, 0x53380d13, 0x650a7354, 0x766a0abb, 0x81c2c92e, 0x92722c85,
   0xa2bfe8a1, 0xa81a664b, 0xc24b8b70, 0xc76c51a3, 0xd192e819, 0xd6990624, 0xf40e3585, 0x106aa070]
/-- The last 16 round constants. -/
def shaK3 : List W32 :=
  [0x19a4c116, 0x1e376c08, 0x2748774c, 0x34b0bcb5, 0x391c0cb3, 0x4ed8aa4a, 0x5b9cca4f, 0x682e6ff3,
   0x748f82ee, 0x78a5636f, 0x84c87814, 0x8cc70208, 0x90befffa, 0xa4506ceb, 0xbef9a3f7, 0xc67178f2]

/-- The initial hash value. -/
def shaInit : List W32 :=
  [0x6a09e667, 0xbb67ae85, 0x3c6ef372, 0xa54ff53a, 0x510e527f, 0x9b05688c, 0x1f83d9ab, 0x5be0cd19]

/-- Word `i` of a list. -/
def shaAt (l : List W32) (i : Nat) : W32 := (l[i]?).getD 0

/-- Rotate right. -/
def shaRotr (x : W32) (n : Nat) : W32 := x.rotateRight n

/-- The message schedule, `n` more words after those in `w`. -/
def shaSchedule : Nat → List W32 → List W32
  | 0, w => w
  | n + 1, w =>
    let t := w.length
    let a := shaAt w (t - 15)
    let b := shaAt w (t - 2)
    let s0 := shaRotr a 7 ^^^ shaRotr a 18 ^^^ (a >>> 3)
    let s1 := shaRotr b 17 ^^^ shaRotr b 19 ^^^ (b >>> 10)
    shaSchedule n (w ++ [shaAt w (t - 16) + s0 + shaAt w (t - 7) + s1])

/-- One round with constant and schedule word added up in `kw`. -/
def shaRound (v : List W32) (kw : W32) : List W32 :=
  let a := shaAt v 0
  let e := shaAt v 4
  let s1 := shaRotr e 6 ^^^ shaRotr e 11 ^^^ shaRotr e 25
  let ch := (e &&& shaAt v 5) ^^^ (~~~e &&& shaAt v 6)
  let t1 := shaAt v 7 + s1 + ch + kw
  let s0 := shaRotr a 2 ^^^ shaRotr a 13 ^^^ shaRotr a 22
  let maj := (a &&& shaAt v 1) ^^^ (a &&& shaAt v 2) ^^^ (shaAt v 1 &&& shaAt v 2)
  [t1 + (s0 + maj), a, shaAt v 1, shaAt v 2, shaAt v 3 + t1, e, shaAt v 5, shaAt v 6]

/-- One block of 64 bytes. -/
def shaBlock (h : List W32) (block : List Byte) : List W32 :=
  let w := shaSchedule 48 ((List.range 16).map fun i => w32 (beNum (sliceB block (4 * i) 4)))
  let v := ((shaK0 ++ shaK1 ++ shaK2 ++ shaK3).zip w).foldl (fun v e => shaRound v (e.1 + e.2)) h
  (h.zip v).map fun e => e.1 + e.2

/-- The blocks of a padded message. -/
def shaBlocks : Nat → List W32 → List Byte → List W32
  | 0, h, _ => h
  | n + 1, h, bs => shaBlocks n (shaBlock h (bs.take 64)) (bs.drop 64)

/-- SHA-256 of a message. -/
def sha256 (bs : List Byte) : List Byte :=
  let n := bs.length
  let pad := bs ++ [0x80] ++ List.replicate ((119 - n % 64) % 64) 0 ++ (leBytes (8 * n) 8).reverse
  (shaBlocks (pad.length / 64) shaInit pad).flatMap fun w => (leBytes w.toNat 4).reverse

end Sys2Proof.Machine
end

