-- ==== Sys2Proof/Machine/Resets.lean ====
section
/-! DEFINITION. The reset kinds (R13 to R15), boot (R413 to R421), releases of claims (R300, R408) and DMA
channel resets (R253). -/

namespace Sys2Proof.Machine

/-! ### Flash banks and the boot (R414 to R421) -/

/-- A record of device `n` as the boot ROM and the firmware see it: one on a device that cannot be read counts as not
valid (R411). -/
def Boot.seen {α : Type} (b : Boot) (n : Nat) (x : Option α) : Option α := if b.absent.contains n then none else x

/-- Which of two alternating records rules: the valid one with the higher sequence number (R411). -/
def rules {α : Type} (x y : Option (Nat × α)) : Option (Nat × α) :=
  match x, y with
  | none, r => r
  | r, none => r
  | some u, some v => if u.1 ≤ v.1 then some v else some u

/-- The ruling record of a pair in flash (R411). -/
def Boot.ruled {α : Type} (b : Boot) (x y : Option (Nat × α)) : Option (Nat × α) :=
  rules (b.seen 0 x) (b.seen 1 y)

/-- Write a pair's record where none rules, with the next sequence number; once it reads back as valid the other is erased
(R411).  With one device to be read, its record is the one written; with none, nothing is (R478). -/
def Boot.put {α : Type} (b : Boot) (x y : Option (Nat × α)) (v : α) : Option (Nat × α) × Option (Nat × α) :=
  let r := b.ruled x y
  let e := ((r.map fun u => u.1 + 1).getD 0, v)
  match b.absent.contains 0, b.absent.contains 1 with
  | true, true => (x, y)
  | true, false => (x, some e)
  | false, true => (some e, y)
  | false, false => if rulesFirst x y then (none, some e) else (some e, none)
where
  /-- Record 0 is the one that rules. -/
  rulesFirst {α : Type} (x y : Option (Nat × α)) : Bool :=
    match x, y with
    | some u, some v => decide (v.1 < u.1)
    | some _, none => true
    | none, _ => false

/-- Journal record `n` with its sequence number. -/
def Journal.keyed (j : Option Journal) : Option (Nat × Journal) := j.map fun x => (x.seq, x)

/-- The journal record that rules (R411). -/
def Boot.ruling (b : Boot) : Option Journal :=
  (b.ruled (Journal.keyed b.journal0) (Journal.keyed b.journal1)).map (·.2)

/-- Trial marks set: those that read anything other than 0xFF (R415). -/
def Journal.trials (j : Journal) : Nat := (j.trialMarks.filter (· != 0xFF)).length

/-- A journal record treated as R415 says: the revert mark counts as set unless it reads 0xFF, the confirm mark only where
it reads 0x00, and the revert mark rules. -/
def Journal.effective (j : Journal) : Journal :=
  if j.state ≠ 2 then j
  else if j.revertMark ≠ 0xFF then { j with state := 0, reverted := true }
  else if j.confirmMark = 0 then { j with state := 0, active := 1 - j.active, fallback := true }
  else j

/-- The journal in force; with no valid record, CONFIRMED with bank 0 (R415). -/
def Boot.journal (b : Boot) : Journal := (b.ruling.map Journal.effective).getD {}

/-- Write a journal record (R411). -/
def Boot.writeJournal (b : Boot) (j : Journal) : Boot :=
  let r := b.put (Journal.keyed b.journal0) (Journal.keyed b.journal1) j
  let rec_ (e : Nat × Journal) : Journal := { e.2 with seq := e.1 }
  { b with journal0 := r.1.map rec_, journal1 := r.2.map rec_ }

/-- Program a mark of the ruling record in place. -/
def Boot.markRuling (b : Boot) (f : Journal → Journal) : Boot :=
  let r := b.ruling
  let g (n : Nat) (x : Option Journal) : Option Journal := if r.isSome && b.seen n x == r then x.map f else x
  { b with journal0 := g 0 b.journal0, journal1 := g 1 b.journal1 }

/-- Program the next trial mark (R414, R420). -/
def Journal.addTrial (j : Journal) : Journal :=
  let k := (j.trialMarks.takeWhile (· != 0xFF)).length
  { j with trialMarks := j.trialMarks.set k 0 }

/-- The 4 KiB header of a journal record (R414). -/
def Journal.header (j : Journal) : List Byte :=
  let h := leBytes 0x4C4E524A 4 ++ leBytes j.seq 4 ++ leBytes j.state 1 ++ leBytes j.active 1 ++
    leBytes (b2n j.fallback + 2 * b2n j.reverted) 1 ++ [0] ++ leBytes j.imageLen 4 ++ List.replicate 4076 0
  h ++ leBytes (crc32 h).toNat 4

/-- The marks that follow the header (R414). -/
def Journal.marks (j : Journal) : List Byte :=
  leBytes j.sectorMarks.toNat 8 ++ j.trialMarks ++ [j.confirmMark, j.revertMark]

/-- A journal record as it reads in flash, none where its MAGIC or CRC is wrong (R414). -/
def Journal.read (bs : List Byte) : Option Journal :=
  if leAt bs 0 4 = 0x4C4E524A ∧ leAt bs 4092 4 = (crc32 (bs.take 4092)).toNat then
    some { seq := leAt bs 4 4, state := leAt bs 8 1, active := leAt bs 9 1, fallback := bitAt (leAt bs 10 1) 0
           reverted := bitAt (leAt bs 10 1) 1, imageLen := leAt bs 12 4
           sectorMarks := BitVec.ofNat 64 (leAt bs 4096 8), trialMarks := sliceB bs 4104 3
           confirmMark := (sliceB bs 4107 1).headD 0xFF, revertMark := (sliceB bs 4108 1).headD 0xFF }
  else none

/-- The fields of a boot record copy whose MAGIC and CRC are right; one out of its range takes its default (R413). -/
def BootRec.read (m : Mem) : Option BootRec :=
  let f (o n : Nat) : Nat := leNum (memRead 0xFF m o n)
  let within (lo hi d v : Nat) : Nat := if lo ≤ v ∧ v ≤ hi then v else d
  if f 0 4 = 0x46434F42 then
    if f 4092 4 = (crc32 (memRead 0xFF m 0 4092)).toNat then
      some { pmbAddr := within 0 127 0x40 (f 4 1), ref := within 0 1 0 (f 5 1), spread := within 0 15 0 (f 6 1)
             hostConfirm := f 7 1 == 1, stallTile := within 1 10000 20 (f 8 4)
             stallArray := within 1 10000 20 (f 12 4), stallResp := within 1 10000 20 (f 16 4)
             stallCross := within 1 10000 20 (f 20 4), device := within 0 16383 0 (f 24 2) }
    else none
  else none

/-- The boot record that the boot ROM uses: copy 0, else copy 1, else every default (R413). -/
def Boot.record (b : Boot) : BootRec :=
  (((b.seen 0 (some b.copy0)).bind BootRec.read).orElse fun _ =>
    (b.seen 1 (some b.copy1)).bind BootRec.read).getD {}

/-- The overlay that the ruling calibration record holds, if it is active (R411, R432). -/
def Boot.flashOverlay (b : Boot) : Option (Table (List Int)) := (b.ruled b.cal0 b.cal1).bind (·.2)

/-- The retired tiles that the ruling fault area lists (R330, R411). -/
def Boot.retired (b : Boot) : List Nat := ((b.ruled b.fault0 b.fault1).map (·.2)).getD []

/-- Write the fault area. -/
def Boot.writeRetired (b : Boot) (l : List Nat) : Boot :=
  let r := b.put b.fault0 b.fault1 l
  { b with fault0 := r.1, fault1 := r.2 }

/-- The device whose slot rules for logical tile `t`, by the ruling tile image directory (R411, R412). -/
def Boot.slotOf (b : Boot) (t : Nat) : Option Nat := ((b.ruled b.dir0 b.dir1).map (·.2)).bind (tfind? t)

/-- The persisted image of logical tile `t` (R412). -/
def Boot.image (b : Boot) (t : Nat) : Option Mem :=
  (b.slotOf t).bind fun n => if b.absent.contains n then none else tfind? (1024 * n + t) b.slots

/-- Persist an image of logical tile `t`: into the slot that does not rule, and then the directory (R412). -/
def Boot.persist (b : Boot) (t : Nat) (m : Mem) : Boot :=
  let k := ((b.slotOf t).map fun n => 1 - n).getD 0
  let n := if b.absent.contains k then 1 - k else k
  if b.absent.contains n then b
  else
    let d := tput t n (((b.ruled b.dir0 b.dir1).map (·.2)).getD [])
    let r := b.put b.dir0 b.dir1 d
    { b with slots := tput (1024 * n + t) m b.slots, dir0 := r.1, dir1 := r.2 }

/-- The contents of firmware bank `n`. -/
def Boot.bankMem (b : Boot) (n : Nat) : Mem := if n = 0 then b.bank0 else b.bank1

/-- Replace the contents of firmware bank `n`. -/
def Boot.setBank (b : Boot) (n : Nat) (m : Mem) : Boot :=
  if n = 0 then { b with bank0 := m } else { b with bank1 := m }

/-- A field of a firmware bank; erased flash reads 0xFF. -/
def Boot.field (b : Boot) (n o len : Nat) : Nat := leNum (memRead 0xFF (b.bankMem n) o len)

/-- ROLLBACK of the image in a bank. -/
def Boot.rollbackOf (b : Boot) (n : Nat) : Nat :=
  if b.factory.contains n then (Config.factoryRollback n).val else b.field n 12 1

/-- REVOKE of the image in a bank. -/
def Boot.revokeOf (b : Boot) (n : Nat) : Nat :=
  if b.factory.contains n then Config.factoryRevoke n else b.field n 14 1

/-- PUBKEY of the image in a bank (R416). -/
def Boot.pubkey (b : Boot) (n : Nat) : List Byte := memRead 0xFF (b.bankMem n) 28 64
/-- SIGNATURE of the image in a bank, which ends it (R416). -/
def Boot.signature (b : Boot) (n : Nat) : List Byte := memRead 0xFF (b.bankMem n) (b.field n 16 4 - 64) 64

/-- The public key is that of a key slot that is not revoked, nor by the image itself, and it has signed the image
(R417). -/
def Boot.signed (b : Boot) (n : Nat) : Bool :=
  let slot := b.field n 13 1
  decide (slot < 4) && !b.revoked.contains slot && !bitAt (b.field n 14 1) slot &&
    sha256 (b.pubkey n) == (Config.keyHash slot).toList &&
    Config.ecdsaP256 (b.pubkey n) (sha256 (memRead 0xFF (b.bankMem n) 0 (b.field n 16 4 - 64))) (b.signature n)

/-- Verification of bank `n` (R417) for an image of `len` bytes; none: the length in its header.  The image
shipped in a bank passes but for the anti-rollback counter; a bank on a device that cannot be read fails (R478).  ROLLBACK
lies within 0 to 63 (R416, log 140). -/
def Boot.verify (b : Boot) (n : Nat) (len : Option Nat) : Bool :=
  !b.absent.contains n &&
  if b.factory.contains n then decide (b.antiRoll ≤ (Config.factoryRollback n).val)
  else
    let f := b.field n
    let il := f 16 4
    f 0 4 == 0x4D424F44 && f 4 2 == 1 && f 6 2 == 1024 && f 15 1 == 0 &&
      (memRead 0xFF (b.bankMem n) 92 420).all (fun x => x == 0) &&
      decide (0x10000 ≤ il ∧ il ≤ 0x400000) && len.all (fun k => k == il) &&
      decide (f 20 4 + f 24 4 ≤ il) && b.signed n && decide (f 12 1 < 64) && decide (b.antiRoll ≤ f 12 1)

/-- Outcome of the boot ROM's choice (R420, R421). -/
structure BootChoice where
  boot : Boot
  bank : Nat
  trial : Bool
  other : Bool
  recovery : Bool

/-- Boot outside a trial from `n`, with the other bank only when FALLBACK allows it (R420). -/
def Boot.plain (b : Boot) (n : Nat) (fallback forceOther : Bool) : BootChoice :=
  if !forceOther && b.verify n none then ⟨b, n, false, false, false⟩
  else if fallback && b.verify (1 - n) none then ⟨b, 1 - n, false, true, false⟩
  else if b.verify n none then ⟨b, n, false, false, false⟩
  else ⟨b, n, false, false, true⟩

/-- The bank chosen and the marks programmed (R420). -/
def Boot.choose (b : Boot) (forceOther : Bool) : BootChoice :=
  let j := b.journal
  if j.state ≠ 2 then b.plain j.active j.fallback forceOther
  else
    let b1 := b.markRuling fun x => { x with revertMark := 0 }
    if j.trials < 3 then
      let b2 := b.markRuling Journal.addTrial
      if b2.verify (1 - j.active) none then ⟨b2, 1 - j.active, true, false, false⟩
      else
        let b3 := b2.markRuling fun x => { x with revertMark := 0 }
        b3.plain j.active false false
    else b1.plain j.active false false

/-- The boot sequence from step 3 (R419 to R421): bank, trial and recovery, and ACTION 8 where the other
bank boots.  In test mode the firmware does not start (R493). -/
def State.bootUp (s : State) (forceOther : Bool) : State :=
  if s.dbgBlock.testMode then s
  else
  let c := s.boot.choose forceOther
  let s1 := { s with
    boot := { c.boot with verified := false, trialPassed := false }
    mgmt := { s.mgmt with
      up := true, restarting := false, otherBank := false, bank := c.bank, trial := c.trial
      recovery := c.recovery } }
  if c.other then s1.logFault 9 0xFFFF 0xFFFF 0 0 8 c.bank else s1

/-! ### DMA channel reset (R170, R253) -/

/-- Channel `ch` is served no longer: a channel of its engine stands pre-empted on only where it holds staged data and
another channel of higher priority is at work (R247, R251). -/
def State.unpreempt (s : State) (ch : Nat) : State :=
  let e := ch / 8 * 8
  let above (j : Nat) : Bool := (List.range 8).any fun i =>
    e + i != ch && (s.chan (e + i)).busy && decide ((s.chan (e + i)).prio < (s.chan j).prio)
  (List.range 8).foldl (fun u k =>
    let j := e + k
    let x := u.chan j
    u.setChan j { x with preempted := x.preempted && j != ch && x.busy && above j }) s

/-- A channel reset: the tags of its requests rest, and their responses are discarded.  Requests wholly sent land, and
an open worm is closed by an ABANDON (R169). -/
def State.chanReset (s : State) (ch : Nat) : State :=
  let c := s.chan ch
  let s1 := s.setChan ch { c with
    busy := false, stopping := false, last := 0x92, phase := .idle, staging := [], inbox := []
    rd := none, unacked := [], endSt := none, ends := false }
  let tags := (c.rd.toList ++ c.unacked).map fun r => (r.msg.tag, s.now)
  let e := s1.dmaE (ch / 8)
  ((s1.setDmaE (ch / 8) { e with resting := e.resting ++ tags }).unpreempt ch).fireIf c.evErr (96 + ch)

/-! ### Releases (R300, R408) -/

/-- Pins routed to a timer channel (func 2) or serial engine (func 3) enter their safe states (R300). -/
def State.safeRouted (s : State) (func i : Nat) : State :=
  s.mapPins fun _ v =>
    if v.func = func ∧ (if func = 2 then v.sel else v.sel / 4) = i then v.hold .released else v

/-- Release pin `n`. -/
def State.releasePin (s : State) (n : Nat) : State :=
  s.setPin n { (s.pin n).hold .released with owner := 0x4FF }
/-- Release timer channel `n`: Cold values. -/
def State.releaseTimer (s : State) (n : Nat) : State :=
  (s.safeRouted 2 n).setTimer n { frozen := (s.timer n).frozen }
/-- Release serial engine `e`: Cold values. -/
def State.releaseSer (s : State) (e : Nat) : State :=
  (s.safeRouted 3 e).setSer e { frozen := (s.ser e).frozen }
/-- Release DMA channel `ch`. -/
def State.releaseChan (s : State) (ch : Nat) : State :=
  let s1 := s.chanReset ch
  s1.setChan ch { s1.chan ch with owner := 0x4FF }

/-- Every claim of an owner is released (R332). -/
def State.releaseAll (s : State) (o : Nat) : State :=
  let s1 := (List.range 96).foldl (fun u n => if (u.pin n).owner = o then u.releasePin n else u) s
  let s2 := (List.range 32).foldl (fun u n => if (u.timer n).owner = o then u.releaseTimer n else u) s1
  let s3 := (List.range 8).foldl (fun u n => if (u.ser n).owner = o then u.releaseSer n else u) s2
  (List.range 128).foldl (fun u n => if (u.chan n).owner = o then u.releaseChan n else u) s3

/-! ### Device restart and cold start (R11, R13) -/

/-- A field pin after a device restart: PIN_SAFE and the pad keep their values, and the restart holds the
pin safe until the next PIN_CFG (R299, R300).  The device has then not joined, and is no longer held for want of
membership (R367). -/
def Pin.restart (v : Pin) : Pin :=
  ({ safeLevel := v.safeLevel, safeFrost := v.safeFrost, padMv := v.padMv, recv := v.recv
     recvAt := v.recvAt
     causes := v.causes.filter fun c => c == .thermal || c == .sendOff } : Pin).hold
    .restart

/-- A device restart keeps the fences, which end at READMIT_TILE only, the send-off counts and the retired list (R329,
R330, log 49). -/
def Gates.restart (g : Gates) : Gates :=
  { fenced := g.fenced, retired := g.retired, offCount := g.offCount }

/-- After a cold start the retired list is the one in flash (R330, R411, log 49). -/
def Gates.cold (retired : List Nat) : Gates := { fenced := retired, retired := retired }

/-- Islands whose clock may be spread, with their bit in SPREAD: field I/O, management, xSPI and trace (R48, R413);
islands are numbered in the order of R48's table. -/
def spreadGroups : List (Nat × Nat) := [(1, 0), (2, 1), (3, 2), (4, 3)]

/-- The islands that a boot record spreads; a SPREAD outside its range counts as its default, off (R413). -/
def BootRec.spreadIslands (b : BootRec) : List Nat :=
  if b.spread < 16 then (spreadGroups.filter fun e => bitAt b.spread e.2).map (·.1) else []

/-! ### PMBus (R39) -/

/-- One byte of the packet error code of PMBus: CRC-8, polynomial 0x07 (log 124). -/
def crc8Byte (c b : Byte) : Byte :=
  (List.range 8).foldl (fun c _ => if c.msb then (c <<< 1) ^^^ 0x07 else c <<< 1) (c ^^^ b)

/-- The data word of VOUT_COMMAND: in linear mode the voltage in steps of 2ⁿ V, n the signed exponent of VOUT_MODE
(log 124). -/
def voutWord (mode : Byte) (mv : Nat) : W16 :=
  let n := sint 5 mode.toNat
  if mode.toNat / 32 = 1 then Config.vidWord mode mv
  else if n < 0 then BitVec.ofNat 16 (mv * 2 ^ n.natAbs / 1000)
  else BitVec.ofNat 16 (mv / (1000 * 2 ^ n.toNat))

/-- What the device writes after the address: the command code, and its data (log 124). -/
def PmbCmd.written (c : PmbCmd) (mode : Byte) : Option (List Byte) :=
  match c with
  | .operation on => some [0x01, if on then 0x80 else 0x00]
  | .voutCommand mv => some (0x21 :: leBytes (voutWord mode mv).toNat 2)
  | .clearFaults => some [0x03]
  | .voutMode | .readVout | .readIout | .readTemperature | .statusWord => none

/-- A transaction with the regulator at an address. -/
def pmbTx (addr : Nat) (mode : Byte) (c : PmbCmd) : PmbTx :=
  { addr := addr, cmd := c, pec := (c.written mode).map fun bs => (BitVec.ofNat 8 (2 * addr) :: bs).foldl crc8Byte 0 }

/-- Everything outside the always-on domain returns to Cold (R11, R13), with what R419 then sets up: the
router's targets of R267 and cleared tile SRAM.  OTP, flash and what the board supplies are kept, the sensed VIO
levels of BANK_STAT among it (R296, log 104).  The copies that the referee has disabled stay so (R320), and the external
regulator is turned on (R39, R419). -/
def State.restartCore (s : State) : State :=
  { s with
    tiles := [], gates := s.gates.restart, flight := [], replies := [], queues := [], disps := []
    pool := {}, bufMem := [], engine := {}, chans := [], dmaEng := []
    router := { Router.booted with wakeCfg := s.router.wakeCfg, watch := s.router.watch }
    time := { unknown := s.time.unknown, holdover := s.time.holdover }
    aon := { s.aon with snapHi := 0 }
    fio := { (s.mapPins fun _ v => v.restart).fio with timers := [], serial := [], err := 0, offender := 0 }
    faults := { held := s.faults.held, tripped := s.faults.tripped, backupOsc := s.faults.backupOsc
                outvoted := s.faults.outvoted, disabled := s.faults.disabled }
    pace := { temps := s.pace.temps, warned := s.pace.warned
              spread := s.boot.record.spreadIslands
              pmbMode := s.pace.pmbMode, modeDue := true, resync := List.range 12
              pmbSent := [PmbCmd.operation true, .voutMode, .voutCommand 950].map
                (pmbTx s.boot.record.pmbAddr s.pace.pmbMode) }
    fabric := { sent := s.fabric.sent, beats := s.fabric.beats }
    mgmt := { restarts := s.mgmt.restarts, up := false }
    boot := { s.boot with
      bootRec := s.boot.record
      keptEntries := [], staged := none, overlay := s.boot.flashOverlay.getD [], eff := s.boot.flashOverlay.getD []
      overlayOn := s.boot.flashOverlay.isSome, recordDue := none }
    power := {}, host := {}
    feeds := (List.range 4).map fun f => (f, { turnAt := s.now })
    service := { vbus := s.service.vbus }
    dbgBlock := { ir := s.dbgBlock.ir, testMode := s.dbgBlock.testMode, drops := 0 } }

/-- A device restart completes: time is carried, the boot sequence runs from step 2, and after a thermal trip source
24 fires (R46, R283, R316, R419). -/
def State.restartDone (s : State) : State :=
  let s1 := { s with faults := { s.faults with tripped := false } }.carry.bootUp false
  s1.fireIf s.faults.tripped 24

/-- A device restart (R13, R283); while any cause holds the device in it, it does not complete. -/
def State.deviceRestart (s : State) (why : Option HeldRestart) : State :=
  let held := s.faults.held ++ why.toList.filter fun w => !s.faults.held.contains w
  let s1 := { s with faults := { s.faults with held := held } }.restartCore
  if held.isEmpty then s1.restartDone else s1

/-- A cause no longer holds the device; the restart completes once none does (R46, R323). -/
def State.letGo (s : State) (why : HeldRestart) : State :=
  let held := s.faults.held.filter (· != why)
  let s1 := { s with faults := { s.faults with held := held } }
  if held.isEmpty then s1.restartDone else s1

/-- A cold start (R13): everything restarts, the always-on domain with it; the flash, OTP and the retired
list are kept.  TEST_EN high at the release of RESET_N selects test mode (R493). -/
def State.coldStart (s : State) (testEn : Bool) : State :=
  let s1 := { s with faults := {} }.restartCore
  { s1 with
    aon := {}, time := {}
    gates := Gates.cold s.boot.retired
    router := Router.booted
    fio := { s1.fio with
      pins := s1.fio.pins.map fun (e : Nat × Pin) =>
        (e.1, { padMv := e.2.padMv, recv := e.2.recv, recvAt := e.2.recvAt : Pin }) }
    fabric := {}
    mgmt := { up := false }
    pace := { s1.pace with warned := false }
    dbgBlock := { testMode := testEn } }.bootUp false

/-! ### Management restart (R13, R14, R398) -/

/-- A response header with no payload (R390, R398). -/
def respHeader (code tag status len elapsed : Nat) : List Byte :=
  leBytes code 2 ++ leBytes tag 2 ++ leBytes status 1 ++ [0] ++ leBytes len 2 ++ leBytes elapsed 4 ++
    [0, 0, 0, 0]

/-- The service port keeps a response, also while no cable is there, and sends it on endpoint 0x82 where it is configured
(R472, R473). -/
def State.sendUp (s : State) (bytes : List Byte) : State :=
  let v := s.service
  { s with service := { v with
      kept := bytes, transfers := if v.vbus && v.configured then v.transfers + 1 else v.transfers } }

/-- A command of mailbox `m` ends: the payload and header are written, STATE is Complete, and the
completion source fires unless NO_EVENT is set (R390, R392). -/
def State.finishMbx (s : State) (m status : Nat) (payload : List Byte) : State :=
  let v := s.mbx m
  let code := leNum (memRead 0 v.cmd 0 2)
  let flags := leNum (memRead 0 v.cmd 6 2)
  let el := min 0xFFFFFFFF (s.usSince v.bellAt)
  let r := memWrite 0 v.resp 16 payload
  let r1 := memWrite 0 r 0 (respHeader code v.tag status payload.length el)
  let s1 := s.setMbx m { v with
    resp := r1, st := 3, aborting := false, endAs := none, stops := 0, lastAct := s.now }
  (if m = 2 then s1.sendUp (memRead 0 r1 0 (16 + payload.length)) else s1).fireIf
    (!bitAt flags 0) (81 + 2 * m)

/-- A command ends as an abort, a deadline or a restart says: a join or a route change that it began is no longer
answered, and a running MODEL_LOAD leaves the away bank invalid (R397, R398, R403). -/
def State.endCommand (s : State) (m status : Nat) : State :=
  let f := s.fabric
  let v := s.mbx m
  let code := leNum (memRead 0 v.cmd 0 2)
  let s1 :=
    { s with
      fabric := { f with
        joinBox := if f.joinBox = some m then none else f.joinBox
        routeDue := if code = 0x0903 then none else f.routeDue }
      engine := if code = 0x0801 ∧ v.st = 2 then { s.engine with awayValid := false } else s.engine }
  s1.finishMbx m status []

/-- HW_ABORTED into every mailbox with a command Queued or Running (R398). -/
def State.abortAllMbx (s : State) : State :=
  (List.range 8).foldl (fun u m =>
    let v := u.mbx m
    if v.st = 1 ∨ v.st = 2 then
      { u.endCommand m 0x0B with mgmt := { (u.endCommand m 0x0B).mgmt with
          hwAborts := inc16 u.mgmt.hwAborts } }
    else u) s

/-- A request for clocked island `i` of this device. -/
def State.intoIsland (s : State) (i : Nat) (m : Msg) : Bool :=
  m.space == 1 && m.dev == s.device && islandOf m.addr == some i

/-- A request for management SRAM on this device. -/
def State.forMgmt (s : State) (m : Msg) : Bool := s.intoIsland 2 m

/-- A request of the event router: its responses carry the source number. -/
def fromRouter (m : Msg) : Bool := m.srcPhys == 0x7FF && m.srcId == 0x400 && m.kind == .event

/-- A response as it goes back to the requester of `m`: those to the event router carry the source. -/
def answerTo (m : Msg) (a : Resp) : Resp := if fromRouter m then { a with data := sliceB m.data 2 2 } else a

/-- ERROR 0x84 to the requester of `m` (R170). -/
def resetError (m : Msg) : Resp := answerTo m (merr m 0x84)

/-- Requests that a reset of their target ends (R170). -/
def State.endRequests (s : State) (p : Msg → Bool) : State :=
  { s with
    flight := s.flight.filter fun m => !p m
    replies := s.replies ++ (s.flight.filter p).map resetError }

/-- Requests for a unit that is reset: which of them had reached it is free, and those draw ERROR 0x84; the others are
served later (R53, R170, log 105). -/
def State.endReached (s : State) (p : Msg → Bool) : State :=
  let l := (List.range s.flight.length).zip s.flight
  let hit (e : Nat × Msg) : Bool := p e.2 && Config.freeNat (s.free + e.1) % 2 == 0
  { s with
    flight := (l.filter fun e => !hit e).map (·.2)
    replies := s.replies ++ (l.filter hit).map fun e => resetError e.2
    free := s.free + s.flight.length }

/-- A management restart begins (R13, R14); one already under way absorbs it (R15), but for the other bank that a
second lockstep mismatch asks for (R321). -/
def State.mgmtRestart (s : State) (other : Bool) : State :=
  if s.mgmt.restarting then { s with mgmt := { s.mgmt with otherBank := s.mgmt.otherBank || other } }
  else if !s.mgmt.up then s
  else
    let s1 := s.abortAllMbx.endReached s.forMgmt
    { s1 with
      mgmt := { s1.mgmt with
        up := false, restarting := true, restartAt := s.now, otherBank := other
        restarts := s1.mgmt.restarts + 1, mem := [], trial := false
        updateBox := none, calBox := none, modelBox := none }
      boot := { s1.boot with verified := false, staged := none }
      faults := { s1.faults with mgmtFixes := [], badMgmt := [] } }

/-! ### Court restart -/

/-- A message to or from a tile of physical court `c`. -/
def State.ofCourt (s : State) (c : Nat) (m : Msg) : Bool :=
  m.srcPhys / 64 == c ||
    (m.space == 0 && m.dev == s.device && (s.physOf (m.addr / 65536 % 1024)).any fun p => p / 64 == c)

/-- A request to a tile of physical court `c`. -/
def State.toCourt (s : State) (c : Nat) (m : Msg) : Bool :=
  m.space == 0 && m.dev == s.device &&
    ((m.phys.orElse fun _ => s.physOf (m.addr / 65536 % 1024)).any fun p => p / 64 == c)

/-- A court restart (R13): its tiles restart and its dispatcher returns to Cold.  The requests that its tiles had
accepted, `accepted`, draw ERROR 0x84; those still on their way are served later (R170).  The tags of its tiles' own
requests rest (log 105). -/
def State.courtRestart (s : State) (c : Nat) (accepted : List Msg) : State :=
  let s1 := { s.endRequests (fun m => accepted.contains m && s.toCourt c m) with disps := tdel c s.disps }
  (List.range 64).foldl (fun u i => u.restartTile (64 * c + i)) s1

end Sys2Proof.Machine
end

