-- ==== Sys2Proof/Machine/Faults.lean ====
section
/-! DEFINITION. Substitution, promotion and the rows of faults and resets (R314 to R338, R13, R46). -/

namespace Sys2Proof.Machine

/-! ### Send-off of the device (R322, R363) -/

/-- Up link ports. -/
def Fabric.upPorts (f : Fabric) : List Nat := (List.range 4).filter fun p => (tget {} p f.ports).up

/-- A port that is down and retrains: SEQ, credits, the replay buffer and what waited are gone (R351). -/
def LinkPort.retrain (v : LinkPort) : LinkPort :=
  { nbDevice := v.nbDevice, nbState := v.nbState, nbCap := v.nbCap, nbCaptain := v.nbCaptain
    nbConfig := v.nbConfig, delay := v.delay, dropBad := v.dropBad }

/-- Every up link port announces a send-off by three heartbeats in state 2, 10 µs apart (R363). -/
def State.announceOff (s : State) : State :=
  let u := { s with faults := { s.faults with sentSelfOff := true } }
  { u with fabric := { u.fabric with
      beats := u.fabric.beats ++ [0, 2000, 4000].flatMap fun t =>
        u.fabric.upPorts.map fun p => (u.now + t, p, beatWire (u.beat p)) } }

/-- The device sends itself off (R322): safe pins, announcement, device restart held until a cold start. -/
def State.selfSendOff (s : State) (source : Nat) : State :=
  (((s.logFault source 0xFFFF 0xFFFF 0 0 10 source).safeAll .sendOff).announceOff).deviceRestart
    (some .sendOff)

/-! ### Substitution (R325 to R328, R332) -/

/-- The network steps of R168: the fence, the new cap and the new map. -/
def State.remap (s : State) (t old new : Nat) : State :=
  let s1 := s.fence old
  let g := s1.gates
  { s1 with gates := { g with
      caps := tput t (nextCap (s.capOf t)) g.caps
      map := tput t (some new) g.map
      serves := tput new (some t) (tput old none g.serves) } }

/-- The memory for the new tile: the copy, or the persisted image where the copy fails (R326). -/
def State.restoredMem (s : State) (t old : Nat) (copyBad : Bool) : Option Mem :=
  if copyBad || !(s.tile old).bad.isEmpty then s.boot.image t
  else some (s.tile old).mem

/-- Steps 3 to 6 of R326 as `d` gives them: memory, decode table, start, source 16; without an image the tile is left
stopped with ACTION 13.  `late` says that they were deferred (R328). -/
def State.restoreTile (s : State) (d : Deferred) (late : Bool) : State :=
  match s.physOf d.t with
  | none => s
  | some new =>
    let started := (s.tile d.old).run != .stopped
    let cap := s.capOf d.t
    let u := { (s.tile new).cold s.now with bad := [], shadow := [] }
    let log (v : State) (a : Nat) := v.logAs late 16 new d.t (if cap ≤ 1 then 0xFF else cap - 1) cap a 0
    match s.restoredMem d.t d.old d.copyBad with
    | none => (log (s.setTile new (s.applyKept (some d.t) u)) 13).dropTask d.t
    | some m =>
      let u1 := s.applyKept (some d.t) { u with mem := m, run := if started then .running else .stopped }
      ((log (s.setTile new u1) d.action).dropTask d.t).fire 16

/-- Steps 3 to 6 now, or after the management restart that is running (R328); a memory port that does not answer makes
the copy fail (R326). -/
def State.restoreOrDefer (s : State) (d0 : Deferred) : State :=
  let d := { d0 with copyBad := d0.copyBad || s.faults.deadPorts.contains d0.old }
  if s.mgmt.restarting then { s with faults := { s.faults with deferred := s.faults.deferred ++ [d] } }
  else s.restoreTile d false

/-- A substitution of logical tile `t` onto `spare` (R326). -/
def State.substitute (s : State) (t spare : Nat) (copyBad : Bool) : State :=
  match s.physOf t with
  | none => s
  | some old => (s.withBench fun u => u.remap t old spare).restoreOrDefer ⟨t, old, copyBad, 4⟩

/-- The firmware releases every claim of logical tile `t`, after a management restart if one is running (R332). -/
def State.releaseLogical (s : State) (t : Nat) : State :=
  if s.mgmt.restarting then
    { s with faults := { s.faults with releaseDue := s.faults.releaseDue ++ [t] } }
  else s.releaseAll t

/-- No spare remains (R332): the tile stays fenced, and the firmware releases every claim. -/
def State.noSpare (s : State) (t p : Nat) : State := ((s.fence p).dropTask t).releaseLogical t

/-- The lowest-numbered free spare takes over, if there is one. -/
def State.substituteLowest (s : State) (t : Nat) (copyBad : Bool) : State :=
  match s.freeSpares.head? with
  | some q => s.substitute t q copyBad
  | none =>
    match s.physOf t with
    | some p => s.noSpare t p
    | none => s

/-! ### Promotion (R337) -/

/-- Requests of the partner that its primary had not completed are forwarded; the others are answered.  A plain READ
has been forwarded already (R335, R337). -/
def State.releaseHeld (s : State) (d : Duplex) : State :=
  d.held.foldl (fun u e =>
    let (k, g, tag) := e
    if !g.absorbed then u
    else if k ≤ d.nDone then u.absorb d.partner tag ((tfind? k d.outcomes).getD (0, []))
    else
      match (u.tile d.partner).sends.find? fun r => r.tag == tag with
      | some r => u.fly (u.sendMsg d.partner r)
      | none => u) s

/-- The owning gate promotes the partner of logical tile `t` (R337). -/
def State.promote (s : State) (t : Nat) (d : Duplex) : State :=
  let old := s.capOf t
  let s1 := s.remap t d.primary d.partner
  let g := s1.gates
  let s2 := { s1 with gates := { g with duplex := tdel t g.duplex } }.setCatchUp d.partner d
  let s3 := (s2.releaseHeld d).logFault 16 d.primary t old (nextCap old) 5 0
  (s3.fire 16).rePair t d.auto

/-- A physical tile fails: promotion of its partner, the end of its pair, or a substitution (R325, R338). -/
def State.tileFails (s : State) (p : Nat) : State :=
  match s.duplexOf p with
  | some (t, d) => if d.primary = p then s.promote t d else s.dropPartner t d
  | none =>
    match s.logicalOf p with
    | some t => s.substituteLowest t false
    | none => s.withBench fun u => u.fence p

/-- What the fault of physical tile `p` leads to: ACTION, old cap and new cap (R324, R325, R337). -/
def State.planFor (s : State) (p : Nat) : Nat × Nat × Nat :=
  match s.duplexOf p with
  | some (t, d) => if d.primary = p then (5, s.capOf t, nextCap (s.capOf t)) else (0, 0, 0)
  | none =>
    match s.logicalOf p with
    | some t => if s.freeSpares.isEmpty then (0, 0, 0) else (4, s.capOf t, nextCap (s.capOf t))
    | none => (0, 0, 0)

/-- Record a fault of physical tile `p` with what it leads to, deferred where a management restart holds it up, and
fire its source (R314, R324, R328). -/
def State.reportTile (s : State) (source p arg : Nat) : State :=
  let a := s.planFor p
  (s.logAs (s.mgmt.restarting && a.1 == 4) source p ((s.identOf p).getD 0xFFFF) a.2.1 a.2.2 a.1 arg).fire source

/-! ### Court substitution (R331) -/

/-- All 64 bench tiles are free and healthy. -/
def State.benchFree (s : State) : Bool :=
  (List.range 64).all fun i => s.isFreeSpare (1024 + i)

/-- Logical tile `64 * c + i` moves to bench position `i`. -/
def State.moveTile (s : State) (c i : Nat) : State :=
  let t := 64 * c + i
  match s.physOf t with
  | none => s
  | some old =>
    let v := s.remap t old (1024 + i)
    { v with gates := { v.gates with duplex := tdel t v.gates.duplex } }.restoreOrDefer ⟨t, old, false, 6⟩

/-- All 64 logical tiles of court `c` move onto the bench. -/
def State.moveCourt (s : State) (c : Nat) : State :=
  s.withBench fun u => (List.range 64).foldl (fun v i => v.moveTile c i) u

/-- A court substitution that a fault caused: without a free bench the device sends itself off. -/
def State.courtFails (s : State) (c : Nat) : State :=
  if c < 16 && s.benchFree then s.moveCourt c else s.selfSendOff 2

/-! ### Stalls and invalid codes (R315 to R318) -/

/-- The memory port of physical tile `p` answers no more, where `dead` says so. -/
def State.portDies (s : State) (p : Nat) (dead : Bool) : State :=
  if dead && !s.faults.deadPorts.contains p then
    { s with faults := { s.faults with deadPorts := s.faults.deadPorts ++ [p] } }
  else s

/-- A request for clocked island `i` on this device that waits at its crossing. -/
def State.forIsland (s : State) (i : Nat) (m : Msg) : Bool :=
  s.intoIsland i m &&
    (i != serdesIsland || s.deadAt m.addr || !s.islandRuns m.addr)

/-- The accesses that wait at the crossing into island `i` are aborted: each completes with ERROR 0x85 (R52). -/
def State.abortCrossing (s : State) (i : Nat) : State :=
  { s with
    flight := s.flight.filter fun m => !s.forIsland i m
    replies := s.replies ++ (s.flight.filter (s.forIsland i)).map fun m => merr m 0x85 }

/-- The firmware resets every channel of DMA engine `e` and fences the engine (R318). -/
def State.fenceMover (s : State) (e : Nat) : State :=
  let s1 := (List.range 8).foldl (fun v k => v.chanReset (8 * e + k)) s
  s1.setDmaE e { s1.dmaE e with fenced := true }

/-- What a stall or an invalid code leads to, now or after the management restart that is running (R324, R328); `arg` is 0 for a stall and 1 for an invalid code. -/
def State.unitFails (s : State) (u : StallUnit) (arg : Nat) : State :=
  match u with
  | .tile p port => ((s.portDies p port).reportTile 1 p arg).tileFails p
  | .router c =>
    let moves := decide (c < 16) && s.benchFree
    ((s.logAs (moves && s.mgmt.restarting) 2 (0x8000 + c) 0xFFFF 0 0 (if moves then 6 else 0) arg).fire 2).courtFails c
  | .dmaMover e =>
    let late := s.mgmt.restarting
    let s1 := (s.logAs late 2 (0x8000 + 18) 0xFFFF 0 0 0 arg).fire 2
    if late then { s1 with faults := { s1.faults with moversDue := s1.faults.moversDue ++ [e] } } else s1.fenceMover e
  | .array port => (s.report 2 (0x8000 + port) 0xFFFF 0 arg).selfSendOff 2
  | .crossing i => (s.report 2 crossUnit 0xFFFF 0 (arg + 2 * i)).abortCrossing i

/-- Whether the unit exists. -/
def stallExists : StallUnit → Bool
  | .tile p _ => decide (p < 1088)
  | .router c => decide (c < 17)
  | .dmaMover e => decide (e < 16)
  | .array p => decide (p < 24)
  | .crossing i => decide (i < 12)

/-- Whether the unit can hold a raised request: sleeping, stopped and frozen tiles do not, nor does any unit in a sleep
state (R317, R438). -/
def State.mayStall (s : State) : StallUnit → Bool
  | .tile p _ => (s.tile p).run == .running && !s.dbgBlock.frost && !s.inHold && s.power.st == .run
  | _ => !s.inHold && s.power.st == .run

/-! ### The scrubber (R319) -/

/-- Corrections of a word within 10 minutes, this one included. -/
def fixTimes (now : Nat) (l : List Nat) : List Nat :=
  now :: l.filter fun t => decide (now < t + 120000000000)

/-- The scrubber corrects a single-bit error; at the third within 10 minutes it is a hard bit. -/
def State.scrubFix (s : State) (m : ScrubMem) (word : Nat) : State :=
  let f := s.faults
  let add (tb : Table (List Nat)) : List Nat × Table (List Nat) :=
    let l := fixTimes s.wall (tget [] word tb)
    (l, tput word (if 3 ≤ l.length then [] else l) tb)
  match m with
  | .tile p =>
    let r := add (s.tile p).fixes
    let s1 := s.setTile p { s.tile p with fixes := r.2 }
    if 3 ≤ r.1.length then
      let a := s.planFor p
      let s2 := (s1.logAs (s.mgmt.restarting && a.1 == 4) 5 p ((s.identOf p).getD 0xFFFF) a.2.1 a.2.2
        (if a.1 = 0 then 1 else a.1) (4 * word)).fire 5
      match s2.duplexOf p with
      | some (t, d) => if d.primary = p then s2.promote t d else s2
      | none =>
        match s2.logicalOf p with
        | some t => if s2.freeSpares.isEmpty then s2 else s2.substituteLowest t false
        | none => s2
    else s1
  | .buffers =>
    let r := add f.bufFixes
    let s1 := { s with faults := { f with bufFixes := r.2 } }
    if 3 ≤ r.1.length then s1.report 5 poolUnit 0xFFFF 1 (4 * word) else s1
  | .mgmt =>
    let r := add f.mgmtFixes
    let s1 := { s with faults := { f with mgmtFixes := r.2 } }
    if 3 ≤ r.1.length then s1.report 5 ioUnit 0xFFFF 1 (4 * word) else s1
  | .model =>
    let r := add f.modelFixes
    let s1 := { s with faults := { f with modelFixes := r.2 } }
    if 3 ≤ r.1.length then s1.report 5 engUnit 0xFFFF 1 (4 * word) else s1

/-- The scrubber finds an uncorrectable word, which stays so until it is written. -/
def State.scrubBad (s : State) (m : ScrubMem) (word : Nat) : State :=
  let note (l : List Nat) : List Nat := if l.contains word then l else word :: l
  let f := s.faults
  match m with
  | .tile p =>
    let s1 := s.setTile p { s.tile p with bad := note (s.tile p).bad }
    match s.duplexOf p with
    | some (t, d) =>
      if d.primary = p then (s1.reportTile 6 p (4 * word)).promote t d
      else s1.report 6 p ((s.identOf p).getD 0xFFFF) 0 (4 * word)
    | none => s1.report 6 p ((s.identOf p).getD 0xFFFF) 0 (4 * word)
  | .buffers =>
    { s with faults := { f with badBuf := note f.badBuf } }.report 6 poolUnit 0xFFFF 0 (4 * word)
  | .mgmt =>
    ({ s with faults := { f with badMgmt := note f.badMgmt } }.report 6 ioUnit 0xFFFF 7
      (4 * word)).mgmtRestart false
  | .model =>
    let e := s.engine
    ({ s with engine := { e with bad := note e.bad, eccAddr := 4 * word } }.engErr 5).report 8 engUnit
      0xFFFF 0 (4 * word)

/-- Words of each memory. -/
def scrubExists (m : ScrubMem) (word : Nat) : Bool :=
  match m with
  | .tile p => decide (p < 1088) && decide (word < 16384)
  | .buffers => decide (word < 0x100000)
  | .mgmt => decide (word < 0x80000)
  | .model => decide (word < 0x200000)

/-! ### Rows of faults -/

/-- LINE_JUDGE_STALL (R317, R318). -/
def execLineJudgeStall (u : StallUnit) (s : State) : Out :=
  ok (stallExists u) (when_ (s.mayStall u) (s.unitFails u 0) s)

/-- INVALID_CODE (R315). -/
def execInvalidCode (u : StallUnit) (s : State) : Out :=
  ok (stallExists u) (when_ (s.mayStall u) (s.unitFails u 1) s)

/-- SCRUB_VISIT (R319, R234): a single-bit error is corrected, or an uncorrectable word found. -/
def execScrubVisit (m : ScrubMem) (word : Nat) (single : Bool) (s : State) : Out :=
  ok (scrubExists m word) (when_ s.running (if single then s.scrubFix m word else s.scrubBad m word) s)

/-- REFEREE_OUTVOTE (R320): source 0; the third time within 1 h the copy is disabled.  With one copy
disabled there is no vote. -/
def execRefereeOutvote (k : Fin 3) (s : State) : Out :=
  let f := s.faults
  let l := s.wall :: (tget [] k.val f.outvoted).filter fun t => decide (s.wall < t + 720000000000)
  let off := decide (3 ≤ l.length)
  let s1 := { s with faults := { f with
    outvoted := tput k.val l f.outvoted, disabled := if off then k.val :: f.disabled else f.disabled } }
  ok true (when_ (f.disabled.isEmpty && s.live) (s1.report 0 0xFFFF 0xFFFF 1 k.val) s)

/-- LOCKSTEP_MISMATCH (R321): source 9 and a management restart, from the other bank at a second mismatch
within 60 s. -/
def execLockstepMismatch (s : State) : Out :=
  let other := s.faults.lastMismatch.any fun t => decide (s.wall < t + 12000000000)
  let s1 := { s with faults := { s.faults with lastMismatch := some s.wall } }
  ok true (when_ (s.live && s.power.st == .run) ((s1.report 9 0xFFFF 0xFFFF (if other then 8 else 7) 0).mgmtRestart other) s)

/-- REFEREE_MAJORITY_LOSS (R322). -/
def execRefereeMajorityLoss (s : State) : Out := ok true (s.selfSendOff 0)

/-- SUPPLY_OUT_OF_RANGE (R323, R496): source 10, safe pins, announcement, and a device restart held until
the supply is back. -/
def execSupplyOutOfRange (r : Rail) (s : State) : Out :=
  ok true ((((s.report 10 0xFFFF 0xFFFF 9 0).safeAll .restart).announceOff).deviceRestart (some (.supply r)))

/-- SUPPLY_RESTORED (R323): in range for 10 ms. -/
def execSupplyRestored (r : Rail) (s : State) : Out :=
  ok true (when_ (s.faults.held.contains (.supply r)) (s.letGo (.supply r)) s)

/-- REFERENCE_CLOCK_LOSS (R323, R286): source 11, holdover on the backup oscillator, and the feed and link
ports go down. -/
def execReferenceClockLoss (s : State) : Out :=
  let s1 := s.report 11 0xFFFF 0xFFFF 0 0
  let s2 := { s1 with
    time := { s1.time with holdover := true }, faults := { s1.faults with backupOsc := true } }
  let s3 := (List.range 4).foldl (fun u f =>
    if (u.feed f).up then (u.setFeed f ((u.feed f).linkDown u.now)).fire (256 + 4 * f) else u) s2
  ok true ((List.range 4).foldl (fun u p =>
    if (u.port p).up then (u.setPort p (u.port p).retrain).fire (272 + 4 * p) else u) s3)

/-- A thermal trip (R46): safe pins, announcement and a device restart, held until every sensor is below 140 °C. -/
def State.thermalTrip (s : State) : State :=
  let s1 := (s.logFault 24 0xFFFF 0xFFFF 0 0 9 0).safeAll .thermal
  ({ s1 with faults := { s1.faults with tripped := true } }.announceOff).deviceRestart (some .thermal)

/-- TEMPERATURE_READ (R46, R433): the warning and the trip use the factory values alone; a tripped device is
let go once every sensor reads below 140 °C, and trips no second time before that. -/
def execTemperatureRead (readings : List Int) (s : State) : Out :=
  let temps := (List.range 21).map fun i => (readings[i]?).getD 0 + s.delta 1 i
  let hot := readings.any fun t => decide (1550 ≤ t)
  let warn := hot && !s.pace.warned
  let s1 := ({ s with pace := { s.pace with
    temps := temps
    warned := hot || (s.pace.warned && !readings.all fun t => decide (t < 1500)) } }).fireIf warn 52
  let s2 :=
    if s1.faults.held.contains .thermal then
      if readings.all fun t => decide (t < 1400) then s1.letGo .thermal else s1
    else if readings.any fun t => decide (1650 ≤ t) then s1.thermalTrip
    else s1
  ok true (when_ (readings.length == 21) s2 s)

/-- TILE_SUBSTITUTION (R325, R326): a non-duplex logical tile; `copyBad` when its port does not answer. -/
def execTileSubstitution (t : Nat) (copyBad : Bool) (s : State) : Out :=
  ok (decide (t < 1024)) <|
    match tfind? t s.gates.duplex with
    | some _ => s
    | none => when_ s.running (s.substituteLowest t copyBad) s

/-- COURT_SUBSTITUTION (R331): caused by a fault. -/
def execCourtSubstitution (c : Nat) (s : State) : Out := ok (decide (c < 16)) (when_ s.running (s.courtFails c) s)

/-- DUPLEX_PROMOTION (R337): the primary of logical tile `t` fails. -/
def execDuplexPromotion (t : Nat) (s : State) : Out :=
  ok (decide (t < 1024)) <|
    match tfind? t s.gates.duplex with
    | some d => when_ s.running (s.promote t d) s
    | none => s

/-! ### Rows of resets -/

/-- COLD_START (R13, R493); a device restart requested together with it is absorbed (R15, log 114). -/
def execColdStart (c : ColdStart) (s : State) : Out :=
  let s1 := s.coldStart c.testEn
  ok true { s1 with faults := { s1.faults with absorb := c.absorbs } }

/-- DEVICE_RESTART (R13): by the referee or a firmware command; a cold start requested together with it has absorbed it
(R15, log 114). -/
def execDeviceRestart (s : State) : Out :=
  ok true (if s.faults.absorb then { s with faults := { s.faults with absorb := false } }
    else if s.faults.held.contains .power then s else s.deviceRestart none)

/-- MANAGEMENT_RESTART (R13, R14); absorbed by a wider reset requested together with it (R15). -/
def execManagementRestart (c : Restart MgmtCause) (s : State) : Out :=
  ok true (when_ (!c.absorbed && s.live) (s.mgmtRestart (c.what == .otherBank)) s)

/-- The management restart completes within 50 ms (R14): the firmware is up, waiting tiles get their
decode-table entries (R138), and what waited for the firmware goes on (R318, R328, R332, R333). -/
def State.mgmtDone (s : State) : State :=
  let f := s.faults
  let s0 := f.deferred.foldl (fun u e => u.restoreTile e true)
    { s with
      faults := { f with deferred := [], releaseDue := [], rePairs := [], moversDue := [] }
      mgmt := { s.mgmt with restarting := false } }
  let sf := f.moversDue.foldl State.fenceMover (f.releaseDue.foldl State.releaseAll s0)
  let s1 := f.rePairs.foldl (fun u e => u.rePair e.1 e.2) sf
  let s2 := { s1 with tiles := s1.tiles.map fun (e : Nat × Tile) =>
    (e.1, if e.2.run = RunState.resetWait then { s1.applyKept (s1.identOf e.1) e.2 with run := .running } else e.2) }
  s2.bootUp s2.mgmt.otherBank

/-- COURT_RESTART (R13, R170); absorbed by a wider reset requested together with it (R15). -/
def execCourtRestart (c : CourtRestart) (s : State) : Out :=
  ok (decide (c.court < 17)) (when_ (!c.absorbed && s.live) (s.courtRestart c.court c.accepted) s)

/-- TILE_RESTART (R13, R86, R325): a tile that halted on a double trap is restarted, or fails where the
double trap recurred within 1 s of the restart that followed the first; absorbed by a wider reset requested together
with it (R15). -/
def execTileRestart (r : Restart Nat) (s : State) : Out :=
  let p := r.what
  let halted := (s.tile p).run == .halted
  let again := (tfind? p s.faults.doubleAt).any fun t => decide ((s.tile p).dblAt < t + 200000000)
  let s1 := if halted then
      { s with faults := { s.faults with doubleAt := tput p s.wall s.faults.doubleAt } }
    else s
  ok (decide (p < 1088)) (when_ (!r.absorbed && s.live) (if halted && again then s.tileFails p else s1.restartTile p) s)

end Sys2Proof.Machine
end

