-- ==== Sys2Proof/Machine/Pace.lean ====
section
/-! DEFINITION. The power and pace controller (R35 to R46, R51, R56 to R58, R193). -/

namespace Sys2Proof.Machine

/-! ### Rails (R35 to R38, R57) -/

/-- VDD_CIN for the highest voltage needed (R36). -/
def vddFor (need : Nat) : Nat := max 500 (min 1100 (need + 50))

/-- The highest voltage that a court or the engine needs. -/
def State.topNeed (s : State) : Nat := (List.range 18).foldl (fun m c => max m (s.court c).need) 0

/-- The highest rail that VDD_CIN allows now: a higher setpoint counts once the regulator reports it within
10 mV (R36, R37). -/
def Pace.ceiling (p : Pace) : Nat := min p.vddCin p.okVdd - 50

/-- A voltage on the 5 mV grid of the court regulators (R35). -/
def onGrid (mv : Nat) : Nat := mv / 5 * 5

/-- Rail `c` at a voltage, with its body bias; the engine's rail, 17, is no court's and has none (R38, log 106). -/
def Court.at (v : Court) (c rail : Nat) : Court :=
  { v with rail := rail, bias := if c ≠ 17 ∧ rail < 550 then 200 else 0 }

/-- The slowest meter. -/
def Court.slowest (v : Court) : Nat :=
  match v.meters with
  | [] => 0
  | a :: r => r.foldl min a

/-- More than 1 % below the effective target (R41, R42). -/
def Court.below (v : Court) : Bool := decide (100 * v.slowest < 99 * v.eff)
/-- More than 4 % above the effective target (R41). -/
def Court.above (v : Court) : Bool := decide (104 * v.eff < 100 * v.slowest)

/-- A correction in mV: proportional to the error, at least one step of 5 mV and at most 50 mV in a loop
period (R35, R41). -/
def Court.correction (v : Court) : Nat :=
  let err := if v.eff ≤ v.slowest then v.slowest - v.eff else v.eff - v.slowest
  5 * max 1 (min 10 (Config.railGain * (100 * err / max 1 v.eff)))

/-- The voltage that the loop asks for (R35, R41). -/
def Court.asked (v : Court) : Nat :=
  if v.below then min 1000 (v.rail + v.correction)
  else if v.above then max 400 (v.rail - v.correction)
  else v.rail

/-- Times of the pace alarm: below since, or within target since (R42). -/
def Court.alarmTimes (v : Court) (now : Nat) : Court :=
  if v.parked then { v with belowSince := none, okSince := none }
  else if v.below then { v with belowSince := some (v.belowSince.getD now), okSince := none }
  else
    let t := v.okSince.getD now
    { v with belowSince := none, okSince := some t, alarmed := v.alarmed && decide (now < t + 200000) }

/-- One loop period of a court or the engine (R41, R44, R57).  A parked rail and one still on its way from or to the
park voltage are not the loop's. -/
def Court.loop (v : Court) (c : Nat) (p : Pace) (now : Nat) (meters : List Nat) : Court :=
  let v1 := ({ v with meters := meters } : Court).alarmTimes now
  if v1.parked || v1.ramp.isSome then v1
  else
    let want := v1.asked
    let cap := if v1.rail < want then max v1.rail p.ceiling else p.vddCin - 50
    let rail := if p.silent then min v1.rail want else want
    ({ v1 with need := want } : Court).at c (min rail cap)

/-- One microsecond of a rail's way from or to its park voltage: 5 mV at most (R35, R58).  It rises no further than
VDD_CIN allows, and not at all while the regulator is silent (R37, R57). -/
def Court.slew (v : Court) (c : Nat) (p : Pace) : Court :=
  match v.ramp with
  | none => v
  | some goal =>
    let rail :=
      if goal < v.rail then max goal (v.rail - 5)
      else if p.silent then v.rail
      else max v.rail (min goal (min (v.rail + 5) p.ceiling))
    { (v.at c rail) with ramp := if rail = goal then none else some goal }

/-- A meter reading under the overlay, in steps of 0.01 % (R431). -/
def meterAdjust (m : Nat) (d : Int) : Nat := ((m : Int) * (10000 + d) / 10000).toNat

/-- Readings of court `c`, or of the engine as 17, among the 70 meters (R41, R431). -/
def State.metersOf (s : State) (readings : List Nat) (c : Nat) : List Nat :=
  (List.range (if c = 17 then 2 else 4)).map fun m =>
    let i := 4 * c + m
    meterAdjust ((readings[i]?).getD 0) (s.delta 2 i)

/-- PMBus transactions with the regulator at the boot configuration's address (R39). -/
def State.pmb (s : State) (cs : List PmbCmd) : State :=
  { s with pace := { s.pace with
      pmbSent := s.pace.pmbSent ++ cs.map (pmbTx s.boot.bootRec.pmbAddr s.pace.pmbMode) } }

/-- VDD_CIN is set by VOUT_COMMAND (R36, R39).  What the regulator has reported counts up to the lower setpoint
only, so that a later rise waits for a report of its own (R37). -/
def State.setVdd (s : State) (mv : Nat) : State :=
  if mv = s.pace.vddCin then s
  else
    { s with pace := { s.pace with vddCin := mv, okVdd := min s.pace.okVdd mv } }.pmb [.voutCommand mv]

/-- One period of the pace-target loop (R36, R37, R41): rails, then VDD_CIN, which a silent regulator
holds (R57).  At its boundary the units take the overlay in force, and the regulators their trims, which lie within
what a rail may move in the period (R35, R431, R432). -/
def State.paceLoop (s : State) (readings : List Nat) : State :=
  let s0 := { s with boot := { s.boot with eff := s.boot.inForce } }
  let s1 := (List.range 18).foldl (fun u c =>
    u.setCourt c { (u.court c).loop c s.pace s.now (u.metersOf readings c) with trim := u.delta 3 c }) s0
  if s.pace.silent then s1 else s1.setVdd (vddFor s1.topNeed)

/-- A microsecond of every rail that is on its way (R35). -/
def State.tickRails (s : State) : State :=
  if s.now % 200 ≠ 0 then s
  else
    (List.range 18).foldl (fun u c =>
      if (u.court c).ramp.isSome then u.setCourt c ((u.court c).slew c u.pace) else u) s

/-! ### Lull (R89) -/

/-- A tile that is sleeping, stopped or halted. -/
def Tile.quiet (t : Tile) : Bool :=
  match t.run with
  | .running | .resetWait => false
  | .stopped | .sleeping | .halted | .dbgHalted => true

/-- A message whose flits are in the mesh of physical court `c`: it comes from one of its tiles or goes to one. -/
def State.inMesh (s : State) (c : Nat) (m : Msg) : Bool :=
  s.ofCourt c m || (m.phys.any fun p => p / 64 == c)

/-- Court `c` is in lull (R89): every tile is quiet, no slot awaits a tile, and no request or response is in flight to
or from its tiles. -/
def State.lulls (s : State) (c : Nat) : Bool :=
  !(s.tiles.any fun (e : Nat × Tile) => e.1 / 64 == c && !e.2.quiet) &&
    !((s.disp c).slots.any fun (e : Nat × Slot) => e.2.st == .ready) &&
    !(s.flight.any fun m => s.inMesh c m) &&
    !(s.replies.any fun r => r.dstPhys / 64 == c || r.fromPhys / 64 == c)

/-! ### Power cap (R45) -/

/-- Lower a target by 2 %, not below the floor; whole thousands, rounded down (log 107). -/
def lower2 (floor v : Nat) : Nat := if v ≤ floor then v else max floor (v * 98 / 100)
/-- Raise a target by 1 %, at least one thousand, towards the set one (log 107). -/
def raise1 (target v : Nat) : Nat := min target (v + max 1 (v / 100))

/-- Change the effective target of every court. -/
def State.mapEff (s : State) (f : Court → Nat) : State :=
  (List.range 17).foldl (fun u c => let v := u.court c; u.setCourt c { v with eff := f v }) s

/-- Cap action while the estimate exceeds the cap: courts to the floor first, then the engine. -/
def State.capDown (s : State) : State :=
  let floor := s.pace.floorM * 1000
  if (List.range 17).all fun c => decide ((s.court c).eff ≤ floor) then
    let e := s.court 17
    s.setCourt 17 { e with eff := lower2 0 e.eff }
  else s.mapEff fun v => lower2 floor v.eff

/-- Effective targets rise again, engine first; cap action ends when all are at their set targets. -/
def State.capUp (s : State) : State :=
  let e := s.court 17
  let s1 := if e.eff < e.target then s.setCourt 17 { e with eff := raise1 e.target e.eff }
    else s.mapEff fun v => raise1 v.target v.eff
  let done := (List.range 18).all fun c => (s1.court c).eff == (s1.court c).target
  { s1 with pace := { s1.pace with capping := s1.pace.capping && !done } }

/-- A power estimate in mW (R45): source 49 when cap action begins. -/
def State.powerEstimate (s : State) (mw : Nat) : State :=
  let s1 := { s with pace := { s.pace with estimate := mw } }
  let cap := s.pace.capTenths * 100
  if cap < mw then
    ({ s1 with pace := { s1.pace with capping := true } }.capDown).fireIf (!s.pace.capping) 49
  else if 100 * mw < 98 * cap ∧ s.pace.capping then s1.capUp
  else s1

/-! ### The external regulator (R39, R57) -/

/-- The regulator is silent or faulted: source 53, every rail is limited to the setpoint minus 50 mV, and a retry
follows in 1 ms. -/
def State.regulatorLost (s : State) : State :=
  let s1 := (List.range 18).foldl (fun u c =>
    let v := u.court c
    u.setCourt c (v.at c (min v.rail (s.pace.vddCin - 50)))) s
  { s1 with pace := { s1.pace with
      silent := true, retryAt := if s.pace.silent then s.pace.retryAt else s.now + 200000 } }.fireIf
    (!s.pace.silent) 53

/-- STATUS_WORD is read and the faults are cleared; a fault that it reports counts as a lost regulator (R39, R57). -/
def State.readStatus (s : State) (fault : Bool) : State :=
  let s1 := s.pmb [.statusWord, .clearFaults]
  if fault then s1.regulatorLost else s1

/-- The readings of a poll: VDD_CIN is reached once the output is within 10 mV of it (R37, R39). -/
def State.polled (s : State) (vout iout temp : Nat) : State :=
  let p := s.pace
  let near := decide (p.vddCin ≤ vout + 10) && decide (vout ≤ p.vddCin + 10)
  { s with pace := { p with
      pmbFails := 0, pmbVout := vout, pmbIout := iout, pmbTemp := temp
      okVdd := if near then p.vddCin else p.okVdd } }

/-- VOUT_MODE is read once, at start-up; the linear and VID modes are accepted (R39). -/
def State.modeRead (s : State) (mode : Byte) : State :=
  if s.pace.modeDue && decide (mode.toNat / 32 < 2) then
    { s with pace := { s.pace with pmbMode := mode, modeDue := false } }
  else s

/-- A PMBus transaction has failed; the second in a row counts the regulator as silent (R57). -/
def State.pmbFailed (s : State) : State :=
  let s1 := { s with pace := { s.pace with pmbFails := s.pace.pmbFails + 1 } }
  if 1 ≤ s.pace.pmbFails then s1.regulatorLost else s1

/-! ### Rows -/

/-- PACE_LOOP (R36, R37, R41): 70 meter readings, in thousands per second. -/
def execPaceLoop (readings : List Nat) (s : State) : Out :=
  ok true (when_ (readings.length == 70 && s.running) (s.paceLoop readings) s)

/-- PACE_ALARM (R42, R44): court 0 to 16, or the engine as 17; 1 ms below the target, once until the target
has been held for 1 ms, and not while parked. -/
def execPaceAlarm (c : Nat) (s : State) : Out :=
  let v := s.court c
  let due := !v.alarmed && !v.parked && v.belowSince.any fun t => decide (t + 200000 ≤ s.now)
  ok (decide (c < 18))
    (when_ (due && s.running) ((s.setCourt c { v with alarmed := true }).fire (if c = 17 then 54 else 32 + c)) s)

/-- POWER_ESTIMATE (R45). -/
def execPowerEstimate (mw : Nat) (s : State) : Out :=
  ok true (when_ s.running (s.powerEstimate mw) s)

/-- COURT_PARK (R44): the court is in lull and has been for longer than its park delay; its rail begins to fall to
the park voltage, on the grid of the regulators (log 107). -/
def execCourtPark (c : Nat) (s : State) : Out :=
  let v := s.court c
  let due := !v.parked && v.parkUs != 0 && s.lulls c && v.lullSince.any fun t => decide (v.parkUs < s.usSince t)
  ok (decide (c < 17))
    (when_ (due && s.running)
      (s.setCourt c { v with parked := true, ramp := some (min v.rail (onGrid v.parkMv)) }) s)

/-- PMBUS_POLL (R39, R57): the readings of a poll; or a failed transaction, after which STATUS_WORD is read. -/
def execPmbusPoll (r : Poll) (vout iout temp : Nat) (s : State) : Out :=
  let s1 := s.pmb [.readVout, .readIout, .readTemperature]
  ok true (when_ (!s.pace.silent && s.running)
    (if r.good then (s1.polled vout iout temp).modeRead r.mode else (s1.pmbFailed).readStatus r.fault) s)

/-- PMB_ALERT_N (R39, R57): STATUS_WORD is read. -/
def execPmbAlertN (fault : Bool) (s : State) : Out := ok true (when_ s.running (s.readStatus fault) s)

/-- REGULATOR_RETRY (R39, R57): 1 ms after the last try, the setpoint is sent again; where that fails too, STATUS_WORD
is read. -/
def execRegulatorRetry (good : Bool) (s : State) : Out :=
  let s1 := s.pmb ([.voutCommand s.pace.vddCin] ++ if good then [] else [.statusWord, .clearFaults])
  let next : Pace :=
    if good then { s1.pace with silent := false, pmbFails := 0 }
    else { s1.pace with retryAt := s.now + 200000 }
  ok true (when_ (s.pace.silent && decide (s.pace.retryAt ≤ s.now) && s.running) { s1 with pace := next } s)

/-- PLACEMENT_REFRESH (R193): the readings that dispatchers rank by, with the busy shares of the 1,088
physical tiles. -/
def execPlacementRefresh (busy : List Nat) (s : State) : Out :=
  let paces := (List.range 17).flatMap fun c =>
    (List.range 4).map fun m => (((s.court c).meters)[m]?).getD 0
  ok true (when_ (busy.length == 1088 && s.running)
    { s with pace := { s.pace with placeTemps := s.pace.temps, placePaces := paces, placeBusy := busy } } s)

/-- ISLAND_WAKE (R51): the stopped clock of an island starts for the access that has asked for it, and both sides of
the crossing resynchronise (R53). -/
def execIslandWake (i : Nat) (s : State) : Out :=
  ok (decide (i < 12)) (when_ (s.pace.wakeAsked.contains i && s.live) (s.startIsland i) s)

end Sys2Proof.Machine
end

