-- ==== Sys2Proof/Machine/Link.lean ====
section
/-! DEFINITION. The link hub: credits and replay (R350 to R353), routing and datelines (R358 to R361), remote
requests (R355, R356), drops by cap (R371), and the rows of ports and packets (R345 to R351). -/

namespace Sys2Proof.Machine

/-- A change of the fabric's own fields. -/
def State.setFabric (s : State) (f : Fabric) : State := { s with fabric := f }

/-- Crossbar port of the link hub in fault records (R151, R324). -/
def linkUnit : Nat := 0x8000 + 20

/-! ### Packets and credits (R347, R352, R353) -/

/-- KIND numbers of R147. -/
def kindNum : MsgKind → Nat
  | .write => 0
  | .read => 1
  | .msg => 2
  | .gateOp => 3
  | .event => 4
  | .writeFixed => 5
  | .other n => n

/-- The request kind of a number. -/
def kindOf (n : Nat) : MsgKind :=
  match n with
  | 0 => .write
  | 1 => .read
  | 2 => .msg
  | 3 => .gateOp
  | 4 => .event
  | 5 => .writeFixed
  | n => .other n

/-- The class of a TYPE (R349, R352). -/
def classOf (typ : Nat) : Nat := if typ = 0 then 2 else if typ = 1 then 3 else if typ = 2 then 1 else 0

/-- Credit units of a packet. -/
def pktUnits (k : Packet) : Nat := (20 + k.data.length + 31) / 32

/-- Units of a virtual channel's buffer. -/
def vcUnits (vc : Nat) : Nat := if vc < 4 then 128 else if vc < 6 then 768 else 1024

/-- Units of a channel in use at the far end. -/
def LinkPort.inUse (v : LinkPort) (vc : Nat) : Nat :=
  (tget 0 vc v.sentUnits + 4096 - tget 0 vc v.freed) % 4096

/-- Bytes in the replay buffer. -/
def LinkPort.replayBytes (v : LinkPort) : Nat :=
  (v.replay.map fun k => 20 + k.data.length).foldl (· + ·) 0

/-- A sequenced packet may leave (R350, R353). -/
def LinkPort.canSend (v : LinkPort) (k : Packet) : Bool :=
  decide (v.inUse k.vc + pktUnits k ≤ vcUnits k.vc) && decide (v.replay.length < 2048) &&
    decide (v.replayBytes + 20 + k.data.length ≤ 65536)

/-- A packet leaves with the next SEQ and is kept for replay. -/
def LinkPort.emit (v : LinkPort) (k : Packet) (now : Nat) : LinkPort × Packet :=
  let k1 := { k with seq := v.txSeq }
  ({ v with
      txSeq := (v.txSeq + 1) % 4096, replay := v.replay ++ [k1]
      progressAt := if v.replay.isEmpty then now else v.progressAt
      sentUnits := tput k.vc ((tget 0 k.vc v.sentUnits + pktUnits k) % 4096) v.sentUnits }, k1)

/-- Send what may leave: a packet waits only behind packets of its own channel.  The port, the packets
still waiting, and those sent. -/
def LinkPort.pump (now : Nat) : LinkPort → List Nat → List Packet → LinkPort × List Packet × List Packet
  | v, _, [] => (v, [], [])
  | v, blocked, k :: r =>
    if !blocked.contains k.vc && v.canSend k then
      let e := v.emit k now
      let x := LinkPort.pump now e.1 blocked r
      (x.1, x.2.1, e.2 :: x.2.2)
    else
      let x := LinkPort.pump now v (k.vc :: blocked) r
      (x.1, k :: x.2.1, x.2.2)

/-- Port `p` sends what may leave. -/
def State.pumpPort (s : State) (p : Nat) : State :=
  let v := s.port p
  let x := LinkPort.pump s.now v [] v.queued
  let s1 := s.setPort p { x.1 with queued := x.2.1 }
  s1.setFabric { s1.fabric with sent := s1.fabric.sent ++ x.2.2.map fun k => (p, pktWire k) }

/-- A packet enters port `p`. -/
def State.linkSend (s : State) (p : Nat) (k : Packet) : State :=
  let v := s.port p
  (s.setPort p { v with queued := v.queued ++ [k] }).pumpPort p

/-! ### Routing (R358 to R361) -/

/-- The alias of a device. -/
def Fabric.aliasOf (f : Fabric) (d : Nat) : Option AliasRec := f.aliases.find? fun a => a.dev == d
/-- The device that serves a destination. -/
def Fabric.hostOf (f : Fabric) (d : Nat) : Nat := ((f.aliasOf d).map fun a => a.host).getD d
/-- The device that a packet is routed to: the alias host of its DST (R358); a MEMBER packet is for the device itself,
which membership concerns whoever has its work (R376, log 127). -/
def Fabric.destOf (f : Fabric) (k : Packet) : Nat := if k.typ = 3 then k.dst else f.hostOf k.dst

/-- Way along one dimension: true for the rising direction. -/
def wayUp (from_ dest size : Nat) (ring : Bool) : Bool :=
  if ring then
    let up := (dest + size - from_) % size
    decide (2 * up ≤ size)
  else decide (from_ < dest)

/-- The override that routes a packet to a host, if any (R360). -/
def Fabric.overrideFor (f : Fabric) (host : Nat) : Option Override :=
  f.overrides.find? fun o => host &&& o.mask == o.number &&& o.mask

/-- The port towards a host other than this device. -/
def Fabric.portTo (f : Fabric) (own host : Nat) : Nat :=
  match f.overrideFor host with
  | some o => o.port
  | none =>
    if host % 128 ≠ own % 128 then (if wayUp (own % 128) (host % 128) f.nx f.wrapX then 1 else 0)
    else (if wayUp (own / 128) (host / 128) f.ny f.wrapY then 3 else 2)

/-- Leaving by `out` crosses a ring's wrap link (R359). -/
def Fabric.crossesWrap (f : Fabric) (own out : Nat) : Bool :=
  match out with
  | 0 => f.wrapX && own % 128 == 0
  | 1 => f.wrapX && own % 128 + 1 == f.nx
  | 2 => f.wrapY && own / 128 == 0
  | _ => f.wrapY && own / 128 + 1 == f.ny

/-- A packet's channel as it leaves by `out`, having come in by `inP` (R352, R359); an override keeps D at a turn
(R360). -/
def Fabric.vcOut (f : Fabric) (own : Nat) (inP : Option Nat) (out : Nat) (k : Packet) : Nat :=
  let kept := k.typ != 2 && (f.overrideFor (f.destOf k)).isSome
  let d := match inP with
    | none => 0
    | some i => if i < 2 ∧ 2 ≤ out ∧ kept = false then 0 else k.vc % 2
  2 * classOf k.typ + (if f.crossesWrap own out then 1 else d)

/-- This device serves destination `d`: its own number, or one that an alias gives it (R358). -/
def State.here (s : State) (d : Nat) : Bool := d == s.device || s.fabric.hostOf d == s.device

/-- A port can carry packets. -/
def State.portUp (s : State) (p : Nat) : Bool := (s.port p).up

/-- Destination `d` is marked out and no alias covers it (R361). -/
def Fabric.unserved (f : Fabric) (d : Nat) : Bool := f.out.contains d && (f.aliasOf d).isNone

/-- A request to `d` in a space cannot be carried (R361). -/
def State.unreachable (s : State) (d space : Nat) : Bool :=
  s.fabric.unserved d || ((s.fabric.aliasOf d).isSome && space != 0) ||
    (!s.here d && !s.portUp (s.fabric.portTo s.device (s.fabric.hostOf d)))

/-- Send a packet on its way; false where routing selects a port that is down. -/
def State.routeOut (s : State) (inP : Option Nat) (k : Packet) : State × Bool :=
  let out := s.fabric.portTo s.device (s.fabric.destOf k)
  if s.portUp out then (s.linkSend out { k with vc := s.fabric.vcOut s.device inP out k }, true)
  else (s, false)

/-! ### Remote requests of this device (R355) -/

/-- Parts of a request: offset and length. -/
def partsOf (m : Msg) : List (Nat × Nat) :=
  let n := if m.kind = .read then m.len else m.data.length
  if m.kind = .write ∨ m.kind = .writeFixed ∨ m.kind = .read then
    (List.range (max 1 ((n + 511) / 512))).map fun i => (512 * i, min 512 (n - 512 * i))
  else [(0, n)]

/-- Free FTAGs in rotation from `t`. -/
def freeFtags (used : Table FtagRec) : Nat → Nat → Nat → List Nat
  | 0, _, _ => []
  | fuel + 1, n, t =>
    if n = 0 then []
    else if (tfind? (t % 4096) used).isSome then freeFtags used fuel n (t + 1)
    else t % 4096 :: freeFtags used fuel (n - 1) (t + 1)

/-- The packet of one part. -/
def State.reqPacket (s : State) (m : Msg) (ftag : Nat) (part : Nat × Nat) : Packet :=
  { typ := 0, vc := 4, seq := 0, dst := m.dev, src := s.device, dcap := s.ownDcap
    kind := kindNum m.kind, ftag := ftag, srcId := m.srcId, space := m.space
    addr := if m.kind = .writeFixed then m.addr else (m.addr + part.1) % 2 ^ 32
    len := part.2
    data := if m.kind = .read then [] else sliceB m.data part.1 part.2, badCrc := false }

/-- The on-chip response to a request once every part has completed: the first failure in address order,
or the data. -/
def RemoteReq.response (r : RemoteReq) : Resp :=
  let sts := (List.range r.parts).map fun i => tget 0 i r.statuses
  let base : Resp :=
    { kind := .done, dstPhys := r.srcPhys, dstId := r.srcId, tag := r.tag, cap := r.cap, status := 0
      data := (List.range r.parts).flatMap fun i => tget [] i r.datas, badCrc := false }
  match sts.find? (· != 0) with
  | none => base
  | some st => { base with kind := .error, status := st, data := [BitVec.ofNat 8 st, 0, 0, 0] }

/-- A part completes; the last one sends the on-chip response. -/
def State.partDone (s : State) (ftag status : Nat) (data : List Byte) : State :=
  match tfind? ftag s.fabric.ftags with
  | none => s
  | some t =>
    let f := { s.fabric with ftags := tdel ftag s.fabric.ftags }
    match f.remotes.find? fun r => r.id == t.parent with
    | none => s.setFabric f
    | some r =>
      let r1 := { r with statuses := tput t.part status r.statuses, datas := tput t.part data r.datas }
      let rest := f.remotes.filter fun x => x.id != r.id
      if r1.statuses.length = r.parts then
        { s.setFabric { f with remotes := rest } with replies := s.replies ++ [r1.response] }
      else s.setFabric { f with remotes := rest ++ [r1] }

/-- An override matches a destination. -/
def Fabric.hit (_ : Fabric) (o : Override) (d : Nat) : Bool := d &&& o.mask == o.number &&& o.mask

/-- Requests to a destination wait: for the full tables (R372) or a change of the route that they take, which an alias
leads to its host (R358, R360, R382). -/
def State.mustWait (s : State) (d : Nat) : Bool :=
  s.fabric.needTables ||
    s.fabric.routeDue.any fun l => l.any fun o => s.fabric.hostOf d &&& o.mask == o.number &&& o.mask

/-- The RSP that answers a request packet. -/
def State.rspPacket (s : State) (k : Packet) (kind status : Nat) (data : List Byte) : Packet :=
  { typ := 1, vc := 6, seq := 0, dst := k.src, src := s.device, dcap := s.ownDcap, kind := kind
    ftag := k.ftag, srcId := k.srcId, space := k.space, addr := status, len := data.length, data := data
    badCrc := false }

/-- A request packet that cannot go on completes with 0x86 (R361); other packets are lost. -/
def State.failPacket (s : State) (k : Packet) : State :=
  if k.typ ≠ 0 then s
  else if k.src = s.device then s.partDone k.ftag 0x86 []
  else (s.routeOut none (s.rspPacket k 0xA 0x86 [])).1

/-- Send the parts of a remote request. -/
def State.sendParts (s : State) (m : Msg) (id : Nat) : List (Nat × (Nat × (Nat × Nat))) → State
  | [] => s
  | (i, (t, part)) :: r =>
    let rec_ : FtagRec :=
      { dst := m.dev, srcId := m.srcId, srcPhys := m.srcPhys, tag := m.tag, cap := m.cap, parent := id
        part := i, parts := (partsOf m).length }
    let s1 := s.setFabric { s.fabric with
      ftags := tput t rec_ s.fabric.ftags, nextFtag := (t + 1) % 4096 }
    let k := s.reqPacket m t part
    let x := s1.routeOut none k
    (if x.2 then x.1 else x.1.failPacket k).sendParts m id r

/-- The hub takes an on-chip request for another device (R355, R360, R361, R372): it is removed from the
network, or waits. -/
def State.toHub (s : State) (m : Msg) : State :=
  let s0 := { s with flight := s.flight.erase m }
  if s.unreachable m.dev m.space then { s0 with replies := s0.replies ++ [merr m 0x86] }
  else if s.mustWait m.dev then s
  else if s.here m.dev then
    match s.fabric.aliasOf m.dev with
    | none => s
    | some a =>
      let c := (a.courts[m.addr / 2 ^ 22 % 16]?).getD 0xFF
      if c < 16 ∧ m.addr / 2 ^ 26 = 0 then
        s0.fly { m with dev := s.device, addr := c * 2 ^ 22 + m.addr % 2 ^ 22 }
      else { s0 with replies := s0.replies ++ [merr m (if m.addr / 2 ^ 26 = 0 then 0x86 else 0x81)] }
  else
    let parts := partsOf m
    let tags := freeFtags s.fabric.ftags 4096 parts.length s.fabric.nextFtag
    if tags.length < parts.length then s
    else
      let id := s.fabric.nextRemote
      let r : RemoteReq :=
        { id := id, full := m.dev * 2 ^ 34 + m.space * 2 ^ 32 + m.addr, srcId := m.srcId, srcPhys := m.srcPhys, tag := m.tag, cap := m.cap, statuses := []
          datas := [], parts := parts.length, isRead := m.kind == .read }
      let s1 := s0.setFabric { s0.fabric with
        nextRemote := id + 1, remotes := s0.fabric.remotes ++ [r] }
      s1.sendParts m id ((List.range parts.length).zip (tags.zip parts))

/-! ### Remote requests of other devices (R355, R356, R374) -/

/-- The next on-chip tag of the hub in rotation (R170, R176). -/
def Fabric.hubTag (f : Fabric) : Option Nat :=
  freeTag? f.nextHubTag fun t => !(f.serving.any fun x => x.tag == t) && (tfind? t f.hubResting).isNone

/-- The address on this device of an aliased tile's address, if its court is mapped (R374). -/
def mapAlias (a : AliasRec) (addr : Nat) : Option Nat :=
  let c := (a.courts[addr / 2 ^ 22 % 16]?).getD 0xFF
  if c < 16 ∧ addr / 2 ^ 26 = 0 then some (c * 2 ^ 22 + addr % 2 ^ 22) else none

/-- Where a packet served here goes on this device: its own address, or that of the aliased tile (R355, R374). -/
def State.localAddr (s : State) (k : Packet) : Option Nat :=
  if k.dst = s.device then some k.addr
  else match s.fabric.aliasOf k.dst with
    | some a => if k.space = 0 then mapAlias a k.addr else none
    | none => none

/-- The on-chip request of the hub for a packet, with cap 0x00 and SRC_PHYS 0x7FF (R146, R355). -/
def State.hubMsg (s : State) (k : Packet) (tag addr : Nat) : Msg :=
  { kind := kindOf k.kind, len := if k.kind = 1 then k.len else k.data.length, srcId := k.srcId, srcPhys := 0x7FF
    srcDev := k.src, tag := tag, cap := 0, chk := false, dev := s.device, space := k.space, addr := addr
    data := k.data, badCrc := false, hub := true }

/-- A request packet served on this device: issued on the chip, or answered 0x86. -/
def State.serveReq (s : State) (p : Nat) (k : Packet) : State :=
  let fail (st : Nat) := (s.routeOut none (s.rspPacket k 0xA st [])).1
  let refuse : Option Nat := match kindOf k.kind with
    | .other _ => some 0x8C
    | .gateOp => some 0x81
    | _ => none
  match s.localAddr k, s.fabric.hubTag with
  | none, _ => fail 0x86
  | _, none => s
  | some a, some t =>
    if refuse.isSome then fail (refuse.getD 0)
    else
    let s1 := s.setFabric { s.fabric with
      serving := s.fabric.serving ++ [⟨t, p, k, 0, s.now⟩], nextHubTag := (t + 1) % 256 }
    s1.fly (s.hubMsg k t a)

/-- The RSP to a request that the hub has served. -/
def State.hubAnswer (s : State) (x : HubServe) (st : Nat) (data : List Byte) : State :=
  let s1 := s.setFabric { s.fabric with serving := s.fabric.serving.filter fun y => y.tag != x.tag }
  (s1.routeOut none (s1.rspPacket x.packet (if st = 0 then 8 else 0xA) st (if st = 0 then data else []))).1

/-- The hub resends a request as R156 says: at most three times, no WRITE_FIXED, and after a corrupted response a READ
or WRITE only. -/
def HubServe.mayResend (x : HubServe) (r : Resp) : Bool :=
  decide (x.resends < 3) &&
    match kindOf x.packet.kind with
    | .read | .write => true
    | .writeFixed => false
    | _ => !r.badCrc

/-- The on-chip response to a request that the hub serves: the RSP, or a resend of R156. -/
def State.hubDone (s : State) (r : Resp) : State :=
  match s.fabric.serving.find? fun x => x.tag == r.tag with
  | none => s
  | some x =>
    if r.kind = .retry ∨ r.badCrc then
      if x.mayResend r then
        let again (y : HubServe) : HubServe :=
          if y.tag = x.tag then { y with resends := y.resends + 1, since := s.now } else y
        (s.setFabric { s.fabric with serving := s.fabric.serving.map again }).fly
          (s.hubMsg x.packet x.tag ((s.localAddr x.packet).getD 0))
      else (s.hubAnswer x 0x88 []).report 7 linkUnit 0xFFFF 0 0x88
    else s.hubAnswer x (if r.kind = .done then 0 else r.status) r.data

/-! ### Ports going down (R351) -/

/-- Port `p` goes down and retrains: source 272 + 4p, and what waited for it fails. -/
def State.dropPort (s : State) (p : Nat) : State :=
  let q := (s.port p).queued
  let s1 := (s.setPort p (s.port p).retrain).fire (272 + 4 * p)
  q.foldl State.failPacket s1

/-- Resend every unacknowledged packet (R350). -/
def State.replayPort (s : State) (p : Nat) : State :=
  let v := s.port p
  let s1 := s.setPort p { v with replays := v.replays + 1, progressAt := s.now }
  s1.setFabric { s1.fabric with sent := s1.fabric.sent ++ v.replay.map fun k => (p, pktWire k) }

/-! ### Reception (R350, R371) -/

/-- A MEMBER packet of this device (R349, R365 to R376). -/
def State.memberPacket (s : State) (dest : Nat) (b : MemberBody) : Packet :=
  let data := (Config.memberBytes b).take 512
  { typ := 3, vc := 0, seq := 0, dst := dest, src := s.device, dcap := s.ownDcap, kind := 0, ftag := 0, srcId := 0
    space := 0, addr := 0, len := data.length, data := data, badCrc := false, body := some b }

/-- Send a MEMBER packet to another device; where routing leads to a port that is down it is lost. -/
def State.member (s : State) (dest : Nat) (b : MemberBody) : State :=
  if dest = s.device then s else (s.routeOut none (s.memberPacket dest b)).1

/-- The SENT_OFF notice to a source, at most one per 1 ms. -/
def State.tellSentOff (s : State) (d : Nat) : State :=
  let f := s.fabric
  if (tfind? d f.sentOffAt).any fun t => decide (s.now < t + 200000) then s
  else (s.setFabric { f with sentOffAt := tput d s.now f.sentOffAt }).member d .sentOff

/-- Port `p` sends a LINK packet: the last good SEQ and the units freed per channel (R349, R350, R353). -/
def State.sendLink (s : State) (p : Nat) (nak : Bool) : State :=
  let v := s.port p
  let k : LinkPkt := { ackSeq := (v.rxSeq + 4095) % 4096, nak := nak
                       credits := (List.range 8).map fun vc => tget 0 vc v.rxFreed }
  s.setFabric { s.fabric with sent := s.fabric.sent ++ [(p, linkWire k)] }

/-- While good packets are unacknowledged, every port that is up sends a LINK packet, each 60 ns (R350). -/
def State.tickLinks (s : State) : State :=
  if s.now % 12 ≠ 0 then s
  else
    (List.range 4).foldl (fun u p =>
      let v := u.port p
      if v.up && v.wantAck then (u.setPort p { v with wantAck := false }).sendLink p false else u) s

/-- Port `p` receives a sequenced packet: accepted in order with a good CRC, or a NAK is due; then the
check of R371.  False where the packet goes no further. -/
def State.takePacket (s : State) (p : Nat) (k : Packet) : State × Bool :=
  let v := s.port p
  if !v.up then (s, false)
  else if k.badCrc || k.seq != v.rxSeq then
    (if v.nakSent then s else (s.setPort p { v with nakSent := true }).sendLink p true, false)
  else
    let s1 := s.setPort p { v with
      rxSeq := (v.rxSeq + 1) % 4096, nakSent := false, wantAck := true
      rxFreed := tput k.vc ((tget 0 k.vc v.rxFreed + pktUnits k) % 4096) v.rxFreed }
    let f := s1.fabric
    if k.dcap != tget 1 k.src f.caps || f.out.contains k.src then
      ((s1.setFabric { f with dropped := f.dropped + 1 }).tellSentOff k.src, false)
    else (s1, true)

/-- Pass a packet on. -/
def State.passOn (s : State) (p : Nat) (k : Packet) : State :=
  if k.typ = 0 ∧ s.unreachable k.dst k.space then s.failPacket k
  else
    let x := s.routeOut (some p) k
    if x.2 then x.1 else x.1.failPacket k

/-! ### Coming up (R345) -/

/-- The device next to this one through port `p`, if R358 gives one.  A device that has never joined knows no NX and NY,
and takes the numbering's whole 128 by 128 as lines (log 128). -/
def State.adjacent (s : State) (p d : Nat) : Bool :=
  let f := s.fabric
  let x := s.device % 128
  let y := s.device / 128
  let nx := if f.configId = 0 then 128 else f.nx
  let ny := if f.configId = 0 then 128 else f.ny
  let down (a n : Nat) (ring : Bool) : Option Nat :=
    if a = 0 then if ring then some (n - 1) else none else some (a - 1)
  let up (a n : Nat) (ring : Bool) : Option Nat :=
    if a + 1 < n then some (a + 1) else if ring && a + 1 == n then some 0 else none
  match p with
  | 0 => (down x nx f.wrapX).any fun a => d == y * 128 + a
  | 1 => (up x nx f.wrapX).any fun a => d == y * 128 + a
  | 2 => (down y ny f.wrapY).any fun a => d == a * 128 + x
  | _ => (up y ny f.wrapY).any fun a => d == a * 128 + x

/-- What a heartbeat says of the neighbour. -/
def LinkPort.hear (v : LinkPort) (h : Heartbeat) (now : Nat) : LinkPort :=
  { v with
    nbDevice := h.device, nbState := h.state, nbCap := h.dcap, nbCaptain := h.captain
    nbConfig := h.configId, lastBeat := now, silent := false }

/-! ### Rows -/

/-- PORT_UP (R345): lanes locked and heartbeats exchanged, or the port is held down.  In recovery the ports stay down
(R421). -/
def execPortUp (p : Nat) (h : Heartbeat) (s : State) : Out :=
  let v := (s.port p).hear h s.now
  let s' :=
    if h.configId = s.fabric.configId ∧ s.adjacent p h.device then
      (s.setPort p { v with
        up := true, heldDown := false, lanes := 2, tx := s.laneTx (4 + 2 * p) ++ s.laneTx (5 + 2 * p) }).fire (272 + 4 * p)
    else (s.setPort p { v with heldDown := true }).fire (274 + 4 * p)
  ok (decide (p < 4)) (when_ (!(s.port p).up && !s.faults.backupOsc && !s.inHold && !s.mgmt.recovery && s.power.st == .run)
    s' s)

/-- LANE_LOSS (R346): one lane carries on; the loss of the last one brings the port down. -/
def execLaneLoss (p : Nat) (lane : Fin 2) (s : State) : Out :=
  let v := s.port p
  let s1 := s.report 19 linkUnit 0xFFFF 0 (2 * p + lane.val)
  let s' :=
    if v.lanes = 2 then
      (s1.setPort p { v with lanes := 1, lostLane := some lane.val, lostAt := s.now }).fire (272 + 4 * p)
    else s1.dropPort p
  ok (decide (p < 4)) (when_ (v.up && s.running && v.lostLane != some lane.val) s' s)

/-- LANE_RESTORE (R346): after 100 ms of lock. -/
def execLaneRestore (p : Nat) (s : State) : Out :=
  let v := s.port p
  let due := v.up && s.running && v.lostLane.isSome && decide (v.lostAt + 20000000 ≤ s.now)
  ok (decide (p < 4))
    (when_ due ((s.setPort p { v with lanes := 2, lostLane := none }).fire (272 + 4 * p)) s)

/-- REQ (R355, R361): a packet of TYPE 0, served here or passed on; a MEMBER packet on its way to another
device is passed on too, and any other TYPE is counted (R349). -/
def execReq (p : Nat) (k : Packet) (s : State) : Out :=
  let s' :=
    if k.typ = 0 ∨ k.typ = 3 then
      if k.typ = 0 ∧ s.here k.dst ∧ s.fabric.hubTag.isNone then s
      else
        let x := s.takePacket p k
        if !x.2 then x.1
        else if k.typ = 0 then if s.here k.dst then x.1.serveReq p k else x.1.passOn p k
        else if k.dst = s.device then x.1 else x.1.passOn p k
    else when_ ((s.port p).up && !([1, 2, 8, 9].contains k.typ))
      (s.setFabric { s.fabric with badType := s.fabric.badType + 1 }) s
  ok (decide (p < 4)) (when_ s.running s' s)

/-- RSP (R355): it completes a part, or is passed on. -/
def execRsp (p : Nat) (k : Packet) (s : State) : Out :=
  let x := s.takePacket p k
  let s' :=
    if !x.2 then x.1
    else if s.here k.dst then x.1.partDone k.ftag (k.addr % 256) k.data
    else x.1.passOn p k
  ok (decide (p < 4)) (when_ (k.typ == 1 && s.running) s' s)

/-- LINK (R350, R353): acknowledgements, credits, and a replay on NAK; a credit error retrains the
port. -/
def execLink (p : Nat) (k : LinkPkt) (s : State) : Out :=
  let v := s.port p
  let bad := (List.range 8).any fun vc =>
    let n := (k.credits[vc]?).getD 0 % 4096
    decide (v.inUse vc < (n + 4096 - tget 0 vc v.freed) % 4096)
  let acked := (v.replay.findIdx? fun x => x.seq == k.ackSeq).map (· + 1)
  let v1 := { v with
    freed := (List.range 8).foldl (fun m vc => tput vc ((k.credits[vc]?).getD 0 % 4096) m) v.freed
    replay := v.replay.drop (acked.getD 0)
    replays := if acked.isSome then 0 else v.replays
    progressAt := if acked.isSome then s.now else v.progressAt }
  let s1 := s.setPort p v1
  let s2 := if k.nak then s1.replayPort p else s1
  let s' := if bad then (s.fire (273 + 4 * p)).dropPort p else s2.pumpPort p
  ok (decide (p < 4)) (when_ (v.up && s.running) s' s)

/-- REPLAY_TIMEOUT (R350): 4 µs without progress. -/
def execReplayTimeout (p : Nat) (s : State) : Out :=
  let v := s.port p
  let due := v.up && s.running && !v.replay.isEmpty && decide (v.progressAt + 800 ≤ s.now) && decide (v.replays < 8)
  ok (decide (p < 4)) (when_ due (s.replayPort p) s)

/-- REPLAY_LIMIT (R351): eight replays without progress. -/
def execReplayLimit (p : Nat) (s : State) : Out :=
  let v := s.port p
  ok (decide (p < 4)) (when_ (v.up && s.running && decide (8 ≤ v.replays)) ((s.fire (273 + 4 * p)).dropPort p) s)

/-- 250 µs have passed since the last heartbeats (R363). -/
def State.beatDue (s : State) : Bool := s.fabric.beatAt == 0 || decide (s.fabric.beatAt + 50000 ≤ s.now)

/-- HEARTBEAT_SEND (R363): every 250 µs, every port that is up sends one. -/
def execHeartbeatSend (s : State) : Out :=
  let s1 := s.fabric.upPorts.foldl
    (fun u p => u.setPort p { u.port p with sentBeat := some (s.beat p) }) s
  ok true (when_ (s.running && s.beatDue)
    (s1.setFabric { s1.fabric with
      beatAt := s.now
      beats := s1.fabric.beats ++ s.fabric.upPorts.map fun p => (s.now, p, beatWire (s.beat p)) }) s)

/-- Ticks in one beacon period, 62.5 ms (R379). -/
def beaconPeriod : Nat := 12500000

/-- A beacon period has passed since the port's last delay exchange. -/
def State.delayDue (s : State) (p : Nat) : Bool :=
  (s.port p).up && ((s.port p).delayAt == 0 || decide ((s.port p).delayAt + beaconPeriod ≤ s.now))

/-- DELAY_EXCHANGE (R380): once per beacon period; timestamps in 2⁻¹⁶ ns.  The spec gives the packets of the exchange no
TYPE and no layout (log 129). -/
def execDelayExchange (p : Nat) (t1 t2 t3 t4 : Int) (s : State) : Out :=
  ok (decide (p < 4)) (when_ (s.delayDue p && s.running)
    (s.setPort p { s.port p with delay := ((t4 - t1) - (t3 - t2)) / 2, delayAt := s.now }) s)

end Sys2Proof.Machine
end

