-- ==== Sys2Proof/Machine/Members.lean ====
section
/-! DEFINITION. Heartbeats, membership, the captain and fabric substitution (R363 to R377), takeover (R373 to
R375), time beacons (R378, R379), starting tiles (R63) and enabling streams (R204). -/

namespace Sys2Proof.Machine

/-! ### Starting tiles and streams -/

/-- START_TILE of physical tile `p` (R63, R196): a stopped tile starts at 0x0000 with Cold values but for
its memory and decode table, whose committed entries stay valid. -/
def State.startPhys (s : State) (p : Nat) : State :=
  let t := s.tile p
  if t.run != .stopped then s
  else
    let u := { t.cold s.now with active := t.active, dtValid := t.dtValid, run := .running }
    let s1 := (s.setTile p u).wakeCourt (p / 64)
    match s.identOf p with
    | none => s1
    | some l => s1.dropTask l

/-- Start logical tile `t`, and its partner. -/
def State.startLogical (s : State) (t : Nat) : State :=
  match s.physOf t with
  | none => s
  | some p =>
    match tfind? t s.gates.duplex with
    | some d => (s.startPhys p).startPhys d.partner
    | none => s.startPhys p

/-- Whether the home bank holds a valid section that fits stream `k` (R204). -/
def State.sectionFits (s : State) (k : Nat) : Bool :=
  let v := s.stream k
  let x := s.sectionIn s.engine.homeBank k
  s.engine.homeValid && (s.model s.engine.homeBank).sect k != 0 && x.pixels == v.par.pixels &&
    x.bands == v.par.bands

/-- Enable stream `k`: an Off stream that is configured and has its section becomes Armed (R203, R204,
R214). -/
def State.enableStream (s : State) (k : Nat) : State × Bool :=
  let v := s.stream k
  if v.st == .off && v.configured && s.sectionFits k then
    (s.setStream k { v with
      st := .armed, l0 := none, begun := false, nextItem := 1, missRun := 0, opens := []
      switched := false, switchAt := none, stopPacked := false }, true)
  else (s, false)

/-! ### Membership (R365 to R372) -/

/-- More than half of the configured members have sent a status within 2 × STATUS_PERIOD (R368). -/
def State.quorum (s : State) : Bool :=
  let f := s.fabric
  let n := (f.members.filter fun m =>
    (tfind? m f.gotStatus).any fun t => decide (s.now ≤ t + usTicks (2 * f.statusPeriod))).length
  decide (f.members.length < 2 * n)

/-- The device may act as captain. -/
def State.captainNow (s : State) : Bool := s.fabric.joined && s.fabric.isCaptain && s.quorum

/-- What a notice changes in the tables. -/
def Fabric.applyNotice (f : Fabric) : NoticeKind → Fabric
  | .cap d c => { f with caps := tput d c f.caps }
  | .mark d true => { f with out := if f.out.contains d then f.out else f.out ++ [d] }
  | .mark d false =>
    { f with out := f.out.filter (· != d), gone := f.gone.filter (· != d)
             announced := f.announced.filter (· != d), silentDevs := tdel d f.silentDevs }
  | .aliased d h map =>
    { f with aliases := ⟨d, h, map⟩ :: f.aliases.filter fun a => a.dev != d }
  | .unaliased d => { f with aliases := f.aliases.filter fun a => a.dev != d }
  | .configured d true =>
    { f with members := if f.members.contains d then f.members else f.members ++ [d]
             gone := f.gone.filter (· != d) }
  | .configured d false =>
    { f with members := f.members.filter (· != d), gone := d :: f.gone.filter (· != d) }

/-- A MEMBER packet goes out on each port of a list. -/
def State.flood (s : State) (inP : Option Nat) (ports : List Nat) (k : Packet) : State :=
  ports.foldl (fun u p => u.linkSend p { k with vc := u.fabric.vcOut u.device inP p k }) s

/-- The captain applies a change and floods it with the next notice sequence (R372). -/
def State.announce (s : State) (k : NoticeKind) : State :=
  let f := s.fabric.applyNotice k
  let s1 := s.setFabric { f with noticeSeq := f.noticeSeq + 1 }
  s1.flood none s1.fabric.upPorts (s1.memberPacket s1.device (.notice s1.fabric.noticeSeq k))

/-- Step 2 of R373: `d` is marked out with a new cap. -/
def State.markOut (s : State) (d : Nat) : State :=
  if s.fabric.out.contains d then s
  else (s.announce (.cap d (nextCap (tget 1 d s.fabric.caps)))).announce (.mark d true)

/-- The captain's full tables. -/
def Fabric.tables (f : Fabric) : FabTables :=
  { caps := f.caps, out := f.out, members := f.members, seq := f.noticeSeq
    aliases := f.aliases.map fun a => (a.dev, a.host, a.courts) }

/-- Where this device's reports go (R363): the captain known, or the candidate. -/
def Fabric.reportTo (f : Fabric) : Nat := f.captain.getD f.candidate

/-- The firmware learns of a silent member, or of one that has announced its send-off (R363, R373): the captain marks it
out; another device reports what it has found itself, and the loss stays known for the day it is elected. -/
def State.fwLost (s : State) (d : Nat) (announced own : Bool) : State :=
  let f := s.fabric
  let s1 := s.setFabric { f with
    announced := if announced && !f.announced.contains d then d :: f.announced else f.announced
    silentDevs := tput d s.now f.silentDevs }
  if !f.joined then s1
  else if s.captainNow && f.members.contains d && d != s.device then s1.markOut d
  else if own then s1.member f.reportTo (.silence d announced)
  else s1

/-- The firmware learns that a device marked out has joined again: the captain marks it in, issues its current cap and
sends it the full tables; another device reports it (R376, log 111). -/
def State.fwRejoined (s : State) (d : Nat) (own : Bool) : State :=
  let f := s.fabric
  if s.captainNow && f.out.contains d then
    let s1 := (s.announce (.mark d false)).announce (.cap d (tget 1 d f.caps))
    s1.member d (.tables s1.fabric.tables)
  else if own && f.joined then s.member f.reportTo (.rejoined d)
  else s

/-- The next notice is applied; one that leaves a gap makes the full tables due (R372). -/
def State.fwNotice (s : State) (src seq : Nat) (k : NoticeKind) : State :=
  let f := s.fabric
  if seq ≤ f.noticeSeq then s
  else if seq = f.noticeSeq + 1 then s.setFabric { f.applyNotice k with noticeSeq := seq }
  else (s.setFabric { f with needTables := true }).member src .askTables

/-- The captain's full tables replace this member's (R372). -/
def State.fwTables (s : State) (t : FabTables) : State :=
  let f := s.fabric
  if f.needTables || decide (f.noticeSeq < t.seq) then
    s.setFabric { f with
      caps := t.caps.foldl (fun m e => tput e.1 e.2 m) [], out := t.out, members := t.members
      aliases := t.aliases.map fun e => ⟨e.1, e.2.1, e.2.2⟩
      noticeSeq := t.seq, needTables := false }
  else s

/-- A CONFIRM sent to `d` (R365). -/
def State.confirmTo (s : State) (d number : Nat) : State :=
  let f := s.fabric
  s.member d (.confirm number (tget 1 d f.caps) f.epoch f.noticeSeq)

/-- A CONFIRM of a status of this device is received (R365, R367, R372): one with its current cap, for a status no older
than HOLD, confirms it; the first after a join is its readmission, which ends the safe states of R300 and the
command (R364, R376). -/
def State.confirmed (s : State) (captain number cap epoch noticeSeq : Nat) : State :=
  let f := s.fabric
  match tfind? number f.sentStatus with
  | none => s
  | some t =>
    let lag := decide (f.noticeSeq < noticeSeq)
    let ask (u : State) : State := if lag then u.member captain .askTables else u
    let g := { f with
      unanswered := min f.unanswered (f.statusNo - number), needTables := f.needTables || lag }
    if cap ≠ s.ownDcap then ask (s.setFabric g)
    else
      let at_ := max f.confirmedAt t
      let good := decide (s.now ≤ at_ + usTicks f.holdUs)
      let s1 := ask (s.setFabric { g with
        confirmedAt := at_, captain := some captain, epoch := epoch
        everConfirmed := f.everConfirmed || good, unconfirmed := f.unconfirmed && !good
        joinBox := if good then none else f.joinBox })
      let s2 := if good && !f.everConfirmed then (s1.safeEnd .membership).safeEnd .sendOff else s1
      match f.joinBox with
      | some m => if good then s2.finishMbx m 0 [] else s2
      | none => s2

/-- The next higher configured member, wrapping after the highest (R369). -/
def Fabric.nextCandidate (f : Fabric) : Nat :=
  let higher := f.members.filter fun m => decide (f.candidate < m)
  let least (l : List Nat) (d : Nat) : Nat := match l with
    | [] => d
    | a :: r => r.foldl min a
  least higher (least f.members f.candidate)

/-! ### Takeover (R373 to R375) -/

/-- Load a persisted image into physical tile `p`, which is stopped, with its kept decode-table entries (R138). -/
def State.loadTaken (s : State) (t p : Nat) (mem : Mem) : State :=
  if (s.tile p).run != .stopped then s
  else s.setTile p (s.applyKept (some t) { s.tile p with mem := mem, bad := [] })

/-- Load a tile's persisted image, and its partner's, and start it. -/
def State.takeTile (s : State) (t : Nat) : State :=
  match s.boot.image t, s.physOf t with
  | some i, some p =>
    let s1 := s.loadTaken t p i
    let s2 := match tfind? t s.gates.duplex with
      | some d => s1.loadTaken t d.partner i
      | none => s1
    s2.startLogical t
  | _, _ => s

/-- A standby takes over member `d`: the mapped courts, then the named streams. -/
def State.takeover (s : State) (d : Nat) : State :=
  match s.fabric.standby.find? fun e => e.member == d with
  | none => s
  | some e =>
    let courts := e.courts.filter fun c => decide (c < 16)
    let s1 := courts.foldl (fun u c => (List.range 64).foldl (fun v i => v.takeTile (64 * c + i)) u) s
    let s2 := (List.range 4).foldl (fun u k => if bitAt e.streams k then (u.enableStream k).1 else u) s1
    s2.setFabric { s2.fabric with takeovers := d :: s2.fabric.takeovers.filter (· != d) }

/-! ### What the firmware decides (R366) -/

/-- SENT_OFF reaches the firmware: the port's neighbour source fires and the pins are held safe (R376). -/
def State.fwSentOff (s : State) (p : Nat) : State := (s.fire (274 + 4 * p)).safeAll .sendOff

/-- The firmware takes a MEMBER packet that came from `src` by port `p`; what the link hub answers itself is not its
concern. -/
def State.fwMember (s : State) (p src : Nat) : MemberBody → State
  | .notice seq k => s.fwNotice src seq k
  | .sentOff => s.fwSentOff p
  | .takeover d => when_ ((s.fabric.aliasOf d).any fun a => a.host == s.device) (s.takeover d) s
  | .tables t => s.fwTables t
  | .silence d announced => s.fwLost d announced (src == s.device)
  | .rejoined d => s.fwRejoined d (src == s.device)
  | .leave d => when_ s.captainNow (s.announce (.configured d false)) s
  | .askTables => when_ s.captainNow (s.member src (.tables s.fabric.tables)) s
  | .status _ => s
  | .confirm _ _ _ _ => s
  | .redirect _ => s

/-- A MEMBER packet for the firmware: at once, or after the management restart under way (R366). -/
def State.forFirmware (s : State) (p src : Nat) (b : MemberBody) : State :=
  if s.mgmt.up then s.fwMember p src b
  else s.setFabric { s.fabric with fwDue := s.fabric.fwDue ++ [(p, src, b)] }

/-- What came for the firmware during a management restart, it acts on after it (R366). -/
def State.tickMembers (s : State) : State :=
  if s.mgmt.up && !s.fabric.fwDue.isEmpty then
    s.fabric.fwDue.foldl (fun u e => u.fwMember e.1 e.2.1 e.2.2) (s.setFabric { s.fabric with fwDue := [] })
  else s

/-! ### Statuses (R368, R369) -/

/-- This device becomes captain with the epoch incremented (R369); the members that it knows to be silent are lost to
it. -/
def State.elected (s : State) : State :=
  let f := s.fabric
  let s1 := s.setFabric { f with
    isCaptain := true, captain := some s.device, epoch := f.epoch + 1, electedAt := s.now }
  f.silentDevs.foldl (fun u e => u.forFirmware 0 s.device (.silence e.1 (f.announced.contains e.1))) s1

/-- A status of `src` arrives (R368, R369): counted, and answered by CONFIRM, or by REDIRECT where this
device knows another captain. -/
def State.hearStatus (s : State) (src number : Nat) : State :=
  let f := s.fabric
  let s1 := s.setFabric { f with gotStatus := tput src s.now f.gotStatus }
  let answer (u : State) : State :=
    if src = s.device then u.confirmed s.device number u.ownDcap u.fabric.epoch u.fabric.noticeSeq
    else u.confirmTo src number
  let other := f.captain.any fun c => c != s.device && f.candidate != s.device
  if !f.isCaptain && other then s1.member src (.redirect (f.captain.getD 0))
  else if !s1.quorum then s1
  else answer (if f.isCaptain then s1 else s1.elected)

/-! ### Beacons (R378, R379) -/

/-- The parent port: R358's choice towards the captain known, or named by a neighbour. -/
def State.parentPort (s : State) : Option Nat :=
  let f := s.fabric
  let named := (f.upPorts.map fun p => (tget {} p f.ports).nbCaptain).head?
  match (if f.joined then f.captain else none).orElse (fun _ => named) with
  | none => none
  | some c => if c = s.device then none else some (f.portTo s.device (f.hostOf c))

/-- The payload of a beacon. -/
def beaconBytes (seq sec ns corr captain : Nat) (unknown : Bool) : List Byte :=
  leBytes seq 4 ++ leBytes sec 6 ++ leBytes ns 4 ++ leBytes corr 8 ++ leBytes captain 2 ++
    [BitVec.ofNat 8 (b2n unknown)]

/-- A BEACON packet. -/
def State.beaconPacket (s : State) (dcap src : Nat) (data : List Byte) : Packet :=
  { typ := 2, vc := 2, seq := 0, dst := s.device, src := src, dcap := dcap, kind := 0, ftag := 0
    srcId := 0, space := 0, addr := 0, len := data.length, data := data, badCrc := false }

/-- An offset of the device's time is corrected (R288): slewed below 1 ms, else stepped by a relative
commit. -/
def State.syncTo (s : State) (offset : Int) : State :=
  let s1 := { s with time := { s.time with lastSync := s.now, syncLost := false } }
  if -1000000 < offset ∧ offset < 1000000 then s1.startSlew offset
  else
    let sec := offset / 1000000000
    { s1 with time := { s1.time with
        commit := some ⟨false, uint 48 sec, (offset - sec * 1000000000).toNat⟩ } }

/-- A beacon accepted on the parent port `p`, whose residence time here is in 2⁻¹⁶ ns. -/
def State.acceptBeacon (s : State) (p : Nat) (k : Packet) (residence : Nat) : State :=
  let delay := (s.port p).delay.toNat
  let corr := leAt k.data 14 8 + delay
  let out := sliceB k.data 0 14 ++ leBytes (corr + residence) 8 ++ sliceB k.data 22 3
  let s1 := (s.setFabric { s.fabric with lastBeacon := some (leAt k.data 0 4) }).flood
    (some p) (s.fabric.upPorts.filter (· != p)) { k with data := out }
  let master := leAt k.data 4 6 * 1000000000 + leAt k.data 10 4 + corr / 65536
  if s.time.mode = 2 then s1.syncTo ((master : Int) - s.time.abs) else s1

/-! ### Rows -/

/-- HEARTBEAT (R363): the neighbour's state is taken; an announcement of its send-off fires the neighbour
source once, and a device marked out that has left and joined again is marked in (R376). -/
def execHeartbeat (p : Nat) (h : Heartbeat) (s : State) : Out :=
  let v := s.port p
  let s0 := s.setPort p (v.hear h s.now)
  let s1 := s0.setFabric { s0.fabric with silentDevs := tdel h.device s0.fabric.silentDevs }
  let off := h.state == 2 && v.nbState != 2
  let back := decide (h.state < 2) && decide (2 ≤ v.nbState) && h.configId == s.fabric.configId &&
    s.fabric.out.contains h.device
  let s' := if off then (s1.fire (274 + 4 * p)).forFirmware p s.device (.silence h.device true)
    else if back then s1.forFirmware p s.device (.rejoined h.device) else s1
  ok (decide (p < 4)) (when_ (v.up && s.running) s' s)

/-- No heartbeat has come by port `p` for 1 ms (R363). -/
def State.silenceDue (s : State) (p : Nat) : Bool :=
  (s.port p).up && !(s.port p).silent && decide ((s.port p).lastBeat + 200000 ≤ s.now)

/-- NEIGHBOUR_SILENT (R363): no heartbeat for 1 ms. -/
def execNeighbourSilent (p : Nat) (s : State) : Out :=
  let v := s.port p
  let s1 := ((s.setPort p { v with silent := true }).fire (274 + 4 * p)).report 20 linkUnit 0xFFFF 0 p
  ok (decide (p < 4))
    (when_ (s.silenceDue p && s.running) (s1.forFirmware p s.device (.silence v.nbDevice false)) s)

/-- STATUS_PERIOD has passed since the last status, or none has been sent since the join (R365). -/
def State.statusTime (s : State) : Bool :=
  let f := s.fabric
  f.joined && (f.sentStatus.isEmpty || decide (f.statusAt + usTicks f.statusPeriod ≤ s.now))

/-- When the next status is due and three have drawn no CONFIRM, the member moves first (R369). -/
def State.moveDue (s : State) : Bool := s.statusTime && decide (3 ≤ s.fabric.unanswered)

/-- STATUS_SEND (R365): every STATUS_PERIOD, the next status to the candidate, which may be this device. -/
def execStatusSend (s : State) : Out :=
  let f := s.fabric
  let n := f.statusNo + 1
  let s1 := s.setFabric { f with
    statusNo := n, unanswered := f.unanswered + 1, statusAt := s.now
    sentStatus := (tput n s.now f.sentStatus).filter fun e => decide (n < e.1 + 1024) }
  let s' := if f.candidate = s.device then s1.hearStatus s.device n else s1.member f.candidate (.status n)
  ok true (when_ (s.statusTime && !s.moveDue && s.running) s' s)

/-- A MEMBER packet comes in: it passes the checks of R350 and R371 and goes on, or is for this device, which acts on it
by `f`. -/
def State.takeMember (s : State) (a : MemberIn) (b : MemberBody) (f : State → State) : State :=
  let x := s.takePacket a.port (a.packet b)
  if !x.2 then x.1
  else if a.dst = s.device then f x.1
  else x.1.passOn a.port (a.packet b)

/-- The meaning of a MEMBER packet's row: only a device that has joined acts on what the packet says. -/
def memberRow (a : MemberIn) (b : MemberBody) (f : State → State) (s : State) : Out :=
  ok (decide (a.port < 4)) (when_ s.running (s.takeMember a b fun u => when_ u.fabric.joined (f u) u) s)

/-- STATUS (R368, R369): a status from a configured member. -/
def execStatus (a : MemberIn) (number : Nat) (s : State) : Out :=
  memberRow a (.status number) (fun u => when_ (u.fabric.members.contains a.src) (u.hearStatus a.src number) u) s

/-- CONFIRM (R365). -/
def execConfirm (a : MemberIn) (number cap epoch noticeSeq : Nat) (s : State) : Out :=
  memberRow a (.confirm number cap epoch noticeSeq) (fun u => u.confirmed a.src number cap epoch noticeSeq) s

/-- REDIRECT (R369): the member moves to the captain named. -/
def execRedirect (a : MemberIn) (captain : Nat) (s : State) : Out :=
  memberRow a (.redirect captain) (fun u => when_ (u.fabric.candidate == a.src)
    (u.setFabric { u.fabric with candidate := captain, captain := some captain, unanswered := 0 }) u) s

/-- The port towards a device, as the tree of R379 has its parent. -/
def State.towards (s : State) (d : Nat) : Nat := s.fabric.portTo s.device d

/-- A flooded notice comes in by port `p` along the tree of R379: the copy on the port towards its captain goes to the
firmware, where it is new, and on by every other port; other copies are discarded. -/
def State.takeFlood (s : State) (p : Nat) (k : Packet) (seq : Nat) (n : NoticeKind) : State :=
  if s.fabric.joined && s.towards k.src == p && decide (s.fabric.noticeSeq < seq) && k.src != s.device then
    (s.flood (some p) (s.fabric.upPorts.filter (· != p)) k).forFirmware p k.src (.notice seq n)
  else s

/-- NOTICE (R372): a flooded notice is passed on and applied; a report for the captain is for its firmware. -/
def execNotice (a : MemberIn) (seq : Nat) (b : NoticeSays) (s : State) : Out :=
  match b with
  | .change k =>
    let x := s.takePacket a.port (a.packet (.notice seq k))
    ok (decide (a.port < 4))
      (when_ s.running (if x.2 then x.1.takeFlood a.port (a.packet (.notice seq k)) seq k else x.1) s)
  | _ => memberRow a (b.body seq) (fun u => u.forFirmware a.port a.src (b.body seq)) s

/-- SENT_OFF (R376): the port's neighbour source fires and the pins are held safe; whether the device has joined is no
matter. -/
def execSentOff (a : MemberIn) (s : State) : Out :=
  ok (decide (a.port < 4))
    (when_ s.running (s.takeMember a .sentOff fun u => u.forFirmware a.port a.src .sentOff) s)

/-- TAKEOVER (R373, R375): this device is the standby of a device under its alias. -/
def execTakeover (x : TakeoverIn) (s : State) : Out :=
  memberRow x.from_ (.takeover x.dev) (fun u => u.forFirmware x.from_.port x.from_.src (.takeover x.dev)) s

/-- HOLD has passed since the status last confirmed, or the join (R365, R367); in frost membership stays confirmed (R487). -/
def State.unconfirmedDue (s : State) : Bool :=
  let f := s.fabric
  f.joined && !f.unconfirmed && !s.dbgBlock.frost && decide (f.confirmedAt + usTicks f.holdUs < s.now)

/-- MEMBERSHIP_UNCONFIRMED (R365, R367): HOLD has passed since the status last confirmed, or the join. -/
def execMembershipUnconfirmed (s : State) : Out :=
  ok true (when_ (s.unconfirmedDue && s.running)
    ((s.setFabric { s.fabric with unconfirmed := true }).safeAll .membership) s)

/-- CANDIDATE_MOVE (R369): three consecutive statuses drew no CONFIRM by the time the next is due. -/
def execCandidateMove (s : State) : Out :=
  let f := s.fabric
  ok true (when_ (s.moveDue && s.running)
    (s.setFabric { f with
      candidate := f.nextCandidate, unanswered := 0, captain := if f.isCaptain then f.captain else none }) s)

/-- CAPTAIN_QUORUM_LOSS (R368). -/
def execCaptainQuorumLoss (s : State) : Out :=
  let f := s.fabric
  ok true (when_ (f.isCaptain && s.running && !s.quorum)
    (s.setFabric { f with isCaptain := false, captain := none }) s)

/-- The tick at which the last management restart ended, or 0 before one (R14, R366). -/
def State.mgmtEnd (s : State) : Nat := if s.mgmt.restartAt = 0 then 0 else s.mgmt.restartAt + 10000000

/-- A wait of R370 that began at `t` is over; it counts from the end of a later management restart (R366). -/
def State.waited (s : State) (t : Nat) : Bool :=
  decide (max t s.mgmtEnd + usTicks (s.fabric.holdUs + 1000) ≤ s.now)

/-- FABRIC_SUBSTITUTION (R370, R373): the captain's wait for `d` has ended; `standby` is the standby that the
captain's configuration names for it, with its court map.  Without one, only step 2 is done. -/
def execFabricSubstitution (d : Nat) (standby : Option (Nat × List Nat)) (s : State) : Out :=
  let f := s.fabric
  let due := s.captainNow && s.running && s.mgmt.up && f.members.contains d && d != s.device &&
    !(f.out.contains d && (f.aliasOf d).isSome) &&
    (f.announced.contains d ||
      (s.waited (tget 0 d f.gotStatus) && s.waited f.electedAt))
  let s1 := s.markOut d
  let s' := match standby with
    | none => s1
    | some (h, map) =>
      let s2 := s1.announce (.aliased d h map)
      if h = s.device then s2.takeover d else s2.member h (.takeover d)
  ok true (when_ due s' s)

/-- 62.5 ms have passed since the captain's last beacon, or it has sent none (R379). -/
def State.beaconDue (s : State) : Bool :=
  s.fabric.isCaptain && (s.fabric.beaconAt == 0 || decide (s.fabric.beaconAt + beaconPeriod ≤ s.now))

/-- BEACON_SEND (R287, R379): the captain is the root of fabric time, whether its own time is free or set by PTP, and
sends a beacon on every port (log 108). -/
def execBeaconSend (s : State) : Out :=
  let f := s.fabric
  let data := beaconBytes f.beaconSeq s.time.sec s.time.ns 0 s.device s.time.unknown
  let s1 := s.setFabric { f with beaconSeq := (f.beaconSeq + 1) % 2 ^ 32, beaconAt := s.now }
  ok true (when_ (s.beaconDue && s.running)
    (s1.flood none f.upPorts (s.beaconPacket s.ownDcap s.device data)) s)

/-- BEACON (R378, R379): the first copy of each sequence on the parent port is accepted and forwarded;
copies from other ports are discarded. -/
def execBeacon (p : Nat) (k : Packet) (residence : Nat) (s : State) : Out :=
  let x := s.takePacket p k
  let new := s.fabric.lastBeacon != some (leAt k.data 0 4)
  let s' := if x.2 && s.parentPort == some p && new then x.1.acceptBeacon p k residence else x.1
  ok (decide (p < 4)) (when_ (k.typ == 2 && s.running) s' s)

/-- FULL_TABLES (R372): the captain's tables replace this member's. -/
def execFullTables (a : MemberIn) (caps : List (Nat × Nat)) (sets : FabSets) (seq : Nat) (s : State) : Out :=
  let b := MemberBody.tables ⟨caps, sets.out, sets.members, sets.aliases, seq⟩
  memberRow a b (fun u => u.forFirmware a.port a.src b) s

/-! ### What a tick brings (R350, R363 to R369, R379, R380) -/

/-- The rows of the fabric whose time has come. -/
def State.fabricDue (s : State) : List Instr :=
  let one (b : Bool) (i : Instr) : List Instr := if b then [i] else []
  let ports (b : Nat → Bool) (i : Nat → Instr) : List Instr := ((List.range 4).filter b).map i
  one (!s.fabric.upPorts.isEmpty && s.beatDue) .heartbeatSend ++ ports s.silenceDue .neighbourSilent ++
    one s.moveDue .candidateMove ++ one s.statusTime .statusSend ++
    one (s.fabric.isCaptain && !s.quorum) .captainQuorumLoss ++ one s.unconfirmedDue .membershipUnconfirmed ++
    one s.beaconDue .beaconSend ++
    ports (fun p => s.delayDue p && decide ((s.port p).delayAt + beaconPeriod < s.now)) fun p =>
      .delayExchange p (Config.freeNat s.free) (Config.freeNat (s.free + 1)) (Config.freeNat (s.free + 2))
        (Config.freeNat (s.free + 3))

end Sys2Proof.Machine
end

