-- ==== Sys2Proof/Machine/Mailbox.lean ====
section
/-! DEFINITION. The mailboxes (R383 to R399): doorbell, abort, take and give, the firmware's checks, and the
frame that every command's meaning stands in. -/

namespace Sys2Proof.Machine

/-! ### Submitters (R383, R385, R387) -/

/-- A shared mailbox. -/
def sharedMbx (m : Nat) : Bool := decide (3 ≤ m ∧ m ≤ 6)

/-- Whether a master is the submitter of mailbox `m`. -/
def State.submits (s : State) (m dev master : Nat) : Bool :=
  if sharedMbx m then (s.mbx m).holder == some (dev, master)
  else dev == s.device && master == (if m < 2 then 0x401 else if m = 2 then 0x402 else 0x403)

/-- A command is Queued or Running. -/
def Mbx.busy (v : Mbx) : Bool := v.st == 1 || v.st == 2

/-- A foreign write (R387). -/
def State.mbxForeign (s : State) (m : Nat) : State := s.setMbx m { s.mbx m with foreign := true }

/-- A field of the command header. -/
def Mbx.head (v : Mbx) (o n : Nat) : Nat := leNum (memRead 0 v.cmd o n)

/-- The firmware accepts commands (R387, R399). -/
def Mgmt.serving (g : Mgmt) : Bool := g.up && !g.restarting

/-- The firmware serves commands and does its own work: the device is in Run, as R436 stops the management processor in a
sleep state. -/
def State.fwRuns (s : State) : Bool := s.mgmt.serving && s.running

/-- The cap of a holder as it stands (R388, R393). -/
def State.holderCapNow (s : State) (dev owner : Nat) : Nat :=
  if dev = s.device then s.capOf owner else tget 1 dev s.fabric.caps

/-- The target of a shared tile mailbox's completion source (R388). -/
def State.setMbxTarget (s : State) (m : Nat) (tile : Option Nat) : State :=
  if m = 5 ∨ m = 6 then
    let n := 81 + 2 * m
    match tile with
    | some t => s.setSrc n { s.src n with kind := 1, tile := t, line := 7, vector := 0, owner := 0x400 }
    | none => s.setSrc n
        { s.src n with kind := 0, tile := 0, line := 0, vector := 0, owner := 0x4FF, pend := false }
  else s

/-- A mailbox is released: Idle, with no holder and no target (R388). -/
def State.releaseMbx (s : State) (m : Nat) : State :=
  (s.setMbx m { s.mbx m with holder := none, st := 0, lastAct := s.now }).setMbxTarget m none

/-- A write of MBX_DOORBELL by a master (R387, R392). -/
def State.doorbell (s : State) (m dev master : Nat) (v : W32) : State :=
  let x := s.mbx m
  if !s.submits m dev master then s.mbxForeign m
  else if !bitq v 0 then s
  else if x.busy then s.setMbx m { x with overrun := true }
  else
    (s.setMbx m { x with
      st := 1, tag := x.head 2 2, bellAt := s.now, aborting := false, endAs := none }).fire (80 + 2 * m)

/-- A command that can be aborted (R403). -/
def Mbx.abortable (v : Mbx) : Bool := v.head 0 2 != 0x000F && v.head 0 2 != 0x0505

/-- An abort request for the outstanding command, to end with a status; the first request counts (R397). -/
def State.requestAbort (s : State) (m status : Nat) : State :=
  let x := s.mbx m
  if x.busy && !x.aborting then
    s.setMbx m { x with
      aborting := true, abortAt := s.now, endAs := if x.abortable then some status else none }
  else s

/-- A write of MBX_ABORT by a master. -/
def State.writeAbort (s : State) (m dev master : Nat) (v : W32) : State :=
  if !s.submits m dev master then s.mbxForeign m
  else if bitq v 0 then s.requestAbort m 2
  else s

/-- A write of MBX_GIVE by a master (R388). -/
def State.writeGive (s : State) (m dev master : Nat) (v : W32) : State :=
  if !s.submits m dev master then s.mbxForeign m
  else if bitq v 0 && sharedMbx m && !(s.mbx m).busy then s.releaseMbx m
  else s

/-- An action read of MBX_TAKE (R176, R387, R388): GRANTED and the holder, which is another master where the read grants
nothing. -/
def State.readMbxTake (s : State) (m dev srcId srcPhys tag : Nat) : State × Nat :=
  let x := s.mbx m
  let phys := srcPhys + 2048 * dev
  if !sharedMbx m then (s, 0)
  else
    match storedRead x.lastReads srcId phys tag with
    | some v => (s, v)
    | none =>
      let grant := x.holder.isNone || x.holder == some (dev, srcId)
      let v := if grant then 2 ^ 31 + dev * 2 ^ 16 + srcId
        else (x.holder.map fun h => h.1 * 2 ^ 16 + h.2).getD 0
      let reads := noteRead x.lastReads srcId phys tag v
      if grant then
        ((s.setMbx m { x with
            holder := some (dev, srcId), holderCap := s.holderCapNow dev srcId, lastAct := s.now
            lastReads := reads }).setMbxTarget m (some srcId), v)
      else (s.setMbx m { x with lastReads := reads }, v)

/-- MBX_STATE (R387). -/
def Mbx.stateReg (v : Mbx) : Nat := v.tag * 2 ^ 16 + b2n v.aborting * 128 + v.st
/-- MBX_ERR. -/
def Mbx.errReg (v : Mbx) : Nat := b2n v.expired * 8 + b2n v.foreign * 4 + b2n v.locked * 2 + b2n v.overrun
/-- MBX_HOLDER. -/
def Mbx.holderReg (v : Mbx) : Nat :=
  match v.holder with
  | none => 0x4FF
  | some (d, o) => d * 2 ^ 16 + o

/-! ### The firmware's checks (R393, R394, R421) -/

/-- Codes of R403. -/
def knownCode (c : Nat) : Bool :=
  [0x0001, 0x0002, 0x0003, 0x000F].contains c || decide (0x0101 ≤ c ∧ c ≤ 0x0106) ||
  decide (0x0201 ≤ c ∧ c ≤ 0x0204) || decide (0x0301 ≤ c ∧ c ≤ 0x0307) ||
  decide (0x0401 ≤ c ∧ c ≤ 0x0404) || decide (0x0501 ≤ c ∧ c ≤ 0x0505) ||
  decide (0x0601 ≤ c ∧ c ≤ 0x0603) || decide (0x0701 ≤ c ∧ c ≤ 0x0703) ||
  decide (0x0801 ≤ c ∧ c ≤ 0x0803) || decide (0x0901 ≤ c ∧ c ≤ 0x0904) ||
  decide (0x0A01 ≤ c ∧ c ≤ 0x0A03) || c == 0x0B01 || c == 0x0B02

/-- The read commands. -/
def readCode (c : Nat) : Bool :=
  [0x0001, 0x0002, 0x0003, 0x0203, 0x0306, 0x0401, 0x0501, 0x0703, 0x0904, 0x0B01, 0x0B02].contains c

/-- The Update group. -/
def updateCode (c : Nat) : Bool := c / 256 == 3
/-- The Authorisation and debug group. -/
def authCode (c : Nat) : Bool := c / 256 == 0xA

/-- The level of a mailbox's path: 2 is the service path and 7 the debug path (R479). -/
def State.pathOf (s : State) (m : Nat) : DbgPath := if m = 2 then s.dbgBlock.svc else s.dbgBlock.dbg

/-- Whether mailbox `m` may issue a code (R394). -/
def State.mayIssue (s : State) (m c : Nat) : Bool :=
  if m < 2 then true
  else if m = 3 ∨ m = 4 then !updateCode c && !authCode c
  else if m = 5 ∨ m = 6 then readCode c
  else
    let l := (s.pathOf m).level
    [0x0001, 0x0002, 0x0A01, 0x0A02].contains c || (decide (1 ≤ l) && readCode c) ||
      (decide (2 ≤ l) && !updateCode c) || decide (3 ≤ l)

/-- Codes served in recovery (R421). -/
def State.inRecovery (s : State) (c : Nat) : Bool :=
  [0x0001, 0x0A01, 0x0A02].contains c || (updateCode c && decide (3 ≤ s.dbgBlock.svc.level))

/-- The status that refuses a command before its payload is read, in the order of R393; 0 for none. -/
def State.precheck (s : State) (m : Nat) : Nat :=
  let v := s.mbx m
  let c := v.head 0 2
  let stale := sharedMbx m && match v.holder with
    | some (d, o) => v.holderCap != s.holderCapNow d o
    | none => true
  if 2 ≤ v.head 6 2 ∨ v.head 12 4 ≠ 0 ∨ 4080 < v.head 4 2 then 4
  else if stale then 0xC
  else if !knownCode c || (s.mgmt.recovery && !s.inRecovery c) then 3
  else if !s.mayIssue m c then 5
  else 0

/-! ### The frame of a command -/

/-- The payload of mailbox `m`'s command. -/
def State.payload (s : State) (m : Nat) : List Byte :=
  memRead 0 (s.mbx m).cmd 16 ((s.mbx m).head 4 2)

/-- What a command's meaning gives: a state with a status and a payload, OK with something that follows the
response, or a state in which the command still runs. -/
inductive CmdRes where
  | done (s : State) (status : Nat) (payload : List Byte)
  | after (s : State) (next : State → State)
  | wait (s : State)

/-- The command of mailbox `m` is Running with a code, and the firmware serves it. -/
def State.runs (s : State) (m code : Nat) : Bool :=
  (s.mbx m).st == 2 && (s.mbx m).head 0 2 == code && s.fwRuns

/-- The response of R390 and what follows it. -/
def CmdRes.finish (m : Nat) : CmdRes → State
  | .done u st p => u.finishMbx m st p
  | .after u f => f (u.finishMbx m 0 [])
  | .wait u => u

/-- The firmware runs the command of mailbox `m`; where rows share a code, `sel` says which payloads are
this row's. -/
def command (s : State) (m code : Nat) (sel : List Byte → Bool) (body : List Byte → CmdRes) : Out :=
  ok (decide (m < 8))
    (if s.runs m code && sel (s.payload m) then (body (s.payload m)).finish m else s)

/-- Every payload. -/
def anyP (_ : List Byte) : Bool := true
/-- OK without a payload. -/
def CmdRes.ok (s : State) : CmdRes := .done s 0 []
/-- A refusal. -/
def CmdRes.no (s : State) (status : Nat) : CmdRes := .done s status []
/-- HELD with the holder's owner ID, and the first held index where one is given (R391, R403). -/
def CmdRes.held (s : State) (owner : Nat) (index : Option Nat) : CmdRes :=
  .done s 6 (leBytes owner 2 ++ match index with
    | some i => leBytes i 2
    | none => [])

/-! ### Rows -/

/-- The address of a doorbell register of mailbox `m` (R387). -/
def bellReg (m off : Nat) : Nat := 0x10000800 + 0x20 * m + off

/-- MBX_DOORBELL (R387, R392). -/
def execMbxDoorbell (master dev m : Nat) (v : W32) (s : State) : Out :=
  ok (decide (m < 8)) 
    (s.regWrite (s.whoOn master dev) (bellReg m 0) 4 fun u => u.doorbell m dev master v)

/-- MBX_ABORT (R397): a write of 1. -/
def execMbxAbort (master dev m : Nat) (s : State) : Out :=
  ok (decide (m < 8)) 
    (s.regWrite (s.whoOn master dev) (bellReg m 8) 4 fun u => u.writeAbort m dev master 1)

/-- MBX_TAKE (R388). -/
def execMbxTake (by_ : AskBy) (dev m : Nat) (s : State) : Out :=
  let i := s.readerOf by_
  ok (decide (m < 8)) (s.regRead by_ dev (bellReg m 0x10) 4 fun u => u.readMbxTake m dev i.1 i.2.1 i.2.2)

/-- MBX_GIVE (R388): a write of 1. -/
def execMbxGive (master dev m : Nat) (s : State) : Out :=
  ok (decide (m < 8)) 
    (s.regWrite (s.whoOn master dev) (bellReg m 0x18) 4 fun u => u.writeGive m dev master 1)

/-- HOLDER_EXPIRY (R388): a holder has left the mailbox Idle or Complete for 1 s. -/
def execHolderExpiry (m : Nat) (s : State) : Out :=
  let v := s.mbx m
  let due := sharedMbx m && v.holder.isSome && !v.busy && s.fwRuns &&
    decide (v.lastAct + 200000000 ≤ s.now)
  let s1 := s.releaseMbx m
  ok (decide (m < 8)) (when_ due (s1.setMbx m { s1.mbx m with expired := true }) s)

/-- COMMAND_TAKE (R392, R393, R397): the firmware takes a queued command and checks it, or ends one whose
abort was requested.  In recovery only mailbox 2 is served. -/
def execCommandTake (m : Nat) (s : State) : Out :=
  let v := s.mbx m
  let due := v.busy && s.fwRuns && (!s.mgmt.recovery || m == 2)
  let s' :=
    match v.endAs with
    | some st => s.endCommand m st
    | none =>
      if v.st = 1 then
        let c := s.precheck m
        if c ≠ 0 then s.finishMbx m c [] else s.setMbx m { v with st := 2 }
      else s
  ok (decide (m < 8)) (when_ due s' s)

/-- DEADLINE_EXPIRY (R395, R397, R399, R364): the DEADLINE, or the 1 s of FABRIC_JOIN, has passed; the
command ends with TIMEOUT, or is to end so where the firmware is not up. -/
def execDeadlineExpiry (m : Nat) (s : State) : Out :=
  let v := s.mbx m
  let dl := v.head 8 4
  let join := s.fabric.joinBox == some m && decide (s.fabric.joinAt + 200000000 ≤ s.now)
  let due := v.busy && !v.aborting && v.abortable && (join || (dl != 0 && decide (dl ≤ s.usSince v.bellAt)))
  let s' := if s.fwRuns then s.endCommand m 8 else s.requestAbort m 8
  ok (decide (m < 8)) (when_ due s' s)

/-- HW_ABORTED (R398): 5 ms after the request the referee ends the command and restarts the management
processor. -/
def execHwAborted (m : Nat) (s : State) : Out :=
  let v := s.mbx m
  let due := v.busy && v.aborting && decide (v.abortAt + 1000000 ≤ s.now) && s.power.st == .run
  let s1 := s.endCommand m 0xB
  let s2 := { s1 with mgmt := { s1.mgmt with hwAborts := inc16 s1.mgmt.hwAborts } }
  ok (decide (m < 8)) (when_ due (s2.mgmtRestart false) s)

end Sys2Proof.Machine
end

