-- ==== Sys2Proof/Machine/CmdCore.lean ====
section
/-! DEFINITION. Mailbox commands of the identity, tile, pace, claim and window groups (R400 to R408, R43, R45,
R63, R137). -/

namespace Sys2Proof.Machine

/-! ### Identity and capabilities (R400 to R402) -/

/-- FW_VERSION of the firmware that runs; 0 in recovery (R401, R421). -/
def State.fwVersion (s : State) : Nat :=
  if s.mgmt.recovery then 0
  else if s.boot.factory.contains s.mgmt.bank then (Config.fwVersion s.mgmt.bank).toNat
  else s.boot.field s.mgmt.bank 8 4

/-- Bytes 8 to 31 of the identity record (R401). -/
def State.identity (s : State) : List Byte :=
  leBytes 1024 2 ++ [0xA1, 0x01] ++ leBytes s.device 2 ++ [0, 0] ++ leBytes Config.serial.toNat 8 ++
    leBytes s.fwVersion 4 ++ [BitVec.ofNat 8 s.mgmt.bank, BitVec.ofNat 8 (b2n s.mgmt.trial), 0, 0]

/-- The stage of R428. -/
def State.updateStage (s : State) : Nat :=
  let j := s.boot.journal
  if s.mgmt.trial then 3
  else if s.boot.verified then 2
  else if j.state = 1 then 1
  else if j.reverted then 4
  else 0

/-- The numbers that a capability record other than the identity record carries (R402, log 19). -/
def State.capCarries (s : State) (id : Nat) : List Nat :=
  let b := s.boot.bootRec
  match id with
  | 0x2 => [16, s.freeSpares.length, s.gates.retired.length]
  | 0x3 => [4, 64, 0x400000, (s.court 17).target]
  | 0x4 => (List.range 4).flatMap fun f => [b2n (s.feed f).up, b2n (s.feed f).fast]
  | 0x5 => (List.range 4).flatMap fun p => [b2n (s.port p).up, (s.port p).lanes]
  | 0x6 => 6 :: ((List.range 6).map fun i => (s.bank i).vio) ++ [96, 32, 8]
  | 0x7 => [s.time.mode, s.time.owner, s.time.syncTimeout]
  | 0x8 => [1, 2, 3, s.pace.capTenths]
  | 0x9 => [16, 16, 8]
  | 0xA => [3, 16, 32]
  | 0xB => [s.updateStage, s.boot.antiRoll, 4 - s.boot.revoked.length]
  | 0xC => [b2n s.boot.overlayOn]
  | _ => [b.stallTile, b.stallArray, b.stallResp, b.stallCross, s.gates.duplex.length, s.fabric.holdUs]

/-- Bytes of a record after its header: 0x000B begins with the update stage (R428, log 19). -/
def State.capBody (s : State) (id : Nat) : List Byte :=
  if id = 1 then s.identity
  else if id = 0xB then
    BitVec.ofNat 8 s.updateStage ::
      (List.range (4 * ((Config.capWords id).val - 1) + 3)).map fun i => Config.capField id (s.capCarries id) (i + 1)
  else (List.range (4 * (Config.capWords id).val)).map (Config.capField id (s.capCarries id))

/-- The records from ID `id` on, `n` more of them after it, the first at offset `o` of the block (R400). -/
def State.capFrom (s : State) (id o : Nat) : Nat → List Byte
  | 0 => capRec s id 0
  | n + 1 =>
    let next := o + 8 + (s.capBody id).length
    capRec s id next ++ s.capFrom (id + 1) next n
where
  /-- One record, with the offset of the next. -/
  capRec (s : State) (id next : Nat) : List Byte :=
    let b := s.capBody id
    leBytes id 2 ++ [1, BitVec.ofNat 8 ((8 + b.length) / 4)] ++ leBytes next 2 ++
      leBytes (b2n (id == 1 || Config.capVolatile id)) 2 ++ b

/-- The capability list: thirteen records in the order of their IDs (R400 to R402, log 19). -/
def State.capList (s : State) : List Byte := s.capFrom 1 0x40 12

/-- Byte `o` of the capability block; what lies before and after the list is zero (R10). -/
def State.capByte (s : State) (o : Nat) : Byte :=
  if o < 0x40 ∨ 0x800 ≤ o then 0 else (sliceB s.capList (o - 0x40) 1).headD 0

/-- Bytes of the capability block. -/
def State.capBytes (s : State) (a n : Nat) : List Byte := (List.range n).map fun i => s.capByte (a + i)

/-- GET_IDENTITY (R401). -/
def execGetIdentity (m : Nat) (s : State) : Out :=
  command s m 0x0001 anyP fun p => if p.length = 0 then .done s 0 s.identity else .no s 4

/-- GET_CAPABILITIES (R400): the rest of the block from the start offset. -/
def execGetCapabilities (m : Nat) (s : State) : Out :=
  command s m 0x0002 anyP fun p =>
    let o := leAt p 0 2
    if p.length ≠ 2 ∨ o % 8 ≠ 0 ∨ 2048 ≤ o then .no s 4
    else .done s 0 (s.capBytes o (2048 - o))

/-- ECHO (R403). -/
def execEcho (m : Nat) (s : State) : Out := command s m 0x0003 anyP fun p => .done s 0 p

/-- ABORT (R394, R397). -/
def execAbort (m : Nat) (s : State) : Out :=
  command s m 0x000F anyP fun p =>
    let n := leAt p 0 1
    if p.length ≠ 4 ∨ 8 ≤ n ∨ leAt p 1 1 ≠ 0 then .no s 4
    else if (m = 3 ∨ m = 4) ∧ !((n == 3 || n == 4) && (s.mbx n).holder == (s.mbx m).holder) then .no s 5
    else if (s.mbx n).busy && (s.mbx n).tag == leAt p 2 2 then .ok (s.requestAbort n 2)
    else .no s 10

/-! ### Tiles (R63, R403) -/

/-- The physical tiles that run logical tile `t`. -/
def State.copiesOf (s : State) (t : Nat) : List Nat :=
  match s.physOf t with
  | none => []
  | some p => p :: (match tfind? t s.gates.duplex with
    | some d => [d.partner]
    | none => [])

/-- A logical tile is started. -/
def State.started (s : State) (t : Nat) : Bool := (s.copiesOf t).any fun p => (s.tile p).run != .stopped

/-- Change the tiles that run logical tile `t`. -/
def State.mapCopies (s : State) (t : Nat) (f : Tile → Tile) : State :=
  (s.copiesOf t).foldl (fun u p => u.setTile p (f (u.tile p))) s

/-- Store the tile's memory as its persisted image (R412). -/
def State.persist (s : State) (t : Nat) : State :=
  match s.physOf t with
  | none => s
  | some p =>
    { s with boot := s.boot.persist t (s.tile p).mem }

/-- LOAD_TILE_IMAGE (R403, R412). -/
def execLoadTileImage (m : Nat) (s : State) : Out :=
  command s m 0x0101 anyP fun p =>
    let t := leAt p 0 2
    let n := leAt p 6 2
    let a : W16 := BitVec.ofNat 16 (leAt p 4 2)
    if p.length < 8 ∨ 1024 ≤ t ∨ 2 ≤ leAt p 2 1 ∨ leAt p 3 1 ≠ 0 ∨ n = 0 ∨ 4072 < n ∨ p.length ≠ 8 + n then
      .no s 4
    else if s.started t then .no s 10
    else
      let s1 := s.mapCopies t fun x => (x.storeBytes a (sliceB p 8 n)).freshen a n
      .ok (if leAt p 2 1 = 1 then s1.persist t else s1)

/-- First tile and count of START_TILE and STOP_TILE. -/
def tileRange (p : List Byte) : Option (Nat × Nat) :=
  let a := leAt p 0 2
  let n := leAt p 2 2
  if p.length ≠ 4 ∨ n = 0 ∨ 1024 < a + n then none else some (a, n)

/-- START_TILE (R63, R403). -/
def execStartTile (m : Nat) (s : State) : Out :=
  command s m 0x0102 anyP fun p =>
    match tileRange p with
    | none => .no s 4
    | some (a, n) =>
      let ts := ((List.range n).map (a + ·)).filter fun t => (s.physOf t).isSome && !s.started t
      .done (ts.foldl State.startLogical s) 0 (leBytes ts.length 2)

/-- Physical tile `p` stops with all of its state, where it may. -/
def State.stopAt (s : State) (p : Nat) : State :=
  let t := s.tile p
  if t.run == .running && !t.atBoundary then s else s.setTile p { t with run := .stopped }

/-- STOP_TILE (R63): each tile stops at its next instruction boundary with all of its state, which is not directly
after a load; the command runs until all have stopped, and answers how many it stopped. -/
def execStopTile (m : Nat) (s : State) : Out :=
  command s m 0x0103 anyP fun p =>
    match tileRange p with
    | none => .no s 4
    | some (a, n) =>
      let ts := ((List.range n).map (a + ·)).filter s.started
      let s1 := (ts.flatMap s.copiesOf).foldl State.stopAt s
      let left := (ts.filter s1.started).length
      let v := s1.mbx m
      let count := v.stops + (ts.length - left)
      if left = 0 then .done s1 0 (leBytes count 2) else .wait (s1.setMbx m { v with stops := count })

/-- Entries named by a mask, in ascending order, with their 16 micro-ops. -/
def entriesOf (mask : Nat) (p : List Byte) : List (Nat × List W24) :=
  let es := (List.range 16).filter fun e => bitAt mask e
  ((List.range es.length).zip es).map fun x =>
    (x.2, (List.range 16).map fun i => BitVec.ofNat 24 (leAt p (4 + 48 * x.1 + 3 * i) 3))

/-- LOAD_DECODE_TABLE (R137, R138). -/
def execLoadDecodeTable (m : Nat) (s : State) : Out :=
  command s m 0x0106 anyP fun p =>
    let t := leAt p 0 2
    let mask := leAt p 2 2
    let es := entriesOf mask p
    let bad := es.filter fun e => (checkEntry e.2).isNone
    if p.length < 4 ∨ 1024 ≤ t ∨ p.length ≠ 4 + 48 * es.length then .no s 4
    else if !bad.isEmpty then
      .done s 4 (leBytes ((bad.map fun e => 2 ^ e.1).foldl (· + ·) 0) 2)
    else
      let kept := es.foldl (fun k e => tput e.1 e.2 k) (tget [] t s.boot.keptEntries)
      let s1 := { s with boot := { s.boot with keptEntries := tput t kept s.boot.keptEntries } }
      .done (s1.mapCopies t fun x => es.foldl (fun y e => y.loadEntry e.1 e.2) x) 0 (leBytes mask 2)

/-! ### Pace (R43, R45) -/

/-- SET_PACE_TARGET (R43, R56): all targets and park settings, or none.  A mask that names courts and the engine
together is taken where the target lies in both ranges (log 109). -/
def execSetPaceTarget (m : Nat) (s : State) : Out :=
  command s m 0x0104 anyP fun p =>
    let mask := leAt p 0 4
    let target := leAt p 4 4
    let mv := leAt p 8 2
    let us := leAt p 10 4
    let courts := mask % 2 ^ 17 != 0
    let engine := bitAt mask 17
    if p.length ≠ 14 ∨ 2 ^ 18 ≤ mask ∨ (courts ∧ (target < 45000 ∨ 820000 < target)) ∨
        (engine ∧ (target < 100000 ∨ 800000 < target)) ∨ (mv ≠ 0xFFFF ∧ (mv < 400 ∨ 600 < mv)) ∨
        (us ≠ 0xFFFFFFFF ∧ 1000000 < us) then .no s 4
    else
      .ok <| ((List.range 18).filter fun c => bitAt mask c).foldl (fun u c =>
        let v := u.court c
        u.setCourt c { v with
          target := target, eff := target
          parkMv := if mv = 0xFFFF ∨ c = 17 then v.parkMv else mv
          parkUs := if us = 0xFFFFFFFF ∨ c = 17 then v.parkUs else us }) s

/-- SET_POWER_CAP (R45). -/
def execSetPowerCap (m : Nat) (s : State) : Out :=
  command s m 0x0105 anyP fun p =>
    let cap := leAt p 0 2
    let floor := leAt p 2 2
    if p.length ≠ 4 ∨ cap < 50 ∨ 450 < cap ∨ floor < 45 ∨ 600 < floor then .no s 4
    else .ok { s with pace := { s.pace with capTenths := cap, floorM := floor } }

/-! ### Claims (R408) -/

/-- Indices of a kind; 0 for no kind. -/
def kindRange (k : Nat) : Nat :=
  match k with
  | 1 => 96
  | 2 => 32
  | 3 => 8
  | 4 => 128
  | 5 => 2048
  | 6 => 512
  | 7 => 8
  | _ => 0

/-- Owner of a resource. -/
def State.resOwner (s : State) (kind i : Nat) : Nat :=
  match kind with
  | 1 => (s.pin i).owner
  | 2 => (s.timer i).owner
  | 3 => (s.ser i).owner
  | 4 => (s.chan i).owner
  | 5 => s.pool.ownerOf i
  | 6 => (s.src i).owner
  | _ => (s.alarm i).owner

/-- Give a resource to an owner. -/
def State.giveRes (s : State) (kind o i : Nat) : State :=
  match kind with
  | 1 => s.setPin i { s.pin i with owner := o }
  | 2 => s.setTimer i { s.timer i with owner := o }
  | 3 => s.setSer i { s.ser i with owner := o }
  | _ => s.setChan i { s.chan i with owner := o }

/-- Release a resource (R300, R408). -/
def State.freeRes (s : State) (kind i : Nat) : State :=
  match kind with
  | 1 => s.releasePin i
  | 2 => s.releaseTimer i
  | 3 => s.releaseSer i
  | _ => s.releaseChan i

/-- Kind, indices and owner of CLAIM and RELEASE, when in range. -/
def claimArgs (p : List Byte) (claim : Bool) : Option (Nat × List Nat × Nat) :=
  let k := leAt p 0 1
  let a := leAt p 2 2
  let n := leAt p 4 2
  let o := leAt p 6 2
  let who := decide (o < 0x400) || decide (0x401 ≤ o ∧ o ≤ 0x404)
  if p.length ≠ 8 ∨ k = 0 ∨ 4 < k ∨ leAt p 1 1 ≠ 0 ∨ n = 0 ∨ kindRange k < a + n ∨ (claim ∧ !who) then none
  else some (k, (List.range n).map (a + ·), o)

/-- CLAIM (R408). -/
def execClaim (m : Nat) (s : State) : Out :=
  command s m 0x0201 anyP fun p =>
    match claimArgs p true with
    | none => .no s 4
    | some (k, is, o) =>
      match is.find? fun i => s.resOwner k i != o && s.resOwner k i != 0x4FF with
      | some i => .held s (s.resOwner k i) (some i)
      | none => .ok (is.foldl (fun u i => u.giveRes k o i) s)

/-- RELEASE (R408): a free index is held by no one, so 0x4FF releases nothing. -/
def execRelease (m : Nat) (s : State) : Out :=
  command s m 0x0202 anyP fun p =>
    match claimArgs p false with
    | none => .no s 4
    | some (k, is, o) =>
      match is.find? fun i => s.resOwner k i != o || o == 0x4FF with
      | some i => .held s (s.resOwner k i) (some i)
      | none => .ok (is.foldl (fun u i => u.freeRes k i) s)

/-- QUERY_OWNER (R403, R408). -/
def execQueryOwner (m : Nat) (s : State) : Out :=
  command s m 0x0203 anyP fun p =>
    let k := leAt p 0 1
    let a := leAt p 2 2
    let n := leAt p 4 2
    if p.length ≠ 6 ∨ leAt p 1 1 ≠ 0 ∨ n = 0 ∨ 2040 < n ∨ kindRange k < a + n then .no s 4
    else .done s 0 ((List.range n).flatMap fun i => leBytes (s.resOwner k (a + i)) 2)

/-! ### Grant windows (R22, R23, R404, R405) -/

/-- Ranges of the unit map that a window may cover (R22, R23). -/
def windowRanges : List (Nat × Nat) :=
  [(0x00000000, 0x800000), (0x01000000, 0x400000), (0x10000000, 0x40000), (0x10050000, 0x70000),
   (0x10120000, 0x8000)]

/-- A size that R404 allows. -/
def windowSize (n : Nat) : Bool := (List.range 12).any fun k => n == 4096 * 2 ^ k

/-- A window reaches only what R405 allows its master.  R23's ranges are those of this device; a window of the host
into another device's unit space is not held against them here, since that device's firmware opens its own (R31,
R405, log 100).  DESIGN CHOICE: a window over unit addresses of no listed range is refused too, as nothing is there to be
reached, and neither R23 nor R405 names it (log 100). -/
def State.windowBase (s : State) (master dev base size : Nat) : Bool :=
  let space := base / 2 ^ 32 % 4
  let addr := base % 2 ^ 32
  let own := base / 2 ^ 34 == s.device
  if own && space == 1 then
    windowRanges.any (fun r => meets (addr, size) r) && !forbiddenRanges.any (fun r => meets (addr, size) r)
  else master == 0x401 && dev == s.device && decide (space < 2)

/-- The lowest free window number. -/
def State.freeWindow (s : State) : Option Nat :=
  (List.range 512).find? fun n => !s.mgmt.windows.any fun w => w.num == n

/-- GRANT_WINDOW, open (R404, R405).  An ACTION that is neither open nor close is refused here. -/
def execGrantWindowOpen (m : Nat) (s : State) : Out :=
  command s m 0x0204 (fun p => leAt p 0 1 != 2) fun p =>
    let master := leAt p 2 2
    let dev := leAt p 4 2
    let slot := leAt p 6 1
    let base := leAt p 8 6
    let size := leAt p 16 4
    let host := master == 0x401 && dev == s.device
    if p.length ≠ 22 ∨ leAt p 0 1 ≠ 1 ∨ 2 ≤ leAt p 1 1 ∨ leAt p 7 1 ≠ 0 ∨ leAt p 14 2 ≠ 0 ∨
        leAt p 20 2 ≠ 0 ∨ !(decide (master < 0x400) || master == 0x401) ∨ 2 ^ 14 ≤ dev ∨
        (dev ≠ s.device ∧ master ≠ 0x401) ∨ (host ∧ 32 ≤ slot) ∨ (!host ∧ slot ≠ 0xFF) ∨
        !windowSize size ∨ base % max 1 size ≠ 0 ∨ !s.windowBase master dev base size then .no s 4
    else if host ∧ s.mgmt.windows.any (fun w => w.slot == slot) then .no s 10
    else if master < 0x400 ∧ 8 ≤ (s.mgmt.windows.filter fun w => w.master == master).length then .no s 7
    else
      match s.freeWindow with
      | none => .no s 7
      | some n =>
        let w : Window :=
          { num := n, master := master, dev := dev, rw := leAt p 1 1 == 1, slot := slot, base := base
            size := size, closing := false }
        .done { s with mgmt := { s.mgmt with windows := s.mgmt.windows ++ [w] } } 0
          (leBytes n 2 ++ [BitVec.ofNat 8 slot, 0])

/-- A request in the network that a window has accepted: its master's, inside the window. -/
def State.windowUse (s : State) (w : Window) (r : Msg) : Bool :=
  let full := r.dev * 2 ^ 34 + r.space * 2 ^ 32 + r.addr
  s.actsFor (whoOf r) == w.master && r.srcDev == w.dev &&
    decide (w.base ≤ full) && decide (full < w.base + w.size)

/-- A split request at the hub that a window has accepted (R355). -/
def State.remoteUse (s : State) (w : Window) (x : RemoteReq) : Bool :=
  s.userOf x.srcId s.device x.tag == w.master && w.dev == s.device && decide (w.base ≤ x.full) &&
    decide (x.full < w.base + w.size)

/-- The request of channel `ch` that a tag names. -/
def Chan.openReq (c : Chan) (tag : Nat) : Option DmaReq :=
  match c.rd with
  | some u => if u.msg.tag = tag then some u else c.unacked.find? fun u => u.msg.tag == tag
  | none => c.unacked.find? fun u => u.msg.tag == tag

/-- The master and the system address of the request that a response on its way answers, as its requester holds it. -/
def State.answered (s : State) (r : Resp) : Option (Nat × Nat) :=
  if r.dstPhys < 1088 then
    ((s.tile r.dstPhys).sends.find? fun q => q.tag == r.tag).map fun q => (s.ownerOf r.dstPhys, q.target)
  else
    let m := if r.hub then none
      else if 0x410 ≤ r.dstId ∧ r.dstId < 0x420 then
        ((s.chan (8 * (r.dstId - 0x410) + r.tag % 8)).openReq r.tag).map (·.msg)
      else if r.dstId = 0x401 then (s.host.outs.find? fun q => q.msg.tag == r.tag).map (·.msg)
      else none
    m.map fun x => (s.actsFor (whoOf x), x.dev * 2 ^ 34 + x.space * 2 ^ 32 + x.addr)

/-- A response that answers a request which a window has accepted. -/
def State.replyUse (s : State) (w : Window) (r : Resp) : Bool :=
  (s.answered r).any fun e => e.1 == w.master && w.dev == s.device && decide (w.base ≤ e.2) &&
    decide (e.2 < w.base + w.size)

/-- The accesses that a window has accepted when its close begins: all of its master's that are on their way, in one
direction or the other (R28, log 101). -/
def State.acceptedBy (s : State) (w : Window) : List ReqKey :=
  (s.flight.filter (s.windowUse w)).map keyOf ++
    (s.fabric.remotes.filter (s.remoteUse w)).map (fun x => ⟨x.srcId, x.srcPhys, s.device, x.tag⟩) ++
    (s.replies.filter (s.replyUse w)).map fun r => ⟨r.dstId, r.dstPhys, s.device, r.tag⟩

/-- A request has not completed: it or its response is in the network, or the hub awaits its parts. -/
def State.inProgress (s : State) (k : ReqKey) : Bool :=
  s.flight.any (fun m => keyOf m == k) ||
    s.replies.any (fun r => r.dstId == k.srcId && r.dstPhys == k.srcPhys && r.tag == k.tag) ||
    s.fabric.remotes.any fun x => x.srcId == k.srcId && x.srcPhys == k.srcPhys && x.tag == k.tag

/-- GRANT_WINDOW, close (R28): OK only once every accepted access has completed; until then the window is
closing. -/
def execGrantWindowClose (m : Nat) (s : State) : Out :=
  command s m 0x0204 (fun p => leAt p 0 1 == 2) fun p =>
    let n := leAt p 20 2
    match s.mgmt.windows.find? fun w => w.num == n with
    | none => .no s 4
    | some w =>
      if p.length ≠ 22 ∨ leAt p 7 1 ≠ 0 ∨ leAt p 14 2 ≠ 0 then .no s 4
      else
        let now := if w.closing then w.accepted.filter s.inProgress else s.acceptedBy w
        if now.isEmpty then
          .done { s with mgmt := { s.mgmt with windows := s.mgmt.windows.filter fun x => x.num != n } } 0
            (leBytes w.num 2 ++ leBytes w.slot 1 ++ [0])
        else
          .wait { s with mgmt := { s.mgmt with windows := s.mgmt.windows.map fun x =>
            if x.num = n then { x with closing := true, accepted := now } else x } }

end Sys2Proof.Machine
end

