-- ==== Sys2Proof/Machine/CmdUpdate.lean ====
section
/-! DEFINITION. Update and calibration commands (R418, R422 to R428, R431, R432) and the rows of updates in the
background. -/

namespace Sys2Proof.Machine

/-! ### Update (R422 to R428) -/

/-- A change of the flash, fuses and update state. -/
def State.setBoot (s : State) (b : Boot) : State := { s with boot := b }

/-- Whether another mailbox owns the download (R396). -/
def State.updateBusy (s : State) (m : Nat) : Bool := s.mgmt.updateBox.any fun x => x != m

/-- The mailbox that owns the download. -/
def State.setUpdateBox (s : State) (b : Option Nat) : State := { s with mgmt := { s.mgmt with updateBox := b } }

/-- Erase sector `k` of bank `n`. -/
def Boot.eraseSector (b : Boot) (n k : Nat) : Boot :=
  let m := (b.bankMem n).filter fun e => decide (e.1 < k * 65536) || decide ((k + 1) * 65536 ≤ e.1)
  { b.setBank n m with factory := b.factory.filter (· != n), erased := b.erased ++ [k] }

/-- Sector marks set from bit 0 upward: bits programmed to 0. -/
def sectorsDone (marks : BitVec 64) : Nat → Nat → Nat
  | 0, k => k
  | fuel + 1, k => if marks.getLsbD k then k else sectorsDone marks fuel (k + 1)

/-- S of R422. -/
def Journal.resume (j : Journal) : Nat := sectorsDone j.sectorMarks 64 0

/-- Sector `k` is complete: its mark is programmed to 0 (R414, R423). -/
def Journal.sectorDone (j : Journal) (k : Nat) : Journal :=
  { j with sectorMarks := j.sectorMarks &&& ~~~(BitVec.twoPow 64 k) }

/-- A fresh record, whose marks all read 0xFF. -/
def newRecord (state active len : Nat) : Journal := { state := state, active := active, imageLen := len }

/-- Chunks of an image. -/
def chunksOf (len : Nat) : Nat := (len + 2047) / 2048

/-- Fuses that R418 blows before a download: the new counter and the new revoked slots. -/
def Boot.fuses (b : Boot) : Nat × List Nat :=
  let n := b.journal.active
  (max b.antiRoll (min 63 (b.rollbackOf n)),
   (List.range 4).filter fun i => bitAt (b.revokeOf n) i && !b.revoked.contains i)

/-- A fuse needs blowing. -/
def Boot.needsFuses (b : Boot) : Bool := b.fuses.1 != b.antiRoll || !b.fuses.2.isEmpty

/-- The fuses of R418 blown. -/
def Boot.blow (b : Boot) : Boot := { b with antiRoll := b.fuses.1, revoked := b.revoked ++ b.fuses.2 }

/-- UPDATE_BEGIN (R418, R422); `fuseOk` says whether the fuses program. -/
def execUpdateBegin (m : Nat) (fuseOk : Bool) (s : State) : Out :=
  command s m 0x0301 anyP fun p =>
    let len := leAt p 4 4
    let resume := leAt p 1 1 == 1
    let b := s.boot
    let j := b.journal
    if p.length ≠ 8 ∨ leAt p 0 1 ≠ 0 ∨ 2 ≤ leAt p 1 1 ∨ leAt p 2 2 ≠ 0 ∨ len < 0x10000 ∨ 0x400000 < len then
      .no s 4
    else if s.updateBusy m then .no s 1
    else if s.mgmt.trial then .no s 10
    else if resume ∧ j.state ≠ 1 then .no s 10
    else if resume ∧ j.imageLen ≠ len then .no s 4
    else if b.needsFuses && !fuseOk then .no s 7
    else
      let b1 := b.blow
      let b2 := if resume then b1 else b1.writeJournal (newRecord 1 j.active len)
      let k := if resume then j.resume else 0
      let b3 := { b2 with erased := [] }.eraseSector (1 - j.active) k
      .ok ((s.setBoot { b3 with acked := 32 * k, verified := false }).setUpdateBox (some m))

/-- UPDATE_CHUNK (R423): in order, into an erased sector; it waits for the erase within its bound. -/
def execUpdateChunk (m : Nat) (s : State) : Out :=
  command s m 0x0302 anyP fun p =>
    let k := leAt p 0 4
    let n := leAt p 4 2
    let b := s.boot
    let j := b.journal
    let total := chunksOf j.imageLen
    let want := if k + 1 = total then j.imageLen - 2048 * k else 2048
    if p.length < 8 ∨ n = 0 ∨ 2048 < n ∨ leAt p 6 2 ≠ 0 ∨ p.length ≠ 8 + n then .no s 4
    else if s.updateBusy m then .no s 1
    else if s.mgmt.updateBox.isNone ∨ j.state ≠ 1 then .no s 10
    else if k ≠ b.acked ∨ total ≤ k ∨ n ≠ want then .no s 4
    else if !b.erased.contains (k / 32) then
      if 20000 ≤ s.usSince (s.mbx m).bellAt then .no s 1 else .wait s
    else
      let old := memRead 0xFF (b.bankMem (1 - j.active)) (2048 * k) n
      let data := (old.zip (sliceB p 8 n)).map fun e => e.1 &&& e.2
      let b1 := b.setBank (1 - j.active) (memWrite 0xFF (b.bankMem (1 - j.active)) (2048 * k) data)
      let b2 := { b1 with acked := k + 1, verified := false }
      let last := k % 32 == 31 || k + 1 == total
      .ok (s.setBoot (if last then b2.markRuling fun x => x.sectorDone (k / 32) else b2))

/-- UPDATE_VERIFY (R424). -/
def execUpdateVerify (m : Nat) (s : State) : Out :=
  command s m 0x0303 anyP fun p =>
    let b := s.boot
    let j := b.journal
    if p.length ≠ 0 then .no s 4
    else if s.updateBusy m then .no s 1
    else if j.state ≠ 1 ∨ b.acked < chunksOf j.imageLen then .no s 10
    else if b.verify (1 - j.active) (some j.imageLen) then .ok (s.setBoot { b with verified := true })
    else
      let b1 := b.writeJournal (newRecord 1 j.active j.imageLen)
      .no (s.setBoot { b1 with acked := 0, erased := [], verified := false }) 9

/-- UPDATE_ACTIVATE (R425): the ACTIVATING record, the response, then a management restart. -/
def execUpdateActivate (m : Nat) (s : State) : Out :=
  command s m 0x0304 anyP fun p =>
    let b := s.boot
    let j := b.journal
    if p.length ≠ 0 then .no s 4
    else if s.updateBusy m then .no s 1
    else if !b.verified then .no s 10
    else .after (s.setBoot (b.writeJournal (newRecord 2 j.active j.imageLen))) fun u => u.mgmtRestart false

/-- The confirm mark: the trial is over. -/
def State.confirmTrial (s : State) : State :=
  let s1 := s.setBoot (s.boot.markRuling fun j => { j with confirmMark := 0 })
  { s1 with mgmt := { s1.mgmt with trial := false } }

/-- UPDATE_CONFIRM (R426). -/
def execUpdateConfirm (m : Nat) (s : State) : Out :=
  command s m 0x0305 anyP fun p =>
    if p.length ≠ 0 then .no s 4
    else if s.updateBusy m then .no s 1
    else if s.mgmt.trial && s.boot.trialPassed then .ok s.confirmTrial
    else .no s 10

/-- UPDATE_STATUS (R428). -/
def execUpdateStatus (m : Nat) (s : State) : Out :=
  command s m 0x0306 anyP fun p =>
    let r := s.boot.ruling
    if p.length ≠ 0 then .no s 4
    else if s.updateBusy m then .no s 1
    else .done s 0 (leBytes s.updateStage 1 ++ leBytes ((r.map fun j => j.trials).getD 0) 1 ++
      leBytes s.boot.acked 2 ++ leBytes ((r.map fun j => j.imageLen).getD 0) 4 ++
      leBytes ((r.map fun j => j.seq).getD 0) 4)

/-- UPDATE_CANCEL (R427). -/
def execUpdateCancel (m : Nat) (s : State) : Out :=
  command s m 0x0307 anyP fun p =>
    let b := s.boot
    let j := b.journal
    if p.length ≠ 0 then .no s 4
    else if s.updateBusy m then .no s 1
    else if s.mgmt.trial then
      .after (s.setBoot (b.markRuling fun x => { x with revertMark := 0 })) fun u => u.mgmtRestart false
    else if j.state = 1 then
      .ok ((s.setBoot { b.writeJournal (newRecord 0 j.active 0) with
        acked := 0, erased := [], verified := false }).setUpdateBox none)
    else .no s 10

/-- BACKGROUND_ERASE (R422): the next sector of the inactive bank ahead of the chunks. -/
def execBackgroundErase (s : State) : Out :=
  let b := s.boot
  let j := b.journal
  let k := (b.erased.map (· + 1)).foldl max 0
  let due := j.state == 1 && s.mgmt.updateBox.isSome && s.fwRuns && decide (k * 65536 < j.imageLen)
  ok true (when_ due (s.setBoot (b.eraseSector (1 - j.active) k)) s)

/-- TRIAL_SELF_TEST (R426): a failed test reverts; a pass confirms, or lets UPDATE_CONFIRM do so. -/
def execTrialSelfTest (pass : Bool) (s : State) : Out :=
  let s' :=
    if !pass then
      (s.setBoot (s.boot.markRuling fun j => { j with revertMark := 0 })).mgmtRestart false
    else if s.boot.bootRec.hostConfirm then s.setBoot { s.boot with trialPassed := true }
    else s.confirmTrial
  ok true (when_ (s.mgmt.trial && s.fwRuns && !s.boot.trialPassed) s' s)

/-! ### Calibration (R431, R432) -/

/-- Values and bound of a calibration item (R431). -/
def calItem (i : Nat) : Option (Nat × Nat) :=
  match i with
  | 1 => some (21, 50)
  | 2 => some (70, 200)
  | 3 => some (18, 20)
  | 4 => some (36, 8)
  | 5 => some (2, 500)
  | 6 => some (6, 16)
  | _ => none

/-- Whether another mailbox owns the staged calibration (R396). -/
def State.calBusy (s : State) (m : Nat) : Bool := s.mgmt.calBox.any fun x => x != m

/-- The mailbox that owns the staged calibration. -/
def State.setCalBox (s : State) (b : Option Nat) : State := { s with mgmt := { s.mgmt with calBox := b } }

/-- CAL_READ_FACTORY (R431). -/
def execCalReadFactory (m : Nat) (s : State) : Out :=
  command s m 0x0401 anyP fun p =>
    let i := leAt p 0 2
    match calItem i with
    | none => .no s 4
    | some (n, _) =>
      if p.length ≠ 2 then .no s 4
      else if s.calBusy m then .no s 1
      else .done s 0 ((List.range n).flatMap fun k => leBytes (Config.factoryCal i k).toNat 2)

/-- CAL_WRITE_USER (R431, R432). -/
def execCalWriteUser (m : Nat) (s : State) : Out :=
  command s m 0x0402 anyP fun p =>
    let i := leAt p 0 2
    let n := leAt p 2 2
    match calItem i with
    | none => .no s 4
    | some (k, bound) =>
      let ds := (List.range n).map fun x => sint 16 (leAt p (4 + 2 * x) 2)
      if p.length ≠ 4 + 2 * n ∨ n ≠ k ∨ ds.any (fun d => decide (d.natAbs > bound)) then .no s 4
      else if s.calBusy m then .no s 1
      else .ok ((s.setBoot { s.boot with
        staged := some (tput i ds (s.boot.staged.getD s.boot.inForce)) }).setCalBox (some m))

/-- CAL_APPLY (R432): the overlay is active; the units take it at the next loop-period boundary. -/
def execCalApply (m : Nat) (s : State) : Out :=
  command s m 0x0403 anyP fun p =>
    let b := s.boot
    if p.length ≠ 0 then .no s 4
    else if s.calBusy m then .no s 1
    else .ok ((s.setBoot { b with
      overlay := b.staged.getD b.inForce, overlayOn := true, staged := none
      recordDue := some s.now }).setCalBox none)

/-- CAL_REVERT (R432). -/
def execCalRevert (m : Nat) (s : State) : Out :=
  command s m 0x0404 anyP fun p =>
    if p.length ≠ 0 then .no s 4
    else if s.calBusy m then .no s 1
    else .ok ((s.setBoot { s.boot with
      overlay := [], overlayOn := false, eff := [], staged := none, recordDue := some s.now }).setCalBox none)

/-- CAL_RECORD_WRITE (R411, R432): the record that is due is written. -/
def execCalRecordWrite (s : State) : Out :=
  let b := s.boot
  let due := b.recordDue.isSome && s.fwRuns
  let r := b.put b.cal0 b.cal1 (if b.overlayOn then some b.overlay else none)
  ok true (when_ due
    (s.setBoot { b with cal0 := r.1, cal1 := r.2, recordDue := none }) s)

end Sys2Proof.Machine
end

