-- ==== Sys2Proof/Machine/CmdFault.lean ====
section
/-! DEFINITION. Fault and time commands (R324 to R338, R277, R278). -/

namespace Sys2Proof.Machine

/-! ### Faults -/

/-- A fault-log record (R324). -/
def FaultRec.bytes (r : FaultRec) : List Byte :=
  let b := leBytes r.ns 4 ++ leBytes r.sec 6 ++ leBytes (b2n r.deferred * 2 + b2n r.unknown) 1 ++
    leBytes r.source 1 ++ leBytes r.unit 2 ++ leBytes r.logical 2 ++ leBytes r.oldCap 1 ++
    leBytes r.newCap 1 ++ leBytes r.action 1 ++ [0] ++ leBytes r.arg 4 ++ leBytes r.seq 4 ++ [0, 0]
  b ++ leBytes (crc16 b).toNat 2

/-- FAULT_LOG_READ (R324): records from a sequence number on, oldest first. -/
def execFaultLogRead (m : Nat) (s : State) : Out :=
  command s m 0x0501 anyP fun p =>
    let n := leAt p 4 1
    if p.length ≠ 5 ∨ n = 0 ∨ 127 < n then .no s 4
    else
      let rs := (s.aon.log.filter fun r => decide ((r.seq + 2 ^ 32 - leAt p 0 4) % 2 ^ 32 < 2 ^ 31)).take n
      .done s 0 (rs.flatMap FaultRec.bytes)

/-- SUBSTITUTE_TILE (R325, R331): a duplex tile is promoted; `copyBad` as in the row of a substitution. -/
def execSubstituteTile (m : Nat) (copyBad : Bool) (s : State) : Out :=
  command s m 0x0502 anyP fun p =>
    let t := leAt p 0 2
    let q := leAt p 2 2
    if p.length ≠ 4 then .no s 4
    else if 0x8000 ≤ t then
      if 0x8010 ≤ t then .no s 4
      else if s.benchFree then .done (s.moveCourt (t - 0x8000)) 0 (leBytes 1024 2)
      else .no s 7
    else if 1024 ≤ t ∨ (1088 ≤ q ∧ q ≠ 0xFFFF) then .no s 4
    else
      match tfind? t s.gates.duplex with
      | some d => .done (s.promote t d) 0 (leBytes d.partner 2)
      | none =>
        if (s.physOf t).isNone then .no s 10
        else
          match if q = 0xFFFF then s.freeSpares.head? else (if s.isFreeSpare q then some q else none) with
          | none => .no s 7
          | some r => .done (s.substitute t r copyBad) 0 (leBytes r 2)

/-- A tile that passed its self-test joins the bench (R330). -/
def State.readmit (s : State) (p : Nat) : State :=
  let g := s.gates
  let s1 := s.setTile p {}
  { s1 with
    gates := { g with fenced := g.fenced.filter (· != p) }
    faults := { s.faults with deadPorts := s.faults.deadPorts.filter (· != p) } }.report 25 p 0xFFFF 11 0

/-- A tile is retired, and the flash fault area written (R330, R411); a free spare that is leaves one fewer (R332). -/
def State.retire (s : State) (p : Nat) : State :=
  let out (u : State) : State :=
    let s1 := u.fence p
    let g := s1.gates
    let l := if g.retired.contains p then g.retired else g.retired ++ [p]
    { s1 with gates := { g with retired := l }, boot := s1.boot.writeRetired l }
  (s.withBench out).report 25 p 0xFFFF 12 0

/-- READMIT_TILE (R329, R330); `pass` is the self-test's result. -/
def execReadmitTile (m : Nat) (pass : Bool) (s : State) : Out :=
  command s m 0x0503 anyP fun p =>
    let q := leAt p 0 2
    if p.length ≠ 2 ∨ 1088 ≤ q then .no s 4
    else if (s.logicalOf q).isSome || (s.duplexOf q).isSome then .no s 10
    else if pass && decide (tget 0 q s.gates.offCount < 3) && !s.gates.retired.contains q then
      .done (s.readmit q) 0 [0]
    else .done (s.retire q) 0 [1]

/-- End a pair: the partner stops and is free again (R333). -/
def State.unpair (s : State) (t : Nat) (d : Duplex) : State :=
  let s1 := s.setTile d.partner ((s.tile d.partner).cold s.now)
  { s1 with gates := { s1.gates with duplex := tdel t s1.gates.duplex } }

/-- The logical tile `u` is retired: mapped to no tile (R333). -/
def State.retireLogical (s : State) (u : Nat) : State :=
  match s.physOf u with
  | none => s
  | some q =>
    let s1 := s.dropTask u
    let g := s1.gates
    { s1 with gates := { g with map := tput u none g.map, serves := tput q none g.serves } }

/-- SET_DUPLEX (R333): the command runs until the primary is at an instruction boundary. -/
def execSetDuplex (m : Nat) (s : State) : Out :=
  command s m 0x0504 anyP fun p =>
    let t := leAt p 0 2
    let q := leAt p 2 2
    let auto := bitAt (leAt p 4 1) 0
    let pair (prep : State → State) (r : Nat) : CmdRes :=
      if s.mayPair t then .done (s.withBench fun v => (prep v).pair t r auto) 0 (leBytes r 2) else .wait s
    if p.length ≠ 5 ∨ 1024 ≤ t ∨ 4 ≤ leAt p 4 1 then .no s 4
    else if bitAt (leAt p 4 1) 1 then
      match tfind? t s.gates.duplex with
      | some d => .done (s.unpair t d) 0 (leBytes d.partner 2)
      | none => .no s 10
    else if (tfind? t s.gates.duplex).isSome || (s.physOf t).isNone then .no s 10
    else if q = 0xFFFF then
      match s.freeSpares.head? with
      | some r => pair id r
      | none => .no s 7
    else if 0x8000 ≤ q then
      let u := q - 0x8000
      if 1024 ≤ u ∨ u = t then .no s 4
      else if (tfind? u s.gates.duplex).isSome then .no s 10
      else match s.physOf u with
        | some r => pair (fun v => v.retireLogical u) r
        | none => .no s 10
    else if 1088 ≤ q then .no s 4
    else if s.isFreeSpare q then pair id q
    else .no s 7

/-- SEND_OFF (R322, R325): a physical tile, or after the response the device. -/
def execSendOff (m : Nat) (s : State) : Out :=
  command s m 0x0505 anyP fun p =>
    let q := leAt p 0 2
    if p.length ≠ 2 ∨ (1088 ≤ q ∧ q ≠ 0xFFFF) then .no s 4
    else if q = 0xFFFF then .after s fun u => u.selfSendOff 9
    else .ok (s.tileFails q)

/-! ### Time (R276 to R278) -/

/-- TIME_SET (R278). -/
def execTimeSet (m : Nat) (s : State) : Out :=
  command s m 0x0601 anyP fun p =>
    let code := leAt p 0 1
    let ns := leAt p 4 4
    let c : Commit := ⟨code == 1, leAt p 8 6, ns⟩
    if p.length ≠ 14 ∨ leAt p 1 3 ≠ 0 ∨ (code ≠ 1 ∧ code ≠ 3) ∨ 999999999 < ns then .no s 4
    else if s.time.mode ≠ 0 then .no s 10
    else
      let s1 := { s with time := { s.time with newNs := ns, newSec := leAt p 8 6 } }
      match commitTime c s.advanced with
      | none => .no s1.timeBad 4
      | some _ => .ok { s1 with time := { s1.time with commit := some c } }

/-- TIME_ADJUST, rate (R278); an operation that is neither is refused here. -/
def execTimeAdjustRate (m : Nat) (s : State) : Out :=
  command s m 0x0602 (fun p => leAt p 0 1 != 1) fun p =>
    let r := sint 32 (leAt p 4 4)
    if p.length ≠ 16 ∨ leAt p 0 1 ≠ 0 ∨ leAt p 1 3 ≠ 0 ∨ r < -500000000 ∨ 500000000 < r then .no s 4
    else if s.time.mode ≠ 0 then .no s 10
    else .ok { s with time := { s.time with newRate := some r } }

/-- TIME_ADJUST, slew (R278). -/
def execTimeAdjustSlew (m : Nat) (s : State) : Out :=
  command s m 0x0602 (fun p => leAt p 0 1 == 1) fun p =>
    if p.length ≠ 16 ∨ leAt p 1 3 ≠ 0 then .no s 4
    else if s.time.mode ≠ 0 then .no s 10
    else .ok (s.startSlew (sint 64 (leAt p 8 8)))

/-- TIME_SYNC_MODE (R277, R288). -/
def execTimeSyncMode (m : Nat) (s : State) : Out :=
  command s m 0x0603 anyP fun p =>
    let mode := leAt p 0 1
    let port := leAt p 1 1
    let owner := leAt p 2 2
    let to_ := leAt p 4 1
    if p.length ≠ 6 ∨ 3 ≤ mode ∨ (mode = 1 ∧ 4 ≤ port) ∨ (mode = 0 ∧ !inOwnerTable owner) ∨ to_ = 0 ∨
        60 < to_ ∨ 4 ≤ leAt p 5 1 then .no s 4
    else .ok { s with time := { s.time with
      mode := mode, owner := if mode = 0 then owner else 0x400, syncTimeout := to_
      ptpPort := port, ptpOpts := leAt p 5 1, lastSync := s.now } }

end Sys2Proof.Machine
end

