-- ==== Sys2Proof/Machine/CmdEngine.lean ====
section
/-! DEFINITION. Model, stream and feed-rule commands (R204, R231, R232, R235, R236, R456), the fabric commands
(R360, R364, R377) and the log and counter reads (R403, R463). -/

namespace Sys2Proof.Machine

/-! ### Models (R231, R232) -/

/-- Whether another mailbox owns the away-bank writes (R396). -/
def State.modelBusy (s : State) (m : Nat) : Bool := s.mgmt.modelBox.any fun x => x != m

/-- The mailbox that owns the away-bank writes. -/
def State.setModelBox (s : State) (b : Option Nat) : State := { s with mgmt := { s.mgmt with modelBox := b } }

/-- A MODEL_LOAD that is refused leaves ENG_AWAY.VALID at 0 (R231). -/
def State.noModel (s : State) (code : Nat) : CmdRes := .no (s.setEngine { s.engine with awayValid := false }) code

/-- MODEL_LOAD with DATA = 1 (R231, R396); a byte 0 that is neither 0 nor 1 is refused here. -/
def execModelLoad (m : Nat) (s : State) : Out :=
  command s m 0x0801 (fun p => leAt p 0 1 != 0) fun p =>
    let off := leAt p 4 4
    if p.length < 9 ∨ leAt p 0 1 ≠ 1 ∨ leAt p 1 3 ≠ 0 ∨ bankSize < off + (p.length - 8) then
      s.noModel 4
    else if s.modelBusy m then s.noModel 1
    else if s.engine.switching then s.noModel 10
    else .ok (((s.writeModel (s.engine.awayBank * bankSize + off) (p.drop 8)).1).setModelBox (some m))

/-- MODEL_LOAD with DATA = 0 validates the away bank (R231). -/
def execModelLoadValidate (m : Nat) (s : State) : Out :=
  command s m 0x0801 (fun p => leAt p 0 1 == 0) fun p =>
    let x := s.model s.engine.awayBank
    let s1 := { s with free := s.free + bankSize }.setModelBox none
    let r := x.validate
    if p.length ≠ 8 ∨ leAt p 1 3 ≠ 0 ∨ bankSize ≤ leAt p 4 4 then s.noModel 4
    else if s.modelBusy m then s.noModel 1
    else if s.engine.switching then s.noModel 10
    else if r = 0 then
      .ok (s1.setEngine { s1.engine with awayValid := true, awayId := x.num 6 2 })
    else s1.noModel (if r = 1 then 9 else 4)

/-- MODEL_SWITCH (R232): the switch line of each Armed or Running stream. -/
def execModelSwitch (m : Nat) (s : State) : Out :=
  command s m 0x0802 anyP fun p =>
    if p.length ≠ 16 then .no s 4
    else if s.modelBusy m then .no s 1
    else if !s.engine.awayValid || s.engine.switching then .no s 10
    else
      let s1 := (List.range 4).foldl (fun u k =>
        let v := u.stream k
        u.setStream k { v with
          switched := false
          switchAt := if v.st = .running then some (leAt p (4 * k) 4)
            else if v.st = .armed then some 0xFFFFFFFF else none }) s
      .ok (s1.setEngine { s1.engine with switching := true }).tryExchange

/-! ### Streams (R204, R235, R236) -/

/-- Steps of a line of stream `k` with the home model (R235). -/
def State.lineSteps (s : State) (k : Nat) (par : StreamParams) : Nat :=
  let has := s.engine.homeValid && (s.model s.engine.homeBank).sect k != 0
  let rules := if has then (s.sectionIn s.engine.homeBank k).nrules else 0
  128 + par.pixels * max (max ((par.bands + 3) / 4) ((rules + 7) / 8)) 1

/-- The demand of R235 with stream `k` enabled under `par`. -/
def State.demand (s : State) (k : Nat) (par : StreamParams) : Nat :=
  ((List.range 4).map fun j =>
    if j = k then par.lineRate * s.lineSteps k par
    else
      let v := s.stream j
      if v.st = .off then 0 else v.par.lineRate * s.lineSteps j v.par).foldl (· + ·) 0

/-- The demand exceeds the engine's set target. -/
def State.tooMuch (s : State) (k : Nat) (par : StreamParams) : Bool :=
  decide ((s.court 17).target * 1000 < s.demand k par)

/-- Quotas of the configured streams with stream `k` under `par`. -/
def State.quotas (s : State) (k : Nat) (par : StreamParams) : Nat :=
  ((List.range 4).map fun j =>
    let v := s.stream j
    if j = k then par.itemQuota else if v.configured then v.par.itemQuota else 0).foldl (· + ·) 0

/-- The parameters of a configure payload. -/
def parseStream (p : List Byte) : StreamParams :=
  let f := leAt p 6 1
  { pixels := leAt p 2 2, bands := leAt p 4 2, bil := bitAt f 0, pixOff := bitAt f 1, left := bitAt f 2
    little := bitAt f 3, container := leAt p 7 1, bits := leAt p 8 1, lineWidth := leAt p 9 1
    window := leAt p 10 1, lineTimeout := leAt p 12 2, maxSpan := leAt p 14 2, itemQuota := leAt p 16 2
    itemQ := leAt p 18 2, histQ := leAt p 20 2, statusQ := leAt p 22 2, flushUs := leAt p 24 4
    lineRate := leAt p 28 4 }

/-- A record queue. -/
def recordQueue (q : Nat) : Bool := decide (272 ≤ q ∧ q ≤ 303)

/-- Parameters in the ranges of R204. -/
def StreamParams.inRange (x : StreamParams) : Bool :=
  decide (1 ≤ x.pixels ∧ x.pixels ≤ 4096) && decide (1 ≤ x.bands ∧ x.bands ≤ 256) &&
    !(x.bil && x.pixOff) && decide (1 ≤ x.container ∧ x.container ≤ 2) &&
    decide (8 ≤ x.bits ∧ x.bits ≤ 8 * x.container) && [8, 16, 32].contains x.lineWidth &&
    decide (1 ≤ x.window ∧ x.window ≤ 8) && decide (10 ≤ x.lineTimeout) && decide (1 ≤ x.maxSpan) &&
    decide (1 ≤ x.itemQuota ∧ x.itemQuota ≤ 256) && recordQueue x.itemQ && recordQueue x.histQ &&
    recordQueue x.statusQ && decide (x.flushUs ≤ 1000000) &&
    decide (1 ≤ x.lineRate ∧ x.lineRate ≤ 200000)

/-- STREAM_CONFIGURE, configure (R204); an action that is none of the four is refused here. -/
def execStreamConfigure (m : Nat) (s : State) : Out :=
  command s m 0x0803 (fun p => leAt p 1 1 == 0 || decide (3 < leAt p 1 1)) fun p =>
    let k := leAt p 0 1
    let x := parseStream p
    if p.length ≠ 32 ∨ 4 ≤ k ∨ leAt p 1 1 ≠ 0 ∨ 16 ≤ leAt p 6 1 ∨ leAt p 11 1 ≠ 0 ∨ !x.inRange then .no s 4
    else if (s.stream k).st ≠ .off then .no s 10
    else if 256 < s.quotas k x || s.tooMuch k x then .no s 7
    else .ok (s.setStream k { s.stream k with par := x, configured := true })

/-- STREAM_CONFIGURE, enable (R204). -/
def execStreamEnable (m : Nat) (s : State) : Out :=
  command s m 0x0803 (fun p => leAt p 1 1 == 1) fun p =>
    let k := leAt p 0 1
    if p.length ≠ 2 ∨ 4 ≤ k then .no s 4
    else
      let r := s.enableStream k
      if !r.2 then .no s 10
      else if s.tooMuch k (s.stream k).par then .no s 7
      else .ok r.1

/-- STREAM_CONFIGURE, stop (R236): the stream drains, and the command completes once it is Off.  A halted engine begins
it when it goes on (R237). -/
def execStreamStop (m : Nat) (s : State) : Out :=
  command s m 0x0803 (fun p => leAt p 1 1 == 2) fun p =>
    let k := leAt p 0 1
    let v := s.stream k
    if p.length ≠ 2 ∨ 4 ≤ k then .no s 4
    else if v.st = .off then .ok s
    else if v.st = .draining ∨ s.engine.halted then .wait s
    else .wait (s.stopStream k)

/-- A rule of R456. -/
def parseRule (p : List Byte) : Rule :=
  { dest := leAt p 2 1, stream := leAt p 3 1, queue := leAt p 4 2, lineOff := leAt p 6 1
    offOff := leAt p 7 1, idOff := leAt p 8 1, little := bitAt (leAt p 9 1) 0, off32 := bitAt (leAt p 9 1) 1
    payOff := leAt p 10 2, templ := sliceB p 16 64, mask := sliceB p 80 64 }

/-- A rule in range (R456). -/
def ruleOk (p : List Byte) : Bool :=
  let r := parseRule p
  let extract := decide (r.lineOff ≤ 60) && decide (r.offOff ≤ 62) &&
    (decide (r.idOff ≤ 63) || r.idOff == 0xFF) && decide (leAt p 9 1 < 4) &&
    decide (14 ≤ r.payOff ∧ r.payOff ≤ 2027)
  p.length == 144 && decide (leAt p 0 1 < 64) && decide (r.dest ≤ 2) &&
    (if r.dest = 1 ∧ r.idOff = 0xFF then decide (r.stream ≤ 3) else r.stream == 0) &&
    (if r.dest = 2 then decide (r.queue ≤ 255) else r.queue == 0) && (r.dest == 0 || extract) &&
    leAt p 12 4 == 0 && (r.templ.zip r.mask).all fun e => e.1 &&& ~~~ e.2 == 0

/-- STREAM_CONFIGURE, load a feed-port rule (R456, R460). -/
def execFeedRuleLoad (m : Nat) (s : State) : Out :=
  command s m 0x0803 (fun p => leAt p 1 1 == 3) fun p =>
    let f := leAt p 0 1 / 16
    if !ruleOk p then .no s 4
    else
      let v := s.feed f
      .ok (s.setFeed f { v with rules := tput (leAt p 0 1 % 16) (parseRule p) v.rules })

/-! ### Fabric (R360, R364, R377) -/

/-- Members of a bitmap. -/
def membersOf (p : List Byte) : List Nat :=
  (List.range 16384).filter fun d => bitAt (leAt p (20 + d / 8) 1) (d % 8)

/-- Standby entry `i`. -/
def standbyAt (p : List Byte) (i : Nat) : Standby :=
  let o := 2068 + 20 * i
  { member := leAt p o 2, courts := (List.range 16).map fun c => leAt p (o + 2 + c) 1
    streams := leAt p (o + 18) 1 }

/-- A standby entry in range. -/
def standbyOk (p : List Byte) (i : Nat) : Bool :=
  let e := standbyAt p i
  decide (e.member < 16384) && e.courts.all (fun c => decide (c < 16) || c == 0xFF) &&
    decide (e.streams < 16) && leAt p (2068 + 20 * i + 19) 1 == 0

/-- Parameters of FABRIC_JOIN in range (R364). -/
def State.joinOk (s : State) (p : List Byte) : Bool :=
  let nx := leAt p 4 1
  let ny := leAt p 5 1
  let w := leAt p 6 1
  let sp := leAt p 8 4
  let hold := leAt p 12 4
  let k := leAt p 16 2
  decide (k ≤ 100) && p.length == 2068 + 20 * k && leAt p 0 4 != 0 && decide (1 ≤ nx ∧ nx ≤ 128) &&
    decide (1 ≤ ny ∧ ny ≤ 128) && decide (w < 4) && (!bitAt w 0 || decide (3 ≤ nx)) &&
    (!bitAt w 1 || decide (3 ≤ ny)) && leAt p 7 1 == 0 && decide (250 ≤ sp ∧ sp ≤ 10000) &&
    decide (1000 ≤ hold ∧ hold ≤ 100000) && decide (4 * sp + 500 ≤ hold) && leAt p 18 2 == 0 &&
    decide (2 ≤ (membersOf p).length) && (membersOf p).contains s.device &&
    decide (s.device % 128 < nx) && decide (s.device / 128 < ny) && (List.range k).all (standbyOk p)

/-- The fabric after a join. -/
def State.join (s : State) (m : Nat) (p : List Byte) : State :=
  let f := s.fabric
  let ms := membersOf p
  let w := leAt p 6 1
  s.setFabric { f with
    joined := true, everConfirmed := false, unconfirmed := false, configId := leAt p 0 4
    nx := leAt p 4 1, ny := leAt p 5 1, wrapX := bitAt w 0, wrapY := bitAt w 1, members := ms
    statusPeriod := leAt p 8 4, holdUs := leAt p 12 4
    standby := (List.range (leAt p 16 2)).map (standbyAt p), candidate := ms.headD s.device
    captain := none, isCaptain := false, epoch := 0, noticeSeq := 0, unanswered := 0, sentStatus := []
    gotStatus := [], confirmedAt := s.now, caps := [], out := [], gone := [], aliases := []
    announced := [], silentDevs := [], fwDue := [], takeovers := [], joinBox := some m, joinAt := s.now }

/-- FABRIC_JOIN (R364): it completes at the first confirmation, or with TIMEOUT. -/
def execFabricJoin (m : Nat) (s : State) : Out :=
  command s m 0x0901 anyP fun p =>
    if s.fabric.joinBox = some m then .wait s
    else if !s.joinOk p then .no s 4
    else if s.fabric.joined then .no s 10
    else .wait (s.join m p)

/-- FABRIC_LEAVE (R377): the device leaves the configured set by the captain's notice, and in its own tables. -/
def execFabricLeave (m : Nat) (s : State) : Out :=
  command s m 0x0902 anyP fun p =>
    let f := s.fabric
    if p.length ≠ 0 then .no s 4
    else if !f.joined then .no s 10
    else
      let s1 := if s.captainNow then s.announce (.configured s.device false)
        else (s.member f.reportTo (.leave s.device)).setFabric
          ((s.member f.reportTo (.leave s.device)).fabric.applyNotice (.configured s.device false))
      .ok ((s1.setFabric { s1.fabric with
        joined := false, unconfirmed := false, isCaptain := false, captain := none, needTables := false
        fwDue := [] }).safeEnd .membership)

/-- Override `i` of a route table. -/
def overrideAt (p : List Byte) (i : Nat) : Override :=
  { number := leAt p (4 + 6 * i) 2, mask := leAt p (6 + 6 * i) 2, port := leAt p (8 + 6 * i) 1 }

/-- FABRIC_ROUTE_SET (R360, R382): applied once no request to an affected destination is outstanding; new
ones wait meanwhile. -/
def execFabricRouteSet (m : Nat) (s : State) : Out :=
  command s m 0x0903 anyP fun p =>
    let n := leAt p 0 1
    let os := (List.range n).map (overrideAt p)
    let f := s.fabric
    let touched := f.overrides ++ os
    if 64 < n ∨ p.length ≠ 4 + 6 * n ∨ leAt p 1 3 ≠ 0 ∨
        !((List.range n).all fun i => leAt p (9 + 6 * i) 1 == 0) ∨
        !(os.all fun o => decide (o.number < 2 ^ 14) && decide (o.mask < 2 ^ 14) && decide (o.port < 4)) then
      .no s 4
    else if f.ftags.any fun e => touched.any fun o => f.hit o e.2.dst || f.hit o (f.hostOf e.2.dst) then
      .wait (s.setFabric { f with routeDue := some touched })
    else .ok (s.setFabric { f with overrides := os, routeDue := none })

/-- A member's entry: state, cap and alias host (R377, R403). -/
def Fabric.memberEntry (f : Fabric) (d : Nat) : List Byte :=
  let st := if f.gone.contains d then 3 else if f.out.contains d then 1
    else if f.members.contains d then 0 else 2
  leBytes st 1 ++ leBytes (tget 1 d f.caps) 1 ++
    leBytes (((f.aliasOf d).map fun a => a.host).getD 0xFFFF) 2

/-- FABRIC_MEMBERS (R377). -/
def execFabricMembers (m : Nat) (s : State) : Out :=
  command s m 0x0904 anyP fun p =>
    let a := leAt p 0 2
    let n := leAt p 2 2
    let f := s.fabric
    if p.length ≠ 4 ∨ n = 0 ∨ 1000 < n ∨ 16384 < a + n then .no s 4
    else .done s 0 (leBytes (f.captain.getD 0xFFFF) 2 ++ leBytes f.epoch 4 ++ leBytes f.noticeSeq 4 ++
      (List.range n).flatMap fun i => f.memberEntry (a + i))

/-! ### Log and counters (R403, R463) -/

/-- A firmware log entry as LOG_READ returns it (R403). -/
def LogEntry.bytes (e : LogEntry) : List Byte :=
  leBytes e.seq 4 ++ leBytes e.text.length 2 ++ leBytes e.code 2 ++ e.text

/-- Entries while they fit. -/
def fitEntries (room : Nat) : List (List Byte) → List Byte
  | [] => []
  | e :: r => if e.length ≤ room then e ++ fitEntries (room - e.length) r else []

/-- LOG_READ (R403): the entries from a sequence number on, whole, as many as the maximum takes. -/
def execLogRead (m : Nat) (s : State) : Out :=
  command s m 0x0B01 anyP fun p =>
    let es := s.mgmt.log.filter fun e => decide (leAt p 0 4 ≤ e.seq)
    if p.length ≠ 6 then .no s 4
    else .done s 0 (fitEntries (min 4080 (leAt p 4 2)) (es.map LogEntry.bytes))

/-- A counter entry. -/
def counterEntry (id unit value : Nat) : List Byte :=
  leBytes id 2 ++ leBytes unit 1 ++ [0] ++ leBytes value 4

/-- Entries of a group. -/
def State.counterGroup (s : State) (g : Nat) : Option (List Byte) :=
  match g with
  | 0 => some ((List.range 18).flatMap (fun c =>
      let v := s.court c
      counterEntry (4 * c) 4 v.slowest ++ counterEntry (4 * c + 1) 1 v.rail ++
        counterEntry (4 * c + 2) 5 (b2n v.parked)) ++
      counterEntry 0x100 1 s.pace.vddCin ++ counterEntry 0x101 2 s.pace.estimate ++
      counterEntry 0x102 3 (uint 32 (maxReading s.pace.temps)))
  | 1 => some (counterEntry 0x200 0 s.mgmt.hostErrors)
  | 2 => some ((List.range 4).flatMap fun f =>
      (List.range 10 ++ (List.range 16).map (16 + ·)).flatMap fun k =>
        counterEntry (0x300 + 0x20 * f + k) 0 (tget 0 k (s.feed f).counts))
  | _ => none

/-- COUNTERS_READ (R43, R403, R463). -/
def execCountersRead (m : Nat) (s : State) : Out :=
  command s m 0x0B02 anyP fun p =>
    if p.length ≠ 1 then .no s 4
    else match s.counterGroup (leAt p 0 1) with
      | none => .no s 4
      | some b => .done s 0 b

end Sys2Proof.Machine
end

