-- ==== Sys2Proof/Machine/Ports.lean ====
section
/-! DEFINITION. The feed ports (R453 to R463), the host port (R464 to R469) and the service port (R470 to
R474). -/

namespace Sys2Proof.Machine

/-! ### Frames (R454 to R459) -/

/-- Add one to counter `k` of feed port `f` (R463). -/
def State.feedCount (s : State) (f k : Nat) : State :=
  let v := s.feed f
  s.setFeed f { v with counts := tput k (inc32 (tget 0 k v.counts)) v.counts }

/-- A rule matches a frame: DEST is not 0 and the masked frame bytes equal TEMPLATE (R457). -/
def Rule.hits (r : Rule) (frame : List Byte) : Bool :=
  r.dest != 0 && (List.range 64).all fun i =>
    (frame[i]?).getD 0 &&& (r.mask[i]?).getD 0 == (r.templ[i]?).getD 0

/-- The first rule that matches (R457). -/
def Feed.ruleFor (v : Feed) (frame : List Byte) : Option Nat :=
  (List.range 16).find? fun r => (tget {} r v.rules).hits frame

/-- A field of `n` bytes extracted from a frame in the rule's byte order (R456). -/
def Rule.extract (r : Rule) (frame : List Byte) (o n : Nat) : Nat :=
  let bs := sliceB frame o n
  if r.little then leNum bs else beNum bs

/-- What a stream receives of a matched frame in buffer `h` (R205, R458). -/
def State.handoffOf (s : State) (r : Rule) (frame : List Byte) (st : Stamp) (h : Nat) : Handoff :=
  let sid := if r.idOff = 0xFF then r.stream else r.extract frame r.idOff 1
  { sid := sid, handle := h, payPos := 16 + r.payOff, payLen := frame.length - 4 - r.payOff
    lineRaw := r.extract frame r.lineOff (((s.stream sid).par.lineWidth + 7) / 8)
    offset := r.extract frame r.offOff (if r.off32 then 4 else 2), stamp := st }

/-- The prefix of a frame (R454). -/
def framePrefix (st : Stamp) (len rule : Nat) : List Byte :=
  leBytes st.ns 4 ++ leBytes st.sec 6 ++ leBytes len 2 ++
    [BitVec.ofNat 8 rule, BitVec.ofNat 8 (b2n st.unknown), 0, 0]

/-- Deliver an entry of feed port `f` to queue `q`, or hold it while the queue is full; a queue that gives to
no one leaves the frame undelivered (R459, R179). -/
def State.feedPush (s : State) (f q : Nat) (e : W32) : State :=
  let v := s.queue q
  let h := fld e 0 16
  if !v.give ∨ v.owner = 0x4FF then
    (((s.setFeed f { s.feed f with heldPush := none }).poolFreeOp (0x430 + f) h).feedCount f 6).fire (257 + 4 * f)
  else
    let r := s.hwPush q e (0x430 + f)
    r.1.setFeed f { r.1.feed f with heldPush := if r.2 then none else some (q, e) }

/-! ### What the firmware transmits (R287, R461, R462) -/

/-- The firmware sends a frame on feed port `f`: it is timestamped and counted (R462, R463). -/
def State.feedSend (s : State) (f : Nat) (k : FeedTxKind) : State :=
  let v := s.feed f
  (s.setFeed f { v with sent := v.sent ++ [⟨k, s.stamp⟩] }).feedCount f 8

/-- The firmware runs IEEE 1588 on feed port `f` (R287). -/
def State.ptpOn (s : State) (f : Nat) : Bool :=
  s.time.mode == 1 && s.time.ptpPort == f && s.fwRuns && (s.feed f).up

/-- The clock is a PTP master, and its messages go over layer 2. -/
def TimeUnit.ptpMaster (t : TimeUnit) : Bool := bitAt t.ptpOpts 0
/-- Messages go over layer 2 and need no address. -/
def TimeUnit.ptpLayer2 (t : TimeUnit) : Bool := bitAt t.ptpOpts 1

/-- Steps of RFC 3927 after which the link-local address is claimed: three probes and two announcements
(log 112). -/
def llDone : Nat := 5

/-- The link-local address of feed port `f`, as an offset from 169.254.1.0, seeded by the serial number (R461). -/
def Feed.linkLocal (v : Feed) : Nat := (Config.linkLocal Config.serial v.llTry).val

/-- The address as its four bytes. -/
def llBytes (a : Nat) : List Byte := [169, 254, BitVec.ofNat 8 ((a + 256) / 256), BitVec.ofNat 8 (a % 256)]

/-- PTP messages may be sent on feed port `f`. -/
def State.ptpMaySend (s : State) (f : Nat) : Bool :=
  s.ptpOn f && (s.time.ptpLayer2 || decide (llDone ≤ (s.feed f).llStep))

/-- The message type of a PTP frame in the transport in use. -/
def State.ptpType (s : State) (frame : List Byte) : Option Nat :=
  let at_ (i : Nat) : Nat := leAt frame i 1
  if s.time.ptpLayer2 then if at_ 12 = 0x88 ∧ at_ 13 = 0xF7 then some (at_ 14 % 16) else none
  else if at_ 12 = 0x08 ∧ at_ 13 = 0 ∧ at_ 23 = 17 ∧ at_ 36 = 1 ∧ (at_ 37 = 0x3F ∨ at_ 37 = 0x40) then
    some (at_ 42 % 16)
  else none

/-- Where the PTP header stands in a frame of the transport in use. -/
def State.ptpBase (s : State) : Nat := if s.time.ptpLayer2 then 14 else 42

/-- The sequence number of a PTP message. -/
def State.ptpSeq (s : State) (frame : List Byte) : Nat := beNum (sliceB frame (s.ptpBase + 30) 2)

/-- The timestamp that a PTP message carries, and its correction field, in ns (IEEE 1588-2019, log 137). -/
def State.ptpTime (s : State) (frame : List Byte) : Int × Int :=
  let at_ (o n : Nat) : Nat := beNum (sliceB frame (s.ptpBase + o) n)
  (((at_ 34 6 * 1000000000 + at_ 40 4 : Nat) : Int), sint 64 (at_ 8 8) / 65536)

/-- A timestamp in ns. -/
def Stamp.abs (t : Stamp) : Int := ((t.sec * 1000000000 + t.ns : Nat) : Int)

/-- A frame of IEEE 1588, received at `st`.  A slave notes the time of a Sync; its Follow_Up brings the master's time T1 of
it, against which the time is corrected with the path delay measured last, and a Delay_Req goes out, whose
Delay_Resp measures the delay anew; a master answers a Delay_Req (R287, R288, log 137). -/
def State.ptpFrame (s : State) (f : Nat) (frame : List Byte) (st : Stamp) : State :=
  if !s.ptpMaySend f then s
  else
    let v := s.feed f
    match s.time.ptpMaster, s.ptpType frame with
    | false, some 0 => s.setFeed f { v with ptpSync := some (s.ptpSeq frame, st.abs - (s.ptpTime frame).2) }
    | false, some 8 =>
      match v.ptpSync with
      | some (n, t2) =>
        if n = s.ptpSeq frame then
          let t1 := (s.ptpTime frame).1 + (s.ptpTime frame).2
          ((s.setFeed f { v with ptpSync := none, ptpReq := some (t1, t2, s.stamp.abs) }).feedSend f .delayReq).syncTo
            (t1 + v.pathDelay - t2)
        else s
      | none => s
    | false, some 9 =>
      match v.ptpReq with
      | some (t1, t2, t3) =>
        let t4 := (s.ptpTime frame).1 - (s.ptpTime frame).2
        s.setFeed f { v with ptpReq := none, pathDelay := ((t2 - t1) + (t4 - t3)) / 2 }
      | none => s
    | true, some 1 => s.feedSend f .delayResp
    | _, _ => s

/-- An ARP frame: a claimed address is answered for; one that another station uses, or probes for at the same time, is
given up for the next (RFC 3927, R461). -/
def State.arpFrame (s : State) (f : Nat) (frame : List Byte) : State :=
  let v := s.feed f
  let own := llBytes v.linkLocal
  let sender := sliceB frame 28 4
  let target := sliceB frame 38 4
  if !s.ptpOn f || s.time.ptpLayer2 || v.llStep == 0 || leAt frame 12 2 != 0x0608 then s
  else if sender == own || (decide (v.llStep < llDone) && sender == [0, 0, 0, 0] && target == own) then
    s.setFeed f { v with llTry := v.llTry + 1, llStep := 0 }
  else if leAt frame 20 2 == 0x0100 && target == own && decide (llDone ≤ v.llStep) then
    s.feedSend f (.arpReply v.linkLocal)
  else s

/-- The next frame that is due on feed port `f`: a step of claiming the address, every 2 s, or a master's Announce, Sync
and Follow_Up, every second (log 112). -/
def State.tickFeedTx (s : State) (f : Nat) : State :=
  let v := s.feed f
  if !s.ptpOn f then s
  else if !s.ptpMaySend f then
    if v.llStep = 0 ∨ 2000000 ≤ s.usSince v.llAt then
      let s1 := s.setFeed f { v with llStep := v.llStep + 1, llAt := s.now }
      s1.feedSend f (if v.llStep < 3 then .arpProbe v.linkLocal else .arpAnnounce v.linkLocal)
    else s
  else if s.time.ptpMaster && decide (1000000 ≤ s.usSince v.ptpAt) then
    (((s.setFeed f { v with ptpAt := s.now }).feedSend f .announce).feedSend f .sync).feedSend f .followUp
  else s

/-- The firmware frees the frames passed to it (R457). -/
def State.firmwareFrees (s : State) (f : Nat) : State :=
  if s.fwRuns then
    (s.feed f).toFirmware.foldl (fun u h => u.poolFreeOp 0x400 h)
      (s.setFeed f { s.feed f with toFirmware := [] })
  else s

/-- A frame goes to the firmware, which uses it for IEEE 1588 and for the link-local address only (R457). -/
def State.passToFirmware (s : State) (f h : Nat) (frame : List Byte) (st : Stamp) : State :=
  let s1 := (s.poolGiveOp (0x430 + f) h 0x400).feedCount f 7
  let s2 := s1.setFeed f { s1.feed f with toFirmware := (s1.feed f).toFirmware ++ [h] }
  ((s2.ptpFrame f frame st).arpFrame f frame).firmwareFrees f

/-- A frame leaves the FIFO of feed port `f`: into a buffer and on by its rule (R454 to R459). -/
def State.feedFrame (s : State) (f : Nat) (frame : List Byte) (st : Stamp) : State :=
  let rule := (s.feed f).ruleFor frame
  let r := s.take (0x430 + f)
  match r.2 with
  | none => (r.1.feedCount f 4).fire (257 + 4 * f)
  | some h =>
    let s1 := r.1.writeBuf (bufAddr h) (framePrefix st frame.length (rule.getD 0xFF) ++ frame)
    match rule with
    | none => s1.passToFirmware f h frame st
    | some n =>
      let s2 := s1.feedCount f (0x10 + n)
      let x := tget {} n (s2.feed f).rules
      if x.dest = 1 then
        s2.setFeed f { s2.feed f with handoffs := (s2.feed f).handoffs ++ [s2.handoffOf x frame st h] }
      else s2.feedPush f x.queue (w32 (n * 2 ^ 16 + h))

/-- Frames leave the FIFO in arrival order while none is held back (R455); the rest. -/
def State.feedDrain (s : State) (f : Nat) : List (List Byte × Stamp) → State
  | [] => s.setFeed f { s.feed f with fifo := [] }
  | e :: r =>
    if (s.feed f).heldPush.isSome then s.setFeed f { s.feed f with fifo := e :: r }
    else (s.feedFrame f e.1 e.2).feedDrain f r

/-- Feed port `f` tries a push that it holds again, and lets later frames follow (R179, R455). -/
def State.feedRetry (s : State) (f : Nat) : State :=
  let s1 := match (s.feed f).heldPush with
    | some (q, e) => s.feedPush f q e
    | none => s
  s1.feedDrain f (s1.feed f).fifo

/-- Bytes in a receive FIFO. -/
def fifoBytes (l : List (List Byte × Stamp)) : Nat := (l.map fun e => e.1.length).foldl (· + ·) 0

/-- An accepted frame enters the FIFO of feed port `f`; the source of a FIFO that passes half full fires
(R455, R463). -/
def State.feedAccept (s : State) (f : Nat) (bytes : List Byte) : State :=
  let s1 := s.feedCount f 0
  let q := (s1.feed f).fifo
  let q1 := q ++ [(bytes, s1.stamp)]
  let s2 := s1.fireIf (decide (fifoBytes q ≤ 32768) && decide (32768 < fifoBytes q1)) (259 + 4 * f)
  s2.feedDrain f q1

/-- A frame arrives at feed port `f` (R453 to R455); the 64 KiB FIFO is full or not at the frame's start. -/
def State.receiveFrame (s0 : State) (f : Nat) (k : Frame) : State :=
  let s := s0.feedRetry f
  let n := k.bytes.length
  if 65536 ≤ fifoBytes (s.feed f).fifo then (s.feedCount f 5).fire (257 + 4 * f)
  else if n < 64 then (s.feedCount f 3).fire (258 + 4 * f)
  else if 2032 < n then (s.feedCount f 2).fire (258 + 4 * f)
  else if !k.fcsOk then (s.feedCount f 1).fire (258 + 4 * f)
  else if k.pause then s.feedCount f 9
  else s.feedAccept f k.bytes

/-! ### The host port (R467 to R469) -/

/-- Every window of 0x401 of this device closes (R28, R407): those without an accepted access at once. -/
def State.closeHostWindows (s : State) : State :=
  let host (w : Window) : Bool := w.master == 0x401 && w.dev == s.device
  let ws := s.mgmt.windows.map fun w =>
    if host w && !w.closing then { w with closing := true, accepted := s.acceptedBy w } else w
  { s with mgmt := { s.mgmt with
      windows := ws.filter fun w => !(host w && w.closing && w.accepted.isEmpty) } }

/-- Configuration space at its reset values (R468); the tags of open requests rest (R170). -/
def HostPort.reset (h : HostPort) (now : Nat) : HostPort :=
  { linkUp := h.linkUp, gen := h.gen, width := h.width, sent := h.sent, msgs := h.msgs, done := h.done
    unsupported := h.unsupported, nextTag := h.nextTag
    resting := h.resting ++ h.outs.map fun q => (q.msg.tag, now) }

/-- What FLR, hot reset, link down and PERST_N do (R468); the transfers into the port's island that it had accepted end
(R53). -/
def State.hostReset (s : State) (c : FlrCause) : State :=
  let s1 := (((s.requestAbort 0 2).requestAbort 1 2).closeHostWindows).endReached (s.intoIsland 6)
  let h := s1.host.reset s.now
  let s2 := { s1 with host :=
    if c = FlrCause.linkDown then { h with linkUp := false, gen := 0, width := 0 } else h }
  (s2.fire (if c = FlrCause.linkDown then 288 else 290)).fireIf s.host.d3hot 291

/-- What identifies the function in configuration space: Vendor ID, Device ID, Revision ID and class code (R464). -/
def hostIdentity : Nat × Nat × Nat × Nat := (0x1F6C, 0x0400, 0xA1, 0x118000)

/-- AER logs errors, and source 292 fires (R464, R469, log 142). -/
def State.aerLog (s : State) (v : W32) : State :=
  { s with host := { s.host with aer := s.host.aer ||| v } }.fire 292

/-- A memory request in D3hot: an Unsupported Request, which AER logs; a read is answered so (R464, R469, log 142). -/
def State.unsupported (s : State) (a : HostAcc) : State :=
  { s with host := { s.host with
      unsupported := s.host.unsupported ++ (if a.write.isNone then [a.tag] else []) } }.aerLog 0x100000

/-- A write of configuration space or of the MSI-X table (R464, R467, R469). -/
def State.configWrite (s : State) (w : CfgWrite) : State :=
  let h := s.host
  match w with
  | .dState d => { s with host := { h with d3hot := d } }.fireIf (h.d3hot != d) 291
  | .msixEnable on => { s with host := { h with msix := on } }
  | .functionMask on => { s with host := { h with fmask := on } }
  | .busMaster on => { s with host := { h with bme := on } }
  | .vectorMask v on =>
    let rest := h.unmasked.filter (· != v)
    { s with host := { h with unmasked := if on then rest else v :: rest } }
  | .aspmL1 on => { s with host := { h with aspm := on } }
  | .aerClear v => { s with host := { h with aer := h.aer &&& ~~~v } }

/-! ### The service port (R470, R472, R473) -/

/-- VID and PID of the service port (R470). -/
def serviceIdentity : Nat × Nat := (0x3A6E, 0x0400)

/-- What an interface or an endpoint of the vendor interface serves (R470, R472). -/
inductive UsbUse where
  | console | vendor | command | response | traceStream
  deriving DecidableEq, Repr

/-- The interfaces of the one configuration: 0 and 1 the console's CDC-ACM, 2 the vendor's (R470). -/
def serviceInterface (n : Nat) : Option UsbUse :=
  if n < 2 then some .console else if n = 2 then some .vendor else none

/-- The bulk endpoints of the vendor interface (R470, R472). -/
def vendorEndpoint (n : Nat) : Option UsbUse :=
  if n = 0x02 then some .command else if n = 0x82 then some .response
  else if n = 0x83 then some .traceStream else none

/-- The service path loses its level (R473, R480, R481); source 511 where it held one. -/
def State.dropSvc (s : State) : State :=
  let d := s.dbgBlock.svc
  { s with dbgBlock := { s.dbgBlock with
      svc := { d with granted := 0, level := 0, jtag := false, trace := false } } }.fireIf
    (d.granted != 0 || d.level != 0) 511

/-- The service port is up: VBUS is present and no sleep state has it down (R436, R489). -/
def State.serviceUp (s : State) : Bool :=
  s.service.vbus && (s.power.st == .run || s.power.emulated) && !s.inHold

/-- The host port is up (R436, R489). -/
def State.hostUp (s : State) : Bool := s.host.linkUp && (s.power.st == .run || s.power.emulated)

/-! ### The firmware's log and the console (R403, R471) -/

/-- The firmware writes what it has to log; how many entries, their codes and texts are its own and free (log 113). -/
def State.writeLog (s : State) : State :=
  let n := Config.freeNat s.free
  let old := s.mgmt.log
  let new := (List.range n).map fun i =>
    ({ seq := old.length + i, code := Config.freeNat (s.free + 1 + i), text := Config.logText (s.free + 1 + i) } : LogEntry)
  { s with free := s.free + 1 + n, mgmt := { s.mgmt with log := old ++ new } }

/-- The line that the console shows of an entry (R471). -/
def LogEntry.line (e : LogEntry) : List Byte := Config.consoleLine e.seq e.code e.text ++ [0x0D, 0x0A]

/-- The console sends every entry that it has not sent, once the port is configured. -/
def State.sendConsole (s : State) : State :=
  let v := s.service
  if !(s.serviceUp && v.configured && !v.suspended) then s
  else
    { s with service := { v with
        console := v.console ++ (s.mgmt.log.drop v.consoleSeq).map LogEntry.line
        consoleSeq := s.mgmt.log.length } }

/-- Once a millisecond the firmware writes its log, and the console sends it (log 113). -/
def State.tickLog (s : State) : State :=
  if s.now % 200000 ≠ 0 then s
  else if s.fwRuns then s.writeLog.sendConsole else s.sendConsole

/-- A bulk transfer on endpoint 0x02 (R472). -/
def State.bulkCommand (s : State) (bytes : List Byte) : State :=
  if bytes.length < 16 ∨ bytes.length ≠ 16 + leAt bytes 4 2 then s.fire 298
  else
    let x := s.mbx 2
    let s1 := s.setMbx 2 { x with cmd := memWrite 0 x.cmd 0 (bytes.take 4096) }
    { s1 with service := { s1.service with kept := [] } }.doorbell 2 s.device 0x402 1

/-! ### Rows -/

/-- FRAME_RECEIVED (R453 to R459). -/
def execFrameReceived (f : Nat) (k : Frame) (s : State) : Out :=
  ok (decide (f < 4)) (when_ ((s.feed f).up && s.running) (s.receiveFrame f k) s)

/-- RATE_DETECT_TURN (R453): a port without block lock tries the other rate, in turns of 2 ms. -/
def execRateDetectTurn (f : Nat) (s : State) : Out :=
  let v := s.feed f
  ok (decide (f < 4)) (when_ (s.turnDue f && s.running) (s.setFeed f { v with fast := !v.fast, turnAt := s.now }) s)

/-- FEED_BLOCK_LOCK (R453, R463): a port locks at the rate that it is trying, and its recovered clock runs (R52). -/
def execFeedBlockLock (f : Nat) (fast : Bool) (s : State) : Out :=
  let v := s.feed f
  ok (decide (f < 4)) (when_ (!v.up && v.fast == fast && s.running && !s.faults.backupOsc)
    ((s.setFeed f { v with up := true, llStep := 0, tx := s.laneTx f }).fire (256 + 4 * f)) s)

/-- FEED_LINK_DOWN (R453, R463): detection starts again at 25.78125 GBd. -/
def execFeedLinkDown (f : Nat) (s : State) : Out :=
  let v := s.feed f
  ok (decide (f < 4)) (when_ (v.up && s.running) ((s.setFeed f (v.linkDown s.now)).fire (256 + 4 * f)) s)

/-- MSIX_SEND (R467): a pending vector that nothing gates any more. -/
def execMsixSend (v : Nat) (s : State) : Out :=
  ok (decide (v < 64)) (when_ (s.host.pba.contains v && s.host.maySend v && s.live) { s with host := s.host.send v } s)

/-- FUNCTION_LEVEL_RESET (R407, R468). -/
def execFunctionLevelReset (c : FlrCause) (s : State) : Out :=
  ok true (when_ (c == .perst || s.hostUp) (s.hostReset c) s)

/-- HOST_LINK_UP (R464, R469): generations 1 to 4 at a width of 1, 2 or 4. -/
def execHostLinkUp (gen width : Nat) (s : State) : Out :=
  let h := s.host
  let can := decide (1 ≤ gen ∧ gen ≤ 4) && (width == 1 || width == 2 || width == 4) &&
    (s.power.st == .run || s.power.emulated) && !s.inHold && !(h.linkUp && h.gen == gen && h.width == width)
  ok true (when_ can ({ s with host := { h with linkUp := true, gen := gen, width := width } }.fire 288) s)

/-- CONFIGURATION_SPACE_WRITE (R464, R467, R469). -/
def execConfigurationSpaceWrite (w : CfgWrite) (s : State) : Out :=
  let vec : Bool := match w with
    | .vectorMask v _ => decide (v < 64)
    | _ => true
  ok vec (when_ s.hostUp (s.configWrite w) s)

/-- SERVICE_BULK_COMMAND (R472): NAKed while mailbox 2 is Queued or Running. -/
def execServiceBulkCommand (bytes : List Byte) (s : State) : Out :=
  let can := s.serviceUp && s.service.configured && !s.service.suspended && !(s.mbx 2).busy
  ok true (when_ can (s.bulkCommand bytes) s)

/-- VENDOR_ABORT (R472): bRequest 0x01. -/
def execVendorAbort (s : State) : Out :=
  ok true (when_ s.serviceUp (s.writeAbort 2 s.device 0x402 1) s)

/-- VENDOR_STATE (R472): bRequest 0x02. -/
def execVendorState (s : State) : Out :=
  ok true (when_ s.serviceUp
    { s with service := { s.service with stateRead := leBytes (s.mbx 2).stateReg 4 } } s)

/-- BUS_RESET (R470, R473, R474): a bus reset, after which the bus runs at high or full speed, or VBUS falling, which the
port senses in every state of the device. -/
def execBusReset (r : BusReset) (s : State) : Out :=
  let s1 := { s with service := { s.service with
    vbus := !r.vbusFell, configured := false, suspended := false, high := !r.vbusFell && r.high } }
  ok true (when_ (if r.vbusFell then s.service.vbus else s.serviceUp) (s1.dropSvc.fireIf s.serviceUp 296) s)

/-- VBUS_RISE (R474), in Run; while the device is held in its restart the port only senses it. -/
def execVbusRise (s : State) : Out :=
  ok true (when_ (!s.service.vbus && (s.power.st == .run || s.power.emulated))
    ({ s with service := { s.service with vbus := true } }.fireIf (!s.inHold) 296) s)

/-- SET_CONFIGURATION (R473, R474): a kept response is sent again. -/
def execSetConfiguration (s : State) : Out :=
  let v := s.service
  let s1 := { s with service := { v with
    configured := true, transfers := if v.kept.isEmpty then v.transfers else v.transfers + 1 } }
  ok true (when_ s.serviceUp (s1.fire 296) s)

/-- SUSPEND (R474). -/
def execSuspend (on : Bool) (s : State) : Out :=
  ok true (when_ (s.serviceUp && s.service.suspended != on)
    ({ s with service := { s.service with suspended := on } }.fire 297) s)

end Sys2Proof.Machine
end

