-- ==== Sys2Proof/Machine/Power.lean ====
section
/-! DEFINITION. The power states, wakes and the Drizzle sequencer (R434 to R451), and the loss of power
(R497). -/

namespace Sys2Proof.Machine

/-! ### Entry (R437, R438) -/

/-- A debugger is attached (R488). -/
def State.attached (s : State) : Bool := s.dbgBlock.dbg.level != 0 || s.dbgBlock.svc.level != 0

/-- The number of a state: 1 Doldrums, 2 Drizzle, 3 Off. -/
def PState.code : PState → Nat
  | .run => 0
  | .doldrums => 1
  | .drizzle => 2
  | .off => 3

/-- The pins that a Drizzle program names: slot signals, and steps that drive or read a pin. -/
def Drizzle.slotPins (d : Drizzle) : List Nat :=
  (d.slots.filter fun e => e.1 != 0xFF).flatMap fun e => e.2.1.filter fun n => n != 0xFF
/-- Pins that PIN_OUT and PIN_IN steps name. -/
def Drizzle.stepPins (d : Drizzle) : List Nat :=
  (d.steps.filter fun x => x.op == 1 || x.op == 3).map fun x => x.a
/-- Serial engines that a program names. -/
def Drizzle.engines (d : Drizzle) : List Nat := (d.slots.map fun e => e.1).filter fun e => e != 0xFF
/-- Every pin that a program names. -/
def Drizzle.allPins (d : Drizzle) : List Nat := d.slotPins ++ d.stepPins

/-- The owner of the first pin or engine of a program that 0x404 does not own (R295, R437, R448). -/
def State.drizzleHeld (s : State) (d : Drizzle) : Option Nat :=
  ((d.allPins.map fun n => (s.pin n).owner) ++ d.engines.map fun e => (s.ser e).owner).find? fun o => o != 0x404

/-- A step wakes the device when its test holds. -/
def DrizStep.wakes (x : DrizStep) : Bool := x.op == 6 && !bitAt x.b 7

/-- Units stop (R438 step 2): the engine, DMA movers, timers and serial engines; in frost they stay stopped
at exit (R489). -/
def State.haltUnits (s : State) (on : Bool) : State :=
  let mapT : Table Timer := (List.range 32).foldl (fun m n =>
    let t : Timer := tget {} n m
    if t.frozen == on then m else tput n { t with frozen := on } m) s.fio.timers
  let mapS : Table Ser := (List.range 8).foldl (fun m n =>
    let t : Ser := tget {} n m
    if t.frozen == on then m else tput n { t with frozen := on } m) s.fio.serial
  let mapE : Table DmaEngine := (List.range 16).foldl (fun m n =>
    let t : DmaEngine := tget {} n m
    if t.halted == on then m else tput n { t with halted := on } m) s.dmaEng
  { s with
    engine := { s.engine with halted := on }, dmaEng := mapE
    fio := { s.fio with timers := mapT, serial := mapS } }

/-- The ports go down (R436): the host and service ports stay up while a debugger is attached (R489). -/
def State.portsDown (s : State) (emulated : Bool) : State :=
  let s1 := (List.range 4).foldl (fun u f =>
    if (u.feed f).up then (u.setFeed f ((u.feed f).linkDown u.now)).fire (256 + 4 * f) else u) s
  let s2 := (List.range 4).foldl (fun u p => if (u.port p).up then u.dropPort p else u) s1
  if emulated then s2
  else
    let s3 := if s2.host.linkUp then s2.hostReset .linkDown else s2
    { s3 with service := { s3.service with configured := false, suspended := false } }

/-- The clocked islands that stop in a sleep state: all but the always-on domain and JTAG (R48, R438). -/
def sleepIslands : List Nat := List.range 10

/-- The rails, body bias and clocks of a sleep state (R434, R438): the regulator is turned off for Off; a silent one
holds its setpoint otherwise (R57). -/
def State.sleepRails (s : State) (off : Bool) : State :=
  let s1 := (List.range 18).foldl (fun u c =>
    u.setCourt c { u.court c with
      rail := if off then 0 else 340, bias := if off then 0 else -300, belowSince := none, ramp := none }) s
  let s2 := { s1 with pace := { s1.pace with stoppedIslands := sleepIslands } }
  if off then { s2 with pace := { s2.pace with vddCin := 0, okVdd := 0 } }.pmb [.operation false]
  else if s.pace.silent then s2
  else s2.setVdd 500

/-- A staged commit is applied before the anchor of a sleep entry is taken (R276, R282). -/
def State.settleTime (s : State) : State :=
  match s.time.commit with
  | none => s
  | some c => s.applyCommit c

/-- Entry into a sleep state after the response (R438, R444). -/
def State.enterSleep (s0 : State) (st : PState) (keep : Bool) (cfg : W32) (watch : Table W32) : State :=
  let s := s0.settleTime
  let em := s.attached
  let s1 := (s.portsDown em).haltUnits true
  let s2 := s1.mapPins fun _ v => if v.owner = 0x404 then v else v.hold .sleep
  let s3 := { s2 with router := { s2.router with wakeCfg := cfg, watch := watch } }
  let s4 := (List.range 8).foldl (fun u k =>
    let a := u.alarm k
    u.setAlarm k { a with converted := a.armed && bitq cfg (8 + k) }) s3.anchor
  let s5 := if em then s4 else s4.sleepRails (st == .off)
  { s5 with power := {
      st := st, emulated := em, keepOsc := keep, base := s5.aon.count
      nextCycle := (s5.aon.drizzle.map fun d => d.period).getD 0 } }

/-- The 32 watch registers of POWER_STATE_SET. -/
def watchRegs (p : List Byte) : Table W32 :=
  ((List.range 32).map fun k => (k, w32 (leAt p (8 + 4 * k) 4) &&& 0x800001FF)).filter fun (e : Nat × W32) => e.2 != 0

/-- The state that a number names. -/
def pstateOf (n : Nat) : PState :=
  if n = 1 then .doldrums else if n = 2 then .drizzle else .off

/-- POWER_STATE_SET (R437, R438): entry begins once every other mailbox is free of commands and every started tile is
at an instruction boundary, as under STOP_TILE. -/
def execPowerStateSet (m : Nat) (s : State) : Out :=
  command s m 0x0701 anyP fun p =>
    let n := leAt p 0 1
    let cfg := w32 (leAt p 4 4) &&& 0x1FFFFF
    let watch := watchRegs p
    let compare := n == 2 && (s.aon.drizzle.any fun d => d.steps.any DrizStep.wakes)
    let any := cfg != 0 || (watch.any fun (e : Nat × W32) => bitq e.2 31) || compare
    if p.length ≠ 136 ∨ 4 ≤ n ∨ 2 ≤ leAt p 1 1 ∨ leAt p 2 2 ≠ 0 then .no s 4
    else if n = 0 then .ok s
    else if s.fabric.joined then .no s 10
    else if n = 2 ∧ s.aon.drizzle.isNone then .no s 10
    else
      match if n = 2 then s.aon.drizzle.bind s.drizzleHeld else none with
      | some o => .held s o none
      | none =>
        if !any then .no s 4
        else if ((List.range 8).any fun k => k != m && (s.mbx k).busy) ∨
            s.tiles.any (fun (e : Nat × Tile) => e.2.run == .running && !e.2.atBoundary) then .wait s
        else .after s fun u => u.enterSleep (pstateOf n) (leAt p 1 1 == 1) cfg watch

/-! ### Wakes (R269, R439 to R441) -/

/-- Always-on time: the anchor and the ticks counted since (R283). -/
def State.aonTime (s : State) : Nat :=
  let a := s.aon
  a.anchorSec * 1000000000 + a.anchorNs + (a.count + 2 ^ 48 - a.anchorCount) % 2 ^ 48 * a.rate / 65536

/-- A wake input or a watched source in a sleep state (R269, R270, R440). -/
def State.wakeFrom (s : State) (w : WakeBy) : State :=
  let cfg := s.router.wakeCfg
  match w with
  | .pinEdge n rising =>
    if bitAt (fld cfg (2 * n) 2) (if rising then 0 else 1) then s.wakeNow 0 (32 + n) else s
  | .alarm k =>
    let a := s.alarm k
    if a.converted && !s.aon.oscStopped && decide (a.target ≤ s.aonTime) then s.wakeNow 0 (36 + k) else s
  | .linkPort p => if bitq cfg (16 + p) then s.wakeNow 0 (44 + p) else s
  | .vbus =>
    let s1 := { s with service := { s.service with vbus := true } }
    if bitq cfg 20 then s1.wakeNow 0 48 else s1
  | .source n => s.fire n

/-- Whether a wake input exists. -/
def wakeExists : WakeBy → Bool
  | .pinEdge n _ => decide (n < 4)
  | .alarm k => decide (k < 8)
  | .linkPort p => decide (p < 4)
  | .vbus => true
  | .source n => decide (n < 512)

/-! ### Exit (R442, R443, R445) -/

/-- The wake record at step 5 (R445). -/
def State.wakeRecord (s : State) (st : PState) (w : Nat × Nat) (old : Power) : WakeRec :=
  let z := st == .drizzle
  { state := st.code, kind := w.1, code := w.2, race := old.race
    ns := s.time.ns, sec := s.time.sec, unknown := s.time.unknown, carried := s.time.carried
    slept := old.slept, cycles := if z then old.cycles else 0, overruns := if z then old.overruns else 0
    regs := (List.range 8).map fun i => tget 0 i s.aon.sregs }

/-- Rails at exit: every rail at 0.40 V, the least of Run, from where the pace loop raises it, or the way to the park
voltage; clocks restart.  A silent regulator keeps its setpoint (R57, R434, R442, log 110). -/
def State.wakeRails (s : State) : State :=
  let s1 := (List.range 18).foldl (fun u c =>
    let v := u.court c
    u.setCourt c ({ v with ramp := if v.parked then some (onGrid v.parkMv) else none }.at c 400)) s
  let s2 := { s1 with pace := { s1.pace with stoppedIslands := [] } }
  if s.pace.silent then s2 else s2.setVdd (vddFor s2.topNeed)

/-- Sources that fire once at exit (R270, R442, R450). -/
def Power.replayed (w : Nat × Nat) (latched : List Nat) : List Nat :=
  50 :: (if w.1 = 1 then [51] else []) ++ latched ++
    (if w.1 = 0 ∧ 44 ≤ w.2 ∧ w.2 < 48 then [275 + 4 * (w.2 - 44)] else [])

/-- The island of the field I/O unit in the numbering of R48. -/
def fieldIsland : Nat := 1

/-- The cycle ends, if one runs: the unit powers down and its engines are as they were when they stopped; the pad ring
holds the pins (R436, R449). -/
def State.endCycle (s : State) : State :=
  let s1 := s.power.engines.foldl (fun u e => u.setSer e.1 e.2) s
  let stops := s.power.inCycle && !s.power.emulated && !s.pace.stoppedIslands.contains fieldIsland
  { s1 with
    power := { s.power with inCycle := false, waitEnd := none, engines := [] }
    pace := { s1.pace with
      stoppedIslands := if stops then fieldIsland :: s.pace.stoppedIslands else s.pace.stoppedIslands } }

/-- Converted alarms whose targets have come fire at the exit from Off, whose restart has reset their other fields
(R439, log 141). -/
def State.fireConverted (s : State) (old : State) : State :=
  (List.range 8).foldl (fun u k =>
    let a := old.alarm k
    if a.converted && decide (a.target ≤ u.time.abs) then
      (u.setAlarm k { u.alarm k with fired := true, late := u.isLate a }).fire (64 + k)
    else u) s

/-- Exit for a wake: from Off by a device restart (R443), else by restoring the units (R442). -/
def State.leaveSleep (s0 : State) (w : Nat × Nat) : State :=
  let s := s0.endCycle
  let old := s.power
  let st := old.st
  let s1 :=
    if st = .off && !old.emulated then (s.deviceRestart none).fireConverted s
    else
      let u := { s with power := {} }
      let u1 := if old.emulated then u else u.wakeRails
      let u2 := ((u1.haltUnits u1.dbgBlock.frost).safeEnd .sleep).carry
      let u3 := u2.mapPins fun _ v => { v with drizzleOut := none, drizzleHiZ := false }
      (List.range 8).foldl (fun x k => x.setAlarm k { x.alarm k with converted := false }) u3
  let s2 := { s1 with aon := { s1.aon with wake := s1.wakeRecord st w old } }
  s2.fireAll (Power.replayed w old.latched)

/-! ### The Drizzle sequencer (R446 to R451) -/

/-- Slot `i` of a program. -/
def slotAt (p : List Byte) (i : Nat) : Nat × List Nat × W32 × W32 :=
  let o := 8 + 16 * i
  (leAt p o 1, (List.range 4).map fun j => leAt p (o + 1 + j) 1, w32 (leAt p (o + 8) 4) &&& 0xFFFFF800,
    w32 (leAt p (o + 12) 4) &&& 0xFFFFF)

/-- A used slot is in range: its engine, its pins, SPI mode and SPI's rate (R309, R446, R448). -/
def slotOk (p : List Byte) (i : Nat) : Bool :=
  let x := slotAt p i
  x.1 == 0xFF || (decide (x.1 < 8) && (x.2.1.all fun n => decide (n < 96) || n == 0xFF) &&
    leAt p (13 + 16 * i) 3 == 0 && fld x.2.2.1 30 2 == 1 && !badSerCtl x.2.2.1 &&
    !badSerRate { ctl := x.2.2.1 } x.2.2.2)

/-- Step `i` of a program. -/
def stepAt (p : List Byte) (i : Nat) : DrizStep :=
  let o := 40 + 8 * i
  { op := leAt p o 1, a := leAt p (o + 1) 1, b := leAt p (o + 2) 1, n := leAt p (o + 3) 1
    arg := w32 (leAt p (o + 4) 4) }

/-- A step is in range, and fields that it does not use are zero (R447). -/
def DrizStep.inRange (x : DrizStep) (slots : List (Nat × List Nat × W32 × W32)) : Bool :=
  let arg := x.arg.toNat
  match x.op with
  | 1 => decide (x.a < 96) && x.b == 0 && x.n == 0
  | 2 => x.a == 0 && x.b == 0 && x.n == 0 && decide (1 ≤ arg ∧ arg ≤ 65535)
  | 3 => decide (x.a < 96) && decide (x.b < 8) && x.n == 0 && arg == 0
  | 4 => ((slots[x.a]?).any fun e => e.1 != 0xFF) && decide (x.b < 8) && decide (1 ≤ x.n ∧ x.n ≤ 4)
  | 5 => decide (x.a < 8) && decide (x.b < 32) && x.n == 0
  | 6 => decide (x.a < 8) && bitsOf x.b 2 5 == 0 && x.n == 0
  | 7 => x.a == 0 && x.b == 0 && x.n == 0 && arg == 0
  | _ => false

/-- A list names nothing twice. -/
def noTwice : List Nat → Bool
  | [] => true
  | a :: r => !r.contains a && noTwice r

/-- A program of R446, if every field is in range.  A pin may serve one slot signal only, and no step may
name a slot's pin. -/
def State.parseDrizzle (s : State) (p : List Byte) : Option Drizzle :=
  let n := leAt p 4 1
  let slots := [slotAt p 0, slotAt p 1]
  let d : Drizzle :=
    { period := leAt p 0 4, slots := slots, steps := (List.range n).map (stepAt p), pins := [] }
  let good := p.length == 40 + 8 * n && decide (1 ≤ n ∧ n ≤ 32) && leAt p 5 3 == 0 &&
    decide (33 ≤ d.period ∧ d.period ≤ 0x1000000) && slotOk p 0 && slotOk p 1 &&
    (d.steps.all fun x => x.inRange slots) && noTwice d.slotPins &&
    !(d.stepPins.any fun q => d.slotPins.contains q)
  if good then
    some { d with pins := d.allPins.foldl (fun m q => tput q (s.pin q).cfg m) [] }
  else none

/-- DRIZZLE_PROGRAM (R446 to R448). -/
def execDrizzleProgram (m : Nat) (s : State) : Out :=
  command s m 0x0702 anyP fun p =>
    match s.parseDrizzle p with
    | none => .no s 4
    | some d =>
      match s.drizzleHeld d with
      | some o => .held s o none
      | none => .ok { s with aon := { s.aon with drizzle := some d, sregs := [] } }

/-- WAKE_RECORD_READ (R445). -/
def WakeRec.bytes (w : WakeRec) : List Byte :=
  leBytes w.state 1 ++ leBytes w.kind 1 ++ leBytes w.code 1 ++ leBytes w.race 1 ++ leBytes w.ns 4 ++
    leBytes w.sec 6 ++ leBytes (b2n w.carried * 2 + b2n w.unknown) 1 ++ [0] ++ leBytes w.slept 6 ++ [0, 0] ++
    leBytes w.cycles 4 ++ leBytes w.overruns 4 ++
    (List.range 8).flatMap fun i => leBytes ((w.regs[i]?).getD 0).toNat 4

/-- Set Drizzle register `i`. -/
def State.setS (s : State) (i : Nat) (v : W32) : State :=
  { s with aon := { s.aon with sregs := tput i v s.aon.sregs } }

/-- The sequencer drives pin `n` at a level, or lets it float. -/
def State.drizDrive (s : State) (n : Nat) (level : Option Bool) : State :=
  s.setPin n { s.pin n with drizzleOut := level, drizzleHiZ := level.isNone }

/-- PIN_CFG's fields that the sequencer sets: FUNC and SEL, and OUT of PIN_OUT; the others are kept (R448). -/
def keptMask : W32 := 0x007FFFC0

/-- The field I/O unit takes the kept settings of the program's pins (R448, R449). -/
def State.takeKept (s : State) (d : Drizzle) : State :=
  d.pins.foldl (fun u e => u.setPin e.1 { u.pin e.1 with
    cfg := (e.2 &&& keptMask) ||| ((u.pin e.1).cfg &&& ~~~keptMask) }) s

/-- The pins of slot `(e, pins, …)` carry the signals of engine `e`. -/
def State.slotSignals (s : State) (slot : Nat × List Nat × W32 × W32) : State :=
  ((List.range 4).zip slot.2.1).foldl (fun u q =>
    if q.2 < 96 then u.drizDrive q.2 ((u.ser slot.1).signal q.1) else u) s

/-- The unit takes a used slot's settings: the engine has the slot's SER_CTL and SER_RATE with empty FIFOs, and the slot's
pins carry its signals; what the engine held when it stopped is kept aside (R449, log 75). -/
def State.takeSlot (s : State) (slot : Nat × List Nat × W32 × W32) : State :=
  if slot.1 = 0xFF then s
  else
    let old := s.ser slot.1
    let kept := s.power.engines ++ (if s.power.engines.any (·.1 == slot.1) then [] else [(slot.1, old)])
    ({ s with power := { s.power with engines := kept } }.setSer slot.1
      { ctl := slot.2.2.1, rate := slot.2.2.2, owner := old.owner, sent := old.sent }).slotSignals slot

/-- The field clock runs and the unit takes what the program gives it (R449). -/
def State.openCycle (s : State) (d : Drizzle) : State :=
  let s1 := { s with pace := { s.pace with stoppedIslands := s.pace.stoppedIslands.filter (· != fieldIsland) } }
  d.slots.foldl State.takeSlot (s1.takeKept d)

/-- The bytes that an XFER step transmits, the least significant byte of ARG first (R447). -/
def DrizStep.sends (x : DrizStep) : List Byte := leBytes (x.arg.toNat % 256 ^ x.n) x.n

/-- An XFER step transmits on its slot's engine; after it the slot's pins rest as SPI has them between transfers: MOSI at
its last bit, CS low with HOLD (R309, R447, log 75). -/
def State.xferOut (s : State) (x : DrizStep) : State :=
  match s.aon.drizzle.bind fun d => d.slots[x.a]? with
  | none => s
  | some slot =>
    let v := s.ser slot.1
    let last := (x.sends.getLast?).getD 0
    let s1 := { s with fio := { s.fio with xfers := s.fio.xfers ++ [(slot.1, x.sends)] } }
    (s1.setSer slot.1 { v with
      mosi := last.getLsbD (if bitq v.ctl 27 then 7 else 0), held := bitq v.ctl 11 }).slotSignals slot

/-- The deglitched level of a pin whose unit had no power: the receiver's, once it has held for DGL × 20 ns (R297). -/
def State.deglitched (s : State) (n : Nat) : Bool :=
  let v := s.pin n
  if 4 * v.dgl ≤ s.wall - v.recvAt then v.recv else v.level

/-- The test of a CMP step, signed (R447). -/
def cmpHolds (c : Nat) (a b : Int) : Bool :=
  match c with
  | 0 => decide (b < a)
  | 1 => decide (a < b)
  | 2 => a != b
  | _ => a == b

/-- The steps from number `i` on; `rx` holds what the XFER steps receive, in order, each a list of bytes
(R447, R449, R450). -/
def State.runSteps (s : State) (i : Nat) (rx : List (List Byte)) : List DrizStep → State
  | [] => s.endCycle
  | x :: r =>
    let reg (k : Nat) : W32 := tget 0 k s.aon.sregs
    match x.op with
    | 1 => (s.drizDrive x.a (some (bitq x.arg 0))).runSteps (i + 1) rx r
    | 2 =>
      { s with power := { s.power with
          step := i + 1, waitEnd := some (s.power.ticks + usTicks x.arg.toNat) } }
    | 3 =>
      ((s.drizDrive x.a none).setS x.b (w32 (b2n (s.deglitched x.a)))).runSteps (i + 1) rx r
    | 4 => ((s.xferOut x).setS x.b (w32 (beNum (sliceB (rx.headD []) 0 x.n)))).runSteps (i + 1) (rx.drop 1) r
    | 5 => (s.setS x.a ((reg x.a >>> x.b) &&& x.arg)).runSteps (i + 1) rx r
    | 6 =>
      if cmpHolds (x.b % 4) (reg x.a).toInt x.arg.toInt then
        if bitAt x.b 7 then s.endCycle else (s.wakeNow 1 i).endCycle
      else s.runSteps (i + 1) rx r
    | _ => s.endCycle

/-- The lowest bank of a program whose VIO is absent (R451). -/
def State.deadBank (s : State) (d : Drizzle) : Option Nat :=
  (List.range 6).find? fun b => !(s.bank b).live && d.allPins.any fun n => n / 16 == b

/-- A start of PERIOD (R449, R451). -/
def State.drizzleStart (s : State) (d : Drizzle) (rx : List (List Byte)) : State :=
  let p := s.power
  let s1 := { s with power := { p with nextCycle := p.nextCycle + d.period } }
  if p.inCycle then { s1 with power := { s1.power with overruns := (p.overruns + 1) % 2 ^ 32 } }
  else
    match s.deadBank d with
    | some b => s1.wakeNow 2 b
    | none =>
      let s2 := s1.openCycle d
      { s2 with power := { s2.power with
          inCycle := true, cycles := (p.cycles + 1) % 2 ^ 32, step := 0 } }.runSteps 0 rx d.steps

/-- Entry is complete. -/
def State.asleep (s : State) : Bool := s.power.st != .run && s.raceNow == 0

/-! ### Rows -/

/-- WAKE_RECORD_READ (R445). -/
def execWakeRecordRead (m : Nat) (s : State) : Out :=
  command s m 0x0703 anyP fun p => if p.length = 0 then .done s 0 s.aon.wake.bytes else .no s 4

/-- WAKE_INPUT (R439 to R441). -/
def execWakeInput (w : WakeBy) (s : State) : Out :=
  ok (wakeExists w) (when_ (s.power.st != .run) (s.wakeFrom w) s)

/-- SLEEP_EXIT (R441 to R443): after a wake, once entry is complete. -/
def execSleepExit (s : State) : Out :=
  ok true <|
    match s.power.wake with
    | some w => when_ s.asleep (s.leaveSleep w) s
    | none => s

/-- DRIZZLE_CYCLE (R449): a multiple of PERIOD after entry has come. -/
def execDrizzleCycle (rx : List (List Byte)) (s : State) : Out :=
  let due := s.power.st == .drizzle && s.asleep && s.power.wake.isNone && decide (s.power.nextCycle ≤ s.sleptNow)
  ok true <|
    match s.aon.drizzle with
    | some d => when_ due (s.drizzleStart d rx) s
    | none => s

/-- DRIZZLE_WAIT_END (R447). -/
def execDrizzleWaitEnd (rx : List (List Byte)) (s : State) : Out :=
  let p := s.power
  let due := p.inCycle && p.wake.isNone && p.waitEnd.any fun t => decide (t ≤ p.ticks)
  ok true <|
    match s.aon.drizzle with
    | some d =>
      when_ due ({ s with power := { p with waitEnd := none } }.runSteps p.step rx (d.steps.drop p.step)) s
    | none => s

/-- LINK_WAKE_REQUEST (R269, R440): in Run source 275 + 4p fires; else it is a wake input. -/
def execLinkWakeRequest (p : Nat) (s : State) : Out :=
  ok (decide (p < 4)) (if s.power.st = .run then s.fire (275 + 4 * p) else s.wakeFrom (.linkPort p))

/-- AON_OSCILLATOR_STOP (R284). -/
def execAonOscillatorStop (s : State) : Out :=
  ok true { s with aon := { s.aon with oscStopped := true } }

/-- POWER_LOSS (R497, R429): everything but OTP and flash is lost until a cold start; pins float with their
banks' supplies gone. -/
def execPowerLoss (s : State) : Out :=
  let s1 := { s with faults := { held := [.power] } }.restartCore
  ok true { s1 with
    aon := {}, time := {}, router := Router.booted
    fio := { s1.fio with
      banks := []
      pins := s1.fio.pins.map fun (e : Nat × Pin) =>
        (e.1, { padMv := e.2.padMv, recv := e.2.recv, recvAt := e.2.recvAt : Pin }) }
    pace := { vddCin := 0, okVdd := 0 }
    fabric := {}, mgmt := { up := false }, dbgBlock := {}, service := {} }

end Sys2Proof.Machine
end

