-- ==== Sys2Proof/Machine/TileAlu.lean ====
section
/-! DEFINITION. The register-register instructions (R101) but for MOV, which stands in TileCode.lean with the decode
trap of its bytes. -/

namespace Sys2Proof.Machine

/-- ADD (R101). -/
def execAdd (p : Nat) (x : Pfx) (d src : Fin 16) (s : State) : Out :=
  s.tileExec p 2 x (decW x [d, src]) fun o n =>
    .go (n.wrF x.wide d (addF (opW x.wide) (o.rd x.wide d) (o.rd x.wide src) 0 o.fl))

/-- ADC (R101). -/
def execAdc (p : Nat) (x : Pfx) (d src : Fin 16) (s : State) : Out :=
  s.tileExec p 2 x (decW x [d, src]) fun o n =>
    .go (n.wrF x.wide d (addF (opW x.wide) (o.rd x.wide d) (o.rd x.wide src) (b2n o.fl.c) o.fl))

/-- SUB (R101). -/
def execSub (p : Nat) (x : Pfx) (d src : Fin 16) (s : State) : Out :=
  s.tileExec p 2 x (decW x [d, src]) fun o n =>
    .go (n.wrF x.wide d (subF (opW x.wide) (o.rd x.wide d) (o.rd x.wide src) 0 o.fl))

/-- SBC (R101). -/
def execSbc (p : Nat) (x : Pfx) (d src : Fin 16) (s : State) : Out :=
  s.tileExec p 2 x (decW x [d, src]) fun o n =>
    .go (n.wrF x.wide d (subF (opW x.wide) (o.rd x.wide d) (o.rd x.wide src) (b2n o.fl.c) o.fl))

/-- AND (R101). -/
def execAnd (p : Nat) (x : Pfx) (d src : Fin 16) (s : State) : Out :=
  s.tileExec p 2 x (decW x [d, src]) fun o n =>
    .go (n.wrF x.wide d (logicF (opW x.wide) (o.rd x.wide d &&& o.rd x.wide src) o.fl))

/-- OR (R101). -/
def execOr (p : Nat) (x : Pfx) (d src : Fin 16) (s : State) : Out :=
  s.tileExec p 2 x (decW x [d, src]) fun o n =>
    .go (n.wrF x.wide d (logicF (opW x.wide) (o.rd x.wide d ||| o.rd x.wide src) o.fl))

/-- XOR (R101). -/
def execXor (p : Nat) (x : Pfx) (d src : Fin 16) (s : State) : Out :=
  s.tileExec p 2 x (decW x [d, src]) fun o n =>
    .go (n.wrF x.wide d (logicF (opW x.wide) (o.rd x.wide d ^^^ o.rd x.wide src) o.fl))

/-- MUL (R101): the pair at an even d; both operands are read before it is written. -/
def execMul (p : Nat) (x : Pfx) (d src : Fin 16) (s : State) : Out :=
  s.tileExec p 2 x (decN x (odd d)) fun o n => .go (n.wrF true d (mulF false (o.dreg d) (o.dreg src) o.fl))

/-- MULS (R101): the pair at an even d; both operands are read before it is written. -/
def execMuls (p : Nat) (x : Pfx) (d src : Fin 16) (s : State) : Out :=
  s.tileExec p 2 x (decN x (odd d)) fun o n => .go (n.wrF true d (mulF true (o.dreg d) (o.dreg src) o.fl))

/-- NOT (R101). -/
def execNot (p : Nat) (x : Pfx) (d : Fin 16) (s : State) : Out :=
  s.tileExec p 2 x (decW x [d]) fun o n =>
    .go (n.wrF x.wide d (logicF (opW x.wide) (2 ^ opW x.wide - 1 - o.rd x.wide d) o.fl))

/-- NEG (R101). -/
def execNeg (p : Nat) (x : Pfx) (d : Fin 16) (s : State) : Out :=
  s.tileExec p 2 x (decW x [d]) fun o n =>
    .go (n.wrF x.wide d (subF (opW x.wide) 0 (o.rd x.wide d) 0 o.fl))

/-- INC (R101): the Step group. -/
def execInc (p : Nat) (x : Pfx) (d : Fin 16) (s : State) : Out :=
  s.tileExec p 2 x (decW x [d]) fun o n =>
    .go (n.wrF x.wide d (o.fl.step (addF (opW x.wide) (o.rd x.wide d) 1 0 o.fl)))

/-- DEC (R101): the Step group. -/
def execDec (p : Nat) (x : Pfx) (d : Fin 16) (s : State) : Out :=
  s.tileExec p 2 x (decW x [d]) fun o n =>
    .go (n.wrF x.wide d (o.fl.step (subF (opW x.wide) (o.rd x.wide d) 1 0 o.fl)))

/-- SWAP (R101): the nibbles, or the bytes of the pair. -/
def execSwap (p : Nat) (x : Pfx) (d : Fin 16) (s : State) : Out :=
  s.tileExec p 2 x (decW x [d]) fun o n =>
    .go (n.wrF x.wide d (let h := opW x.wide / 2
      let v := o.rd x.wide d
      swapF (opW x.wide) (v / 2 ^ h + v % 2 ^ h * 2 ^ h) o.fl))

/-- MOVP (R101). -/
def execMovp (p : Nat) (x : Pfx) (pd ps : Fin 8) (s : State) : Out :=
  s.tileExec p 2 x (decN x false) fun o n => .go (n.setP pd o.p[ps])

/-- MOVPW (R101). -/
def execMovpw (p : Nat) (x : Pfx) (pd : Fin 8) (src : Fin 16) (s : State) : Out :=
  s.tileExec p 2 x (decN x (odd src)) fun o n => .go (n.setP pd (BitVec.ofNat 16 (o.rd true src)))

/-- MOVWP (R101). -/
def execMovwp (p : Nat) (x : Pfx) (d : Fin 16) (ps : Fin 8) (s : State) : Out :=
  s.tileExec p 2 x (decN x (odd d)) fun o n => .go (n.wr true d o.p[ps].toNat)

/-- ADDPW (R101). -/
def execAddpw (p : Nat) (x : Pfx) (pd : Fin 8) (src : Fin 16) (s : State) : Out :=
  s.tileExec p 2 x (decN x (odd src)) fun o n =>
    .go (n.setP pd (o.p[pd] + BitVec.ofNat 16 (o.rd true src)))

/-- ADDPB (R101). -/
def execAddpb (p : Nat) (x : Pfx) (pd : Fin 8) (src : Fin 16) (s : State) : Out :=
  s.tileExec p 2 x (decN x false) fun o n => .go (n.setP pd (o.p[pd] + BitVec.ofNat 16 (o.dreg src)))

end Sys2Proof.Machine
end

