-- ==== Sys2Proof/Machine/TileBit.lean ====
section
/-! DEFINITION. Bit and guard instructions (R109). -/

namespace Sys2Proof.Machine

/-- BSET (R109). -/
def execBset (p : Nat) (x : Pfx) (d : Fin 16) (b : Fin 8) (s : State) : Out :=
  s.tileExec p 2 x (decN x false) fun o n =>
    .go (n.setD d (o.dreg d ||| 2 ^ b.val))

/-- BCLR (R109). -/
def execBclr (p : Nat) (x : Pfx) (d : Fin 16) (b : Fin 8) (s : State) : Out :=
  s.tileExec p 2 x (decN x false) fun o n =>
    .go (n.setD d (o.dreg d &&& (255 - 2 ^ b.val)))

/-- BTGL (R109). -/
def execBtgl (p : Nat) (x : Pfx) (d : Fin 16) (b : Fin 8) (s : State) : Out :=
  s.tileExec p 2 x (decN x false) fun o n =>
    .go (n.setD d (o.dreg d ^^^ 2 ^ b.val))

/-- BTST (R109). -/
def execBtst (p : Nat) (x : Pfx) (d : Fin 16) (b : Fin 8) (i : Bool) (g : Fin 8) (s : State) : Out :=
  s.tileExec p 3 x (decN x false) fun o n =>
    .go (n.setG g (bitAt (o.dreg d) b.val ^^ i))

/-- GAND (R109). -/
def execGand (p : Nat) (x : Pfx) (g a b : Fin 8) (i : Bool) (s : State) : Out :=
  s.tileExec p 3 x (decN x false) fun o n =>
    .go (n.setG g (o.guard a && (o.guard b ^^ i)))

/-- GOR (R109). -/
def execGor (p : Nat) (x : Pfx) (g a b : Fin 8) (i : Bool) (s : State) : Out :=
  s.tileExec p 3 x (decN x false) fun o n =>
    .go (n.setG g (o.guard a || (o.guard b ^^ i)))

/-- GXOR (R109). -/
def execGxor (p : Nat) (x : Pfx) (g a b : Fin 8) (i : Bool) (s : State) : Out :=
  s.tileExec p 3 x (decN x false) fun o n =>
    .go (n.setG g (o.guard a ^^ (o.guard b ^^ i)))

/-- GMOV (R109). -/
def execGmov (p : Nat) (x : Pfx) (g a : Fin 8) (s : State) : Out :=
  s.tileExec p 3 x (decN x false) fun o n =>
    .go (n.setG g (o.guard a))

/-- The guards as a byte; bit 0 reads 1 (R109). -/
def Tile.guardByte (t : Tile) : Nat :=
  ((List.range 8).map fun i => b2n (t.guard (Fin.ofNat 8 i)) * 2 ^ i).sum

/-- Guards 1 to 7 from a byte (R109). -/
def Tile.setGuards (t : Tile) (v : Nat) : Tile :=
  (List.range 8).foldl (fun t i => t.setG (Fin.ofNat 8 i) (bitAt v i)) t

/-- GTOD (R109). -/
def execGtod (p : Nat) (x : Pfx) (d : Fin 16) (s : State) : Out :=
  s.tileExec p 2 x (decN x false) fun o n =>
    .go (n.setD d o.guardByte)

/-- DTOG (R109). -/
def execDtog (p : Nat) (x : Pfx) (src : Fin 16) (s : State) : Out :=
  s.tileExec p 2 x (decN x false) fun o n =>
    .go (n.setGuards (o.dreg src))

end Sys2Proof.Machine
end

