-- ==== Sys2Proof/Machine/TileSys.lean ====
section
/-! DEFINITION. The system instructions (R110 to R118), the custom instruction (R121 to R133), event entry
and wake (R81, R87), and the system registers that have rows of their own (R76 to R78, R134, R135, R163). -/

namespace Sys2Proof.Machine

/-! ### SEND -/

/-- SEND (R112, R157, R158): the descriptor's words are read by the tile's own port, so an uncorrectable
error there traps with cause 0x6; a bad descriptor traps with cause 0xA. -/
def execSend (p : Nat) (x : Pfx) (b g : Fin 8) (s : State) : Out :=
  s.tileExec p 2 x (decN x false) fun o n =>
    let a := o.p[b]
    if o.anyBad a 16 then .bad a
    else if descBad (o.bytes a 16) then .trap 0xA 0
    else .act n fun s1 => s1.sendAt p a g

/-! ### Gate operations -/

/-- The reply cannot come yet: the tile is fenced or serves no logical tile, or it is a partner ahead of its primary
(R111, R335). -/
def State.gateWaits (s : State) (p : Nat) : Bool :=
  s.silentTile p ||
    match s.roleOf p with
    | .partner _ d => (tfind? (d.nPart + 1) d.log).isNone
    | _ => false

/-- A request of tile `p` to the crossbar port that `addr` lies behind is still on its way, so a gate operation there
comes after it (R154). -/
def State.gateBehind (s : State) (p addr : Nat) : Bool :=
  s.flight.any fun m => m.srcPhys == p && m.srcDev == s.device && m.dev == s.device && m.space == 1 &&
    unitPort m.addr == unitPort addr

/-- The gate operation with reply `r` cannot end yet. -/
def State.gateHolds (s : State) (p addr : Nat) (r : Reply) : Bool :=
  (s.gateWaits p && r == .good) || s.gateBehind p addr

/-- Requests of tile `p` for the unit at `addr` failed: a late one reports the unit, an unmasked CRC failure the tile
(R156, R318). -/
def State.noteFails (s : State) (p addr arg : Nat) (l : List ReqFail) : State :=
  l.foldl (fun u f =>
    match f with
    | .late => u.report 2 (0x8000 + unitPort addr) 0xFFFF 0 arg
    | .crc => u.report 7 p (u.ownerOf p) 0 0x88
    | .refused => u) s

/-- A gate operation as an instruction performs it once it retires: `fin` writes the outcome, which comes from
the record with the GATE_OP's OPNUM; with no such record it is an error completion, and line 12 becomes pending
(R111, R175). -/
def State.gateInstr (s : State) (p addr opc target : Nat) (entry : W32) (r : Reply)
    (apply : State → Nat → State × Option Result) (fin : Option Result → Tile → Tile) : State :=
  let lostOp : State → Nat → State × Option Result := fun s1 n => (s1, s1.outcomeOf addr p n)
  let done (q : State × Option Result) : State :=
    let t := fin q.2 (q.1.tile p)
    (q.1.setTile p (if q.2.isNone then t.raise 12 else t)).noteFails p addr (s.tile p).opnum.toNat r.fails
  match r with
  | .good | .beaten | .found _ => done ((s.gateOp p addr opc target entry apply).getD (s, none))
  | .missed _ => done ((s.gateOp p addr opc target entry lostOp).getD (s, none))
  | .lost applied _ =>
    let q := (s.gateOp p addr opc target entry (if applied then apply else lostOp)).getD (s, none)
    done (q.1, none)

/-- Unit address of queue `q`. -/
def queueAddr (q : Nat) : Nat := 0x10090000 + q * 0x40
/-- Unit address of the dispatcher of court `c`. -/
def dispAddr (c : Nat) : Nat := 0x10120000 + c * 0x800

/-- The 32-bit entry of QPUSH: Dd to Dd+3 (R114). -/
def Tile.entry32 (t : Tile) (r : Fin 16) : W32 :=
  w32 (t.dreg r + 256 * t.dreg (r + 1) + 65536 * t.dreg (r + 2) + 16777216 * t.dreg (r + 3))

/-- Write the outcome of QPOP: tag to Dd, data to Dd+1 to Dd+4, tag bit 0 to the guard (R114). -/
def Tile.popInto (t : Tile) (d : Fin 16) (g : Fin 8) (tag : Nat) (v : W32) : Tile :=
  (((((t.setD d tag).setD (d + 1) (v.toNat % 256)).setD (d + 2) (v.toNat / 256 % 256)).setD (d + 3)
    (v.toNat / 65536 % 256)).setD (d + 4) (v.toNat / 16777216)).setG g (bitAt tag 0)

/-- QPUSH (R113, R114). -/
def execQpush (p : Nat) (x : Pfx) (d : Fin 16) (q : W16) (g : Fin 8) (r : Reply) (s : State) : Out :=
  let key := [0xE1, d.val, q.toNat, g.val]
  s.tileExecW p 4 x (decN x (d.val % 4 != 0 || decide (512 ≤ q.toNat)) (if d.val % 4 = 0 then 4 else 2)) key fun o n =>
    if 304 ≤ q.toNat then .trap 0xA 0
    else if s.gateHolds p (queueAddr q.toNat) r then .wait key
    else .act n fun s1 =>
      s1.gateInstr p (queueAddr q.toNat) 1 q.toNat (o.entry32 d) r
        (fun s2 opnum => s2.gatePush q.toNat p opnum (o.entry32 d))
        (fun res t => t.setG g (res.any fun a => a.res == 1))

/-- QPOP (R113, R114). -/
def execQpop (p : Nat) (x : Pfx) (d : Fin 16) (q : W16) (g : Fin 8) (r : Reply) (s : State) : Out :=
  let key := [0xE2, d.val, q.toNat, g.val]
  s.tileExecW p 4 x (decN x (decide (11 < d.val) || decide (512 ≤ q.toNat)) (if d.val ≤ 11 then 4 else 2)) key fun _ n =>
    if 304 ≤ q.toNat then .trap 0xA 0
    else if s.gateHolds p (queueAddr q.toNat) r then .wait key
    else .act n fun s1 =>
      s1.gateInstr p (queueAddr q.toNat) 2 q.toNat 0 r
        (fun s2 opnum => s2.gatePop q.toNat p opnum)
        (fun res t =>
          match res with
          | some a => t.popInto d g a.res.toNat a.data
          | none => t.popInto d g 0 0)

/-- The court that TREADY and TCANCEL name: 0 to 15, or 0xFF for the tile's own (R117); a tile that serves no
logical tile has no own court, and 0xFF is an operand error there (log 32). -/
def State.namedCourt (s : State) (p v : Nat) : Option Nat :=
  if v < 16 then some v else if v = 0xFF then (s.identOf p).map (· / 64) else none

/-- TREADY (R117); beaten by a cancel of its slot in the same resolution, it is discarded (R194). -/
def execTready (p : Nat) (x : Pfx) (d : Fin 16) (g : Fin 8) (r : Reply) (s : State) : Out :=
  let key := [0xE6, d.val, g.val]
  s.tileExecW p 2 x (decN x (odd d)) key fun o n =>
    match s.namedCourt p (o.dreg (d + 1)) with
    | none => .trap 0xA 0
    | some c =>
      if s.gateHolds p (dispAddr c) r then .wait key
      else .act n fun s1 =>
        s1.gateInstr p (dispAddr c) 3 (o.dreg d) 0 r
          (fun s2 opnum => if r = .beaten then s2.gateBeaten c p opnum else s2.gateReady c (o.dreg d) p opnum)
          (fun res t => t.setG g (res.any fun a => a.res == 1))

/-- TCANCEL (R117). -/
def execTcancel (p : Nat) (x : Pfx) (d : Fin 16) (g : Fin 8) (r : Reply) (s : State) : Out :=
  let key := [0xE7, d.val, g.val]
  s.tileExecW p 2 x (decN x (odd d)) key fun o n =>
    match s.namedCourt p (o.dreg (d + 1)) with
    | none => .trap 0xA 0
    | some c =>
      if s.gateHolds p (dispAddr c) r then .wait key
      else .act n fun s1 =>
        s1.gateInstr p (dispAddr c) 4 (o.dreg d) 0 r
          (fun s2 opnum => s2.gateCancel c (o.dreg d) p opnum)
          (fun res t => t.setG g (res.any fun a => a.res == 1))

/-- TDONE (R118): with a good reply RUN reads 0; with an error completion both registers keep their
values. -/
def execTdone (p : Nat) (x : Pfx) (r : Reply) (s : State) : Out :=
  s.tileExecW p 1 x (decN x false) [0xE8] fun o n =>
    if !o.taskRun then .trap 0xA 0
    else if s.gateHolds p (dispAddr (s.ownerOf p / 64)) r then .wait [0xE8]
    else
      let c := s.ownerOf p / 64
      .act n fun s1 =>
        s1.gateInstr p (dispAddr c) 5 0 0 r
          (fun s2 opnum => s2.gateTdone c p opnum)
          (fun res t => if res.isSome then { t with taskRun := false, task := 0xFF } else t)

/-! ### TIME, STIM, SLEEP -/

/-- The 10 bytes of TIME (R115). -/
def State.timeBytes (s : State) : List Byte := leBytes s.time.ns 4 ++ leBytes s.time.sec 6

/-- TIME (R111, R115). -/
def execTime (p : Nat) (x : Pfx) (b g : Fin 8) (r : Reply) (s : State) : Out :=
  s.tileExec p 2 x (decN x false) fun o n =>
    match r with
    | .lost _ l | .missed l => .act ((n.setG g false).raise 12) fun s1 => s1.noteFails p 0x10030000 0 l
    | .beaten => .go ((n.setG g false).raise 12)
    | .good | .found _ =>
      let a := o.p[b]
      if o.storeBad a 10 then .bad a
      else .go (((n.storeBytes a s.timeBytes).freshen a 10).setG g (!s.time.unknown))

/-- STIM (R116, R491): no effect while the port is not enabled.  A tile that serves no logical tile sends 0 in
SRC's tile bits (log 32). -/
def execStim (p : Nat) (x : Pfx) (port : Fin 32) (d : Fin 16) (n : Fin 8) (s : State) : Out :=
  s.tileExec p 3 x (decN x false) fun o t =>
    if 15 < d.val + n.val then .trap 0xA 0
    else .act t fun s1 =>
      if bitq s1.dbgBlock.stimEn port.val && s1.dbgBlock.traceCtl.getLsbD 0 then
        s1.trace 1 ((s1.identOf p).getD 0 * 32 + port.val)
          ((List.range (n.val + 1)).map fun i => o.d[Fin.ofNat 16 (d.val + i)])
      else s1

/-- SLEEP (R87, R88): stops fetch unless an enabled line is already pending. -/
def execSleep (p : Nat) (x : Pfx) (s : State) : Out :=
  s.tileExec p 1 x (decN x false) fun _ n =>
    .act n fun s1 =>
      let t := s1.tile p
      if t.lineUp then s1 else s1.setTile p { t with run := .sleeping, prefetch := [] }

/-! ### System registers -/

/-- GETS (R75 to R77). -/
def execGets (p : Nat) (x : Pfx) (d : Fin 16) (sys : Byte) (s : State) : Out :=
  s.tileExec p 3 x (decN x false) fun o n =>
    .go ((n.snapPcnt sys.toNat).setD d (s.sysRead p o sys.toNat).toNat)

/-- SETS (R75 to R77). -/
def execSets (p : Nat) (x : Pfx) (src : Fin 16) (sys : Byte) (s : State) : Out :=
  s.tileExec p 3 x (decN x false) fun o n => .go (s.sysWrite p n sys.toNat o.d[src])

/-- SYS_PCNT0 (R76): GETS of 0x20 takes the snapshot of the pace counter. -/
def execSysPcnt0 (p : Nat) (x : Pfx) (d : Fin 16) (s : State) : Out :=
  s.tileExec p 3 x (decN x false) fun o n => .go ((n.snapPcnt 0x20).setD d (s.sysRead p o 0x20).toNat)

/-- SYS_DTDAT2 (R134): SETS of 0x33 writes the shadow micro-op. -/
def execSysDtdat2 (p : Nat) (x : Pfx) (src : Fin 16) (s : State) : Out :=
  s.tileExec p 3 x (decN x false) fun o n => .go (s.sysWrite p n 0x33 o.d[src])

/-- SYS_DTCMT (R135): SETS of 0x34 commits a shadow entry. -/
def execSysDtcmt (p : Nat) (x : Pfx) (src : Fin 16) (s : State) : Out :=
  s.tileExec p 3 x (decN x false) fun o n => .go (s.sysWrite p n 0x34 o.d[src])

/-- SYS_RXSIZE (R163): SETS of 0x1A, or of 0x19 (SYS_RXBASE_HI), zeroes head and tail. -/
def execSysRxsize (p : Nat) (x : Pfx) (baseHi : Bool) (src : Fin 16) (s : State) : Out :=
  s.tileExec p 3 x (decN x false) fun o n =>
    .go (s.sysWrite p n (if baseHi then 0x19 else 0x1A) o.d[src])

/-! ### RETE, TRAP, FENCE -/

/-- RETE (R83): chains while an enabled line is pending, else returns. -/
def execRete (p : Nat) (x : Pfx) (s : State) : Out :=
  s.tileExec p 1 x (decN x false) fun o n =>
    if !o.inh then .trap 9 0
    else if n.lineUp then .jump { n with act := 0, chain := true } n.vec
    else
      .jump { n with act := 0, fl := Flags.ofByte n.sst, evOn := true, inh := false, chain := false }
        n.spc

/-- TRAP (R85): retires, then takes entry with cause 0x7 and its immediate. -/
def execTrap (p : Nat) (x : Pfx) (imm : Byte) (s : State) : Out :=
  s.tileExec p 2 x (decN x false) fun _ n =>
    .act n fun s1 => s1.tileTrap p 7 imm (s1.tile p) (s1.tile p).pc

/-- FENCE (R67): the prefetched words are discarded. -/
def execFence (p : Nat) (x : Pfx) (s : State) : Out :=
  s.tileExec p 1 x (decN x false) fun _ n =>
    .act n fun s1 => s1.setTile p { s1.tile p with prefetch := [] }

/-! ### The custom instruction -/

/-- Fields that the operand mode does not supply read as zero (R122, R123). -/
def custFields (c : CustomArgs) : CustomArgs :=
  let m := c.mode.val
  { c with
    a := if m = 1 ∨ m = 3 ∨ m = 5 ∨ m = 6 ∨ m = 7 then c.a else 0
    b := if m = 1 ∨ m = 3 then c.b else 0
    pf := if m = 5 ∨ m = 6 then c.pf else 0
    gf := if m = 7 then c.gf else 0
    k := if m = 2 ∨ m = 3 ∨ m = 4 ∨ m = 6 then c.k else 0 }

/-- Bytes from the custom prefix on (R122). -/
def custLen (m : Nat) : Nat :=
  match m with
  | 1 | 2 | 5 | 7 => 3
  | 3 | 4 | 6 => 4
  | _ => 2

/-- A 16-bit use of A or B while that field names an odd register (R124). -/
def custOdd (c : CustomArgs) (us : List W24) : Bool :=
  us.any fun u => (wideUses u).any fun x => (x == 0x14 && odd c.a) || (x == 0x15 && odd c.b)

/-- The decode trap of a custom instruction: a selector byte that is a prefix by R94, but for those of entry 15,
gives 0x2, and a reserved mode 0x1 (log 8). -/
def decCust (x : Pfx) (c : CustomArgs) : Option (Nat × Nat) :=
  if x.wide then some (2, 1)
  else if 8 ≤ c.mode.val then
    some (if c.entry.val = 15 ∨ c.entry.val = 14 ∧ 14 ≤ c.mode.val then 2 else 1, 2)
  else none

/-- Run an entry with no remote access between its micro-ops (R125 to R132). -/
def custPlain (f : CustomArgs) (us : List W24) (k : UCtx) : Eff :=
  match uRun f us.length us k with
  | .error a => .bad a
  | .ok k => .act k.finish fun s1 => { s1 with free := s1.free + 4 }

/-- A custom instruction (R121 to R133), with `run` what running the entry does.  T0 to T3 start with free values
(R126). -/
def State.custom (s : State) (p : Nat) (x : Pfx) (c : CustomArgs) (run : CustomArgs → List W24 → UCtx → Eff) : Out :=
  let f := custFields c
  s.tileExec p (custLen c.mode.val) x (decCust x c) fun o n =>
    match tfind? f.entry.val o.active with
    | none => .trap 8 (BitVec.ofNat 8 f.entry.val)
    | some us =>
      if custOdd f us then .trap 1 0
      else
        let temps : Vector W16 4 := Vector.ofFn fun i => Config.freeWord (s.free + i.val)
        run f us { m := o, n := n, t := temps, due := none }

/-! ### Entry and wake -/

/-- EVENT_ENTRY (R81): taken at a boundary that does not follow a load, while EV_ON is set and an enabled
line is pending. -/
def execEventEntry (p : Nat) (s : State) : Out :=
  let t := s.tile p
  let due := s.goes p && t.due
  ok (decide (p < 1088)) (when_ due (s.setTile p (t.enter t.pc)) s)

/-- TILE_WAKE (R87): an enabled line is pending; with EV_ON the tile takes entry. -/
def execTileWake (p : Nat) (s : State) : Out :=
  let t := s.tile p
  let due := t.run == .sleeping && t.lineUp && !s.dbgBlock.frost && s.running
  let t1 := { t with run := .running }
  ok (decide (p < 1088)) (when_ due (s.setTile p (if t.evOn then t1.enter t1.pc else t1)) s)

/-- PACE_COMPARE_MATCH (R78): the last retirement made the counter equal SYS_PCMP. -/
def execPaceCompareMatch (p : Nat) (s : State) : Out :=
  let t := s.tile p
  ok (decide (p < 1088)) (when_ (t.pcHit && s.running) (s.setTile p { t.raise 11 with pcHit := false }) s)

end Sys2Proof.Machine
end

