-- ==== Sys2Proof/Machine/TileCode.lean ====
section
/-! DEFINITION. The byte encoding of the tile instructions (R92 to R97, R101 to R110, R121, R122): a
decoder, an encoder beside it, and MOV, whose row also takes bytes that trap at decode. -/

namespace Sys2Proof.Machine

/-- What bytes decode to: an instruction with its length, a decode trap (R94 to R96, R510), or too few
bytes. -/
inductive TDec where
  | insn (i : Instr) (len : Nat)
  | trap (cause : Nat)
  | short
  deriving DecidableEq, Repr

/-- Bits [7:4] as a data register. -/
def hiReg (b : Byte) : Fin 16 := Fin.ofNat 16 (b.toNat / 16)
/-- Bits [3:0] as a data register. -/
def loReg (b : Byte) : Fin 16 := Fin.ofNat 16 b.toNat
/-- Bits [6:4] as a pointer or guard. -/
def hiPtr (b : Byte) : Fin 8 := Fin.ofNat 8 (b.toNat / 16)
/-- Bits [2:0] as a pointer or guard. -/
def loPtr (b : Byte) : Fin 8 := Fin.ofNat 8 b.toNat
/-- A 16-bit operand of two bytes, low byte first. -/
def w16Of (a b : Byte) : W16 := BitVec.ofNat 16 (a.toNat + 256 * b.toNat)
/-- Operand bits that the format marks 0 (R96): one that is set traps at that byte, whatever follows it (R95). -/
def need0 (b mask : Byte) (d : TDec) : TDec := if b &&& mask = 0 then d else .trap 1

/-- Format R (R97). -/
def fR (bs : List Byte) (k : Fin 16 → Fin 16 → Instr) : TDec :=
  match bs with
  | a :: _ => .insn (k (hiReg a) (loReg a)) 1
  | _ => .short
/-- Format R with ssss = 0000. -/
def fR0 (bs : List Byte) (k : Fin 16 → Instr) : TDec :=
  match bs with
  | a :: _ => need0 a 0x0F (.insn (k (hiReg a)) 1)
  | _ => .short
/-- DTOG: 0000 ssss. -/
def f0R (bs : List Byte) (k : Fin 16 → Instr) : TDec :=
  match bs with
  | a :: _ => need0 a 0xF0 (.insn (k (loReg a)) 1)
  | _ => .short
/-- Format RP with two pointers. -/
def fPP (bs : List Byte) (k : Fin 8 → Fin 8 → Instr) : TDec :=
  match bs with
  | a :: _ => need0 a 0x88 (.insn (k (hiPtr a) (loPtr a)) 1)
  | _ => .short
/-- Format RP with a pointer and a data register. -/
def fPD (bs : List Byte) (k : Fin 8 → Fin 16 → Instr) : TDec :=
  match bs with
  | a :: _ => need0 a 0x80 (.insn (k (hiPtr a) (loReg a)) 1)
  | _ => .short
/-- Format RP with a data register and a pointer. -/
def fDP (bs : List Byte) (k : Fin 16 → Fin 8 → Instr) : TDec :=
  match bs with
  | a :: _ => need0 a 0x08 (.insn (k (hiReg a) (loPtr a)) 1)
  | _ => .short
/-- An immediate of one byte, or of two in the wide form. -/
def fImm (wide : Bool) (bs : List Byte) (k : W16 → Instr) : TDec :=
  match wide, bs with
  | false, a :: _ => .insn (k (a.zeroExtend 16)) 1
  | true, a :: b :: _ => .insn (k (w16Of a b)) 2
  | _, _ => .short
/-- A signed offset of one byte, or of two in the wide form. -/
def fB (wide : Bool) (bs : List Byte) (k : W16 → Instr) : TDec :=
  match wide, bs with
  | false, a :: _ => .insn (k (a.signExtend 16)) 1
  | true, a :: b :: _ => .insn (k (w16Of a b)) 2
  | _, _ => .short
/-- Format I. -/
def fI (wide : Bool) (bs : List Byte) (k : Fin 16 → W16 → Instr) : TDec :=
  match bs with
  | a :: r =>
    need0 a 0x0F <|
      match fImm wide r (k (hiReg a)) with
      | .insn i n => .insn i (n + 1)
      | d => d
  | _ => .short
/-- Format M of a data register. -/
def fM (wide : Bool) (bs : List Byte) (k : Fin 16 → Fin 8 → W16 → Instr) : TDec :=
  match bs with
  | a :: r =>
    need0 a 0x08 <|
      match fB wide r (k (hiReg a) (loPtr a)) with
      | .insn i n => .insn i (n + 1)
      | d => d
  | _ => .short
/-- Format M of a pointer; rrrr = 0rrr. -/
def fMP (wide : Bool) (bs : List Byte) (k : Fin 8 → Fin 8 → W16 → Instr) : TDec :=
  match bs with
  | a :: r =>
    need0 a 0x88 <|
      match fB wide r (k (hiPtr a) (loPtr a)) with
      | .insn i n => .insn i (n + 1)
      | d => d
  | _ => .short
/-- Format A, and PI. -/
def fA (bs : List Byte) (k : W16 → Instr) : TDec :=
  match bs with
  | a :: b :: _ => .insn (k (w16Of a b)) 2
  | _ => .short
/-- Format P. -/
def fP (bs : List Byte) (k : Fin 8 → Instr) : TDec :=
  match bs with
  | a :: _ => need0 a 0xF8 (.insn (k (loPtr a)) 1)
  | _ => .short
/-- One immediate byte. -/
def fB8 (bs : List Byte) (k : Byte → Instr) : TDec :=
  match bs with
  | a :: _ => .insn (k a) 1
  | _ => .short
/-- Format DJ. -/
def fDJ (bs : List Byte) (k : Fin 16 → Byte → Instr) : TDec :=
  match bs with
  | a :: b :: _ => need0 a 0x0F (.insn (k (hiReg a) b) 2)
  | a :: _ => need0 a 0x0F .short
  | _ => .short
/-- Format CG. -/
def fCG (bs : List Byte) (k : Fin 16 → Fin 16 → Fin 8 → Instr) : TDec :=
  match bs with
  | a :: b :: _ => need0 b 0xF8 (.insn (k (hiReg a) (loReg a) (loPtr b)) 2)
  | _ => .short
/-- Format CI. -/
def fCI (wide : Bool) (bs : List Byte) (k : Fin 16 → Fin 8 → W16 → Instr) : TDec :=
  match bs with
  | a :: r =>
    need0 a 0x08 <|
      match fImm wide r (k (hiReg a) (loPtr a)) with
      | .insn i n => .insn i (n + 1)
      | d => d
  | _ => .short
/-- DADJ: ssss = 000m. -/
def fAdj (bs : List Byte) (k : Fin 16 → Bool → Instr) : TDec :=
  match bs with
  | a :: _ => need0 a 0x0E (.insn (k (hiReg a) (a.getLsbD 0)) 1)
  | _ => .short
/-- dddd 0ggg or dddd 0bbb. -/
def fDG (bs : List Byte) (k : Fin 16 → Fin 8 → Instr) : TDec :=
  match bs with
  | a :: _ => need0 a 0x08 (.insn (k (hiReg a) (loPtr a)) 1)
  | _ => .short
/-- 0ggg 0ppp. -/
def fGP (bs : List Byte) (k : Fin 8 → Fin 8 → Instr) : TDec :=
  match bs with
  | a :: _ => need0 a 0x88 (.insn (k (hiPtr a) (loPtr a)) 1)
  | _ => .short
/-- Format BT. -/
def fBT (bs : List Byte) (k : Fin 16 → Fin 8 → Bool → Fin 8 → Instr) : TDec :=
  match bs with
  | a :: b :: _ =>
    need0 a 0x08 (need0 b 0xF0 (.insn (k (hiReg a) (loPtr a) (b.getLsbD 3) (loPtr b)) 2))
  | a :: _ => need0 a 0x08 .short
  | _ => .short
/-- Format GL; GMOV requires the second byte to be zero (R109). -/
def fGL (bs : List Byte) (p : Nat) (x : Pfx) : TDec :=
  match bs with
  | a :: b :: _ =>
    let g := Fin.ofNat 8 (a.toNat / 8)
    match a.toNat / 64 with
    | 0 => need0 b 0xF0 (.insn (.gand p x g (loPtr a) (loPtr b) (b.getLsbD 3)) 2)
    | 1 => need0 b 0xF0 (.insn (.gor p x g (loPtr a) (loPtr b) (b.getLsbD 3)) 2)
    | 2 => need0 b 0xF0 (.insn (.gxor p x g (loPtr a) (loPtr b) (b.getLsbD 3)) 2)
    | _ => need0 b 0xFF (.insn (.gmov p x g (loPtr a)) 2)
  | _ => .short
/-- Format Q. -/
def fQ (bs : List Byte) (k : Fin 16 → Fin 8 → W16 → Instr) : TDec :=
  match bs with
  | a :: b :: c :: _ => need0 a 0x08 (.insn (k (hiReg a) (loPtr a) (w16Of b c)) 3)
  | a :: _ => need0 a 0x08 .short
  | _ => .short
/-- STIM: n - 1 and the port, then dddd 0000. -/
def fSt (bs : List Byte) (k : Fin 32 → Fin 16 → Fin 8 → Instr) : TDec :=
  match bs with
  | a :: b :: _ =>
    need0 b 0x0F (.insn (k (Fin.ofNat 32 a.toNat) (hiReg b) (Fin.ofNat 8 (a.toNat / 32))) 2)
  | _ => .short
/-- Format Y. -/
def fY (bs : List Byte) (k : Fin 16 → Byte → Instr) : TDec :=
  match bs with
  | a :: b :: _ => need0 a 0x0F (.insn (k (hiReg a) b) 2)
  | a :: _ => need0 a 0x0F .short
  | _ => .short

/-- Opcodes that the tables mark W (R98). -/
def wideOk (op : Nat) : Bool :=
  decide (op ≤ 7) || decide (0x10 ≤ op ∧ op ≤ 0x14) || decide (0x40 ≤ op ∧ op ≤ 0x5F) ||
    decide (0x70 ≤ op ∧ op ≤ 0x75) || decide (0x78 ≤ op ∧ op ≤ 0x7E) ||
    decide (0x80 ≤ op ∧ op ≤ 0x86) || op == 0xA3 || op == 0xA6 ||
    decide (0xB0 ≤ op ∧ op ≤ 0xB7) || decide (0xC0 ≤ op ∧ op ≤ 0xCF) || op == 0xD0 || op == 0xD1

/-- Opcodes that no table lists (R96). -/
def unlisted (op : Nat) : Bool :=
  decide (0x0A ≤ op ∧ op ≤ 0x0F) || decide (0x15 ≤ op ∧ op ≤ 0x17) ||
    decide (0x1D ≤ op ∧ op ≤ 0x3F) || op == 0x76 || op == 0x77 || op == 0x7F ||
    decide (0x87 ≤ op ∧ op ≤ 0x9F) || decide (0xA7 ≤ op ∧ op ≤ 0xAF) ||
    decide (0xB8 ≤ op ∧ op ≤ 0xBE) || op == 0xD7 || op == 0xDF

/-- The operands of a listed opcode that has no register number in it. -/
def opDecode (p : Nat) (x : Pfx) (op : Nat) (bs : List Byte) : TDec :=
  match op with
  | 0x00 => fR bs fun d s => .mov p (.copy x d s)
  | 0x01 => fR bs (.add p x)
  | 0x02 => fR bs (.adc p x)
  | 0x03 => fR bs (.sub p x)
  | 0x04 => fR bs (.sbc p x)
  | 0x05 => fR bs (.and p x)
  | 0x06 => fR bs (.or p x)
  | 0x07 => fR bs (.xor p x)
  | 0x08 => fR bs (.mul p x)
  | 0x09 => fR bs (.muls p x)
  | 0x10 => fR0 bs (.not p x)
  | 0x11 => fR0 bs (.neg p x)
  | 0x12 => fR0 bs (.inc p x)
  | 0x13 => fR0 bs (.dec p x)
  | 0x14 => fR0 bs (.swap p x)
  | 0x18 => fPP bs (.movp p x)
  | 0x19 => fPD bs (.movpw p x)
  | 0x1A => fDP bs (.movwp p x)
  | 0x1B => fPD bs (.addpw p x)
  | 0x1C => fPD bs (.addpb p x)
  | 0x70 => fI x.wide bs (.subi p x)
  | 0x71 => fI x.wide bs (.adci p x)
  | 0x72 => fI x.wide bs (.sbci p x)
  | 0x73 => fI x.wide bs (.andi p x)
  | 0x74 => fI x.wide bs (.ori p x)
  | 0x75 => fI x.wide bs (.xori p x)
  | 0x78 => fR bs (.shl p x)
  | 0x79 => fR bs (.shr p x)
  | 0x7A => fR bs (.asr p x)
  | 0x7B => fR bs (.rol p x)
  | 0x7C => fR bs (.ror p x)
  | 0x7D => fR bs (.rlc p x)
  | 0x7E => fR bs (.rrc p x)
  | 0x80 => fM x.wide bs (.ld p x)
  | 0x81 => fM x.wide bs (.st p x)
  | 0x82 => fM x.wide bs (.ldw p x)
  | 0x83 => fM x.wide bs (.stw p x)
  | 0x84 => fMP x.wide bs (.ldp p x)
  | 0x85 => fMP x.wide bs (.stp p x)
  | 0x86 => fMP x.wide bs (.lea p x)
  | 0xA0 => fA bs (.jmp p x)
  | 0xA1 => fA bs (.call p x)
  | 0xA2 => .insn (.ret p x) 0
  | 0xA3 => fB x.wide bs (.bra p x)
  | 0xA4 => fP bs (.jmpp p x)
  | 0xA5 => fP bs (.callp p x)
  | 0xA6 => fDJ bs (.djnz p x)
  | 0xBF => .insn (.nop p x) 0
  | 0xD0 => fR bs (.dadd p x)
  | 0xD1 => fR bs (.dsub p x)
  | 0xD2 => fAdj bs (.dadj p x)
  | 0xD3 => fR bs (.dshl p x)
  | 0xD4 => fR bs (.dshr p x)
  | 0xD5 => fR bs (.b2d p x)
  | 0xD6 => fR bs (.d2b p x)
  | 0xD8 => fDG bs (.bset p x)
  | 0xD9 => fDG bs (.bclr p x)
  | 0xDA => fDG bs (.btgl p x)
  | 0xDB => fBT bs (.btst p x)
  | 0xDC => fGL bs p x
  | 0xDD => fR0 bs (.gtod p x)
  | 0xDE => f0R bs (.dtog p x)
  | 0xE0 => fGP bs fun g b => .send p x b g
  | 0xE1 => fQ bs fun d g q => .qpush p x d q g .good
  | 0xE2 => fQ bs fun d g q => .qpop p x d q g .good
  | 0xE3 => fGP bs fun g b => .time p x b g .good
  | 0xE4 => fSt bs (.stim p x)
  | 0xE5 => .insn (.sleep p x) 0
  | 0xE6 => fDG bs fun d g => .tready p x d g .good
  | 0xE7 => fDG bs fun d g => .tcancel p x d g .good
  | 0xE8 => .insn (.tdone p x .good) 0
  | 0xE9 => fY bs (.gets p x)
  | 0xEA => fY bs (.sets p x)
  | 0xEB => .insn (.rete p x) 0
  | 0xEC => fB8 bs (.trap p x)
  | 0xED => .insn (.fence p x) 0
  | _ => .trap 1

/-- The operands of a listed opcode (R101 to R110); the length counts operand bytes. -/
def operands (p : Nat) (x : Pfx) (op : Nat) (bs : List Byte) : TDec :=
  let r16 : Fin 16 := Fin.ofNat 16 op
  let r8 : Fin 8 := Fin.ofNat 8 op
  match op / 16 with
  | 4 => fImm x.wide bs (.movi p x r16)
  | 5 => fImm x.wide bs (.addi p x r16)
  | 6 => if op < 0x68 then fA bs (.movip p x r8) else fB8 bs (.addip p x r8)
  | 0xB => if op < 0xB8 then fB x.wide bs (.bcc p x r8) else opDecode p x op bs
  | 0xC => if op < 0xC8 then fCG bs (.cmpg p x r8) else fCI x.wide bs (.cmpgi p x r8)
  | _ => opDecode p x op bs

/-- The length of a decoded instruction with `n` bytes before its operands. -/
def TDec.plus (d : TDec) (n : Nat) : TDec :=
  match d with
  | .insn i k => .insn i (k + n)
  | d => d

/-- Bytes that may not follow a wide or custom prefix (R94): prefixes. -/
def isPrefixByte (b : Byte) : Bool := decide (0xEE ≤ b.toNat)

/-- The custom instruction after its prefix (R121, R122). -/
def custDecode (p : Nat) (x : Pfx) (sel : Byte) (bs : List Byte) : TDec :=
  let c : CustomArgs :=
    { entry := hiReg sel, mode := loReg sel, a := 0, b := 0, pf := 0, gf := 0, k := 0 }
  match sel.toNat % 16, bs with
  | 0, _ => .insn (.customInstruction p x ⟨c, []⟩) 0
  | 1, a :: _ => .insn (.customInstruction p x ⟨{ c with a := hiReg a, b := loReg a }, []⟩) 1
  | 2, a :: _ => .insn (.customInstruction p x ⟨{ c with k := a.zeroExtend 16 }, []⟩) 1
  | 3, a :: b :: _ =>
    .insn (.customInstruction p x ⟨{ c with a := hiReg a, b := loReg a, k := b.zeroExtend 16 }, []⟩) 2
  | 4, a :: b :: _ => .insn (.customInstruction p x ⟨{ c with k := w16Of a b }, []⟩) 2
  | 5, a :: _ => need0 a 0x08 (.insn (.customInstruction p x ⟨{ c with a := hiReg a, pf := loPtr a }, []⟩) 1)
  | 6, a :: b :: _ =>
    need0 a 0x08
      (.insn (.customInstruction p x ⟨{ c with a := hiReg a, pf := loPtr a, k := b.signExtend 16 }, []⟩) 2)
  | 6, a :: _ => need0 a 0x08 .short
  | 7, a :: _ => need0 a 0x08 (.insn (.customInstruction p x ⟨{ c with a := hiReg a, gf := loPtr a }, []⟩) 1)
  | m, _ => if 8 ≤ m then .trap 1 else .short

/-- A selector byte of entry 15 with a mode that R122 defines (log 8). -/
def entry15 (b : Byte) : Bool := decide (0xF0 ≤ b.toNat ∧ b.toNat < 0xF8)

/-- After the guard prefix. -/
def afterGuard (p : Nat) (g : Option (Bool × Fin 8)) (bs : List Byte) : TDec :=
  match bs with
  | [] => .short
  | b :: r =>
    if 0xF0 ≤ b.toNat then .trap 2
    else if b = 0xEE then
      match r with
      | [] => .short
      | o :: q =>
        if isPrefixByte o then .trap 2
        else if unlisted o.toNat then .trap 1
        else if wideOk o.toNat then (operands p ⟨g, true⟩ o.toNat q).plus 2
        else .trap 2
    else if b = 0xEF then
      match r with
      | [] => .short
      | o :: q => if isPrefixByte o && !entry15 o then .trap 2 else (custDecode p ⟨g, false⟩ o q).plus 2
    else if unlisted b.toNat then .trap 1
    else (operands p ⟨g, false⟩ b.toNat r).plus 1

/-- Decode the instruction at the front of some bytes for physical tile `p` (R92 to R96, R510). -/
def tileDecode (p : Nat) (bs : List Byte) : TDec :=
  match bs with
  | [] => .short
  | b :: r =>
    if 0xF0 ≤ b.toNat then (afterGuard p (some (decide (b.toNat < 0xF8), Fin.ofNat 8 b.toNat)) r).plus 1
    else afterGuard p none bs

/-! ### The encoder -/

/-- Prefix bytes (R92, R93). -/
def pfxBytes (x : Pfx) : List Byte :=
  (match x.guard with
   | none => []
   | some (sense, n) => [BitVec.ofNat 8 ((if sense then 0xF0 else 0xF8) + n.val)]) ++
  if x.wide then [0xEE] else []

/-- Two nibbles as a byte. -/
def nib (a b : Nat) : Byte := BitVec.ofNat 8 (16 * a + b)
/-- An operand of one byte, or of two in the wide form. -/
def immBytes (wide : Bool) (v : W16) : List Byte := if wide then [lo8 v, hi8 v] else [lo8 v]

/-- Operand bytes of a custom instruction (R122). -/
def custBytes (c : CustomArgs) : List Byte :=
  match c.mode.val with
  | 1 => [nib c.a c.b]
  | 2 => [lo8 c.k]
  | 3 => [nib c.a c.b, lo8 c.k]
  | 4 => [lo8 c.k, hi8 c.k]
  | 5 => [nib c.a c.pf]
  | 6 => [nib c.a c.pf, lo8 c.k]
  | 7 => [nib c.a c.gf]
  | _ => []

/-- The bytes of a tile instruction (R92, R97, R101 to R110, R121); none for the other commands. -/
def tileEncode (i : Instr) : Option (List Byte) :=
  match i with
  | .mov _ (.copy x d s) => some (pfxBytes x ++ [0x00, nib d s])
  | .add _ x d s => some (pfxBytes x ++ [0x01, nib d s])
  | .adc _ x d s => some (pfxBytes x ++ [0x02, nib d s])
  | .sub _ x d s => some (pfxBytes x ++ [0x03, nib d s])
  | .sbc _ x d s => some (pfxBytes x ++ [0x04, nib d s])
  | .and _ x d s => some (pfxBytes x ++ [0x05, nib d s])
  | .or _ x d s => some (pfxBytes x ++ [0x06, nib d s])
  | .xor _ x d s => some (pfxBytes x ++ [0x07, nib d s])
  | .mul _ x d s => some (pfxBytes x ++ [0x08, nib d s])
  | .muls _ x d s => some (pfxBytes x ++ [0x09, nib d s])
  | .not _ x d => some (pfxBytes x ++ [0x10, nib d 0])
  | .neg _ x d => some (pfxBytes x ++ [0x11, nib d 0])
  | .inc _ x d => some (pfxBytes x ++ [0x12, nib d 0])
  | .dec _ x d => some (pfxBytes x ++ [0x13, nib d 0])
  | .swap _ x d => some (pfxBytes x ++ [0x14, nib d 0])
  | .movp _ x d s => some (pfxBytes x ++ [0x18, nib d s])
  | .movpw _ x d s => some (pfxBytes x ++ [0x19, nib d s])
  | .movwp _ x d s => some (pfxBytes x ++ [0x1A, nib d s])
  | .addpw _ x d s => some (pfxBytes x ++ [0x1B, nib d s])
  | .addpb _ x d s => some (pfxBytes x ++ [0x1C, nib d s])
  | .movi _ x d v => some (pfxBytes x ++ BitVec.ofNat 8 (0x40 + d.val) :: immBytes x.wide v)
  | .addi _ x d v => some (pfxBytes x ++ BitVec.ofNat 8 (0x50 + d.val) :: immBytes x.wide v)
  | .movip _ x d v => some (pfxBytes x ++ [BitVec.ofNat 8 (0x60 + d.val), lo8 v, hi8 v])
  | .addip _ x d v => some (pfxBytes x ++ [BitVec.ofNat 8 (0x68 + d.val), v])
  | .subi _ x d v => some (pfxBytes x ++ 0x70 :: nib d 0 :: immBytes x.wide v)
  | .adci _ x d v => some (pfxBytes x ++ 0x71 :: nib d 0 :: immBytes x.wide v)
  | .sbci _ x d v => some (pfxBytes x ++ 0x72 :: nib d 0 :: immBytes x.wide v)
  | .andi _ x d v => some (pfxBytes x ++ 0x73 :: nib d 0 :: immBytes x.wide v)
  | .ori _ x d v => some (pfxBytes x ++ 0x74 :: nib d 0 :: immBytes x.wide v)
  | .xori _ x d v => some (pfxBytes x ++ 0x75 :: nib d 0 :: immBytes x.wide v)
  | .shl _ x d c => some (pfxBytes x ++ [0x78, nib d c])
  | .shr _ x d c => some (pfxBytes x ++ [0x79, nib d c])
  | .asr _ x d c => some (pfxBytes x ++ [0x7A, nib d c])
  | .rol _ x d c => some (pfxBytes x ++ [0x7B, nib d c])
  | .ror _ x d c => some (pfxBytes x ++ [0x7C, nib d c])
  | .rlc _ x d c => some (pfxBytes x ++ [0x7D, nib d c])
  | .rrc _ x d c => some (pfxBytes x ++ [0x7E, nib d c])
  | .ld _ x r b v => some (pfxBytes x ++ 0x80 :: nib r b :: immBytes x.wide v)
  | .st _ x r b v => some (pfxBytes x ++ 0x81 :: nib r b :: immBytes x.wide v)
  | .ldw _ x r b v => some (pfxBytes x ++ 0x82 :: nib r b :: immBytes x.wide v)
  | .stw _ x r b v => some (pfxBytes x ++ 0x83 :: nib r b :: immBytes x.wide v)
  | .ldp _ x r b v => some (pfxBytes x ++ 0x84 :: nib r b :: immBytes x.wide v)
  | .stp _ x r b v => some (pfxBytes x ++ 0x85 :: nib r b :: immBytes x.wide v)
  | .lea _ x r b v => some (pfxBytes x ++ 0x86 :: nib r b :: immBytes x.wide v)
  | .jmp _ x a => some (pfxBytes x ++ [0xA0, lo8 a, hi8 a])
  | .call _ x a => some (pfxBytes x ++ [0xA1, lo8 a, hi8 a])
  | .ret _ x => some (pfxBytes x ++ [0xA2])
  | .bra _ x v => some (pfxBytes x ++ 0xA3 :: immBytes x.wide v)
  | .jmpp _ x b => some (pfxBytes x ++ [0xA4, nib 0 b])
  | .callp _ x b => some (pfxBytes x ++ [0xA5, nib 0 b])
  | .djnz _ x d v => some (pfxBytes x ++ [0xA6, nib d 0, v])
  | .bcc _ x c v => some (pfxBytes x ++ BitVec.ofNat 8 (0xB0 + c.val) :: immBytes x.wide v)
  | .nop _ x => some (pfxBytes x ++ [0xBF])
  | .cmpg _ x c d s g => some (pfxBytes x ++ [BitVec.ofNat 8 (0xC0 + c.val), nib d s, nib 0 g])
  | .cmpgi _ x c d g v =>
    some (pfxBytes x ++ BitVec.ofNat 8 (0xC8 + c.val) :: nib d g :: immBytes x.wide v)
  | .dadd _ x d s => some (pfxBytes x ++ [0xD0, nib d s])
  | .dsub _ x d s => some (pfxBytes x ++ [0xD1, nib d s])
  | .dshl _ x d s => some (pfxBytes x ++ [0xD3, nib d s])
  | .dshr _ x d s => some (pfxBytes x ++ [0xD4, nib d s])
  | .b2d _ x d s => some (pfxBytes x ++ [0xD5, nib d s])
  | .d2b _ x d s => some (pfxBytes x ++ [0xD6, nib d s])
  | .dadj _ x d m => some (pfxBytes x ++ [0xD2, nib d (b2n m)])
  | .bset _ x d b => some (pfxBytes x ++ [0xD8, nib d b])
  | .bclr _ x d b => some (pfxBytes x ++ [0xD9, nib d b])
  | .btgl _ x d b => some (pfxBytes x ++ [0xDA, nib d b])
  | .btst _ x d b i g => some (pfxBytes x ++ [0xDB, nib d b, BitVec.ofNat 8 (8 * b2n i + g.val)])
  | .gand _ x g a b i =>
    some (pfxBytes x ++ [0xDC, BitVec.ofNat 8 (0 + 8 * g.val + a.val), BitVec.ofNat 8 (8 * b2n i + b.val)])
  | .gor _ x g a b i =>
    some (pfxBytes x ++ [0xDC, BitVec.ofNat 8 (64 + 8 * g.val + a.val), BitVec.ofNat 8 (8 * b2n i + b.val)])
  | .gxor _ x g a b i =>
    some (pfxBytes x ++ [0xDC, BitVec.ofNat 8 (128 + 8 * g.val + a.val), BitVec.ofNat 8 (8 * b2n i + b.val)])
  | .gmov _ x g a => some (pfxBytes x ++ [0xDC, BitVec.ofNat 8 (192 + 8 * g.val + a.val), 0])
  | .gtod _ x d => some (pfxBytes x ++ [0xDD, nib d 0])
  | .dtog _ x s => some (pfxBytes x ++ [0xDE, nib 0 s])
  | .send _ x b g => some (pfxBytes x ++ [0xE0, nib g b])
  | .qpush _ x d q g _ => some (pfxBytes x ++ [0xE1, nib d g, lo8 q, hi8 q])
  | .qpop _ x d q g _ => some (pfxBytes x ++ [0xE2, nib d g, lo8 q, hi8 q])
  | .time _ x b g _ => some (pfxBytes x ++ [0xE3, nib g b])
  | .stim _ x port d n =>
    some (pfxBytes x ++ [0xE4, BitVec.ofNat 8 (32 * n.val + port.val), nib d 0])
  | .sleep _ x => some (pfxBytes x ++ [0xE5])
  | .tready _ x d g _ => some (pfxBytes x ++ [0xE6, nib d g])
  | .tcancel _ x d g _ => some (pfxBytes x ++ [0xE7, nib d g])
  | .tdone _ x _ => some (pfxBytes x ++ [0xE8])
  | .gets _ x d a => some (pfxBytes x ++ [0xE9, nib d 0, a])
  | .sets _ x s a => some (pfxBytes x ++ [0xEA, nib s 0, a])
  | .rete _ x => some (pfxBytes x ++ [0xEB])
  | .trap _ x v => some (pfxBytes x ++ [0xEC, v])
  | .fence _ x => some (pfxBytes x ++ [0xED])
  | .customInstruction _ x c => some (pfxBytes x ++ 0xEF :: nib c.args.entry c.args.mode :: custBytes c.args)
  | _ => none

/-! ### MOV -/

/-- A decode trap. -/
def TDec.isTrap : TDec → Bool
  | .trap _ => true
  | _ => false

/-- How many of the bytes decode reads before it traps (R95). -/
def trapLen (p : Nat) (bs : List Byte) : Nat :=
  ((List.range bs.length).find? fun n => (tileDecode p (bs.take n)).isTrap).getD bs.length

/-- MOV (R101), or bytes that trap at decode (R94 to R96, R510); other bytes do nothing here. -/
def execMov (p : Nat) (f : MovForm) (s : State) : Out :=
  match f with
  | .copy x d src =>
    s.tileExec p 2 x (decW x [d, src]) fun o n => .go (n.wr x.wide d (o.rd x.wide src))
  | .decodeTrap bs =>
    match tileDecode p bs with
    | .trap c =>
      ok (decide (p < 1088))
        (when_ (s.ready p) (s.tileStep p (trapLen p bs) ⟨none, false⟩ (some c) fun _ n => .go n) s)
    | _ => ok (decide (p < 1088)) s

end Sys2Proof.Machine
end

