-- ==== Sys2Proof/Machine/TileDecimal.lean ====
section
/-! DEFINITION. Decimal arithmetic (R108). -/

namespace Sys2Proof.Machine

/-- DADD (R108): the low byte, then the high byte with the low byte's C. -/
def execDadd (p : Nat) (x : Pfx) (d src : Fin 16) (s : State) : Out :=
  s.tileExec p 2 x (decW x [d, src]) fun o n =>
    let r := decWide dadd8 x.wide (o.rd x.wide d) (o.rd x.wide src) o.fl.c
    .go (n.wrF x.wide d (decF (opW x.wide) r.1 r.2.1 r.2.2 false o.fl))

/-- DSUB (R108): the low byte, then the high byte with the low byte's C. -/
def execDsub (p : Nat) (x : Pfx) (d src : Fin 16) (s : State) : Out :=
  s.tileExec p 2 x (decW x [d, src]) fun o n =>
    let r := decWide dsub8 x.wide (o.rd x.wide d) (o.rd x.wide src) o.fl.c
    .go (n.wrF x.wide d (decF (opW x.wide) r.1 r.2.1 r.2.2 false o.fl))

/-- DADJ (R108): adjust after an add (m = 0) or a subtract (m = 1). -/
def execDadj (p : Nat) (x : Pfx) (d : Fin 16) (m : Bool) (s : State) : Out :=
  s.tileExec p 2 x (decN x false) fun o n =>
    let r := if m then dadjSub (o.dreg d) o.fl.h o.fl.c else dadjAdd (o.dreg d) o.fl.h o.fl.c
    .go (n.wrF false d (decF 8 r.1 r.2.1 r.2.2 false o.fl))

/-- DSHL (R108). -/
def execDshl (p : Nat) (x : Pfx) (d src : Fin 16) (s : State) : Out :=
  s.tileExec p 2 x (decN x false) fun o n =>
    .go (n.wrF false d (decF 8 (o.dreg d % 16 * 16 + o.dreg src / 16) o.fl.h
      (decide (o.dreg d / 16 ≠ 0)) false o.fl))

/-- DSHR (R108). -/
def execDshr (p : Nat) (x : Pfx) (d src : Fin 16) (s : State) : Out :=
  s.tileExec p 2 x (decN x false) fun o n =>
    .go (n.wrF false d (decF 8 (o.dreg src % 16 * 16 + o.dreg d / 16) o.fl.h
      (decide (o.dreg d % 16 ≠ 0)) false o.fl))

/-- B2D (R108). -/
def execB2d (p : Nat) (x : Pfx) (d src : Fin 16) (s : State) : Out :=
  s.tileExec p 2 x (decN x false) fun o n =>
    let v := o.dreg src % 100
    .go (n.wrF false d (decF 8 (v / 10 * 16 + v % 10) o.fl.h (decide (100 ≤ o.dreg src)) false o.fl))

/-- D2B (R108). -/
def execD2b (p : Nat) (x : Pfx) (d src : Fin 16) (s : State) : Out :=
  s.tileExec p 2 x (decN x false) fun o n =>
    let v := o.dreg src
    .go (n.wrF false d (decF 8 (10 * (v / 16) + v % 16) o.fl.h false
      (decide (9 < v / 16 ∨ 9 < v % 16)) o.fl))

end Sys2Proof.Machine
end

