-- ==== Sys2Proof/Machine/TileFlow.lean ====
section
/-! DEFINITION. Control transfer (R105, R106) and compare to guard (R107). -/

namespace Sys2Proof.Machine

/-- The address after an instruction of `len` bytes and its prefixes. -/
def nextPc (o : Tile) (x : Pfx) (len : Nat) : W16 := o.pc + BitVec.ofNat 16 (pfxLen x + len)

/-- A call: push the next address, or trap with cause 0x3 (R72 to R74). -/
def callEff (o n : Tile) (x : Pfx) (len : Nat) (target : W16) : Eff :=
  match n.push (nextPc o x len) with
  | none => .trap 3 0
  | some n1 => .jump n1 target

/-- JMP (R105). -/
def execJmp (p : Nat) (x : Pfx) (target : W16) (s : State) : Out :=
  s.tileExec p 3 x (decN x false) fun _ n => .jump n target

/-- CALL (R105). -/
def execCall (p : Nat) (x : Pfx) (target : W16) (s : State) : Out :=
  s.tileExec p 3 x (decN x false) fun o n => callEff o n x 3 target

/-- RET (R105): pops, or traps with cause 0x4 (R74). -/
def execRet (p : Nat) (x : Pfx) (s : State) : Out :=
  s.tileExec p 1 x (decN x false) fun _ n =>
    match n.pop with
    | none => .trap 4 0
    | some (a, n1) => .jump n1 a

/-- BRA (R105). -/
def execBra (p : Nat) (x : Pfx) (rel : W16) (s : State) : Out :=
  s.tileExec p (2 + b2n x.wide) x none fun o n =>
    .jump n (nextPc o x (2 + b2n x.wide) + rel)

/-- JMPP (R105). -/
def execJmpp (p : Nat) (x : Pfx) (b : Fin 8) (s : State) : Out :=
  s.tileExec p 2 x (decN x false) fun o n => .jump n o.p[b]

/-- CALLP (R105). -/
def execCallp (p : Nat) (x : Pfx) (b : Fin 8) (s : State) : Out :=
  s.tileExec p 2 x (decN x false) fun o n => callEff o n x 2 o.p[b]

/-- DJNZ (R105, R106). -/
def execDjnz (p : Nat) (x : Pfx) (d : Fin 16) (rel : Byte) (s : State) : Out :=
  s.tileExec p 3 x (decW x [d]) fun o n =>
    let v := uint (opW x.wide) ((o.rd x.wide d : Int) - 1)
    let n1 := n.wr x.wide d v
    if v = 0 then .go n1 else .jump n1 (nextPc o x 3 + rel.signExtend 16)

/-- Bcc (R105). -/
def execBcc (p : Nat) (x : Pfx) (c : Fin 8) (rel : W16) (s : State) : Out :=
  s.tileExec p (2 + b2n x.wide) x none fun o n =>
    if flagCond c.val o.fl then .jump n (nextPc o x (2 + b2n x.wide) + rel) else .go n

/-- NOP (R105). -/
def execNop (p : Nat) (x : Pfx) (s : State) : Out :=
  s.tileExec p 1 x (decN x false) fun _ n => .go n

/-- CMPG (R107): writes a guard and no flag. -/
def execCmpg (p : Nat) (x : Pfx) (c : Fin 8) (d src : Fin 16) (g : Fin 8) (s : State) : Out :=
  s.tileExec p 3 x (decW x [d, src]) fun o n =>
    .go (n.setG g (cmpCond c.val (opW x.wide) (o.rd x.wide d) (o.rd x.wide src)))

/-- CMPGI (R107). -/
def execCmpgi (p : Nat) (x : Pfx) (c : Fin 8) (d : Fin 16) (g : Fin 8) (imm : W16) (s : State) : Out :=
  s.tileExec p (3 + b2n x.wide) x (decW x [d]) fun o n =>
    .go (n.setG g (cmpCond c.val (opW x.wide) (o.rd x.wide d) (imm.toNat % 2 ^ opW x.wide)))

end Sys2Proof.Machine
end

