-- ==== Sys2Proof/Machine/TileImm.lean ====
section
/-! DEFINITION. The immediate instructions and the shifts (R102, R103). -/

namespace Sys2Proof.Machine

/-- The immediate at the operand width (R97). -/
def immOf (x : Pfx) (imm : W16) : Nat := imm.toNat % 2 ^ opW x.wide

/-- MOVI (R102). -/
def execMovi (p : Nat) (x : Pfx) (d : Fin 16) (imm : W16) (s : State) : Out :=
  s.tileExec p (2 + b2n x.wide) x (decW x [d] 1) fun _ n => .go (n.wr x.wide d (immOf x imm))

/-- ADDI (R102). -/
def execAddi (p : Nat) (x : Pfx) (d : Fin 16) (imm : W16) (s : State) : Out :=
  s.tileExec p (2 + b2n x.wide) x (decW x [d] 1) fun o n =>
    .go (n.wrF x.wide d (addF (opW x.wide) (o.rd x.wide d) (immOf x imm) 0 o.fl))

/-- MOVIP (R102). -/
def execMovip (p : Nat) (x : Pfx) (pd : Fin 8) (imm : W16) (s : State) : Out :=
  s.tileExec p 3 x (decN x false) fun _ n => .go (n.setP pd imm)

/-- ADDIP (R102). -/
def execAddip (p : Nat) (x : Pfx) (pd : Fin 8) (simm : Byte) (s : State) : Out :=
  s.tileExec p 2 x (decN x false) fun o n => .go (n.setP pd (o.p[pd] + simm.signExtend 16))

/-- SUBI (R102). -/
def execSubi (p : Nat) (x : Pfx) (d : Fin 16) (imm : W16) (s : State) : Out :=
  s.tileExec p (3 + b2n x.wide) x (decW x [d]) fun o n =>
    .go (n.wrF x.wide d (subF (opW x.wide) (o.rd x.wide d) (immOf x imm) 0 o.fl))

/-- ADCI (R102). -/
def execAdci (p : Nat) (x : Pfx) (d : Fin 16) (imm : W16) (s : State) : Out :=
  s.tileExec p (3 + b2n x.wide) x (decW x [d]) fun o n =>
    .go (n.wrF x.wide d (addF (opW x.wide) (o.rd x.wide d) (immOf x imm) (b2n o.fl.c) o.fl))

/-- SBCI (R102). -/
def execSbci (p : Nat) (x : Pfx) (d : Fin 16) (imm : W16) (s : State) : Out :=
  s.tileExec p (3 + b2n x.wide) x (decW x [d]) fun o n =>
    .go (n.wrF x.wide d (subF (opW x.wide) (o.rd x.wide d) (immOf x imm) (b2n o.fl.c) o.fl))

/-- ANDI (R102). -/
def execAndi (p : Nat) (x : Pfx) (d : Fin 16) (imm : W16) (s : State) : Out :=
  s.tileExec p (3 + b2n x.wide) x (decW x [d]) fun o n =>
    .go (n.wrF x.wide d (logicF (opW x.wide) (o.rd x.wide d &&& immOf x imm) o.fl))

/-- ORI (R102). -/
def execOri (p : Nat) (x : Pfx) (d : Fin 16) (imm : W16) (s : State) : Out :=
  s.tileExec p (3 + b2n x.wide) x (decW x [d]) fun o n =>
    .go (n.wrF x.wide d (logicF (opW x.wide) (o.rd x.wide d ||| immOf x imm) o.fl))

/-- XORI (R102). -/
def execXori (p : Nat) (x : Pfx) (d : Fin 16) (imm : W16) (s : State) : Out :=
  s.tileExec p (3 + b2n x.wide) x (decW x [d]) fun o n =>
    .go (n.wrF x.wide d (logicF (opW x.wide) (o.rd x.wide d ^^^ immOf x imm) o.fl))

/-- A shift or rotate by cccc + 1: an odd pair, or more than 8 in the narrow form, traps with cause 0x1
(R103). -/
def decShift (x : Pfx) (d c : Fin 16) : Option (Nat × Nat) :=
  if (x.wide && odd d) || (!x.wide && decide (8 ≤ c.val)) then some (1, 2) else none

/-- SHL (R102, R103). -/
def execShl (p : Nat) (x : Pfx) (d c : Fin 16) (s : State) : Out :=
  s.tileExec p 2 x (decShift x d c) fun o n =>
    .go (n.wrF x.wide d (shiftOpF .shl (opW x.wide) (c.val + 1) (o.rd x.wide d) o.fl))

/-- SHR (R102, R103). -/
def execShr (p : Nat) (x : Pfx) (d c : Fin 16) (s : State) : Out :=
  s.tileExec p 2 x (decShift x d c) fun o n =>
    .go (n.wrF x.wide d (shiftOpF .shr (opW x.wide) (c.val + 1) (o.rd x.wide d) o.fl))

/-- ASR (R102, R103). -/
def execAsr (p : Nat) (x : Pfx) (d c : Fin 16) (s : State) : Out :=
  s.tileExec p 2 x (decShift x d c) fun o n =>
    .go (n.wrF x.wide d (shiftOpF .asr (opW x.wide) (c.val + 1) (o.rd x.wide d) o.fl))

/-- ROL (R102, R103). -/
def execRol (p : Nat) (x : Pfx) (d c : Fin 16) (s : State) : Out :=
  s.tileExec p 2 x (decShift x d c) fun o n =>
    .go (n.wrF x.wide d (shiftOpF .rol (opW x.wide) (c.val + 1) (o.rd x.wide d) o.fl))

/-- ROR (R102, R103). -/
def execRor (p : Nat) (x : Pfx) (d c : Fin 16) (s : State) : Out :=
  s.tileExec p 2 x (decShift x d c) fun o n =>
    .go (n.wrF x.wide d (shiftOpF .ror (opW x.wide) (c.val + 1) (o.rd x.wide d) o.fl))

/-- RLC (R102, R103). -/
def execRlc (p : Nat) (x : Pfx) (d c : Fin 16) (s : State) : Out :=
  s.tileExec p 2 x (decShift x d c) fun o n =>
    .go (n.wrF x.wide d (shiftOpF .rlc (opW x.wide) (c.val + 1) (o.rd x.wide d) o.fl))

/-- RRC (R102, R103). -/
def execRrc (p : Nat) (x : Pfx) (d c : Fin 16) (s : State) : Out :=
  s.tileExec p 2 x (decShift x d c) fun o n =>
    .go (n.wrF x.wide d (shiftOpF .rrc (opW x.wide) (c.val + 1) (o.rd x.wide d) o.fl))

end Sys2Proof.Machine
end

