-- ==== Sys2Proof/Machine/TileMem.lean ====
section
/-! DEFINITION. The memory instructions (R104). -/

namespace Sys2Proof.Machine

/-- A load of one byte or 16 bits: an uncorrectable error traps with cause 0x6 (R64), else the
write-back follows in the next instruction (R69). -/
def loadEff (o n : Tile) (wide : Bool) (a : W16) (dest : LoadDest) : Eff :=
  if o.anyBad a (if wide then 2 else 1) then .bad a
  else .go { n with wb := some ⟨dest, if wide then o.word a else (o.byte a).zeroExtend 16⟩ }

/-- A store of one byte (R64). -/
def storeByteEff (o n : Tile) (a : W16) (v : Byte) : Eff :=
  if o.storeBad a 1 then .bad a else .go (n.store a v)

/-- A store of 16 bits (R64, R66). -/
def storeWordEff (o n : Tile) (a v : W16) : Eff :=
  if o.storeBad a 2 then .bad a else .go (n.storeW a v)

/-- LD (R104). -/
def execLd (p : Nat) (x : Pfx) (r : Fin 16) (b : Fin 8) (disp : W16) (s : State) : Out :=
  s.tileExec p (3 + b2n x.wide) x none fun o n =>
    loadEff o n false (o.ea b disp) (.data r)

/-- ST (R104). -/
def execSt (p : Nat) (x : Pfx) (r : Fin 16) (b : Fin 8) (disp : W16) (s : State) : Out :=
  s.tileExec p (3 + b2n x.wide) x none fun o n =>
    storeByteEff o n (o.ea b disp) o.d[r]

/-- LDW (R104); r even. -/
def execLdw (p : Nat) (x : Pfx) (r : Fin 16) (b : Fin 8) (disp : W16) (s : State) : Out :=
  s.tileExec p (3 + b2n x.wide) x (if odd r then some (1, 2) else none) fun o n =>
    loadEff o n true (o.ea b disp) (.pair r)

/-- STW (R104); r even. -/
def execStw (p : Nat) (x : Pfx) (r : Fin 16) (b : Fin 8) (disp : W16) (s : State) : Out :=
  s.tileExec p (3 + b2n x.wide) x (if odd r then some (1, 2) else none) fun o n =>
    storeWordEff o n (o.ea b disp) (BitVec.ofNat 16 (o.rd true r))

/-- LDP (R104). -/
def execLdp (p : Nat) (x : Pfx) (r b : Fin 8) (disp : W16) (s : State) : Out :=
  s.tileExec p (3 + b2n x.wide) x none fun o n =>
    loadEff o n true (o.ea b disp) (.ptr r)

/-- STP (R104). -/
def execStp (p : Nat) (x : Pfx) (r b : Fin 8) (disp : W16) (s : State) : Out :=
  s.tileExec p (3 + b2n x.wide) x none fun o n =>
    storeWordEff o n (o.ea b disp) o.p[r]

/-- LEA (R104). -/
def execLea (p : Nat) (x : Pfx) (r b : Fin 8) (disp : W16) (s : State) : Out :=
  s.tileExec p (3 + b2n x.wide) x none fun o n =>
    .go (n.setP r (o.ea b disp))

end Sys2Proof.Machine
end

