-- ==== Sys2Proof/Machine/TileRun.lean ====
section
/-! DEFINITION. One instruction of a tile by its decoded form: what a debug step runs (R488). -/

namespace Sys2Proof.Machine

/-- Run a tile instruction; other commands answer the state unchanged. -/
def tileRun (i : Instr) (s : State) : Out :=
  match i with
  | .mov p f => execMov p f s
  | .add p x d src => execAdd p x d src s
  | .adc p x d src => execAdc p x d src s
  | .sub p x d src => execSub p x d src s
  | .sbc p x d src => execSbc p x d src s
  | .and p x d src => execAnd p x d src s
  | .or p x d src => execOr p x d src s
  | .xor p x d src => execXor p x d src s
  | .mul p x d src => execMul p x d src s
  | .muls p x d src => execMuls p x d src s
  | .not p x d => execNot p x d s
  | .neg p x d => execNeg p x d s
  | .inc p x d => execInc p x d s
  | .dec p x d => execDec p x d s
  | .swap p x d => execSwap p x d s
  | .movp p x pd ps => execMovp p x pd ps s
  | .movpw p x pd src => execMovpw p x pd src s
  | .movwp p x d ps => execMovwp p x d ps s
  | .addpw p x pd src => execAddpw p x pd src s
  | .addpb p x pd src => execAddpb p x pd src s
  | .movi p x d imm => execMovi p x d imm s
  | .addi p x d imm => execAddi p x d imm s
  | .movip p x pd imm => execMovip p x pd imm s
  | .addip p x pd simm => execAddip p x pd simm s
  | .subi p x d imm => execSubi p x d imm s
  | .adci p x d imm => execAdci p x d imm s
  | .sbci p x d imm => execSbci p x d imm s
  | .andi p x d imm => execAndi p x d imm s
  | .ori p x d imm => execOri p x d imm s
  | .xori p x d imm => execXori p x d imm s
  | .shl p x d c => execShl p x d c s
  | .shr p x d c => execShr p x d c s
  | .asr p x d c => execAsr p x d c s
  | .rol p x d c => execRol p x d c s
  | .ror p x d c => execRor p x d c s
  | .rlc p x d c => execRlc p x d c s
  | .rrc p x d c => execRrc p x d c s
  | .ld p x r b disp => execLd p x r b disp s
  | .st p x r b disp => execSt p x r b disp s
  | .ldw p x r b disp => execLdw p x r b disp s
  | .stw p x r b disp => execStw p x r b disp s
  | .ldp p x r b disp => execLdp p x r b disp s
  | .stp p x r b disp => execStp p x r b disp s
  | .lea p x r b disp => execLea p x r b disp s
  | .jmp p x target => execJmp p x target s
  | .call p x target => execCall p x target s
  | .ret p x => execRet p x s
  | .bra p x rel => execBra p x rel s
  | .jmpp p x b => execJmpp p x b s
  | .callp p x b => execCallp p x b s
  | .djnz p x d rel => execDjnz p x d rel s
  | .bcc p x c rel => execBcc p x c rel s
  | .nop p x => execNop p x s
  | .cmpg p x c d src g => execCmpg p x c d src g s
  | .cmpgi p x c d g imm => execCmpgi p x c d g imm s
  | .dadd p x d src => execDadd p x d src s
  | .dsub p x d src => execDsub p x d src s
  | .dadj p x d m => execDadj p x d m s
  | .dshl p x d src => execDshl p x d src s
  | .dshr p x d src => execDshr p x d src s
  | .b2d p x d src => execB2d p x d src s
  | .d2b p x d src => execD2b p x d src s
  | .bset p x d b => execBset p x d b s
  | .bclr p x d b => execBclr p x d b s
  | .btgl p x d b => execBtgl p x d b s
  | .btst p x d b i g => execBtst p x d b i g s
  | .gand p x g a b i => execGand p x g a b i s
  | .gor p x g a b i => execGor p x g a b i s
  | .gxor p x g a b i => execGxor p x g a b i s
  | .gmov p x g a => execGmov p x g a s
  | .gtod p x d => execGtod p x d s
  | .dtog p x src => execDtog p x src s
  | .send p x b g => execSend p x b g s
  | .qpush p x d q g r => execQpush p x d q g r s
  | .qpop p x d q g r => execQpop p x d q g r s
  | .time p x b g r => execTime p x b g r s
  | .stim p x port d n => execStim p x port d n s
  | .sleep p x => execSleep p x s
  | .tready p x d g r => execTready p x d g r s
  | .tcancel p x d g r => execTcancel p x d g r s
  | .tdone p x r => execTdone p x r s
  | .gets p x d sys => execGets p x d sys s
  | .sets p x src sys => execSets p x src sys s
  | .rete p x => execRete p x s
  | .trap p x imm => execTrap p x imm s
  | .fence p x => execFence p x s
  | .customInstruction p x c => s.custom p x c.args custPlain
  | _ => .next s

end Sys2Proof.Machine
end

