-- ==== Sys2Proof/Machine/Debug.lean ====
section
/-! DEFINITION. Authorisation (R479 to R481), frost (R486, R487), halt and step (R488), patch units (R490)
and the TAP (R492, R493). -/

namespace Sys2Proof.Machine

/-! ### Authorisation (R479, R480) -/

/-- Replace the path of mailbox `m`. -/
def State.setPath (s : State) (m : Nat) (d : DbgPath) : State :=
  { s with dbgBlock := if m = 2 then { s.dbgBlock with svc := d } else { s.dbgBlock with dbg := d } }

/-- Ticks of 10 s, and of 60 s. -/
def tenSeconds : Nat := 2000000000
def sixtySeconds : Nat := 12000000000

/-- AUTH_CHALLENGE (R479).  Mailboxes 0 and 1, which may issue every command (R394), have no path of their own and act on
the debug path (log 73). -/
def execAuthChallenge (m : Nat) (s : State) : Out :=
  command s m 0x0A01 anyP fun p =>
    let l := leAt p 0 1
    if p.length ≠ 1 ∨ l = 0 ∨ 4 ≤ l then .no s 4
    else
      let c := (List.range 16).map fun i => Config.freeByte (16 * s.free + i)
      .done ({ s with free := s.free + 1 }.setPath m
        { s.pathOf m with challenge := some (l, c, s.wall) }) 0 c

/-- The code that a response must carry (R479). -/
def expectedMac (m level : Nat) (challenge : List Byte) : List Byte :=
  (Config.debugMac
    (challenge ++ BitVec.ofNat 8 level :: leBytes Config.serial.toNat 8 ++ [BitVec.ofNat 8 m])).toList

/-- A mismatch on a path: the third within 60 s has it refuse for 60 s (R479). -/
def DbgPath.missed (d : DbgPath) (now : Nat) : DbgPath :=
  let l := now :: d.misses.filter fun t => decide (now < t + sixtySeconds)
  if 3 ≤ l.length then { d with challenge := none, misses := [], refusedUntil := now + sixtySeconds }
  else { d with challenge := none, misses := l }

/-- AUTH_RESPONSE (R479). -/
def execAuthResponse (m : Nat) (s : State) : Out :=
  command s m 0x0A02 anyP fun p =>
    let d := s.pathOf m
    if p.length ≠ 16 then .no s 4
    else if s.wall < d.refusedUntil then .no s 5
    else
      match d.challenge with
      | none => .no s 5
      | some (l, c, t) =>
        if t + tenSeconds ≤ s.wall then .no (s.setPath m { d with challenge := none }) 5
        else if expectedMac m l c == p then
          .ok ((s.setPath m { d with challenge := none, granted := l, level := l }).fire 511)
        else .no (s.setPath m (d.missed s.wall)) 5

/-- Every tile that the debugger halted resumes (R480, R488). -/
def State.resumeAll (s : State) : State :=
  { s with
    dbgBlock := { s.dbgBlock with haltDue := [] }
    tiles := s.tiles.map fun (e : Nat × Tile) =>
      (e.1, if e.2.run = RunState.dbgHalted then
        { e.2 with run := if e.2.dbgSlept then .sleeping else .running, dbgSlept := false } else e.2) }

/-- DEBUG_ENABLE (R480): trace needs observe level (R481), and a stream newly routed starts with a SYNC
packet (R491). -/
def execDebugEnable (m : Nat) (s : State) : Out :=
  command s m 0x0A03 anyP fun p =>
    let l := leAt p 0 1
    let f := leAt p 1 1
    let d := s.pathOf m
    if p.length ≠ 2 ∨ 4 ≤ l ∨ 4 ≤ f then .no s 4
    else if d.granted < l then .no s 5
    else
      let on := bitAt f 1 && l != 0
      let s1 := (s.setPath m { d with level := l, jtag := bitAt f 0 && l != 0, trace := on }).fireIf
        (d.level != l) 511
      let s2 := if on && !s.traceRouted then s1.traceSync else s1
      .ok (if l = 0 then (s2.askFrost false).resumeAll else s2)

/-! ### Frost (R486, R487, R281) -/

/-- A FROST packet, where they are on (R491). -/
def State.traceFrost (s : State) (on : Bool) : State :=
  if s.dbgBlock.traceCtl.getLsbD 2 then s.trace 4 0 [BitVec.ofNat 8 (b2n on)] else s

/-- Frost is entered (R486). -/
def State.enterFrost (s : State) : State :=
  let s1 := (s.haltUnits true).mapPins fun _ v => if v.safeFrost then v.hold .frost else v
  ({ s1 with dbgBlock := { s1.dbgBlock with
      frost := true, frostAt := s.now, wantFrost := s1.dbgBlock.wantFrost.drop 1 } }.fire 508).traceFrost true

/-- Times that stood still in frost move on by its length: cancel limits, the engine's timers and chained
actions (R486, R487). -/
def State.shiftTimes (s : State) (d : Nat) : State :=
  let slots (x : Disp) : Disp :=
    { x with slots := x.slots.map fun (e : Nat × Slot) => (e.1, { e.2 with cancelAt := e.2.cancelAt + d }) }
  let stream (v : Stream) : Stream :=
    { v with
      opens := v.opens.map fun b => { b with firstAt := b.firstAt + d }
      backlog := v.backlog.map fun b => { b with firstAt := b.firstAt + d }
      recs := v.recs.map fun (e : Nat × RecBuf) => (e.1, { e.2 with since := e.2.since + d }) }
  let timer (t : Timer) : Timer := { t with due := t.due.map fun e => (e.1, e.2 + d) }
  { s with
    disps := s.disps.map fun (e : Nat × Disp) => (e.1, slots e.2)
    engine := { s.engine with
      streams := s.engine.streams.map fun (e : Nat × Stream) => (e.1, stream e.2)
      waitSince := s.engine.waitSince.map (· + d), retryAt := s.engine.retryAt + d }
    fio := { s.fio with timers := s.fio.timers.map fun (e : Nat × Timer) => (e.1, timer e.2) } }

/-- Alarms whose target was passed in frost fire with LATE (R281). -/
def State.lateAlarms (s : State) : State :=
  (List.range 8).foldl (fun u k =>
    let a := u.alarm k
    if a.armed && decide (a.target ≤ u.time.abs) then u.fireAlarm k true a.byStep else u) s

/-- Frost is left (R486); in an emulated sleep state the units stay stopped (R489). -/
def State.leaveFrost (s : State) : State :=
  let s1 := ((s.shiftTimes (s.now - s.dbgBlock.frostAt)).haltUnits (s.power.st != .run)).safeEnd .frost
  let s2 := { s1 with dbgBlock := { s1.dbgBlock with frost := false, wantFrost := s1.dbgBlock.wantFrost.drop 1 } }
  ((if s2.power.st = .run then s2.lateAlarms else s2).fire 508).traceFrost false

/-- FROST_ENTER (R486): the oldest request asks for it, and every running tile stands at a boundary: not after a load,
and with no system instruction that waits for its reply. -/
def execFrostEnter (s : State) : Out :=
  let due := s.dbgBlock.wantFrost.head? == some true &&
    !s.tiles.any fun (e : Nat × Tile) => e.2.run == .running && !e.2.atBoundary
  ok true (when_ (due && s.live) s.enterFrost s)

/-- FROST_LEAVE (R486). -/
def execFrostLeave (s : State) : Out :=
  ok true (when_ (s.dbgBlock.wantFrost.head? == some false && s.live) s.leaveFrost s)

/-! ### Halt and step (R484, R488) -/

/-- Name logical tile `t` in DBG_TILE; a duplex tile is refused. -/
def State.dbgName (s : State) (t : Nat) : State :=
  { s with dbgBlock := { s.dbgBlock with tile := t, refused := (tfind? t s.gates.duplex).isSome } }

/-- Do something to the physical tile of logical tile `t`, unless it is duplex or not served. -/
def State.onDbgTile (s : State) (t : Nat) (f : State → Nat → State) : State :=
  let s1 := s.dbgName t
  if s1.dbgBlock.refused then s1
  else
    match s1.physOf t with
    | some p => f s1 p
    | none => s1

/-- Tile `p` is to halt at its next boundary, or no longer is. -/
def State.askHalt (s : State) (p : Nat) (on : Bool) : State :=
  let rest := s.dbgBlock.haltDue.filter (· != p)
  { s with dbgBlock := { s.dbgBlock with haltDue := if on then rest ++ [p] else rest } }

/-- Halt a started tile, as STOP_TILE would stop it: at once where it stands at a boundary, else at its next one. -/
def State.dbgHalt (s : State) (p : Nat) : State :=
  let x := s.tile p
  if x.run = .sleeping ∨ (x.run = .running ∧ x.atBoundary) then
    ((s.askHalt p false).setTile p { x with run := .dbgHalted, dbgSlept := x.run == .sleeping }).fire 510
  else s.askHalt p (x.run == .running)

/-- The halts that are due at boundaries reached by now (R488). -/
def State.tickHalts (s : State) : State :=
  s.dbgBlock.haltDue.foldl (fun u p => if u.haltsNow p || (u.tile p).run != .running then u.dbgHalt p else u) s

/-- A halted tile goes on, and one that was to halt does not. -/
def State.dbgResume (s : State) (p : Nat) : State :=
  let x := s.tile p
  let s1 := s.askHalt p false
  if x.run = .dbgHalted then
    s1.setTile p { x with run := if x.dbgSlept then .sleeping else .running, dbgSlept := false }
  else s1

/-- The bytes at a tile's pc as fetched. -/
def Tile.nextBytes (t : Tile) : List Byte :=
  (List.range 8).map fun i => t.fetchByte (t.pc + BitVec.ofNat 16 i)

/-- A running tile takes a due event entry, or executes its next instruction. -/
def State.runOne (s : State) (p : Nat) : State :=
  let x := s.tile p
  if x.due then s.setTile p (x.enter x.pc)
  else
    let i : Instr := match tileDecode p x.nextBytes with
      | .insn i _ => i
      | _ => .mov p (.decodeTrap x.nextBytes)
    match tileRun i s with
    | .next u => u
    | _ => s

/-- One instruction, a load with the one after it (R71, R488), and a halt; where it waits for a reply the step completes
when the reply has come (R111). -/
def State.dbgStep (s : State) (p : Nat) : State :=
  let x := s.tile p
  if (x.run = .dbgHalted ∨ x.run = .running) ∧ !x.dbgSlept ∧ !s.dbgBlock.frost ∧ s.power.st = .run then
    let s0 := (s.askHalt p false).setTile p { x with run := .running }
    let s1 := if x.due then s0.runOne p else s0
    let s2 := s1.runOne p
    let s3 := if (s2.tile p).wb.isSome && s2.ready p then s2.runOne p else s2
    s3.dbgHalt p
  else s

/-- A write of DBG_TILE (R484): OP 0 line 14, 1 halt, 2 resume, 3 step. -/
def State.writeDbgTile (s : State) (op t : Nat) : State :=
  if !s.dbgMay 2 then s
  else
    s.onDbgTile t fun u p =>
      match op with
      | 0 => u.setLine p 14
      | 1 => u.dbgHalt p
      | 2 => u.dbgResume p
      | _ => u.dbgStep p

/-- DEBUG_LINE14 (R488). -/
def execDebugLine14 (t : Nat) (s : State) : Out := ok (decide (t < 1024)) (when_ s.live (s.writeDbgTile 0 t) s)
/-- DEBUG_HALT (R488). -/
def execDebugHalt (t : Nat) (s : State) : Out := ok (decide (t < 1024)) (when_ s.live (s.writeDbgTile 1 t) s)
/-- DEBUG_RESUME (R488). -/
def execDebugResume (t : Nat) (s : State) : Out := ok (decide (t < 1024)) (when_ s.live (s.writeDbgTile 2 t) s)
/-- DEBUG_STEP (R488). -/
def execDebugStep (t : Nat) (s : State) : Out := ok (decide (t < 1024)) (when_ s.live (s.writeDbgTile 3 t) s)

/-! ### Patch units (R484, R490) -/

/-- Patch unit `u`. -/
def State.patch (s : State) (u : Nat) : Patch := tget {} u s.dbgBlock.patches
/-- Replace patch unit `u`. -/
def State.setPatch (s : State) (u : Nat) (v : Patch) : State :=
  { s with dbgBlock := { s.dbgBlock with patches := tput u v s.dbgBlock.patches } }

/-- A write of DBG_PATCH_ADDRu, at full level. -/
def State.writePatchAddr (s : State) (u : Nat) (v : W32) : State :=
  if s.dbgMay 3 then s.setPatch u { s.patch u with addr := v &&& 0x8FFFFFFC } else s
/-- A write of DBG_PATCH_DATAu, at full level. -/
def State.writePatchData (s : State) (u : Nat) (v : W32) : State :=
  if s.dbgMay 3 then s.setPatch u { s.patch u with data := v } else s

/-- The 32-bit word that the management processor reads through its execute-in-place cache, once the line is filled: chip
select `n`, word address `a` in that device, whose firmware bank starts at 0x10_0000 (R410).  The lowest enabled patch
unit that names the word replaces it (R490). -/
def State.xipWord (s : State) (n a : Nat) : W32 :=
  let names (u : Nat) : Bool :=
    let v := (s.patch u).addr
    bitq v 31 && fld v 27 1 == n && fld v 2 25 == a / 4
  match (List.range 16).find? names with
  | some u => (s.patch u).data
  | none => w32 (leNum (memRead 0xFF (s.boot.bankMem n) (a - 0x100000) 4))

/-- DBG_PATCH_ADDR (R484, R490). -/
def execDbgPatchAddr (u : Fin 16) (v : W32) (s : State) : Out := ok true (when_ s.live (s.writePatchAddr u.val v) s)

/-! ### The TAP (R492, R493) -/

/-- The test instructions (R492). -/
def testIr (ir : Nat) : Bool := ir == 0x00 || (decide (4 ≤ ir) && decide (ir ≤ 7))

/-- A test instruction is in effect (R493). -/
def State.testing (s : State) : Bool := testIr s.dbgBlock.ir && (s.dbgBlock.testMode || s.dbgMay 3)

/-- IDCODE: version 0x1, part 0x0400 and manufacturer 0x5A3 (R492). -/
def idcode : W32 := 0x10400B47

/-- The data registers of the TAP. -/
inductive TapReg where
  | bypass | idcode | boundary | dbgAccess
  deriving DecidableEq, Repr

/-- The data register that the instruction register selects: a test instruction that is not available, and every value
that names none, selects BYPASS; HIGHZ and CLAMP have BYPASS between TDI and TDO, as IEEE 1149.1 has it (R492, R493,
log 121). -/
def State.tapReg (s : State) : TapReg :=
  match s.dbgBlock.ir with
  | 0x01 => .idcode
  | 0x02 => .boundary
  | 0x10 => .dbgAccess
  | 0x00 | 0x04 | 0x05 => if s.testing then .boundary else .bypass
  | _ => .bypass

/-- The instruction register takes a value; where a test instruction in effect is replaced, a device restart
follows. -/
def State.loadIr (s : State) (ir : Nat) : State :=
  let s1 := if s.testing && s.dbgBlock.ir != ir then s.deviceRestart none else s
  { s1 with dbgBlock := { s1.dbgBlock with ir := ir } }

/-- TAP_RESET (R476, R492, R493): Test-Logic-Reset selects IDCODE. -/
def execTapReset (s : State) : Out := ok true (s.loadIr 0x01)

/-- TEST_INSTRUCTION_REPLACED (R492, R493): another instruction is loaded. -/
def execTestInstructionReplaced (ir : Nat) (s : State) : Out := ok true (when_ (decide (ir < 64)) (s.loadIr ir) s)

end Sys2Proof.Machine
end

