-- ==== Sys2Proof/Machine/Dma.lean ====
section
/-! DEFINITION. The DMA engines (R240 to R255).  A channel's requests fly as messages and come back as
responses (log 21). -/

namespace Sys2Proof.Machine

/-- An access of a DMA channel, before it is issued: tile space on any device, or unit space of this one inside
the owner's windows (R242). -/
def State.dmaReach (s : State) (w : Who) (full n : Nat) (write : Bool) : Bool :=
  let space := full / 2 ^ 32 % 4
  space == 0 || (space == 1 && full / 2 ^ 34 == s.device && s.reach w none (full % 2 ^ 32) n write == 0)

/-- Crossbar port of the DMA hub in fault records (R151, R324). -/
def dmaUnit : Nat := 0x8000 + 18

/-- Channel `ch` as a master (R240). -/
def State.dmaWho (s : State) (ch : Nat) : Who :=
  { id := 0x410 + ch / 8, phys := 0x7FF, tag := ch % 8, dev := s.device }

/-! ### Descriptors (R243, R244) -/

/-- CTL bits of a descriptor. -/
def Desc.nextEn (d : Desc) : Bool := d.ctl.getLsbD 15
def Desc.evt (d : Desc) : Bool := d.ctl.getLsbD 14
def Desc.wb (d : Desc) : Bool := d.ctl.getLsbD 13
def Desc.srcFixed (d : Desc) : Bool := d.ctl.getLsbD 10
def Desc.dstFixed (d : Desc) : Bool := d.ctl.getLsbD 9
/-- Beats of a burst. -/
def Desc.burst (d : Desc) : Nat := bitsOf d.ctl.toNat 0 8 + 1

/-- The fields of a descriptor's 32 bytes. -/
def Desc.parse (b : List Byte) : Desc :=
  { src := leAt b 0 6, dst := leAt b 6 6, len := leAt b 12 4, ctl := BitVec.ofNat 16 (leAt b 16 2)
    next := leAt b 20 6 }

/-- A descriptor that R243 and R244 refuse. -/
def badDesc (b : List Byte) : Bool :=
  let d := Desc.parse b
  d.len == 0 || decide (0x1000000 < d.len) || bitsOf d.ctl.toNat 11 2 != 0 || d.ctl.getLsbD 8 ||
    leAt b 19 1 != 0 || leAt b 26 6 != 0 || (d.nextEn && d.next % 8 != 0) || d.src % 8 != 0 ||
    d.dst % (if d.dstFixed then 4 else 8) != 0 || (d.dstFixed && d.len % 4 != 0) ||
    (d.srcFixed && d.src / 2 ^ 32 % 4 == 0) || (d.dstFixed && d.dst / 2 ^ 32 % 4 == 0)

/-! ### Requests -/

/-- The tag of a channel's request: bits [2:0] its number, [3] a write, [7:4] a rotating number. -/
def dmaTag (ch : Nat) (write : Bool) (seq : Nat) : Nat := ch % 8 + 8 * b2n write + 16 * (seq % 16)

/-- A request of channel `ch` at a system address (R240). -/
def State.dmaMsg (s : State) (ch tag : Nat) (kind : MsgKind) (full len : Nat) (data : List Byte) : Msg :=
  { kind := kind, len := len, srcId := 0x410 + ch / 8, srcPhys := 0x7FF, srcDev := s.device, tag := tag
    cap := 0, chk := false, dev := full / 2 ^ 34, space := full / 2 ^ 32 % 4, addr := full % 2 ^ 32
    data := data, badCrc := false, user := some (s.chan ch).owner }

/-- The descriptor of channel `ch` is to end with a status; the first one counts. -/
def State.dmaFail (s : State) (ch status : Nat) : State :=
  let c := s.chan ch
  s.setChan ch { c with endSt := some (c.endSt.getD status) }

/-- The number of the next request of channel `ch` in rotation whose tag is neither outstanding nor resting (R170,
R176). -/
def State.dmaSeq (s : State) (ch : Nat) (write : Bool) : Option Nat :=
  let c := s.chan ch
  ((List.range 16).map fun i => ((if write then c.wseq else c.rseq) + i) % 16).find? fun n =>
    let tag := dmaTag ch write n
    (tfind? tag (s.dmaE (ch / 8)).resting).isNone && !c.unacked.any fun u => u.msg.tag == tag

/-- Send a READ of channel `ch`, or end the descriptor with 0x82 (R242); it waits while every tag rests. -/
def State.dmaRead (s : State) (ch full len : Nat) : State :=
  let c := s.chan ch
  if !s.dmaReach (s.dmaWho ch) full len false then s.dmaFail ch 0x82
  else
    match s.dmaSeq ch false with
    | none => s
    | some n =>
      let m := s.dmaMsg ch (dmaTag ch false n) .read full len []
      (s.setChan ch { c with rd := some ⟨m, 0, 0, s.now⟩, rseq := (n + 1) % 16 }).fly m

/-- Send a write of channel `ch` whose data stands at offset `off`. -/
def State.dmaWrite (s : State) (ch full off : Nat) (fixed : Bool) (data : List Byte) : State :=
  let c := s.chan ch
  if !s.dmaReach (s.dmaWho ch) full data.length true then s.dmaFail ch 0x82
  else
    match s.dmaSeq ch true with
    | none => s
    | some n =>
      let m := s.dmaMsg ch (dmaTag ch true n) (if fixed then .writeFixed else .write) full data.length data
      (s.setChan ch { c with
        unacked := c.unacked ++ [⟨m, off, 0, s.now⟩], wseq := (n + 1) % 16, written := off + data.length
        staging := c.staging.drop data.length }).fly m

/-- Fetch the descriptor at `a`: the channel's current one, of which nothing is read or confirmed yet (R248, R251). -/
def State.dmaFetch (s : State) (ch a : Nat) : State :=
  let c := s.chan ch
  (s.setChan ch { c with
    busy := true, phase := .fetch, cur := a, desc := {}, staging := [], inbox := [], remain := 0, confirmed := 0
    written := 0, failOff := none, endSt := none, ends := false }).dmaRead ch a 32

/-! ### Registers of a channel (R241, R251 to R253, R255) -/

/-- A write by a master other than the owner (R241). -/
def State.dmaOwnErr (s : State) (ch : Nat) : State :=
  let c := s.chan ch
  (s.setChan ch { c with ownErr := true }).fireIf c.evErr (96 + ch)

/-- RUN ← 1 (R251, R253): ignored while busy, and refused on a fenced engine. -/
def State.dmaStart (s : State) (ch : Nat) : State :=
  let c := s.chan ch
  if c.busy then s
  else if (s.dmaE (ch / 8)).fenced then s.setChan ch { c with err := true, last := 0x92 }
  else (s.setChan ch { c with stopping := false }).dmaFetch ch c.descAddr

/-- The descriptor has completed but for what follows its last DONE (R255). -/
def Chan.completed (c : Chan) : Bool :=
  c.phase == .writeBack || (c.phase == .move && c.written == c.desc.len && c.unacked.isEmpty && c.endSt.isNone)

/-- RUN ← 0 (R252, R255). -/
def State.dmaStopReq (s : State) (ch : Nat) : State :=
  let c := s.chan ch
  if c.busy && !c.stopping then s.setChan ch { c with stopping := true, ends := c.completed } else s

/-- A write of DMA_CH_CTL (R241, R251): RESET prevails over RUN. -/
def State.writeDmaCtl (s : State) (master ch : Nat) (v : W32) : State :=
  let c := s.chan ch
  if c.owner ≠ master then s.dmaOwnErr ch
  else
    let s1 := s.setChan ch { c with evErr := bitq v 4, prio := fld v 0 2 }
    if bitq v 30 then s1.chanReset ch
    else if bitq v 31 then s1.dmaStart ch
    else s1.dmaStopReq ch

/-- A write of a register of channel `ch` (R251); the offsets that the table does not list are none of its (R10). -/
def State.writeDmaReg (s : State) (master ch off : Nat) (v : W32) : State :=
  let c := s.chan ch
  if 0x20 < off then s
  else if off = 0 then s.writeDmaCtl master ch v
  else if c.owner ≠ master then s.dmaOwnErr ch
  else
    match off with
    | 0x04 => s.setChan ch { c with
        ownErr := c.ownErr && !bitq v 4, err := c.err && !bitq v 3, stopped := c.stopped && !bitq v 2
        done := c.done && !bitq v 1 }
    | 0x08 =>
      if c.busy then s
      else s.setChan ch { c with descAddr := c.descAddr / 2 ^ 32 * 2 ^ 32 + v.toNat / 8 * 8 }
    | 0x0C =>
      if c.busy then s
      else s.setChan ch { c with descAddr := c.descAddr % 2 ^ 32 + fld v 0 16 * 2 ^ 32 }
    | _ => s

/-- DMA_CH_CTL as read. -/
def Chan.ctl (c : Chan) : Nat := b2n c.busy * 2 ^ 31 + b2n c.evErr * 16 + c.prio
/-- DMA_CH_STAT. -/
def Chan.stat (c : Chan) : Nat :=
  b2n c.busy * 2 ^ 31 + b2n c.preempted * 2 ^ 30 + c.last * 256 + b2n c.ownErr * 16 + b2n c.err * 8 +
    b2n c.stopped * 4 + b2n c.done * 2

/-- Registers of a channel as read (R251). -/
def Chan.read (c : Chan) : Nat → Nat
  | 0x00 => c.ctl
  | 0x04 => c.stat
  | 0x08 => c.descAddr % 2 ^ 32
  | 0x0C => c.descAddr / 2 ^ 32
  | 0x10 => c.cur % 2 ^ 32
  | 0x14 => c.cur / 2 ^ 32
  | 0x18 => c.remain
  | 0x1C => c.confirmed
  | 0x20 => c.owner
  | _ => 0

/-- One bit per channel of engine `e`. -/
def State.chanBits (s : State) (e : Nat) (f : Chan → Bool) : Nat :=
  ((List.range 8).map fun k => b2n (f (s.chan (8 * e + k))) * 2 ^ k).foldl (· + ·) 0

/-- Registers of the DMA block at offset `o` as read (R251). -/
def State.dmaRegRead (s : State) (o : Nat) : Nat :=
  let e := o / 0x1000
  let r := o % 0x1000
  if r = 0 then s.chanBits e (·.preempted) * 256 + s.chanBits e (·.busy)
  else if r = 4 then (s.dmaE e).beats.toNat
  else if 0x100 ≤ r ∧ r < 0x900 then (s.chan (8 * e + (r / 0x100 - 1))).read (r % 0x100)
  else 0

/-- A write in the DMA block. -/
def State.dmaRegWrite (s : State) (master o : Nat) (v : W32) : State :=
  let r := o % 0x1000
  if 0x100 ≤ r ∧ r < 0x900 then s.writeDmaReg master (8 * (o / 0x1000) + (r / 0x100 - 1)) (r % 0x100) v else s

/-! ### Responses -/

/-- The address that a byte at an offset of a copy has, at a source or a destination. -/
def dmaAddr (base : Nat) (fixed : Bool) (off : Nat) : Nat := if fixed then base else base + off

/-- Source and destination of an incrementing copy overlap at byte `i`: its value is undefined. -/
def Desc.overlaps (d : Desc) (i : Nat) : Bool :=
  !d.srcFixed && !d.dstFixed &&
    ((decide (d.dst ≤ d.src + i) && decide (d.src + i < d.dst + d.len)) ||
      (decide (d.src ≤ d.dst + i) && decide (d.dst + i < d.src + d.len)))

/-- The bytes of a beat at offset `off`, free where the copy overlaps itself. -/
def Desc.beat (d : Desc) (free off : Nat) (bs : List Byte) : List Byte :=
  ((List.range bs.length).zip bs).map fun e =>
    if d.overlaps (off + e.1) then Config.freeByte (8 * free + e.1) else e.2

/-- A descriptor arrives (R243, R244); one whose channel is to stop is discarded (R252). -/
def State.dmaGotDesc (s : State) (ch : Nat) (b : List Byte) : State :=
  let c := s.chan ch
  let d := Desc.parse b
  let c1 := { c with rd := none, desc := d, phase := .move, remain := d.len % 2 ^ 25 }
  s.setChan ch <|
    if c.stopping then { c with rd := none }
    else if badDesc b then { c1 with endSt := some (c.endSt.getD 0x90) } else c1

/-- Source data arrives at the mover (R245). -/
def State.dmaGotData (s : State) (ch : Nat) (b : List Byte) : State :=
  let c := s.chan ch
  let n := min b.length c.remain
  s.setChan ch { c with rd := none, inbox := c.inbox ++ b.take n, remain := c.remain - n }

/-- Bytes confirmed: below the first write without a DONE, failed ones among them (R251, R252). -/
def Chan.confirm (c : Chan) : Nat :=
  let n := match c.unacked with
    | [] => c.written
    | u :: _ => u.off
  match c.failOff with
  | some f => min f n
  | none => n

/-- A write is confirmed. -/
def State.dmaAcked (s : State) (ch tag : Nat) : State :=
  let c := s.chan ch
  let c1 := { c with unacked := c.unacked.filter fun u => u.msg.tag != tag }
  s.setChan ch (if c.phase = .move then { c1 with confirmed := c1.confirm } else c1)

/-- A request of channel `ch` ends with an error; a failed fetch is 0x90 (R249).  No byte from a failed write on is
confirmed. -/
def State.dmaErrored (s : State) (ch tag status : Nat) : State :=
  let c := s.chan ch
  let off := (c.unacked.find? fun u => u.msg.tag == tag).map (·.off)
  let c1 := { c with
    rd := if c.rd.any fun u => u.msg.tag == tag then none else c.rd
    unacked := c.unacked.filter fun u => u.msg.tag != tag
    failOff := if c.phase = .move then
        match c.failOff, off with
        | some a, some b => some (min a b)
        | a, b => a.or b
      else c.failOff }
  (s.setChan ch c1).dmaFail ch (if c.phase = .fetch then 0x90 else status)

/-- A resend of R156; after three, or for a WRITE_FIXED, which is never resent, the request fails with 0x88 and
source 7. -/
def State.dmaResend (s : State) (ch : Nat) (u : DmaReq) : State :=
  let c := s.chan ch
  if u.msg.kind = .writeFixed ∨ 3 ≤ u.resends then (s.dmaErrored ch u.msg.tag 0x88).report 7 dmaUnit 0xFFFF 0 0x88
  else
    let up (x : DmaReq) : DmaReq := if x.msg.tag = u.msg.tag then { x with resends := x.resends + 1, since := s.now } else x
    (s.setChan ch { c with rd := c.rd.map up, unacked := c.unacked.map up }).fly u.msg

/-- A response to the channel that its tag names (R156, R248, R249). -/
def State.dmaResponse (s : State) (r : Resp) : State :=
  let ch := 8 * (r.dstId - 0x410) + r.tag % 8
  match (s.chan ch).openReq r.tag with
  | none => s
  | some u =>
    if r.kind = .retry ∨ r.badCrc then s.dmaResend ch u
    else if r.kind = .error then s.dmaErrored ch r.tag r.status
    else if u.msg.kind = .read then
      if (s.chan ch).phase = .fetch then s.dmaGotDesc ch r.data else s.dmaGotData ch r.data
    else s.dmaAcked ch r.tag

/-! ### Moving (R245, R247) -/

/-- The next READ of a channel: its address and length, if one may be issued. -/
def Chan.nextRead (c : Chan) : Option (Nat × Nat) :=
  let d := c.desc
  let off := d.len - c.remain
  let size := 8 * d.burst
  let held := c.staging.length + c.inbox.length
  let n := min (min (512 - held) (size - off % size)) c.remain
  if c.stopping ∨ c.endSt.isSome ∨ c.rd.isSome then none
  else if c.phase = .fetch then some (c.cur, 32)
  else if c.phase ≠ .move ∨ c.remain = 0 then none
  else if d.srcFixed then if held + 8 ≤ 512 then some (d.src, 8) else none
  else if 8 ≤ n ∨ n = c.remain then some (d.src + off, n) else none

/-- The mover may copy for a channel. -/
def Chan.moves (c : Chan) : Bool := c.phase == .move && !c.stopping && c.endSt.isNone

/-- A beat of a channel from staging to its destination is ready, and a tag for it. -/
def State.outReady (s : State) (ch : Nat) : Bool :=
  let c := s.chan ch
  let n := min 8 (c.desc.len - c.written)
  c.moves && decide (0 < n) && decide (n ≤ c.staging.length) && decide (c.unacked.length < 16) &&
    (s.dmaSeq ch true).isSome

/-- A beat of a channel is ready for the mover: one that has come from the source, or one for the destination. -/
def State.beatReady (s : State) (ch : Nat) : Bool :=
  ((s.chan ch).moves && !(s.chan ch).inbox.isEmpty) || s.outReady ch

/-- Every channel of engine `e` issues the READ that it may. -/
def State.issueReads (s : State) (e : Nat) : State :=
  (List.range 8).foldl (fun u k =>
    let ch := 8 * e + k
    match (u.chan ch).nextRead with
    | some x => u.dmaRead ch x.1 x.2
    | none => u) s

/-- The turn among the channels of priority `p`: a channel and the beats left of its burst. -/
def DmaEngine.turn (g : DmaEngine) (p : Nat) : Nat × Nat := (tfind? p g.turns).getD (7, 0)

/-- The channel that the mover serves: of the highest priority, in turns of a burst among equals (R247). -/
def State.moverPick (s : State) (e : Nat) : Option Nat :=
  let ready := (List.range 8).filter fun k => s.beatReady (8 * e + k)
  match ready.map fun k => (s.chan (8 * e + k)).prio with
  | [] => none
  | p :: r =>
    let best := r.foldl min p
    let cands := ready.filter fun k => (s.chan (8 * e + k)).prio == best
    let g := (s.dmaE e).turn best
    if 0 < g.2 ∧ cands.contains g.1 then some g.1
    else ((List.range 8).map fun i => (g.1 + 1 + i) % 8).find? fun k => cands.contains k

/-- Copy up to 8 bytes that have come from the source into staging (R247). -/
def State.stageBeat (s : State) (ch : Nat) : State :=
  let c := s.chan ch
  s.setChan ch { c with staging := c.staging ++ c.inbox.take 8, inbox := c.inbox.drop 8 }

/-- A channel of lower priority that holds staged data stands pre-empted while channel `k` is served (R251). -/
def State.preempts (s : State) (e k : Nat) : State :=
  let p := (s.chan (8 * e + k)).prio
  (List.range 8).foldl (fun u j =>
    let x := u.chan (8 * e + j)
    u.setChan (8 * e + j) { x with preempted := j != k && x.busy && !x.staging.isEmpty && decide (p < x.prio) }) s

/-- No channel of engine `e` has a beat ready, so none stands pre-empted. -/
def State.noPreempts (s : State) (e : Nat) : State :=
  (List.range 8).foldl (fun u j => u.setChan (8 * e + j) { u.chan (8 * e + j) with preempted := false }) s

/-- The mover copies one beat of channel `k` of engine `e`: what has come from the source goes into staging first.  A beat
that the channel's owner may not write is not moved, and counts nowhere (R242, R251). -/
def State.moveBeat (s : State) (e k : Nat) : State :=
  let ch := 8 * e + k
  let c := s.chan ch
  let d := c.desc
  let n := min 8 (d.len - c.written)
  let data := d.beat s.free c.written (c.staging.take n)
  let g := s.dmaE e
  let t := g.turn c.prio
  let share := if 0 < t.2 ∧ t.1 = k then t.2 else d.burst
  let moved := !c.inbox.isEmpty || s.dmaReach (s.dmaWho ch) (dmaAddr d.dst d.dstFixed c.written) data.length true
  let s1 := { s with free := s.free + 1 }.setDmaE e { g with
    beats := g.beats + b2n moved, turns := tput c.prio (k, share - 1) g.turns }
  let s2 := s1.preempts e k
  if !c.inbox.isEmpty then s2.stageBeat ch
  else s2.dmaWrite ch (dmaAddr d.dst d.dstFixed c.written) c.written d.dstFixed data

/-! ### Ends (R248, R252) -/

/-- The descriptor's end is due: every request has come back and all is written, or it is to end in error. -/
def Chan.endDue (c : Chan) : Bool :=
  c.busy && c.rd.isNone && c.unacked.isEmpty &&
    (c.phase == .writeBack || c.endSt.isSome || (c.phase == .move && c.written == c.desc.len)) &&
    (!c.stopping || c.ends || c.endSt.isSome)

/-- What follows the status: LAST, the source, and the next descriptor or idleness (R248). -/
def State.dmaFinish (s : State) (ch status : Nat) : State :=
  let c := s.chan ch
  let d := c.desc
  if status = 0 then
    let s1 := (s.setChan ch { c with last := 0 }).fireIf d.evt (96 + ch)
    if d.nextEn && !c.stopping then s1.dmaFetch ch d.next
    else
      (s1.setChan ch { s1.chan ch with
        busy := false, stopping := false, phase := .idle, done := true, ends := false }).unpreempt ch
  else
    ((s.setChan ch { c with
      last := status, err := true, busy := false, stopping := false, phase := .idle
      staging := [], inbox := [], endSt := none, ends := false }).unpreempt ch).fireIf c.evErr (96 + ch)

/-- A descriptor ends: its status is written back first where WB asks for it, unless a stop lets nothing further be
issued (R248, R252). -/
def State.dmaEnd (s : State) (ch : Nat) : State :=
  let c := s.chan ch
  let st := c.endSt.getD 0
  if c.desc.wb ∧ c.phase = .move ∧ (!c.stopping || c.ends) then
    if (s.dmaSeq ch true).isNone then s
    else
      let s1 := (s.setChan ch { c with phase := .writeBack }).dmaWrite ch (c.cur + 18) 0 false [BitVec.ofNat 8 st]
      s1.setChan ch { s1.chan ch with written := c.written, staging := [], inbox := [] }
  else s.dmaFinish ch st

/-! ### Rows -/

/-- The engine of channel `ch` works: the device is in Run, and no stop at a beat boundary holds its mover (R438, R487). -/
def State.movesOn (s : State) (ch : Nat) : Bool := s.running && !(s.dmaE (ch / 8)).halted

/-- The address of a register of DMA channel `ch` (R22, R251). -/
def dmaReg (ch off : Nat) : Nat := 0x10080000 + 0x1000 * (ch / 8) + 0x100 * (ch % 8 + 1) + off

/-- DMA_RUN (R251): a write of DMA_CH_CTL with RUN set. -/
def execDmaRun (master ch : Nat) (v : W32) (s : State) : Out :=
  ok (decide (ch < 128)) 
    (s.regWrite (s.whoIs master) (dmaReg ch 0) 4 fun u => when_ (bitq v 31) (u.writeDmaCtl master ch v) u)

/-- DMA_STOP (R252): a write of DMA_CH_CTL with RUN clear. -/
def execDmaStop (master ch : Nat) (v : W32) (s : State) : Out :=
  ok (decide (ch < 128)) 
    (s.regWrite (s.whoIs master) (dmaReg ch 0) 4 fun u => when_ (!bitq v 31) (u.writeDmaCtl master ch v) u)

/-- DMA_STOP_COMPLETE (R252): every write issued has drawn its DONE; the tag of a read still out rests. -/
def execDmaStopComplete (ch : Nat) (s : State) : Out :=
  let c := s.chan ch
  let due := c.busy && c.stopping && !c.ends && c.unacked.isEmpty && c.endSt.isNone
  let s1 := s.setChan ch { c with
    last := 0x91, stopped := true, busy := false, stopping := false, phase := .idle
    staging := [], inbox := [], rd := none }
  let e := s1.dmaE (ch / 8)
  let s2 := s1.setDmaE (ch / 8) { e with resting := e.resting ++ c.rd.toList.map fun r => (r.msg.tag, s.now) }
  ok (decide (ch < 128)) (when_ (due && s.movesOn ch) ((s2.unpreempt ch).fireIf c.evErr (96 + ch)) s)

/-- DMA_RESET (R253): a write of RESET by the owner, with the other fields as they are. -/
def execDmaReset (master ch : Nat) (s : State) : Out :=
  let c := s.chan ch
  ok (decide (ch < 128)) 
    (s.regWrite (s.whoIs master) (dmaReg ch 0) 4 fun u => u.writeDmaCtl master ch (w32 (2 ^ 30 + b2n c.evErr * 16 + c.prio)))

/-- DMA_BEAT (R245, R247): the channels issue their reads, and the mover copies one beat; with none ready no channel
stands pre-empted. -/
def execDmaBeat (e : Nat) (s : State) : Out :=
  let g := s.dmaE e
  let s1 := s.issueReads e
  let s' := match s1.moverPick e with
    | some k => s1.moveBeat e k
    | none => s1.noPreempts e
  ok (decide (e < 16)) (when_ (!g.fenced && !g.halted && s.running) s' s)

/-- DMA_DESCRIPTOR_COMPLETE (R248). -/
def execDmaDescriptorComplete (ch : Nat) (s : State) : Out :=
  ok (decide (ch < 128)) (when_ ((s.chan ch).endDue && s.movesOn ch) (s.dmaEnd ch) s)

end Sys2Proof.Machine
end

