-- ==== Sys2Proof/Machine/Regs.lean ====
section
/-! DEFINITION. Register reads and writes of every block of the unit map (R7 to R10, R22), one aligned 32-bit
word at a time, as their register tables give them.  Blocks that only the firmware reaches have no layout and
read zero (log 17). -/

namespace Sys2Proof.Machine

/-! ### Capability block and mailboxes (R383 to R388, R400) -/

/-- MBX_FW (R387). -/
def Mgmt.fwReg (g : Mgmt) : Nat :=
  b2n g.serving * 2 ^ 31 + b2n g.restarting * 2 ^ 30 + b2n g.trial * 2 ^ 29 + g.bank % 2 * 2 ^ 28 +
    g.restarts.toNat

/-- A read in the capability block at offset `o`. -/
def State.rdCap (s : State) (w : Who) (mute : Bool) (o : Nat) : State × Nat :=
  if o < 0x800 then (s, leNum (s.capBytes o 4))
  else if o < 0x900 then
    let m := (o - 0x800) / 0x20
    let v := s.mbx m
    match o % 0x20 with
    | 0x04 => (s, v.stateReg)
    | 0x0C => (s, v.errReg)
    | 0x10 => if mute then (s, 0) else s.readMbxTake m w.dev w.id w.phys w.tag
    | 0x14 => (s, v.holderReg)
    | _ => (s, 0)
  else if o = 0x900 then (s, s.mgmt.fwReg)
  else if o = 0x904 then (s, s.mgmt.hwAborts)
  else (s, 0)

/-- A write in the doorbell block (R387). -/
def State.wrDoorbell (s : State) (w : Who) (o : Nat) (v : W32) : State :=
  if o < 0x800 ∨ 0x900 ≤ o then s
  else
    let m := (o - 0x800) / 0x20
    let x := s.mbx m
    match o % 0x20 with
    | 0x00 => s.doorbell m w.dev w.id v
    | 0x08 => s.writeAbort m w.dev w.id v
    | 0x18 => s.writeGive m w.dev w.id v
    | 0x0C =>
      if s.submits m w.dev w.id then
        s.setMbx m { x with
          expired := x.expired && !bitq v 3, foreign := x.foreign && !bitq v 2
          locked := x.locked && !bitq v 1, overrun := x.overrun && !bitq v 0 }
      else s.mbxForeign m
    | 0x04 => if s.submits m w.dev w.id then s else s.mbxForeign m
    | _ => s

/-- Byte `o` of the mailbox block. -/
def State.mbxByte (s : State) (o : Nat) : Byte :=
  let v := s.mbx (o / 0x2000)
  if o % 0x2000 < 0x1000 then memGet 0 (o % 0x1000) v.cmd else memGet 0 (o % 0x1000) v.resp

/-- A write into the mailbox block (R385): the command area, by its submitter, while Idle or Complete; the
response area takes none. -/
def State.wrMbxByte (s : State) (w : Who) (o : Nat) (b : Byte) : State :=
  let m := o / 0x2000
  let v := s.mbx m
  if 0x1000 ≤ o % 0x2000 then s
  else if s.submits m w.dev w.id && !v.busy then s.setMbx m { v with cmd := memPut 0 (o % 0x1000) b v.cmd }
  else s.setMbx m { v with locked := true }

/-! ### Event router (R266, R271) -/

/-- A word of bits of sources 32w to 32w + 31. -/
def State.srcBits (s : State) (w : Nat) (f : Src → Bool) : Nat :=
  ((List.range 32).map fun i => b2n (f (s.src (32 * w + i))) * 2 ^ i).foldl (· + ·) 0

/-- A read in the router's block. -/
def State.rdEvr (s : State) (o : Nat) : State × Nat :=
  let r := s.router
  if o = 0x00 then (s, r.err.toNat)
  else if o = 0x04 then (s, r.offender.toNat)
  else if o = 0x08 then ({ s with router := { r with lost := 0 } }, r.lost)
  else if o = 0x0C then (s, r.deliv.toNat)
  else if o = 0x10 then (s, r.wakeCfg.toNat)
  else if 0x80 ≤ o ∧ o < 0x100 then
    let h := s.hold ((o - 0x80) / 4)
    (s, b2n h.busy * 2 ^ 31 + h.us)
  else if 0x100 ≤ o ∧ o < 0x180 then (s, (tget 0 ((o - 0x100) / 4) r.watch).toNat)
  else if 0x200 ≤ o ∧ o < 0x240 then (s, s.srcBits ((o - 0x200) / 4) (·.pend))
  else if 0x240 ≤ o ∧ o < 0x280 then (s, s.srcBits ((o - 0x240) / 4) (·.act))
  else if 0x400 ≤ o ∧ o < 0x440 then (s, s.srcBits ((o - 0x400) / 4) (·.fired))
  else if 0x1000 ≤ o ∧ o < 0x2000 then
    let x := s.src ((o - 0x1000) / 8)
    (s, if o % 8 = 0 then x.tgt.toNat else x.reg.toNat)
  else (s, 0)

/-- A write in the router's block. -/
def State.wrEvr (s : State) (own o : Nat) (v : W32) : State :=
  let r := s.router
  if o = 0x00 then { s with router := { r with err := r.err &&& ~~~ (BitVec.ofNat 4 (fld v 0 4)) } }
  else if o = 0x10 then
    if own = 0x400 then { s with router := { r with wakeCfg := v &&& 0x1FFFFF } } else s.evrProt
  else if 0x80 ≤ o ∧ o < 0x100 then s.writeHold own ((o - 0x80) / 4) v
  else if 0x100 ≤ o ∧ o < 0x180 then
    if own = 0x400 then
      { s with router := { r with watch := tput ((o - 0x100) / 4) (v &&& 0x800001FF) r.watch } }
    else s.evrProt
  else if 0x400 ≤ o ∧ o < 0x440 then s.writeFired own ((o - 0x400) / 4) v
  else if 0x1000 ≤ o ∧ o < 0x2000 ∧ o % 8 = 0 then s.writeTgt own ((o - 0x1000) / 8) v
  else s

/-! ### Time unit (R276, R290) -/

/-- A read in the time unit's block. -/
def State.rdTime (s : State) (o : Nat) : State × Nat :=
  let t := s.time
  if 0x100 ≤ o ∧ o < 0x200 then
    let a := s.alarm ((o - 0x100) / 0x20)
    match o % 0x20 with
    | 0x00 => (s, a.ns)
    | 0x04 => (s, a.sec % 2 ^ 32)
    | 0x08 => (s, a.sec / 2 ^ 32)
    | 0x0C => (s, a.period)
    | 0x10 => (s, a.ctl)
    | _ => (s, 0)
  else
    match o with
    | 0x00 => (s.sampleTime, t.ns)
    | 0x04 => (s, t.snapSec % 2 ^ 32)
    | 0x08 => (s, t.snapSec / 2 ^ 32)
    | 0x0C => (s, t.stat)
    | 0x10 => (s, t.unc.toNat)
    | 0x14 => (s, t.err.toNat)
    | 0x18 => (s, uint 32 t.rate)
    | 0x1C => (s, t.owner)
    | 0x20 => (s, t.newNs)
    | 0x24 => (s, t.newSec % 2 ^ 32)
    | 0x28 => (s, t.newSec / 2 ^ 32)
    | 0x30 => (s, t.stepCnt.toNat)
    | 0x34 =>
      let s1 := { s with free := s.free + 1 }.sampleAon (Config.freeNat s.free % 3)
      (s1, s1.aon.lastLo % 2 ^ 32)
    | 0x38 => (s, s.aon.snapHi)
    | 0x3C => (s, s.aon.rate)
    | _ => (s, 0)

/-- A write of a register that only TIME_OWNER may write (R276). -/
def State.timeOwned (s : State) (own : Nat) (t : TimeUnit) : State :=
  if s.time.owner = own then { s with time := t }
  else { s with time := { s.time with err := s.time.err ||| 1 } }

/-- A write in the time unit's block. -/
def State.wrTime (s : State) (own o : Nat) (v : W32) : State :=
  let t := s.time
  if 0x100 ≤ o ∧ o < 0x200 then
    let k := (o - 0x100) / 0x20
    if o % 0x20 = 0x10 then s.writeAlmCtl own k v
    else if o % 0x20 < 0x10 then s.writeAlm own k (o % 0x20) v
    else s
  else
    match o with
    | 0x14 => { s with time := { t with err := t.err &&& ~~~ (BitVec.ofNat 3 (fld v 0 3)) } }
    | 0x18 => s.writeRate own v
    | 0x20 => s.timeOwned own { t with newNs := fld v 0 30 }
    | 0x24 => s.timeOwned own { t with newSec := t.newSec / 2 ^ 32 * 2 ^ 32 + v.toNat }
    | 0x28 => s.timeOwned own { t with newSec := t.newSec % 2 ^ 32 + fld v 0 16 * 2 ^ 32 }
    | 0x2C => s.writeCommit own (fld v 0 2)
    | _ => s

/-! ### Field I/O (R308, R312, R313) -/

/-- A read in the field-pin block. -/
def State.rdPins (s : State) (o : Nat) : State × Nat :=
  if 0x100 ≤ o ∧ o < 0x700 then
    let p := s.pin ((o - 0x100) / 0x10)
    match o % 0x10 with
    | 0x0 => (s, p.cfg.toNat)
    | 0x4 => (s, p.owner)
    | 0x8 => (s, p.edges.toNat * 2 ^ 16 + p.dgl)
    | _ => (s, b2n p.safe * 2 ^ 16 + b2n p.safeFrost * 2 ^ 8 + p.safeLevel)
  else if o = 0x00 then (s, s.fio.err.toNat)
  else if o = 0x04 then (s, s.fio.offender.toNat)
  else if 0x10 ≤ o ∧ o < 0x1C then
    (s, ((List.range 32).map fun i => b2n (s.pin (32 * ((o - 0x10) / 4) + i)).level * 2 ^ i).foldl (· + ·) 0)
  else if 0x40 ≤ o ∧ o < 0x58 then (s, (s.bank ((o - 0x40) / 4)).vio)
  else (s, 0)

/-- A write in the field-pin block. -/
def State.wrPins (s : State) (own o : Nat) (v : W32) : State :=
  if 0x100 ≤ o ∧ o < 0x700 then s.writePinReg own ((o - 0x100) / 0x10) (o % 0x10) v
  else if o = 0x00 then { s with fio := { s.fio with err := s.fio.err &&& ~~~ (BitVec.ofNat 3 (fld v 0 3)) } }
  else if 0x20 ≤ o ∧ o < 0x2C then s.writePinBits own ((o - 0x20) / 4) v true
  else if 0x30 ≤ o ∧ o < 0x3C then s.writePinBits own ((o - 0x30) / 4) v false
  else s

/-- A read in the timer block: a capture that is read has been read (R306). -/
def State.rdTimer (s : State) (o : Nat) : State × Nat :=
  let n := o / 0x40
  if 32 ≤ n then (s, 0)
  else
    let t := s.timer n
    (if o % 0x40 = 0x24 then s.setTimer n { t with capUnread := false } else s, t.read (o % 0x40))

/-- A read in the serial block. -/
def State.rdSer (s : State) (mute : Bool) (o : Nat) : State × Nat :=
  let e := o / 0x100
  if 8 ≤ e then (s, 0)
  else
    let x := s.ser e
    match o % 0x100 with
    | 0x00 => (s, x.ctl.toNat)
    | 0x04 => (s, x.rate.toNat)
    | 0x0C => if mute then (s, 0) else s.readSer e
    | 0x10 => (s, x.stat)
    | 0x14 => (s, x.owner)
    | _ => (s, 0)

/-! ### Queues (R188) -/

/-- QUEUE_STAT. -/
def Queue.stat (v : Queue) : Nat := v.fill.length * 2 ^ 16 + v.drain.length * 2 ^ 8 + v.sticky.toNat
/-- QUEUE_CONSUMER. -/
def Queue.consumer (v : Queue) : Nat := b2n v.line10 * 2 ^ 31 + b2n v.give * 2 ^ 30 + v.owner

/-- The result record of the requesting physical tile; zero for a unit (R174). -/
def resultFor (l : Table Result) (w : Who) : Nat :=
  if w.phys < 1088 then leNum (tget {} w.phys l).bytes else 0

/-- A read in the queue block; QUEUE_POP is read whole elsewhere (R181). -/
def State.rdQueue (s : State) (w : Who) (o : Nat) : State × Nat :=
  if o < 0x4C00 then
    let q := o / 0x40
    let v := s.queue q
    match o % 0x40 with
    | 0x10 => (s, v.en.toNat)
    | 0x14 => (s, v.stat)
    | 0x18 => (s, v.pushCnt.toNat)
    | 0x1C => (s, v.popCnt.toNat)
    | 0x20 => (s, b2n v.tailSwap * 2 ^ 31 + v.tailLimit)
    | 0x24 => (s, v.consumer)
    | 0x28 => (s.setQueue q { v with refCnt := 0 }, v.refCnt)
    | 0x38 => (s, resultFor v.results w % 2 ^ 32)
    | 0x3C => (s, resultFor v.results w / 2 ^ 32)
    | _ => (s, 0)
  else if o < 0x4C40 then
    (s, ((List.range 16).map fun i => b2n (s.queue ((o - 0x4C00) / 4 * 16 + i)).summary * 2 ^ i).foldl (· + ·) 0)
  else (s, 0)

/-- A write of QUEUE_CONSUMER: line 10 of a newly named consumer follows the level (R79, R187). -/
def State.writeConsumer (s : State) (q : Nat) (v : W32) : State :=
  let x := s.queue q
  let y := { x with line10 := bitq v 31, give := bitq v 30, owner := fld v 0 12 }
  let s1 := s.setQueue q y
  if y.line10 && !y.isEmpty && decide (y.owner < 1024) && !(x.line10 && x.owner == y.owner) then
    s1.setLineL y.owner 10
  else s1

/-- A write in the queue block. -/
def State.wrQueue (s : State) (own o : Nat) (v : W32) : State :=
  let q := o / 0x40
  let x := s.queue q
  if 0x4C00 ≤ o then s
  else
    match o % 0x40 with
    | 0x00 => s.writePush q v own
    | 0x10 =>
      let s1 := if bitq v 8 then s.qFlush q else s
      let y := s1.queue q
      s1.queueNotices q y { y with en := BitVec.ofNat 5 (fld v 0 5) }
    | 0x14 => s.queueNotices q x { x with sticky := x.sticky &&& ~~~ (BitVec.ofNat 5 (fld v 0 5)) }
    | 0x20 =>
      if 1000000 < fld v 0 20 then s
      else s.setQueue q { x with tailSwap := bitq v 31, tailLimit := fld v 0 20 }
    | 0x24 => s.writeConsumer q v
    | _ => s

/-! ### Buffer pool (R201) -/

/-- A read in the pool's block; POOL_TAKE is read elsewhere. -/
def State.rdPool (s : State) (o : Nat) : State × Nat :=
  let l := s.pool
  if 0x1000 ≤ o ∧ o < 0x3000 then
    let n := (o - 0x1000) / 4
    (s, l.ownerOf n * 2 ^ 16 + l.handle n)
  else
    match o with
    | 0x10 => (s, l.freeCount)
    | 0x14 => (s, l.reserve)
    | 0x18 => (s, l.low)
    | 0x1C => (s, l.err.toNat)
    | 0x20 => (s, l.evctl.toNat)
    | 0x24 => ({ s with pool := { l with cntDouble := 0 } }, l.cntDouble)
    | 0x28 => ({ s with pool := { l with cntForeign := 0 } }, l.cntForeign)
    | 0x2C => ({ s with pool := { l with cntStale := 0 } }, l.cntStale)
    | 0x30 => ({ s with pool := { l with cntEmpty := 0 } }, l.cntEmpty)
    | 0x34 => (s, l.offender.toNat)
    | _ => (s, 0)

/-- A write in the pool's block. -/
def State.wrPool (s : State) (own o : Nat) (v : W32) : State :=
  let l := s.pool
  match o with
  | 0x08 => s.poolFreeOp own (fld v 0 16)
  | 0x0C => s.poolGiveOp own (fld v 0 16) (fld v 16 12)
  | 0x14 => if 1024 < fld v 0 12 then s else { s with pool := { l with reserve := fld v 0 12 } }
  | 0x18 => { s with pool := { l with low := fld v 0 12 } }
  | 0x1C => { s with pool := { l with err := l.err &&& ~~~ (BitVec.ofNat 5 (fld v 0 5)) } }
  | 0x20 => { s with pool := { l with evctl := BitVec.ofNat 5 (fld v 0 5) } }
  | _ => s

/-! ### Inspection engine (R238) -/

/-- STATE of STRM_STAT. -/
def StreamState.code : StreamState → Nat
  | .off => 0
  | .armed => 1
  | .running => 2
  | .draining => 3
  | .error => 4

/-- A counter of stream `k` read and cleared. -/
def State.rcStream (s : State) (k n : Nat) (c : StreamCnt) : State × Nat :=
  (s.setStream k { s.stream k with cnt := c }, n)

/-- A read of a stream's registers. -/
def State.rdStream (s : State) (k o : Nat) : State × Nat :=
  let v := s.stream k
  let c := v.cnt
  match o with
  | 0x00 => (s, v.st.code * 2 ^ 29 + v.items.length * 2 ^ 16 + v.backlog.length)
  | 0x04 => (s, v.line)
  | 0x08 => (s, v.swLine)
  | 0x0C => (s, v.closed % 2 ^ 32)
  | 0x14 => s.rcStream k c.late { c with late := 0 }
  | 0x18 => s.rcStream k c.badPkt { c with badPkt := 0 }
  | 0x1C => s.rcStream k c.missing { c with missing := 0 }
  | 0x20 => s.rcStream k c.incomplete { c with incomplete := 0 }
  | 0x24 => s.rcStream k c.dropped { c with dropped := 0 }
  | 0x28 => s.rcStream k c.itemOvf { c with itemOvf := 0 }
  | 0x2C => s.rcStream k c.runOvf { c with runOvf := 0 }
  | 0x30 => s.rcStream k c.clip { c with clip := 0 }
  | 0x34 => s.rcStream k c.stall { c with stall := 0 }
  | _ => (s, 0)

/-- A read in the engine's block. -/
def State.rdEngine (s : State) (o : Nat) : State × Nat :=
  let e := s.engine
  if 0x100 ≤ o ∧ o < 0x200 then s.rdStream ((o - 0x100) / 0x40) (o % 0x40)
  else
    match o with
    | 0x00 => (s, b2n e.switching * 2 ^ 31 + b2n e.homeValid * 2 ^ 30 + e.homeBank * 2 ^ 16 + e.homeId)
    | 0x04 => (s, b2n e.awayValid * 2 ^ 31 + e.awayId)
    | 0x08 => (s, e.err.toNat)
    | 0x0C => (s, s.openItems)
    | 0x14 => (s, e.retOff.toNat)
    | 0x18 => (s.setEngine { e with noStream := 0 }, e.noStream)
    | 0x1C => (s, e.eccAddr)
    | _ => (s, 0)

/-- A write in the engine's block. -/
def State.wrEngine (s : State) (own o : Nat) (v : W32) : State :=
  let e := s.engine
  if 0x100 ≤ o ∧ o < 0x200 then
    if o % 0x40 = 0x10 ∧ bitq v 0 then s.flushStream ((o - 0x100) / 0x40) else s
  else
    match o with
    | 0x08 => s.setEngine { e with err := e.err &&& ~~~ (BitVec.ofNat 8 (fld v 0 8)) }
    | 0x10 => s.writeEngReturn own v
    | _ => s

/-! ### Dispatchers (R197) -/

/-- STATE of DISP_SLOT. -/
def SlotState.code : SlotState → Nat
  | .unset => 0
  | .idle => 1
  | .ready => 2
  | .running => 3
  | .cancelling => 4

/-- DISP_SLOT. -/
def Slot.reg (v : Slot) : Nat :=
  v.tile * 2 ^ 16 + v.st.code * 2 ^ 12 + b2n v.again * 2 ^ 11 + v.cls * 2 ^ 8 + v.prio * 2 ^ 6 +
    b2n (v.st != .unset)

/-- Tiles of class `k`. -/
def Disp.cls (d : Disp) (k : Nat) : BitVec 64 := tget (if k = 0 then BitVec.allOnes 64 else 0) k d.classes

/-- A half of a 64-bit set. -/
def halfOf (b : BitVec 64) (hi : Bool) : Nat := if hi then b.toNat / 2 ^ 32 else b.toNat % 2 ^ 32
/-- Replace a half of a 64-bit set. -/
def setHalf (b : BitVec 64) (hi : Bool) (v : W32) : BitVec 64 :=
  if hi then BitVec.ofNat 64 (b.toNat % 2 ^ 32 + v.toNat * 2 ^ 32)
  else BitVec.ofNat 64 (b.toNat / 2 ^ 32 * 2 ^ 32 + v.toNat)

/-- DISP_COUNT. -/
def Disp.count (d : Disp) : Nat :=
  (d.slots.filter fun (e : Nat × Slot) => e.2.busy).length * 2 ^ 16 +
    (d.slots.filter fun (e : Nat × Slot) => e.2.st == SlotState.ready).length

/-- A read at offset `o` of the dispatcher of court `c`. -/
def State.rdDisp (s : State) (w : Who) (c o : Nat) : State × Nat :=
  let d := s.disp c
  if 0x400 ≤ o then (s, (d.slot ((o - 0x400) / 4)).reg)
  else if 0x10 ≤ o ∧ o < 0x50 then (s, halfOf (d.cls ((o - 0x10) / 8)) (o % 8 == 4))
  else
    match o with
    | 0x00 => (s, b2n d.en * 2 ^ 31 + d.place)
    | 0x04 => (s, d.cancelLimit)
    | 0x08 => (s, halfOf d.tiles false)
    | 0x0C => (s, halfOf d.tiles true)
    | 0x58 => (s, d.count)
    | 0x5C => (s.setDisp c { d with race := 0 }, d.race)
    | 0x60 => (s.setDisp c { d with discard := 0 }, d.discard)
    | 0x64 => (s.setDisp c { d with expired := 0 }, d.expired)
    | 0x3F8 => (s, resultFor d.results w % 2 ^ 32)
    | 0x3FC => (s, resultFor d.results w / 2 ^ 32)
    | _ => (s, 0)

/-- A write of DISP_SLOT: ignored as a whole while the slot is Ready, Running or Cancelling. -/
def Disp.writeSlot (d : Disp) (n : Nat) (v : W32) : Disp :=
  let x := d.slot n
  if x.st = .unset ∨ x.st = .idle then
    d.setSlot n { x with cls := fld v 8 3, prio := fld v 6 2, st := if bitq v 0 then .idle else .unset }
  else d

/-- A write at offset `o` of the dispatcher of court `c`; a ready request that a cancel beats is discarded (R194). -/
def State.wrDisp (s : State) (w : Who) (c o : Nat) (v : W32) : State :=
  let d := s.disp c
  if 0x400 ≤ o then s.setDisp c (d.writeSlot ((o - 0x400) / 4) v)
  else if 0x10 ≤ o ∧ o < 0x50 then
    let k := (o - 0x10) / 8
    s.setDisp c { d with classes := tput k (setHalf (d.cls k) (o % 8 == 4) v) d.classes }
  else
    match o with
    | 0x00 => s.setDisp c { d with en := bitq v 31, place := if fld v 0 2 = 3 then d.place else fld v 0 2 }
    | 0x04 =>
      if fld v 0 10 = 0 ∨ 1000 < fld v 0 10 then s else s.setDisp c { d with cancelLimit := fld v 0 10 }
    | 0x08 => s.setDisp c { d with tiles := setHalf d.tiles false v }
    | 0x0C => s.setDisp c { d with tiles := setHalf d.tiles true v }
    | 0x50 => if w.beaten then s.beaten c else (s.dReady c (fld v 0 8)).1
    | 0x54 => (s.dCancel c (fld v 0 8)).1
    | _ => s

/-! ### Debug block (R484) -/

/-- DBG_TILE_STAT for the tile last named. -/
def State.dbgTileStat (s : State) : Nat :=
  match s.physOf s.dbgBlock.tile with
  | none => b2n s.dbgBlock.refused * 4
  | some p =>
    (s.tile p).pc.toNat * 2 ^ 16 + b2n s.dbgBlock.refused * 4 +
      (if s.dbgBlock.haltDue.contains p then 2 else b2n ((s.tile p).run == .dbgHalted))

/-- A read in the debug block. -/
def State.rdDebug (s : State) (o : Nat) : State × Nat :=
  let d := s.dbgBlock
  if 0x100 ≤ o ∧ o < 0x180 then
    let x := s.patch ((o - 0x100) / 8)
    (s, if o % 8 = 0 then x.addr.toNat else x.data.toNat)
  else
    match o with
    | 0x00 =>
      (s, b2n d.frost * 2 ^ 31 + b2n (!d.wantFrost.isEmpty) * 2 ^ 30 + b2n s.attached * 2 ^ 29 +
        d.svc.level * 2 ^ 8 + d.dbg.level)
    | 0x04 => (s, b2n d.trigEn * 2 ^ 31 + d.trigSrc * 2 ^ 16 + b2n d.req)
    | 0x0C => (s, s.dbgTileStat)
    | 0x10 => (s, d.stimEn.toNat)
    | 0x14 => (s, d.traceCtl.toNat)
    | 0x18 => ({ s with dbgBlock := { d with drops := 0 } }, d.drops)
    | _ => (s, 0)

/-- A write in the debug block. -/
def State.wrDebug (s : State) (o : Nat) (v : W32) : State :=
  let d := s.dbgBlock
  if 0x100 ≤ o ∧ o < 0x180 then
    let u := (o - 0x100) / 8
    if o % 8 = 0 then s.writePatchAddr u v else s.writePatchData u v
  else if !s.dbgMay 2 then s
  else
    match o with
    | 0x04 =>
      { s with dbgBlock := { d with trigEn := bitq v 31, trigSrc := fld v 16 9, req := bitq v 0 } }.askFrost
        (bitq v 0)
    | 0x08 => s.writeDbgTile (fld v 30 2) (fld v 0 10)
    | 0x10 => { s with dbgBlock := { d with stimEn := v } }
    | 0x14 => { s with dbgBlock := { d with traceCtl := BitVec.ofNat 3 (fld v 0 3) } }
    | _ => s

/-! ### All blocks -/

/-- A read of the aligned word at `a` in the register blocks: the state and the value.  With `mute` an action
register returns zero and does not act (R482). -/
def State.rdWord (s : State) (w : Who) (mute : Bool) (a : Nat) : State × Nat :=
  let o := a % 0x10000
  match a / 0x10000 with
  | 0x1000 => s.rdCap w mute o
  | 0x1001 => (s, leNum ((List.range 4).map fun i => s.mbxByte (o + i)))
  | 0x1002 => s.rdEvr o
  | 0x1003 => s.rdTime o
  | 0x1005 => s.rdPins o
  | 0x1006 => s.rdTimer o
  | 0x1007 => s.rdSer mute o
  | 0x1008 => (s, s.dmaRegRead o)
  | 0x1009 => s.rdQueue w o
  | 0x100A => s.rdPool o
  | 0x100B => s.rdEngine o
  | 0x1012 => if o < 0x8000 then s.rdDisp w (o / 0x800) (o % 0x800) else (s, 0)
  | 0x1013 => s.rdDebug o
  | _ => (s, 0)

/-- A write of the aligned word at `a` in the register blocks. -/
def State.wrWord (s : State) (w : Who) (a : Nat) (v : W32) : State :=
  let o := a % 0x10000
  let own := s.ownId w
  match a / 0x10000 with
  | 0x1000 => s.wrDoorbell w o v
  | 0x1001 =>
    (List.range 4).foldl (fun u i => u.wrMbxByte w (o + i) (BitVec.ofNat 8 (v.toNat / 256 ^ i))) s
  | 0x1002 => s.wrEvr own o v
  | 0x1003 => s.wrTime own o v
  | 0x1005 => s.wrPins own o v
  | 0x1006 => if o < 0x800 then s.writeTmr own (o / 0x40) (o % 0x40) v else s
  | 0x1007 => if o < 0x800 then s.writeSer own (o / 0x100) (o % 0x100) v else s
  | 0x1008 => s.dmaRegWrite own o v
  | 0x1009 => s.wrQueue own o v
  | 0x100A => s.wrPool own o v
  | 0x100B => s.wrEngine own o v
  | 0x1012 => if o < 0x8000 then s.wrDisp w (o / 0x800) (o % 0x800) v else s
  | 0x1013 => s.wrDebug o v
  | _ => s

/-- A read of `n` bytes at `a` touches QUEUE_POP of a queue (R181). -/
def touchesPop (a n : Nat) : Bool :=
  (List.range n).any fun i =>
    let b := a + i
    decide (0x10090000 ≤ b ∧ b < 0x10094C00) && decide (8 ≤ b % 0x40 ∧ b % 0x40 < 16)

/-- A read of `n` bytes at `a` touches POOL_TAKE (R198). -/
def touchesTake (a n : Nat) : Bool := decide (a < 0x100A0004) && decide (0x100A0000 < a + n)

/-- A read of a register of the word at `a`, action registers included: QUEUE_POP as 8 bytes, POOL_TAKE as 4 or
8 (R176, R181, R201).  Any other read that touches one of them returns zero and does not act (R181, R198). -/
def State.rdRegs (s : State) (w : Who) (mute : Bool) (a n : Nat) : State × List Byte :=
  let q := (a - 0x10090000) / 0x40
  if decide (0x10090000 ≤ a) && decide (a < 0x10094C00) && a % 0x40 == 8 && n == 8 && !mute then
    let r := s.readPop q w.id w.phys w.tag
    (r.1, leBytes r.2 8)
  else if a == 0x100A0000 && (n == 4 || n == 8) && !mute then
    let r := s.readTake (s.ownId w) w.id w.phys w.tag
    (r.1, leBytes r.2 n)
  else if touchesPop a n || touchesTake a n then (s, leBytes 0 n)
  else
    let a0 := a / 4 * 4
    let k := (a + n + 3) / 4 - a / 4
    let r := (List.range k).foldl
      (fun (x : State × List Byte) i =>
        let y := x.1.rdWord w mute (a0 + 4 * i)
        (y.1, x.2 ++ leBytes y.2 4)) (s, [])
    (r.1, sliceB r.2 (a - a0) n)

end Sys2Proof.Machine
end

