-- ==== Sys2Proof/Machine/Net.lean ====
section
/-! DEFINITION. Requests served at their targets, responses at their requesters, and the accesses of the host
and of the debug master (R21 to R28, R144 to R156, R164 to R170, R405, R406, R482, R483). -/

namespace Sys2Proof.Machine

/-! ### Unit space (R22, R164, R227) -/

/-- A word of a memory's `bad` list is touched by `n` bytes at `a`. -/
def badWords (bad : List Nat) (a n : Nat) : Bool :=
  bad.any fun w => decide (a < 4 * w + 4) && decide (4 * w < a + n)

/-- An access of `n` bytes at unit address `a` in the physical-tile window, as a message to the tile. -/
def State.windowMsg (s : State) (a n : Nat) (kind : MsgKind) (data : List Byte) : Msg :=
  { kind := kind, len := n, srcId := 0x403, srcPhys := 0x7FF, srcDev := s.device, tag := 0, cap := 0
    chk := false, dev := s.device, space := 0, addr := a % 0x10000, data := data, badCrc := false }

/-- An access in the physical-tile window reaches the tile's router, which a fence makes answer 0x8B (R166). -/
def State.serveWindow (s : State) (m : Msg) (p : Nat) : State × Resp :=
  if s.isFenced p then (s, merr m 0x8B) else s.serveAt m p

/-- A read of `n` bytes at unit address `a` by a master that reaches it: the state, the status and the bytes. -/
def State.rdUnit (s : State) (w : Who) (a n : Nat) : State × Nat × List Byte :=
  if a < 0x800000 then ({ s with free := s.free + n }, 0, (s.model 0).bytes a n)
  else if a < 0x1400000 then
    let o := a - 0x1000000
    if badWords s.faults.badBuf o n then (s.report 6 poolUnit 0xFFFF 0 o, 0x83, [])
    else (s, 0, memRead 0 s.bufMem o n)
  else if a < 0x2200000 then
    let o := a - 0x2000000
    if badWords s.faults.badMgmt o n then ((s.report 6 ioUnit 0xFFFF 7 o).mgmtRestart false, 0x83, [])
    else (s, 0, memRead 0 s.mgmt.mem o n)
  else if a < 0x8400000 then
    let r := s.serveWindow (s.windowMsg a n .read []) ((a - 0x4000000) / 0x10000)
    (r.1, r.2.status, if r.2.status = 0 then r.2.data else [])
  else
    let mute := w.id == 0x403 && w.dev == s.device && !s.dbgMay 2
    let r := s.rdRegs w mute a n
    (r.1, 0, r.2)

/-- A flit of a write in the register blocks: an aligned whole word is written, and a part of one changes
nothing, but in the mailboxes' memory (R188, R385). -/
def State.wrFlit (s : State) (w : Who) (a : Nat) (bs : List Byte) : State :=
  if a / 0x10000 = 0x1001 then
    ((List.range bs.length).zip bs).foldl (fun u e => u.wrMbxByte w (a % 0x10000 + e.1) e.2) s
  else if a % 4 = 0 ∧ bs.length = 4 then s.wrWord w a (w32 (leNum bs))
  else s

/-- The flits of a write in the register blocks, in order. -/
def State.wrFlits (s : State) (w : Who) : Nat → Nat → List Byte → State
  | 0, _, _ => s
  | n + 1, a, bs => (s.wrFlit w a (bs.take 4)).wrFlits w n (a + 4) (bs.drop 4)

/-- A write of bytes at unit address `a` by a master that reaches it: the state and the status. -/
def State.wrUnit (s : State) (w : Who) (a : Nat) (bs : List Byte) : State × Nat :=
  if a < 0x800000 then
    let r := s.writeModel a bs
    (r.1, if r.2 then 0 else 0x81)
  else if a < 0x1400000 then (s.writeBuf (a - 0x1000000) bs, 0)
  else if a < 0x2200000 then
    let o := a - 0x2000000
    ({ s with
        mgmt := { s.mgmt with mem := memWrite 0 s.mgmt.mem o bs }
        faults := { s.faults with badMgmt := writtenBad s.faults.badMgmt o bs.length } }, 0)
  else if a < 0x8400000 then
    let r := s.serveWindow (s.windowMsg a bs.length .write bs) ((a - 0x4000000) / 0x10000)
    (r.1, r.2.status)
  else (s.wrFlits w ((bs.length + 3) / 4) a bs, 0)

/-- The 8-byte beats of a WRITE_FIXED at one unit address: in the register blocks each is two 32-bit writes
(R147, R246). -/
def State.wrBeats (s : State) (w : Who) (a : Nat) : Nat → List Byte → State × Nat
  | 0, _ => (s, 0)
  | n + 1, bs =>
    let b := bs.take 8
    if 0x8400000 ≤ a then
      let s1 := s.wrFlit w a (b.take 4)
      let s2 := if 4 < b.length then s1.wrFlit w a (b.drop 4) else s1
      s2.wrBeats w a n (bs.drop 8)
    else
      let r := s.wrUnit w a b
      if r.2 = 0 then r.1.wrBeats w a n (bs.drop 8) else r

/-- The gate that checks the cap of a tile's request in unit space: the one that holds the unit, else that of the
tile's physical court (R30, R166, R167, log 99). -/
def unitGate (m : Msg) : Nat := if unitPort m.addr < 17 then unitPort m.addr else m.srcPhys / 64

/-- A request in unit space of this device (R21 to R28, R155), whose cap is checked first (R30, R167). -/
def State.serveUnit (s : State) (m : Msg) : State × Resp :=
  if s.stale m then (s.staleDrop m (unitGate m), merr m 0x87)
  else
  let w := whoOf m
  let n := if m.kind = .read then m.len else m.data.length
  let again (r : State × Resp) : State × Resp := if m.badCrc then (r.1, mresp m .retry 0 []) else r
  match m.kind with
  | .read =>
    let st := s.reach w (some m) m.addr n false
    if st ≠ 0 then (s, merr m st)
    else
      let r := s.rdUnit w m.addr n
      again (r.1, if r.2.1 = 0 then mresp m .done 0 r.2.2 else merr m r.2.1)
  | .write =>
    let st := s.reach w (some m) m.addr n true
    if st ≠ 0 then (s, merr m st)
    else
      let r := s.wrUnit w m.addr m.data
      again (r.1, if r.2 = 0 then mok m else merr m r.2)
  | .writeFixed =>
    let st := s.reach w (some m) m.addr (min 8 n) true
    if st ≠ 0 then (s, merr m st)
    else
      let r := s.wrBeats w m.addr ((n + 7) / 8) m.data
      again (r.1, if r.2 = 0 then mok m else merr m r.2)
  | .gateOp => s.serveGate m
  | .other _ => (s, merr m 0x8C)
  | _ => if m.badCrc then (s, mresp m .retry 0 []) else (s, merr m 0x81)

/-! ### Delivery (R149 to R156, R169) -/

/-- What R154 keeps in order: the hub, a destination tile or a crossbar port. -/
def State.destOf (s : State) (m : Msg) : Nat × Nat :=
  if m.dev ≠ s.device then (2, 0)
  else if m.space = 0 then (0, m.addr / 65536)
  else (1, unitPort m.addr)

/-- `m` is in the network, and no earlier request of its sender to the same destination is (R154). -/
def State.nextOf (s : State) (m : Msg) : Bool :=
  (s.flight.find? fun x =>
    x.srcPhys == m.srcPhys && x.srcId == m.srcId && x.srcDev == m.srcDev && x.hub == m.hub &&
      s.destOf x == s.destOf m) == some m

/-- Serve a request at its target on this device. -/
def State.serve (s : State) (m : Msg) : State × Resp :=
  if m.space = 0 then s.serveTile m
  else if m.space = 1 then s.serveUnit m
  else (s, merr m 0x81)

/-- The gate keeps the outcome of a tile's action read (R335). -/
def State.keepAction (s : State) (m : Msg) (r : Resp) : State :=
  if isAction m && decide (m.srcPhys < 1088) && r.kind != .retry then
    s.noteOutcome m.srcPhys m.tag (r.status, if r.kind = .done then r.data else [])
  else s

/-- A request as its sender put it into the network, before anything corrupted it (R155). -/
def msgSent (m : Msg) : Msg := { m with badCrc := false, beaten := false }

/-- A request reaches its target, which serves it and sends the response; one for another device reaches the
hub, which answers RETRY to one corrupted on the way (R155). -/
def State.deliver (s : State) (m : Msg) : State :=
  if m.dev ≠ s.device then
    if m.badCrc then
      { s with flight := s.flight.erase (msgSent m), replies := s.replies ++ [mresp m .retry 0 []] }
    else s.toHub (msgSent m)
  else
    let r := { s with flight := s.flight.erase (msgSent m) }.serve m
    let a := answerTo m r.2
    { r.1 with replies := r.1.replies ++ [a] }.keepAction m a

/-- The sender of a request still waits for its response: a fenced or restarted tile, a reset channel, a router
delivery that is over and a host port that was reset do not. -/
def State.awaits (s : State) (m : Msg) : Bool :=
  if m.srcPhys < 1088 then !s.isFenced m.srcPhys && ((s.tile m.srcPhys).outstanding m.tag).isSome
  else if m.hub then s.fabric.serving.any fun x => x.tag == m.tag
  else if 0x410 ≤ m.srcId ∧ m.srcId < 0x420 then
    ((s.chan (8 * (m.srcId - 0x410) + m.tag % 8)).openReq m.tag).isSome
  else if fromRouter m then (s.src (leAt m.data 2 2)).act
  else if m.srcId = 0x401 then s.host.outs.any fun e => e.msg.tag == m.tag
  else false

/-- The data that an abandoned worm leaves: whole flits of a WRITE, whole beats of a WRITE_FIXED (R169). -/
def abandonedData (m : Msg) (arrived : Nat) : List Byte :=
  match m.kind with
  | .write => m.data.take (4 * arrived)
  | .writeFixed => if m.data.length ≤ 4 * arrived then m.data else m.data.take (8 * (arrived / 2))
  | _ => []

/-- An ABANDON tail ends a worm of which `arrived` payload flits have reached the target; no response is
sent.  Those flits passed the cap check before a fence gave its tile's number a new cap. -/
def State.abandonWorm (s : State) (m : Msg) (arrived : Nat) : State :=
  let s1 := { s with flight := s.flight.erase m }
  let d := abandonedData m arrived
  let cap := if m.srcId < 0x400 ∧ m.srcDev = s.device then s.capOf m.srcId else m.cap
  if d.isEmpty || m.dev != s.device then s1 else (s1.serve { m with data := d, badCrc := false, cap := cap }).1

/-! ### Responses (R147, R156, R466) -/

/-- A response to the event router: DONE confirms, RETRY resends as R156 says, ERROR as R261 says. -/
def State.routerResponse (s : State) (r : Resp) : State :=
  let n := leAt r.data 0 2
  let v := s.src n
  if !(v.act && v.sentKind == 1) then s
  else if r.badCrc then s.deliveryRetry n false
  else if r.kind = .retry then s.deliveryRetry n true
  else if r.kind = .error then s.deliveryError n r.status
  else s.confirmDelivery n

/-- A response as its target sent it. -/
def respSent (r : Resp) : Resp := { r with badCrc := false }

/-- The completions of a read at offset `off` of its BAR, one up to each 64-byte boundary (R466, log 143). -/
def completions (tag off : Nat) (bytes : List Byte) : List (Nat × List Byte) :=
  (List.range ((off % 64 + bytes.length + 63) / 64)).map fun i =>
    (tag, (bytes.take (64 * (i + 1) - off % 64)).drop (64 * i - off % 64))

/-- The completions that end a host read at `off`, by the host's tag (R466). -/
def State.hostData (s : State) (tag off : Nat) (bytes : List Byte) : State :=
  { s with host := { s.host with done := s.host.done ++ completions tag off bytes } }

/-- Crossbar port of the host port in fault records (R140, R324). -/
def hostUnit : Nat := 0x8000 + 21

/-- A host access ends in error on the chip: a read returns all ones (R27, R466). -/
def State.hostFails (s : State) (q : HostReq) : State :=
  let s1 := s.hostError
  if q.msg.kind = .read then s1.hostData q.pcie q.off (List.replicate q.size 0xFF) else s1

/-- A response to the host port: RETRY, or one with a bad CRC, has the request sent again, at most three times
(R156); a tag that is not outstanding is discarded (R166). -/
def State.hostResponse (s : State) (r : Resp) : State :=
  let h := s.host
  match h.outs.find? fun q => q.msg.tag == r.tag with
  | none => s
  | some q =>
    let rest := h.outs.filter fun x => x.msg.tag != r.tag
    let s1 := { s with host := { h with outs := rest } }
    if r.badCrc || r.kind == .retry then
      if q.resends < 3 then
        { s with host := { h with
            outs := rest ++ [{ q with resends := q.resends + 1, since := s.now }] } }.fly q.msg
      else (s1.hostFails q).report 7 hostUnit 0xFFFF 0 0x88
    else if r.kind = .error then s1.hostFails q
    else if q.msg.kind = .read then s1.hostData q.pcie q.off r.data
    else s1

/-! ### The response limit (R317, R318) -/

/-- Where a request to a system address was going: source, unit and logical tile (R318). -/
def State.targetOf (s : State) (target : Nat) : Nat × Nat × Nat :=
  if target / 2 ^ 34 ≠ s.device then (2, 0x8000 + 20, 0xFFFF)
  else if target / 2 ^ 32 % 4 = 0 then
    let t := target / 65536 % 1024
    (1, (s.physOf t).getD 0xFFFF, t)
  else (2, 0x8000 + unitPort (target % 2 ^ 32), 0xFFFF)

/-- The system address of a request (R19): device, space and the address within it. -/
def fullAddr (m : Msg) : Nat := m.dev * 2 ^ 34 + m.space * 2 ^ 32 + m.addr

/-- A request to a system address that went out, or was last resent, at a tick has outlived its limit: that of the boot
record on this device, 10 ms for another one. -/
def State.late (s : State) (target since : Nat) : Bool :=
  decide ((if target / 2 ^ 34 = s.device then s.boot.bootRec.stallResp else 10000) ≤ s.usSince since)

/-- The target of a request that timed out is reported. -/
def State.reportLate (s : State) (target tag : Nat) : State :=
  let w := s.targetOf target
  s.report w.1 w.2.1 w.2.2 0 tag

/-- The hub forgets a request of this device that its master has given up, with the FTAGs of its parts (log 57). -/
def State.dropRemote (s : State) (srcId srcPhys tag : Nat) : State :=
  let f := s.fabric
  let gone (r : RemoteReq) : Bool := r.srcId == srcId && r.srcPhys == srcPhys && r.tag == tag
  let ids := (f.remotes.filter gone).map (·.id)
  s.setFabric { f with
    remotes := f.remotes.filter fun r => !gone r
    ftags := f.ftags.filter fun e => !ids.contains e.2.parent }

/-- A request of tile `p` completes with 0x85. -/
def State.tileLate (s : State) (p tag : Nat) : State :=
  match (s.tile p).outstanding tag with
  | none => s
  | some r =>
    if s.late r.target r.since then
      (((s.dropRemote (s.ownerOf p) p tag).finishAt p tag 0x85)).reportLate r.target tag
    else s

/-- A request of DMA engine `e` completes with 0x85, and its tag rests. -/
def State.dmaLate (s : State) (e tag : Nat) : State :=
  match (s.chan (8 * e + tag % 8)).openReq tag with
  | none => s
  | some u =>
    if s.late (fullAddr u.msg) u.since then
      let s1 := (s.dropRemote u.msg.srcId 0x7FF tag).dmaErrored (8 * e + tag % 8) tag 0x85
      let g := s1.dmaE e
      (s1.setDmaE e { g with resting := g.resting ++ [(tag, s.now)] }).reportLate (fullAddr u.msg) tag
    else s

/-- A request of the host port completes with 0x85, and its tag rests. -/
def State.hostLate (s : State) (tag : Nat) : State :=
  let h := s.host
  match h.outs.find? fun q => q.msg.tag == tag with
  | none => s
  | some q =>
    if s.late (fullAddr q.msg) q.since then
      let s1 := { s with host := { h with
        outs := h.outs.filter fun x => x.msg.tag != tag, resting := h.resting ++ [(tag, s.now)] } }
      ((s1.dropRemote 0x401 0x7FF tag).hostFails q).reportLate (fullAddr q.msg) tag
    else s

/-- A request that the hub serves for another device completes with 0x85, and its on-chip tag rests. -/
def State.hubLate (s : State) (tag : Nat) : State :=
  match s.fabric.serving.find? fun x => x.tag == tag with
  | none => s
  | some x =>
    let full := fullAddr (s.hubMsg x.packet tag ((s.localAddr x.packet).getD 0))
    if s.late full x.since then
      let s1 := s.hubAnswer x 0x85 []
      let f := s1.fabric
      (s1.setFabric { f with hubResting := f.hubResting ++ [(tag, s.now)] }).reportLate full tag
    else s

/-- The EVENT of source `n` has no response within the limit. -/
def State.routerLate (s : State) (n : Nat) : State :=
  let v := s.src n
  let full := s.device * 2 ^ 34 + v.sentTile * 65536
  if v.act && v.sentKind == 1 && !v.retry && s.late full v.resentAt then
    (s.deliveryError n 0x85).reportLate full n
  else s

/-- A response reaches its requester. -/
def State.respond (s : State) (r : Resp) : State :=
  let s1 := { s with replies := s.replies.erase (respSent r) }
  if r.dstPhys < 1088 then
    if r.kind = .done then s1.doneAt r else if r.kind = .retry then s1.retryAt r else s1.errorAt r
  else if r.hub then s1.hubDone r
  else if 0x410 ≤ r.dstId ∧ r.dstId < 0x420 then s1.dmaResponse r
  else if r.dstId = 0x400 then s1.routerResponse r
  else if r.dstId = 0x401 then s1.hostResponse r
  else s1

/-! ### The host's accesses (R384, R406, R464 to R466) -/

/-- The next tag of the host port in rotation (R170, R176). -/
def HostPort.newTag (h : HostPort) : Option Nat :=
  freeTag? h.nextTag fun n => !(h.outs.any fun q => q.msg.tag == n) && (tfind? n h.resting).isNone

/-- The host as a master on this device. -/
def State.hostWho (s : State) : Who :=
  { id := 0x401, phys := 0x7FF, tag := s.host.newTag.getD 0, dev := s.device }

/-- The host port has used its next tag. -/
def State.usedTag (s : State) (tag : Nat) : State :=
  { s with host := { s.host with nextTag := (tag + 1) % 256 } }

/-- The unit address that BAR0 shows at an offset (R384). -/
def bar0At (o : Nat) : Option Nat :=
  if o < 0xA00 then some (0x10000000 + o)
  else if 0x2000 ≤ o ∧ o < 0x6000 then some (0x10010000 + (o - 0x2000))
  else none

/-- The aligned word at an offset of BAR0; offsets that R384 does not list read zero (R10). -/
def State.bar0Word (s : State) (w : Who) (o : Nat) : State × Nat :=
  match bar0At o with
  | none => (s, 0)
  | some u => s.rdWord w false u

/-- Reads of the words of BAR0 from `o` on, `k` of them. -/
def State.bar0Read (s : State) (w : Who) (o k : Nat) : State × List Byte :=
  (List.range k).foldl
    (fun (x : State × List Byte) i =>
      let y := x.1.bar0Word w (o + 4 * i)
      (y.1, x.2 ++ leBytes y.2 4)) (s, [])

/-- A write of the bytes of BAR0 that lie in one aligned word; offsets that R384 does not list ignore it (R10). -/
def State.bar0Flit (s : State) (w : Who) (o : Nat) (bs : List Byte) : State :=
  match bar0At o with
  | none => s
  | some u => s.wrFlit w u bs

/-- A write of BAR0 word by word. -/
def State.bar0Write (s : State) (w : Who) : Nat → Nat → List Byte → State
  | 0, _, _ => s
  | n + 1, o, bs =>
    let k := 4 - o % 4
    if bs.isEmpty then s else (s.bar0Flit w o (bs.take k)).bar0Write w n (o + k) (bs.drop k)

/-- An access through BAR0, word by word (R10, R26, R384). -/
def State.bar0 (s : State) (a : HostAcc) : State :=
  let w := s.hostWho
  match a.write with
  | none =>
    let r := s.bar0Read w (a.offset / 4 * 4) ((a.offset % 4 + a.size + 3) / 4)
    (r.1.usedTag w.tag).hostData a.tag a.offset (sliceB r.2 (a.offset % 4) a.size)
  | some bs => (s.bar0Write w (bs.length + 1) a.offset bs).usedTag w.tag

/-- An access through BAR2: into the slot's window, or R27 (R406). -/
def State.bar2 (s : State) (a : HostAcc) : State :=
  let n := match a.write with
    | some bs => bs.length
    | none => a.size
  let off := a.offset % 0x800000
  match s.mgmt.windows.find? fun x =>
      x.master == 0x401 && x.dev == s.device && x.slot == a.offset / 0x800000 && !x.closing &&
        decide (off + n ≤ x.size) && (x.rw || a.write.isNone) with
  | none =>
    let s1 := s.hostError
    if a.write.isNone then s1.hostData a.tag a.offset (List.replicate a.size 0xFF) else s1
  | some x =>
    match s.host.newTag with
    | none => s
    | some tag =>
      let full := x.base + off
      let m : Msg :=
        { kind := if a.write.isNone then .read else .write, len := n, srcId := 0x401, srcPhys := 0x7FF
          srcDev := s.device, tag := tag, cap := 0, chk := false, dev := full / 2 ^ 34
          space := full / 2 ^ 32 % 4, addr := full % 2 ^ 32, data := a.write.getD [], badCrc := false }
      let h := s.host
      { s with host := { h with
          outs := h.outs ++ [({ msg := m, pcie := a.tag, off := a.offset, size := n, resends := 0, since := s.now } : HostReq)]
          nextTag := (tag + 1) % 256 } }.fly m

/-- The word at an offset of BAR4: the table's message addresses and data, vector control at 12 of each 16 bytes, and the
PBA (R465). -/
def HostPort.bar4Word (h : HostPort) (o : Nat) : Nat :=
  if o < 0x400 then if o % 16 = 12 then b2n (!h.unmasked.contains (o / 16)) else leNum (memRead 0 h.table o 4)
  else if 0x800 ≤ o ∧ o < 0x808 then
    ((List.range 32).map fun i => b2n (h.pba.contains (8 * (o - 0x800) + i)) * 2 ^ i).foldl (· + ·) 0
  else 0

/-- A byte written to BAR4: bit 0 of vector control masks or unmasks its entry, the other bytes of an entry are held, and
the PBA takes none (R465, R467). -/
def State.bar4Byte (s : State) (o : Nat) (b : Byte) : State :=
  if 0x400 ≤ o then s
  else if o % 16 = 12 then s.configWrite (.vectorMask (o / 16) (b.getLsbD 0))
  else if o % 16 < 12 then { s with host := { s.host with table := memWrite 0 s.host.table o [b] } }
  else s

/-- An access through BAR4. -/
def State.bar4 (s : State) (a : HostAcc) : State :=
  match a.write with
  | none =>
    s.hostData a.tag a.offset (sliceB ((List.range ((a.offset % 4 + a.size + 3) / 4)).flatMap fun i =>
      leBytes (s.host.bar4Word (a.offset / 4 * 4 + 4 * i)) 4) (a.offset % 4) a.size)
  | some bs => ((List.range bs.length).zip bs).foldl (fun u e => u.bar4Byte (a.offset + e.1) e.2) s

/-- The size of a BAR and whether it exists (R465). -/
def barSize (b : Nat) : Nat :=
  if b = 0 then 0x10000 else if b = 2 then 0x10000000 else if b = 4 then 0x1000 else 0

/-- A host access lies in its BAR and is of a size that the port takes: reads of up to 512 bytes, writes of up
to 256 (R466). -/
def hostAccValid (a : HostAcc) : Bool :=
  match a.write with
  | some bs => decide (1 ≤ bs.length ∧ bs.length ≤ 256) && decide (a.offset + bs.length ≤ barSize a.bar)
  | none => decide (1 ≤ a.size ∧ a.size ≤ 512) && decide (a.offset + a.size ≤ barSize a.bar)

/-! ### The debug master (R482, R483) -/

/-- The debug master as a master on this device; its tags go round too (R176). -/
def State.debugWho (s : State) : Who := { id := 0x403, phys := 0x7FF, tag := s.dbgBlock.nextTag, dev := s.device }

/-- The outcome that Capture-DR returns: 0 done, 2 error, 3 not authorised. -/
def State.accDone (s : State) (status data : Nat) : State :=
  { s with dbgBlock := { s.dbgBlock with
      accStatus := if status = 0 then 0 else if status = 3 then 3 else 2, accData := w32 data } }

/-- An access to tile space: reads need observe level, writes control. -/
def State.debugTile (s : State) (write : Bool) (addr : Nat) (data : W32) : State :=
  if !s.dbgMay 1 then s.accDone 3 0
  else if write && !s.dbgMay 2 then s.accDone 0x82 0
  else
    let m : Msg :=
      { kind := if write then .write else .read, len := 4, srcId := 0x403, srcPhys := 0x7FF, srcDev := s.device
        tag := 0, cap := 0, chk := false, dev := s.device, space := 0, addr := addr
        data := if write then leBytes data.toNat 4 else [], badCrc := false }
    let r := s.serveTile m
    if r.2.kind = .done then r.1.accDone 0 (leNum r.2.data) else r.1.accDone r.2.status 0

/-- An access to unit space; a stopped clock starts for it, one that has no signal makes it end in error (R51, R52). -/
def State.debugUnit (s : State) (write : Bool) (addr : Nat) (data : W32) : State :=
  let st := s.reach s.debugWho none addr 4 write
  if st ≠ 0 then s.accDone st 0
  else if s.deadAt addr then (s.crossFails addr).accDone 0x85 0
  else if write then
    let r := (s.crossed addr).wrUnit s.debugWho addr (leBytes data.toNat 4)
    r.1.accDone r.2 0
  else
    let r := (s.crossed addr).rdUnit s.debugWho addr 4
    r.1.accDone r.2.1 (leNum r.2.2)

/-- The operation that Update-DR starts. -/
def State.debugAccess (s : State) (op space addr : Nat) (data : W32) : State :=
  let s1 := { s with dbgBlock := { s.dbgBlock with nextTag := (s.dbgBlock.nextTag + 1) % 256 } }
  if op = 0 ∨ op = 3 ∨ addr % 4 ≠ 0 then s
  else if space = 0 then s1.debugTile (op == 2) addr data
  else if space = 1 then s1.debugUnit (op == 2) addr data
  else s1.accDone 0x81 0

/-! ### Rows of the network -/

/-- A request of a kind is the next of its sender to its destination, in Run and not in a hold, and its sender did not cut
it off; with `badCrc` it was corrupted on the way (R155). -/
def State.present (s : State) (m : Msg) (kind : MsgKind) : Bool :=
  m.kind == kind && s.nextOf (msgSent m) && !m.cut && s.power.st == .run && !s.inHold

/-- A request need not wait at a crossing: it is for no island of this device, or for one that it can enter. -/
def State.passes (s : State) (m : Msg) : Bool := m.space != 1 || m.dev != s.device || s.islandRuns m.addr

/-- A request arrives; one that waits at a crossing asks the clock to start (R51, R52). -/
def State.arrive (s : State) (m : Msg) (kind : MsgKind) : State :=
  if s.present m kind then if s.passes m then s.deliver m else s.askWake m.addr else s

/-- WRITE (R147, R164). -/
def execWrite (m : Msg) (s : State) : Out := ok true (s.arrive m .write)
/-- READ (R147). -/
def execRead (m : Msg) (s : State) : Out := ok true (s.arrive m .read)
/-- WRITE_FIXED (R147, R246). -/
def execWriteFixed (m : Msg) (s : State) : Out := ok true (s.arrive m .writeFixed)
/-- MSG (R147, R161). -/
def execMsg (m : Msg) (s : State) : Out := ok true (s.arrive m .msg)
/-- EVENT (R147, R260). -/
def execEvent (m : Msg) (s : State) : Out := ok true (s.arrive m .event)

/-- DONE (R147, R159, R166); with `badCrc` the response was corrupted on the way (R156). -/
def execDone (r : Resp) (s : State) : Out :=
  ok true (when_ (r.kind == .done && s.replies.contains (respSent r) && s.live) (s.respond r) s)
/-- RETRY (R156). -/
def execRetry (r : Resp) (s : State) : Out :=
  ok true (when_ (r.kind == .retry && s.replies.contains (respSent r) && s.live) (s.respond r) s)
/-- ERROR (R147, R157). -/
def execError (r : Resp) (s : State) : Out :=
  ok true (when_ (r.kind == .error && s.replies.contains (respSent r) && s.live) (s.respond r) s)

/-- ABANDON (R159, R169): the sender was reset or fenced while its worm was open, or met an uncorrectable error in its
payload. -/
def execAbandon (m : Msg) (arrived : Nat) (s : State) : Out :=
  ok true (when_ (s.flight.contains m && (m.cut || !s.awaits m) && s.live) (s.abandonWorm m arrived) s)

/-- RESPONSE_TIMEOUT (R317, R318): no response came within the limit, which counts from the last send.  For the event
router `tag` is the source. -/
def execResponseTimeout (by_ : Requester) (tag : Nat) (s : State) : Out :=
  let run := !s.inHold && s.power.st == .run
  match by_ with
  | .tile p => ok (decide (p < 1088)) (when_ run (s.tileLate p tag) s)
  | .dma e => ok (decide (e < 16)) (when_ run (s.dmaLate e tag) s)
  | .router => ok true (when_ run (s.routerLate tag) s)
  | .host => ok true (when_ run (s.hostLate tag) s)
  | .hub => ok true (when_ run (s.hubLate tag) s)

/-! ### Rows of the host, the debug master and the registers -/

/-- HOST_ACCESS (R384, R406, R464 to R466), with the link up: a read waits while 32 are outstanding, and in D3hot the port
answers Unsupported Request. -/
def execHostAccess (a : HostAcc) (s : State) : Out :=
  let s' := if a.bar = 0 then s.bar0 a else if a.bar = 2 then s.bar2 a else s.bar4 a
  let room := a.write.isSome || decide ((s.host.outs.filter fun q => q.msg.kind == .read).length < 32)
  ok true (when_ (s.hostUp && hostAccValid a && room) (if s.host.d3hot then s.unsupported a else s') s)

/-- DBG_ACCESS (R482, R483): the private instruction DBG_ACCESS is loaded, and Update-DR starts the
operation. -/
def execDbgAccess (op space : Fin 4) (addr : Nat) (data : W32) (s : State) : Out :=
  let s1 := s.loadIr 0x10
  let up := s1.power.st == .run || s1.power.emulated
  ok true (when_ (decide (addr < 2 ^ 32) && up) (s1.debugAccess op.val space.val addr data) s1)

/-- RC_READ (R7): the word at `addr` is read, and cleared where its access code says so. -/
def execRcRead (by_ : AskBy) (addr : Nat) (s : State) : Out :=
  let w := s.askerWho by_ s.device
  ok true (when_ (isReg addr)
    (s.regRead by_ s.device addr 4 fun u => let r := u.rdRegs w false addr 4; (r.1, leNum r.2)) s)

/-- REGISTER_WRITE (R7): the word at `addr` is written as its access code says. -/
def execRegisterWrite (r : RegBy) (addr : Nat) (v : W32) (s : State) : Out :=
  let w := { s.whoIs r.master with beaten := r.beaten }
  ok true (when_ (isReg addr) (s.regWrite w addr 4 fun u => u.wrWord w addr v) s)

end Sys2Proof.Machine
end

