-- ==== Sys2Proof/Machine/TileCustom.lean ====
section
/-! DEFINITION. The custom instruction with the remote accesses that a tile's port serves between its micro-ops
(R121 to R133). -/

namespace Sys2Proof.Machine

/-- Physical tile `p` serves logical tile `t`, alone or as a member of its duplex pair (R334). -/
def State.servesAt (s : State) (t p : Nat) : Bool :=
  s.physOf t == some p || (tfind? t s.gates.duplex).any fun d => d.partner == p

/-- A remote access that the tile's port may serve between micro-ops (R132).  Those of the debug master, through the
physical-tile window and by DBG_ACCESS, come before or after the instruction: DESIGN CHOICE (log 115). -/
def State.midServes (s : State) (p : Nat) (m : Msg) : Bool :=
  (m.kind == .write || m.kind == .read || m.kind == .writeFixed) && s.present m m.kind && m.space == 0 &&
    m.dev == s.device && s.servesAt (m.addr / 65536 % 1024) p

/-- The remote accesses served before micro-op `n` of a run (R132). -/
def State.serveMid (s : State) (p n : Nat) (mid : List (Nat × Msg)) : State :=
  (mid.filter fun e => e.1 == n).foldl (fun u e => if u.midServes p e.2 then u.deliver e.2 else u) s

/-- The entry's registers with the tile's memory as it now stands. -/
def UCtx.withMem (k : UCtx) (t : Tile) : UCtx :=
  { k with m := { k.m with mem := t.mem, bad := t.bad }, n := { k.n with mem := t.mem, bad := t.bad } }

/-- Run an entry while remote accesses are served between its micro-ops, but not inside a store run (R130,
R132): the device, and what the entry leaves. -/
def uRunMid (c : CustomArgs) (p : Nat) (mid : List (Nat × Msg)) :
    Nat → Nat → List W24 → State → UCtx → State × Except W16 UCtx
  | 0, _, _, s, k => (s, .ok k)
  | _ + 1, _, [], s, k => (s, .ok k)
  | fuel + 1, n, u :: r, s, k =>
    let s1 := s.serveMid p n mid
    let k1 := k.withMem (s1.tile p)
    if uOp u = 0x10 then (s1, uRun c (fuel + 1) (u :: r) k1)
    else
      match uStep c u k1 with
      | .error a => (s1, .error a)
      | .ok (k2, j) => uRunMid c p mid fuel (n + 1) (r.drop j) s1 k2

/-- A custom instruction between whose micro-ops remote accesses are served: what it does to the device. -/
def State.custMid (s : State) (p : Nat) (f : CustomArgs) (us : List W24) (k : UCtx) (mid : List (Nat × Msg)) : Eff :=
  let run := uRunMid f p mid us.length 0 us s k
  match run.2 with
  | .error a => .own fun _ => (run.1.noteBad p a).tileTrap p 6 0 (run.1.tile p) (s.tile p).pc
  | .ok r => .act r.finish fun s1 => { run.1.setTile p (s1.tile p) with free := run.1.free + 4 }

/-- CUSTOM_INSTRUCTION (R121 to R133). -/
def execCustomInstruction (p : Nat) (x : Pfx) (c : CustomRun) (s : State) : Out :=
  s.custom p x c.args fun f us k => if c.mid.isEmpty then custPlain f us k else s.custMid p f us k c.mid

end Sys2Proof.Machine
end

