-- ==== Sys2Proof/Machine/Dispatch.lean ====
section
/-! DEFINITION. The effect of a command on everything but the queue: one arm per constructor. -/

namespace Sys2Proof.Machine

def exec (i : Instr) (s : State) : Host.Outcome State Fault Refusal :=
  match i with
  | .mov p f => Sys2Proof.Machine.execMov p f s
  | .add p x d src => Sys2Proof.Machine.execAdd p x d src s
  | .adc p x d src => Sys2Proof.Machine.execAdc p x d src s
  | .sub p x d src => Sys2Proof.Machine.execSub p x d src s
  | .sbc p x d src => Sys2Proof.Machine.execSbc p x d src s
  | .and p x d src => Sys2Proof.Machine.execAnd p x d src s
  | .or p x d src => Sys2Proof.Machine.execOr p x d src s
  | .xor p x d src => Sys2Proof.Machine.execXor p x d src s
  | .mul p x d src => Sys2Proof.Machine.execMul p x d src s
  | .muls p x d src => Sys2Proof.Machine.execMuls p x d src s
  | .not p x d => Sys2Proof.Machine.execNot p x d s
  | .neg p x d => Sys2Proof.Machine.execNeg p x d s
  | .inc p x d => Sys2Proof.Machine.execInc p x d s
  | .dec p x d => Sys2Proof.Machine.execDec p x d s
  | .swap p x d => Sys2Proof.Machine.execSwap p x d s
  | .movp p x pd ps => Sys2Proof.Machine.execMovp p x pd ps s
  | .movpw p x pd src => Sys2Proof.Machine.execMovpw p x pd src s
  | .movwp p x d ps => Sys2Proof.Machine.execMovwp p x d ps s
  | .addpw p x pd src => Sys2Proof.Machine.execAddpw p x pd src s
  | .addpb p x pd src => Sys2Proof.Machine.execAddpb p x pd src s
  | .movi p x d imm => Sys2Proof.Machine.execMovi p x d imm s
  | .addi p x d imm => Sys2Proof.Machine.execAddi p x d imm s
  | .movip p x pd imm => Sys2Proof.Machine.execMovip p x pd imm s
  | .addip p x pd simm => Sys2Proof.Machine.execAddip p x pd simm s
  | .subi p x d imm => Sys2Proof.Machine.execSubi p x d imm s
  | .adci p x d imm => Sys2Proof.Machine.execAdci p x d imm s
  | .sbci p x d imm => Sys2Proof.Machine.execSbci p x d imm s
  | .andi p x d imm => Sys2Proof.Machine.execAndi p x d imm s
  | .ori p x d imm => Sys2Proof.Machine.execOri p x d imm s
  | .xori p x d imm => Sys2Proof.Machine.execXori p x d imm s
  | .shl p x d c => Sys2Proof.Machine.execShl p x d c s
  | .shr p x d c => Sys2Proof.Machine.execShr p x d c s
  | .asr p x d c => Sys2Proof.Machine.execAsr p x d c s
  | .rol p x d c => Sys2Proof.Machine.execRol p x d c s
  | .ror p x d c => Sys2Proof.Machine.execRor p x d c s
  | .rlc p x d c => Sys2Proof.Machine.execRlc p x d c s
  | .rrc p x d c => Sys2Proof.Machine.execRrc p x d c s
  | .ld p x r b disp => Sys2Proof.Machine.execLd p x r b disp s
  | .st p x r b disp => Sys2Proof.Machine.execSt p x r b disp s
  | .ldw p x r b disp => Sys2Proof.Machine.execLdw p x r b disp s
  | .stw p x r b disp => Sys2Proof.Machine.execStw p x r b disp s
  | .ldp p x r b disp => Sys2Proof.Machine.execLdp p x r b disp s
  | .stp p x r b disp => Sys2Proof.Machine.execStp p x r b disp s
  | .lea p x r b disp => Sys2Proof.Machine.execLea p x r b disp s
  | .jmp p x target => Sys2Proof.Machine.execJmp p x target s
  | .call p x target => Sys2Proof.Machine.execCall p x target s
  | .ret p x => Sys2Proof.Machine.execRet p x s
  | .bra p x rel => Sys2Proof.Machine.execBra p x rel s
  | .jmpp p x b => Sys2Proof.Machine.execJmpp p x b s
  | .callp p x b => Sys2Proof.Machine.execCallp p x b s
  | .djnz p x d rel => Sys2Proof.Machine.execDjnz p x d rel s
  | .bcc p x c rel => Sys2Proof.Machine.execBcc p x c rel s
  | .nop p x => Sys2Proof.Machine.execNop p x s
  | .cmpg p x c d src g => Sys2Proof.Machine.execCmpg p x c d src g s
  | .cmpgi p x c d g imm => Sys2Proof.Machine.execCmpgi p x c d g imm s
  | .dadd p x d src => Sys2Proof.Machine.execDadd p x d src s
  | .dsub p x d src => Sys2Proof.Machine.execDsub p x d src s
  | .dadj p x d m => Sys2Proof.Machine.execDadj p x d m s
  | .dshl p x d src => Sys2Proof.Machine.execDshl p x d src s
  | .dshr p x d src => Sys2Proof.Machine.execDshr p x d src s
  | .b2d p x d src => Sys2Proof.Machine.execB2d p x d src s
  | .d2b p x d src => Sys2Proof.Machine.execD2b p x d src s
  | .bset p x d b => Sys2Proof.Machine.execBset p x d b s
  | .bclr p x d b => Sys2Proof.Machine.execBclr p x d b s
  | .btgl p x d b => Sys2Proof.Machine.execBtgl p x d b s
  | .btst p x d b inv g => Sys2Proof.Machine.execBtst p x d b inv g s
  | .gand p x g a b inv => Sys2Proof.Machine.execGand p x g a b inv s
  | .gor p x g a b inv => Sys2Proof.Machine.execGor p x g a b inv s
  | .gxor p x g a b inv => Sys2Proof.Machine.execGxor p x g a b inv s
  | .gmov p x g a => Sys2Proof.Machine.execGmov p x g a s
  | .gtod p x d => Sys2Proof.Machine.execGtod p x d s
  | .dtog p x src => Sys2Proof.Machine.execDtog p x src s
  | .send p x b g => Sys2Proof.Machine.execSend p x b g s
  | .qpush p x d q g r => Sys2Proof.Machine.execQpush p x d q g r s
  | .qpop p x d q g r => Sys2Proof.Machine.execQpop p x d q g r s
  | .time p x b g r => Sys2Proof.Machine.execTime p x b g r s
  | .stim p x port d n => Sys2Proof.Machine.execStim p x port d n s
  | .sleep p x => Sys2Proof.Machine.execSleep p x s
  | .tready p x d g r => Sys2Proof.Machine.execTready p x d g r s
  | .tcancel p x d g r => Sys2Proof.Machine.execTcancel p x d g r s
  | .tdone p x r => Sys2Proof.Machine.execTdone p x r s
  | .gets p x d sys => Sys2Proof.Machine.execGets p x d sys s
  | .sets p x src sys => Sys2Proof.Machine.execSets p x src sys s
  | .rete p x => Sys2Proof.Machine.execRete p x s
  | .trap p x imm => Sys2Proof.Machine.execTrap p x imm s
  | .fence p x => Sys2Proof.Machine.execFence p x s
  | .customInstruction p x c => Sys2Proof.Machine.execCustomInstruction p x c s
  | .eventEntry p => Sys2Proof.Machine.execEventEntry p s
  | .tileWake p => Sys2Proof.Machine.execTileWake p s
  | .paceCompareMatch p => Sys2Proof.Machine.execPaceCompareMatch p s
  | .sysPcnt0 p x d => Sys2Proof.Machine.execSysPcnt0 p x d s
  | .sysDtdat2 p x src => Sys2Proof.Machine.execSysDtdat2 p x src s
  | .sysDtcmt p x src => Sys2Proof.Machine.execSysDtcmt p x src s
  | .sysRxsize p x baseHi src => Sys2Proof.Machine.execSysRxsize p x baseHi src s
  | .write m => Sys2Proof.Machine.execWrite m s
  | .read m => Sys2Proof.Machine.execRead m s
  | .writeFixed m => Sys2Proof.Machine.execWriteFixed m s
  | .msg m => Sys2Proof.Machine.execMsg m s
  | .event m => Sys2Proof.Machine.execEvent m s
  | .done r => Sys2Proof.Machine.execDone r s
  | .retry r => Sys2Proof.Machine.execRetry r s
  | .error r => Sys2Proof.Machine.execError r s
  | .abandon m arrived => Sys2Proof.Machine.execAbandon m arrived s
  | .sendCompletion p tag => Sys2Proof.Machine.execSendCompletion p tag s
  | .queuePush q entry by_ => Sys2Proof.Machine.execQueuePush q entry by_ s
  | .queuePop q by_ => Sys2Proof.Machine.execQueuePop q by_ s
  | .flush master q => Sys2Proof.Machine.execFlush master q s
  | .queueTailExpiry q => Sys2Proof.Machine.execQueueTailExpiry q s
  | .dispReady c slot by_ => Sys2Proof.Machine.execDispReady c slot by_ s
  | .dispCancel c slot by_ withReady => Sys2Proof.Machine.execDispCancel c slot by_ withReady s
  | .dispTdone c phys opnum => Sys2Proof.Machine.execDispTdone c phys opnum s
  | .dispatch c => Sys2Proof.Machine.execDispatch c s
  | .cancelLimitExpiry c slot => Sys2Proof.Machine.execCancelLimitExpiry c slot s
  | .poolTake by_ => Sys2Proof.Machine.execPoolTake by_ s
  | .poolGive master v => Sys2Proof.Machine.execPoolGive master v s
  | .poolFree master v => Sys2Proof.Machine.execPoolFree master v s
  | .engReturn master v => Sys2Proof.Machine.execEngReturn master v s
  | .frameHandoff f => Sys2Proof.Machine.execFrameHandoff f s
  | .lineTimeout src => Sys2Proof.Machine.execLineTimeout src s
  | .lineProcess src => Sys2Proof.Machine.execLineProcess src s
  | .flushUsExpiry src kind => Sys2Proof.Machine.execFlushUsExpiry src kind s
  | .strmCmd master src v => Sys2Proof.Machine.execStrmCmd master src v s
  | .enginePoolRetry => Sys2Proof.Machine.execEnginePoolRetry s
  | .enginePushAccepted q => Sys2Proof.Machine.execEnginePushAccepted q s
  | .modelMemoryWrite master addr data => Sys2Proof.Machine.execModelMemoryWrite master addr data s
  | .streamDrained src => Sys2Proof.Machine.execStreamDrained src s
  | .dmaRun master ch v => Sys2Proof.Machine.execDmaRun master ch v s
  | .dmaStop master ch v => Sys2Proof.Machine.execDmaStop master ch v s
  | .dmaStopComplete ch => Sys2Proof.Machine.execDmaStopComplete ch s
  | .dmaReset master ch => Sys2Proof.Machine.execDmaReset master ch s
  | .dmaBeat e => Sys2Proof.Machine.execDmaBeat e s
  | .dmaDescriptorComplete ch => Sys2Proof.Machine.execDmaDescriptorComplete ch s
  | .eventFiring n => Sys2Proof.Machine.execEventFiring n s
  | .deliveryStart n => Sys2Proof.Machine.execDeliveryStart n s
  | .deliveryConfirm n => Sys2Proof.Machine.execDeliveryConfirm n s
  | .deliveryResend n => Sys2Proof.Machine.execDeliveryResend n s
  | .deliveryTimeout n => Sys2Proof.Machine.execDeliveryTimeout n s
  | .holdIntervalEnd g => Sys2Proof.Machine.execHoldIntervalEnd g s
  | .evrTgt master n v => Sys2Proof.Machine.execEvrTgt master n v s
  | .evrFired master w v => Sys2Proof.Machine.execEvrFired master w v s
  | .evrHold master g v => Sys2Proof.Machine.execEvrHold master g v s
  | .secondTick => Sys2Proof.Machine.execSecondTick s
  | .timeNs master size => Sys2Proof.Machine.execTimeNs master size s
  | .timeAonLo master lag => Sys2Proof.Machine.execTimeAonLo master lag s
  | .timeCommitAbsolute master => Sys2Proof.Machine.execTimeCommitAbsolute master s
  | .timeCommitRelative master => Sys2Proof.Machine.execTimeCommitRelative master s
  | .commitApply => Sys2Proof.Machine.execCommitApply s
  | .timeRate master v => Sys2Proof.Machine.execTimeRate master v s
  | .slewEnd => Sys2Proof.Machine.execSlewEnd s
  | .alarmFire k => Sys2Proof.Machine.execAlarmFire k s
  | .arm master k v => Sys2Proof.Machine.execArm master k v s
  | .releaseAlarm master k => Sys2Proof.Machine.execReleaseAlarm master k s
  | .aonCalibration measured => Sys2Proof.Machine.execAonCalibration measured s
  | .relock => Sys2Proof.Machine.execRelock s
  | .syncLost => Sys2Proof.Machine.execSyncLost s
  | .pinInputChange n mv => Sys2Proof.Machine.execPinInputChange n mv s
  | .deglitchExpiry n => Sys2Proof.Machine.execDeglitchExpiry n s
  | .pinCfg master n v => Sys2Proof.Machine.execPinCfg master n v s
  | .pinSet master w v => Sys2Proof.Machine.execPinSet master w v s
  | .pinClr master w v => Sys2Proof.Machine.execPinClr master w v s
  | .vioLoss b mv => Sys2Proof.Machine.execVioLoss b mv s
  | .timerBoundary n => Sys2Proof.Machine.execTimerBoundary n s
  | .timerCompareMatch n => Sys2Proof.Machine.execTimerCompareMatch n s
  | .chainedAction n => Sys2Proof.Machine.execChainedAction n s
  | .timerCapture n => Sys2Proof.Machine.execTimerCapture n s
  | .tmrShadowWrite master n reg v => Sys2Proof.Machine.execTmrShadowWrite master n reg v s
  | .tmrCnt master n v => Sys2Proof.Machine.execTmrCnt master n v s
  | .tmrCtl master n v => Sys2Proof.Machine.execTmrCtl master n v s
  | .serTx master e v => Sys2Proof.Machine.execSerTx master e v s
  | .serRx by_ e => Sys2Proof.Machine.execSerRx by_ e s
  | .serCtl master e v => Sys2Proof.Machine.execSerCtl master e v s
  | .serialUnitDone e u => Sys2Proof.Machine.execSerialUnitDone e u s
  | .lineJudgeStall u => Sys2Proof.Machine.execLineJudgeStall u s
  | .responseTimeout by_ tag => Sys2Proof.Machine.execResponseTimeout by_ tag s
  | .invalidCode u => Sys2Proof.Machine.execInvalidCode u s
  | .scrubVisit m word single => Sys2Proof.Machine.execScrubVisit m word single s
  | .refereeOutvote k => Sys2Proof.Machine.execRefereeOutvote k s
  | .lockstepMismatch => Sys2Proof.Machine.execLockstepMismatch s
  | .refereeMajorityLoss => Sys2Proof.Machine.execRefereeMajorityLoss s
  | .supplyOutOfRange r => Sys2Proof.Machine.execSupplyOutOfRange r s
  | .referenceClockLoss => Sys2Proof.Machine.execReferenceClockLoss s
  | .temperatureRead readings => Sys2Proof.Machine.execTemperatureRead readings s
  | .tileSubstitution t copyBad => Sys2Proof.Machine.execTileSubstitution t copyBad s
  | .courtSubstitution c => Sys2Proof.Machine.execCourtSubstitution c s
  | .duplexPromotion t => Sys2Proof.Machine.execDuplexPromotion t s
  | .coldStart c => Sys2Proof.Machine.execColdStart c s
  | .deviceRestart => Sys2Proof.Machine.execDeviceRestart s
  | .managementRestart c => Sys2Proof.Machine.execManagementRestart c s
  | .courtRestart c => Sys2Proof.Machine.execCourtRestart c s
  | .tileRestart p => Sys2Proof.Machine.execTileRestart p s
  | .paceLoop readings => Sys2Proof.Machine.execPaceLoop readings s
  | .paceAlarm c => Sys2Proof.Machine.execPaceAlarm c s
  | .powerEstimate mw => Sys2Proof.Machine.execPowerEstimate mw s
  | .courtPark c => Sys2Proof.Machine.execCourtPark c s
  | .pmbusPoll ok vout iout temp => Sys2Proof.Machine.execPmbusPoll ok vout iout temp s
  | .pmbAlertN fault => Sys2Proof.Machine.execPmbAlertN fault s
  | .regulatorRetry ok => Sys2Proof.Machine.execRegulatorRetry ok s
  | .placementRefresh busy => Sys2Proof.Machine.execPlacementRefresh busy s
  | .islandWake inv => Sys2Proof.Machine.execIslandWake inv s
  | .portUp p h => Sys2Proof.Machine.execPortUp p h s
  | .laneLoss p lane => Sys2Proof.Machine.execLaneLoss p lane s
  | .laneRestore p => Sys2Proof.Machine.execLaneRestore p s
  | .req p k => Sys2Proof.Machine.execReq p k s
  | .rsp p k => Sys2Proof.Machine.execRsp p k s
  | .beacon p k residence => Sys2Proof.Machine.execBeacon p k residence s
  | .link p k => Sys2Proof.Machine.execLink p k s
  | .heartbeat p h => Sys2Proof.Machine.execHeartbeat p h s
  | .replayTimeout p => Sys2Proof.Machine.execReplayTimeout p s
  | .replayLimit p => Sys2Proof.Machine.execReplayLimit p s
  | .heartbeatSend => Sys2Proof.Machine.execHeartbeatSend s
  | .neighbourSilent p => Sys2Proof.Machine.execNeighbourSilent p s
  | .statusSend => Sys2Proof.Machine.execStatusSend s
  | .status a number => Sys2Proof.Machine.execStatus a number s
  | .confirm a number cap epoch noticeSeq => Sys2Proof.Machine.execConfirm a number cap epoch noticeSeq s
  | .redirect a captain => Sys2Proof.Machine.execRedirect a captain s
  | .notice a seq b => Sys2Proof.Machine.execNotice a seq b s
  | .sentOff a => Sys2Proof.Machine.execSentOff a s
  | .takeover a => Sys2Proof.Machine.execTakeover a s
  | .membershipUnconfirmed => Sys2Proof.Machine.execMembershipUnconfirmed s
  | .candidateMove => Sys2Proof.Machine.execCandidateMove s
  | .captainQuorumLoss => Sys2Proof.Machine.execCaptainQuorumLoss s
  | .fabricSubstitution d standby => Sys2Proof.Machine.execFabricSubstitution d standby s
  | .beaconSend => Sys2Proof.Machine.execBeaconSend s
  | .delayExchange p t1 t2 t3 t4 => Sys2Proof.Machine.execDelayExchange p t1 t2 t3 t4 s
  | .linkWakeRequest p => Sys2Proof.Machine.execLinkWakeRequest p s
  | .mbxDoorbell master dev m v => Sys2Proof.Machine.execMbxDoorbell master dev m v s
  | .mbxAbort master dev m => Sys2Proof.Machine.execMbxAbort master dev m s
  | .mbxTake by_ dev m => Sys2Proof.Machine.execMbxTake by_ dev m s
  | .mbxGive master dev m => Sys2Proof.Machine.execMbxGive master dev m s
  | .holderExpiry m => Sys2Proof.Machine.execHolderExpiry m s
  | .commandTake m => Sys2Proof.Machine.execCommandTake m s
  | .deadlineExpiry m => Sys2Proof.Machine.execDeadlineExpiry m s
  | .hwAborted m => Sys2Proof.Machine.execHwAborted m s
  | .getIdentity m => Sys2Proof.Machine.execGetIdentity m s
  | .getCapabilities m => Sys2Proof.Machine.execGetCapabilities m s
  | .echo m => Sys2Proof.Machine.execEcho m s
  | .abort m => Sys2Proof.Machine.execAbort m s
  | .loadTileImage m => Sys2Proof.Machine.execLoadTileImage m s
  | .startTile m => Sys2Proof.Machine.execStartTile m s
  | .stopTile m => Sys2Proof.Machine.execStopTile m s
  | .setPaceTarget m => Sys2Proof.Machine.execSetPaceTarget m s
  | .setPowerCap m => Sys2Proof.Machine.execSetPowerCap m s
  | .loadDecodeTable m => Sys2Proof.Machine.execLoadDecodeTable m s
  | .claim m => Sys2Proof.Machine.execClaim m s
  | .release m => Sys2Proof.Machine.execRelease m s
  | .queryOwner m => Sys2Proof.Machine.execQueryOwner m s
  | .grantWindowOpen m => Sys2Proof.Machine.execGrantWindowOpen m s
  | .grantWindowClose m => Sys2Proof.Machine.execGrantWindowClose m s
  | .updateBegin m fuseOk => Sys2Proof.Machine.execUpdateBegin m fuseOk s
  | .updateChunk m => Sys2Proof.Machine.execUpdateChunk m s
  | .updateVerify m => Sys2Proof.Machine.execUpdateVerify m s
  | .updateActivate m => Sys2Proof.Machine.execUpdateActivate m s
  | .updateConfirm m => Sys2Proof.Machine.execUpdateConfirm m s
  | .updateStatus m => Sys2Proof.Machine.execUpdateStatus m s
  | .updateCancel m => Sys2Proof.Machine.execUpdateCancel m s
  | .calReadFactory m => Sys2Proof.Machine.execCalReadFactory m s
  | .calWriteUser m => Sys2Proof.Machine.execCalWriteUser m s
  | .calApply m => Sys2Proof.Machine.execCalApply m s
  | .calRevert m => Sys2Proof.Machine.execCalRevert m s
  | .calRecordWrite => Sys2Proof.Machine.execCalRecordWrite s
  | .faultLogRead m => Sys2Proof.Machine.execFaultLogRead m s
  | .substituteTile m copyBad => Sys2Proof.Machine.execSubstituteTile m copyBad s
  | .readmitTile m pass => Sys2Proof.Machine.execReadmitTile m pass s
  | .setDuplex m => Sys2Proof.Machine.execSetDuplex m s
  | .sendOff m => Sys2Proof.Machine.execSendOff m s
  | .timeSet m => Sys2Proof.Machine.execTimeSet m s
  | .timeAdjustRate m => Sys2Proof.Machine.execTimeAdjustRate m s
  | .timeAdjustSlew m => Sys2Proof.Machine.execTimeAdjustSlew m s
  | .timeSyncMode m => Sys2Proof.Machine.execTimeSyncMode m s
  | .powerStateSet m => Sys2Proof.Machine.execPowerStateSet m s
  | .drizzleProgram m => Sys2Proof.Machine.execDrizzleProgram m s
  | .wakeRecordRead m => Sys2Proof.Machine.execWakeRecordRead m s
  | .modelLoad m => Sys2Proof.Machine.execModelLoad m s
  | .modelLoadValidate m => Sys2Proof.Machine.execModelLoadValidate m s
  | .modelSwitch m => Sys2Proof.Machine.execModelSwitch m s
  | .streamConfigure m => Sys2Proof.Machine.execStreamConfigure m s
  | .streamEnable m => Sys2Proof.Machine.execStreamEnable m s
  | .streamStop m => Sys2Proof.Machine.execStreamStop m s
  | .feedRuleLoad m => Sys2Proof.Machine.execFeedRuleLoad m s
  | .fabricJoin m => Sys2Proof.Machine.execFabricJoin m s
  | .fabricLeave m => Sys2Proof.Machine.execFabricLeave m s
  | .fabricRouteSet m => Sys2Proof.Machine.execFabricRouteSet m s
  | .fabricMembers m => Sys2Proof.Machine.execFabricMembers m s
  | .authChallenge m => Sys2Proof.Machine.execAuthChallenge m s
  | .authResponse m => Sys2Proof.Machine.execAuthResponse m s
  | .debugEnable m => Sys2Proof.Machine.execDebugEnable m s
  | .logRead m => Sys2Proof.Machine.execLogRead m s
  | .countersRead m => Sys2Proof.Machine.execCountersRead m s
  | .wakeInput w => Sys2Proof.Machine.execWakeInput w s
  | .sleepExit => Sys2Proof.Machine.execSleepExit s
  | .drizzleCycle rx => Sys2Proof.Machine.execDrizzleCycle rx s
  | .drizzleWaitEnd rx => Sys2Proof.Machine.execDrizzleWaitEnd rx s
  | .trialSelfTest pass => Sys2Proof.Machine.execTrialSelfTest pass s
  | .backgroundErase => Sys2Proof.Machine.execBackgroundErase s
  | .frameReceived f k => Sys2Proof.Machine.execFrameReceived f k s
  | .rateDetectTurn f => Sys2Proof.Machine.execRateDetectTurn f s
  | .hostAccess a => Sys2Proof.Machine.execHostAccess a s
  | .msixSend v => Sys2Proof.Machine.execMsixSend v s
  | .functionLevelReset c => Sys2Proof.Machine.execFunctionLevelReset c s
  | .serviceBulkCommand bytes => Sys2Proof.Machine.execServiceBulkCommand bytes s
  | .vendorAbort => Sys2Proof.Machine.execVendorAbort s
  | .vendorState => Sys2Proof.Machine.execVendorState s
  | .busReset r => Sys2Proof.Machine.execBusReset r s
  | .dbgAccess op space addr data => Sys2Proof.Machine.execDbgAccess op space addr data s
  | .frostEnter => Sys2Proof.Machine.execFrostEnter s
  | .frostLeave => Sys2Proof.Machine.execFrostLeave s
  | .debugLine14 t => Sys2Proof.Machine.execDebugLine14 t s
  | .debugHalt t => Sys2Proof.Machine.execDebugHalt t s
  | .debugResume t => Sys2Proof.Machine.execDebugResume t s
  | .debugStep t => Sys2Proof.Machine.execDebugStep t s
  | .dbgPatchAddr u v => Sys2Proof.Machine.execDbgPatchAddr u v s
  | .tapReset => Sys2Proof.Machine.execTapReset s
  | .testInstructionReplaced ir => Sys2Proof.Machine.execTestInstructionReplaced ir s
  | .rcRead by_ addr => Sys2Proof.Machine.execRcRead by_ addr s
  | .registerWrite master addr v => Sys2Proof.Machine.execRegisterWrite master addr v s
  | .vioRise b mv => Sys2Proof.Machine.execVioRise b mv s
  | .supplyRestored r => Sys2Proof.Machine.execSupplyRestored r s
  | .powerLoss => Sys2Proof.Machine.execPowerLoss s
  | .aonOscillatorStop => Sys2Proof.Machine.execAonOscillatorStop s
  | .feedBlockLock f fast => Sys2Proof.Machine.execFeedBlockLock f fast s
  | .feedLinkDown f => Sys2Proof.Machine.execFeedLinkDown f s
  | .hostLinkUp gen width => Sys2Proof.Machine.execHostLinkUp gen width s
  | .configurationSpaceWrite w => Sys2Proof.Machine.execConfigurationSpaceWrite w s
  | .vbusRise => Sys2Proof.Machine.execVbusRise s
  | .setConfiguration => Sys2Proof.Machine.execSetConfiguration s
  | .suspend on => Sys2Proof.Machine.execSuspend on s
  | .tagRestExpiry by_ tag => Sys2Proof.Machine.execTagRestExpiry by_ tag s
  | .fullTables a caps sets seq => Sys2Proof.Machine.execFullTables a caps sets seq s

end Sys2Proof.Machine
end

