-- ==== Sys2Proof/Machine/Tick.lean ====
section
/-! DEFINITION. What 5 ns do on an empty queue (log 1): the counters of time run, and what the table names as
a happening of its own goes into the queue. -/

namespace Sys2Proof.Machine

/-- Put commands at the end of the queue. -/
def State.push (s : State) (cs : List Instr) : State := { s with pending := s.pending ++ cs }

/-! ### The always-on counter and the time (R273, R276, R282, R286) -/

/-- The always-on counter after 5 ns: 32,768 ticks a second, as far as the load trims `ref` of the reference and `osc` of
the 32.768 kHz oscillator, in 0.1 ppm, leave the two at their nominal frequencies (R431, log 14); whether it has
ticked. -/
def Aon.tick (a : Aon) (ref osc : Int) : Aon × Bool :=
  let p := a.phase + (163840 * (10000000 + osc)).toNat
  let period := (1000000000 * (10000000 + ref)).toNat
  if p < period then ({ a with phase := p }, false)
  else
    ({ a with phase := p - period
              count := if a.oscStopped then a.count else (a.count + 1) % 2 ^ 48 }, !a.oscStopped)

/-- The time after 5 ns, with the rows that the tick brings: a commit, the end of a second, the end of a slew.
In holdover time moves at the counter's ticks only. -/
def State.tickTime (s : State) (edge : Bool) : State :=
  let t := s.time
  if t.holdover && !edge then s
  else if t.commit.isSome then s.push [.commitApply]
  else if s.secondDue then s.push [.secondTick]
  else
    let t1 := s.advanced
    let s1 := { s with time := t1 }
    if t1.slewOn && t1.slewLeft == 0 then s1.push [.slewEnd] else s1

/-- Alarms that are at or past their targets (R279, R281); in holdover they are compared at counter ticks (R286). -/
def State.tickAlarms (s : State) (edge : Bool) : State :=
  if s.time.holdover && !edge then s
  else
  let now := if s.time.commit.isNone && s.secondDue then s.advanced.abs else s.time.abs
  s.push (((List.range 8).filter fun k =>
    let a := s.alarm k
    a.armed && !s.dbgBlock.frost && decide (a.target ≤ now)).map Instr.alarmFire)

/-! ### Timer channels (R302 to R306) -/

/-- A channel's count step, where it has one that is no boundary; whether the step enters a value with
events. -/
def Timer.tick (t : Timer) : Timer × Bool :=
  if t.presc < t.prescale then ({ t with presc := t.presc + 1 }, false)
  else
    let u := { t.stepCount with presc := 0 }
    let hit := u.hits.any id
    ({ u with entered := hit }, hit)

/-- One channel in one tick: a capture, chained actions, a boundary or a count step. -/
def State.tickTimer (s : State) (n : Nat) : State :=
  let t := s.timer n
  let s1 := if t.capDue && !t.frozen then s.push [.timerCapture n] else s
  let acts := (t.due.filter fun e => decide (e.2 ≤ s.now)).map (·.1)
  let s2 := if !acts.isEmpty && !t.frozen then s1.push [.chainedAction n] else s1
  if !t.counting || acts.contains .reset || acts.contains .stop then s2
  else if t.presc == t.prescale && t.atBoundary then s2.push [.timerBoundary n]
  else
    let r := t.tick
    let s3 := s2.setTimer n r.1
    if r.2 then s3.push [.timerCompareMatch n] else s3

/-- Every channel that has anything to do.  With spread on the field I/O island its clock runs up to 0.5 % slow, by an
amount that is free: a tick without a clock edge comes once the lag makes up one period (R48, log 125). -/
def State.tickTimers (s : State) : State :=
  let go (u : State) : State := (u.fio.timers.map (·.1)).foldl State.tickTimer u
  if !s.pace.spread.contains 1 then go s
  else
    let lag := s.fio.lag + Config.freeNat s.free % 6
    let u := { s with free := s.free + 1, fio := { s.fio with lag := lag % 1000 } }
    if 1000 ≤ lag then u else go u

/-! ### The inspection engine (R223, R226, R237) -/

/-- The wait of R226 is counted, and a flush that was put off takes place. -/
def State.tickEngine (s : State) : State :=
  let s1 := if s.engine.halted then s else s.countStall
  if s1.engine.halted || !s1.engine.heldRec.isEmpty then s1 else s1.dueFlushes

/-! ### Field pins (R297) -/

/-- Every pin that is not at its Cold value is seen again: its drive, its threshold or its bank may have changed
(log 98). -/
def State.tickPins (s : State) : State := (s.fio.pins.map (·.1)).foldl State.seePad s

/-! ### Trace, lull, restarts, feed ports, windows -/

/-- Take `n` whole packets from the front of the FIFO: the packets, and what stays (R491). -/
def packetsOf : Nat → List Byte → List (List Byte) × List Byte
  | 0, q => ([], q)
  | n + 1, q =>
    if q.isEmpty then ([], q)
    else
      let k := 8 + leAt q 1 1 % 16
      let r := packetsOf n (q.drop k)
      (q.take k :: r.1, r.2)

/-- The bytes that the trace pins carry on the two edges of 5 ns; low while trace is not routed to them (R477, R491). -/
def State.tracePins (s : State) : List Byte := if s.dbgBlock.dbg.trace then s.dbgBlock.traceBytes else [0, 0]

/-- Endpoint 0x83 takes transfers: the service path routes trace there and the port is configured (R472, R480). -/
def State.traceToUsb (s : State) : Bool :=
  s.dbgBlock.svc.trace && s.serviceUp && s.service.configured && !s.service.suspended

/-- The trace pins take a byte per edge of a 200 MHz clock, two in 5 ns, and carry 0xFF between packets.  Without that route
endpoint 0x83 takes whole packets, as many at a time as the host reads, which is free (R472, R480, R491, log 144). -/
def State.tickTrace (s : State) : State :=
  let d := s.dbgBlock
  if d.dbg.trace then
    { s with dbgBlock := { d with fifo := d.fifo.drop 2, traceBytes := (d.fifo ++ [0xFF, 0xFF]).take 2 } }
  else if s.traceToUsb && !d.fifo.isEmpty then
    let r := packetsOf (Config.freeNat s.free % 65) d.fifo
    { s with
      free := s.free + 1, dbgBlock := { d with fifo := r.2 }
      service := { s.service with traceOut := s.service.traceOut ++ (if r.1.isEmpty then [] else [r.1.flatten]) } }
  else s

/-- Lull starts or ends. -/
def State.tickLull (s : State) (c : Nat) : State :=
  if s.lulls c then
    if (s.court c).lullSince.isSome then s else s.setCourt c { s.court c with lullSince := some s.now }
  else s.wakeCourt c

/-- The pairs that waited for their primaries begin (R333). -/
def State.tickPairs (s : State) : State :=
  if s.mgmt.restarting || s.faults.rePairs.isEmpty then s
  else s.faults.rePairs.foldl (fun u e => u.rePair e.1 e.2) { s with faults := { s.faults with rePairs := [] } }

/-- A management restart completes 50 ms after it began (R14). -/
def State.tickMgmt (s : State) : State :=
  if s.mgmt.restarting && decide (s.mgmt.restartAt + 10000000 ≤ s.now) then s.mgmtDone else s

/-- A feed port tries its held push again, and the firmware frees what it was passed (R455, R457); a port that has tried a
rate for 2 ms takes its turn (R453). -/
def State.tickFeed (s : State) (f : Nat) : State :=
  let v := s.feed f
  let s1 := if v.heldPush.isSome then s.feedRetry f else s
  let s2 := if v.toFirmware.isEmpty then s1 else s1.firmwareFrees f
  if s.turnDue f then s2.push [.rateDetectTurn f] else s2

/-- A closing window is gone once its accesses are done, unless a GRANT_WINDOW command still has to answer
for it (R28). -/
def State.windowEnds (s : State) (w : Window) : Bool :=
  w.closing && !(w.accepted.any s.inProgress) &&
    !((List.range 8).any fun m => (s.mbx m).st == 2 && (s.mbx m).head 0 2 == 0x0204 &&
      leAt (s.payload m) 20 2 == w.num)

/-- Close the windows that are done. -/
def State.tickWindows (s : State) : State :=
  if s.mgmt.windows.any s.windowEnds then
    { s with mgmt := { s.mgmt with windows := s.mgmt.windows.filter fun w => !s.windowEnds w } }
  else s

/-- Both sides of every crossing have resynchronised their FIFO pointers (R53). -/
def State.tickResync (s : State) : State :=
  if s.pace.resync.isEmpty then s else { s with pace := { s.pace with resync := [] } }

/-! ### The tick -/

/-- The rows of the link hub that come due; the free timestamps of a delay exchange that no sender brings are used up
(log 129). -/
def State.tickFabric (s : State) : State :=
  let l := s.fabricDue
  if l.isEmpty then s else { s with free := s.free + 4 }.push l

/-- 5 ns of Run. -/
def State.tickRun (s : State) (edge : Bool) : State :=
  let s1 := ({ s with now := s.now + 1 }.tickTime edge).tickAlarms edge
  let s2 := s1.tickTimers.tickPins.tickEngine.tickTrace
  let s3 := ((List.range 17).foldl State.tickLull s2).tickRails.tickHalts.tickMgmt.tickPairs
  ((List.range 4).foldl (fun u f => (u.tickFeed f).tickFeedTx f) s3).tickLinks.tickMembers.tickFabric.tickLog.tickWindows.tickResync

/-- 5 ns pass.  Without power nothing moves; in a sleep state only the always-on domain counts, and while the device is
held in its restart only time since then is told (R322, R323). -/
def tick (s : State) : State :=
  if s.faults.held.contains .power then s
  else
    let a := s.aon.tick (s.delta 5 0) (s.delta 5 1)
    let s1 := { s with aon := a.1, wall := s.wall + 1 }
    if s.inHold then { s1 with now := s1.now + 1 }
    else if s.power.st = .run then s1.tickRun a.2
    else
      let b := entryBounds (s.power.st == .off)
      let t := s.power.ticks + 1
      { s1 with power := { s1.power with ticks := t, base := if t ≤ b.1 + b.2 then a.1.count else s.power.base } }

end Sys2Proof.Machine
end

