-- ==== Sys2Proof/WellFormed.lean ====
section
/-! DEFINITION. Well-formed commands: the units that they name exist, and a tile instruction's operands are
ones that its bytes can hold. -/

namespace Sys2Proof

/-! ### Units that exist -/

/-- Physical tiles: 16 courts of 64 and the bench of 64 (R12, R325). -/
def isTile (p : Nat) : Bool := decide (p < 1088)

/-- The parts that a line judge watches (R317). -/
def StallUnit.known : StallUnit → Bool
  | .tile p _ => isTile p
  | .router c => decide (c < 17)
  | .dmaMover e => decide (e < 16)
  | .array p => decide (p < 24)
  | .crossing i => decide (i < 12)

/-- The words that the scrubber visits (R319). -/
def ScrubMem.has (m : ScrubMem) (word : Nat) : Bool :=
  match m with
  | .tile p => isTile p && decide (word < 16384)
  | .buffers => decide (word < 0x100000)
  | .mgmt => decide (word < 0x80000)
  | .model => decide (word < 0x200000)

/-- The wake inputs and watched sources (R440). -/
def WakeBy.known : WakeBy → Bool
  | .pinEdge n _ => decide (n < 4)
  | .alarm k => decide (k < 8)
  | .linkPort p => decide (p < 4)
  | .vbus => true
  | .source n => decide (n < 512)

/-- The MSI-X vectors (R465). -/
def CfgWrite.known : CfgWrite → Bool
  | .vectorMask v _ => decide (v < 64)
  | _ => true

/-- The master interfaces that wait for responses (R317). -/
def Requester.known : Requester → Bool
  | .tile p => isTile p
  | .dma e => decide (e < 16)
  | _ => true

/-- The units that a command names exist. -/
def Instr.unitsExist : Instr → Bool
  | .mov p _ | .add p _ _ _ | .adc p _ _ _ | .sub p _ _ _ | .sbc p _ _ _ | .and p _ _ _ | .or p _ _ _
  | .xor p _ _ _ | .mul p _ _ _ | .muls p _ _ _ | .not p _ _ | .neg p _ _ | .inc p _ _ | .dec p _ _
  | .swap p _ _ | .movp p _ _ _ | .movpw p _ _ _ | .movwp p _ _ _ | .addpw p _ _ _ | .addpb p _ _ _
  | .movi p _ _ _ | .addi p _ _ _ | .movip p _ _ _ | .addip p _ _ _ | .subi p _ _ _ | .adci p _ _ _
  | .sbci p _ _ _ | .andi p _ _ _ | .ori p _ _ _ | .xori p _ _ _ | .shl p _ _ _ | .shr p _ _ _
  | .asr p _ _ _ | .rol p _ _ _ | .ror p _ _ _ | .rlc p _ _ _ | .rrc p _ _ _ | .ld p _ _ _ _
  | .st p _ _ _ _ | .ldw p _ _ _ _ | .stw p _ _ _ _ | .ldp p _ _ _ _ | .stp p _ _ _ _ | .lea p _ _ _ _
  | .jmp p _ _ | .call p _ _ | .ret p _ | .bra p _ _ | .jmpp p _ _ | .callp p _ _ | .djnz p _ _ _
  | .bcc p _ _ _ | .nop p _ | .cmpg p _ _ _ _ _ | .cmpgi p _ _ _ _ _ | .dadd p _ _ _ | .dsub p _ _ _
  | .dadj p _ _ _ | .dshl p _ _ _ | .dshr p _ _ _ | .b2d p _ _ _ | .d2b p _ _ _ | .bset p _ _ _
  | .bclr p _ _ _ | .btgl p _ _ _ | .btst p _ _ _ _ _ | .gand p _ _ _ _ _ | .gor p _ _ _ _ _
  | .gxor p _ _ _ _ _ | .gmov p _ _ _ | .gtod p _ _ | .dtog p _ _ | .send p _ _ _ | .qpush p _ _ _ _ _
  | .qpop p _ _ _ _ _ | .time p _ _ _ _ | .stim p _ _ _ _ | .sleep p _ | .tready p _ _ _ _
  | .tcancel p _ _ _ _ | .tdone p _ _ | .gets p _ _ _ | .sets p _ _ _ | .rete p _ | .trap p _ _
  | .fence p _ | .customInstruction p _ _ | .eventEntry p | .tileWake p | .paceCompareMatch p
  | .sysPcnt0 p _ _ | .sysDtdat2 p _ _ | .sysDtcmt p _ _ | .sysRxsize p _ _ _ | .sendCompletion p _
  | .tileRestart ⟨p, _⟩ => isTile p
  | .responseTimeout b _ | .tagRestExpiry b _ => b.known
  | .write _ | .read _ | .writeFixed _ | .msg _ | .event _ | .done _ | .retry _ | .error _
  | .abandon _ _ => true
  | .queuePush q _ _ | .queuePop q _ | .flush _ q | .queueTailExpiry q | .enginePushAccepted q => decide (q < 304)
  | .dispReady c k _ | .dispCancel c k _ _ | .cancelLimitExpiry c k => decide (c < 16) && decide (k < 256)
  | .dispTdone c p _ => decide (c < 16) && isTile p
  | .dispatch c | .courtSubstitution c => decide (c < 16)
  | .poolTake _ | .poolGive _ _ | .poolFree _ _ | .engReturn _ _ => true
  | .frameHandoff f | .frameReceived f _ | .rateDetectTurn f | .feedBlockLock f _ | .feedLinkDown f =>
    decide (f < 4)
  | .lineTimeout k | .lineProcess k | .strmCmd _ k _ | .streamDrained k => decide (k < 4)
  | .flushUsExpiry k kind => decide (k < 4) && decide (kind < 3)
  | .enginePoolRetry => true
  | .modelMemoryWrite _ addr data => decide (addr + data.length ≤ 0x800000)
  | .dmaRun _ ch _ | .dmaStop _ ch _ | .dmaStopComplete ch | .dmaReset _ ch | .dmaDescriptorComplete ch =>
    decide (ch < 128)
  | .dmaBeat e => decide (e < 16)
  | .eventFiring n | .deliveryStart n | .deliveryConfirm n | .deliveryResend n | .deliveryTimeout n
  | .evrTgt _ n _ => decide (n < 512)
  | .holdIntervalEnd g | .evrHold _ g _ => decide (g < 32)
  | .evrFired _ w _ => decide (w < 16)
  | .secondTick | .timeNs _ _ | .timeAonLo _ _ | .timeCommitAbsolute _ | .timeCommitRelative _
  | .commitApply | .timeRate _ _ | .slewEnd | .aonCalibration _ | .relock | .syncLost => true
  | .alarmFire k | .arm _ k _ | .releaseAlarm _ k => decide (k < 8)
  | .pinInputChange n _ | .deglitchExpiry n | .pinCfg _ n _ => decide (n < 96)
  | .pinSet _ w _ | .pinClr _ w _ => decide (w < 3)
  | .vioLoss b _ | .vioRise b _ => decide (b < 6)
  | .timerBoundary n | .timerCompareMatch n | .chainedAction n | .timerCapture n | .tmrShadowWrite _ n _ _
  | .tmrCnt _ n _ | .tmrCtl _ n _ => decide (n < 32)
  | .serTx _ e _ | .serRx _ e | .serCtl _ e _ | .serialUnitDone e _ => decide (e < 8)
  | .lineJudgeStall u | .invalidCode u => u.known
  | .scrubVisit m w _ => m.has w
  | .refereeOutvote _ | .lockstepMismatch | .refereeMajorityLoss | .supplyOutOfRange _
  | .referenceClockLoss | .temperatureRead _ => true
  | .tileSubstitution t _ | .duplexPromotion t | .debugLine14 t | .debugHalt t | .debugResume t
  | .debugStep t => decide (t < 1024)
  | .coldStart _ | .deviceRestart | .managementRestart _ => true
  | .courtRestart ⟨c, _, _⟩ | .courtPark c => decide (c < 17)
  | .paceLoop _ | .powerEstimate _ | .pmbusPoll _ _ _ _ | .pmbAlertN _ | .regulatorRetry _
  | .placementRefresh _ => true
  | .paceAlarm c => decide (c < 18)
  | .islandWake i => decide (i < 12)
  | .portUp p _ | .laneLoss p _ | .laneRestore p | .req p _ | .rsp p _ | .beacon p _ _ | .link p _
  | .heartbeat p _ | .replayTimeout p | .replayLimit p | .neighbourSilent p
  | .delayExchange p _ _ _ _ | .linkWakeRequest p => decide (p < 4)
  | .status a _ | .confirm a _ _ _ _ | .redirect a _ | .notice a _ _ | .sentOff a | .takeover ⟨a, _⟩
  | .fullTables a _ _ _ => decide (a.port < 4)
  | .heartbeatSend | .statusSend | .membershipUnconfirmed | .candidateMove | .captainQuorumLoss
  | .fabricSubstitution _ _ | .beaconSend => true
  | .mbxDoorbell _ _ m _ | .mbxAbort _ _ m | .mbxTake _ _ m | .mbxGive _ _ m | .holderExpiry m
  | .commandTake m | .deadlineExpiry m | .hwAborted m | .getIdentity m | .getCapabilities m | .echo m
  | .abort m | .loadTileImage m | .startTile m | .stopTile m | .setPaceTarget m | .setPowerCap m
  | .loadDecodeTable m | .claim m | .release m | .queryOwner m | .grantWindowOpen m | .grantWindowClose m
  | .updateBegin m _ | .updateChunk m | .updateVerify m | .updateActivate m | .updateConfirm m
  | .updateStatus m | .updateCancel m | .calReadFactory m | .calWriteUser m | .calApply m | .calRevert m
  | .faultLogRead m | .substituteTile m _ | .readmitTile m _ | .setDuplex m | .sendOff m | .timeSet m
  | .timeAdjustRate m | .timeAdjustSlew m | .timeSyncMode m | .powerStateSet m | .drizzleProgram m
  | .wakeRecordRead m | .modelLoad m | .modelLoadValidate m | .modelSwitch m | .streamConfigure m
  | .streamEnable m | .streamStop m | .feedRuleLoad m | .fabricJoin m | .fabricLeave m
  | .fabricRouteSet m | .fabricMembers m | .authChallenge m | .authResponse m | .debugEnable m
  | .logRead m | .countersRead m => decide (m < 8)
  | .calRecordWrite => true
  | .wakeInput w => w.known
  | .sleepExit | .drizzleCycle _ | .drizzleWaitEnd _ | .trialSelfTest _ | .backgroundErase
  | .hostAccess _ => true
  | .msixSend v => decide (v < 64)
  | .functionLevelReset _ | .serviceBulkCommand _ | .vendorAbort | .vendorState | .busReset _
  | .dbgAccess _ _ _ _ | .frostEnter | .frostLeave | .dbgPatchAddr _ _ | .tapReset
  | .testInstructionReplaced _ | .rcRead _ _ | .registerWrite _ _ _ | .supplyRestored _ | .powerLoss
  | .aonOscillatorStop | .hostLinkUp _ _ | .vbusRise | .setConfiguration
  | .suspend _ => true
  | .configurationSpaceWrite w => w.known

/-! ### What the bytes of a tile instruction hold (R92 to R94, R97) -/

/-- The prefixes of an instruction without a wide form. -/
def Pfx.narrow (x : Pfx) : Bool := !x.wide

/-- A value that the instruction's one or two immediate bytes hold (R97). -/
def Pfx.holds (x : Pfx) (v : W16) : Bool := x.wide || decide (v.toNat < 256)

/-- A signed offset that the instruction's one or two bytes hold (R97). -/
def Pfx.holdsS (x : Pfx) (v : W16) : Bool := x.wide || (v.setWidth 8).signExtend 16 == v

/-- A custom instruction's fields: those that its operand mode does not supply are zero (R122, R123). -/
def CustomArgs.canon (c : CustomArgs) : Bool :=
  let no (a b pf gf : Bool) : Bool :=
    (a || c.a == 0) && (b || c.b == 0) && (pf || c.pf == 0) && (gf || c.gf == 0)
  match c.mode.val with
  | 0 => no false false false false && c.k == 0
  | 1 => no true true false false && c.k == 0
  | 2 => no false false false false && decide (c.k.toNat < 256)
  | 3 => no true true false false && decide (c.k.toNat < 256)
  | 4 => no false false false false
  | 5 => no true false true false && c.k == 0
  | 6 => no true false true false && (c.k.setWidth 8).signExtend 16 == c.k
  | 7 => no true false false true && c.k == 0
  | _ => false

/-- The operands of a tile instruction are ones that its bytes hold, for physical tile `p`, with a reply
read back where the row takes one; false for other commands and for a decode trap. -/
def Instr.encodable (p : Nat) : Instr → Bool
  | .mov q (.copy _ _ _) => q == p
  | .add q _ _ _ | .adc q _ _ _ | .sub q _ _ _ | .sbc q _ _ _ | .and q _ _ _ | .or q _ _ _ | .xor q _ _ _
  | .not q _ _ | .neg q _ _ | .inc q _ _ | .dec q _ _ | .swap q _ _ | .shl q _ _ _ | .shr q _ _ _
  | .asr q _ _ _ | .rol q _ _ _ | .ror q _ _ _ | .rlc q _ _ _ | .rrc q _ _ _ | .dadd q _ _ _
  | .dsub q _ _ _ | .cmpg q _ _ _ _ _ => q == p
  | .movi q x _ v | .addi q x _ v | .subi q x _ v | .adci q x _ v | .sbci q x _ v | .andi q x _ v
  | .ori q x _ v | .xori q x _ v | .cmpgi q x _ _ _ v => q == p && x.holds v
  | .ld q x _ _ v | .st q x _ _ v | .ldw q x _ _ v | .stw q x _ _ v | .ldp q x _ _ v | .stp q x _ _ v
  | .lea q x _ _ v | .bra q x v | .bcc q x _ v => q == p && x.holdsS v
  | .mul q x _ _ | .muls q x _ _ | .movp q x _ _ | .movpw q x _ _ | .movwp q x _ _ | .addpw q x _ _
  | .addpb q x _ _ | .movip q x _ _ | .addip q x _ _ | .jmp q x _ | .call q x _ | .ret q x | .jmpp q x _
  | .callp q x _ | .nop q x | .dadj q x _ _ | .dshl q x _ _ | .dshr q x _ _ | .b2d q x _ _ | .d2b q x _ _
  | .bset q x _ _ | .bclr q x _ _ | .btgl q x _ _ | .btst q x _ _ _ _ | .gand q x _ _ _ _
  | .gor q x _ _ _ _ | .gxor q x _ _ _ _ | .gmov q x _ _ | .gtod q x _ | .dtog q x _ | .send q x _ _
  | .stim q x _ _ _ | .sleep q x | .gets q x _ _ | .sets q x _ _ | .rete q x | .trap q x _
  | .fence q x => q == p && x.narrow
  | .djnz q _ _ _ => q == p
  | .qpush q x _ _ _ r | .qpop q x _ _ _ r | .time q x _ _ r | .tready q x _ _ r | .tcancel q x _ _ r
  | .tdone q x r => q == p && x.narrow && r == .good
  | .customInstruction q x c => q == p && x.narrow && c.args.canon && c.mid.isEmpty
  | _ => false

/-- A well-formed command. -/
def Instr.wf (i : Instr) : Bool := i.unitsExist

end Sys2Proof
end

