-- ==== Sys2Proof/Safety.lean ====
section
/-! DEFINITION. The words that the statements use: when a tile executes an instruction, what its next state
is, the flag rules of R100 on exact integers, and the invariants of the block. -/

namespace Sys2Proof.Safety
open Sys2Proof.Machine

/-! ### Safe steps -/

/-- A command stops the machine: a fault or a refusal. -/
def Stops (i : Instr) (s : State) : Prop := ∀ t, exec i s ≠ .next t

/-! ### Tile instructions -/

/-- Physical tile `p` executes an instruction of `len` bytes after its prefixes now: the tile exists and runs,
no event entry is due, no fetched word has an uncorrectable error, and the guard is met (R63, R64, R81,
R93). -/
abbrev Executes (s : State) (p len : Nat) (x : Pfx) : Prop :=
  p < 1088 ∧ s.ready p = true ∧ (s.tile p).fetchBad (pfxLen x + len) = false ∧ (s.tile p).guardMet x = true

/-- The address after an instruction of `len` bytes after its prefixes. -/
def following (s : State) (p len : Nat) (x : Pfx) : W16 := (s.tile p).pc + BitVec.ofNat 16 (pfxLen x + len)

/-- Tile `m` but for what every retirement writes: the pc, the prefetched words, the pace counter and its
match, and line 11. -/
def booked (n m : Tile) : Tile :=
  { m with pc := n.pc, prefetch := n.prefetch, pcnt := n.pcnt, pcHit := n.pcHit, pend := n.pend }

/-- From `s` to `t` one instruction of tile `p` retires (R78): the next pc is `pc`, the pace counter counts,
line 11 becomes pending where it meets SYS_PCMP, the tile is otherwise `m`, and nothing outside the tile
changes. -/
def Retires (s t : State) (p : Nat) (pc : W16) (m : Tile) : Prop :=
  t = s.setTile p (t.tile p) ∧ t.tile p = booked (t.tile p) m ∧ (t.tile p).pc = pc ∧
    (t.tile p).pcnt = (if m.cntOn then m.pcnt + 1 else m.pcnt) ∧
    (t.tile p).pend =
      (if m.cntOn && m.cmpOn && m.pcnt + 1 == m.pcmp then m.pend ||| 0x0800 else m.pend)

/-- The registers that an instruction writes are even where it uses them as pairs (R60). -/
abbrev evenIf (wide : Bool) (rs : List (Fin 16)) : Prop := wide = true → ∀ r ∈ rs, r.val % 2 = 0

/-- N and Z of a result of `w` bits (R100). -/
def nOf (w r : Nat) : Bool := decide (2 ^ (w - 1) ≤ r)
/-- Z of a result. -/
def zOf (r : Nat) : Bool := decide (r = 0)

/-- The signed value of `w` bits. -/
def signed (w a : Nat) : Int := if a < 2 ^ (w - 1) then (a : Int) else (a : Int) - (2 ^ w : Nat)

/-- A signed value does not fit `w` bits. -/
def overflows (w : Nat) (v : Int) : Bool :=
  decide (v < -((2 ^ (w - 1) : Nat) : Int) ∨ ((2 ^ (w - 1) : Nat) : Int) ≤ v)

/-- The Arith flags of a sum (R100): H is the carry out of bit 3, or of bit 11 for 16 bits. -/
def sumFlags (w a b c : Nat) : Flags :=
  let r := (a + b + c) % 2 ^ w
  { c := decide (2 ^ w ≤ a + b + c), h := decide (2 ^ (w - 4) ≤ a % 2 ^ (w - 4) + b % 2 ^ (w - 4) + c)
    v := overflows w (signed w a + signed w b + c), n := nOf w r, z := zOf r }

/-- A difference modulo 2^w. -/
def diff (w a b c : Nat) : Nat := (a + (2 ^ w - b) + (2 ^ w - c)) % 2 ^ w

/-- The Arith flags of a difference (R100): C and H are borrows. -/
def diffFlags (w a b c : Nat) : Flags :=
  let r := diff w a b c
  { c := decide (a < b + c), h := decide (a % 2 ^ (w - 4) < b % 2 ^ (w - 4) + c)
    v := overflows w (signed w a - signed w b - c), n := nOf w r, z := zOf r }

/-- The Logic flags (R100). -/
def logicFlags (w r : Nat) (f : Flags) : Flags :=
  { c := false, h := f.h, v := false, n := nOf w r, z := zOf r }

/-- Data register `r` takes a byte. -/
def withD (m : Tile) (r : Fin 16) (v : Nat) : Tile := { m with d := m.d.set r (BitVec.ofNat 8 v) }

/-- Guard `g` takes a value; G0 ignores writes (R59). -/
def guardSet (m : Tile) (g : Fin 8) (v : Bool) : Tile := { m with g := if g = 0 then m.g else m.g.set g v }

/-- A guard as instructions read it: G0 is true (R59). -/
def guardIs (m : Tile) (g : Fin 8) : Bool := g == 0 || m.g[g]

/-- The conditions of the flag branches, by number (R105). -/
def branchTaken (c : Fin 8) (f : Flags) : Bool :=
  let flag := match c.val / 2 with
    | 0 => f.z
    | 1 => f.c
    | 2 => f.n
    | _ => f.v
  flag != decide (c.val % 2 = 1)

/-- The conditions of the compares, by number (R107). -/
def compares (c : Fin 8) (w a b : Nat) : Prop :=
  match c.val with
  | 0 => a = b
  | 1 => a ≠ b
  | 2 => a < b
  | 3 => b ≤ a
  | 4 => signed w a < signed w b
  | 5 => signed w b ≤ signed w a
  | 6 => a ≤ b
  | _ => b < a

/-- The tile after a push of `ra` on the return stack (R72, R73). -/
def pushed (m : Tile) (ra : W16) : Tile :=
  let top : Fin 8 := m.rsTop + 1
  { m with rsTop := top, rs := m.rs.set top ra, rsDepth := min 8 (m.rsDepth + 1) }

/-- Tile `p` takes a trap with a cause and an argument, at `pc` (R81, R85): the cause registers and SYS_SPC and
SYS_SST are written, line 13 becomes pending, EV_ON clears, INH sets and the pc is SYS_VEC.  A load in flight
has landed. -/
def trapped (s : State) (p code : Nat) (arg : Byte) (m : Tile) (pc : W16) : State :=
  s.setTile p { m with
    cause := code, trapArg := arg, pend := m.pend ||| 0x2000, spc := pc, sst := m.fl.toByte, evOn := false
    inh := true, pc := m.vec, prefetch := [] }

/-! ### Faults -/

/-- The newest fault-log record has these fields (R324). -/
def Logged (t : State) (source unit logical action arg : Nat) : Prop :=
  ∃ r, t.aon.log.getLast? = some r ∧ r.source = source ∧ r.unit = unit ∧ r.logical = logical ∧
    r.action = action ∧ r.arg = arg

/-- Logical tile `l` has moved from physical tile `old` to `new` between `s` and `t` (R168, R326, R327): the fence,
the next cap and the map, and at the new tile Cold registers, the copied memory and a start where the old tile
was started. -/
def Moved (s t : State) (l old new : Nat) : Prop :=
  t.physOf l = some new ∧ t.logicalOf new = some l ∧ t.isFenced old = true ∧
    t.capOf l = nextCap (s.capOf l) ∧ (t.tile new).mem = (s.tile old).mem ∧ (t.tile new).pc = 0 ∧
    (t.tile new).d = Vector.replicate 16 0 ∧ (t.tile new).p = Vector.replicate 8 0 ∧
    (t.tile new).run = (if (s.tile old).run = .stopped then RunState.stopped else .running)

/-- The pool names buffers and generations that exist (R198). -/
abbrev PoolSound (l : Pool) : Prop := (∀ b ∈ l.freed, b < 2048) ∧ ∀ e ∈ l.gen, e.2 < 32

/-- What every tile keeps (R59, R74, R81, R161): line 13 enabled, at most eight return addresses, and a
receive ring whose base, size and tail are ones that its registers hold. -/
def TileLegal (m : Tile) : Prop :=
  m.en.getLsbD 13 = true ∧ m.rsDepth ≤ 8 ∧ m.rxBase.toNat % 256 = 0 ∧ m.rxTail.toNat % 8 = 0 ∧
    (m.rxLog = 0 ∨ 8 ≤ m.rxLog ∧ m.rxLog ≤ 14)

/-- Every memory is in its canonical form; erased flash reads 0xFF. -/
def MemoriesCanonical (s : State) : Prop :=
  (∀ p, Memory.wf 0 (s.tile p).mem = true) ∧ Memory.wf 0 s.bufMem = true ∧ Memory.wf 0 s.mgmt.mem = true ∧
    Memory.wf 0 s.engine.mem = true ∧
    (∀ m, Memory.wf 0 (s.mbx m).cmd = true ∧ Memory.wf 0 (s.mbx m).resp = true) ∧
    Memory.wf 0xFF s.boot.bank0 = true ∧ Memory.wf 0xFF s.boot.bank1 = true ∧
    Memory.wf 0xFF s.boot.copy0 = true ∧ Memory.wf 0xFF s.boot.copy1 = true ∧ Memory.wf 0 s.host.table = true ∧
    ∀ e ∈ s.boot.slots, Memory.wf 0 e.2 = true

/-! ### Mailbox commands -/

/-- The firmware runs a command of mailbox `m` with a code and a payload (R392). -/
abbrev Serving (s : State) (m code : Nat) (p : List Byte) : Prop :=
  m < 8 ∧ s.mgmt.up = true ∧ s.mgmt.restarting = false ∧ s.running = true ∧ (s.mbx m).st = 2 ∧
    leNum (memRead 0 (s.mbx m).cmd 0 2) = code ∧
    memRead 0 (s.mbx m).cmd 16 (leNum (memRead 0 (s.mbx m).cmd 4 2)) = p

/-- A command of mailbox `m` executes and ends: `u` is what it makes of the state, and the response has a status
and a payload (R390, R392; what a response is, a statement of its own says). -/
def Ends (c : Instr) (s u : State) (m status : Nat) (payload : List Byte) : Prop :=
  exec c s = .next (u.finishMbx m status payload)

end Sys2Proof.Safety
end

