-- ==== Sys2Proof/Certificates/Slice0/Obligations.lean ====
section
/-! DEFINITION. The statements for the provers. -/

open Sys2Proof Sys2Proof.Machine Sys2Proof.Safety

/-! ### Tile instructions -/

/-- R100, R101, R102: ADD, ADC, SUB, SBC, NEG, INC and DEC, and ADDI, SUBI, ADCI and SBCI.  The registers are
read before a load in flight lands and written after it (R69, R120). -/
def Obligations.ArithmeticInstructions : Prop :=
  ∀ (p : Nat) (x : Pfx) (d e : Fin 16) (imm : W16) (s : State),
    let w := opW x.wide
    let o := s.tile p
    let a := o.rd x.wide d
    let b := o.rd x.wide e
    let k := imm.toNat % 2 ^ w
    let c := b2n o.fl.c
    let put (r : Nat) (f : Flags) : Tile := { o.land.wr x.wide d r with fl := f }
    let ran (t : State) (len r : Nat) (f : Flags) : Prop := Retires s t p (following s p len x) (put r f)
    (Executes s p 2 x → evenIf x.wide [d, e] →
      (∃ t, exec (.add p x d e) s = .next t ∧ ran t 2 ((a + b) % 2 ^ w) (sumFlags w a b 0)) ∧
      (∃ t, exec (.adc p x d e) s = .next t ∧ ran t 2 ((a + b + c) % 2 ^ w) (sumFlags w a b c)) ∧
      (∃ t, exec (.sub p x d e) s = .next t ∧ ran t 2 (diff w a b 0) (diffFlags w a b 0)) ∧
      (∃ t, exec (.sbc p x d e) s = .next t ∧ ran t 2 (diff w a b c) (diffFlags w a b c))) ∧
    (Executes s p 2 x → evenIf x.wide [d] →
      (∃ t, exec (.neg p x d) s = .next t ∧ ran t 2 (diff w 0 a 0) (diffFlags w 0 a 0)) ∧
      (∃ t, exec (.inc p x d) s = .next t ∧
        ran t 2 ((a + 1) % 2 ^ w) { sumFlags w a 1 0 with c := o.fl.c }) ∧
      (∃ t, exec (.dec p x d) s = .next t ∧ ran t 2 (diff w a 1 0) { diffFlags w a 1 0 with c := o.fl.c })) ∧
    (Executes s p (2 + b2n x.wide) x → evenIf x.wide [d] →
      ∃ t, exec (.addi p x d imm) s = .next t ∧
        ran t (2 + b2n x.wide) ((a + k) % 2 ^ w) (sumFlags w a k 0)) ∧
    (Executes s p (3 + b2n x.wide) x → evenIf x.wide [d] →
      (∃ t, exec (.subi p x d imm) s = .next t ∧
        ran t (3 + b2n x.wide) (diff w a k 0) (diffFlags w a k 0)) ∧
      (∃ t, exec (.adci p x d imm) s = .next t ∧
        ran t (3 + b2n x.wide) ((a + k + c) % 2 ^ w) (sumFlags w a k c)) ∧
      (∃ t, exec (.sbci p x d imm) s = .next t ∧
        ran t (3 + b2n x.wide) (diff w a k c) (diffFlags w a k c)))

/-- R100, R101, R102: MOV, AND, OR, XOR, NOT and SWAP, and MOVI, ANDI, ORI and XORI. -/
def Obligations.LogicInstructions : Prop :=
  ∀ (p : Nat) (x : Pfx) (d e : Fin 16) (imm : W16) (s : State),
    let w := opW x.wide
    let o := s.tile p
    let a := o.rd x.wide d
    let b := o.rd x.wide e
    let k := imm.toNat % 2 ^ w
    let put (r : Nat) (f : Flags) : Tile := { o.land.wr x.wide d r with fl := f }
    let ran (t : State) (len r : Nat) (f : Flags) : Prop := Retires s t p (following s p len x) (put r f)
    let lf (r : Nat) : Flags := logicFlags w r o.fl
    let swapped := a / 2 ^ (w / 2) + a % 2 ^ (w / 2) * 2 ^ (w / 2)
    (Executes s p 2 x → evenIf x.wide [d, e] →
      (∃ t, exec (.mov p (.copy x d e)) s = .next t ∧ ran t 2 b o.fl) ∧
      (∃ t, exec (.and p x d e) s = .next t ∧ ran t 2 (a &&& b) (lf (a &&& b))) ∧
      (∃ t, exec (.or p x d e) s = .next t ∧ ran t 2 (a ||| b) (lf (a ||| b))) ∧
      (∃ t, exec (.xor p x d e) s = .next t ∧ ran t 2 (a ^^^ b) (lf (a ^^^ b)))) ∧
    (Executes s p 2 x → evenIf x.wide [d] →
      (∃ t, exec (.not p x d) s = .next t ∧ ran t 2 (2 ^ w - 1 - a) (lf (2 ^ w - 1 - a))) ∧
      (∃ t, exec (.swap p x d) s = .next t ∧
        ran t 2 swapped { o.fl with n := nOf w swapped, z := zOf swapped })) ∧
    (Executes s p (2 + b2n x.wide) x → evenIf x.wide [d] →
      ∃ t, exec (.movi p x d imm) s = .next t ∧ ran t (2 + b2n x.wide) k o.fl) ∧
    (Executes s p (3 + b2n x.wide) x → evenIf x.wide [d] →
      (∃ t, exec (.andi p x d imm) s = .next t ∧ ran t (3 + b2n x.wide) (a &&& k) (lf (a &&& k))) ∧
      (∃ t, exec (.ori p x d imm) s = .next t ∧ ran t (3 + b2n x.wide) (a ||| k) (lf (a ||| k))) ∧
      (∃ t, exec (.xori p x d imm) s = .next t ∧ ran t (3 + b2n x.wide) (a ^^^ k) (lf (a ^^^ k))))

/-- R101: MUL and MULS give the 16-bit product of two registers to the pair at an even d; C says that the
product does not fit 8 bits. -/
def Obligations.MultiplyInstructions : Prop :=
  ∀ (p : Nat) (x : Pfx) (d e : Fin 16) (s : State), x.wide = false → d.val % 2 = 0 → Executes s p 2 x →
    let o := s.tile p
    let a := o.dreg d
    let b := o.dreg e
    let m := signed 8 a * signed 8 b
    let put (r : Nat) (c : Bool) : Tile :=
      { o.land.wr true d r with fl := { o.fl with c := c, v := false, n := nOf 16 r, z := zOf r } }
    (∃ t, exec (.mul p x d e) s = .next t ∧
      Retires s t p (following s p 2 x) (put (a * b) (decide (255 < a * b)))) ∧
    (∃ t, exec (.muls p x d e) s = .next t ∧
      Retires s t p (following s p 2 x) (put (m % 65536).toNat (decide (m < -128 ∨ 127 < m))))

/-- R102, R103: the shifts and rotates by `c + 1`, of a register up to 8 and of a pair up to 16 steps: the
result, C as the last bit that left or crossed the end, H unchanged and V clear.  A narrow shift or rotate by more
than 8 traps with cause 0x1. -/
def Obligations.ShiftInstructions : Prop :=
  ∀ (p : Nat) (x : Pfx) (d c : Fin 16) (s : State), Executes s p 2 x → evenIf x.wide [d] →
    let w := opW x.wide
    let o := s.tile p
    let a := o.rd x.wide d
    let n := c.val + 1
    let k := b2n o.fl.c
    let top := a / 2 ^ (w - 1)
    let put (r : Nat) (out : Nat) : Tile :=
      { o.land.wr x.wide d r with
        fl := { o.fl with c := decide (out % 2 = 1), v := false, n := nOf w r, z := zOf r } }
    let ran (t : State) (r out : Nat) : Prop := Retires s t p (following s p 2 x) (put r out)
    let r9 := a + k * 2 ^ w
    ((x.wide = false → c.val < 8) →
      (∃ t, exec (.shl p x d c) s = .next t ∧ ran t (a * 2 ^ n % 2 ^ w) (a / 2 ^ (w - n))) ∧
      (∃ t, exec (.shr p x d c) s = .next t ∧ ran t (a / 2 ^ n) (a / 2 ^ (n - 1))) ∧
      (∃ t, exec (.asr p x d c) s = .next t ∧
        ran t (a / 2 ^ n + top * (2 ^ w - 2 ^ (w - n))) (a / 2 ^ (n - 1))) ∧
      (∃ t, exec (.rol p x d c) s = .next t ∧ ran t (a * 2 ^ n % 2 ^ w + a / 2 ^ (w - n)) (a / 2 ^ (w - n))) ∧
      (∃ t, exec (.ror p x d c) s = .next t ∧
        ran t (a / 2 ^ n + a % 2 ^ n * 2 ^ (w - n)) (a / 2 ^ (n - 1))) ∧
      (∃ t, exec (.rlc p x d c) s = .next t ∧
        ran t ((a * 2 ^ n + k * 2 ^ (n - 1) + a / 2 ^ (w + 1 - n)) % 2 ^ w) (a / 2 ^ (w - n))) ∧
      (∃ t, exec (.rrc p x d c) s = .next t ∧
        ran t ((r9 / 2 ^ n + a % 2 ^ (n - 1) * 2 ^ (w + 1 - n)) % 2 ^ w) (a / 2 ^ (n - 1)))) ∧
    (x.wide = false → 8 ≤ c.val → ∀ y ∈ [Instr.shl p x d c, .shr p x d c, .asr p x d c, .rol p x d c,
        .ror p x d c, .rlc p x d c, .rrc p x d c],
      if o.inh = true ∧ o.evOn = false then
        ∃ t, exec y s = .next t ∧ (t.tile p).dbl = true ∧ (t.tile p).run = .halted ∧ (t.tile p).cause = 1
      else exec y s = .next (trapped s p 1 0 o.land o.pc))

/-- R101, R102, R104, R62: MOVP, MOVPW, MOVWP, ADDPW, ADDPB, MOVIP, ADDIP and LEA write a pointer or a pair
and no flag. -/
def Obligations.PointerInstructions : Prop :=
  ∀ (p : Nat) (x : Pfx) (d : Fin 16) (a b : Fin 8) (v disp : W16) (k : Byte) (s : State),
    let o := s.tile p
    let toP (r : Fin 8) (v : W16) : Tile := { o.land with p := o.land.p.set r v }
    let ran (t : State) (len : Nat) (m : Tile) : Prop := Retires s t p (following s p len x) m
    (x.wide = false → Executes s p 2 x →
      (∃ t, exec (.movp p x a b) s = .next t ∧ ran t 2 (toP a o.p[b])) ∧
      (∃ t, exec (.addpb p x a d) s = .next t ∧ ran t 2 (toP a (o.p[a] + (o.d[d]).zeroExtend 16))) ∧
      (∃ t, exec (.addip p x a k) s = .next t ∧ ran t 2 (toP a (o.p[a] + k.signExtend 16)))) ∧
    (x.wide = false → d.val % 2 = 0 → Executes s p 2 x →
      (∃ t, exec (.movpw p x a d) s = .next t ∧ ran t 2 (toP a (BitVec.ofNat 16 (o.rd true d)))) ∧
      (∃ t, exec (.movwp p x d b) s = .next t ∧ ran t 2 (o.land.wr true d o.p[b].toNat)) ∧
      (∃ t, exec (.addpw p x a d) s = .next t ∧
        ran t 2 (toP a (o.p[a] + BitVec.ofNat 16 (o.rd true d))))) ∧
    (x.wide = false → Executes s p 3 x →
      ∃ t, exec (.movip p x a v) s = .next t ∧ ran t 3 (toP a v)) ∧
    (Executes s p (3 + b2n x.wide) x →
      ∃ t, exec (.lea p x a b disp) s = .next t ∧ ran t (3 + b2n x.wide) (toP a (o.p[b] + disp)))

/-- R62, R64, R69, R104: loads put the datum in flight (it lands with the next instruction) and leave memory alone;
stores write their bytes at the effective address and nothing else of the memory. Where the rules leave a point
open, the clause states the model's choice (log 4). -/
def Obligations.MemoryInstructions : Prop :=
  ∀ (p : Nat) (x : Pfx) (r : Fin 16) (q b : Fin 8) (disp : W16) (s : State),
    Memory.wf 0 (s.tile p).mem = true →
    let o := s.tile p
    let ea := o.p[b] + disp
    let len := 3 + b2n x.wide
    let ran (t : State) (m : Tile) : Prop := Retires s t p (following s p len x) m
    let inFlight (dest : LoadDest) (v : W16) : Tile := { o.land with wb := some ⟨dest, v⟩ }
    let stored (m : Tile) (bs : List Byte) : Prop :=
      m = { o.land with mem := m.mem } ∧
        ∀ a : W16, m.byte a = ((bs[(a - ea).toNat]?).getD (o.byte a))
    (Executes s p len x → o.anyBad ea 1 = false →
      ∃ t, exec (.ld p x r b disp) s = .next t ∧ ran t (inFlight (.data r) ((o.byte ea).zeroExtend 16))) ∧
    (Executes s p len x → o.anyBad ea 2 = false →
      (r.val % 2 = 0 → ∃ t, exec (.ldw p x r b disp) s = .next t ∧ ran t (inFlight (.pair r) (o.word ea))) ∧
      ∃ t, exec (.ldp p x q b disp) s = .next t ∧ ran t (inFlight (.ptr q) (o.word ea))) ∧
    (Executes s p len x → o.storeBad ea 1 = false →
      ∃ t m, exec (.st p x r b disp) s = .next t ∧ ran t m ∧ stored m [o.d[r]]) ∧
    (Executes s p len x → o.storeBad ea 2 = false →
      (r.val % 2 = 0 →
        ∃ t m, exec (.stw p x r b disp) s = .next t ∧ ran t m ∧ stored m [o.d[r], o.d[r + 1]]) ∧
      ∃ t m, exec (.stp p x q b disp) s = .next t ∧ ran t m ∧
        stored m [(o.p[q]).setWidth 8, (o.p[q] >>> 8).setWidth 8])

/-- R72 to R74, R85, R86, R105, R106: transfers of control write the pc and, for calls and returns, the return stack;
DJNZ also writes its counter; no flag changes. In trap mode a call on a full return stack and a return on an empty
one trap with causes 0x3 and 0x4 at their own address and have no other effect; with INH set and EV_ON clear that
is a double trap. -/
def Obligations.ControlAndReturnStack : Prop :=
  (∀ (p : Nat) (x : Pfx) (d : Fin 16) (b c : Fin 8) (abs rel : W16) (rel8 : Byte) (s : State),
    let o := s.tile p
    let l := o.land
    let next (len : Nat) : W16 := following s p len x
    let n := (o.rd x.wide d + (2 ^ opW x.wide - 1)) % 2 ^ opW x.wide
    let room := !(o.rsTrap && o.rsDepth == 8)
    let some_ := !(o.rsTrap && o.rsDepth == 0)
    (x.wide = false →
      (Executes s p 1 x → ∃ t, exec (.nop p x) s = .next t ∧ Retires s t p (next 1) l) ∧
      (Executes s p 3 x → ∃ t, exec (.jmp p x abs) s = .next t ∧ Retires s t p abs l) ∧
      (Executes s p 2 x → ∃ t, exec (.jmpp p x b) s = .next t ∧ Retires s t p o.p[b] l) ∧
      (Executes s p 3 x → room →
        ∃ t, exec (.call p x abs) s = .next t ∧ Retires s t p abs (pushed l (next 3))) ∧
      (Executes s p 2 x → room →
        ∃ t, exec (.callp p x b) s = .next t ∧ Retires s t p o.p[b] (pushed l (next 2))) ∧
      (Executes s p 1 x → some_ →
        ∃ t, exec (.ret p x) s = .next t ∧
          Retires s t p l.rs[l.rsTop] { l with rsTop := l.rsTop - 1, rsDepth := l.rsDepth - 1 })) ∧
    (Executes s p (2 + b2n x.wide) x →
      (∃ t, exec (.bra p x rel) s = .next t ∧ Retires s t p (next (2 + b2n x.wide) + rel) l) ∧
      (∃ t, exec (.bcc p x c rel) s = .next t ∧
        Retires s t p (if branchTaken c o.fl then next (2 + b2n x.wide) + rel else next (2 + b2n x.wide)) l)) ∧
    (Executes s p 3 x → evenIf x.wide [d] →
      ∃ t, exec (.djnz p x d rel8) s = .next t ∧
        Retires s t p (if n = 0 then next 3 else next 3 + rel8.signExtend 16) (l.wr x.wide d n))) ∧
  (∀ (p : Nat) (x : Pfx) (b : Fin 8) (abs : W16) (s : State), x.wide = false → (s.tile p).rsTrap = true →
    let o := s.tile p
    let took (c : Instr) (code : Nat) : Prop :=
      if o.inh = true ∧ o.evOn = false then
        ∃ t, exec c s = .next t ∧ (t.tile p).dbl = true ∧ (t.tile p).run = .halted ∧ (t.tile p).cause = code ∧
          (t.tile p).pc = o.pc ∧ (t.tile p).rs = o.rs ∧ (t.tile p).rsTop = o.rsTop ∧ (t.tile p).rsDepth = o.rsDepth
      else exec c s = .next (trapped s p code 0 o.land o.pc)
    (o.rsDepth = 8 → Executes s p 3 x → took (.call p x abs) 3) ∧
    (o.rsDepth = 8 → Executes s p 2 x → took (.callp p x b) 3) ∧
    (o.rsDepth = 0 → Executes s p 1 x → took (.ret p x) 4))

/-- R107, R109: CMPG and CMPGI write one guard, by the conditions of the table; the bit and guard instructions; no
flag changes. -/
def Obligations.CompareAndBitInstructions : Prop :=
  (∀ (p : Nat) (x : Pfx) (c g : Fin 8) (d e : Fin 16) (imm : W16) (s : State),
    let w := opW x.wide
    let o := s.tile p
    (Executes s p 3 x → evenIf x.wide [d, e] →
      ∃ t v, exec (.cmpg p x c d e g) s = .next t ∧
        Retires s t p (following s p 3 x) (guardSet o.land g v) ∧
        (v = true ↔ compares c w (o.rd x.wide d) (o.rd x.wide e))) ∧
    (Executes s p (3 + b2n x.wide) x → evenIf x.wide [d] →
      ∃ t v, exec (.cmpgi p x c d g imm) s = .next t ∧
        Retires s t p (following s p (3 + b2n x.wide) x) (guardSet o.land g v) ∧
        (v = true ↔ compares c w (o.rd x.wide d) (imm.toNat % 2 ^ w)))) ∧
  (∀ (p : Nat) (x : Pfx) (d : Fin 16) (b g a : Fin 8) (i : Bool) (s : State), x.wide = false →
    let o := s.tile p
    let l := o.land
    let toD (v : Byte) : Tile := { l with d := l.d.set d v }
    let ga := guardIs o a
    let gb := guardIs o b ^^ i
    (Executes s p 2 x →
      (∃ t v, exec (.bset p x d b) s = .next t ∧ Retires s t p (following s p 2 x) (toD v) ∧
        ∀ k : Fin 8, v.getLsbD k = (if k = b then true else (o.d[d]).getLsbD k)) ∧
      (∃ t v, exec (.bclr p x d b) s = .next t ∧ Retires s t p (following s p 2 x) (toD v) ∧
        ∀ k : Fin 8, v.getLsbD k = (if k = b then false else (o.d[d]).getLsbD k)) ∧
      (∃ t v, exec (.btgl p x d b) s = .next t ∧ Retires s t p (following s p 2 x) (toD v) ∧
        ∀ k : Fin 8, v.getLsbD k = (if k = b then !(o.d[d]).getLsbD k else (o.d[d]).getLsbD k)) ∧
      (∃ t v, exec (.gtod p x d) s = .next t ∧ Retires s t p (following s p 2 x) (toD v) ∧
        ∀ k : Fin 8, v.getLsbD k = guardIs o k) ∧
      (∃ t m, exec (.dtog p x d) s = .next t ∧ Retires s t p (following s p 2 x) m ∧
        m = { l with g := m.g } ∧ ∀ k : Fin 8, guardIs m k = (k == 0 || (o.d[d]).getLsbD k))) ∧
    (Executes s p 3 x →
      (∃ t, exec (.btst p x d b i g) s = .next t ∧
        Retires s t p (following s p 3 x) (guardSet l g ((o.d[d]).getLsbD b ^^ i))) ∧
      (∃ t, exec (.gand p x g a b i) s = .next t ∧
        Retires s t p (following s p 3 x) (guardSet l g (ga && gb))) ∧
      (∃ t, exec (.gor p x g a b i) s = .next t ∧
        Retires s t p (following s p 3 x) (guardSet l g (ga || gb))) ∧
      (∃ t, exec (.gxor p x g a b i) s = .next t ∧
        Retires s t p (following s p 3 x) (guardSet l g (ga ^^ gb))) ∧
      (∃ t, exec (.gmov p x g a) s = .next t ∧
        Retires s t p (following s p 3 x) (guardSet l g ga))))

/-- R108: the decimal instructions.  The adjustments of DADJ are written out; DADD and DSUB are a binary sum or
difference of a byte followed by them, the wide forms the low byte first; on packed BCD digits they add and
subtract in decimal, C the carry or the borrow. -/
def Obligations.DecimalInstructions : Prop :=
  (∀ (p : Nat) (x : Pfx) (d e : Fin 16) (m : Bool) (s : State),
    let w := opW x.wide
    let o := s.tile p
    let a := o.dreg d
    let b := o.dreg e
    let put8 (r : Nat) (h c v : Bool) : Tile :=
      { o.land.wr false d r with fl := { c := c, h := h, v := v, n := nOf 8 r, z := zOf r } }
    let ran (t : State) (m : Tile) : Prop := Retires s t p (following s p 2 x) m
    let adjust (a : Nat) (h c : Bool) : Nat × Bool × Bool :=
      let low := h || decide (9 < a % 16)
      let high := c || decide (0x99 < a)
      ((a + (if low then 6 else 0) + if high then 0x60 else 0) % 256, low, high)
    let reduce (a : Nat) (h c : Bool) : Nat × Bool × Bool :=
      ((a + 256 - (if h then 6 else 0) + 256 - if c then 0x60 else 0) % 256, h, c)
    let add1 (a b : Nat) (c : Bool) : Nat × Bool × Bool :=
      adjust ((a + b + b2n c) % 256) (decide (16 ≤ a % 16 + b % 16 + b2n c)) (decide (256 ≤ a + b + b2n c))
    let sub1 (a b : Nat) (c : Bool) : Nat × Bool × Bool :=
      reduce ((a + 512 - b - b2n c) % 256) (decide (a % 16 < b % 16 + b2n c)) (decide (a < b + b2n c))
    let both (f : Nat → Nat → Bool → Nat × Bool × Bool) : Nat × Bool × Bool :=
      let lo := f a b o.fl.c
      if x.wide then
        let hi := f (o.dreg (d + 1)) (o.dreg (e + 1)) lo.2.2
        (lo.1 + 256 * hi.1, hi.2)
      else lo
    let put (r : Nat × Bool × Bool) : Tile :=
      { o.land.wr x.wide d r.1 with fl := { c := r.2.2, h := r.2.1, v := false, n := nOf w r.1, z := zOf r.1 } }
    let adj := if m then reduce a o.fl.h o.fl.c else adjust a o.fl.h o.fl.c
    let hold := o.fl.h
    (Executes s p 2 x → evenIf x.wide [d, e] →
      (∃ t, exec (.dadd p x d e) s = .next t ∧ ran t (put (both add1))) ∧
      (∃ t, exec (.dsub p x d e) s = .next t ∧ ran t (put (both sub1)))) ∧
    (x.wide = false → Executes s p 2 x →
      (∃ t, exec (.dadj p x d m) s = .next t ∧ ran t (put8 adj.1 adj.2.1 adj.2.2 false)) ∧
      (∃ t, exec (.dshl p x d e) s = .next t ∧
        ran t (put8 (a % 16 * 16 + b / 16) hold (decide (a / 16 ≠ 0)) false)) ∧
      (∃ t, exec (.dshr p x d e) s = .next t ∧
        ran t (put8 (b % 16 * 16 + a / 16) hold (decide (a % 16 ≠ 0)) false)) ∧
      (∃ t, exec (.b2d p x d e) s = .next t ∧
        ran t (put8 (b % 100 / 10 * 16 + b % 10) hold (decide (100 ≤ b)) false)) ∧
      (∃ t, exec (.d2b p x d e) s = .next t ∧
        ran t (put8 (10 * (b / 16) + b % 16) hold false (decide (9 < b / 16 ∨ 9 < b % 16)))))) ∧
  (let bcd (n : Nat) : Nat := n / 10 * 16 + n % 10
  ∀ (m n : Nat) (c : Bool), m < 100 → n < 100 →
    (dadd8 (bcd m) (bcd n) c).1 = bcd ((m + n + b2n c) % 100) ∧
    (dadd8 (bcd m) (bcd n) c).2.2 = decide (100 ≤ m + n + b2n c) ∧
    (dsub8 (bcd m) (bcd n) c).1 = bcd ((m + 200 - n - b2n c) % 100) ∧
    (dsub8 (bcd m) (bcd n) c).2.2 = decide (m < n + b2n c))

/-! ### System instructions -/

/-- R75 to R78, R134, R135, R163: GETS and SETS, and the system registers that have rows of their own: the snapshot of
SYS_PCNT0, the shadow write of SYS_DTDAT2, the commit of SYS_DTCMT and the ring registers. What a GETS returns
after a SETS of the same system register by the same tile; the registers that software cannot write keep every
field. Where the rules leave a point open, the clause states the model's choice (log 7). -/
def Obligations.SystemRegisters : Prop :=
  (∀ (p : Nat) (x : Pfx) (d : Fin 16) (sys : Byte) (s : State), x.wide = false → Executes s p 3 x →
    let o := s.tile p
    let l := o.land
    let v := o.d[d]
    let ran (t : State) (m : Tile) : Prop := Retires s t p (following s p 3 x) m
    let toD (m : Tile) (v : Byte) : Tile := { m with d := m.d.set d v }
    let low (a : Nat) : Nat := (tget 0 a o.staged).toNat
    let op : W24 := BitVec.ofNat 24 (low 0x31 + 256 * low 0x32 + 65536 * v.toNat)
    let committed (m : Tile) : Prop :=
      m = { l with active := m.active, dtValid := m.dtValid } ∧
        (v.toNat < 0x80 ∨ 0x8F < v.toNat → m = l) ∧
        (0x80 ≤ v.toNat → v.toNat ≤ 0x8F →
          let e := v.toNat - 0x80
          tfind? e m.active = checkEntry (o.shadowOf e) ∧
            m.dtValid.getLsbD e = (checkEntry (o.shadowOf e)).isSome ∧
            ∀ k < 16, k ≠ e → tfind? k m.active = tfind? k o.active ∧ m.dtValid.getLsbD k = o.dtValid.getLsbD k)
    (∃ t, exec (.gets p x d sys) s = .next t ∧
      ran t (toD (if sys = 0x20 then { l with pcntSnap := o.pcnt } else l) (s.sysRead p o sys.toNat))) ∧
    (∃ t, exec (.sets p x d sys) s = .next t ∧ ran t (s.sysWrite p l sys.toNat v)) ∧
    (∃ t, exec (.sysPcnt0 p x d) s = .next t ∧
      ran t (toD { l with pcntSnap := o.pcnt } (o.pcnt.setWidth 8))) ∧
    (∃ t, exec (.sysDtdat2 p x d) s = .next t ∧
      ran t { l with shadow := tput o.dtsel.toNat op o.shadow }) ∧
    (∃ t m, exec (.sysDtcmt p x d) s = .next t ∧ ran t m ∧ committed m) ∧
    (∃ t, exec (.sysRxsize p x true d) s = .next t ∧
      ran t { l with rxBase := BitVec.ofNat 16 (256 * v.toNat), rxHead := 0, rxTail := 0 }) ∧
    (∃ t, exec (.sysRxsize p x false d) s = .next t ∧
      ran t { l with rxLog := if 8 ≤ v.toNat % 16 ∧ v.toNat % 16 ≤ 14 then v.toNat % 16 else 0
                     rxHead := 0, rxTail := 0 })) ∧
  (∀ (s : State) (p : Nat) (m : Tile) (v : Byte),
    let back (a : Nat) : Byte := s.sysRead p (s.sysWrite p m a v) a
    back 0x02 = v ∧ back 0x03 = v ||| 0x20 ∧ back 0x09 = v ∧ back 0x0B = v ∧ back 0x0C = v ∧
    back 0x0D = v &&& 0x1F ∧ back 0x19 = v ∧ back 0x1E = v ∧ back 0x27 = v ∧ back 0x28 = v &&& 0xC0 ∧
    back 0x2D = v &&& 0x07 ∧ back 0x2F = v ∧ back 0x30 = v ∧ back 0x33 = v ∧
    (back 0x06).getLsbD 7 = v.getLsbD 7 ∧ (back 0x2C).getLsbD 7 = v.getLsbD 7 ∧
    (∀ a ∈ [0x04, 0x05, 0x07, 0x0E, 0x0F, 0x10, 0x11, 0x12, 0x13, 0x14, 0x15, 0x16, 0x17, 0x1B, 0x1C, 0x20,
      0x21, 0x22, 0x23, 0x35, 0x36], s.sysWrite p m a v = m))

/-- R83, R84, R85, R67, R87: RETE, TRAP, FENCE and SLEEP. -/
def Obligations.ReturnTrapFenceSleep : Prop :=
  ∀ (p : Nat) (x : Pfx) (imm : Byte) (s : State), x.wide = false →
    let o := s.tile p
    let l := o.land
    let up (m : Tile) : Prop := m.pend &&& m.en ≠ 0
    (Executes s p 1 x → o.inh = true →
      (up l → ∃ t, exec (.rete p x) s = .next t ∧ Retires s t p o.vec { l with act := 0, chain := true }) ∧
      (¬ up l → ∃ t, exec (.rete p x) s = .next t ∧
        Retires s t p o.spc
          { l with act := 0, fl := Flags.ofByte o.sst, evOn := true, inh := false, chain := false })) ∧
    (Executes s p 1 x → o.inh = false → exec (.rete p x) s = .next (trapped s p 9 0 l o.pc)) ∧
    (Executes s p 2 x →
      ∃ u, Retires s u p (following s p 2 x) l ∧
        (¬ (o.inh = true ∧ o.evOn = false) →
          exec (.trap p x imm) s = .next (trapped u p 7 imm (u.tile p) (following s p 2 x))) ∧
        (o.inh = true ∧ o.evOn = false →
          ∃ t, exec (.trap p x imm) s = .next t ∧ (t.tile p).dbl = true ∧ (t.tile p).run = .halted ∧
            (t.tile p).cause = 7 ∧ (t.tile p).trapArg = imm)) ∧
    (Executes s p 1 x →
      (∃ t, exec (.fence p x) s = .next t ∧ Retires s t p (following s p 1 x) l ∧ (t.tile p).prefetch = []) ∧
      (∃ t, exec (.sleep p x) s = .next t ∧
        ((up (t.tile p) ∧ Retires s t p (following s p 1 x) l) ∨
          (¬ up (t.tile p) ∧ Retires s t p (following s p 1 x) { l with run := .sleeping } ∧
            (t.tile p).prefetch = []))))

/-- R112, R157, R158: SEND with 16 requests outstanding clears its guard and changes nothing else; otherwise STATUS
reads 0xFF, the guard is set, the request is held under a tag that is neither outstanding nor resting and its
message enters the network. Where the rules leave a point open, the clause states the model's choice (log 12, 16). -/
def Obligations.SendInstruction : Prop :=
  ∀ (p : Nat) (x : Pfx) (b g : Fin 8) (s : State), x.wide = false → Executes s p 2 x →
    let o := s.tile p
    let a := o.p[b]
    let bytes := o.bytes a 16
    let op := leAt bytes 0 1 % 4
    let len := leAt bytes 2 2
    let at_ := leAt bytes 4 6
    let loc := leAt bytes 10 2
    o.anyBad a 16 = false → descBad bytes = false →
    (16 ≤ o.sends.length →
      ∃ t, exec (.send p x b g) s = .next t ∧ Retires s t p (following s p 2 x) (guardSet o.land g false)) ∧
    (o.sends.length < 16 → o.sends.length + o.resting.length < 256 → s.silentTile p = false →
      s.roleOf p = .single → (op ≠ 1 → o.anyBad (BitVec.ofNat 16 loc) len = false) →
      ∃ t q, exec (.send p x b g) s = .next t ∧
        t.tile p = { booked (t.tile p) (guardSet o.land g true) with
          sends := o.sends ++ [q], mem := memPut 0 (a + 1).toNat 0xFF o.mem, nextTag := (q.tag + 1) % 256 } ∧
        (t.tile p).pc = following s p 2 x ∧
        (∀ r ∈ o.sends, r.tag ≠ q.tag) ∧ tfind? q.tag o.resting = none ∧
        q = { tag := q.tag, op := op, desc := a, len := len, target := at_, loc := BitVec.ofNat 16 loc
              notify := bitAt (leAt bytes 0 1) 7, resends := 0, since := s.now, final := none } ∧
        t = { s.setTile p (t.tile p) with flight := s.flight ++
          [{ kind := if op = 0 then .write else if op = 1 then .read else .msg, len := len
             srcId := s.ownerOf p, srcPhys := p, srcDev := s.device, tag := q.tag
             cap := s.capOf (s.ownerOf p), chk := false, dev := at_ / 2 ^ 34, space := at_ / 2 ^ 32 % 4
             addr := at_ % 2 ^ 32
             data := if op = 1 then [] else (t.tile p).bytes (BitVec.ofNat 16 loc) len, badCrc := false
             phys := s.directTo p (at_ / 2 ^ 34) (at_ / 2 ^ 32 % 4) (at_ % 2 ^ 32) }] })

/-- R111, R113, R114, R117, R118, R154, R173 to R175, R194: a gate operation of an unfenced tile that serves a logical tile
and is in no duplex pair, with no request of its own still on its way to the same crossbar port (R154), retires, takes
the next operation number and acts as the queue's or dispatcher's own row does; then its guard and registers take the record; a TREADY beaten by a cancel of its slot takes 0; an operation that is
never applied and draws no answer changes the guard, line 12 and OPNUM only. QPUSH and QPOP trap with cause 0x1 for a register or a high queue bit that the encoding
forbids, and with cause 0xA for a queue number from 304 to 511; with INH set and EV_ON clear that is a double trap.
Where the rules leave a point open, the clause states the model's choice (log 11, 16). -/
def Obligations.GateInstructions : Prop :=
  ∀ (p : Nat) (x : Pfx) (d : Fin 16) (q : W16) (g : Fin 8) (r : Reply) (s : State), x.wide = false →
    s.silentTile p = false → s.roleOf p = .single →
    let o := s.tile p
    let l := o.land
    let n := o.opnum.toNat
    let began (len : Nat) (u : State) : Prop :=
      ∃ w, Retires s w p (following s p len x) l ∧ u = w.setTile p { w.tile p with opnum := o.opnum + 1 }
    let c := if (o.dreg (d + 1)) = 0xFF then s.ownerOf p / 64 else o.dreg (d + 1)
    let bench := 256 ≤ q.toNat ∧ q.toNat < 272
    let entry := w32 (o.dreg d + 256 * o.dreg (d + 1) + 65536 * o.dreg (d + 2) + 16777216 * o.dreg (d + 3))
    let guarded (v : State) (b : Bool) : State := v.setTile p (guardSet (v.tile p) g b)
    let took (y : Instr) (code : Nat) : Prop :=
      if o.inh = true ∧ o.evOn = false then
        ∃ t, exec y s = .next t ∧ (t.tile p).dbl = true ∧ (t.tile p).run = .halted ∧ (t.tile p).cause = code
      else exec y s = .next (trapped s p code 0 o.land o.pc)
    let lost (m : Tile) : Tile := { guardSet m g false with pend := m.pend ||| 0x1000 }
    let clear (a : Nat) : Prop := s.gateHolds p a .good = false
    let unheard (u : State) (y : Instr) (m : Tile) : Prop :=
      exec y s = .next (u.setTile p { m with pend := m.pend ||| 0x1000 })
    (q.toNat < 304 → d.val % 4 = 0 → Executes s p 4 x → clear (queueAddr q.toNat) →
      ∃ u v t, began 4 u ∧ exec (.queuePush q.toNat entry (.gate p n)) u = .next v ∧
        exec (.qpush p x d q g .good) s = .next t ∧
        (¬ bench → t = guarded v (decide (q.toNat < 256) && (s.queue q.toNat).hasRoom)) ∧
        (bench → t = v.setTile p (lost (v.tile p)))) ∧
    (q.toNat < 304 → d.val ≤ 11 → Executes s p 4 x → clear (queueAddr q.toNat) →
      ∃ u v t, began 4 u ∧ exec (.queuePop q.toNat (.gate p n)) u = .next v ∧
        exec (.qpop p x d q g .good) s = .next t ∧
        let r := ((s.queue q.toNat).pop s.now).2
        let puts (m : Tile) (tag e : Nat) : Tile := withD (withD (withD (withD (withD m d tag) (d + 1) e) (d + 2)
          (e / 256)) (d + 3) (e / 65536)) (d + 4) (e / 16777216)
        (¬ bench →
          t = v.setTile p (guardSet (puts (v.tile p) ((r.map fun e => e.1).getD 0)
            ((r.map fun e => e.2.toNat).getD 0)) g r.isSome)) ∧
        (bench → t = v.setTile p (lost (puts (v.tile p) 0 0)))) ∧
    (d.val % 2 = 0 → Executes s p 2 x → c < 16 → (o.dreg (d + 1) = 0xFF → (s.identOf p).isSome) →
      clear (dispAddr c) →
      (∃ u v t, began 2 u ∧ exec (.dispReady c (o.dreg d) ⟨.gate p n, false⟩) u = .next v ∧
        exec (.tready p x d g .good) s = .next t ∧ t = guarded v ((s.disp c).ready (o.dreg d)).2) ∧
      (∃ u v t, began 2 u ∧ exec (.dispReady c (o.dreg d) ⟨.gate p n, true⟩) u = .next v ∧
        exec (.tready p x d g .beaten) s = .next t ∧ t = guarded v false) ∧
      (∃ u v t, began 2 u ∧ exec (.dispCancel c (o.dreg d) (.gate p n) false) u = .next v ∧
        exec (.tcancel p x d g .good) s = .next t ∧
        t = guarded v ((s.disp c).cancel (o.dreg d) s.now).2.1)) ∧
    (Executes s p 1 x → o.taskRun = true → s.ownerOf p / 64 < 16 → clear (dispAddr (s.ownerOf p / 64)) →
      ∃ u v t, began 1 u ∧ exec (.dispTdone (s.ownerOf p / 64) p n) u = .next v ∧
        exec (.tdone p x .good) s = .next t ∧
        t = v.setTile p { v.tile p with taskRun := false, task := 0xFF }) ∧
    ((q.toNat < 304 → d.val % 4 = 0 → Executes s p 4 x → clear (queueAddr q.toNat) →
        ∃ u, began 4 u ∧ unheard u (.qpush p x d q g (.lost false [])) (guardSet (u.tile p) g false)) ∧
      (d.val % 2 = 0 → Executes s p 2 x → c < 16 → (o.dreg (d + 1) = 0xFF → (s.identOf p).isSome) →
        clear (dispAddr c) → ∃ u, began 2 u ∧
          unheard u (.tready p x d g (.lost false [])) (guardSet (u.tile p) g false) ∧
          unheard u (.tcancel p x d g (.lost false [])) (guardSet (u.tile p) g false)) ∧
      (Executes s p 1 x → o.taskRun = true → s.ownerOf p / 64 < 16 → clear (dispAddr (s.ownerOf p / 64)) →
        ∃ u, began 1 u ∧ unheard u (.tdone p x (.lost false [])) (u.tile p))) ∧
    (p < 1088 → s.ready p = true → o.fetchBad (pfxLen x + 4) = false →
      (512 ≤ q.toNat ∨ d.val % 4 ≠ 0 → took (.qpush p x d q g r) 1) ∧
      (512 ≤ q.toNat ∨ 11 < d.val → took (.qpop p x d q g r) 1)) ∧
    (Executes s p 4 x → 304 ≤ q.toNat → q.toNat < 512 →
      (d.val % 4 = 0 → took (.qpush p x d q g r) 0xA) ∧ (d.val ≤ 11 → took (.qpop p x d q g r) 0xA))

/-- R111, R115, R116, R491: TIME stores ten bytes and its guard says whether device time is known; a lost reply clears
the guard and sets line 12, and the requests that failed are reported; STIM sends a trace packet of consecutive registers while its port is enabled. Where
the rules leave a point open, the clause states the model's choice (log 11). -/
def Obligations.TimeAndStim : Prop :=
  ∀ (p : Nat) (x : Pfx) (b g : Fin 8) (port : Fin 32) (d : Fin 16) (n : Fin 8) (done : Bool) (fails : List ReqFail)
    (s : State), x.wide = false →
    let o := s.tile p
    let l := o.land
    let bs := leBytes s.time.ns 4 ++ leBytes s.time.sec 6
    (Executes s p 2 x →
      (Memory.wf 0 o.mem = true → o.storeBad o.p[b] 10 = false → ∀ y ∈ [Reply.good, .found fails],
        ∃ t m, exec (.time p x b g y) s = .next t ∧ Retires s t p (following s p 2 x) m ∧
          m = { guardSet l g (!s.time.unknown) with mem := m.mem, bad := m.bad } ∧
          ∀ a : W16, m.byte a = ((bs[(a - o.p[b]).toNat]?).getD (o.byte a))) ∧
      ∃ u, Retires s u p (following s p 2 x) { guardSet l g false with pend := l.pend ||| 0x1000 } ∧
        exec (.time p x b g .beaten) s = .next u ∧
        ∀ y ∈ [Reply.lost done fails, .missed fails],
          exec (.time p x b g y) s = .next (fails.foldl (fun v f => match f with
            | .late => v.report 2 (0x8000 + unitPort 0x10030000) 0xFFFF 0 0
            | .crc => v.report 7 p (v.ownerOf p) 0 0x88
            | .refused => v) u)) ∧
    (Executes s p 3 x → d.val + n.val ≤ 15 →
      let on := bitq s.dbgBlock.stimEn port.val && s.dbgBlock.traceCtl.getLsbD 0
      ∃ u, Retires s u p (following s p 3 x) l ∧
        exec (.stim p x port d n) s = .next (if on then
          u.trace 1 ((u.identOf p).getD 0 * 32 + port.val)
            ((List.range (n.val + 1)).map fun i => o.d[Fin.ofNat 16 (d.val + i)]) else u))

/-- R121 to R133: a custom instruction runs the micro-ops of its active entry and, if no micro-op meets an
uncorrectable error, writes the registers and the memory that they leave, also where remote accesses are served
between its micro-ops; an entry that is not active traps with cause 0x8 and its number. Where the rules leave a point open, the clause states the model's choice (log 30). -/
def Obligations.CustomInstruction : Prop :=
  ∀ (p : Nat) (x : Pfx) (c : CustomArgs) (mid : List (Nat × Msg)) (s : State), x.wide = false → c.mode.val < 8 →
    let o := s.tile p
    let f := custFields c
    let len := custLen c.mode.val
    let temps : Vector W16 4 := Vector.ofFn fun i => Config.freeWord (s.free + i.val)
    Executes s p len x →
    (∀ us k, tfind? c.entry.val o.active = some us → custOdd f us = false →
      uRun f us.length us { m := o, n := o.land, t := temps, due := none } = .ok k →
      ∃ u, Retires s u p (following s p len x) k.finish ∧
        exec (.customInstruction p x ⟨c, []⟩) s = .next { u with free := s.free + 4 }) ∧
    (∀ us v k, tfind? c.entry.val o.active = some us → custOdd f us = false → mid ≠ [] →
      uRunMid f p mid us.length 0 us s { m := o, n := o.land, t := temps, due := none } = (v, .ok k) →
      ∃ u, Retires s u p (following s p len x) k.finish ∧
        exec (.customInstruction p x ⟨c, mid⟩) s = .next { v.setTile p (u.tile p) with free := v.free + 4 }) ∧
    (tfind? c.entry.val o.active = none → ¬ (o.inh = true ∧ o.evOn = false) →
      exec (.customInstruction p x ⟨c, mid⟩) s =
        .next (trapped s p 8 (BitVec.ofNat 8 c.entry.val) o.land o.pc))

/-- R125 to R130: what each micro-op other than a store does to the registers of an entry without a pending
LD. -/
def Obligations.MicroOperations : Prop :=
  ∀ (c : CustomArgs) (u : W24) (k : UCtx), k.due = none →
    let w := opW (uW u)
    let a := k.read c (uW u) (uX u)
    let b := k.read c (uW u) (uY u)
    let f := k.m.fl
    let dst := uReg c (uX u)
    let sets := bitAt (uF u) 6
    let does (v : Nat) (fl : Flags) : Prop :=
      uStep c u k = .ok ((if sets then (k.write dst (uW u) v).setFl fl else k.write dst (uW u) v), 0)
    (uOp u = 0x00 → uStep c u k = .ok (k.write dst (uW u) b, 0)) ∧
    (uOp u = 0x01 → does ((a + b) % 2 ^ w) (sumFlags w a b 0)) ∧
    (uOp u = 0x02 → does ((a + b + b2n f.c) % 2 ^ w) (sumFlags w a b (b2n f.c))) ∧
    (uOp u = 0x03 → does (diff w a b 0) (diffFlags w a b 0)) ∧
    (uOp u = 0x04 → does (diff w a b (b2n f.c)) (diffFlags w a b (b2n f.c))) ∧
    (uOp u = 0x05 → does (a &&& b) (logicFlags w (a &&& b) f)) ∧
    (uOp u = 0x06 → does (a ||| b) (logicFlags w (a ||| b) f)) ∧
    (uOp u = 0x07 → does (a ^^^ b) (logicFlags w (a ^^^ b) f)) ∧
    (uOp u = 0x0D → uStep c u k = .ok (k.write dst (uW u) (uImm u % (2 ^ w : Nat)).toNat, 0)) ∧
    (uOp u = 0x0E → uStep c u k = .ok (k.write dst (uW u) ((a + uImm u) % (2 ^ w : Nat)).toNat, 0)) ∧
    (uOp u = 0x11 →
      ∃ v, (v = true ↔ compares (Fin.ofNat 8 (uF u / 16)) w a b) ∧
        uStep c u k = .ok ({ k with
          m := guardSet k.m (if bitAt (uF u) 3 then c.gf else Fin.ofNat 8 (uF u)) v
          n := guardSet k.n (if bitAt (uF u) 3 then c.gf else Fin.ofNat 8 (uF u)) v }, 0)) ∧
    (uOp u = 0x12 →
      let g := guardIs k.m (if bitAt (uX u) 1 then c.gf else Fin.ofNat 8 (uF u))
      uStep c u k = .ok (k, if g = !bitAt (uX u) 0 then uF u / 8 else 0))

/-- R81, R87, R78, R95: event entry and the wake of a sleeping tile, the pace-compare match, and bytes that the
decoder refuses. Where the rules leave a point open, the clause states the model's choice (log 8). -/
def Obligations.TileHappenings : Prop :=
  ∀ (p : Nat) (bs : List Byte) (code : Nat) (s : State), p < 1088 → s.dbgBlock.frost = false → s.running = true →
    let o := s.tile p
    let entry (m : Tile) : Tile :=
      { m with spc := m.pc, sst := m.fl.toByte, evOn := false, inh := true, pc := m.vec, prefetch := [] }
    (o.run = .running → o.wb = none → o.waiting = none → p ∉ s.dbgBlock.haltDue → o.evOn = true →
      o.pend &&& o.en ≠ 0 → exec (.eventEntry p) s = .next (s.setTile p (entry o))) ∧
    (o.run = .sleeping → o.pend &&& o.en ≠ 0 →
      exec (.tileWake p) s = .next (s.setTile p
        (if o.evOn then entry { o with run := .running } else { o with run := .running }))) ∧
    (o.pcHit = true →
      exec (.paceCompareMatch p) s = .next (s.setTile p { o with pend := o.pend ||| 0x0800, pcHit := false })) ∧
    (tileDecode p bs = .trap code → s.ready p = true → o.fetchBad (trapLen p bs) = false →
      ¬ (o.inh = true ∧ o.evOn = false) →
      exec (.mov p (.decodeTrap bs)) s = .next (trapped s p code 0 o.land o.pc))

/-- R60, R93 to R95, R103, R104, R114, R122: forms that trap at decode whether or not the guard is met (an odd
register where a pair is used, a wide prefix before an opcode without a wide form, an operand that the format
forbids), and instructions whose guard is not met, which retire and do nothing else. -/
def Obligations.TrappingAndSkippedForms : Prop :=
  ∀ (p : Nat) (x : Pfx) (d e c : Fin 16) (a b g : Fin 8) (v : W16) (k : Byte) (n : Fin 32) (i : Bool) (r : Reply)
    (u : CustomArgs) (mid : List (Nat × Msg)) (s : State), p < 1088 → s.ready p = true →
    let o := s.tile p
    (∀ len < 6, o.fetchBad (pfxLen x + len) = false) →
    let traps (code : Nat) (y : Instr) : Prop := exec y s = .next (trapped s p code 0 o.land o.pc)
    let skips (len : Nat) (y : Instr) : Prop :=
      ∃ t, exec y s = .next t ∧ Retires s t p (following s p len x) o.land
    let isOdd (q : Fin 16) : Prop := q.val % 2 = 1
    let w := b2n x.wide
    let pairs : List Instr :=
      [.mov p (.copy x d e), .add p x d e, .adc p x d e, .sub p x d e, .sbc p x d e, .and p x d e, .or p x d e,
        .xor p x d e, .dadd p x d e, .dsub p x d e]
    let ones : List Instr := [.not p x d, .neg p x d, .inc p x d, .dec p x d, .swap p x d]
    let shifts : List Instr :=
      [.shl p x d c, .shr p x d c, .asr p x d c, .rol p x d c, .ror p x d c, .rlc p x d c, .rrc p x d c]
    let imms2 : List Instr := [.movi p x d v, .addi p x d v]
    let imms3 : List Instr := [.subi p x d v, .adci p x d v, .sbci p x d v, .andi p x d v, .ori p x d v,
      .xori p x d v, .cmpgi p x a d g v]
    let narrow1 : List Instr := [.ret p x, .nop p x, .tdone p x r, .sleep p x, .rete p x, .fence p x]
    let narrow2 : List Instr := [.movp p x a b, .addpb p x a d, .addip p x a k, .jmpp p x b, .callp p x b,
      .dadj p x d i, .dshl p x d e, .dshr p x d e, .b2d p x d e, .d2b p x d e, .bset p x d b, .bclr p x d b,
      .btgl p x d b, .gtod p x d, .dtog p x d, .send p x b g, .time p x b g r, .trap p x k]
    let narrow3 : List Instr := [.movip p x a v, .jmp p x v, .call p x v, .btst p x d b i g, .gand p x g a b i,
      .gor p x g a b i, .gxor p x g a b i, .gmov p x g a, .stim p x n d a, .gets p x d k, .sets p x d k,
      .sysPcnt0 p x d, .sysDtdat2 p x d, .sysDtcmt p x d, .sysRxsize p x i d]
    let evenD : List Instr := [.mul p x d e, .muls p x d e, .movpw p x a d, .movwp p x d b, .addpw p x a d,
      .tready p x d g r, .tcancel p x d g r]
    let queue : List Instr := [.qpush p x d v g r, .qpop p x d v g r]
    let short : List Instr := [.bra p x v, .bcc p x a v]
    let disp : List Instr := [.ld p x d b v, .st p x d b v, .ldp p x a b v, .stp p x a b v, .lea p x a b v]
    let words : List Instr := [.ldw p x d b v, .stw p x d b v]
    (¬ (o.inh = true ∧ o.evOn = false) →
      (x.wide = true → isOdd d ∨ isOdd e → (∀ y ∈ pairs, traps 1 y) ∧ traps 1 (.cmpg p x a d e g)) ∧
      (x.wide = true → isOdd d → (∀ y ∈ ones, traps 1 y) ∧ (∀ y ∈ shifts, traps 1 y) ∧
        (∀ y ∈ imms2, traps 1 y) ∧ (∀ y ∈ imms3, traps 1 y) ∧ traps 1 (.djnz p x d k)) ∧
      (isOdd d → ∀ y ∈ words, traps 1 y) ∧
      (x.wide = true → (∀ y ∈ narrow1, traps 2 y) ∧ (∀ y ∈ narrow2, traps 2 y) ∧ (∀ y ∈ narrow3, traps 2 y) ∧
        (∀ y ∈ evenD, traps 2 y) ∧ (∀ y ∈ queue, traps 2 y) ∧ traps 2 (.customInstruction p x ⟨u, mid⟩)) ∧
      (x.wide = false → isOdd d → ∀ y ∈ evenD, traps 1 y) ∧
      (x.wide = false → 8 ≤ c.val → ∀ y ∈ shifts, traps 1 y) ∧
      (x.wide = false → 512 ≤ v.toNat → ∀ y ∈ queue, traps 1 y) ∧
      (x.wide = false → d.val % 4 ≠ 0 → traps 1 (.qpush p x d v g r)) ∧
      (x.wide = false → 11 < d.val → traps 1 (.qpop p x d v g r)) ∧
      (x.wide = false → 8 ≤ u.mode.val →
        traps (if u.entry.val = 15 ∨ u.entry.val = 14 ∧ 14 ≤ u.mode.val then 2 else 1)
          (.customInstruction p x ⟨u, mid⟩))) ∧
    (o.guardMet x = false → ¬ isOdd d → ¬ isOdd e →
      (∀ y ∈ pairs, skips 2 y) ∧ skips 3 (.cmpg p x a d e g) ∧ (∀ y ∈ ones, skips 2 y) ∧
      (∀ y ∈ imms2, skips (2 + w) y) ∧ (∀ y ∈ imms3, skips (3 + w) y) ∧ skips 3 (.djnz p x d k) ∧
      (x.wide = true ∨ c.val < 8 → ∀ y ∈ shifts, skips 2 y) ∧ (∀ y ∈ short, skips (2 + w) y) ∧
      (∀ y ∈ disp, skips (3 + w) y) ∧ (∀ y ∈ words, skips (3 + w) y) ∧
      (x.wide = false → (∀ y ∈ narrow1, skips 1 y) ∧ (∀ y ∈ narrow2, skips 2 y) ∧ (∀ y ∈ narrow3, skips 3 y) ∧
        (∀ y ∈ evenD, skips 2 y) ∧
        (d.val % 4 = 0 → d.val ≤ 11 → v.toNat < 512 → ∀ y ∈ queue, skips 4 y) ∧
        (u.mode.val = 0 → skips 2 (.customInstruction p x ⟨u, mid⟩)) ∧
        (u.mode.val ∈ [1, 2, 5, 7] → skips 3 (.customInstruction p x ⟨u, mid⟩)) ∧
        (u.mode.val ∈ [3, 4, 6] → skips 4 (.customInstruction p x ⟨u, mid⟩))))

/-! ### Queues, dispatchers and the buffer pool -/

/-- R177 to R179, R183 to R188, R225: a push into a queue with room appends the entry to the fill bank, or makes it
the drain bank of an empty queue; a push into a full queue is refused and counted. Tiles push the queues of the
courts, the firmware every queue, and hardware a queue with room; a gate operation leaves its record. An
access by an ID that the owner table does not list does nothing (R16), and one to a bench queue by another than the
firmware ends in error. Where the rules leave a point open, the clause states the model's choice (log 2). -/
def Obligations.QueuePushes : Prop :=
  ∀ (q p n o : Nat) (e : W32) (s : State), q < 304 →
    let may (o : Nat) : Prop := s.reaches (s.whoIs o) (queueReg q 0) 4 true = true
    let v := s.queue q
    let empty := v.fill = [] ∧ v.drain = []
    let room := empty ∨ v.fill.length < 32
    let w : Queue :=
      if empty then
        { v with drain := [e], pushCnt := v.pushCnt + 1, sticky := v.sticky ||| 1, tailStart := some s.now }
      else
        { v with fill := v.fill ++ [e], pushCnt := v.pushCnt + 1
                 sticky := if v.fill.length = 31 then v.sticky ||| 2 else v.sticky }
    let r : Queue := { v with sticky := v.sticky ||| 16, refCnt := min 0xFFFF (v.refCnt + 1) }
    let noted (b : Queue) : State :=
      if q < 256 then
        (s.setQueue q b).fireIf (v.sticky &&& v.en == 0 && b.sticky &&& v.en != 0) (492 + q / 16)
      else if 272 ≤ q then (s.setQueue q b).fireIf (b.sticky &&& ~~~ v.sticky &&& v.en != 0) (q - 48)
      else s.setQueue q b
    let taken : State := if empty ∧ v.line10 = true ∧ v.owner < 1024 then (noted w).setLineL v.owner 10 else noted w
    let recorded (t : State) (res : Byte) : State :=
      t.setQueue q { t.queue q with
        results := tput p { res := res, data := 0, opnum := BitVec.ofNat 16 n } (t.queue q).results }
    (inOwnerTable o = false →
      exec (.queuePush q e (.master o)) s = .next s ∧ exec (.queuePush q e (.hardware o)) s = .next s) ∧
    (q < 256 →
      (room → (s.gated p = true → exec (.queuePush q e (.gate p n)) s = .next (recorded taken 1)) ∧
        (may o → exec (.queuePush q e (.master o)) s = .next taken)) ∧
      (¬ room → (s.gated p = true → exec (.queuePush q e (.gate p n)) s = .next (recorded (noted r) 0)) ∧
        (may o → exec (.queuePush q e (.master o)) s = .next (noted r)))) ∧
    (256 ≤ q →
      (may 0x400 → room → exec (.queuePush q e (.master 0x400)) s = .next taken) ∧
      (may 0x400 → ¬ room → exec (.queuePush q e (.master 0x400)) s = .next (noted r)) ∧
      (o ≠ 0x400 → 272 ≤ q → may o → exec (.queuePush q e (.master o)) s = .next (noted r)) ∧
      (o ≠ 0x400 → q < 272 → s.live = true → s.genuine (s.whoIs o) = true →
        exec (.queuePush q e (.master o)) s = .next (s.writeFails (s.whoIs o))) ∧
      (s.gated p = true →
        exec (.queuePush q e (.gate p n)) s = .next (if 272 ≤ q then recorded (noted r) 0 else s))) ∧
    (room → v.give = false → s.live = true → inOwnerTable o = true →
      exec (.queuePush q e (.hardware o)) s = .next taken) ∧
    (¬ room → exec (.queuePush q e (.hardware o)) s = .next s)

/-- R176, R180 to R185, R188: a pop takes the oldest entry, from the drain bank or else from the fill bank, which
becomes the drain bank when the last entry of a drain bank leaves behind 32 others; FLUSH empties both banks and
keeps the counters; the tail timer sets TAIL once in its interval; the bench queues answer the firmware alone, and
others with 0x82. Where the rules leave a point open, the clause states the model's choice (log 16, 24). -/
def Obligations.QueuePopsAndUpkeep : Prop :=
  ∀ (q p n i tag o : Nat) (s : State), q < 304 →
    let asker := s.askerWho (.access i p tag) s.device
    let mayPop : Prop := s.reaches asker (queueReg q 8) 8 false = true
    let bench := 256 ≤ q ∧ q < 272
    let v := s.queue q
    let d := if v.drain = [] then v.fill else v.drain
    let f := if v.drain = [] then [] else v.fill
    let noted (b : Queue) : State :=
      if q < 256 then
        (s.setQueue q b).fireIf (v.sticky &&& v.en == 0 && b.sticky &&& v.en != 0) (492 + q / 16)
      else if 272 ≤ q then (s.setQueue q b).fireIf (b.sticky &&& ~~~ v.sticky &&& v.en != 0) (q - 48)
      else s.setQueue q b
    let popped (r : List W32) : Queue :=
      if r = [] then
        { v with drain := if f.length = 32 then f else [], fill := if f.length = 32 then [] else f
                 popCnt := v.popCnt + 1, tailStart := some s.now, sticky := v.sticky ||| 4 }
      else { v with drain := r, fill := f, popCnt := v.popCnt + 1, tailStart := some s.now }
    let t := v.popCnt.toNat % 128 * 2 + 1
    let recorded (u : State) (x : Result) : State :=
      u.setQueue q { u.queue q with results := tput p x (u.queue q).results }
    let answered (u : State) (word : Nat) : State :=
      { u with replies := u.replies ++ [{ kind := .done, dstPhys := p, dstId := i, tag := tag
                                          cap := if p < 1088 then s.capOf i else 0, status := 0
                                          data := leBytes word 8, badCrc := false }] }
    let noteRead (u : State) (word : Nat) : State :=
      u.setQueue q { u.queue q with
        lastReads := ⟨i, p, tag, word⟩ :: (u.queue q).lastReads.filter fun r => !(r.srcId == i && r.srcPhys == p) }
    (bench → exec (.queuePop q (.gate p n)) s = .next s ∧
      (i ≠ 0x400 → s.live = true → s.genuine asker = true → exec (.queuePop q (.access i p tag)) s = .next
        { s with replies := s.replies ++ [{ kind := .error, dstPhys := p, dstId := i, tag := tag
                                            cap := if p < 1088 then s.capOf i else 0, status := 0x82
                                            data := [], badCrc := false }] }) ∧
      (o ≠ 0x400 → s.live = true → s.genuine (s.whoIs o) = true →
        exec (.flush o q) s = .next (s.writeFails (s.whoIs o)))) ∧
    (∀ e r, d = e :: r →
      (¬ bench → s.gated p = true → exec (.queuePop q (.gate p n)) s = .next (recorded (noted (popped r))
        { res := BitVec.ofNat 8 t, data := e, opnum := BitVec.ofNat 16 n })) ∧
      (mayPop → storedRead v.lastReads i p tag = none →
        exec (.queuePop q (.access i p tag)) s =
          .next (answered (noteRead (noted (popped r)) (t + 256 * e.toNat)) (t + 256 * e.toNat)))) ∧
    (d = [] →
      (¬ bench → s.gated p = true → exec (.queuePop q (.gate p n)) s =
        .next (recorded (noted v) { res := 0, data := 0, opnum := BitVec.ofNat 16 n })) ∧
      (mayPop → storedRead v.lastReads i p tag = none →
        exec (.queuePop q (.access i p tag)) s = .next (answered (noteRead (noted v) 0) 0))) ∧
    (∀ word, mayPop → storedRead v.lastReads i p tag = some word →
      exec (.queuePop q (.access i p tag)) s = .next (answered s word)) ∧
    (s.reaches (s.whoIs o) (queueReg q 0x10) 4 true = true → exec (.flush o q) s = .next (s.setQueue q { v with fill := [], drain := [] })) ∧
    (∀ t0, s.live = true → v.tailStart = some t0 → v.tailLimit ≠ 0 → v.tailLimit ≤ (s.now - t0) / 200 →
      exec (.queueTailExpiry q) s = .next (noted
        (if v.fill = [] ∧ v.drain = [] then { v with tailStart := none }
         else if v.tailSwap = true ∧ v.drain = [] then
           { v with drain := v.fill, fill := [], sticky := v.sticky ||| 8, tailStart := none }
         else { v with sticky := v.sticky ||| 8, tailStart := none })))

/-- R198 to R201, R176: every POOL_TAKE, POOL_GIVE and POOL_FREE of a master that reaches the pool completes. A take gives the reader the oldest free
buffer while more than the reserve are free, and 0x0000_0000 with EMPTY set otherwise; a repeated read repeats its
outcome; POOL_GIVE and POOL_FREE act for the owner of a current handle only, and a refusal records its cause,
operation, caller and handle. -/
def Obligations.PoolOperations : Prop :=
  ∀ (i p tag m : Nat) (v : W32) (s : State),
    s.reaches (s.askerWho (.access i p tag) s.device) (poolReg 0) 4 false = true →
    s.reaches (s.whoIs m) (poolReg 8) 4 true = true → s.reaches (s.whoIs m) (poolReg 0xC) 4 true = true →
    let l := s.pool
    let free := 2048 - l.fresh + l.freed.length
    let h := v.toNat % 65536
    let b := h % 2048
    let g := h / 2048
    let dest := v.toNat / 65536 % 4096
    let owner := tget 0x4FF b l.owner
    let gen := tget 0 b l.gen
    let twice := owner = 0x4FF ∧ g = (gen + 31) % 32
    let own := ¬ twice ∧ g = gen ∧ owner = m
    let got := l.reserve < free ∨ (0 < free ∧ reserveFree i = true)
    let n := if l.fresh < 2048 then l.fresh else l.freed.headD 0
    let answer (word : Nat) : List Resp := s.replies ++
      [{ kind := .done, dstPhys := p, dstId := i, tag := tag, cap := if p < 1088 then s.capOf i else 0, status := 0
         data := leBytes word 4, badCrc := false }]
    (∃ t, exec (.poolTake (.access i p tag)) s = .next t ∧
      (storedRead l.lastReads i p tag = none →
        t.replies = answer (if got then 2 ^ 31 + tget 0 n l.gen * 2048 + n else 0) ∧
        (got → t.pool.owner = tput n i l.owner ∧ t.pool.freeCount + 1 = free) ∧
        (¬ got → t.pool.err = l.err ||| 8 ∧ t.pool.owner = l.owner ∧ t.pool.freed = l.freed)) ∧
      (∀ word, storedRead l.lastReads i p tag = some word → t = { s with replies := answer word })) ∧
    (∃ t, exec (.poolGive m v) s = .next t ∧ t.pool.gen = l.gen ∧ t.pool.freed = l.freed ∧
      (¬ (own ∧ inOwnerTable dest = true) → t.pool.owner = l.owner)) ∧
    (∃ t, exec (.poolFree m v) s = .next t ∧ (¬ own → t.pool.owner = l.owner)) ∧
    (own → exec (.poolFree m v) s = .next { s with pool := { l with
        owner := tdel b l.owner, gen := tput b ((gen + 1) % 32) l.gen, freed := l.freed ++ [b]
        enginePushed := l.enginePushed.filter (· != b) } }) ∧
    (own → inOwnerTable dest = true →
      exec (.poolGive m v) s = .next { s with pool := { l with owner := tput b dest l.owner } }) ∧
    (¬ own →
      let cause := if twice then 1 else if g ≠ gen then 3 else 2
      ∃ t, exec (.poolFree m v) s = .next t ∧ t.pool.owner = l.owner ∧ t.pool.gen = l.gen ∧
        t.pool.freed = l.freed ∧ t.pool.err = l.err ||| (if cause = 1 then 1 else if cause = 2 then 2 else 4) ∧
        t.pool.offender = w32 (cause * 2 ^ 30 + m % 4096 * 2 ^ 16 + h))

/-- R189 to R197: ready and cancel requests by the slot's state, the start of a Ready slot on the tile that the
dispatcher picks, TDONE, and the expiry of a cancel limit. Where the rules leave a point open, the clause states
the model's choice (log 24, 37). -/
def Obligations.DispatcherOperations : Prop :=
  ∀ (c n p op i tag : Nat) (s : State), c < 16 → n < 256 → s.gated p = true →
    s.reaches (s.askerWho (.access i p tag) s.device) (dispReg c 0x50) 4 true = true →
    s.reaches (s.askerWho (.access i p tag) s.device) (dispReg c 0x54) 4 true = true →
    let d := s.disp c
    let v := d.slot n
    let slotIs (t : State) (w : Slot) : Prop := (t.disp c).slot n = w
    let others (t : State) : Prop := ∀ k ≠ n, (t.disp c).slot k = d.slot k
    let ready := Instr.dispReady c n ⟨.access i p tag, false⟩
    let lost := s.setDisp c { d with discard := min 0xFFFF (d.discard + 1), race := min 0xFFFF (d.race + 1) }
    let told (t : State) (res : Byte) : Prop :=
      tget {} p (t.disp c).results = { res := res, data := 0, opnum := BitVec.ofNat 16 op }
    let cancel := Instr.dispCancel c n (.access i p tag) false
    (v.st = .unset ∨ v.st = .cancelling → exec ready s = .next (s.setDisp c { d with discard := min 0xFFFF (d.discard + 1) })) ∧
    exec (.dispReady c n ⟨.access i p tag, true⟩) s = .next lost ∧
    (∃ t, exec (.dispReady c n ⟨.gate p op, true⟩) s = .next t ∧ told t 0 ∧ (t.disp c).slots = d.slots ∧
      (t.disp c).discard = (lost.disp c).discard ∧ (t.disp c).race = (lost.disp c).race) ∧
    (∃ t, exec (.dispReady c n ⟨.gate p op, false⟩) s = .next t ∧
      told t (if v.st = .unset ∨ v.st = .cancelling then 0 else 1)) ∧
    (∃ t, exec (.dispCancel c n (.gate p op) false) s = .next t ∧ told t (if v.st = .unset then 0 else 1)) ∧
    exec (.dispCancel c n (.access i p tag) true) s = exec cancel lost ∧
    (v.st = .idle → ∃ t, exec ready s = .next t ∧ others t ∧
      slotIs t { v with st := .ready, tile := 0xFF, again := false, readyAt := d.readySeq } ∧
      (t.disp c).readySeq = d.readySeq + 1) ∧
    (v.st = .running → ∃ t, exec ready s = .next t ∧ others t ∧ slotIs t { v with again := true }) ∧
    (v.st = .ready → ∃ t, exec cancel s = .next t ∧ others t ∧
      slotIs t { v with st := .idle, tile := 0xFF, again := false }) ∧
    (v.st = .running → ∃ t, exec cancel s = .next t ∧ others t ∧
      slotIs t { v with st := .cancelling, again := false, cancelAt := s.now, cancelLimit := d.cancelLimit } ∧
      ∀ q, s.physOf (64 * c + v.tile) = some q → (t.tile q).pend = (s.tile q).pend ||| 0x8000) ∧
    (∀ k, s.identOf p = some k → k / 64 = c → d.runs (k % 64) = some n →
      ∃ t, exec (.dispTdone c p op) s = .next t ∧ others t ∧
        slotIs t (if v.st = .running ∧ v.again = true then
          { v with st := .ready, tile := 0xFF, again := false, readyAt := d.readySeq }
          else { v with st := .idle, tile := 0xFF, again := false }) ∧
        tget {} p (t.disp c).results = { res := 1, data := 0, opnum := BitVec.ofNat 16 op }) ∧
    (d.en = true → s.dbgBlock.frost = false → s.running = true →
      ∀ a, s.pick c = some a → a.1 = n → tfind? (64 * c + a.2) s.gates.duplex = none →
        ∀ q, s.physOf (64 * c + a.2) = some q →
          ∃ t, exec (.dispatch c) s = .next t ∧ others t ∧
            slotIs t { v with st := .running, tile := a.2, again := false } ∧ (t.disp c).lastPos = a.2 ∧
            t.tile q = { s.tile q with
              task := BitVec.ofNat 8 n, taskRun := true, pend := (s.tile q).pend ||| 0x0200 }) ∧
    (v.st = .cancelling → v.cancelLimit ≤ (s.now - v.cancelAt) / 200 → s.dbgBlock.frost = false →
      ∀ q, s.physOf (64 * c + v.tile) = some q →
      ∃ t, exec (.cancelLimitExpiry c n) s = .next t ∧ (t.disp c).expired = min 0xFFFF (d.expired + 1) ∧
        (t.tile q).taskRun = false ∧ (t.tile q).pc = 0 ∧ (t.tile q).mem = (s.tile q).mem)

/-! ### The network -/

/-- R146, R147, R150, R154, R160 to R163, R166, R167: a request that is next of its sender and reaches a logical tile
leaves the network and is answered. It goes to the tile that its sender's interface routed it to, or else to the one
that the map now names. WRITE and WRITE_FIXED store their bytes, READ returns them, MSG appends an entry to the receive
ring and sets line 8, EVENT sets one of lines 0 to 7, and the tile's court leaves lull (R44); a fenced tile answers 0x8B
and a stale sender 0x87, and nothing is stored. The answer to an event of the router names its source. Where the rules
leave a point open, the clause states the model's choice (log 12, 33, 99). -/
def Obligations.TileRequests : Prop :=
  ∀ (m : Msg) (s : State), s.nextOf (msgSent m) = true → s.running = true → m.dev = s.device →
    m.space = 0 → m.addr < 2 ^ 26 → m.badCrc = false → m.cut = false →
    let logical := m.addr / 65536 % 1024
    let off : W16 := BitVec.ofNat 16 m.addr
    let answered (u : State) (from_ : Nat) (k : RespKind) (st : Nat) (d : List Byte) : State :=
      { u with
        flight := s.flight.erase (msgSent m)
        replies := s.replies ++ [{ kind := k, dstPhys := m.srcPhys, dstId := m.srcId, tag := m.tag, cap := m.cap
                                   status := st, badCrc := false, hub := m.hub, fromPhys := from_
                                   data := if m.kind = .event ∧ m.srcPhys = 0x7FF ∧ m.srcId = 0x400 then
                                     sliceB m.data 2 2 else d }] }
    let refused (from_ st : Nat) : State := answered s from_ .error st [BitVec.ofNat 8 st, 0, 0, 0]
    let row : Option Instr := match m.kind with
      | .write => some (.write m)
      | .read => some (.read m)
      | .writeFixed => some (.writeFixed m)
      | .msg => some (.msg m)
      | .event => some (.event m)
      | _ => none
    ∀ c, row = some c →
    (m.phys = none → s.physOf logical = none → exec c s = .next (refused 0x7FF 0x8B)) ∧
    ∀ p, m.phys = some p ∨ (m.phys = none ∧ s.physOf logical = some p) →
      let o := s.tile p
      let w := s.wakeCourt (p / 64)
      let dropped (from_ : Nat) : Prop :=
        ∃ t, exec c s = .next t ∧ t.tiles = s.tiles ∧ t.replies = (refused from_ 0x87).replies ∧
          tget 0 (p / 64) t.gates.drops = tget 0 (p / 64) s.gates.drops + 1
      (s.isFenced p = true → m.phys = some p ∨ s.stale m = false → exec c s = .next (refused p 0x8B)) ∧
      (m.phys = none → s.stale m = true → dropped 0x7FF) ∧
      (m.phys = some p → s.isFenced p = false → m.chk = false → s.stale m = true → dropped p) ∧
      (s.isFenced p = false → s.stale m = false → tfind? logical s.gates.duplex = none → o.bad = [] →
        Memory.wf 0 o.mem = true → m.data.length ≤ 2048 →
        (m.kind = .write →
          ∃ t, exec c s = .next t ∧ t = answered (w.setTile p (t.tile p)) p .done 0 [] ∧
            t.tile p = { o with mem := (t.tile p).mem } ∧
            ∀ a : W16, (t.tile p).byte a = (m.data[(a - off).toNat]?).getD (o.byte a)) ∧
        (m.kind = .writeFixed →
          ∃ t, exec c s = .next t ∧ t = answered (w.setTile p (t.tile p)) p .done 0 [] ∧
            t.tile p = { o with mem := (t.tile p).mem } ∧
            ∀ a : W16,
              let j := (a - off).toNat
              (t.tile p).byte a = if j < 8 ∧ j < m.data.length then
                (m.data[(m.data.length - 1 - j) / 8 * 8 + j]?).getD 0 else o.byte a) ∧
        (m.kind = .read → exec c s = .next (answered w p .done 0 (o.bytes off m.len))) ∧
        (m.kind = .msg → o.rxLog = 0 →
          exec c s = .next (answered w p .error 0x8A [BitVec.ofNat 8 0x8A, 0, 0, 0])) ∧
        (m.kind = .msg → 8 ≤ o.rxLog → o.rxLog ≤ 14 → o.rxHead.toNat < 2 ^ o.rxLog →
          let size := 2 ^ o.rxLog
          let head := o.rxHead.toNat
          let used := (head + size - o.rxTail.toNat % size) % size
          let entry := leBytes (m.srcId % 4096) 2 ++ leBytes m.data.length 2 ++ leBytes (m.srcDev % 16384) 2 ++
            [BitVec.ofNat 8 m.tag, BitVec.ofNat 8 m.cap] ++ m.data
          let need := (entry.length + 7) / 8 * 8
          let pad := if size < head + need then size - head else 0
          (size < used + pad + need + 8 →
            exec c s = .next (answered w p .error 0x89 [BitVec.ofNat 8 0x89, 0, 0, 0])) ∧
          (used + need + 8 ≤ size → head + need ≤ size →
            ∃ t, exec c s = .next t ∧ t.replies = (answered s p .done 0 []).replies ∧
              t.tile p = { o with
                mem := (t.tile p).mem, rxHead := BitVec.ofNat 16 ((head + need) % size)
                pend := o.pend ||| 0x0100 } ∧
              ∀ a : W16, (t.tile p).byte a =
                (entry[(a - (o.rxBase + o.rxHead)).toNat]?).getD (o.byte a))) ∧
        (m.kind = .event →
          ∃ t, exec c s = .next t ∧ t.replies = (answered s p .done 0 []).replies ∧
            t.flight = s.flight.erase (msgSent m) ∧
            t.tile p = { o with pend := o.pend ||| (1 <<< ((m.data.headD 0).toNat % 8)) }))

/-- R21 to R24, R30, R147, R157, R167, R198: a WRITE of port-buffer memory that the windows allow stores its bytes and a
READ returns them; an access that no window allows is answered with its status and has no other effect, but that a
pair's gate keeps the outcome of its primary's action read; a stale sender draws 0x87. Where the rules leave a point
open, the clause states the model's choice (log 12, 83, 84, 99). -/
def Obligations.UnitRequests : Prop :=
  ∀ (m : Msg) (s : State), s.nextOf (msgSent m) = true → s.running = true → m.dev = s.device →
    m.space = 1 → m.badCrc = false → m.cut = false → s.islandRuns m.addr = true →
    let n := if m.kind = .read then m.len else m.data.length
    let answered (u : State) (k : RespKind) (st : Nat) (d : List Byte) : State :=
      { u with
        flight := s.flight.erase (msgSent m)
        replies := s.replies ++ [{ kind := k, dstPhys := m.srcPhys, dstId := m.srcId, tag := m.tag, cap := m.cap
                                   status := st, badCrc := false, hub := m.hub
                                   data := if m.kind = .event ∧ m.srcPhys = 0x7FF ∧ m.srcId = 0x400 then
                                     sliceB m.data 2 2 else d }] }
    let refused (st : Nat) : State := answered s .error st [BitVec.ofNat 8 st, 0, 0, 0]
    let buffer := 0x1000000 ≤ m.addr ∧ m.addr + n ≤ 0x1400000
    (m.kind = .write → s.stale m = true →
      ∃ t, exec (.write m) s = .next t ∧ t.replies = (refused 0x87).replies ∧ t.bufMem = s.bufMem ∧
        tget 0 (unitGate m) t.gates.drops = tget 0 (unitGate m) s.gates.drops + 1) ∧
    (s.stale m = false →
    (m.kind = .read → s.reach (whoOf m) (some m) m.addr n false = 0 → buffer → s.faults.badBuf = [] →
      exec (.read m) s = .next (answered s .done 0 (memRead 0 s.bufMem (m.addr - 0x1000000) m.len))) ∧
    (m.kind = .write → s.reach (whoOf m) (some m) m.addr n true = 0 → buffer → s.faults.badBuf = [] →
      exec (.write m) s = .next (answered
        { s with bufMem := memWrite 0 s.bufMem (m.addr - 0x1000000) m.data } .done 0 [])) ∧
    (m.kind = .read →
      let st := s.reach (whoOf m) (some m) m.addr n false
      st ≠ 0 → exec (.read m) s = .next (
        if isAction m = true ∧ m.srcPhys < 1088 then (refused st).noteOutcome m.srcPhys m.tag (st, []) else refused st)) ∧
    (m.kind = .write → s.reach (whoOf m) (some m) m.addr n true ≠ 0 →
      exec (.write m) s = .next (refused (s.reach (whoOf m) (some m) m.addr n true))) ∧
    (m.kind = .msg → exec (.msg m) s = .next (refused 0x81)) ∧
    (m.kind = .event → exec (.event m) s = .next (refused 0x81)))

/-- R156, R159, R162, R166, R169, R170: a response to an outstanding request of an unfenced tile in no duplex pair
gives the request its final status, or sends it again; SEND_COMPLETION writes the status beside the descriptor and
ends the request, with an entry in the ring where it was asked for; a tag that has rested for 10 µs is free again; an
ABANDON tail ends a worm of which no payload had arrived. Where the rules leave a point open, the clause states the
model's choice (log 12, 89). -/
def Obligations.ResponsesAndCompletion : Prop :=
  ∀ (r : Resp) (m : Msg) (p tag : Nat) (s : State), p < 1088 →
    let o := s.tile p
    let gone : List Resp := s.replies.erase r
    let old (l : Table Nat) : Prop := s.live = true ∧ ∃ e ∈ l, e.1 = tag ∧ 10 ≤ (s.now - e.2) / 200
    let ends (q : SendReq) (st : Nat) (n : Tile) : Tile :=
      { n with sends := o.sends.map fun x => if x.tag = q.tag then { x with final := some st } else x }
    (r.dstPhys = p → r ∈ s.replies → s.isFenced p = false → s.roleOf p = .single →
      r.cap = s.capOf (s.ownerOf p) → r.badCrc = false → s.live = true →
      ∀ q, o.outstanding r.tag = some q →
        (r.kind = .done → q.op = 1 → o.bad = [] → Memory.wf 0 o.mem = true → q.len ≤ 2048 →
          ∃ t, exec (.done r) s = .next t ∧ t = { s.setTile p (t.tile p) with replies := gone } ∧
            t.tile p = ends q 0 { o with mem := (t.tile p).mem } ∧
            ∀ a : W16, (t.tile p).byte a =
              (((r.data.take q.len)[(a - q.loc).toNat]?).getD (o.byte a))) ∧
        (r.kind = .done → q.op % 4 ≠ 1 →
          exec (.done r) s = .next { s.setTile p (ends q 0 o) with replies := gone }) ∧
        (r.kind = .error →
          exec (.error r) s = .next { s.setTile p (ends q r.status o) with replies := gone }) ∧
        (r.kind = .retry → q.resends < 3 → o.bad = [] →
          ∃ t, exec (.retry r) s = .next t ∧ t.replies = gone ∧
            t.tile p = { o with sends := o.sends.map fun x =>
              if x.tag = q.tag then { q with resends := q.resends + 1, since := s.now } else x } ∧
            t.flight = s.flight ++ [s.sendMsg p q]) ∧
        (r.kind = .retry → 3 ≤ q.resends →
          ∃ t, exec (.retry r) s = .next t ∧ t.replies = gone ∧ t.flight = s.flight ∧
            t.tile p = ends q 0x88 o)) ∧
    (∀ q, (o.sends.find? fun x => x.tag == tag && x.final.isSome) = some q →
      ∀ st, q.final = some st → s.running = true →
        let done := { o with
          mem := memPut 0 (q.desc + 1).toNat (BitVec.ofNat 8 st) o.mem
          sends := o.sends.filter fun x => x.tag != q.tag
          resting := if st = 0x85 then o.resting ++ [(q.tag, s.now)] else o.resting
          pend := if st = 0 then o.pend else o.pend ||| 0x1000 }
        (q.notify = false → exec (.sendCompletion p tag) s = .next (s.setTile p done)) ∧
        (q.notify = true → ∃ t, exec (.sendCompletion p tag) s = .next t ∧ (t.tile p).sends = done.sends ∧
          (t.tile p).resting = done.resting ∧ (o.rxLog = 0 → t = s.setTile p done))) ∧
    (old o.resting →
      exec (.tagRestExpiry (.tile p) tag) s = .next (s.setTile p { o with resting := tdel tag o.resting })) ∧
    (∀ e < 16, old (s.dmaE e).resting →
      exec (.tagRestExpiry (.dma e) tag) s =
        .next (s.setDmaE e { s.dmaE e with resting := tdel tag (s.dmaE e).resting })) ∧
    (old s.host.resting →
      exec (.tagRestExpiry .host tag) s =
        .next { s with host := { s.host with resting := tdel tag s.host.resting } }) ∧
    (old s.fabric.hubResting →
      exec (.tagRestExpiry .hub tag) s =
        .next { s with fabric := { s.fabric with hubResting := tdel tag s.fabric.hubResting } }) ∧
    exec (.tagRestExpiry .router tag) s = .next s ∧
    (m ∈ s.flight → s.awaits m = false ∨ m.cut = true → s.live = true →
      exec (.abandon m 0) s = .next { s with flight := s.flight.erase m })

/-! ### DMA -/

/-- R241 to R243, R245, R247, R248, R251 to R253, R255: the owner's RUN, stop and RESET, a write by another master,
one beat of the mover (what has come from the source goes into staging first), and the ends of a descriptor, with the
fetch of the next one. Where the rules leave a point open, the clause states the model's choice (log 21, 85). -/
def Obligations.DmaChannels : Prop :=
  ∀ (ch master n : Nat) (v : W32) (s : State), ch < 128 →
    let writes : Prop := s.reaches (s.whoIs master) (dmaReg ch 0) 4 true = true
    let c := s.chan ch
    let w : Chan := { c with evErr := v.getLsbD 4, prio := v.toNat % 4 }
    let e := ch / 8
    let message (kind : MsgKind) (write : Bool) (full len : Nat) (data : List Byte) : Msg :=
      { kind := kind, len := len, srcId := 0x410 + e, srcPhys := 0x7FF, srcDev := s.device
        tag := ch % 8 + 8 * b2n write + 16 * (n % 16), cap := 0, chk := false
        dev := full / 2 ^ 34, space := full / 2 ^ 32 % 4, addr := full % 2 ^ 32, data := data, badCrc := false }
    let may (full len : Nat) (write : Bool) : Prop := s.dmaReach (s.dmaWho ch) full len write = true
    let fetch (a : Nat) := message .read false a 32 []
    let fetching (x : Chan) (a : Nat) : Chan := { x with
      busy := true, stopping := false, phase := .fetch, cur := a, desc := {}, staging := [], inbox := [], remain := 0
      confirmed := 0, written := 0, failOff := none, endSt := none, ends := false, rd := some ⟨fetch a, 0, 0, s.now⟩
      rseq := (n + 1) % 16 }
    let rests (tags : List Nat) (t : State) : State :=
      t.setDmaE e { s.dmaE e with resting := (s.dmaE e).resting ++ tags.map fun x => (x, s.now) }
    let idled (x : Chan) : Chan := { x with busy := false, stopping := false, phase := .idle }
    (writes → c.owner ≠ master →
      let refused := (s.setChan ch { c with ownErr := true }).fireIf c.evErr (96 + ch)
      (v.getLsbD 31 = true → exec (.dmaRun master ch v) s = .next refused) ∧
      (v.getLsbD 31 = false → exec (.dmaStop master ch v) s = .next refused) ∧
      exec (.dmaReset master ch) s = .next refused) ∧
    (writes → c.owner = master → v.getLsbD 31 = true → v.getLsbD 30 = false → c.busy = false →
      ((s.dmaE e).fenced = true →
        exec (.dmaRun master ch v) s = .next (s.setChan ch { w with err := true, last := 0x92 })) ∧
      ((s.dmaE e).fenced = false → may c.descAddr 32 false → s.dmaSeq ch false = some n →
        exec (.dmaRun master ch v) s = .next ((s.setChan ch (fetching w c.descAddr)).fly (fetch c.descAddr)))) ∧
    (writes → c.owner = master → v.getLsbD 31 = false → v.getLsbD 30 = false →
      exec (.dmaStop master ch v) s = .next (s.setChan ch
        (if c.busy = true ∧ c.stopping = false then { w with stopping := true, ends := c.completed } else w))) ∧
    (s.movesOn ch = true → c.busy = true → c.stopping = true → c.ends = false → c.unacked = [] → c.endSt = none →
      exec (.dmaStopComplete ch) s = .next (((rests (c.rd.toList.map (·.msg.tag)) (s.setChan ch
        { idled c with last := 0x91, stopped := true, staging := [], inbox := [], rd := none })).unpreempt
          ch).fireIf c.evErr (96 + ch))) ∧
    (writes → c.owner = master → c.prio < 4 →
      ∃ t, exec (.dmaReset master ch) s = .next t ∧
        t.chan ch = { idled c with
          last := 0x92, staging := [], inbox := [], rd := none, unacked := [], endSt := none, ends := false
          preempted := false } ∧
        (t.dmaE e).resting =
          (s.dmaE e).resting ++ (c.rd.toList ++ c.unacked).map fun r => (r.msg.tag, s.now)) ∧
    ((s.dmaE e).fenced = false → s.movesOn ch = true →
      (∀ j < 8, (s.chan (8 * e + j)).nextRead = none) → s.moverPick e = some (ch % 8) →
      let k := min 8 (c.desc.len - c.written)
      let full := if c.desc.dstFixed then c.desc.dst else c.desc.dst + c.written
      let m := message (if c.desc.dstFixed then .writeFixed else .write) true full k
        (c.desc.beat s.free c.written (c.staging.take k))
      let beaten (t : State) : Prop :=
        (t.dmaE e).beats = (s.dmaE e).beats + 1 ∧ ((t.dmaE e).turn c.prio).1 = ch % 8
      (c.inbox ≠ [] →
        ∃ t, exec (.dmaBeat e) s = .next t ∧ t.flight = s.flight ∧ beaten t ∧
          t.chan ch = { c with
            preempted := false, staging := c.staging ++ c.inbox.take 8, inbox := c.inbox.drop 8 }) ∧
      (c.inbox = [] → may full k true → s.dmaSeq ch true = some n →
        ∃ t, exec (.dmaBeat e) s = .next t ∧ t.flight = s.flight ++ [m] ∧ beaten t ∧
          t.chan ch = { c with
            preempted := false, staging := c.staging.drop k, written := c.written + k
            unacked := c.unacked ++ [⟨m, c.written, 0, s.now⟩], wseq := (n + 1) % 16 })) ∧
    (s.movesOn ch = true → c.busy = true → c.rd = none → c.unacked = [] → c.stopping = false → c.phase = .move →
      (c.endSt = none → c.written = c.desc.len → c.desc.wb = false → c.desc.nextEn = false →
        exec (.dmaDescriptorComplete ch) s = .next
          (((((s.setChan ch { c with last := 0 }).fireIf c.desc.evt (96 + ch))).setChan ch
            { idled c with last := 0, done := true, ends := false }).unpreempt ch)) ∧
      (c.endSt = none → c.written = c.desc.len → c.desc.wb = false → c.desc.nextEn = true →
        may c.desc.next 32 false → s.dmaSeq ch false = some n →
        ∃ t, exec (.dmaDescriptorComplete ch) s = .next t ∧ t.flight = s.flight ++ [fetch c.desc.next] ∧
          t.chan ch = fetching { c with last := 0 } c.desc.next) ∧
      (∀ st, c.endSt = some st → st ≠ 0 → c.desc.wb = false →
        exec (.dmaDescriptorComplete ch) s = .next
          (((s.setChan ch { idled c with
            last := st, err := true, staging := [], inbox := [], endSt := none, ends := false }).unpreempt ch).fireIf
            c.evErr (96 + ch))) ∧
      (c.endSt = none → c.written = c.desc.len → c.desc.wb = true → may (c.cur + 18) 1 true →
        s.dmaSeq ch true = some n →
        let m := message .write true (c.cur + 18) 1 [0]
        ∃ t, exec (.dmaDescriptorComplete ch) s = .next t ∧ t.flight = s.flight ++ [m] ∧
          (t.chan ch).phase = .writeBack ∧ (t.chan ch).unacked = [⟨m, 0, 0, s.now⟩]))

/-! ### The event router -/

/-- R256 to R258, R260, R261, R263 to R266, R268, R271: a firing is counted and becomes pending where the source has a
target, and a reserved source never fires; a delivery sends what its KIND says and sets ACT until it is confirmed, sent again or dropped; the end of
a hold-off interval and the router's registers: who may write a target, what a refused write records, and that a
release ends a pending delivery. Where the rules leave a point open, the clause states the model's choice (log 36,
86). -/
def Obligations.EventRouter : Prop :=
  (∀ (n : Nat) (s : State), n < 512 → s.running = true →
    let v := s.src n
    let h := s.hold (n / 16)
    let message : Msg :=
      { kind := .event, len := 4, srcId := 0x400, srcPhys := 0x7FF, srcDev := s.device, tag := n % 256, cap := 0
        chk := false, dev := s.device, space := 0
        addr := (if v.act then v.sentTile else v.tile) * 65536
        data := BitVec.ofNat 8 (if v.act then v.sentLine else v.line) :: 0 :: leBytes n 2, badCrc := false }
    let confirmed (u : State) : State :=
      { u with router := { (u.setSrc n { v with act := false, retry := false }).router with
        deliv := s.router.deliv + 1 } }
    (reservedSource n = true → exec (.eventFiring n) s = .next s) ∧
    (reservedSource n = false → ¬ (s.dbgBlock.trigEn = true ∧ s.dbgBlock.trigSrc = n) →
      exec (.eventFiring n) s = .next (s.setSrc n { v with
        fires := v.fires + 1, fired := true, pend := v.pend || decide (v.kind ≠ 0) })) ∧
    (reservedSource n = false → s.dbgBlock.trigEn = true → s.dbgBlock.trigSrc = n → s.dbgBlock.frost = false → s.dbgBlock.wantFrost = [] →
      ∃ t, exec (.eventFiring n) s = .next t ∧ t.dbgBlock.wantFrost = [true]) ∧
    (v.pend = true → v.act = false → h.start = none → (h.us = 0 ∨ s.nextInGroup n = true) →
      s.dbgBlock.traceCtl.getLsbD 1 = false →
      let began : State := (s.setSrc n { v with
        pend := false, act := true, sentAt := s.now, resentAt := s.now, resends := 0, retry := false
        sentKind := v.kind, sentTile := v.tile, sentLine := v.line }).setHold (n / 16)
          { h with last := n % 16, start := if h.us = 0 then none else some s.now }
      exec (.deliveryStart n) s = .next
        (if v.kind = 1 then { began with flight := s.flight ++ [message] }
         else if v.kind = 3 then began.hostVector v.vector else began)) ∧
    (v.act = true →
      (v.sentKind = 1 → ∀ r ∈ s.replies, r.kind = .done → r.dstPhys = 0x7FF → r.dstId = 0x400 →
        r.data = leBytes n 2 →
        ∃ t, exec (.deliveryConfirm n) s = .next t ∧ t.src n = { v with act := false, retry := false } ∧
          t.router.deliv = s.router.deliv + 1) ∧
      (v.sentKind = 2 → s.mgmt.up = true → s.mgmt.restarting = false →
        exec (.deliveryConfirm n) s = .next (confirmed s)) ∧
      (v.sentKind = 3 → exec (.deliveryConfirm n) s = .next (confirmed s)) ∧
      (v.retry = true → 200 ≤ s.now - v.resentAt →
        exec (.deliveryResend n) s = .next { s.setSrc n { v with retry := false, resentAt := s.now, resends := 0 } with
          flight := s.flight ++ [message] }) ∧
      (v.sentKind = 1 → 1000000 ≤ s.now - v.sentAt → n ≠ 17 →
        ∃ t, exec (.deliveryTimeout n) s = .next t ∧ t.src n = { v with act := false, retry := false } ∧
          t.router.lost = min 0xFFFF (s.router.lost + 1) ∧ t.router.err = s.router.err ||| 4))) ∧
  (∀ (n g w master : Nat) (v : W32) (s : State), n < 512 → g < 32 → w < 16 →
    let writes (a : Nat) : Prop := s.reaches (s.whoIs master) a 4 true = true
    let x := s.src n
    let h := s.hold g
    let kind := v.toNat / 2 ^ 30
    let open_ := if n < 32 ∨ (80 ≤ n ∧ n < 96) then master = 0x400
      else if 508 ≤ n then master = 0x400 ∨ master = 0x403 else True
    let owns := x.owner = 0x4FF ∨ x.owner = master ∨ master = 0x400
    let tile := v.toNat / 2 ^ 16 % 1024
    let line := v.toNat / 256 % 8
    let vector := v.toNat % 64
    let wellFormed := v.toNat = kind * 2 ^ 30 + tile * 2 ^ 16 + line * 256 + vector ∧
      (kind ≠ 1 → tile = 0 ∧ line = 0) ∧ (kind ≠ 3 → vector = 0)
    (∀ t0, h.start = some t0 → h.us ≤ (s.now - t0) / 200 → s.running = true →
      exec (.holdIntervalEnd g) s = .next (s.setHold g { h with start := none })) ∧
    (writes (0x10021000 + 8 * n) → open_ → owns → wellFormed →
      exec (.evrTgt master n v) s = .next (s.setSrc n { x with
        kind := kind, tile := tile, line := line, vector := vector
        owner := if kind = 0 then 0x4FF else master, pend := if kind = 0 then false else x.pend })) ∧
    (writes (0x10021000 + 8 * n) → ¬ open_ →
      exec (.evrTgt master n v) s = .next { s with router := { s.router with err := s.router.err ||| 8 } }) ∧
    (writes (0x10021000 + 8 * n) → open_ → ¬ (owns ∧ wellFormed) →
      ∃ t, exec (.evrTgt master n v) s = .next t ∧
        (n ≠ 17 → t.src n = x) ∧ t.router.err = s.router.err ||| (if owns then 1 else 2) ∧
        (s.power.st = .run → (t.src 17).fires = (s.src 17).fires + 1 ∧ (t.src 17).kind = (s.src 17).kind) ∧
        t.router.offender = w32 ((if owns then 2 else 1) * 2 ^ 30 + master % 4096 * 2 ^ 16 + n)) ∧
    (writes (0x10020400 + 4 * w) → ∃ t, exec (.evrFired master w v) s = .next t ∧ t = { s with router := { s.router with src := t.router.src } } ∧
      ∀ i < 32,
        let y := s.src (32 * w + i)
        t.src (32 * w + i) = { y with fired :=
          y.fired && !(v.getLsbD i && (y.owner == master || y.owner == 0x4FF || master == 0x400)) }) ∧
    (writes (0x10020080 + 4 * g) →
      (if g = 0 ∨ g = 1 ∨ g = 5 then master = 0x400 else if g = 31 then master = 0x400 ∨ master = 0x403 else True) →
      exec (.evrHold master g v) s = .next (s.setHold g { h with
        us := v.toNat % 65536
        start := if h.start.any fun t0 => decide (v.toNat % 65536 ≤ (s.now - t0) / 200) then none else h.start })))

/-! ### The time unit -/

/-- R273, R275, R276, R278, R288, R290: the second tick, samples of the time, the commits that the owner of device
time stages and their application, the rate, the end of a slew and the loss of sync. Where the rules leave a point
open, the clause states the model's choice (log 39). -/
def Obligations.TimeRows : Prop :=
  ∀ (master size lag : Nat) (v : W32) (s : State),
    let t := s.time
    let writes (a : Nat) : Prop := s.reaches (s.whoIs master) a 4 true = true
    let mine := writes 0x1003002C ∧ writes 0x10030018 ∧ t.owner = master
    let others := writes 0x1003002C ∧ writes 0x10030018 ∧ t.owner ≠ master
    let timed (x : TimeUnit) : State := { s with time := x }
    let notOwner : State := timed { t with err := t.err ||| 1 }
    let bad : State := timed { t with err := t.err ||| 4 }
    let from_ := if master < 1024 then (s.physOf master).getD 0x7FF else 0x7FF
    let read (word n : Nat) : Resp :=
      { kind := .done, dstPhys := from_, dstId := master, tag := 0
        cap := if from_ < 1088 then s.capOf master else 0, status := 0, data := leBytes word n, badCrc := false }
    let reads (a n : Nat) : Prop := s.reaches (s.askerWho (.access master from_ 0) s.device) a n false = true
    let sinc := Machine.sint 32 v.toNat
    (s.running = true → t.commit = none → t.holdover = false → t.newRate = none → t.slewOn = false → t.rate = 0 → t.ns < 10 ^ 9 →
      10 ^ 9 - 5 ≤ t.ns → t.frac < 2 ^ 32 →
      ∃ u, exec .secondTick s = .next u ∧ u.time.sec = (t.sec + 1) % 2 ^ 48 ∧ u.time.ns = t.ns + 5 - 10 ^ 9 ∧
        u.time.frac = t.frac ∧ u.time.unknown = t.unknown ∧
        (u.src 72).fires = (s.src 72).fires + 1 ∧ (u.src 72).fired = true) ∧
    (reads 0x10030000 (max 1 (min size 16)) → exec (.timeNs master size) s = .next { s with
      time := { t with snapSec := t.sec }
      replies := s.replies ++ [read (t.ns + t.sec * 2 ^ 32 + t.stat * 2 ^ 96) (max 1 (min size 16))] }) ∧
    (reads 0x10030034 4 → ∃ o, exec (.timeAonLo master lag) s = .next o ∧
      s.aon.count - 2 ≤ o.aon.lastLo ∧ s.aon.lastLo ≤ o.aon.lastLo ∧
      (s.aon.lastLo ≤ s.aon.count → o.aon.lastLo ≤ s.aon.count) ∧ o.aon.snapHi = o.aon.lastLo / 2 ^ 32 ∧
      o.replies = s.replies ++ [read (o.aon.lastLo % 2 ^ 32) 4]) ∧
    (mine → t.newNs < 10 ^ 9 →
      exec (.timeCommitAbsolute master) s = .next (timed { t with commit := some ⟨true, t.newSec, t.newNs⟩ }) ∧
      exec (.timeCommitRelative master) s = .next (timed { t with commit := some ⟨false, t.newSec, t.newNs⟩ })) ∧
    (others →
      exec (.timeCommitAbsolute master) s = .next notOwner ∧ exec (.timeCommitRelative master) s = .next notOwner ∧
      exec (.timeRate master v) s = .next notOwner) ∧
    (mine → 10 ^ 9 ≤ t.newNs →
      exec (.timeCommitAbsolute master) s = .next bad ∧ exec (.timeCommitRelative master) s = .next bad) ∧
    (mine → exec (.timeRate master v) s = .next
      (if -500000000 ≤ sinc ∧ sinc ≤ 500000000 then timed { t with newRate := some sinc } else bad)) ∧
    (∀ c, s.running = true → t.commit = some c → c.absolute = true → c.ns < 10 ^ 9 →
      ∃ u, exec .commitApply s = .next u ∧ u.time.sec = c.sec ∧ u.time.ns = c.ns ∧ u.time.frac = 0 ∧
        u.time.unknown = false ∧ u.time.carried = false ∧ u.time.unc = 0 ∧ u.time.stepCnt = t.stepCnt + 1 ∧
        u.time.commit = none ∧ u.time.slewOn = false) ∧
    (s.running = true → t.slewOn = true → t.slewLeft = 0 → exec .slewEnd s = .next (timed { t with slewOn := false })) ∧
    (s.running = true → (t.mode = 1 ∨ t.mode = 2) → t.syncLost = false → t.syncTimeout * 1000000 ≤ (s.now - t.lastSync) / 200 →
      exec .syncLost s = .next ((timed { t with syncLost := true }).fire 73))

/-- R279 to R286, R290: alarms fire at their target, one-shot alarms disarm and periodic ones move past the time;
ALM_CTL arms for the owner alone and RELEASE frees; calibration anchors the time at an edge of the always-on counter,
and relocking carries the time from anchor, count and rate. A RELOCK of a locked PLL is the firmware's change of the
reference source, which starts a holdover: the model's choice (log 119), as are the points of log 38 and 91. -/
def Obligations.AlarmsAndCarry : Prop :=
  ∀ (k master measured : Nat) (v : W32) (s : State), k < 8 →
    let writes : Prop := s.reaches (s.whoIs master) (almReg k 0x10) 4 true = true
    let a := s.alarm k
    let now := s.time.sec * 10 ^ 9 + s.time.ns
    let target := a.sec * 10 ^ 9 + a.ns
    let free := a.owner = 0x4FF ∨ a.owner = master ∨ master = 0x400
    let held : State := { s with time := { s.time with err := s.time.err ||| 2 } }
    let cleared : Alarm := { a with
      byStep := a.byStep && a.armed && v.getLsbD 31 && !v.getLsbD 30
      late := a.late && !v.getLsbD 2, stepped := a.stepped && !v.getLsbD 1, fired := a.fired && !v.getLsbD 0 }
    let marked : Alarm := { a with
      fired := true, late := a.late || decide (target + 2000 < now), stepped := a.stepped || a.byStep
      byStep := false }
    (a.armed = true → s.dbgBlock.frost = false → target ≤ now → s.power.st = .run →
      (a.period = 0 →
        exec (.alarmFire k) s = .next ((s.setAlarm k { marked with armed := false }).fire (64 + k))) ∧
      (0 < a.period → a.period < 2 ^ 32 → now < 2 ^ 70 →
        ∃ t, exec (.alarmFire k) s = .next t ∧ (t.alarm k).armed = true ∧
          let next := (t.alarm k).sec * 10 ^ 9 + (t.alarm k).ns
          now < next ∧ next ≤ now + a.period ∧ (next - target) % a.period = 0)) ∧
    (writes → free → v.getLsbD 30 = true →
      exec (.arm master k v) s = .next (s.setAlarm k { cleared with armed := false, owner := 0x4FF })) ∧
    (writes → free → v.getLsbD 30 = false → v.getLsbD 31 = true → a.ns < 10 ^ 9 →
      exec (.arm master k v) s = .next (s.setAlarm k { cleared with
        armed := true, owner := if a.owner = 0x4FF then master else a.owner })) ∧
    (writes → free → v.getLsbD 30 = false → v.getLsbD 31 = false →
      exec (.arm master k v) s = .next (s.setAlarm k { cleared with armed := false })) ∧
    (writes → free → exec (.releaseAlarm master k) s =
      .next (s.setAlarm k { a with armed := false, owner := 0x4FF, byStep := false })) ∧
    (writes → ¬ free → exec (.arm master k v) s = .next held ∧ exec (.releaseAlarm master k) s = .next held) ∧
    (s.time.holdover = false → s.power.st = .run → (s.aon.phase : Int) < 163840 * (10000000 + s.delta 5 1) →
      exec (.aonCalibration measured) s = .next { s with aon := { s.aon with
        rate := (measured + 2 ^ 30) / 2 ^ 31 % 2 ^ 32, anchorSec := s.time.sec, anchorNs := s.time.ns
        anchorCount := s.aon.count, oscStopped := false } }) ∧
    (s.time.holdover = true → s.aon.oscStopped = false → s.aon.anchorCount ≤ s.aon.count →
      s.aon.count < 2 ^ 48 → s.aon.anchorSec < 2 ^ 47 → s.aon.anchorNs < 10 ^ 9 → s.aon.rate < 2 ^ 32 →
      ∃ u, exec .relock s = .next u ∧ u.time.holdover = false ∧ u.faults.backupOsc = false ∧
        u.time.carried = true ∧ u.time.sec * 10 ^ 9 + u.time.ns =
          s.aon.anchorSec * 10 ^ 9 + s.aon.anchorNs + (s.aon.count - s.aon.anchorCount) * s.aon.rate / 65536) ∧
    (s.time.holdover = false → s.power.st = .run → s.mgmt.up = true → s.mgmt.restarting = false →
      exec .relock s = .next { s with
        time := { s.time with holdover := true }, faults := { s.faults with backupOsc := true } })

/-! ### Field I/O -/

/-- R293, R294, R296, R297, R300, R313, R323, R496, R511: the receiver's hysteresis and deglitch time at the voltage that a
pad is given, also where the pin drives against it, the writes that a pin's owner may make and those that are refused
with their cause, and a bank's supply. Where the rules leave a point open, the clause states the model's choice (log
42, 98). -/
def Obligations.PinRows : Prop :=
  ∀ (n b w mv master : Nat) (v : W32) (s : State), n < 96 → b < 6 → w < 3 →
    let writes (a : Nat) : Prop := s.reaches (s.whoIs master) a 4 true = true
    let cfgReg := 0x10050100 + 0x10 * n
    let x := s.pin n
    let k := s.bank (n / 16)
    let vio := k.mv
    let seen := ((mv : Int) - s.delta 6 (n / 16)).toNat
    let threshold := vio * (x.cfg.toNat / 64 % 32) / 32
    let hys := match x.cfg.toNat / 2 ^ 11 % 4 with
      | 0 => 2
      | 1 => 5
      | 2 => 10
      | _ => 15
    let live := k.vio ≠ 0 ∧ (if k.vio = 1 then 1620 else 2970) ≤ k.mv
    let mine (y : Pin) : Prop := y.owner = master ∨ master = 0x400
    let refused (u t : State) (cause off : Nat) : Prop :=
      t.fio = { u.fio with
        err := u.fio.err ||| (1 <<< (cause - 1))
        offender := w32 (cause * 2 ^ 30 + master % 4096 * 2 ^ 16 + off) } ∧
      (s.power.st = .run → (t.src 18).fires = (s.src 18).fires + 1)
    let func := v.toNat / 2 ^ 28
    let sel := v.toNat / 2 ^ 23 % 32
    let inRange := func ≤ 3 ∧ v.toNat / 2 ^ 16 % 4 ≠ 3 ∧ 3 ≤ v.toNat / 64 % 32 ∧ v.toNat / 64 % 32 ≤ 29
    let routed := (func = 2 → (s.timer sel).owner = x.owner) ∧ (func = 3 → (s.ser (sel / 4)).owner = x.owner)
    let cfgAt := 0x100 + 0x10 * n
    (live → x.cfg.getLsbD 13 = false →
      let rises := 200 * threshold < 200 * seen + vio * hys
      let stays := 200 * threshold + vio * hys ≤ 200 * seen
      let r := if x.recv then decide rises else decide stays
      let against := match s.pinDrive n with
        | some b => if mv = (if b then k.mv else 0) then none else some b
        | none => none
      let y : Pin := { x with
        padMv := mv, contended := against, trackMv := none, recv := r
        recvAt := if r = x.recv then x.recvAt else s.wall }
      s.power.st = .run → exec (.pinInputChange n mv) s = .next (s.setPin n y)) ∧
    (live → x.recv ≠ x.level → 4 * x.dgl ≤ s.wall - x.recvAt → s.running = true →
      let hit := x.cfg.getLsbD (if x.recv then 14 else 15)
      ∃ t, exec (.deglitchExpiry n) s = .next t ∧
        t.pin n = { x with level := x.recv, edges := if hit then x.edges + 1 else x.edges } ∧
        (t.src (396 + n)).fires = (s.src (396 + n)).fires + (if hit then 1 else 0) ∧
        ∀ j < 32, (t.timer j).capDue = ((s.timer j).capDue ||
          ((s.timer j).capcfg.getLsbD (if x.recv then 8 else 9) &&
            (s.timer j).capcfg.toNat / 2 ^ 16 % 128 == n))) ∧
    (writes cfgReg → mine x → inRange → routed →
      exec (.pinCfg master n v) s = .next (s.setPin n { x with
        cfg := v &&& 0xFFFFFFE0, configured := true
        trackMv := if v.getLsbD 13 && x.cfg.getLsbD 13 then x.trackMv else none
        causes := x.causes.filter fun c => c != .restart && c != .thermal && c != .released })) ∧
    (writes cfgReg → ¬ mine x → ∃ t, exec (.pinCfg master n v) s = .next t ∧ refused s t 1 cfgAt) ∧
    (writes cfgReg → mine x → ¬ inRange → ∃ t, exec (.pinCfg master n v) s = .next t ∧ refused s t 3 cfgAt) ∧
    (writes cfgReg → mine x → inRange → ¬ routed → ∃ t, exec (.pinCfg master n v) s = .next t ∧ refused s t 2 cfgAt) ∧
    (writes (0x10050020 + 4 * w) → ∃ t, exec (.pinSet master w v) s = .next t ∧ ∀ i < 32,
      let y := s.pin (32 * w + i)
      t.pin (32 * w + i) =
        if v.getLsbD i = true ∧ mine y then { y with cfg := y.cfg ||| 0x20 } else y) ∧
    (writes (0x10050030 + 4 * w) → ∃ t, exec (.pinClr master w v) s = .next t ∧ ∀ i < 32,
      let y := s.pin (32 * w + i)
      t.pin (32 * w + i) =
        if v.getLsbD i = true ∧ mine y then { y with cfg := y.cfg &&& 0xFFFFFFDF } else y) ∧
    (∃ t, exec (.vioLoss b mv) s = .next t ∧
      t.bank b = { vio := if mv < 1550 then 0 else (s.bank b).vio, mv := mv } ∧
      (s.power.st = .run → (s.bank b).vio = 1 → 1620 ≤ (s.bank b).mv → (s.bank b).mv ≤ 1980 → mv < 1620 →
        (t.src 10).fires = (s.src 10).fires + 1)) ∧
    exec (.vioRise b mv) s = .next (s.setBank b
      { vio := if mv < 1550 then 0 else if mv ≤ 2600 then 1 else 2, mv := mv })

/-- R302 to R306, R308: the boundary of an up, down and up-down count with its shadows, compare matches and their pin
actions, chained actions, captures, and the writes of TMR_TOP, TMR_CMPA, TMR_CMPB, TMR_CNT and TMR_CTL. Where the
rules leave a point open, the clause states the model's choice (log 40). -/
def Obligations.TimerRows : Prop :=
  ∀ (n master : Nat) (reg : Fin 3) (v : W32) (s : State), n < 32 →
    let writes (off : Nat) : Prop := s.reaches (s.whoIs master) (tmrReg n off) 4 true = true
    let t := s.timer n
    let mine := t.owner = master ∨ master = 0x400
    let counts := s.ioRuns = true ∧ t.run = true ∧ t.frozen = false ∧ t.presc = t.prescale
    let shadowed (u : Timer) : Timer :=
      if u.updlock then u
      else { u with
        top := if u.wTop then u.sTop else u.top, cmpa := if u.wCmpa then u.sCmpa else u.cmpa
        cmpb := if u.wCmpb then u.sCmpb else u.cmpb, wTop := false, wCmpa := false, wCmpb := false }
    let kept (u w : Timer) : Prop :=
      u.count = w.count ∧ u.top = w.top ∧ u.cmpa = w.cmpa ∧ u.cmpb = w.cmpb ∧ u.down = w.down
    let refused (o : State) (cause off : Nat) : Prop :=
      o.fio = { s.fio with
        err := s.fio.err ||| (1 <<< (cause - 1))
        offender := w32 (cause * 2 ^ 30 + 2 ^ 28 + master % 4096 * 2 ^ 16 + off) }
    let mode := v.toNat / 2 ^ 28 % 4
    let written : Timer := match reg.val with
      | 0 => { t with sTop := v.toNat, wTop := true }
      | 1 => { t with sCmpa := v.toNat, wCmpa := true }
      | _ => { t with sCmpb := v.toNat, wCmpb := true }
    let controlled : Timer := { t with
      updlock := v.getLsbD 30, mode := mode, prescale := v.toNat / 2 ^ 16 % 256
      evsel := BitVec.ofNat 4 v.toNat, down := t.down && decide (mode = t.mode)
      presc := if t.prescale = v.toNat / 2 ^ 16 % 256 then t.presc else 0 }
    (counts → (t.mode = 0 → t.top ≤ t.count) → (t.mode = 1 → t.count = 0) →
      (2 ≤ t.mode → t.down = true ∧ t.count ≤ 1) →
      ∃ o, exec (.timerBoundary n) s = .next o ∧
        kept (o.timer n) { shadowed t with
          count := if t.mode = 1 then (shadowed t).top else 0, down := false } ∧
        (o.timer n).stBound = true ∧ (o.timer n).presc = 0) ∧
    (s.ioRuns = true → t.entered = true →
      ∃ o, exec (.timerCompareMatch n) s = .next o ∧ kept (o.timer n) t ∧ (o.timer n).entered = false ∧
        (t.mode = 0 → t.count = t.cmpa → t.cmpa < t.top → t.cmpa ≠ 0 → t.cmpb ≠ t.cmpa →
          (o.timer n).stMatch = true ∧
            (o.timer n).out = (match t.act.toNat / 2 ^ 10 % 4 with
              | 0 => t.out
              | 1 => true
              | 2 => false
              | _ => !t.out))) ∧
    (∀ a rest, t.due = a :: rest → rest = [] → t.frozen = false → a.2 ≤ s.now → s.ioRuns = true →
      ∃ o, exec (.chainedAction n) s = .next o ∧ (o.timer n).due = [] ∧
        (a.1 = .start → (o.timer n).run = true ∧ (o.timer n).count = t.count) ∧
        (a.1 = .stop → (o.timer n).run = false ∧ (o.timer n).count = t.count) ∧
        (a.1 = .reset → (o.timer n).run = t.run ∧
          (o.timer n).count = if t.mode = 1 then (shadowed t).top else 0)) ∧
    (s.ioRuns = true → t.capDue = true → t.capcfg.getLsbD 0 = false →
      exec (.timerCapture n) s = .next ((s.setTimer n { t with
        cap := t.count, capCnt := t.capCnt + 1, stCap := true, stCapOvr := t.stCapOvr || t.capUnread
        capUnread := true, capDue := false }).fire (333 + 2 * n))) ∧
    (writes (0xC + 4 * reg.val) → mine → (reg = 0 → (if t.mode = 2 then 2 else 1) ≤ v.toNat) →
      exec (.tmrShadowWrite master n reg v) s = .next
        (s.setTimer n (if t.run then written else shadowed written))) ∧
    (writes 8 → mine → t.run = false →
      exec (.tmrCnt master n v) s = .next
        (s.setTimer n { t with count := v.toNat, down := false, entered := false })) ∧
    (writes 8 → mine → t.run = true → ∃ o, exec (.tmrCnt master n v) s = .next o ∧ refused o 3 (0x40 * n + 8)) ∧
    (writes 0 → mine → mode < 2 →
      exec (.tmrCtl master n v) s = .next
        (s.setTimer n { (if t.run then controlled else shadowed controlled) with run := v.getLsbD 31 })) ∧
    (writes 0 → mine → mode = 3 → ∃ o, exec (.tmrCtl master n v) s = .next o ∧ refused o 3 (0x40 * n)) ∧
    (¬ mine →
      (writes (0xC + 4 * reg.val) → ∃ o, exec (.tmrShadowWrite master n reg v) s = .next o ∧ refused o 1 (0x40 * n + 0x0C + 4 * reg.val)) ∧
      (writes 8 → ∃ o, exec (.tmrCnt master n v) s = .next o ∧ refused o 1 (0x40 * n + 8)) ∧
      (writes 0 → ∃ o, exec (.tmrCtl master n v) s = .next o ∧ refused o 1 (0x40 * n)))

/-- R309 to R312: the transmit FIFO of 32 entries, the receive FIFO whose read pops, SER_CTL, and a unit that completes
as an SPI frame, an I2C byte or a received UART character. Where the rules leave a point open, the clause states the model's choice (log 41). -/
def Obligations.SerialRows : Prop :=
  ∀ (e master i p tag : Nat) (u : SerUnit) (v : W32) (s : State), e < 8 →
    let writes (off : Nat) : Prop := s.reaches (s.whoIs master) (serReg e off) 4 true = true
    let x := s.ser e
    let mine := x.owner = master ∨ master = 0x400
    let mode := x.ctl.toNat / 2 ^ 30
    let m := v.toNat / 2 ^ 30
    let badCtl := (m = 1 ∧ v.toNat / 2 ^ 22 % 32 < 3) ∨ (m = 2 ∧ v.toNat / 2 ^ 20 % 4 = 3) ∨
      (m = 3 ∧ (4 < v.toNat / 2 ^ 16 % 16 ∨ v.toNat / 2 ^ 14 % 4 = 3))
    let refused (o : State) (cause off : Nat) : Prop :=
      o.fio = { s.fio with
        err := s.fio.err ||| (1 <<< (cause - 1))
        offender := w32 (cause * 2 ^ 30 + 2 * 2 ^ 28 + master % 4096 * 2 ^ 16 + off) }
    let word := match x.rx with
      | [] => 0
      | d :: _ => 2 ^ 31 + d.toNat % 512
    (writes 8 → mine → x.tx.length < 32 →
      exec (.serTx master e v) s = .next
        (s.setSer e { x with tx := x.tx ++ [v], busy := x.busy || decide (mode ≠ 0) })) ∧
    (writes 8 → mine → 32 ≤ x.tx.length →
      exec (.serTx master e v) s = .next
        ((s.setSer e { x with sticky := x.sticky ||| 32 }).fire (303 + 4 * e))) ∧
    (writes 0 → mine → x.busy = false → ¬ badCtl →
      exec (.serCtl master e v) s = .next
        (s.setSer e { x with
          ctl := v &&& 0xFFFFF800, busy := decide (m ≠ 0) && !x.tx.isEmpty
          held := x.held && decide (m = mode) && (decide (mode ≠ 1) || v.getLsbD 11) })) ∧
    (writes 0 → mine → x.busy = true ∨ badCtl → ∃ o, exec (.serCtl master e v) s = .next o ∧ refused o 3 (0x100 * e)) ∧
    (¬ mine →
      (writes 8 → ∃ o, exec (.serTx master e v) s = .next o ∧ refused o 1 (0x100 * e + 8)) ∧
      (writes 0 → ∃ o, exec (.serCtl master e v) s = .next o ∧ refused o 1 (0x100 * e))) ∧
    (s.reaches (s.askerWho (.access i p tag) s.device) (serReg e 0xC) 4 false = true →
      ∃ o, exec (.serRx (.access i p tag) e) s = .next o ∧ (o.ser e).rx = x.rx.drop 1 ∧
        o.replies = s.replies ++ [{ kind := .done, dstPhys := p, dstId := i, tag := tag
                                    cap := if p < 1088 then s.capOf i else 0, status := 0
                                    data := leBytes word 4, badCrc := false }]) ∧
    (s.ioRuns = true → mode = 2 → x.frozen = false → x.busy = true → x.rx.length < 32 →
      ∃ o, exec (.serialUnitDone e u) s = .next o ∧ (o.ser e).tx = x.tx.drop 1 ∧
        (o.ser e).rx = if (x.tx.headD 0).getLsbD 10 then x.rx ++ [w32 (u.rx.getD 0xFF % 256)] else x.rx) ∧
    (s.ioRuns = true → mode = 3 → x.frozen = false → x.rx.length < 32 → ∀ d, u.rx = some d →
      ∃ o, exec (.serialUnitDone e u) s = .next o ∧ (o.ser e).tx = x.tx ∧
        (o.ser e).rx = x.rx ++ [w32 (d % 2 ^ (x.ctl.toNat / 2 ^ 16 % 16 + 5))]) ∧
    (mode = 1 → x.frozen = false → x.busy = true → x.tx ≠ [] → s.running = true →
      ∀ r, u.rx = some r →
        let d := r % 2 ^ (x.ctl.toNat / 2 ^ 22 % 32 + 1)
        ∃ o, exec (.serialUnitDone e u) s = .next o ∧ (o.ser e).tx = x.tx.drop 1 ∧
          (o.ser e).rx = (if x.rx.length < 32 then x.rx ++ [w32 d] else x.rx) ∧
          (o.ser e).sticky = (if x.rx.length < 32 then x.sticky else x.sticky ||| 16) ∧
          (o.ser e).busy = decide (1 < x.tx.length) ∧
          (o.src (301 + 4 * e)).fires = (s.src (301 + 4 * e)).fires + (if x.rx = [] then 1 else 0))

/-! ### The inspection engine -/

/-- R205 to R209, R224, R227, R237: a matched frame passes to the engine with its buffer; the first frame of an Armed
stream sets L0 and stores its samples, a whole line enters the backlog, and a frame that no live stream takes or
whose shape does not fit is counted and its buffer freed; LINE_TIMEOUT releases an incomplete line; model memory
takes writes in the away bank only; ENG_RETURN frees a record buffer that the engine has pushed. Where the rules
leave a point open, the clause states the model's choice (log 20, 43). -/
def Obligations.EngineInputRows : Prop :=
  ∀ (f k addr master : Nat) (h : Handoff) (rest : List Handoff) (data : List Byte) (v : W32) (s : State),
    f < 4 → k < 4 → addr + data.length ≤ 0x800000 →
    let writes (a n : Nat) : Prop := s.reaches (s.whoIs master) a n true = true
    let w := s.stream k
    let p := w.par
    let e := s.engine
    let b := h.handle % 2048
    let n := h.payLen / p.container
    let first := if p.pixOff then h.offset * p.bands else h.offset
    let l := h.lineRaw % 2 ^ 32
    let L := w.l0.getD 0
    let line := w.open_ L
    let away := (1 - e.homeBank) * 0x400000
    let ret := v.toNat % 65536
    let place (i : Nat) : Nat := if p.bil then i % p.pixels * p.bands + i / p.pixels else i
    ((s.feed f).handoffs = h :: rest → s.engineRuns = true → h.sid = k → h.handle < 65536 →
      tget 0x4FF b s.pool.owner = 0x430 + f → tget 0 b s.pool.gen = h.handle / 2048 →
      (w.st ≠ .armed → w.st ≠ .running →
        ∃ t, exec (.frameHandoff f) s = .next t ∧ (t.feed f).handoffs = rest ∧
          t.engine.noStream = min 0xFFFFFFFF (e.noStream + 1) ∧ t.engine.err = e.err ||| 0x80 ∧
          t.stream k = w ∧ tget 0x4FF b t.pool.owner = 0x4FF) ∧
      (w.st = .armed ∨ w.st = .running → badPacket p h = true →
        ∃ t, exec (.frameHandoff f) s = .next t ∧ (t.feed f).handoffs = rest ∧
          t.stream k = { w with cnt := { w.cnt with badPkt := min 0xFFFFFFFF (w.cnt.badPkt + 1) } } ∧
          tget 0x4FF b t.pool.owner = 0x4FF) ∧
      (w.st = .armed → badPacket p h = false → w.l0 = none → w.opens = [] → 0 < p.pixels → 0 < p.bands →
        1 ≤ p.window → w.backlog.length < 4 →
        ∃ t, exec (.frameHandoff f) s = .next t ∧ (t.feed f).handoffs = rest ∧ (t.stream k).st = .running ∧
          (t.stream k).prevLine = l ∧ tget 0x4FF b t.pool.owner = 0x420 ∧
          let got := if n < p.pixels * p.bands then (t.stream k).opens.head? else (t.stream k).backlog.getLast?
          (t.stream k).l0 = some (if n < p.pixels * p.bands then l else (l + 1) % 2 ^ 32) ∧
          got.map (fun x => (x.line, x.bufs, x.stamp)) = some (l, [h.handle], h.stamp) ∧
          ∀ i < n, tfind? (place (first + i)) ((got.map (·.samples)).getD []) =
            some (p.sample (memRead 0 s.bufMem (b * 2048 + h.payPos + i * p.container) p.container)))) ∧
    (w.l0 = some L → w.st = .running → s.engineRuns = true →
      (w.opens.any fun x => x.line != L && decide (p.lineTimeout ≤ (s.now - x.firstAt) / 200)) = true →
      w.backlog.length < 4 → (w.open_ ((L + 1) % 2 ^ 32)).samples.length < p.pixels * p.bands → L + 1 < 2 ^ 32 →
      exec (.lineTimeout k) s = .next (s.setStream k { w with
        l0 := some (L + 1), opens := w.opens.filter fun x => x.line != L, backlog := w.backlog ++ [line]
        cnt := { w.cnt with
          missing := if line.samples = [] then min 0xFFFFFFFF (w.cnt.missing + 1) else w.cnt.missing
          incomplete := if line.samples ≠ [] ∧ line.samples.length < p.pixels * p.bands then
            min 0xFFFFFFFF (w.cnt.incomplete + 1) else w.cnt.incomplete } })) ∧
    (writes addr (max 1 data.length) → e.switching = false → away ≤ addr → addr + data.length ≤ away + 0x400000 →
      exec (.modelMemoryWrite master addr data) s = .next { s with engine := { e with
        mem := memWrite 0 e.mem addr data, awayValid := false
        bad := e.bad.filter fun x => !(decide (addr ≤ 4 * x) && decide (4 * x + 4 ≤ addr + data.length)) } }) ∧
    (writes addr (max 1 data.length) → e.switching = true ∨ addr < away ∨ away + 0x400000 < addr + data.length →
      exec (.modelMemoryWrite master addr data) s = .next { s with engine := { e with err := e.err ||| 0x40 } }) ∧
    (writes 0x100B0010 4 → tget 0x4FF (ret % 2048) s.pool.owner = 0x420 → ret % 2048 ∈ s.pool.enginePushed →
      tget 0 (ret % 2048) s.pool.gen = ret / 2048 →
      exec (.engReturn master v) s = .next { s with pool := { s.pool with
        owner := tdel (ret % 2048) s.pool.owner
        gen := tput (ret % 2048) ((ret / 2048 + 1) % 32) s.pool.gen, freed := s.pool.freed ++ [ret % 2048]
        enginePushed := s.pool.enginePushed.filter (· != ret % 2048) } }) ∧
    (writes 0x100B0010 4 → ¬ (tget 0x4FF (ret % 2048) s.pool.owner = 0x420 ∧ ret % 2048 ∈ s.pool.enginePushed ∧
        tget 0 (ret % 2048) s.pool.gen = ret / 2048) →
      exec (.engReturn master v) s = .next { s with engine := { e with
        retOff := w32 (master % 4096 * 2 ^ 16 + ret), err := e.err ||| 0x10 } })

/-- R214, R218, R222 to R226, R234, R236, R237: LINE_PROCESS, FLUSH_US_EXPIRY, STRM_CMD, ENGINE_POOL_RETRY,
ENGINE_PUSH_ACCEPTED and STREAM_DRAINED complete. A line of the backlog is processed once and its buffers are freed, an
uncorrectable model word puts the stream into Error, or leaves it draining to its stop (log 130); a buffer of records is pushed by FLUSH or after FLUSH_US, and held
while the queue is full; held pushes and records go on when the queue or the pool lets them; a drained stream is Off.
Where the rules leave a point open, the clause states the model's choice (log 45, 47). -/
def Obligations.EngineOutputRows : Prop :=
  ∀ (k kind q master : Nat) (v : W32) (b : LineBuf) (rest : List LineBuf) (s : State), k < 4 → kind < 3 →
    let cmd : Prop := s.reaches (s.whoIs master) (0x100B0110 + 0x40 * k) 4 true = true
    let w := s.stream k
    let e := s.engine
    let recQ := if kind = 0 then w.par.itemQ else if kind = 1 then w.par.histQ else w.par.statusQ
    let entry (r : RecBuf) : W32 :=
      w32 (r.handle % 65536 + r.count % 16 * 2 ^ 16 + k * 2 ^ 20 + kind * 2 ^ 22)
    let pushed (u : State) (r : RecBuf) : State :=
      if (s.queue recQ).hasRoom then
        let t := (u.hwPush recQ (entry r) 0x420).1
        { t with pool := { t.pool with enginePushed := r.handle % 2048 :: t.pool.enginePushed } }
      else { u with engine := { u.engine with
        heldPush := [⟨recQ, entry r⟩], waitSince := some (e.waitSince.getD s.now), retryAt := s.now } }
    let without (due : Bool) : State := s.setStream k { w with recs := tdel kind w.recs, flushDue := due }
    (w.backlog = b :: rest → (w.st = .running ∨ w.st = .draining) → s.engineRuns = true → e.heldPush = [] →
      e.heldRec = [] → e.switching = false →
      ∃ t, exec (.lineProcess k) s = .next t ∧ (t.stream k).backlog = rest ∧ (t.stream k).line = b.line ∧
        (t.stream k).begun = true ∧
        (((s.model e.homeBank).badFor k b.samples.isEmpty).isNone = true → (t.stream k).st = w.st) ∧
        (((s.model e.homeBank).badFor k b.samples.isEmpty).isSome = true →
          (t.stream k).st = (if w.st = .draining then .draining else .error) ∧ (t.stream k).items = [] ∧ t.engine.err &&& 0x20 ≠ 0)) ∧
    (∀ r, tfind? kind w.recs = some r → e.heldPush = [] →
      (s.engineRuns = true → w.par.flushUs ≠ 0 → w.par.flushUs ≤ (s.now - r.since) / 200 →
        exec (.flushUsExpiry k kind) s = .next (pushed (without w.flushDue) r)) ∧
      (cmd → e.halted = false → v.getLsbD 0 = true → w.recs = [(kind, r)] → e.heldRec = [] →
        exec (.strmCmd master k v) s = .next (pushed (without false) r))) ∧
    (cmd → v.getLsbD 0 = true → e.halted = true ∨ e.heldRec ≠ [] →
      exec (.strmCmd master k v) s = .next (s.setStream k { w with flushDue := true })) ∧
    (cmd → v.getLsbD 0 = false → exec (.strmCmd master k v) s = .next s) ∧
    (∀ r, e.heldRec = [r] → e.heldPush = [] → s.engineRuns = true → r.stream = k → r.kind = kind →
      tfind? kind w.recs = none → 1 ≤ (s.now - e.retryAt) / 200 →
      (∀ x, (s.take 0x420).2 = some x →
        ∃ t, exec .enginePoolRetry s = .next t ∧ t.engine.heldRec = [] ∧ t.engine.waitSince = none ∧
          t.bufMem = memWrite 0 s.bufMem (x % 2048 * 2048) r.bytes ∧
          tfind? kind (t.stream k).recs = some { handle := x, count := 1, since := s.now } ∧
          ∀ t0, e.waitSince = some t0 → 1 ≤ (s.now - t0) / 200 →
            (t.stream k).cnt.stall = min 0xFFFFFFFF (w.cnt.stall + (s.now - t0) / 200)) ∧
      ((s.take 0x420).2 = none →
        ∃ t, exec .enginePoolRetry s = .next t ∧ t.engine.heldRec = [r] ∧ t.engine.retryAt = s.now)) ∧
    (∀ x, e.heldPush = [x] → e.heldRec = [] → s.engineRuns = true → x.queue = q → q < 304 →
      (s.queue q).hasRoom = true →
      ∃ t, exec (.enginePushAccepted q) s = .next t ∧ t.queue q = (s.hwPush q x.entry 0x420).1.queue q ∧
        t.engine.heldPush = [] ∧ t.engine.waitSince = none ∧ x.entry.toNat % 2048 ∈ t.pool.enginePushed) ∧
    (w.st = .draining → w.backlog = [] → s.engineRuns = true → e.heldPush = [] → e.heldRec = [] →
      e.switching = false →
      (w.stopPacked = true → w.recs = [] →
        exec (.streamDrained k) s = .next (s.setStream k { w with
          st := .off, backlog := [], endLine := none, flushDue := false })) ∧
      (w.stopPacked = false → w.begun = false ∨ w.endLine = some ((w.line + 1) % 2 ^ 32) → w.items = [] → w.hist.released = 0 → w.recs = [] → w.pendingStatus = [] →
        0 < s.pool.freeCount → w.par.statusQ < 304 → (s.queue w.par.statusQ).hasRoom = true →
        ∃ t, exec (.streamDrained k) s = .next t ∧ (t.stream k).st = .off ∧ (t.stream k).recs = [] ∧
          (t.queue w.par.statusQ).pushCnt = (s.queue w.par.statusQ).pushCnt + 1))

/-- R210 to R213: a pixel's corrected samples, its indices and its class by exact arithmetic, and the runs of a
line: they rise, do not touch, and hold exactly the foreground pixels. -/
def Obligations.EnginePixels : Prop :=
  ∀ (m : Model) (x : Section) (bits pixel band v i : Nat) (cs : List Int) (px : List Pixel),
    let clamp (v : Int) : Int := if v < -32768 then -32768 else if 32767 < v then 32767 else v
    let shifted (v : Int) (n : Nat) : Int := if n = 0 then v else (v + 2 ^ (n - 1)) / 2 ^ n
    let o := x.corrOff + 4 * (if x.corrMode = 1 then band else pixel * x.bands + band)
    let c := shifted (((v : Int) - m.num o 2) * m.num (o + 2) 2) x.gshift
    let r := x.projOff + i * projStride x.bands
    let acc := ((List.range cs.length).map fun j => (cs[j]?).getD 0 * m.int (r + 8 + 2 * j) 2).sum + m.int r 4
    let y := shifted acc (m.byte (r + 4) % 32)
    let runs := formRuns x 0 none px
    (x.corrMode ≠ 0 → m.correct x bits pixel band v = (clamp c, decide (c ≠ clamp c))) ∧
    (x.corrMode = 0 → bits ≤ 15 → m.correct x bits pixel band v = ((v : Int) * 2 ^ (15 - bits), false)) ∧
    m.project x i cs = (clamp y, decide (y ≠ clamp y)) ∧
    (∀ n < px.length, ((px[n]?).any fun q => x.fg q.cls) = runs.any fun q => decide (q.a ≤ n) && decide (n ≤ q.b)) ∧
    (∀ j, ∀ q1, runs[j]? = some q1 → ∀ q2, runs[j + 1]? = some q2 → q1.b + 1 < q2.a) ∧
    ∀ q ∈ runs, q.a ≤ q.b ∧ q.b < px.length ∧ q.item = none

/-! ### Faults, substitution and resets -/

/-- R52, R315, R317, R318, R319, R320, R321: a stall or an invalid code of a tile that serves nothing fences it, of a
DMA mover fences its engine, and of a crossing is reported and ends the accesses that wait there; a response timer of
a tile, a DMA channel, the host port, the link hub or the router ends the request with 0x85; the
scrubber counts corrections and keeps uncorrectable words; an outvoted referee copy and a lockstep mismatch are
reported, and the mismatch restarts the management processor. Where the rules leave a point open, the clause
states the model's choice (log 51). -/
def Obligations.FaultReports : Prop :=
  ∀ (p e i tag word : Nat) (port : Bool) (k : Fin 3) (s : State), p < 1088 → e < 16 → i < 12 → word < 16384 →
    s.power.st = .run → s.dbgBlock.trigEn = false → s.faults.held = [] →
    let m := s.tile p
    let fired (t : State) (n : Nat) : Prop :=
      (t.src n).fires = (s.src n).fires + 1 ∧ (t.src n).fired = true ∧
        (t.src n).pend = ((s.src n).pend || decide ((s.src n).kind ≠ 0))
    let near (l : List Nat) := l.filter fun t0 => decide (s.wall < t0 + 120000000000)
    let bench := s.isFreeSpare p = false ∨ 5 < s.freeSpares.length
    let late (target since : Nat) : Prop :=
      (if target / 2 ^ 34 = s.device then s.boot.bootRec.stallResp else 10000) ≤ (s.now - since) / 200
    let source (target : Nat) : Nat := if target / 2 ^ 34 = s.device ∧ target / 2 ^ 32 % 4 = 0 then 1 else 2
    let full (x : Msg) : Nat := x.dev * 2 ^ 34 + x.space * 2 ^ 32 + x.addr
    let ch := 8 * e + tag % 8
    let waits (x : Msg) : Bool := s.forIsland i x
    (m.run = .running → s.dbgBlock.frost = false → s.duplexOf p = none → s.logicalOf p = none →
      (∃ t, exec (.lineJudgeStall (.tile p port)) s = .next t ∧ t.isFenced p = true ∧ fired t 1 ∧
        (bench → Logged t 1 p 0xFFFF 0 0)) ∧
      (∃ t, exec (.invalidCode (.tile p port)) s = .next t ∧ t.isFenced p = true ∧ fired t 1 ∧
        (bench → Logged t 1 p 0xFFFF 0 1))) ∧
    (s.mgmt.restarting = false →
      ∃ t, exec (.lineJudgeStall (.dmaMover e)) s = .next t ∧ (t.dmaE e).fenced = true ∧
      ∀ c < 8, (t.chan (8 * e + c)).busy = false ∧ (t.chan (8 * e + c)).last = 0x92) ∧
    (∃ t, exec (.lineJudgeStall (.crossing i)) s = .next t ∧ fired t 2 ∧ Logged t 2 0x8016 0xFFFF 0 (2 * i) ∧
      t.tiles = s.tiles ∧ t.gates = s.gates ∧ t.flight = s.flight.filter (fun x => !waits x) ∧
      t.replies = s.replies ++ (s.flight.filter waits).map fun x =>
        { kind := .error, dstPhys := x.srcPhys, dstId := x.srcId, tag := x.tag, cap := x.cap, status := 0x85
          data := [0x85, 0, 0, 0], badCrc := false, hub := x.hub }) ∧
    (∀ r, m.outstanding tag = some r → s.duplexOf p = none → late r.target r.since →
      ∃ t, exec (.responseTimeout (.tile p) tag) s = .next t ∧ t.tile p = m.finish tag 0x85 ∧
        fired t (source r.target)) ∧
    (∀ u, (s.chan ch).openReq tag = some u → late (full u.msg) u.since →
      ∃ t, exec (.responseTimeout (.dma e) tag) s = .next t ∧ (t.chan ch).openReq tag = none ∧
        (t.dmaE e).resting = (s.dmaE e).resting ++ [(tag, s.now)] ∧ fired t (source (full u.msg)) ∧
        ((s.chan ch).phase ≠ .fetch → (s.chan ch).endSt = none → (t.chan ch).endSt = some 0x85)) ∧
    (∀ q, s.host.outs.find? (fun x => x.msg.tag == tag) = some q → late (full q.msg) q.since →
      ∃ t, exec (.responseTimeout .host tag) s = .next t ∧ fired t 289 ∧ fired t (source (full q.msg)) ∧
        t.host.outs = s.host.outs.filter (fun x => x.msg.tag != tag) ∧
        t.host.resting = s.host.resting ++ [(tag, s.now)] ∧
        t.host.done = s.host.done ++
          (if q.msg.kind = .read then completions q.pcie q.off (List.replicate q.size 0xFF) else [])) ∧
    (∀ x, s.fabric.serving.find? (fun y => y.tag == tag) = some x →
      late (full (s.hubMsg x.packet tag ((s.localAddr x.packet).getD 0))) x.since →
      ∃ t, exec (.responseTimeout .hub tag) s = .next t ∧
        t.fabric.hubResting = s.fabric.hubResting ++ [(tag, s.now)] ∧
        t.fabric.serving = s.fabric.serving.filter fun y => y.tag != x.tag) ∧
    ((s.src tag).act = true → (s.src tag).sentKind = 1 → (s.src tag).retry = false →
      late (s.device * 2 ^ 34 + (s.src tag).sentTile * 65536) (s.src tag).resentAt →
      ∃ t, exec (.responseTimeout .router tag) s = .next t ∧ (t.src tag).retry = true ∧
        (t.src tag).act = true) ∧
    (s.duplexOf p = none → (near (tget [] word m.fixes)).length < 2 →
      exec (.scrubVisit (.tile p) word true) s = .next (s.setTile p { m with
        fixes := tput word (s.wall :: near (tget [] word m.fixes)) m.fixes })) ∧
    (s.duplexOf p = none → 2 ≤ (near (tget [] word m.fixes)).length → s.logicalOf p = none →
      ∃ t, exec (.scrubVisit (.tile p) word true) s = .next t ∧ fired t 5 ∧
        Logged t 5 p 0xFFFF 1 (4 * word)) ∧
    (s.duplexOf p = none → ∃ t, exec (.scrubVisit (.tile p) word false) s = .next t ∧ fired t 6 ∧
      word ∈ (t.tile p).bad ∧ Logged t 6 p ((s.logicalOf p).getD 0xFFFF) 0 (4 * word) ∧
      (t.tile p).mem = m.mem ∧ t.gates = s.gates) ∧
    (∃ t, exec (.scrubVisit .model word false) s = .next t ∧ fired t 8 ∧ word ∈ t.engine.bad ∧
      t.engine.eccAddr = 4 * word ∧ t.engine.err = s.engine.err ||| 0x20) ∧
    (s.faults.disabled = [] →
      ∃ t, exec (.refereeOutvote k) s = .next t ∧ fired t 0 ∧ Logged t 0 0xFFFF 0xFFFF 1 k.val ∧
        (t.faults.disabled = [k.val] ↔
          2 ≤ ((tget [] k.val s.faults.outvoted).filter fun t0 => decide (s.wall < t0 + 720000000000)).length)) ∧
    (∃ t, exec .lockstepMismatch s = .next t ∧ t.faults.lastMismatch = some s.wall ∧
      (s.mgmt.up = true → s.mgmt.restarting = false →
        t.mgmt.up = false ∧ t.mgmt.restarting = true ∧ t.mgmt.mem = [] ∧ t.mgmt.restartAt = s.now ∧
        t.mgmt.otherBank = (s.faults.lastMismatch.any fun t0 => decide (s.wall < t0 + 12000000000)) ∧
        t.tiles = s.tiles ∧ t.fio = s.fio))

/-- R46, R322, R323: what sends the device off or holds it in device restart: the loss of the referee's
majority, a supply out of range until it has been back, and a temperature of 165 °C until every sensor reads below
140 °C; the restart completes once nothing holds it; a reference clock loss puts the time unit in holdover and takes the feed ports down. Where the rules leave
a point open, the clause states the model's choice (log 52, 97). -/
def Obligations.SuppliesAndTrips : Prop :=
  ∀ (r : Rail) (temps : List Int) (s : State), s.power.st = .run → s.dbgBlock.trigEn = false →
    s.dbgBlock.testMode = false →
    let fired (t : State) (n : Nat) : Prop := (t.src n).fires = (s.src n).fires + 1 ∧ (t.src n).fired = true
    let safe (t : State) (c : SafeCause) : Prop := ∀ n < 96, c ∈ (t.pin n).causes
    let shut (t : State) : Prop :=
      t.tiles = [] ∧ t.mgmt.up = false ∧ t.queues = [] ∧ t.flight = [] ∧ t.pool = {} ∧
        t.aon.drizzle = s.aon.drizzle ∧ t.aon.wake = s.aon.wake ∧ t.aon.count = s.aon.count
    let held (x : HeldRestart) : List HeldRestart :=
      if x ∈ s.faults.held then s.faults.held else s.faults.held ++ [x]
    let rest (x : HeldRestart) : List HeldRestart := s.faults.held.filter fun y => y != x
    (∃ t, exec .refereeMajorityLoss s = .next t ∧ t.faults.held = held .sendOff ∧ safe t .sendOff ∧
      Logged t 0 0xFFFF 0xFFFF 10 0 ∧ shut t ∧
      (t.fabric.beats.drop s.fabric.beats.length).map (fun b => (b.1, b.2.1)) =
        [0, 2000, 4000].flatMap fun u => s.fabric.upPorts.map fun q => (s.now + u, q)) ∧
    (∃ t, exec (.supplyOutOfRange r) s = .next t ∧ t.faults.held = held (.supply r) ∧ safe t .restart ∧
      Logged t 10 0xFFFF 0xFFFF 9 0 ∧ shut t) ∧
    (HeldRestart.thermal ∉ s.faults.held → temps.length = 21 → (∃ x ∈ temps, 1650 ≤ x) →
      ∃ t, exec (.temperatureRead temps) s = .next t ∧ t.faults.held = held .thermal ∧ safe t .thermal ∧
        Logged t 24 0xFFFF 0xFFFF 9 0 ∧ shut t) ∧
    (HeldRestart.supply r ∈ s.faults.held →
      ∃ t, exec (.supplyRestored r) s = .next t ∧ t.faults.held = rest (.supply r) ∧
        (rest (.supply r) = [] → t.mgmt.up = true) ∧ (rest (.supply r) ≠ [] → t.mgmt = s.mgmt)) ∧
    (HeldRestart.supply r ∉ s.faults.held → exec (.supplyRestored r) s = .next s) ∧
    (HeldRestart.thermal ∈ s.faults.held → temps.length = 21 → (∀ x ∈ temps, x < 1400) →
      ∃ t, exec (.temperatureRead temps) s = .next t ∧ t.faults.held = rest .thermal ∧
        (rest .thermal = [] → t.mgmt.up = true ∧ (s.faults.tripped = true → fired t 24)) ∧
        (rest .thermal ≠ [] → t.mgmt = s.mgmt)) ∧
    (HeldRestart.thermal ∉ s.faults.held → temps.length = 21 → (∀ x ∈ temps, x < 1650) →
      ∃ t, exec (.temperatureRead temps) s = .next t ∧
        t.pace.temps = ((List.range 21).map fun i => temps.getD i 0 + s.delta 1 i) ∧
        (t.src 52).fires = (s.src 52).fires +
          (if s.pace.warned = false ∧ temps.any (fun x => decide (1550 ≤ x)) = true then 1 else 0) ∧
        (t.pace.warned = true ↔ temps.any (fun x => decide (1550 ≤ x)) = true ∨
          (s.pace.warned = true ∧ temps.any (fun x => decide (1500 ≤ x)) = true)) ∧
        t.mgmt = s.mgmt ∧ t.tiles = s.tiles ∧ t.fio = s.fio) ∧
    (∃ t, exec .referenceClockLoss s = .next t ∧ t.time.holdover = true ∧ t.faults.backupOsc = true ∧
      Logged t 11 0xFFFF 0xFFFF 0 0 ∧ fired t 11 ∧ (∀ f < 4, (t.feed f).up = false) ∧
      (∀ p < 4, (t.port p).up = false) ∧ t.tiles = s.tiles)

/-- R13, R15, R86, R170, R325 to R328, R331, R332, R337: substitution onto the lowest free spare, the promotion of a
duplex partner, a whole court onto the bench, and the court and tile restarts, which keep tile memory and which a wider
reset requested together absorbs; the requests that a restarting court had accepted draw 0x84. Where the rules leave a
point open, the clause states the model's choice (log 25, 50, 105). -/
def Obligations.SubstitutionsAndRestarts : Prop :=
  ∀ (l p c : Nat) (accepted : List Msg) (s : State), l < 1024 → p < 1088 → c < 16 → s.running = true →
    s.dbgBlock.trigEn = false →
    let fired (t : State) (n : Nat) : Prop := (t.src n).fires = (s.src n).fires + 1
    let restarted (t : State) (q : Nat) : Prop :=
      (t.tile q).mem = (s.tile q).mem ∧ (t.tile q).pc = 0 ∧ (t.tile q).rsDepth = 0 ∧ (t.tile q).en = 0x2000 ∧
        (t.tile q).act = 0 ∧ (t.tile q).d = Vector.replicate 16 0 ∧ (t.tile q).fl = {} ∧
        ((s.tile q).run = .stopped → (t.tile q).run = .stopped) ∧
        ((s.tile q).run ≠ .stopped → s.mgmt.restarting = false → (t.tile q).run = .running) ∧
        ((s.tile q).run ≠ .stopped → s.mgmt.restarting = true → (t.tile q).run = .resetWait)
    (∀ q, s.freeSpares.head? = some q → tfind? l s.gates.duplex = none → s.mgmt.restarting = false →
      ∀ old, s.physOf l = some old → (s.tile old).bad = [] → old ∉ s.faults.deadPorts → q ≠ old →
        ∃ t, exec (.tileSubstitution l false) s = .next t ∧ Moved s t l old q ∧ fired t 16) ∧
    (s.freeSpares.head? = none → tfind? l s.gates.duplex = none →
      ∀ old, s.physOf l = some old →
        ∃ t, exec (.tileSubstitution l false) s = .next t ∧ t.isFenced old = true ∧ t.physOf l = some old ∧
          t.tiles = s.tiles) ∧
    (∀ d, tfind? l s.gates.duplex = some d → d.held = [] → s.mgmt.restarting = false →
      d.auto = false →
      ∃ t, exec (.duplexPromotion l) s = .next t ∧ t.physOf l = some d.partner ∧
        t.logicalOf d.partner = some l ∧ t.isFenced d.primary = true ∧ t.capOf l = nextCap (s.capOf l) ∧
        tfind? l t.gates.duplex = none ∧ t.tiles = s.tiles ∧ fired t 16) ∧
    ((List.range 64).all (fun i => s.isFreeSpare (1024 + i)) = true → s.mgmt.restarting = false →
      ∀ i < 64, s.physOf (64 * c + i) = some (64 * c + i) →
        (∀ j < 64, s.physOf (64 * c + j) = some (64 * c + j) ∧ (s.tile (64 * c + j)).bad = [] ∧
          64 * c + j ∉ s.faults.deadPorts) →
        ∃ t, exec (.courtSubstitution c) s = .next t ∧ Moved s t (64 * c + i) (64 * c + i) (1024 + i)) ∧
    ((∀ m ∈ accepted, m ∈ s.flight ∧ s.toCourt c m = true) →
      ∃ t, exec (.courtRestart ⟨c, false, accepted⟩) s = .next t ∧ (∀ i < 64, restarted t (64 * c + i)) ∧
        t.flight = s.flight.filter (fun m => !accepted.contains m) ∧
        t.replies = s.replies ++ (s.flight.filter fun m => accepted.contains m).map (fun m =>
          { kind := .error, dstPhys := m.srcPhys, dstId := m.srcId, tag := m.tag, cap := m.cap, status := 0x84
            data := if m.kind = .event ∧ m.srcPhys = 0x7FF ∧ m.srcId = 0x400 then sliceB m.data 2 2 else [0x84, 0, 0, 0]
            badCrc := false, hub := m.hub }) ∧
        (t.disp c).en = false ∧ (t.disp c).tiles = 0 ∧ t.gates = s.gates) ∧
    ((s.tile p).run ≠ .halted →
      ∃ t, exec (.tileRestart ⟨p, false⟩) s = .next t ∧ restarted t p ∧ t.gates = s.gates ∧
        ∀ q, q ≠ p → t.tile q = s.tile q) ∧
    ((s.tile p).run = .halted → tfind? p s.faults.doubleAt = none →
      ∃ t, exec (.tileRestart ⟨p, false⟩) s = .next t ∧ restarted t p ∧ tfind? p t.faults.doubleAt = some s.wall) ∧
    (∀ t0, (s.tile p).run = .halted → tfind? p s.faults.doubleAt = some t0 →
      (s.tile p).dblAt < t0 + 200000000 → s.duplexOf p = none → s.logicalOf p = some l →
      tfind? l s.gates.duplex = none →
      exec (.tileRestart ⟨p, false⟩) s = exec (.tileSubstitution l false) s) ∧
    exec (.courtRestart ⟨c, true, accepted⟩) s = .next s ∧ exec (.tileRestart ⟨p, true⟩) s = .next s

/-- R13 to R15, R283, R398, R413, R415: cold start, device restart and management restart: what each one returns to
Cold, what it keeps, and that the firmware boots again; a device or management restart that a wider reset absorbs does nothing. Where the rules leave a point open, the clause states the
model's choice (log 2, 48, 49, 95). -/
def Obligations.DeviceResets : Prop :=
  ∀ (c : MgmtCause) (both : Bool) (s : State), s.dbgBlock.testMode = false →
    (∃ t, exec (.coldStart ⟨false, both⟩) s = .next t ∧ t.faults.absorb = both ∧ t.aon = { t.aon with count := 0, drizzle := none, wake := {} } ∧
      t.tiles = [] ∧ t.queues = [] ∧ t.chans = [] ∧ t.flight = [] ∧ t.pool = {} ∧ t.bufMem = [] ∧
      t.faults.held = [] ∧ t.mgmt.up = true ∧ t.gates.retired = s.boot.retired ∧ t.gates.offCount = [] ∧
      t.boot.bank0 = s.boot.bank0 ∧ t.boot.bank1 = s.boot.bank1 ∧ t.boot.bootRec = s.boot.record ∧ t.pace.warned = false) ∧
    (∃ t, exec (.coldStart ⟨true, both⟩) s = .next t ∧ t.dbgBlock.testMode = true ∧ t.mgmt.up = false) ∧
    (s.faults.held = [] → s.faults.absorb = false →
      ∃ t, exec .deviceRestart s = .next t ∧ t.tiles = [] ∧ t.queues = [] ∧ t.chans = [] ∧ t.flight = [] ∧
        t.pool = {} ∧ t.mgmt.up = true ∧ t.aon.count = s.aon.count ∧ t.aon.wake = s.aon.wake ∧
        t.aon.drizzle = s.aon.drizzle ∧ t.aon.snapHi = 0 ∧ t.boot.bootRec = s.boot.record ∧
        t.time.carried = true ∧ t.gates.fenced = s.gates.fenced ∧ t.gates.offCount = s.gates.offCount ∧
        ∀ n < 96, SafeCause.restart ∈ (t.pin n).causes) ∧
    (s.live = true → s.mgmt.up = true → s.mgmt.restarting = false →
      ∃ t, exec (.managementRestart ⟨c, false⟩) s = .next t ∧ t.mgmt.restarting = true ∧ t.mgmt.up = false ∧
        t.mgmt.mem = [] ∧ t.mgmt.restartAt = s.now ∧ t.mgmt.otherBank = (c == .otherBank) ∧
        t.tiles = s.tiles ∧ t.gates = s.gates ∧ t.queues = s.queues ∧ t.chans = s.chans ∧ t.fio = s.fio ∧
        t.time = s.time ∧
        ∀ m < 8, ((s.mbx m).st = 1 ∨ (s.mbx m).st = 2) →
          (t.mbx m).st = 3 ∧ memGet 0 4 (t.mbx m).resp = 0x0B) ∧
    (s.live = true → s.mgmt.restarting = true → exec (.managementRestart ⟨c, false⟩) s = .next { s with mgmt := { s.mgmt with
      otherBank := s.mgmt.otherBank || (c == .otherBank) } }) ∧
    (s.faults.absorb = true → exec .deviceRestart s = .next { s with faults := { s.faults with absorb := false } }) ∧
    exec (.managementRestart ⟨c, true⟩) s = .next s

/-! ### Power and pace -/

/-- R35 to R39, R41, R42, R44, R45, R51, R52, R57, R193: one loop period corrects the rail of every court that is
neither parked nor on its way, within the slew, and sets VDD_CIN to the highest need plus 50 mV; the pace alarm, the
start of parking, and cap action in both directions; the regulator's polls, its alert and the retry, with the PMBus
transactions that they send, the refreshed placement readings, and the wake of an island's clock. Where the rules leave
a point open, the clause states the model's choice (log 2, 37, 54, 55, 106, 107). -/
def Obligations.PaceAndRegulator : Prop :=
  (∀ (readings : List Nat) (mw : Nat) (s : State), readings.length = 70 → s.power.st = .run →
    s.dbgBlock.trigEn = false → s.faults.held = [] →
    let trimmed (item i : Nat) : Int := ((tget [] item s.boot.inForce)[i]?).getD 0
    let meter (i : Nat) : Nat := ((readings.getD i 0 : Int) * (10000 + trimmed 2 i) / 10000).toNat
    let slow (c : Nat) : Nat := ((List.range (if c = 17 then 2 else 4)).map fun m => meter (4 * c + m)).min?.getD 0
    let cap := s.pace.capTenths * 100
    let floor := s.pace.floorM * 1000
    (s.pace.silent = false → ∃ t, exec (.paceLoop readings) s = .next t ∧
      t.pace.vddCin = max 500 (min 1100 ((List.range 18).foldl (fun m c => max m (t.court c).need) 0 + 50)) ∧
      t.tiles = s.tiles ∧ t.router = s.router ∧
      ∀ c < 18,
        let v := s.court c
        let w := t.court c
        w.eff = v.eff ∧ w.target = v.target ∧ w.trim = trimmed 3 c ∧
        let free := v.parked = false ∧ v.ramp = none
        (¬ free → w.rail = v.rail ∧ w.need = v.need) ∧
        (free → 99 * v.eff ≤ 100 * slow c → 100 * slow c ≤ 104 * v.eff →
          w.need = v.rail ∧ w.rail = min v.rail (s.pace.vddCin - 50)) ∧
        (free → 100 * slow c < 99 * v.eff →
          min 1000 (v.rail + 5) ≤ w.need ∧ w.need ≤ min 1000 (v.rail + 50) ∧ w.rail ≤ w.need ∧
            w.rail ≤ max v.rail (min s.pace.vddCin s.pace.okVdd - 50)) ∧
        (free → 104 * v.eff < 100 * slow c →
          max 400 (v.rail - 50) ≤ w.need ∧ w.need ≤ max 400 (v.rail - 5) ∧ w.rail ≤ w.need) ∧
        (free → w.bias = if c < 17 ∧ w.rail < 550 then 200 else 0)) ∧
    (∀ c < 18, (s.court c).alarmed = false → (s.court c).parked = false →
      ∀ t0, (s.court c).belowSince = some t0 →
        exec (.paceAlarm c) s = .next (if t0 + 200000 ≤ s.now then
          (s.setCourt c { s.court c with alarmed := true }).fire (if c = 17 then 54 else 32 + c) else s)) ∧
    (∀ c < 17, (s.court c).parked = false → (s.court c).parkUs ≠ 0 → s.lulls c = true →
      ∀ t0, (s.court c).lullSince = some t0 → (s.court c).parkUs < (s.now - t0) / 200 →
        let v := s.court c
        exec (.courtPark c) s = .next (s.setCourt c
          { v with parked := true, ramp := some (min v.rail (v.parkMv / 5 * 5)) })) ∧
    (cap < mw → (∃ c, c < 17 ∧ floor < (s.court c).eff) →
      ∃ t, exec (.powerEstimate mw) s = .next t ∧ t.pace.estimate = mw ∧ t.pace.capping = true ∧
        (s.pace.capping = false → (t.src 49).fires = (s.src 49).fires + 1) ∧ t.court 17 = s.court 17 ∧
        ∀ c < 17, t.court c = { s.court c with eff :=
          if (s.court c).eff ≤ floor then (s.court c).eff else max floor ((s.court c).eff * 98 / 100) }) ∧
    (cap < mw → (∀ c < 17, (s.court c).eff ≤ floor) →
      ∃ t, exec (.powerEstimate mw) s = .next t ∧ (∀ c < 17, t.court c = s.court c) ∧
        t.court 17 = { s.court 17 with eff := (s.court 17).eff * 98 / 100 }) ∧
    (100 * mw < 98 * cap → s.pace.capping = true → (s.court 17).eff < (s.court 17).target →
      ∃ t, exec (.powerEstimate mw) s = .next t ∧ (∀ c < 17, t.court c = s.court c) ∧
        (s.court 17).eff < (t.court 17).eff ∧ (t.court 17).eff ≤ (s.court 17).target) ∧
    (mw ≤ cap → s.pace.capping = false → exec (.powerEstimate mw) s = .next
      { s with pace := { s.pace with estimate := mw } })) ∧
  (∀ (vout iout temp i : Nat) (mode : Byte) (fault : Bool) (busy : List Nat) (s : State), s.power.st = .run →
    s.dbgBlock.trigEn = false → s.faults.held = [] → i < 12 → busy.length = 1088 →
    let tx (cs : List PmbCmd) : List PmbTx :=
      s.pace.pmbSent ++ cs.map (pmbTx s.boot.bootRec.pmbAddr s.pace.pmbMode)
    let reads : List PmbCmd := [.readVout, .readIout, .readTemperature]
    let asks : List PmbCmd := [.statusWord, .clearFaults]
    let lost (t : State) : Prop :=
      t.pace.silent = true ∧ t.pace.vddCin = s.pace.vddCin ∧ (t.src 53).fires = (s.src 53).fires + 1 ∧
        (∀ c < 18, (t.court c).rail = min (s.court c).rail (s.pace.vddCin - 50)) ∧ t.tiles = s.tiles ∧
        t.pace.retryAt = s.now + 200000
    (s.pace.silent = false →
      let takes := s.pace.modeDue = true ∧ mode.toNat / 32 < 2
      exec (.pmbusPoll ⟨true, fault, mode⟩ vout iout temp) s = .next { s with pace := { s.pace with
        pmbFails := 0, pmbVout := vout, pmbIout := iout, pmbTemp := temp, pmbSent := tx reads
        pmbMode := if takes then mode else s.pace.pmbMode, modeDue := s.pace.modeDue && !decide takes
        okVdd := if s.pace.vddCin ≤ vout + 10 ∧ vout ≤ s.pace.vddCin + 10 then s.pace.vddCin
          else s.pace.okVdd } } ∧
      (s.pace.pmbFails = 0 → exec (.pmbusPoll ⟨false, false, mode⟩ vout iout temp) s = .next
        { s with pace := { s.pace with pmbFails := 1, pmbSent := tx (reads ++ asks) } }) ∧
      (0 < s.pace.pmbFails ∨ fault = true →
        ∃ t, exec (.pmbusPoll ⟨false, fault, mode⟩ vout iout temp) s = .next t ∧ lost t ∧
          t.pace.pmbSent = tx (reads ++ asks)) ∧
      (∃ t, exec (.pmbAlertN true) s = .next t ∧ lost t ∧ t.pace.pmbSent = tx asks)) ∧
    exec (.pmbAlertN false) s = .next { s with pace := { s.pace with pmbSent := tx asks } } ∧
    (s.pace.silent = true → s.pace.retryAt ≤ s.now →
      let sent := tx [.voutCommand s.pace.vddCin]
      exec (.regulatorRetry true) s =
        .next { s with pace := { s.pace with silent := false, pmbFails := 0, pmbSent := sent } } ∧
      exec (.regulatorRetry false) s =
        .next { s with pace := { s.pace with retryAt := s.now + 200000, pmbSent := tx [.voutCommand s.pace.vddCin, .statusWord, .clearFaults] } }) ∧
    (∃ t, exec (.placementRefresh busy) s = .next t ∧ t.pace = { s.pace with
        placeTemps := s.pace.temps, placeBusy := busy, placePaces := t.pace.placePaces } ∧
      t.pace.placePaces.length = 68 ∧ (∀ c < 17, ∀ m < 4,
        t.pace.placePaces.getD (4 * c + m) 0 = (s.court c).meters.getD m 0) ∧ t.tiles = s.tiles) ∧
    (i ∈ s.pace.wakeAsked → exec (.islandWake i) s = .next { s with pace := { s.pace with
      stoppedIslands := s.pace.stoppedIslands.filter (· != i), wakeAsked := s.pace.wakeAsked.filter (· != i)
      resync := s.pace.resync.filter (· != i) } }) ∧
    (i ∉ s.pace.wakeAsked → exec (.islandWake i) s = .next s))

/-! ### Link ports and the fabric -/

/-- R345, R346, R349, R350, R351, R353, R363, R376, R380: a port comes up or is held down, loses and regains a lane, takes
acknowledgements and credits, replays and gives up after eight replays, and sends and hears heartbeats; one of a
device marked out that has joined again is reported, and marks it in at the captain; the bits of LINK and HEARTBEAT
packets. Where the rules leave a point open, the clause states the model's choice (log 59, 111, 128, 129). -/
def Obligations.LinkPorts : Prop :=
  ∀ (p : Nat) (lane : Fin 2) (h : Heartbeat) (k : LinkPkt) (t1 t2 t3 t4 : Int) (s : State), p < 4 →
    s.running = true → s.dbgBlock.trigEn = false →
    let v := s.port p
    let f := s.fabric
    let fired (t : State) (n : Nat) : Prop := (t.src n).fires = (s.src n).fires + 1
    let heard (w : LinkPort) : LinkPort := { w with
      nbDevice := h.device, nbState := h.state, nbCap := h.dcap, nbCaptain := h.captain
      nbConfig := h.configId, lastBeat := s.now, silent := false }
    let heardBy : State := { s.setPort p (heard v) with
      fabric := { (s.setPort p (heard v)).fabric with silentDevs := tdel h.device f.silentDevs } }
    let hears (t : State) : Prop := (t.port p).nbState = h.state ∧ (t.port p).lastBeat = s.now ∧ (t.port p).silent = false
    let own (q : Nat) : Heartbeat :=
      { device := s.device, dcap := tget 1 s.device f.caps, port := q
        state := if s.faults.sentSelfOff then 2 else if f.joined = false then 3 else if f.unconfirmed then 1 else 0
        captain := f.captain.getD 0, configId := f.configId }
    let down (t : State) : Prop := t.port p = v.retrain ∧ fired t (272 + 4 * p)
    let back := h.state < 2 ∧ 2 ≤ v.nbState ∧ h.configId = f.configId ∧ h.device ∈ f.out
    let resent (u : State) : State := { u.setPort p { v with replays := v.replays + 1, progressAt := s.now } with
      fabric := { (u.setPort p { v with replays := v.replays + 1, progressAt := s.now }).fabric with
        sent := f.sent ++ v.replay.map fun x => (p, pktWire x) } }
    let x := s.device % 128
    let y := s.device / 128
    let nx := if f.configId = 0 then 128 else f.nx
    let ny := if f.configId = 0 then 128 else f.ny
    let beside :=
      (p = 0 ∧ ((0 < x ∧ h.device + 1 = s.device) ∨ (x = 0 ∧ f.wrapX = true ∧ h.device = y * 128 + (nx - 1)))) ∨
      (p = 1 ∧ ((x + 1 < nx ∧ h.device = s.device + 1) ∨ (x + 1 = nx ∧ f.wrapX = true ∧ h.device = y * 128))) ∨
      (p = 2 ∧ ((0 < y ∧ h.device + 128 = s.device) ∨ (y = 0 ∧ f.wrapY = true ∧ h.device = (ny - 1) * 128 + x))) ∨
      (p = 3 ∧ ((y + 1 < ny ∧ h.device = s.device + 128) ∨ (y + 1 = ny ∧ f.wrapY = true ∧ h.device = x)))
    (v.up = false → s.faults.backupOsc = false → s.mgmt.recovery = false →
      (h.configId = f.configId → beside → exec (.portUp p h) s = .next
        ((s.setPort p { heard v with up := true, heldDown := false, lanes := 2,
                                     tx := s.laneTx (4 + 2 * p) ++ s.laneTx (5 + 2 * p) }).fire (272 + 4 * p))) ∧
      (h.configId ≠ f.configId ∨ ¬ beside → exec (.portUp p h) s = .next
        ((s.setPort p { heard v with heldDown := true }).fire (274 + 4 * p)))) ∧
    (v.up = true →
      (v.lanes = 2 → v.lostLane = none →
        ∃ t, exec (.laneLoss p lane) s = .next t ∧ t.port p =
            { v with lanes := 1, lostLane := some lane.val, lostAt := s.now } ∧
          fired t 19 ∧ fired t (272 + 4 * p) ∧ Logged t 19 0x8014 0xFFFF 0 (2 * p + lane.val)) ∧
      (v.lanes = 1 → v.lostLane ≠ some lane.val → v.queued = [] →
        ∃ t, exec (.laneLoss p lane) s = .next t ∧ down t ∧ fired t 19) ∧
      (v.lostLane ≠ none → v.lostAt + 20000000 ≤ s.now → exec (.laneRestore p) s = .next
        ((s.setPort p { v with lanes := 2, lostLane := none }).fire (272 + 4 * p))) ∧
      (v.replay ≠ [] → v.progressAt + 800 ≤ s.now → v.replays < 8 →
        exec (.replayTimeout p) s = .next (resent s)) ∧
      (8 ≤ v.replays → v.queued = [] →
        ∃ t, exec (.replayLimit p) s = .next t ∧ down t ∧ fired t (273 + 4 * p)) ∧
      (h.state ≠ 2 ∨ v.nbState = 2 → ¬ back → exec (.heartbeat p h) s = .next heardBy) ∧
      (back → f.joined = true → s.mgmt.up = true →
        (f.isCaptain = false →
          exec (.heartbeat p h) s = .next (heardBy.member (f.captain.getD f.candidate) (.rejoined h.device))) ∧
        (s.captainNow = true → ∃ t, exec (.heartbeat p h) s = .next t ∧ hears t ∧
          h.device ∉ t.fabric.out ∧ t.fabric.noticeSeq = f.noticeSeq + 2)) ∧
      (h.state = 2 → v.nbState ≠ 2 →
        (s.mgmt.up = true → ∃ t, exec (.heartbeat p h) s = .next t ∧ hears t ∧ fired t (274 + 4 * p) ∧
          tfind? h.device t.fabric.silentDevs = some s.now ∧ h.device ∈ t.fabric.announced) ∧
        (s.mgmt.up = false → ∃ t, exec (.heartbeat p h) s = .next t ∧ hears t ∧ fired t (274 + 4 * p) ∧
          t.fabric.fwDue = f.fwDue ++ [(p, s.device, .silence h.device true)])) ∧
      (v.silent = false → v.lastBeat + 200000 ≤ s.now →
        ∃ t, exec (.neighbourSilent p) s = .next t ∧ (t.port p).silent = true ∧
          fired t (274 + 4 * p) ∧ fired t 20 ∧
          (s.mgmt.up = true → tfind? v.nbDevice t.fabric.silentDevs = some s.now) ∧
          (s.mgmt.up = false → t.fabric.fwDue = f.fwDue ++ [(p, s.device, .silence v.nbDevice false)])) ∧
      (v.delayAt = 0 ∨ v.delayAt + 12500000 ≤ s.now → exec (.delayExchange p t1 t2 t3 t4) s =
        .next (s.setPort p { v with delay := ((t4 - t1) - (t3 - t2)) / 2, delayAt := s.now })) ∧
      (k.nak = false → v.queued = [] →
        (∀ vc < 8, tget 0 vc v.freed < 4096 ∧ k.credits.getD vc 0 < 4096 ∧
          (k.credits.getD vc 0 + 4096 - tget 0 vc v.freed) % 4096 ≤
            (tget 0 vc v.sentUnits + 4096 - tget 0 vc v.freed) % 4096) →
        ∃ t, exec (.link p k) s = .next t ∧ (t.port p).up = true ∧
          (∀ vc < 8, tget 0 vc (t.port p).freed = k.credits.getD vc 0) ∧
          (∀ n, v.replay.findIdx? (fun x => x.seq == k.ackSeq) = some n →
            (t.port p).replay = v.replay.drop (n + 1) ∧ (t.port p).replays = 0) ∧
          (v.replay.findIdx? (fun x => x.seq == k.ackSeq) = none → (t.port p).replay = v.replay)) ∧
      (∀ vc < 8, tget 0 vc v.sentUnits = 0 → tget 0 vc v.freed = 0 → 0 < k.credits.getD vc 0 →
        k.credits.getD vc 0 < 4096 → v.queued = [] →
        ∃ t, exec (.link p k) s = .next t ∧ down t ∧ fired t (273 + 4 * p))) ∧
    (f.beatAt = 0 ∨ f.beatAt + 50000 ≤ s.now → ∃ t, exec .heartbeatSend s = .next t ∧ t.fabric.beatAt = s.now ∧
      (∀ q < 4, t.port q = if (s.port q).up then { s.port q with sentBeat := some (own q) } else s.port q) ∧
      t.fabric.beats = f.beats ++
        ((List.range 4).filter fun q => (s.port q).up).map fun q => (s.now, q, beatWire (own q))) ∧
    (let w := leNum ((linkWire k).take 16)
     w % 2 ^ 8 = 8 ∧ (linkWire k).length = 20 ∧ w / 2 ^ 8 % 2 ^ 12 = k.ackSeq % 4096 ∧
        w / 2 ^ 20 % 2 = (if k.nak then 1 else 0) ∧ w / 2 ^ 21 % 8 = 0 ∧
        (∀ vc < 8, w / 2 ^ (24 + 12 * vc) % 4096 = k.credits.getD vc 0 % 4096) ∧ w / 2 ^ 120 = 0) ∧
    (let w := leNum ((beatWire h).take 16)
     w % 2 ^ 8 = 9 ∧ (beatWire h).length = 20 ∧ w / 2 ^ 8 % 2 ^ 14 = h.device % 2 ^ 14 ∧
        w / 2 ^ 22 % 2 ^ 8 = h.dcap % 2 ^ 8 ∧ w / 2 ^ 30 % 4 = h.port % 4 ∧ w / 2 ^ 32 % 4 = h.state % 4 ∧
        w / 2 ^ 34 % 2 ^ 14 = h.captain % 2 ^ 14 ∧ w / 2 ^ 48 % 2 ^ 32 = h.configId % 2 ^ 32 ∧ w / 2 ^ 80 = 0)

/-- R146, R347, R348, R350, R352, R355, R358, R361, R371, R378, R379: a request packet is served on the device, passed
on towards its destination, answered 0x86, dropped for its cap, or dropped at the port with one LINK packet that asks for
a resend (NAK); a response completes its part; beacons leave the captain each 62.5 ms and are taken on the parent port
alone; the fields of a packet's header and its CRC-32. Where the rules leave a point open, the clause states the model's
choice (log 57, 64, 108). -/
def Obligations.FabricPackets : Prop :=
  ∀ (p residence : Nat) (k : Packet) (s : State), p < 4 → s.running = true → s.dbgBlock.trigEn = false →
    let v := s.port p
    let f := s.fabric
    let units := (20 + k.data.length + 31) / 32
    let took : LinkPort := { v with
      rxSeq := (v.rxSeq + 1) % 4096, nakSent := false, wantAck := true
      rxFreed := tput k.vc ((tget 0 k.vc v.rxFreed + units) % 4096) v.rxFreed }
    let expected := v.up = true ∧ k.badCrc = false ∧ k.seq = v.rxSeq
    let good := expected ∧ k.dcap = tget 1 k.src f.caps ∧ k.src ∉ f.out
    let told := (tfind? k.src f.sentOffAt).any fun t => decide (s.now < t + 200000)
    let x := s.device % 128
    let y := s.device / 128
    let way := if k.dst % 128 ≠ x then (if x < k.dst % 128 then 1 else 0) else if y < k.dst / 128 then 3 else 2
    let line := f.wrapX = false ∧ f.wrapY = false ∧ f.overrides = [] ∧ f.aliases = []
    let idle (q : Nat) : Prop := (s.port q).up = true ∧ (s.port q).queued = [] ∧ (s.port q).replay = [] ∧
      ∀ vc < 8, tget 0 vc (s.port q).sentUnits = 0 ∧ tget 0 vc (s.port q).freed = 0
    (k.typ = 0 → good → k.dst = s.device → k.kind < 6 → k.kind ≠ 3 →
      (∀ tag, f.hubTag = some tag →
        ∃ t, exec (.req p k) s = .next t ∧ t.port p = took ∧
          t.fabric.serving = f.serving ++ [⟨tag, p, k, 0, s.now⟩] ∧ t.fabric.nextHubTag = (tag + 1) % 256 ∧
          ∃ m, t.flight = s.flight ++ [m] ∧ m.cap = 0 ∧ m.srcPhys = 0x7FF ∧ m.addr = k.addr ∧ m.space = k.space ∧
            m.data = k.data ∧ m.srcId = k.srcId ∧ m.dev = s.device ∧ m.tag = tag)) ∧
    (k.typ = 0 → expected → ¬ good → f.hubTag ≠ none →
      ∃ t, exec (.req p k) s = .next t ∧ (t.port p).rxSeq = (v.rxSeq + 1) % 4096 ∧ (t.port p).nakSent = false ∧
        t.fabric.dropped = f.dropped + 1 ∧ t.flight = s.flight ∧ t.replies = s.replies ∧
        (told = true → t.port p = took ∧ t.fabric.sent = f.sent) ∧
        (told = false → tfind? k.src t.fabric.sentOffAt = some s.now)) ∧
    (k.typ = 0 → v.up = true → (k.badCrc = true ∨ k.seq ≠ v.rxSeq) → f.hubTag ≠ none →
      ∃ t, exec (.req p k) s = .next t ∧ t.port p = { v with nakSent := true } ∧ t.flight = s.flight ∧
        t.replies = s.replies ∧ (v.nakSent = true → t.fabric.sent = f.sent) ∧
        (v.nakSent = false → t.fabric.sent = f.sent ++ [(p, linkWire
          { ackSeq := (v.rxSeq + 4095) % 4096, nak := true
            credits := (List.range 8).map fun vc => tget 0 vc v.rxFreed })])) ∧
    (k.typ ≤ 1 → good → k.dst ≠ s.device → line → k.dst ∉ f.out → way ≠ p → way < 4 → idle way →
      k.data.length ≤ 512 → k.vc < 8 →
      let forwarded (t : State) : Prop := t.port p = took ∧ t.fabric.sent = f.sent ++ [(way, pktWire { k with
        seq := (s.port way).txSeq
        vc := (if k.typ = 0 then 4 else 6) + (if p < 2 ∧ 2 ≤ way then 0 else k.vc % 2) })]
      (k.typ = 0 → ∃ t, exec (.req p k) s = .next t ∧ forwarded t) ∧
      (k.typ = 1 → ∃ t, exec (.rsp p k) s = .next t ∧ forwarded t)) ∧
    (k.typ = 1 → good → k.dst = s.device →
      ∀ r, tfind? k.ftag f.ftags = some r → ∀ q, f.remotes = [q] → q.id = r.parent → q.parts = 1 → r.part = 0 →
        q.statuses = [] → q.datas = [] →
        ∃ t, exec (.rsp p k) s = .next t ∧ t.fabric.remotes = [] ∧ tfind? k.ftag t.fabric.ftags = none ∧
          t.replies = s.replies ++ [{
            kind := if k.addr % 256 = 0 then .done else .error, dstPhys := q.srcPhys, dstId := q.srcId
            tag := q.tag, cap := q.cap, status := k.addr % 256
            data := if k.addr % 256 = 0 then k.data else [BitVec.ofNat 8 k.addr, 0, 0, 0], badCrc := false }]) ∧
    (k.typ = 2 → good → s.time.mode ≠ 2 → s.parentPort = some p →
      f.lastBeacon ≠ some (leAt k.data 0 4) →
      ∃ t, exec (.beacon p k residence) s = .next t ∧ t.fabric.lastBeacon = some (leAt k.data 0 4) ∧
        t.time = s.time) ∧
    (k.typ = 2 → good → s.parentPort ≠ some p →
      exec (.beacon p k residence) s = .next (s.setPort p took)) ∧
    (f.isCaptain = true → f.beaconAt = 0 ∨ f.beaconAt + 12500000 ≤ s.now →
      ∃ t, exec .beaconSend s = .next t ∧ t.fabric.beaconSeq = (f.beaconSeq + 1) % 2 ^ 32 ∧
        t.fabric.beaconAt = s.now ∧ t.time = s.time ∧
        (line → (∀ q < 4, (s.port q).up = decide (q = p)) → idle p →
          t.fabric.sent = f.sent ++ [(p, pktWire
            { typ := 2, vc := 2, seq := v.txSeq, dst := s.device, src := s.device, dcap := tget 1 s.device f.caps
              kind := 0, ftag := 0, srcId := 0, space := 0, addr := 0, len := 25, badCrc := false
              data := leBytes f.beaconSeq 4 ++ leBytes s.time.sec 6 ++ leBytes s.time.ns 4 ++ leBytes 0 8 ++
                leBytes s.device 2 ++ [if s.time.unknown then 1 else 0] })])) ∧
    (let w := leNum (pktHeader k)
     let plain := k.typ ≠ 2 ∧ k.typ ≠ 3
     pktWire k = pktHeader k ++ k.data ++ leBytes (crc32 (pktHeader k ++ k.data)).toNat 4 ∧
        (pktHeader k).length = 16 ∧ w % 16 = k.typ % 16 ∧ w / 2 ^ 4 % 8 = k.vc % 8 ∧ w / 2 ^ 7 % 2 = 0 ∧
        w / 2 ^ 8 % 2 ^ 12 = k.seq % 2 ^ 12 ∧ w / 2 ^ 20 % 2 ^ 14 = k.dst % 2 ^ 14 ∧
        w / 2 ^ 34 % 2 ^ 14 = k.src % 2 ^ 14 ∧ w / 2 ^ 48 % 2 ^ 8 = k.dcap % 2 ^ 8 ∧
        w / 2 ^ 56 % 2 ^ 10 = k.len % 2 ^ 10 ∧
        (k.typ = 2 ∨ k.typ = 3 → w / 2 ^ 66 = 0) ∧
        (plain → w / 2 ^ 66 % 2 ^ 4 = k.kind % 2 ^ 4 ∧ w / 2 ^ 70 % 2 ^ 12 = k.ftag % 2 ^ 12 ∧
          w / 2 ^ 82 % 2 ^ 12 = k.srcId % 2 ^ 12 ∧ w / 2 ^ 94 % 2 = k.space % 2 ∧ w / 2 ^ 95 % 2 = 0 ∧
          w / 2 ^ 96 = k.addr % 2 ^ 32))

/-- R300, R349, R352, R365 to R373, R375 to R377: statuses, confirmations and redirections, the loss of confirmation and
what it holds safe, the election and fall of a captain, notices, reports to the captain and full tables, the MEMBER
packets that carry them, and the captain's substitution of a lost member. Where the rules leave a point open, the clause
states the model's choice (log 2, 58, 60, 61, 126, 127). -/
def Obligations.Membership : Prop :=
  ∀ (number cap epoch noticeSeq seq d h dest : Nat) (kind : NoticeKind) (sets : FabSets) (caps : List (Nat × Nat)) (map : List Nat)
    (a : MemberIn) (b : MemberBody) (s : State), a.port < 4 → s.running = true → s.dbgBlock.trigEn = false →
    let p := a.port
    let v := s.port p
    let f := s.fabric
    let src := a.src
    let units := (20 + a.data.length + 31) / 32
    let u : State := s.setPort p { v with
      rxSeq := (v.rxSeq + 1) % 4096, nakSent := false, wantAck := true
      rxFreed := tput a.vc ((tget 0 a.vc v.rxFreed + units) % 4096) v.rxFreed }
    let uf (g : Fabric) : State := { u with fabric := g }
    let fab (g : Fabric) : State := { s with fabric := g }
    let arrives := v.up = true ∧ a.badCrc = false ∧ a.seq = v.rxSeq ∧ a.dcap = tget 1 src f.caps ∧ src ∉ f.out ∧
      a.dst = s.device
    let recent := (f.members.filter fun m => m == src ||
      (tfind? m f.gotStatus).any fun t => decide (s.now ≤ t + 400 * f.statusPeriod)).length
    let majority := f.members.length < 2 * recent
    let due := f.sentStatus = [] ∨ f.statusAt + 200 * f.statusPeriod ≤ s.now
    let n := f.statusNo + 1
    let got : Fabric := { u.fabric with gotStatus := tput src s.now f.gotStatus }
    let x := s.device % 128
    let y := s.device / 128
    let way := if dest % 128 ≠ x then (if x < dest % 128 then 1 else 0) else if y < dest / 128 then 3 else 2
    (dest = s.device → s.member dest b = s) ∧
    (dest ≠ s.device → f.wrapX = false → f.wrapY = false → f.overrides = [] → (s.port way).up = true →
      (s.port way).queued = [] → (s.port way).replay = [] →
      (∀ vc < 8, tget 0 vc (s.port way).sentUnits = 0 ∧ tget 0 vc (s.port way).freed = 0) →
      ∃ x : Packet, (s.member dest b).fabric.sent = f.sent ++ [(way, pktWire x)] ∧ x.typ = 3 ∧ x.vc = 0 ∧
        x.seq = (s.port way).txSeq ∧ x.dst = dest ∧ x.src = s.device ∧ x.dcap = tget 1 s.device f.caps ∧
        x.len = x.data.length ∧ x.data.length ≤ 512 ∧ x.body = some b ∧
        ((s.member dest b).port way).txSeq = ((s.port way).txSeq + 1) % 4096) ∧
    (f.joined = true → due → f.unanswered < 3 → f.candidate ≠ s.device →
      exec .statusSend s = .next ((fab { f with
        statusNo := n, unanswered := f.unanswered + 1, statusAt := s.now
        sentStatus := (tput n s.now f.sentStatus).filter fun e => decide (n < e.1 + 1024) }).member f.candidate
          (.status n))) ∧
    (f.joined = true → arrives → src ∈ f.members → src ≠ s.device →
      (f.isCaptain = true → majority → exec (.status a number) s = .next
        ((uf got).member src (.confirm number (tget 1 src f.caps) f.epoch f.noticeSeq))) ∧
      (f.isCaptain = true → ¬ majority → exec (.status a number) s = .next (uf got)) ∧
      (f.isCaptain = false → f.captain = none → majority → f.silentDevs = [] →
        exec (.status a number) s = .next ((uf { got with
          isCaptain := true, captain := some s.device, epoch := f.epoch + 1, electedAt := s.now }).member src
            (.confirm number (tget 1 src f.caps) (f.epoch + 1) f.noticeSeq))) ∧
      (∀ c, f.isCaptain = false → f.captain = some c → c ≠ s.device → f.candidate ≠ s.device →
        exec (.status a number) s = .next ((uf got).member src (.redirect c)))) ∧
    (f.joined = true → arrives → noticeSeq ≤ f.noticeSeq →
      ∀ t0, tfind? number f.sentStatus = some t0 →
        let at_ := max f.confirmedAt t0
        let fresh := s.now ≤ at_ + 200 * f.holdUs
        (cap ≠ tget 1 s.device f.caps → exec (.confirm a number cap epoch noticeSeq) s = .next
          (uf { u.fabric with unanswered := min f.unanswered (f.statusNo - number) })) ∧
        (cap = tget 1 s.device f.caps → f.joinBox = none →
          ∃ t, exec (.confirm a number cap epoch noticeSeq) s = .next t ∧ t.fabric.confirmedAt = at_ ∧
            t.fabric.unanswered = min f.unanswered (f.statusNo - number) ∧ t.fabric.captain = some src ∧
            t.fabric.epoch = epoch ∧ t.fabric.sent = f.sent ∧
            (t.fabric.unconfirmed = true ↔ f.unconfirmed = true ∧ ¬ fresh) ∧
            (fresh → f.everConfirmed = false → t.fabric.everConfirmed = true ∧ ∀ i < 96,
              SafeCause.membership ∉ (t.pin i).causes ∧ SafeCause.sendOff ∉ (t.pin i).causes) ∧
            (f.everConfirmed = true → t.fio = s.fio))) ∧
    (f.joined = true → arrives → f.candidate = src → exec (.redirect a d) s = .next (uf { u.fabric with
      candidate := d, captain := some d, unanswered := 0 })) ∧
    (f.joined = true → arrives → f.portTo s.device src = p → src ≠ s.device → f.noticeSeq < seq →
      (s.mgmt.up = true → seq = f.noticeSeq + 1 → ∃ t, exec (.notice a seq (.change kind)) s = .next t ∧ t.fabric.noticeSeq = seq ∧
        (kind = .cap d cap → tget 1 d t.fabric.caps = cap) ∧ (kind = .mark d true → d ∈ t.fabric.out) ∧
        ((∀ q < 4, q ≠ p → (s.port q).up = false) → t.fabric.sent = f.sent)) ∧
      (s.mgmt.up = true → f.noticeSeq + 1 < seq → (∀ q < 4, q ≠ p → (s.port q).up = false) →
        exec (.notice a seq (.change kind)) s = .next ((uf { u.fabric with needTables := true }).member src .askTables)) ∧
      (s.mgmt.up = false → ∃ t, exec (.notice a seq (.change kind)) s = .next t ∧
        t.fabric.fwDue = f.fwDue ++ [(p, src, .notice seq kind)] ∧ t.fabric.noticeSeq = f.noticeSeq)) ∧
    (f.joined = true → arrives → f.portTo s.device src ≠ p ∨ seq ≤ f.noticeSeq →
      exec (.notice a seq (.change kind)) s = .next u) ∧
    (s.captainNow = true → s.mgmt.up = true →
      (arrives → ∃ t, exec (.notice a seq (.leave d)) s = .next t ∧ d ∉ t.fabric.members ∧
        t.fabric.noticeSeq = f.noticeSeq + 1) ∧
      (arrives → exec (.notice a seq .askTables) s = .next (u.member src (.tables
        { caps := f.caps, out := f.out, members := f.members, seq := f.noticeSeq
          aliases := f.aliases.map fun e => (e.dev, e.host, e.courts) }))) ∧
      (arrives → d ∈ f.members → d ∉ f.out → d ≠ s.device →
        ∃ t, exec (.notice a seq (.silence d true)) s = .next t ∧ d ∈ t.fabric.out ∧ d ∈ t.fabric.announced ∧
          tget 1 d t.fabric.caps = nextCap (tget 1 d f.caps)) ∧
      (arrives → d ∈ f.out → ∃ t, exec (.notice a seq (.rejoined d)) s = .next t ∧ d ∉ t.fabric.out ∧
        t.fabric.noticeSeq = f.noticeSeq + 2)) ∧
    (arrives → s.mgmt.up = true → ∃ t, exec (.sentOff a) s = .next t ∧
      (t.src (274 + 4 * p)).fires = (s.src (274 + 4 * p)).fires + 1 ∧
      ∀ i < 96, SafeCause.sendOff ∈ (t.pin i).causes) ∧
    (f.joined = true → f.unconfirmed = false → s.dbgBlock.frost = false → f.confirmedAt + 200 * f.holdUs < s.now →
      ∃ t, exec .membershipUnconfirmed s = .next t ∧ t.fabric.unconfirmed = true ∧
        ∀ i < 96, SafeCause.membership ∈ (t.pin i).causes) ∧
    (f.joined = true → due → 3 ≤ f.unanswered →
      ∃ t, exec .candidateMove s = .next t ∧ t.fabric.unanswered = 0 ∧
        (d ∈ f.members → f.candidate < d → (∀ m ∈ f.members, f.candidate < m → d ≤ m) →
          t.fabric.candidate = d) ∧
        (d ∈ f.members → (∀ m ∈ f.members, m ≤ f.candidate ∧ d ≤ m) → t.fabric.candidate = d)) ∧
    (f.isCaptain = true → f.gotStatus = [] → exec .captainQuorumLoss s = .next (fab { f with
      isCaptain := false, captain := none })) ∧
    (f.joined = true → f.isCaptain = true → s.mgmt.up = true → d ∈ f.members → d ∉ f.out → d ∈ f.announced →
      d ≠ s.device → h ≠ s.device → (∀ m ∈ f.members, ∃ t, tfind? m f.gotStatus = some t ∧ s.now ≤ t) →
      ∃ w : State, exec (.fabricSubstitution d (some (h, map))) s = .next (w.member h (.takeover d)) ∧ d ∈ w.fabric.out ∧
        tget 1 d w.fabric.caps = nextCap (tget 1 d f.caps) ∧ w.fabric.hostOf d = h ∧
        w.fabric.noticeSeq = f.noticeSeq + 3) ∧
    (f.joined = true → s.mgmt.up = true → arrives → f.hostOf d = s.device → f.aliasOf d ≠ none →
      ∀ e, f.standby.find? (fun e => e.member == d) = some e → s.gates.duplex = [] →
        ∃ t, exec (.takeover ⟨a, d⟩) s = .next t ∧ d ∈ t.fabric.takeovers ∧
          ∀ l < 1024, l / 64 ∈ e.courts → ∀ i, s.boot.image l = some i →
            ∀ q, s.physOf l = some q → (∀ j < 1024, j ≠ l → s.physOf j ≠ some q) → (s.tile q).run = .stopped →
              (t.tile q).mem = i ∧ (t.tile q).run = .running ∧ (t.tile q).pc = 0) ∧
    (f.joined = true → s.mgmt.up = true → arrives → f.needTables = true ∨ f.noticeSeq < seq →
      ∃ t, exec (.fullTables a caps sets seq) s = .next t ∧ (caps = [(d, cap)] → tget 1 d t.fabric.caps = cap) ∧
        t.fabric.out = sets.out ∧ t.fabric.members = sets.members ∧
        t.fabric.aliases = (sets.aliases.map fun e => ⟨e.1, e.2.1, e.2.2⟩) ∧
        t.fabric.noticeSeq = seq ∧ t.fabric.needTables = false)

/-! ### Mailboxes -/

/-- R385 to R388, R390, R392, R393, R397, R398: the doorbell, aborts, the take and release of a shared mailbox, the
firmware's checks in their order, and what a response is: its header and payload, STATE Complete and the
completion source. Where the rules leave a point open, the clause states the model's choice (log 2, 65, 123). -/
def Obligations.MailboxRows : Prop :=
  ∀ (m id dev status : Nat) (v : W32) (payload : List Byte) (s : State), m < 8 → s.power.st = .run →
    s.dbgBlock.trigEn = false → payload.length ≤ 4080 →
    let x := s.mbx m
    let word (o n : Nat) : Nat := leNum (memRead 0 x.cmd o n)
    let shared := 3 ≤ m ∧ m ≤ 6
    let submitter : Prop := if shared then x.holder = some (dev, id)
      else dev = s.device ∧ id = (if m < 2 then 0x401 else if m = 2 then 0x402 else 0x403)
    let outstanding := x.st = 1 ∨ x.st = 2
    let fired (t : State) (n : Nat) : Prop := (t.src n).fires = (s.src n).fires + 1
    let foreign : State := s.setMbx m { x with foreign := true }
    let elapsed := min 0xFFFFFFFF ((s.now - x.bellAt) / 200)
    let complete (t : State) (st : Nat) (p : List Byte) : Prop :=
      (t.mbx m).st = 3 ∧ (t.mbx m).aborting = false ∧ (t.mbx m).tag = x.tag ∧
        memRead 0 (t.mbx m).resp 0 16 = leBytes (word 0 2) 2 ++ leBytes x.tag 2 ++ leBytes st 1 ++ [0] ++
          leBytes p.length 2 ++ leBytes elapsed 4 ++ [0, 0, 0, 0] ∧
        memRead 0 (t.mbx m).resp 16 p.length = p ∧
        (word 6 2 % 2 = 0 → fired t (81 + 2 * m)) ∧ (∀ n, n ≠ 81 + 2 * m → t.src n = s.src n) ∧
        (∀ n, n ≠ m → t.mbx n = s.mbx n) ∧ t.tiles = s.tiles
    let known := word 0 2 ∈ [0x0001, 0x0002, 0x0003, 0x000F, 0x0B01, 0x0B02] ∨
      (0x0101 ≤ word 0 2 ∧ word 0 2 ≤ 0x0106) ∨ (0x0201 ≤ word 0 2 ∧ word 0 2 ≤ 0x0204) ∨
      (0x0301 ≤ word 0 2 ∧ word 0 2 ≤ 0x0307) ∨ (0x0401 ≤ word 0 2 ∧ word 0 2 ≤ 0x0404) ∨
      (0x0501 ≤ word 0 2 ∧ word 0 2 ≤ 0x0505) ∨ (0x0601 ≤ word 0 2 ∧ word 0 2 ≤ 0x0603) ∨
      (0x0701 ≤ word 0 2 ∧ word 0 2 ≤ 0x0703) ∨ (0x0801 ≤ word 0 2 ∧ word 0 2 ≤ 0x0803) ∨
      (0x0901 ≤ word 0 2 ∧ word 0 2 ≤ 0x0904) ∨ (0x0A01 ≤ word 0 2 ∧ word 0 2 ≤ 0x0A03)
    let abortable := word 0 2 ≠ 0x000F ∧ word 0 2 ≠ 0x0505
    let asked (st : Nat) : State := s.setMbx m { x with
      aborting := true, abortAt := s.now, endAs := if word 0 2 ≠ 0x000F ∧ word 0 2 ≠ 0x0505 then some st else none }
    let released (e : Bool) (t : State) : Prop :=
      t.mbx m = { x with holder := none, st := 0, lastAct := s.now, expired := e } ∧
        (m = 5 ∨ m = 6 → (t.src (81 + 2 * m)).kind = 0 ∧ (t.src (81 + 2 * m)).pend = false)
    let serves := s.mgmt.up = true ∧ s.mgmt.restarting = false ∧ s.running = true
    let writes := ∀ off ∈ [0, 8, 0x18], s.reaches (s.whoOn id dev) (bellReg m off) 4 true = true
    let asks (phys tag : Nat) : Prop :=
      s.reaches (s.askerWho (.access id phys tag) dev) (bellReg m 0x10) 4 false = true
    (s.genuine (s.whoOn id dev) = false → exec (.mbxDoorbell id dev m v) s = .next s ∧
      exec (.mbxAbort id dev m) s = .next s ∧ exec (.mbxGive id dev m) s = .next s) ∧
    (¬ submitter → writes → exec (.mbxDoorbell id dev m v) s = .next foreign ∧
      exec (.mbxAbort id dev m) s = .next foreign ∧ exec (.mbxGive id dev m) s = .next foreign) ∧
    (submitter → writes →
      (v.getLsbD 0 = false → exec (.mbxDoorbell id dev m v) s = .next s) ∧
      (v.getLsbD 0 = true → outstanding →
        exec (.mbxDoorbell id dev m v) s = .next (s.setMbx m { x with overrun := true })) ∧
      (v.getLsbD 0 = true → ¬ outstanding → exec (.mbxDoorbell id dev m v) s = .next ((s.setMbx m { x with
        st := 1, tag := word 2 2, bellAt := s.now, aborting := false, endAs := none }).fire (80 + 2 * m))) ∧
      (outstanding → x.aborting = false → exec (.mbxAbort id dev m) s = .next (asked 2)) ∧
      (¬ outstanding → exec (.mbxAbort id dev m) s = .next s) ∧
      (shared → ¬ outstanding → ∃ t, exec (.mbxGive id dev m) s = .next t ∧ released x.expired t) ∧
      (outstanding → exec (.mbxGive id dev m) s = .next s)) ∧
    (shared → x.holder = none → x.lastReads = [] → dev = s.device → id < 1024 → ∀ phys tag, asks phys tag → ∃ t, exec (.mbxTake (.access id phys tag) dev m) s = .next t ∧ (t.mbx m).holder = some (dev, id) ∧
        (t.mbx m).holderCap = s.capOf id ∧
        (m = 5 ∨ m = 6 → (t.src (81 + 2 * m)).kind = 1 ∧ (t.src (81 + 2 * m)).tile = id ∧
          (t.src (81 + 2 * m)).line = 7) ∧
        ∀ r, t.replies.getLast? = some r → r.data = leBytes (2 ^ 31 + dev * 2 ^ 16 + id) 4) ∧
    (shared → x.lastReads = [] → ∀ h, x.holder = some h → h ≠ (dev, id) → ∀ phys tag, asks phys tag →
      ∃ t, exec (.mbxTake (.access id phys tag) dev m) s = .next t ∧ (t.mbx m).holder = some h ∧
        ∀ r, t.replies.getLast? = some r → r.data = leBytes (h.1 * 2 ^ 16 + h.2) 4) ∧
    (shared → x.holder ≠ none → ¬ outstanding → serves → x.lastAct + 200000000 ≤ s.now →
      ∃ t, exec (.holderExpiry m) s = .next t ∧ released true t) ∧
    (serves → s.mgmt.recovery = false → x.st = 1 → x.endAs = none → Memory.wf 0 x.resp = true →
      let taken := exec (.commandTake m) s = .next (s.setMbx m { x with st := 2 })
      let refused (st : Nat) : Prop := ∃ t, exec (.commandTake m) s = .next t ∧ complete t st []
      let badHead := 2 ≤ word 6 2 ∨ word 12 4 ≠ 0 ∨ 4080 < word 4 2
      (badHead → refused 4) ∧
      (¬ badHead → ∀ h, x.holder = some h → shared → h.1 = s.device → x.holderCap ≠ s.capOf h.2 → refused 12) ∧
      (¬ badHead → ¬ shared → ¬ known → refused 3) ∧
      (¬ badHead → m < 2 → known → taken)) ∧
    (serves → s.mgmt.recovery = false → outstanding → Memory.wf 0 x.resp = true →
      (∀ st, x.endAs = some st → ∃ t, exec (.commandTake m) s = .next t ∧ complete t st []) ∧
      (x.aborting = false → abortable → word 8 4 ≠ 0 → word 8 4 ≤ (s.now - x.bellAt) / 200 →
        ∃ t, exec (.deadlineExpiry m) s = .next t ∧ complete t 8 [])) ∧
    (outstanding → x.aborting = true → x.abortAt + 1000000 ≤ s.now → serves → Memory.wf 0 x.resp = true →
      ∃ t, exec (.hwAborted m) s = .next t ∧ (t.mbx m).st = 3 ∧ memGet 0 4 (t.mbx m).resp = 0x0B ∧
        t.mgmt.restarting = true ∧ (word 6 2 % 2 = 0 → fired t (81 + 2 * m))) ∧
    (Memory.wf 0 x.resp = true → complete (s.finishMbx m status payload) status payload)

/-- R400, R401, R403, R408, R43, R45: the commands that report, and those that set paces, the power cap and the owners
of resources: what each does on arguments in range, and the refusal of the others. Where the rules leave a point
open, the clause states the model's choice (log 19, 23, 56). -/
def Obligations.IdentityAndClaimCommands : Prop :=
  ∀ (m : Nat) (p : List Byte) (s : State), Memory.wf 0 (s.mbx m).resp = true →
    let byte (o : Nat) : Nat := (p.getD o 0).toNat
    let two (o : Nat) : Nat := byte o + 256 * byte (o + 1)
    let four (o : Nat) : Nat := two o + 65536 * two (o + 2)
    let done (t : State) : Prop := (t.mbx m).st = 3 ∧ memGet 0 4 (t.mbx m).resp = 0
    let owner (u : State) (k i : Nat) : Nat := match k with
      | 1 => (u.pin i).owner
      | 2 => (u.timer i).owner
      | 3 => (u.ser i).owner
      | _ => (u.chan i).owner
    let count (k : Nat) : Nat := match k with
      | 1 => 96
      | 2 => 32
      | 3 => 8
      | _ => 128
    let target : List Byte := leBytes 1024 2 ++ [0xA1, 0x01] ++ leBytes s.device 2 ++ [0, 0] ++
      leBytes Config.serial.toNat 8 ++ leBytes s.fwVersion 4 ++ leBytes s.mgmt.bank 1 ++
      leBytes (b2n s.mgmt.trial) 1 ++ [0, 0]
    (Serving s m 0x0001 p → if p = [] then Ends (.getIdentity m) s s m 0 target
      else Ends (.getIdentity m) s s m 4 []) ∧
    (Serving s m 0x0002 p → p.length = 2 → two 0 % 8 = 0 → two 0 < 2048 →
      ∃ t, exec (.getCapabilities m) s = .next t ∧ (t.mbx m).st = 3 ∧ memGet 0 4 (t.mbx m).resp = 0 ∧
        leNum (memRead 0 (t.mbx m).resp 6 2) = 2048 - two 0 ∧ t.tiles = s.tiles ∧
        (two 0 ≤ 0x40 → memRead 0 (t.mbx m).resp (16 + (0x40 - two 0)) 8 = [1, 0, 1, 8, 0x60, 0, 1, 0]) ∧
        (two 0 ≤ 0x48 → memRead 0 (t.mbx m).resp (16 + (0x48 - two 0)) 24 = target)) ∧
    (Serving s m 0x0003 p → Ends (.echo m) s s m 0 p) ∧
    (Serving s m 0x000F p → p.length = 4 → byte 0 < 8 → byte 1 = 0 → byte 0 ≠ m → ¬ (m = 3 ∨ m = 4) →
      let y := s.mbx (byte 0)
      ((y.st = 1 ∨ y.st = 2) → y.tag = two 2 → y.aborting = false →
        leNum (memRead 0 y.cmd 0 2) ≠ 0x000F → leNum (memRead 0 y.cmd 0 2) ≠ 0x0505 →
        Ends (.abort m) s (s.setMbx (byte 0) { y with aborting := true, abortAt := s.now, endAs := some 2 }) m 0 []) ∧
      (¬ ((y.st = 1 ∨ y.st = 2) ∧ y.tag = two 2) → Ends (.abort m) s s m 10 [])) ∧
    (Serving s m 0x0104 p → p.length = 14 → four 0 < 2 ^ 18 →
      (four 0 % 2 ^ 17 ≠ 0 → 45000 ≤ four 4 ∧ four 4 ≤ 820000) →
      (four 0 / 2 ^ 17 % 2 = 1 → 100000 ≤ four 4 ∧ four 4 ≤ 800000) →
      (two 8 = 0xFFFF ∨ 400 ≤ two 8 ∧ two 8 ≤ 600) → (four 10 = 0xFFFFFFFF ∨ four 10 ≤ 1000000) →
      ∃ t, exec (.setPaceTarget m) s = .next t ∧ (t.mbx m).st = 3 ∧ t.tiles = s.tiles ∧
        ∀ c < 18, t.court c = if four 0 / 2 ^ c % 2 = 1 then { s.court c with
          target := four 4, eff := four 4
          parkMv := if two 8 = 0xFFFF ∨ c = 17 then (s.court c).parkMv else two 8
          parkUs := if four 10 = 0xFFFFFFFF ∨ c = 17 then (s.court c).parkUs else four 10 } else s.court c) ∧
    (Serving s m 0x0104 p → p.length = 14 → four 0 % 2 ^ 17 ≠ 0 → (four 4 < 45000 ∨ 820000 < four 4) →
      Ends (.setPaceTarget m) s s m 4 []) ∧
    (Serving s m 0x0105 p → p.length = 4 →
      if 50 ≤ two 0 ∧ two 0 ≤ 450 ∧ 45 ≤ two 2 ∧ two 2 ≤ 600 then
        Ends (.setPowerCap m) s { s with pace := { s.pace with capTenths := two 0, floorM := two 2 } } m 0 []
      else Ends (.setPowerCap m) s s m 4 []) ∧
    (p.length = 8 → 1 ≤ byte 0 → byte 0 ≤ 4 → byte 1 = 0 → 1 ≤ two 4 → two 2 + two 4 ≤ count (byte 0) →
      let k := byte 0
      let mine (o : Nat) : Bool := (List.range (two 4)).all fun i => owner s k (two 2 + i) == o
      let ours := (List.range (two 4)).all fun i =>
        owner s k (two 2 + i) == two 6 || owner s k (two 2 + i) == 0x4FF
      (Serving s m 0x0201 p → (two 6 < 0x400 ∨ 0x401 ≤ two 6 ∧ two 6 ≤ 0x404) →
        (ours = true → ∃ t, exec (.claim m) s = .next t ∧ done t ∧
          (∀ i < 128, i < count k → owner t k i =
            if two 2 ≤ i ∧ i < two 2 + two 4 then two 6 else owner s k i) ∧
          (∀ i < 96, (t.pin i).cfg = (s.pin i).cfg ∧ (t.pin i).causes = (s.pin i).causes)) ∧
        (ours = false → ∃ t, exec (.claim m) s = .next t ∧ (t.mbx m).st = 3 ∧
          memGet 0 4 (t.mbx m).resp = 6 ∧ ∀ i < 128, owner t k i = owner s k i)) ∧
      (Serving s m 0x0202 p →
        (mine (two 6) = true → ∃ t, exec (.release m) s = .next t ∧ done t ∧
          (∀ i < 128, i < count k → owner t k i =
            if two 2 ≤ i ∧ i < two 2 + two 4 then 0x4FF else owner s k i) ∧
          (k = 1 → ∀ i < 96, two 2 ≤ i → i < two 2 + two 4 → SafeCause.released ∈ (t.pin i).causes)) ∧
        (mine (two 6) = false → ∃ t, exec (.release m) s = .next t ∧ (t.mbx m).st = 3 ∧
          memGet 0 4 (t.mbx m).resp = 6 ∧ ∀ i < 128, owner t k i = owner s k i))) ∧
    (Serving s m 0x0203 p → p.length = 6 → 1 ≤ byte 0 → byte 0 ≤ 4 → byte 1 = 0 → 1 ≤ two 4 →
      two 2 + two 4 ≤ count (byte 0) →
      Ends (.queryOwner m) s s m 0 ((List.range (two 4)).flatMap fun i => leBytes (owner s (byte 0) (two 2 + i)) 2)) ∧
    (Serving s m 0x0B01 p → p.length = 6 → ∀ k, k ≤ s.mgmt.log.length →
      let entries := (s.mgmt.log.filter fun e => decide (four 0 ≤ e.seq)).map fun e =>
        leBytes e.seq 4 ++ leBytes e.text.length 2 ++ leBytes e.code 2 ++ e.text
      let room := min 4080 (two 4)
      (entries.take k).flatten.length ≤ room →
      (∀ e, (entries.drop k).head? = some e → room < (entries.take k).flatten.length + e.length) →
      Ends (.logRead m) s s m 0 (entries.take k).flatten) ∧
    (Serving s m 0x0B02 p → p.length = 1 →
      (byte 0 ≤ 2 → ∃ t, exec (.countersRead m) s = .next t ∧ done t) ∧
      (byte 0 = 1 → Ends (.countersRead m) s s m 0 (leBytes 0x200 2 ++ [0, 0] ++ leBytes s.mgmt.hostErrors 4)) ∧
      (2 < byte 0 → Ends (.countersRead m) s s m 4 []))

/-- R28, R63, R137, R325 to R333, R403 to R405: the commands that load, start and stop tiles, load decode tables, open
and close windows, substitute, readmit, pair and send off. Where the rules leave a point open, the clause states
the model's choice (log 26, 67, 68). -/
def Obligations.TileCommands : Prop :=
  ∀ (m : Nat) (p : List Byte) (s : State), Memory.wf 0 (s.mbx m).resp = true → s.dbgBlock.trigEn = false →
    let byte (o : Nat) : Nat := (p.getD o 0).toNat
    let two (o : Nat) : Nat := byte o + 256 * byte (o + 1)
    let four (o : Nat) : Nat := two o + 65536 * two (o + 2)
    let answer (t : State) (st : Nat) (b : List Byte) : Prop :=
      (t.mbx m).st = 3 ∧ memGet 0 4 (t.mbx m).resp = BitVec.ofNat 8 st ∧ memRead 0 (t.mbx m).resp 16 b.length = b
    let fired (t : State) (n : Nat) : Prop := (t.src n).fires = (s.src n).fires + 1
    let l := two 0
    let alone (j q : Nat) : Prop := s.physOf j = some q ∧ ∀ i < 1024, i ≠ j → s.physOf i ≠ some q
    let range := (List.range (two 2)).map (two 0 + ·)
    let stoppedAt (j : Nat) : Bool := (s.physOf j).any fun q => (s.tile q).run == .stopped
    let startedAt (j : Nat) : Bool := (s.physOf j).any fun q => (s.tile q).run != .stopped
    let rank (e : Nat) : Nat := ((List.range e).filter fun i => two 2 / 2 ^ i % 2 = 1).length
    let named (e : Nat) : Bool := decide (two 2 / 2 ^ e % 2 = 1)
    let ops (e : Nat) : List W24 := (List.range 16).map fun i =>
      BitVec.ofNat 24 (two (4 + 48 * rank e + 3 * i) + 65536 * byte (6 + 48 * rank e + 3 * i))
    let ill := (List.range 16).filter fun e => named e && (checkEntry (ops e)).isNone
    let base := four 8 + 2 ^ 32 * two 12
    let addr := base % 2 ^ 32
    let size := four 16
    let usable := [(0x00000000, 0x800000), (0x01000000, 0x400000), (0x10000000, 0x40000), (0x10050000, 0x70000),
      (0x10120000, 0x8000)].any fun (r : Nat × Nat) => decide (r.1 ≤ addr) && decide (addr + size ≤ r.1 + r.2)
    let opens := p.length = 22 ∧ byte 0 = 1 ∧ byte 1 ≤ 1 ∧ byte 7 = 0 ∧ two 14 = 0 ∧ two 20 = 0 ∧ two 2 < 0x400 ∧
      two 4 = s.device ∧ two 4 < 2 ^ 14 ∧ byte 6 = 0xFF ∧ size ∈ (List.range 12).map (4096 * 2 ^ ·) ∧
      base % size = 0 ∧ base / 2 ^ 32 = 4 * s.device + 1 ∧ usable = true
    (Serving s m 0x0101 p → 8 < p.length → l < 1024 → byte 2 ≤ 1 → byte 3 = 0 → two 6 ≤ 4072 →
      p.length = 8 + two 6 → tfind? l s.gates.duplex = none →
      ∀ q, s.physOf l = some q → Memory.wf 0 (s.tile q).mem = true →
        ((s.tile q).run = .stopped → ∃ t, exec (.loadTileImage m) s = .next t ∧ answer t 0 [] ∧
          (t.tile q).run = .stopped ∧
          (∀ a < 65536, memGet 0 a (t.tile q).mem =
            if (a + 65536 - two 4) % 65536 < two 6 then p.getD (8 + (a + 65536 - two 4) % 65536) 0
            else memGet 0 a (s.tile q).mem) ∧
          (byte 2 = 1 → s.boot.absent = [] → t.boot.image l = some (t.tile q).mem) ∧
          (byte 2 = 0 → t.boot = s.boot)) ∧
        ((s.tile q).run ≠ .stopped → Ends (.loadTileImage m) s s m 10 [])) ∧
    (p.length = 4 → 1 ≤ two 2 → two 0 + two 2 ≤ 1024 → s.gates.duplex = [] →
      (Serving s m 0x0102 p → ∃ t, exec (.startTile m) s = .next t ∧
        answer t 0 (leBytes (range.filter stoppedAt).length 2) ∧
        ∀ j ∈ range, ∀ q, s.physOf j = some q → alone j q →
          (t.tile q).mem = (s.tile q).mem ∧
          ((s.tile q).run = .stopped → (t.tile q).run = .running ∧ (t.tile q).pc = 0 ∧
            (t.tile q).d = Vector.replicate 16 0 ∧ (t.tile q).active = (s.tile q).active) ∧
          ((s.tile q).run ≠ .stopped → t.tile q = s.tile q)) ∧
      (Serving s m 0x0103 p → (∀ j ∈ range, ∀ q, s.physOf j = some q → (s.tile q).run = .running →
          (s.tile q).atBoundary = true) → ∃ t, exec (.stopTile m) s = .next t ∧
        answer t 0 (leBytes ((s.mbx m).stops + (range.filter startedAt).length) 2) ∧
        ∀ j ∈ range, ∀ q, s.physOf j = some q → t.tile q = { s.tile q with run := .stopped }) ∧
      (Serving s m 0x0103 p → ∀ j ∈ range, ∀ q, s.physOf j = some q → (s.tile q).run = .running →
        (s.tile q).atBoundary = false → ∃ t, exec (.stopTile m) s = .next t ∧ t.tile q = s.tile q ∧
          (t.mbx m).st = 2)) ∧
    (Serving s m 0x0106 p → 4 ≤ p.length → l < 1024 →
      p.length = 4 + 48 * ((List.range 16).filter named).length → tfind? l s.gates.duplex = none →
      (ill = [] → ∀ q, s.physOf l = some q → ∃ t, exec (.loadDecodeTable m) s = .next t ∧
        answer t 0 (leBytes (two 2) 2) ∧ (t.tile q).dtsel = (s.tile q).dtsel ∧ (t.tile q).pc = (s.tile q).pc ∧
        ∀ e < 16, tfind? e (t.tile q).active = if named e then checkEntry (ops e) else tfind? e (s.tile q).active) ∧
      (ill ≠ [] → Ends (.loadDecodeTable m) s s m 4 (leBytes ((ill.map fun e => 2 ^ e).foldl (· + ·) 0) 2))) ∧
    (Serving s m 0x0204 p → opens →
      let mine := (s.mgmt.windows.filter fun w => w.master == two 2).length
      (mine < 8 → ∀ n, (List.range 512).find? (fun n => !s.mgmt.windows.any fun w => w.num == n) = some n →
        Ends (.grantWindowOpen m) s { s with mgmt := { s.mgmt with windows := s.mgmt.windows ++
          [{ num := n, master := two 2, dev := two 4, rw := byte 1 == 1, slot := 0xFF, base := base, size := size
             closing := false }] } } m 0 (leBytes n 2 ++ [0xFF, 0])) ∧
      (8 ≤ mine → Ends (.grantWindowOpen m) s s m 7 [])) ∧
    (Serving s m 0x0204 p → p.length = 22 → byte 0 = 2 →
      ((∀ w ∈ s.mgmt.windows, w.num ≠ two 20) → Ends (.grantWindowClose m) s s m 4 []) ∧
      (byte 7 = 0 → two 14 = 0 → ∀ w, s.mgmt.windows.find? (fun w => w.num == two 20) = some w →
        w.closing = false → (∃ r ∈ s.flight, s.windowUse w r = true) ∨ (∃ r ∈ s.replies, s.replyUse w r = true) →
          ∃ t, exec (.grantWindowClose m) s = .next t ∧ (t.mbx m).st = 2 ∧
            ∃ x ∈ t.mgmt.windows, x.num = two 20 ∧ x.closing = true) ∧
      (byte 7 = 0 → two 14 = 0 → ∀ w, s.mgmt.windows.find? (fun w => w.num == two 20) = some w → s.flight = [] →
        s.replies = [] → s.fabric.remotes = [] → Ends (.grantWindowClose m) s { s with mgmt := { s.mgmt with
          windows := s.mgmt.windows.filter fun w => w.num != two 20 } } m 0
          (leBytes (two 20) 2 ++ leBytes w.slot 1 ++ [0]))) ∧
    (Serving s m 0x0502 p → p.length = 4 → l < 1024 → tfind? l s.gates.duplex = none →
      ∀ old, s.physOf l = some old →
        (two 2 = 0xFFFF → s.freeSpares = [] → Ends (.substituteTile m false) s s m 7 []) ∧
        (two 2 < 1088 → s.isFreeSpare (two 2) = true → two 2 ≠ old → (s.tile old).bad = [] →
          old ∉ s.faults.deadPorts →
          ∃ t, exec (.substituteTile m false) s = .next t ∧ Moved s t l old (two 2) ∧
            answer t 0 (leBytes (two 2) 2) ∧ fired t 16)) ∧
    (Serving s m 0x0503 p → p.length = 2 → l < 1088 →
      (s.logicalOf l ≠ none → ∀ pass, Ends (.readmitTile m pass) s s m 10 []) ∧
      (s.logicalOf l = none → s.duplexOf l = none →
        (tget 0 l s.gates.offCount < 3 → l ∉ s.gates.retired →
          ∃ t, exec (.readmitTile m true) s = .next t ∧ t.isFenced l = false ∧ answer t 0 [0] ∧ fired t 25 ∧
            Logged t 25 l 0xFFFF 11 0) ∧
        (∃ t, exec (.readmitTile m false) s = .next t ∧ l ∈ t.gates.retired ∧ t.isFenced l = true ∧
          answer t 0 [1] ∧ fired t 25 ∧ Logged t 25 l 0xFFFF 12 0))) ∧
    (Serving s m 0x0504 p → p.length = 5 → l < 1024 → byte 4 ≤ 1 → tfind? l s.gates.duplex = none → two 2 < 1088 →
      s.isFreeSpare (two 2) = true → ∀ q, s.physOf l = some q →
        ((s.tile q).run = .running → (s.tile q).atBoundary = false → exec (.setDuplex m) s = .next s) ∧
        (((s.tile q).run = .running → (s.tile q).wb = none ∧ (s.tile q).waiting = none) →
        tfind? q s.gates.catchUp = none → ∃ t, exec (.setDuplex m) s = .next t ∧ answer t 0 (leBytes (two 2) 2) ∧
          t.tile (two 2) = { s.tile q with
            sends := [], resting := [], strayResp := 0, bad := [], fixes := (s.tile (two 2)).fixes } ∧
          ∃ d, tfind? l t.gates.duplex = some d ∧ d.primary = q ∧ d.partner = two 2 ∧
            d.auto = decide (byte 4 % 2 = 1))) ∧
    (Serving s m 0x0504 p → p.length = 5 → l < 1024 → byte 4 = 2 → ∀ d, tfind? l s.gates.duplex = some d →
      ∃ t, exec (.setDuplex m) s = .next t ∧ answer t 0 (leBytes d.partner 2) ∧
        tfind? l t.gates.duplex = none ∧ (t.tile d.partner).run = .stopped) ∧
    (Serving s m 0x0505 p → p.length = 2 →
      (l = 0xFFFF → s.dbgBlock.testMode = false → ∃ t, exec (.sendOff m) s = .next t ∧
        HeldRestart.sendOff ∈ t.faults.held ∧ t.mgmt.up = false ∧ ∀ n < 96, SafeCause.sendOff ∈ (t.pin n).causes) ∧
      (l < 1088 → s.logicalOf l = none → s.duplexOf l = none →
        ∃ t, exec (.sendOff m) s = .next t ∧ t.isFenced l = true ∧ answer t 0 [] ∧ t.tiles = s.tiles) ∧
      (l < 1088 → s.duplexOf l = none → ∀ j, s.logicalOf l = some j → s.physOf j = some l →
        tfind? j s.gates.duplex = none → ∀ q, s.freeSpares.head? = some q → q ≠ l → (s.tile l).bad = [] →
          l ∉ s.faults.deadPorts → ∃ t, exec (.sendOff m) s = .next t ∧ Moved s t j l q))

/-- R411, R415, R418, R422 to R428, R431, R432: a download from UPDATE_BEGIN to the trial and its end, and the
calibration commands with the record that follows them. Where the rules leave a point open, the clause states the
model's choice (log 70). -/
def Obligations.UpdateAndCalibration : Prop :=
  ∀ (m : Nat) (p : List Byte) (s : State), Memory.wf 0 (s.mbx m).resp = true →
    let byte (o : Nat) : Nat := (p.getD o 0).toNat
    let two (o : Nat) : Nat := byte o + 256 * byte (o + 1)
    let four (o : Nat) : Nat := two o + 65536 * two (o + 2)
    let answer (t : State) (st : Nat) : Prop := (t.mbx m).st = 3 ∧ memGet 0 4 (t.mbx m).resp = BitVec.ofNat 8 st
    let b := s.boot
    let j := b.journal
    let ours (x : Option Nat) : Prop := x = none ∨ x = some m
    let other := 1 - j.active
    let k := four 0
    let total := (j.imageLen + 2047) / 2048
    let chunk := if k + 1 = total then j.imageLen - 2048 * k else 2048
    let record (t : State) (st act len : Nat) : Prop :=
      t.boot.journal.state = st ∧ t.boot.journal.active = act ∧ t.boot.journal.imageLen = len ∧
        t.boot.journal.sectorMarks = BitVec.allOnes 64 ∧ t.boot.journal.trials = 0 ∧
        t.boot.journal.fallback = false
    let flash := 0 ∉ b.absent ∨ 1 ∉ b.absent
    let free := max b.antiRoll (min 63 (b.rollbackOf j.active))
    let restarts (t : State) : Prop := t.mgmt.restarting = true ∧ t.mgmt.up = false
    let item (i : Nat) : Nat × Nat := match i with
      | 1 => (21, 50)
      | 2 => (70, 200)
      | 3 => (18, 20)
      | 4 => (36, 8)
      | 5 => (2, 500)
      | _ => (6, 16)
    let deltas := (List.range (two 2)).map fun i => sint 16 (two (4 + 2 * i))
    let next := b.erased.foldl (fun n e => max n (e + 1)) 0
    (Serving s m 0x0301 p → p.length = 8 → byte 0 = 0 → byte 1 = 0 → two 2 = 0 → 0x10000 ≤ four 4 →
      four 4 ≤ 0x400000 → ours s.mgmt.updateBox → s.mgmt.trial = false → flash →
      (j.active ≤ 1 → ∃ t, exec (.updateBegin m true) s = .next t ∧ answer t 0 ∧ record t 1 j.active (four 4) ∧
        t.boot.acked = 0 ∧ t.boot.verified = false ∧ t.mgmt.updateBox = some m ∧
        t.boot.antiRoll = free ∧ t.boot.bankMem j.active = b.bankMem j.active ∧
        ∀ a < 0x400000, memGet 0xFF a (t.boot.bankMem other) =
          if a < 65536 then 0xFF else memGet 0xFF a (b.bankMem other)) ∧
      (b.antiRoll < free → Ends (.updateBegin m false) s s m 7 [])) ∧
    (Serving s m 0x0302 p → p.length = 8 + two 4 → 1 ≤ two 4 → two 4 ≤ 2048 → two 6 = 0 → ours s.mgmt.updateBox →
      s.mgmt.updateBox = some m → j.state = 1 → j.active ≤ 1 → k = b.acked → k < total → two 4 = chunk →
      k / 32 ∈ b.erased → Memory.wf 0xFF (b.bankMem other) = true →
      ∃ t, exec (.updateChunk m) s = .next t ∧ answer t 0 ∧ t.boot.acked = k + 1 ∧
        (∀ a < 0x400000, memGet 0xFF a (t.boot.bankMem other) =
          if 2048 * k ≤ a ∧ a < 2048 * k + two 4 then memGet 0xFF a (b.bankMem other) &&& p.getD (8 + (a - 2048 * k)) 0
          else memGet 0xFF a (b.bankMem other)) ∧
        t.boot.bankMem j.active = b.bankMem j.active ∧
        t.boot.journal = { j with
          sectorMarks := if k % 32 = 31 ∨ k + 1 = total then j.sectorMarks &&& ~~~(BitVec.twoPow 64 (k / 32))
            else j.sectorMarks }) ∧
    (Serving s m 0x0303 p → p = [] → ours s.mgmt.updateBox → j.state = 1 → flash →
      (b.acked < total → Ends (.updateVerify m) s s m 10 []) ∧
      (total ≤ b.acked → b.verify other (some j.imageLen) = true →
        Ends (.updateVerify m) s { s with boot := { b with verified := true } } m 0 []) ∧
      (total ≤ b.acked → b.verify other (some j.imageLen) = false →
        ∃ t, exec (.updateVerify m) s = .next t ∧ answer t 9 ∧ record t 1 j.active j.imageLen ∧
          t.boot.acked = 0 ∧ t.boot.verified = false)) ∧
    (Serving s m 0x0304 p → p = [] → ours s.mgmt.updateBox →
      (b.verified = false → Ends (.updateActivate m) s s m 10 []) ∧
      (b.verified = true → flash → ∃ t, exec (.updateActivate m) s = .next t ∧ answer t 0 ∧
        record t 2 j.active j.imageLen ∧ restarts t)) ∧
    (Serving s m 0x0305 p → p = [] → ours s.mgmt.updateBox →
      if s.mgmt.trial = true ∧ b.trialPassed = true then
        ∃ t, exec (.updateConfirm m) s = .next t ∧ answer t 0 ∧ t.mgmt.trial = false ∧
          t.boot.ruling = b.ruling.map fun r => { r with confirmMark := 0 }
      else Ends (.updateConfirm m) s s m 10 []) ∧
    (Serving s m 0x0306 p → p = [] → ours s.mgmt.updateBox →
      let stage := if s.mgmt.trial then 3 else if b.verified then 2 else if j.state = 1 then 1
        else if j.reverted then 4 else 0
      ∀ r, b.ruling = some r → Ends (.updateStatus m) s s m 0
        (leBytes stage 1 ++ leBytes r.trials 1 ++ leBytes b.acked 2 ++ leBytes r.imageLen 4 ++ leBytes r.seq 4)) ∧
    (Serving s m 0x0307 p → p = [] → ours s.mgmt.updateBox →
      (s.mgmt.trial = true → ∃ t, exec (.updateCancel m) s = .next t ∧ answer t 0 ∧ restarts t ∧
        t.boot.ruling = b.ruling.map fun r => { r with revertMark := 0 }) ∧
      (s.mgmt.trial = false → j.state = 1 → flash → ∃ t, exec (.updateCancel m) s = .next t ∧ answer t 0 ∧
        t.boot.journal.state = 0 ∧ t.boot.journal.active = j.active ∧ t.boot.journal.fallback = false ∧
        t.mgmt.updateBox = none) ∧
      (s.mgmt.trial = false → j.state ≠ 1 → Ends (.updateCancel m) s s m 10 [])) ∧
    (s.mgmt.trial = true → s.fwRuns = true → b.trialPassed = false →
      (∃ t, exec (.trialSelfTest false) s = .next t ∧ restarts t ∧
        t.boot.ruling = b.ruling.map fun r => { r with revertMark := 0 }) ∧
      (b.bootRec.hostConfirm = true → exec (.trialSelfTest true) s = .next
        { s with boot := { b with trialPassed := true } }) ∧
      (b.bootRec.hostConfirm = false → ∃ t, exec (.trialSelfTest true) s = .next t ∧ t.mgmt.trial = false ∧
        t.boot.ruling = b.ruling.map fun r => { r with confirmMark := 0 })) ∧
    (j.state = 1 → j.active ≤ 1 → s.mgmt.updateBox ≠ none → s.fwRuns = true →
      next * 65536 < j.imageLen →
      ∃ t, exec .backgroundErase s = .next t ∧ t.boot.erased = b.erased ++ [next] ∧
        t.boot.bankMem j.active = b.bankMem j.active ∧
        ∀ a < 0x400000, memGet 0xFF a (t.boot.bankMem other) =
          if a / 65536 = next then 0xFF else memGet 0xFF a (b.bankMem other)) ∧
    (Serving s m 0x0401 p → p.length = 2 → 1 ≤ two 0 → two 0 ≤ 6 → ours s.mgmt.calBox → Ends (.calReadFactory m) s s m 0
      ((List.range (item (two 0)).1).flatMap fun i => leBytes (Config.factoryCal (two 0) i).toNat 2)) ∧
    (Serving s m 0x0402 p → 1 ≤ two 0 → two 0 ≤ 6 → p.length = 4 + 2 * two 2 → two 2 = (item (two 0)).1 →
      ours s.mgmt.calBox →
      ((∀ d ∈ deltas, d.natAbs ≤ (item (two 0)).2) → ∃ t, exec (.calWriteUser m) s = .next t ∧ answer t 0 ∧
        t.mgmt.calBox = some m ∧ ∀ g, t.boot.staged = some g → tfind? (two 0) g = some deltas ∧
          (∀ i < 7, i ≠ two 0 → tget [] i g =
            tget [] i (b.staged.getD (if b.overlayOn then b.overlay else [])))) ∧
      ((∃ d, d ∈ deltas ∧ (item (two 0)).2 < d.natAbs) → Ends (.calWriteUser m) s s m 4 [])) ∧
    (Serving s m 0x0403 p → p = [] → ours s.mgmt.calBox →
      Ends (.calApply m) s { s with
        boot := { b with
          overlay := b.staged.getD (if b.overlayOn then b.overlay else []), overlayOn := true, staged := none
          recordDue := some s.now }
        mgmt := { s.mgmt with calBox := none } } m 0 []) ∧
    (Serving s m 0x0404 p → p = [] → ours s.mgmt.calBox →
      Ends (.calRevert m) s { s with
        boot := { b with overlay := [], overlayOn := false, eff := [], staged := none, recordDue := some s.now }
        mgmt := { s.mgmt with calBox := none } } m 0 []) ∧
    (s.pace.silent = false → s.power.st = .run → s.faults.held = [] → ∀ readings : List Nat, readings.length = 70 →
      ∃ t, exec (.paceLoop readings) s = .next t ∧ t.boot.eff = if b.overlayOn then b.overlay else []) ∧
    (b.recordDue ≠ none → s.fwRuns = true → flash → ∃ t, exec .calRecordWrite s = .next t ∧ t.boot.recordDue = none ∧
      t.boot.flashOverlay = (if b.overlayOn then some b.overlay else none) ∧ t.boot.overlay = b.overlay ∧
      t.mgmt = s.mgmt ∧ t.tiles = s.tiles)

/-- R276 to R278, R324, R437, R438, R445 to R448, R479, R480: the fault log, the time commands, the power-state,
Drizzle and wake-record commands, and authorisation. Where the rules leave a point open, the clause states the
model's choice (log 2, 69, 73, 74). -/
def Obligations.TimePowerAndAuthCommands : Prop :=
  ∀ (m : Nat) (p : List Byte) (s : State), Memory.wf 0 (s.mbx m).resp = true → s.dbgBlock.trigEn = false →
    let byte (o : Nat) : Nat := (p.getD o 0).toNat
    let two (o : Nat) : Nat := byte o + 256 * byte (o + 1)
    let four (o : Nat) : Nat := two o + 65536 * two (o + 2)
    let six (o : Nat) : Nat := four o + 2 ^ 32 * two (o + 4)
    let answer (t : State) (st : Nat) : Prop := (t.mbx m).st = 3 ∧ memGet 0 4 (t.mbx m).resp = BitVec.ofNat 8 st
    let head (r : FaultRec) : List Byte :=
      leBytes r.ns 4 ++ leBytes r.sec 6 ++ leBytes (b2n r.deferred * 2 + b2n r.unknown) 1 ++ leBytes r.source 1 ++
        leBytes r.unit 2 ++ leBytes r.logical 2 ++ leBytes r.oldCap 1 ++ leBytes r.newCap 1 ++
        leBytes r.action 1 ++ [0] ++ leBytes r.arg 4 ++ leBytes r.seq 4 ++ [0, 0]
    let tm := s.time
    let w := s.aon.wake
    let d := if m = 2 then s.dbgBlock.svc else s.dbgBlock.dbg
    let dNow (t : State) : DbgPath := if m = 2 then t.dbgBlock.svc else t.dbgBlock.dbg
    let idle := (∀ k < 8, k ≠ m → (s.mbx k).st ≠ 1 ∧ (s.mbx k).st ≠ 2) ∧
      ∀ e ∈ s.tiles, e.2.run = .running → e.2.atBoundary = true
    let cfg : W32 := BitVec.ofNat 32 (four 4) &&& 0x1FFFFF
    (Serving s m 0x0501 p → p.length = 5 → 1 ≤ byte 4 → byte 4 ≤ 127 → Ends (.faultLogRead m) s s m 0
      (((s.aon.log.filter fun r => decide ((r.seq + 2 ^ 32 - four 0) % 2 ^ 32 < 2 ^ 31)).take (byte 4)).flatMap
        fun r => head r ++ leBytes (crc16 (head r)).toNat 2)) ∧
    (Serving s m 0x0601 p → p.length = 14 → byte 1 = 0 → two 2 = 0 → four 4 < 10 ^ 9 →
      (tm.mode = 0 → byte 0 = 1 → Ends (.timeSet m) s { s with time := { tm with
        newNs := four 4, newSec := six 8, commit := some ⟨true, six 8, four 4⟩ } } m 0 []) ∧
      (tm.mode = 0 → byte 0 = 3 → six 8 < 2 ^ 46 → s.time.sec < 2 ^ 46 → s.time.ns < 10 ^ 9 →
        s.time.frac < 2 ^ 32 → s.time.rate = 0 → s.time.newRate = none → s.time.slewOn = false →
        Ends (.timeSet m) s { s with time := { tm with
          newNs := four 4, newSec := six 8, commit := some ⟨false, six 8, four 4⟩ } } m 0 []) ∧
      (tm.mode ≠ 0 → (byte 0 = 1 ∨ byte 0 = 3) → Ends (.timeSet m) s s m 10 [])) ∧
    (Serving s m 0x0602 p → p.length = 16 → byte 1 = 0 → two 2 = 0 → byte 0 ≤ 1 →
      let rate := Machine.sint 32 (four 4)
      let offset := Machine.sint 64 (four 8 + 2 ^ 32 * four 12)
      (tm.mode = 0 → byte 0 = 0 → Ends (.timeAdjustRate m) s
        (if -500000000 ≤ rate ∧ rate ≤ 500000000 then { s with time := { tm with newRate := some rate } } else s) m
        (if -500000000 ≤ rate ∧ rate ≤ 500000000 then 0 else 4) []) ∧
      (tm.mode = 0 → byte 0 = 1 → Ends (.timeAdjustSlew m) s { s with time := { tm with
        slewLeft := offset * 2 ^ 32, slewOn := true } } m 0 []) ∧
      (tm.mode ≠ 0 → byte 0 = 1 → Ends (.timeAdjustSlew m) s s m 10 [])) ∧
    (Serving s m 0x0603 p → p.length = 6 →
      (byte 0 ≤ 2 → (byte 0 = 1 → byte 1 < 4) → (byte 0 = 0 → inOwnerTable (two 2) = true) → 1 ≤ byte 4 → byte 4 ≤ 60 →
        byte 5 < 4 → Ends (.timeSyncMode m) s { s with time := { tm with
          mode := byte 0, owner := if byte 0 = 0 then two 2 else 0x400, syncTimeout := byte 4, ptpPort := byte 1
          ptpOpts := byte 5, lastSync := s.now } } m 0 []) ∧
      (3 ≤ byte 0 ∨ byte 4 = 0 ∨ 60 < byte 4 → Ends (.timeSyncMode m) s s m 4 [])) ∧
    (Serving s m 0x0701 p → p.length = 136 → byte 0 < 4 → byte 1 ≤ 1 → two 2 = 0 →
      (byte 0 = 0 → Ends (.powerStateSet m) s s m 0 []) ∧
      (byte 0 ≠ 0 → s.fabric.joined = true → Ends (.powerStateSet m) s s m 10 []) ∧
      (byte 0 = 2 → s.aon.drizzle = none → Ends (.powerStateSet m) s s m 10 []) ∧
      (byte 0 = 1 → s.fabric.joined = false → (List.range 132).all (fun i => p.getD (4 + i) 0 == 0) = true →
        Ends (.powerStateSet m) s s m 4 []) ∧
      ((byte 0 = 1 ∨ byte 0 = 3) → s.fabric.joined = false → cfg ≠ 0 → ¬ idle →
        exec (.powerStateSet m) s = .next s) ∧
      ((byte 0 = 1 ∨ byte 0 = 3) → s.fabric.joined = false → cfg ≠ 0 → idle →
        ∃ t, exec (.powerStateSet m) s = .next t ∧ answer t 0 ∧
          t.power.st = (if byte 0 = 1 then .doldrums else .off) ∧ t.power.wake = none ∧ t.router.wakeCfg = cfg ∧
          (∀ n < 96, (s.pin n).owner ≠ 0x404 → SafeCause.sleep ∈ (t.pin n).causes) ∧
          (∀ n < 32, (t.timer n).frozen = true) ∧ (∀ e < 16, (t.dmaE e).halted = true) ∧
          t.engine.halted = true ∧ (∀ f < 4, (t.feed f).up = false) ∧ (∀ f < 4, (t.port f).up = false) ∧
          t.tiles = s.tiles)) ∧
    (Serving s m 0x0702 p →
      (s.parseDrizzle p = none → Ends (.drizzleProgram m) s s m 4 []) ∧
      (p.length = 48 → byte 4 = 1 → 7 < byte 40 → Ends (.drizzleProgram m) s s m 4 []) ∧
      (∀ z, s.parseDrizzle p = some z →
        ((∀ n ∈ z.allPins, (s.pin n).owner = 0x404) → (∀ e ∈ z.engines, (s.ser e).owner = 0x404) →
          Ends (.drizzleProgram m) s { s with aon := { s.aon with drizzle := some z, sregs := [] } } m 0 []) ∧
        ((∃ n, n ∈ z.allPins ∧ (s.pin n).owner ≠ 0x404) → ∃ t, exec (.drizzleProgram m) s = .next t ∧
          answer t 6 ∧ t.aon = s.aon))) ∧
    (Serving s m 0x0703 p → p = [] → Ends (.wakeRecordRead m) s s m 0
      (leBytes w.state 1 ++ leBytes w.kind 1 ++ leBytes w.code 1 ++ leBytes w.race 1 ++ leBytes w.ns 4 ++
        leBytes w.sec 6 ++ leBytes (b2n w.carried * 2 + b2n w.unknown) 1 ++ [0] ++ leBytes w.slept 6 ++ [0, 0] ++
        leBytes w.cycles 4 ++ leBytes w.overruns 4 ++
        (List.range 8).flatMap fun i => leBytes (w.regs.getD i 0).toNat 4)) ∧
    (Serving s m 0x0A01 p → (p.length ≠ 1 ∨ byte 0 = 0 ∨ 3 < byte 0 → Ends (.authChallenge m) s s m 4 []) ∧
      (p.length = 1 → 1 ≤ byte 0 → byte 0 ≤ 3 → ∃ t, exec (.authChallenge m) s = .next t ∧ answer t 0 ∧
        leNum (memRead 0 (t.mbx m).resp 6 2) = 16 ∧
        (dNow t).challenge = some (byte 0, memRead 0 (t.mbx m).resp 16 16, s.wall) ∧
        (dNow t).level = d.level)) ∧
    (Serving s m 0x0A02 p → p.length = 16 → d.refusedUntil ≤ s.wall →
      ∀ c, d.challenge = some c → s.wall < c.2.2 + 2000000000 →
        let right := (Config.debugMac
          (c.2.1 ++ BitVec.ofNat 8 c.1 :: leBytes Config.serial.toNat 8 ++ [BitVec.ofNat 8 m])).toList
        let recent := (d.misses.filter fun t0 => decide (s.wall < t0 + 12000000000)).length
        (right = p → ∃ t, exec (.authResponse m) s = .next t ∧ answer t 0 ∧ (dNow t).level = c.1 ∧
          (dNow t).granted = c.1 ∧ (dNow t).challenge = none ∧ (t.src 511).fires = (s.src 511).fires + 1) ∧
        (right ≠ p → ∃ t, exec (.authResponse m) s = .next t ∧ answer t 5 ∧ (dNow t).level = d.level ∧
          (dNow t).challenge = none ∧
          (dNow t).refusedUntil = if 2 ≤ recent then s.wall + 12000000000 else d.refusedUntil)) ∧
    (Serving s m 0x0A02 p → p.length = 16 → s.wall < d.refusedUntil → Ends (.authResponse m) s s m 5 []) ∧
    (Serving s m 0x0A03 p → p.length = 2 → byte 0 ≤ 3 → byte 1 ≤ 3 →
      (d.granted < byte 0 → Ends (.debugEnable m) s s m 5 []) ∧
      (byte 0 ≤ d.granted → ∃ t, exec (.debugEnable m) s = .next t ∧ answer t 0 ∧ (dNow t).level = byte 0 ∧
        (dNow t).jtag = decide (byte 1 % 2 = 1 ∧ byte 0 ≠ 0) ∧
        (dNow t).trace = decide (2 ≤ byte 1 ∧ byte 0 ≠ 0) ∧
        (t.src 511).fires = (s.src 511).fires + (if d.level = byte 0 then 0 else 1)))

/-- R203, R204, R231, R232, R236, R360, R364, R377, R456: the model, stream, feed-rule and fabric commands. Where the
rules leave a point open, the clause states the model's choice (log 2, 62, 71). -/
def Obligations.EngineAndFabricCommands : Prop :=
  ∀ (m : Nat) (p : List Byte) (s : State), Memory.wf 0 (s.mbx m).resp = true →
    let byte (o : Nat) : Nat := (p.getD o 0).toNat
    let two (o : Nat) : Nat := byte o + 256 * byte (o + 1)
    let four (o : Nat) : Nat := two o + 65536 * two (o + 2)
    let answer (t : State) (st : Nat) : Prop := (t.mbx m).st = 3 ∧ memGet 0 4 (t.mbx m).resp = BitVec.ofNat 8 st
    let e := s.engine
    let k := byte 0
    let v := s.stream k
    let away := (1 - e.homeBank) * 0x400000
    let ours := s.mgmt.modelBox = none ∨ s.mgmt.modelBox = some m
    let verdict := (s.model (1 - e.homeBank)).validate
    let refused : State := { s with engine := { e with awayValid := false } }
    let x : StreamParams :=
      { pixels := two 2, bands := two 4, bil := decide (byte 6 % 2 = 1), pixOff := decide (byte 6 / 2 % 2 = 1)
        left := decide (byte 6 / 4 % 2 = 1), little := decide (byte 6 / 8 % 2 = 1), container := byte 7
        bits := byte 8, lineWidth := byte 9, window := byte 10, lineTimeout := two 12, maxSpan := two 14
        itemQuota := two 16, itemQ := two 18, histQ := two 20, statusQ := two 22, flushUs := four 24
        lineRate := four 28 }
    let inRange := 1 ≤ x.pixels ∧ x.pixels ≤ 4096 ∧ 1 ≤ x.bands ∧ x.bands ≤ 256 ∧
      ¬ (x.bil = true ∧ x.pixOff = true) ∧ (x.container = 1 ∨ x.container = 2) ∧ 8 ≤ x.bits ∧
      x.bits ≤ 8 * x.container ∧ (x.lineWidth = 8 ∨ x.lineWidth = 16 ∨ x.lineWidth = 32) ∧ 1 ≤ x.window ∧
      x.window ≤ 8 ∧ 10 ≤ x.lineTimeout ∧ 1 ≤ x.maxSpan ∧ 1 ≤ x.itemQuota ∧ x.itemQuota ≤ 256 ∧ 272 ≤ x.itemQ ∧
      x.itemQ ≤ 303 ∧ 272 ≤ x.histQ ∧ x.histQ ≤ 303 ∧ 272 ≤ x.statusQ ∧ x.statusQ ≤ 303 ∧
      x.flushUs ≤ 1000000 ∧ 1 ≤ x.lineRate ∧ x.lineRate ≤ 200000
    let quota := ((List.range 4).map fun j => if j = k then x.itemQuota
      else if (s.stream j).configured then (s.stream j).par.itemQuota else 0).foldl (· + ·) 0
    let section_ := s.sectionIn e.homeBank k
    let sectioned := e.homeValid = true ∧ (s.model e.homeBank).sect k ≠ 0 ∧ section_.pixels = v.par.pixels ∧
      section_.bands = v.par.bands
    let r : Rule :=
      { dest := byte 2, stream := byte 3, queue := two 4, lineOff := byte 6, offOff := byte 7, idOff := byte 8
        little := decide (byte 9 % 2 = 1), off32 := decide (byte 9 / 2 % 2 = 1), payOff := two 10
        templ := (List.range 64).map fun i => p.getD (16 + i) 0
        mask := (List.range 64).map fun i => p.getD (80 + i) 0 }
    let ruleGood := byte 0 < 64 ∧ byte 2 ≤ 2 ∧
      byte 3 ≤ (if byte 2 = 1 ∧ byte 8 = 0xFF then 3 else 0) ∧ two 4 ≤ (if byte 2 = 2 then 255 else 0) ∧
      (byte 2 = 0 ∨ byte 6 ≤ 60 ∧ byte 7 ≤ 62 ∧ (byte 8 ≤ 63 ∨ byte 8 = 0xFF) ∧ byte 9 < 4 ∧ 14 ≤ two 10 ∧
        two 10 ≤ 2027) ∧
      four 12 = 0 ∧ (List.range 64).all (fun i => p.getD (16 + i) 0 &&& ~~~ p.getD (80 + i) 0 == 0) = true
    let f := s.fabric
    let member (d : Nat) : Bool := byte (20 + d / 8) / 2 ^ (d % 8) % 2 == 1
    let entry (d : Nat) : List Byte :=
      leBytes (if d ∈ f.gone then 3 else if d ∈ f.out then 1 else if d ∈ f.members then 0 else 2) 1 ++
        leBytes (tget 1 d f.caps) 1 ++ leBytes (((f.aliases.find? fun a => a.dev == d).map fun a => a.host).getD 0xFFFF) 2
    (Serving s m 0x0801 p → byte 0 = 1 → byte 1 ≠ 0 → Ends (.modelLoad m) s refused m 4 []) ∧
    (Serving s m 0x0801 p → byte 0 = 1 → byte 1 = 0 → two 2 = 0 → 9 ≤ p.length →
      four 4 + (p.length - 8) ≤ 0x400000 → Memory.wf 0 e.mem = true →
      (¬ ours → Ends (.modelLoad m) s refused m 1 []) ∧
      (ours → e.switching = true → Ends (.modelLoad m) s refused m 10 []) ∧
      (ours → e.switching = false → ∃ t, exec (.modelLoad m) s = .next t ∧ answer t 0 ∧ t.mgmt.modelBox = some m ∧
        t.engine.awayValid = false ∧ t.engine.homeValid = e.homeValid ∧
        ∀ a < 0x800000, memGet 0 a t.engine.mem =
          if away + four 4 ≤ a ∧ a < away + four 4 + (p.length - 8) then p.getD (8 + (a - (away + four 4))) 0
          else memGet 0 a e.mem)) ∧
    (Serving s m 0x0801 p → p.length = 8 → byte 0 = 0 → byte 1 = 0 → two 2 = 0 → four 4 < 0x400000 → ours →
      (e.switching = true → Ends (.modelLoadValidate m) s refused m 10 []) ∧
      (e.switching = false → ∃ t, exec (.modelLoadValidate m) s = .next t ∧
        answer t (if verdict = 0 then 0 else if verdict = 1 then 9 else 4) ∧ t.mgmt.modelBox = none ∧
        t.engine.awayValid = decide (verdict = 0) ∧ t.engine.mem = e.mem)) ∧
    (Serving s m 0x0802 p → p.length = 16 →
      (¬ ours → Ends (.modelSwitch m) s s m 1 []) ∧
      (ours → e.awayValid = false ∨ e.switching = true → Ends (.modelSwitch m) s s m 10 []) ∧
      (ours → e.awayValid = true → e.switching = false →
        ((∃ q, q < 4 ∧ ((s.stream q).st = .running ∨ (s.stream q).st = .armed)) →
          ∃ t, exec (.modelSwitch m) s = .next t ∧ answer t 0 ∧ t.engine.switching = true ∧
            t.engine.homeBank = e.homeBank ∧ ∀ q < 4, (t.stream q).switchAt =
              if (s.stream q).st = .running then some (four (4 * q))
              else if (s.stream q).st = .armed then some 0xFFFFFFFF else none) ∧
        ((∀ q < 4, (s.stream q).st = .off) → ∃ t, exec (.modelSwitch m) s = .next t ∧ answer t 0 ∧
          t.engine.switching = false ∧ t.engine.homeBank = 1 - e.homeBank ∧ t.engine.homeValid = true ∧
          t.engine.homeId = e.awayId ∧ t.engine.awayValid = false))) ∧
    (Serving s m 0x0803 p → p.length = 32 → k < 4 → byte 1 = 0 → byte 6 < 16 → byte 11 = 0 →
      (¬ inRange → Ends (.streamConfigure m) s s m 4 []) ∧
      (inRange → v.st ≠ .off → Ends (.streamConfigure m) s s m 10 []) ∧
      (inRange → v.st = .off → 256 < quota → Ends (.streamConfigure m) s s m 7 []) ∧
      (inRange → v.st = .off → quota ≤ 256 → s.demand k x ≤ (s.court 17).target * 1000 →
        Ends (.streamConfigure m) s (s.setStream k { v with par := x, configured := true }) m 0 [])) ∧
    (Serving s m 0x0803 p → p.length = 2 → k < 4 → byte 1 = 1 →
      (¬ (v.st = .off ∧ v.configured = true ∧ sectioned) → Ends (.streamEnable m) s s m 10 []) ∧
      (v.st = .off → v.configured = true → sectioned → s.demand k v.par ≤ (s.court 17).target * 1000 →
        ∃ t, exec (.streamEnable m) s = .next t ∧ answer t 0 ∧ (t.stream k).st = .armed ∧
          (t.stream k).nextItem = 1 ∧ (t.stream k).opens = [] ∧ ∀ q < 4, q ≠ k → t.stream q = s.stream q)) ∧
    (Serving s m 0x0803 p → p.length = 2 → k < 4 → byte 1 = 2 →
      (v.st = .off → Ends (.streamStop m) s s m 0 []) ∧
      (v.st = .draining → exec (.streamStop m) s = .next s) ∧
      ((v.st = .armed ∨ v.st = .running) → e.halted = true → exec (.streamStop m) s = .next s) ∧
      ((v.st = .armed ∨ v.st = .running) → e.halted = false → ∃ t, exec (.streamStop m) s = .next t ∧
        (t.stream k).st = .draining ∧ (t.stream k).opens = [] ∧ (t.stream k).backlog = v.backlog ∧
        (t.mbx m).st = 2)) ∧
    (Serving s m 0x0803 p → p.length = 144 → byte 1 = 3 → ruleGood → Ends (.feedRuleLoad m) s
      (s.setFeed (byte 0 / 16) { s.feed (byte 0 / 16) with
        rules := tput (byte 0 % 16) r (s.feed (byte 0 / 16)).rules }) m 0 []) ∧
    (Serving s m 0x0901 p → f.joinBox = none → p.length = 2068 → two 16 = 0 → two 18 = 0 → four 0 ≠ 0 →
      1 ≤ byte 4 → byte 4 ≤ 128 → 1 ≤ byte 5 → byte 5 ≤ 128 → byte 6 = 0 → byte 7 = 0 → 250 ≤ four 8 →
      four 8 ≤ 10000 → 1000 ≤ four 12 → four 12 ≤ 100000 → 4 * four 8 + 500 ≤ four 12 →
      member s.device = true → s.device % 128 < byte 4 → s.device / 128 < byte 5 →
      (f.joined = true → 2 ≤ ((List.range 16384).filter member).length → Ends (.fabricJoin m) s s m 10 []) ∧
      (f.joined = false → 2 ≤ ((List.range 16384).filter member).length →
        ∃ t, exec (.fabricJoin m) s = .next t ∧ (t.mbx m).st = 2 ∧ t.fabric.joined = true ∧
          t.fabric.configId = four 0 ∧ t.fabric.nx = byte 4 ∧ t.fabric.ny = byte 5 ∧
          t.fabric.statusPeriod = four 8 ∧ t.fabric.holdUs = four 12 ∧
          t.fabric.members = (List.range 16384).filter member ∧
          t.fabric.candidate = ((List.range 16384).filter member).headD 0 ∧ t.fabric.joinAt = s.now)) ∧
    (Serving s m 0x0902 p → p = [] →
      (f.joined = false → Ends (.fabricLeave m) s s m 10 []) ∧
      (f.joined = true → ∃ t, exec (.fabricLeave m) s = .next t ∧ answer t 0 ∧ t.fabric.joined = false ∧
        t.fabric.isCaptain = false ∧ t.fabric.members = f.members.filter (· != s.device) ∧
        (s.captainNow = true → t.fabric.noticeSeq = f.noticeSeq + 1) ∧
        (s.captainNow = false → t.fabric.sent = (s.member (f.captain.getD f.candidate) (.leave s.device)).fabric.sent ∧
          t.fabric.ports = (s.member (f.captain.getD f.candidate) (.leave s.device)).fabric.ports) ∧
        ∀ n < 96, SafeCause.membership ∉ (t.pin n).causes)) ∧
    (Serving s m 0x0903 p → p.length = 4 + 6 * byte 0 → byte 0 ≤ 64 → byte 1 = 0 → two 2 = 0 →
      (∀ i < 64, i < byte 0 → two (4 + 6 * i) < 2 ^ 14 ∧ two (6 + 6 * i) < 2 ^ 14 ∧ byte (8 + 6 * i) < 4 ∧
        byte (9 + 6 * i) = 0) →
      (f.ftags = [] → Ends (.fabricRouteSet m) s { s with fabric := { f with
        overrides := (List.range (byte 0)).map fun i => ⟨two (4 + 6 * i), two (6 + 6 * i), byte (8 + 6 * i)⟩
        routeDue := none } } m 0 []) ∧
      (byte 0 = 1 → two 6 = 0 → f.ftags ≠ [] → ∃ t, exec (.fabricRouteSet m) s = .next t ∧
        (t.mbx m).st = 2 ∧ t.fabric.overrides = f.overrides ∧ t.fabric.routeDue ≠ none)) ∧
    (Serving s m 0x0904 p → p.length = 4 → 1 ≤ two 2 → two 2 ≤ 1000 → two 0 + two 2 ≤ 16384 →
      Ends (.fabricMembers m) s s m 0 (leBytes (f.captain.getD 0xFFFF) 2 ++ leBytes f.epoch 4 ++
        leBytes f.noticeSeq 4 ++ (List.range (two 2)).flatMap fun i => entry (two 0 + i)))

/-! ### Power and ports -/

/-- R269, R436, R439 to R443, R446 to R451, R284, R497: wake inputs and the wake that they leave, exit from a sleep
state, the cycle of the Drizzle sequencer step by step, the loss of the always-on oscillator and the loss of
power. RACE and SLEPT come from the bound times of entry (log 27). Where the rules leave a point open, the clause
states the model's choice (log 2, 27, 74, 75, 141). -/
def Obligations.PowerRows : Prop :=
  ∀ (n k kind code : Nat) (rising : Bool) (d : Drizzle) (x : DrizStep) (rx : List (List Byte)) (s : State),
    let pw := s.power
    let cfg := s.router.wakeCfg
    let woken (k c : Nat) : State := { s with
      power := { pw with wake := some (k, c), race := s.raceNow, slept := s.sleptNow } }
    let wakes (w : WakeBy) (k c : Nat) : Prop := exec (.wakeInput w) s = .next (woken k c)
    let cfgAt (k : Nat) : Bool := cfg.getLsbD k
    (pw.st ≠ .run → pw.wake = none →
      (n < 4 → cfgAt (2 * n + b2n (!rising)) = true → wakes (.pinEdge n rising) 0 (32 + n)) ∧
      (n < 4 → cfgAt (2 * n + b2n (!rising)) = false → exec (.wakeInput (.pinEdge n rising)) s = .next s) ∧
      (n < 8 → (s.alarm n).converted = true → s.aon.oscStopped = false → (s.alarm n).target ≤ s.aonTime →
        wakes (.alarm n) 0 (36 + n)) ∧
      (n < 4 → cfgAt (16 + n) = true →
        wakes (.linkPort n) 0 (44 + n) ∧ exec (.linkWakeRequest n) s = .next (woken 0 (44 + n))) ∧
      (cfgAt 20 = true → exec (.wakeInput .vbus) s =
        .next { woken 0 48 with service := { s.service with vbus := true } }) ∧
      (n < 512 → code < 32 → s.router.watch = [(code, w32 (2 ^ 31 + n))] → 396 ≤ n → n < 492 → pw.st ≠ .off →
        n ∉ pw.latched → exec (.wakeInput (.source n)) s = .next { s with
          power := { (woken 0 code).power with latched := pw.latched ++ [n] } }) ∧
      (n < 512 → s.router.watch = [] → exec (.wakeInput (.source n)) s = .next s)) ∧
    (pw.st ≠ .run → pw.wake = some (kind, code) → n < 4 → exec (.wakeInput (.pinEdge n rising)) s = .next s) ∧
    (pw.st = .run → n < 4 → exec (.linkWakeRequest n) s = .next (s.fire (275 + 4 * n))) ∧
    (exec .aonOscillatorStop s = .next { s with aon := { s.aon with oscStopped := true } }) ∧
    (pw.wake = some (kind, code) → s.raceNow = 0 → s.dbgBlock.trigEn = false → pw.latched = [] →
      (pw.st = .doldrums ∨ pw.st = .drizzle →
        ∃ t, exec .sleepExit s = .next t ∧ t.power = {} ∧ t.tiles = s.tiles ∧ t.bufMem = s.bufMem ∧
          t.aon.drizzle = s.aon.drizzle ∧ t.aon.wake.state = (if pw.st = .drizzle then 2 else 1) ∧
          t.aon.wake.kind = kind ∧ t.aon.wake.code = code ∧ t.aon.wake.race = pw.race ∧
          t.aon.wake.slept = pw.slept ∧ t.aon.wake.ns = t.time.ns ∧ t.aon.wake.sec = t.time.sec ∧
          t.time.carried = true ∧ t.aon.wake.cycles = (if pw.st = .drizzle then pw.cycles else 0) ∧
          (t.src 50).fires = (s.src 50).fires + 1 ∧
          (kind = 1 → (t.src 51).fires = (s.src 51).fires + 1) ∧
          (s.aon.oscStopped = true → t.time.sec = s.aon.anchorSec ∧ t.time.ns = s.aon.anchorNs ∧
            t.time.unknown = true ∧ t.time.unc = 0xFFFFFFFF ∧ (t.src 74).fires = (s.src 74).fires + 1) ∧
          (pw.emulated = false → ∀ c < 18, (t.court c).rail = 400) ∧
          (∀ q < 96, SafeCause.sleep ∉ (t.pin q).causes)) ∧
      (pw.st = .off → pw.emulated = false → s.faults.held = [] →
        ∃ t, exec .sleepExit s = .next t ∧ t.power.st = .run ∧ t.aon.wake.state = 3 ∧ t.aon.wake.code = code ∧
          t.aon.drizzle = s.aon.drizzle ∧ t.bufMem = [] ∧ t.engine.streams = [] ∧ t.time.carried = true ∧
          (n < 8 → (s.alarm n).converted = true → (s.alarm n).target ≤ t.time.abs → (t.alarm n).fired = true))) ∧
    (let u := s.endCycle
     u.power = { pw with inCycle := false, waitEnd := none, engines := [] } ∧
      (pw.inCycle = true → pw.emulated = false → 1 ∈ u.pace.stoppedIslands) ∧
      (∀ v, pw.engines = [(k, v)] → u.ser k = v) ∧ u.aon = s.aon ∧ u.tiles = s.tiles ∧
      ∀ q, u.pin q = s.pin q) ∧
    (pw.st = .drizzle → pw.wake = none → s.aon.drizzle = some d →
      let next := { pw with nextCycle := pw.nextCycle + d.period }
      let kept := { s with power := next }.openCycle d
      let begun := { kept.power with inCycle := true, cycles := (pw.cycles + 1) % 2 ^ 32, step := 0 }
      let wakesNow := { begun with wake := some (1, 0), race := 0, slept := s.sleptNow }
      let ended (q : Power) : State := { kept with power := q }.endCycle
      let level := if 4 * (kept.pin x.a).dgl ≤ kept.wall - (kept.pin x.a).recvAt then (kept.pin x.a).recv
        else (kept.pin x.a).level
      let reg (v : W32) (k : Nat) : Aon := { s.aon with sregs := tput k v s.aon.sregs }
      let slot := tget 0 x.a s.aon.sregs
      let holds : Prop := (x.b % 4 = 0 ∧ x.arg.toInt < slot.toInt) ∨ (x.b % 4 = 1 ∧ slot.toInt < x.arg.toInt) ∨
        (x.b % 4 = 2 ∧ slot ≠ x.arg) ∨ (x.b % 4 = 3 ∧ slot = x.arg)
      (1 ∉ kept.pace.stoppedIslands ∧ (∀ e < 8, ∀ l, ∀ o, d.slots = [l, o] → o.1 = 0xFF → l.1 = e →
        (kept.ser e).ctl = l.2.2.1 ∧ (kept.ser e).rate = l.2.2.2 ∧ (kept.ser e).tx = [] ∧ (kept.ser e).rx = [])) ∧
      (s.raceNow = 0 → pw.nextCycle ≤ s.sleptNow →
        (pw.inCycle = true → exec (.drizzleCycle rx) s = .next { s with
          power := { next with overruns := (pw.overruns + 1) % 2 ^ 32 } }) ∧
        (pw.inCycle = false →
          (n < 6 → (∀ b < n, (s.bank b).live = true) → (s.bank n).live = false →
            (∃ q ∈ d.allPins, q / 16 = n) → exec (.drizzleCycle rx) s = .next { s with
              power := { next with wake := some (2, n), race := 0, slept := s.sleptNow } }) ∧
          ((∀ b < 6, (s.bank b).live = true) → d.steps.head? = some x →
            let goesOn (u : State) (l : List (List Byte)) : Prop := exec (.drizzleCycle rx) s =
              .next ({ u with power := begun }.runSteps 1 l d.steps.tail)
            (x.op = 1 → goesOn (kept.setPin x.a { kept.pin x.a with
              drizzleOut := some (x.arg.getLsbD 0), drizzleHiZ := false }) rx) ∧
            (x.op = 2 → exec (.drizzleCycle rx) s = .next { kept with
              power := { begun with step := 1, waitEnd := some (pw.ticks + 200 * x.arg.toNat) } }) ∧
            (x.op = 3 → goesOn { (kept.setPin x.a { kept.pin x.a with drizzleOut := none, drizzleHiZ := true }) with
                aon := reg (w32 (b2n level)) x.b } rx) ∧
            (x.op = 4 → ∀ bs, rx.head? = some bs → bs.length = x.n →
              goesOn { (kept.xferOut x) with aon := reg (w32 (beNum bs)) x.b } rx.tail ∧
              ((d.slots[x.a]?).map (·.1) = some k → (kept.xferOut x).fio.xfers =
                s.fio.xfers ++ [(k, leBytes (x.arg.toNat % 256 ^ x.n) x.n)])) ∧
            (x.op = 5 → goesOn { kept with aon := reg ((slot >>> x.b) &&& x.arg) x.a } rx) ∧
            (x.op = 6 → ¬ holds → goesOn kept rx) ∧
            s.runSteps 1 rx [] = s.endCycle ∧
            (x.op = 6 → holds → x.b < 128 → exec (.drizzleCycle rx) s = .next (ended wakesNow)) ∧
            (x.op = 6 → holds → 128 ≤ x.b → x.b < 256 → exec (.drizzleCycle rx) s = .next (ended begun)) ∧
            (x.op = 7 → exec (.drizzleCycle rx) s = .next (ended begun))))) ∧
      (pw.inCycle = true → ∀ w, pw.waitEnd = some w →
        (pw.ticks < w → exec (.drizzleWaitEnd rx) s = .next s) ∧
        (w ≤ pw.ticks → exec (.drizzleWaitEnd rx) s = .next
          ({ s with power := { pw with waitEnd := none } }.runSteps pw.step rx (d.steps.drop pw.step))) ∧
        (w ≤ pw.ticks → (d.steps.drop pw.step).head?.all (fun y => y.op == 7) = true →
          exec (.drizzleWaitEnd rx) s = .next { s with power := { pw with waitEnd := none } }.endCycle))) ∧
    (∃ t, exec .powerLoss s = .next t ∧ t.aon = {} ∧ t.time = {} ∧ t.faults.held = [.power] ∧
      t.tiles = [] ∧ t.bufMem = [] ∧ t.queues = [] ∧ t.power = {} ∧ t.mgmt.up = false ∧
      t.boot.copy0 = s.boot.copy0 ∧ t.boot.copy1 = s.boot.copy1 ∧ t.boot.bank0 = s.boot.bank0 ∧ t.boot.bank1 = s.boot.bank1 ∧
      t.boot.revoked = s.boot.revoked ∧ ∀ q < 96, t.pinDrive q = none)

/-- R453 to R459, R463, R205, R287: the feed ports lock and fall back, drop what they may not take, and put an
accepted frame behind its prefix into a buffer, which its first matching rule hands to a stream or pushes to a
queue, or which goes to the firmware. Where the rules leave a point open, the clause states the model's choice
(log 2, 77, 78). -/
def Obligations.FeedPorts : Prop :=
  ∀ (f n : Nat) (fast : Bool) (k : Frame) (s : State), f < 4 →
    let v := s.feed f
    let len := k.bytes.length
    let trim (i : Nat) : Int :=
      ((Config.factoryCal 4 (3 * f + i)).toNat : Int) + ((tget [] 4 s.boot.eff)[3 * f + i]?).getD 0
    let counted (c : Nat) : State := s.setFeed f { v with
      counts := tput c (min 0xFFFFFFFF (tget 0 c v.counts + 1)) v.counts }
    let src (i : Nat) : Nat := 256 + 4 * f + i
    let count (t : State) (c : Nat) : Nat := tget 0 c (t.feed f).counts
    let rule (i : Nat) : Rule := tget {} i v.rules
    let byte (i : Nat) : Byte := (k.bytes[i]?).getD 0
    let hits (r : Rule) : Prop := r.dest ≠ 0 ∧ ∀ i < 64, byte i &&& (r.mask[i]?).getD 0 = (r.templ[i]?).getD 0
    let first (i : Nat) : Prop := i < 16 ∧ hits (rule i) ∧ ∀ j < i, ¬ hits (rule j)
    let fieldAt (r : Rule) (o w : Nat) : Nat :=
      let bs := (List.range w).map fun i => byte (o + i)
      if r.little then leNum bs else beNum bs
    let drop (i : Nat) : Prop := exec (.frameReceived f k) s = .next ((counted i).fire (src 2))
    (v.up = false → exec (.frameReceived f k) s = .next s ∧
      (s.running = true → s.faults.backupOsc = false →
        (v.turnAt + 400000 ≤ s.now →
          exec (.rateDetectTurn f) s = .next (s.setFeed f { v with fast := !v.fast, turnAt := s.now })) ∧
        (s.now < v.turnAt + 400000 → exec (.rateDetectTurn f) s = .next s) ∧
        (v.fast = fast → exec (.feedBlockLock f fast) s = .next ((s.setFeed f { v with
          up := true, llStep := 0, tx := [trim 0, trim 1, trim 2] }).fire (src 0))))) ∧
    (v.up = true → s.running = true → exec (.rateDetectTurn f) s = .next s ∧
      exec (.feedLinkDown f) s = .next ((s.setFeed f { v with
        up := false, fast := true, turnAt := s.now, ptpSync := none, ptpReq := none }).fire (src 0)) ∧
      (65536 ≤ (v.fifo.map fun e => e.1.length).sum → s.feedRetry f = s →
        exec (.frameReceived f k) s = .next ((counted 5).fire (src 1))) ∧
      (v.heldPush = none → v.fifo = [] →
        (len < 64 → drop 3) ∧ (2032 < len → drop 2) ∧
        (64 ≤ len → len ≤ 2032 → k.fcsOk = false → drop 1) ∧
        (64 ≤ len → len ≤ 2032 → k.fcsOk = true → k.pause = true →
          exec (.frameReceived f k) s = .next (counted 9)) ∧
        (64 ≤ len → len ≤ 2032 → k.fcsOk = true → k.pause = false →
          s.dbgBlock.trigEn = false → Memory.wf 0 s.bufMem = true → PoolSound s.pool →
          ((s.take (0x430 + f)).2 = none → ∃ t, exec (.frameReceived f k) s = .next t ∧
            count t 0 = min 0xFFFFFFFF (count s 0 + 1) ∧ count t 4 = min 0xFFFFFFFF (count s 4 + 1) ∧
            (t.src (src 1)).fires = (s.src (src 1)).fires + 1 ∧ t.bufMem = s.bufMem ∧
            t.queues = s.queues) ∧
          (∀ h, (s.take (0x430 + f)).2 = some h →
            let held (t : State) (r : Nat) : Prop := count t 0 = min 0xFFFFFFFF (count s 0 + 1) ∧
              memRead 0 t.bufMem (h % 2048 * 2048) (16 + len) =
                leBytes s.time.ns 4 ++ leBytes s.time.sec 6 ++ leBytes len 2 ++
                  [BitVec.ofNat 8 r, if s.time.unknown then 1 else 0, 0, 0] ++ k.bytes
            ((∀ i < 16, ¬ hits (rule i)) → s.mgmt.up = true → s.mgmt.restarting = false →
              ∃ t, exec (.frameReceived f k) s = .next t ∧ held t 0xFF ∧
                count t 7 = min 0xFFFFFFFF (count s 7 + 1) ∧ (t.feed f).handoffs = v.handoffs ∧
                t.queues = s.queues) ∧
            (first n → (rule n).dest = 1 → ∃ t, exec (.frameReceived f k) s = .next t ∧ held t n ∧
              count t (0x10 + n) = min 0xFFFFFFFF (count s (0x10 + n) + 1) ∧
              t.pool.ownerOf (h % 2048) = 0x430 + f ∧
              ∀ x, (t.feed f).handoffs.getLast? = some x → (t.feed f).handoffs = v.handoffs ++ [x] ∧
                x.sid = (if (rule n).idOff = 0xFF then (rule n).stream else (byte (rule n).idOff).toNat) ∧
                x.handle = h ∧ x.payPos = 16 + (rule n).payOff ∧
                x.payPos + x.payLen = max x.payPos (16 + len - 4) ∧
                x.lineRaw = fieldAt (rule n) (rule n).lineOff (((s.stream x.sid).par.lineWidth + 7) / 8) ∧
                x.offset = fieldAt (rule n) (rule n).offOff (if (rule n).off32 then 4 else 2) ∧
                x.stamp = s.stamp) ∧
            (first n → (rule n).dest = 2 →
              let q := (rule n).queue
              let b := s.queue q
              let e := w32 (n * 65536 + h)
              (b.give = true → b.owner < 1024 → b.fill.length < 32 →
                ∃ t, exec (.frameReceived f k) s = .next t ∧ held t n ∧ (t.feed f).heldPush = none ∧
                  (t.queue q).pushCnt = b.pushCnt + 1 ∧ t.pool.ownerOf (h % 2048) = b.owner ∧
                  (b.drain ≠ [] → (t.queue q).fill = b.fill ++ [e]) ∧
                  (b.drain = [] → b.fill = [] → (t.queue q).drain = [e])) ∧
              (b.give = true → b.owner < 1024 → b.drain ≠ [] → b.fill.length = 32 →
                ∃ t, exec (.frameReceived f k) s = .next t ∧ held t n ∧ (t.feed f).heldPush = some (q, e) ∧
                  t.queues = s.queues) ∧
              (b.give = false ∨ b.owner = 0x4FF → ∃ t, exec (.frameReceived f k) s = .next t ∧
                count t 6 = min 0xFFFFFFFF (count s 6 + 1) ∧ t.pool.ownerOf (h % 2048) = 0x4FF ∧
                (t.src (src 1)).fires = (s.src (src 1)).fires + 1 ∧ t.queues = s.queues))))))

/-- R27, R384, R406, R407, R464 to R469, R472 to R474, R480: accesses of the host, messages of MSI-X vectors, function
resets and configuration space, and the requests of the service port. Where the rules leave a point open, the
clause states the model's choice (log 2, 79, 80, 87, 142, 143). -/
def Obligations.HostAndServicePorts : Prop :=
  ∀ (n gen width tag off : Nat) (on : Bool) (c : FlrCause) (bytes : List Byte) (s : State),
    s.power.st = .run → s.dbgBlock.trigEn = false →
    let h := s.host
    let v := s.service
    let fired (t : State) (i : Nat) : Prop := (t.src i).fires = (s.src i).fires + 1
    let t0 := h.newTag.getD 0
    let used (u : State) : State := { u with host := { u.host with nextTag := (t0 + 1) % 256 } }
    let data (u : State) (o : Nat) (bs : List Byte) : State :=
      { u with host := { u.host with done := u.host.done ++
        (List.range ((o % 64 + bs.length + 63) / 64)).map fun i =>
          (tag, (bs.take (64 * (i + 1) - o % 64)).drop (64 * i - o % 64)) } }
    let room := (h.outs.filter fun q => q.msg.kind == .read).length < 32
    let resting := h.resting ++ h.outs.map fun q => (q.msg.tag, s.now)
    let rd (bar o size : Nat) : Instr := .hostAccess ⟨bar, o, size, none, tag⟩
    let wr (bar o : Nat) (bs : List Byte) : Instr := .hostAccess ⟨bar, o, 0, some bs, tag⟩
    let refused : State :=
      { s with mgmt := { s.mgmt with hostErrors := min 0xFFFFFFFF (s.mgmt.hostErrors + 1) } }.fire 289
    let aborts (t : State) (m : Nat) : Prop := (s.mbx m).busy = true → (s.mbx m).aborting = false →
      (t.mbx m).aborting = true
    (h.linkUp = true → h.d3hot = false →
      (room → off < 0x800 → off % 4 = 0 →
        exec (rd 0 off 4) s = .next (data (used s) off (leBytes (leNum (s.capBytes off 4)) 4))) ∧
      (room → off < 0x1000 →
        exec (rd 0 (0x2000 + off) 1) s = .next (data (used s) (0x2000 + off) [memGet 0 off (s.mbx 0).cmd])) ∧
      (n < 2 → bytes.length = 4 → exec (wr 0 (0x800 + 0x20 * n) bytes) s =
        .next (used (s.doorbell n s.device 0x401 (w32 (leNum bytes))))) ∧
      (0xA00 ≤ off → off + gen ≤ 0x2000 ∨ 0x6000 ≤ off → 1 ≤ gen → gen ≤ 512 → off + gen ≤ 0x10000 →
        (room → exec (rd 0 off gen) s = .next (data (used s) off (leBytes 0 gen))) ∧
        (gen ≤ 256 → bytes.length = gen → exec (wr 0 off bytes) s = .next (used s))) ∧
      (room → exec (rd 0 0x5FFC 8) s =
        .next (data (used s) 0x5FFC (memRead 0 (s.mbx 1).resp 0xFFC 4 ++ [0, 0, 0, 0]))) ∧
      (¬ room → exec (rd 0 off gen) s = .next s ∧ exec (rd 2 off gen) s = .next s ∧
        exec (rd 4 off gen) s = .next s) ∧
      (s.mgmt.windows = [] → 1 ≤ gen → gen ≤ 512 → off + gen ≤ 0x10000000 →
        (room → exec (rd 2 off gen) s = .next (data refused off (List.replicate gen 0xFF))) ∧
        (1 ≤ bytes.length → bytes.length ≤ 256 → off + bytes.length ≤ 0x10000000 →
          exec (wr 2 off bytes) s = .next refused)) ∧
      (∀ w, s.mgmt.windows.head? = some w → w.master = 0x401 → w.dev = s.device → w.closing = false →
        w.slot = n → off + gen ≤ w.size → w.size ≤ 0x800000 → n < 32 → 1 ≤ gen → gen ≤ 256 →
        let msg (kind : MsgKind) (d : List Byte) : Msg := {
          kind := kind, len := gen, srcId := 0x401, srcPhys := 0x7FF, srcDev := s.device, tag := t0
          cap := 0, chk := false, dev := (w.base + off) / 2 ^ 34, space := (w.base + off) / 2 ^ 32 % 4
          addr := (w.base + off) % 2 ^ 32, data := d, badCrc := false }
        let sent (x : Msg) : State := { s with
          flight := s.flight ++ [x]
          host := { h with
            outs := h.outs ++ [{ msg := x, pcie := tag, off := 0x800000 * n + off, size := gen, resends := 0, since := s.now }]
            nextTag := (t0 + 1) % 256 } }
        (room → off < 0x800000 → h.newTag ≠ none →
          exec (rd 2 (0x800000 * n + off) gen) s = .next (sent (msg .read []))) ∧
        (off < 0x800000 → bytes.length = gen → w.rw = true → h.newTag ≠ none →
          exec (wr 2 (0x800000 * n + off) bytes) s = .next (sent (msg .write bytes))) ∧
        (off < 0x800000 → bytes.length = gen → w.rw = false →
          (∀ y ∈ s.mgmt.windows, y.slot = n → y = w) → exec (wr 2 (0x800000 * n + off) bytes) s = .next refused)) ∧
      (n < 64 → bytes.length = 4 →
        let others := h.unmasked.filter (· != n)
        exec (wr 4 (16 * n + 12) bytes) s = .next { s with
          host := { h with unmasked := if leNum bytes % 2 = 1 then others else n :: others } }) ∧
      (room → n < 64 → exec (rd 4 (16 * n + 12) 4) s =
        .next (data s (16 * n + 12) (leBytes (if n ∈ h.unmasked then 0 else 1) 4))) ∧
      (n < 64 → gen < 3 → bytes.length = 4 → Memory.wf 0 h.table = true →
        (∃ t, exec (wr 4 (16 * n + 4 * gen) bytes) s = .next t ∧ memRead 0 t.host.table (16 * n + 4 * gen) 4 = bytes ∧
          t.host.unmasked = h.unmasked ∧ t.host.pba = h.pba) ∧
        (room → exec (rd 4 (16 * n + 4 * gen) 4) s = .next (data s (16 * n + 4 * gen)
          (leBytes (leNum (memRead 0 h.table (16 * n + 4 * gen) 4)) 4))))) ∧
    (h.linkUp = true → h.d3hot = true → 1 ≤ gen → gen ≤ 512 → off + gen ≤ 0x10000 →
      (room → exec (rd 0 off gen) s = .next ({ s with host := { h with
        unsupported := h.unsupported ++ [tag], aer := h.aer ||| 0x100000 } }.fire 292)) ∧
      (bytes.length = gen → gen ≤ 256 → exec (wr 2 off bytes) s =
        .next ({ s with host := { h with aer := h.aer ||| 0x100000 } }.fire 292))) ∧
    (h.linkUp = false → exec (rd 0 off gen) s = .next s ∧ exec (wr 2 off bytes) s = .next s) ∧
    (n < 64 →
      (n ∈ h.pba → h.msix = true → h.fmask = false → h.bme = true → n ∈ h.unmasked → s.faults.held = [] →
        exec (.msixSend n) s = .next { s with host := { h with
          sent := tput n (tget 0 n h.sent + 1) h.sent, pba := h.pba.filter (· != n)
          msgs := h.msgs ++ [(leNum (memRead 0 h.table (16 * n) 8), leNum (memRead 0 h.table (16 * n + 8) 4))] } }) ∧
      (n ∉ h.pba ∨ h.msix = false ∨ h.fmask = true ∨ h.bme = false ∨ n ∉ h.unmasked →
        exec (.msixSend n) s = .next s)) ∧
    (h.linkUp = true → c ≠ .linkDown →
      ∃ t, exec (.functionLevelReset c) s = .next t ∧
        t.host = { linkUp := true, gen := h.gen, width := h.width, sent := h.sent, msgs := h.msgs, done := h.done
                   unsupported := h.unsupported, nextTag := h.nextTag, resting := resting } ∧ fired t 290 ∧
        (h.d3hot = true → fired t 291) ∧ aborts t 0 ∧ aborts t 1 ∧ t.tiles = s.tiles ∧ t.queues = s.queues ∧
        (∀ w ∈ t.mgmt.windows, w.master = 0x401 → w.dev = s.device → w.closing = true ∧ w.accepted ≠ []) ∧
        ∀ i < 512, (t.src i).kind = (s.src i).kind ∧ (t.src i).vector = (s.src i).vector) ∧
    (h.linkUp = true → ∃ t, exec (.functionLevelReset .linkDown) s = .next t ∧
      t.host = { linkUp := false, gen := 0, width := 0, sent := h.sent, msgs := h.msgs, done := h.done
                 unsupported := h.unsupported, nextTag := h.nextTag, resting := resting } ∧ fired t 288 ∧ aborts t 0) ∧
    (1 ≤ gen → gen ≤ 4 → (width = 1 ∨ width = 2 ∨ width = 4) →
      (h.linkUp = true → h.gen = gen → h.width = width → exec (.hostLinkUp gen width) s = .next s) ∧
      (s.faults.held = [] → h.linkUp = false ∨ h.gen ≠ gen ∨ h.width ≠ width → exec (.hostLinkUp gen width) s = .next
        ({ s with host := { h with linkUp := true, gen := gen, width := width } }.fire 288))) ∧
    (h.linkUp = true →
      (h.d3hot ≠ on → exec (.configurationSpaceWrite (.dState on)) s =
        .next ({ s with host := { h with d3hot := on } }.fire 291)) ∧
      exec (.configurationSpaceWrite (.msixEnable on)) s = .next { s with host := { h with msix := on } } ∧
      exec (.configurationSpaceWrite (.functionMask on)) s = .next { s with host := { h with fmask := on } } ∧
      exec (.configurationSpaceWrite (.busMaster on)) s = .next { s with host := { h with bme := on } } ∧
      exec (.configurationSpaceWrite (.aspmL1 on)) s = .next { s with host := { h with aspm := on } } ∧
      (∀ x, exec (.configurationSpaceWrite (.aerClear x)) s = .next { s with host := { h with aer := h.aer &&& ~~~x } }) ∧
      (n < 64 → ∃ t, exec (.configurationSpaceWrite (.vectorMask n on)) s = .next t ∧
        t.host.pba = h.pba ∧ (n ∈ t.host.unmasked ↔ on = false) ∧
        ∀ i < 64, i ≠ n → (i ∈ t.host.unmasked ↔ i ∈ h.unmasked))) ∧
    (v.vbus = true → s.faults.held = [] →
      (v.configured = true → v.suspended = false → (s.mbx 2).busy = false →
        (bytes.length < 16 ∨ bytes.length ≠ 16 + leAt bytes 4 2 → exec (.serviceBulkCommand bytes) s =
          .next (s.fire 298)) ∧
        (16 ≤ bytes.length → bytes.length = 16 + leAt bytes 4 2 → bytes.length ≤ 4096 →
          Memory.wf 0 (s.mbx 2).cmd = true → ∃ t, exec (.serviceBulkCommand bytes) s = .next t ∧
            (t.mbx 2).st = 1 ∧ (t.mbx 2).tag = leAt bytes 2 2 ∧
            memRead 0 (t.mbx 2).cmd 0 bytes.length = bytes ∧ fired t 84)) ∧
      ((s.mbx 2).busy = true → exec (.serviceBulkCommand bytes) s = .next s) ∧
      (∃ t, exec .vendorAbort s = .next t ∧ aborts t 2 ∧ (t.mbx 2).st = (s.mbx 2).st) ∧
      (let stReg := (s.mbx 2).tag * 65536 + (if (s.mbx 2).aborting then 128 else 0) + (s.mbx 2).st
       exec .vendorState s = .next { s with service := { v with stateRead := leBytes stReg 4 } }) ∧
      (∀ high, ∃ t, exec (.busReset ⟨on, high⟩) s = .next t ∧ fired t 296 ∧
        t.service = { v with vbus := !on, configured := false, suspended := false, high := !on && high } ∧
        t.dbgBlock.svc = { s.dbgBlock.svc with granted := 0, level := 0, jtag := false, trace := false } ∧
        (0 < s.dbgBlock.svc.granted → fired t 511) ∧ (t.mbx 2) = (s.mbx 2)) ∧
      (let sent := if v.kept = [] then v.transfers else v.transfers + 1
       exec .setConfiguration s =
          .next ({ s with service := { v with configured := true, transfers := sent } }.fire 296)) ∧
      (v.suspended ≠ on → exec (.suspend on) s =
        .next ({ s with service := { v with suspended := on } }.fire 297)) ∧
      (v.suspended = on → exec (.suspend on) s = .next s)) ∧
    (v.vbus = true → s.faults.held ≠ [] → ∃ t, exec (.busReset ⟨true, on⟩) s = .next t ∧ t.service.vbus = false ∧
      t.dbgBlock.svc.level = 0 ∧ t.dbgBlock.svc.granted = 0) ∧
    (v.vbus = false → (s.faults.held = [] →
        exec .vbusRise s = .next ({ s with service := { v with vbus := true } }.fire 296)) ∧
      (s.faults.held ≠ [] → exec .vbusRise s = .next { s with service := { v with vbus := true } }) ∧
      exec .setConfiguration s = .next s)

/-! ### Debug and registers -/

/-- R281, R486 to R488, R490, R492, R493: frost is entered and left, a tile is halted, stepped and resumed by the
debugger, patch units load, and a test instruction that is replaced restarts the device. Where the rules leave a
point open, the clause states the model's choice (log 2, 81). -/
def Obligations.FrostAndTileDebug : Prop :=
  ∀ (u : Fin 16) (v : W32) (n p ir : Nat) (s : State), s.dbgBlock.trigEn = false →
    let d := s.dbgBlock
    let fired (t : State) (i : Nat) : Prop := (t.src i).fires = (s.src i).fires + 1
    let loading := s.tiles.any fun (e : Nat × Tile) => e.2.run == .running && !e.2.atBoundary
    let stopped (t : State) (on : Bool) : Prop := t.engine.halted = on ∧
      (∀ i < 32, (t.timer i).frozen = on) ∧ (∀ i < 8, (t.ser i).frozen = on) ∧
      (∀ i < 16, (t.dmaE i).halted = on)
    let may (l : Nat) : Prop := d.dbg.jtag = true ∧ l ≤ d.dbg.level
    let x := s.tile p
    let named : State := { s with dbgBlock := { d with tile := n, refused := false } }
    let others := d.haltDue.filter (· != p)
    let unasked : State := { s with dbgBlock := { d with tile := n, refused := false, haltDue := others } }
    let kept (t : State) (y : Tile) : Prop := t.tile p = y ∧ ∀ q < 1088, q ≠ p → t.tile q = s.tile q
    let testing := (ir = 0 ∨ 4 ≤ ir ∧ ir ≤ 7) ∧ (d.testMode = true ∨ may 3)
    let loaded (w : State) (i : Nat) : State := { w with dbgBlock := { w.dbgBlock with ir := i } }
    let runs : State := unasked.setTile p { x with run := .running }
    let next (w : State) : Instr := match tileDecode p (w.tile p).nextBytes with
      | .insn i _ => i
      | _ => .mov p (.decodeTrap (w.tile p).nextBytes)
    let after (w t : State) : Prop := t = w.dbgHalt p ∧ ((w.tile p).run = .running → (w.tile p).atBoundary = true →
      t = ({ w with dbgBlock := { w.dbgBlock with haltDue := w.dbgBlock.haltDue.filter (· != p) } }.setTile p
        { w.tile p with run := .dbgHalted, dbgSlept := false }).fire 510)
    (s.running = true →
      (d.wantFrost.head? = some true → loading = false → d.traceCtl = 0 →
        ∃ t, exec .frostEnter s = .next t ∧ fired t 508 ∧ stopped t true ∧ t.tiles = s.tiles ∧
          t.queues = s.queues ∧
          t.dbgBlock = { d with frost := true, frostAt := s.now, wantFrost := d.wantFrost.drop 1 } ∧
          ∀ q < 96, if (s.pin q).safeFrost then SafeCause.frost ∈ (t.pin q).causes else t.pin q = s.pin q) ∧
      (d.wantFrost.head? ≠ some true ∨ loading = true → exec .frostEnter s = .next s) ∧
      (d.wantFrost.head? = some false → d.traceCtl = 0 →
        ∃ t, exec .frostLeave s = .next t ∧ fired t 508 ∧ stopped t false ∧ t.tiles = s.tiles ∧
          t.dbgBlock = { d with frost := false, wantFrost := d.wantFrost.drop 1 } ∧
          (∀ q < 96, SafeCause.frost ∉ (t.pin q).causes) ∧
          ∀ k < 8, (s.alarm k).armed = true → (s.alarm k).target ≤ s.time.abs →
            (t.alarm k).fired = true ∧ (t.alarm k).late = true ∧ fired t (64 + k))) ∧
    (n < 1024 → s.live = false ∨ ¬ may 2 → exec (.debugLine14 n) s = .next s ∧ exec (.debugHalt n) s = .next s ∧
      exec (.debugResume n) s = .next s ∧ exec (.debugStep n) s = .next s) ∧
    (n < 1024 → s.running = true → may 2 → (tfind? n s.gates.duplex).isSome = true →
      let refused : State := { s with dbgBlock := { d with tile := n, refused := true } }
      exec (.debugLine14 n) s = .next refused ∧ exec (.debugHalt n) s = .next refused ∧
      exec (.debugResume n) s = .next refused ∧ exec (.debugStep n) s = .next refused) ∧
    (n < 1024 → s.running = true → may 2 → tfind? n s.gates.duplex = none → s.physOf n = some p →
      exec (.debugLine14 n) s = .next (named.setTile p { x with pend := x.pend ||| 0x4000 }) ∧
      (x.run = .running ∧ x.atBoundary = true ∨ x.run = .sleeping → ∃ t, exec (.debugHalt n) s = .next t ∧
        fired t 510 ∧ t.dbgBlock = unasked.dbgBlock ∧
        kept t { x with run := .dbgHalted, dbgSlept := x.run == .sleeping }) ∧
      (x.run = .running → x.atBoundary = false → exec (.debugHalt n) s = .next { s with
        dbgBlock := { d with tile := n, refused := false, haltDue := others ++ [p] } }) ∧
      (x.run ≠ .running → x.run ≠ .sleeping → exec (.debugHalt n) s = .next unasked) ∧
      (x.run = .dbgHalted → exec (.debugResume n) s = .next (unasked.setTile p { x with
        run := if x.dbgSlept then .sleeping else .running, dbgSlept := false })) ∧
      (x.run ≠ .dbgHalted → exec (.debugResume n) s = .next unasked) ∧
      (x.run = .dbgHalted ∨ x.run = .running → x.dbgSlept = false → d.frost = false → x.due = false → p < 1088 →
        ∃ w t, exec (next runs) runs = .next w ∧ exec (.debugStep n) s = .next t ∧
          ((w.tile p).wb = none → after w t) ∧
          ((w.tile p).wb ≠ none → w.ready p = true → (w.tile p).due = false →
            ∃ z, exec (next w) w = .next z ∧ after z t)) ∧
      (x.run ≠ .dbgHalted ∧ x.run ≠ .running ∨ x.dbgSlept = true ∨ d.frost = true →
        exec (.debugStep n) s = .next named)) ∧
    (s.running = true → exec (.dbgPatchAddr u v) s = .next (if d.dbg.jtag ∧ 3 ≤ d.dbg.level then
      s.setPatch u.val { s.patch u.val with addr := v &&& 0x8FFFFFFC } else s)) ∧
    (d.ir = ir → ir < 64 → n < 64 →
      (¬ testing ∨ ir = n → exec (.testInstructionReplaced n) s = .next (loaded s n)) ∧
      (testing → ir ≠ n → exec (.testInstructionReplaced n) s = .next (loaded (s.deviceRestart none) n)) ∧
      (¬ testing ∨ ir = 1 → exec .tapReset s = .next (loaded s 1)) ∧
      (testing → exec .tapReset s = .next (loaded (s.deviceRestart none) 1)))

/-- R7, R10, R21, R22, R51, R52, R177, R482 to R484: accesses of the debug master by its level, and registers as their
access codes say, for a master that reaches them: RC clears when read, W1C clears where ones are written, and RO and
reserved offsets ignore writes. An access outside a tile's windows ends in error, a stopped clock starts for one, and
one into a feed port without a signal ends in error. Where the rules leave a point open, the clause states the model's
choice (log 2, 84, 90, 122, 123). -/
def Obligations.DebugAccessAndRegisters : Prop :=
  ∀ (n q p tag i addr : Nat) (b : Bool) (v : W32) (s : State), s.running = true → i < 1024 →
    let d := s.dbgBlock
    let ended (u : State) (st : Nat) (w : W32) : State :=
      { u with dbgBlock := { u.dbgBlock with accStatus := st, accData := w, nextTag := (d.nextTag + 1) % 256 } }
    let window (a : Nat) (write : Bool) : Prop := ∃ x ∈ s.mgmt.windows, x.master = i ∧ x.dev = s.device ∧
      (write = true → x.rw = true) ∧ x.closing = false ∧ x.base ≤ s.device * 2 ^ 34 + 2 ^ 32 + a ∧
      s.device * 2 ^ 34 + 2 ^ 32 + a + 4 ≤ x.base + x.size
    let tile (a : Nat) : Tile := s.tile ((s.physOf (a / 65536)).getD 0)
    let rd (space : Fin 4) : Instr := .dbgAccess 1 space addr v
    let wr (space : Fin 4) : Instr := .dbgAccess 2 space addr v
    let asker := s.askerWho (.access i p tag) s.device
    let me : Who := { s.whoIs i with beaten := b }
    let reads (a : Nat) : Prop := s.reaches asker a 4 false = true
    let writes (a : Nat) : Prop := s.reaches me a 4 true = true
    let reading (a : Nat) : Instr := .rcRead (.access i p tag) a
    let writing (a : Nat) : Instr := .registerWrite ⟨i, b⟩ a v
    let answer (k : RespKind) (st : Nat) (bs : List Byte) (u : State) : State := { u with replies := u.replies ++ [{
      kind := k, dstPhys := p, dstId := i, tag := tag, cap := if p < 1088 then s.capOf i else 0
      status := st, data := bs, badCrc := false }] }
    let answered (u : State) (w : Nat) : State := answer .done 0 (leBytes w 4) u
    let low (w : Nat) : BitVec w := BitVec.ofNat w v.toNat
    (d.ir = 0x10 →
      (d.dbg.jtag = false ∨ d.dbg.level = 0 → addr < 2 ^ 32 → addr % 4 = 0 →
        exec (rd 0) s = .next (ended s 3 0) ∧ exec (wr 0) s = .next (ended s 3 0) ∧
        (0x10000000 ≤ addr → addr < 0x10000800 →
          exec (rd 1) s = .next (ended s 0 (w32 (leNum (s.capBytes (addr - 0x10000000) 4))))) ∧
        (0x10020000 ≤ addr → addr < 0x10090000 → exec (rd 1) s = .next (ended s 3 0) ∧
          exec (wr 1) s = .next (ended s 3 0))) ∧
      (d.dbg.jtag = true → 1 ≤ d.dbg.level → addr < 0x4000000 → addr % 4 = 0 → addr % 65536 < 0x9800 →
        (s.physOf (addr / 65536)).isSome = true → s.isFenced ((s.physOf (addr / 65536)).getD 0) = false →
        (tile addr).anyBad (BitVec.ofNat 16 addr) 4 = false → tfind? (addr / 65536) s.gates.duplex = none →
        (d.dbg.level = 1 → exec (wr 0) s = .next (ended s 2 0)) ∧
        (exec (rd 0) s = .next (ended (s.wakeCourt ((s.physOf (addr / 65536)).getD 0 / 64)) 0
          (w32 (leNum (memRead 0 (tile addr).mem (addr % 65536) 4))))) ∧
        (2 ≤ d.dbg.level → Memory.wf 0 (tile addr).mem = true →
          ∃ t, exec (wr 0) s = .next t ∧ t.dbgBlock.accStatus = 0 ∧
          ∀ a < 0x9800, memGet 0 a (t.tile ((s.physOf (addr / 65536)).getD 0)).mem =
            if addr % 65536 ≤ a ∧ a < addr % 65536 + 4 then BitVec.ofNat 8 (v.toNat / 256 ^ (a - addr % 65536))
            else memGet 0 a (tile addr).mem)) ∧
      (d.dbg.jtag = true → d.dbg.level = 1 → exec (.dbgAccess 1 1 0x100A0000 v) s = .next (ended s 0 0)) ∧
      (addr < 2 ^ 32 → addr % 4 ≠ 0 → exec (rd 0) s = .next s)) ∧
    (0x10020000 ≤ addr → addr < 0x100C0000 → addr % 4 = 0 → (addr < 0x10040000 ∨ 0x10050000 ≤ addr) →
      (addr < 0x10094000 ∨ 0x10094400 ≤ addr) → s.islandRuns addr = true →
      (s.genuine asker = true → window addr false → reads addr) ∧
      (s.genuine me = true → window addr true → writes addr)) ∧
    (0x10002000 ≤ addr → addr < 0x100C0000 → addr % 4 = 0 → (∀ x ∈ s.mgmt.windows, x.master ≠ i) →
      (addr < 0x1001A000 ∨ 0x10020000 ≤ addr) →
      (s.genuine asker = true → exec (reading addr) s = .next (answer .error 0x82 [] s)) ∧
      (∀ y, s.physOf i = some y → s.genuine me = true → exec (writing addr) s = .next (s.setLine y 12)) ∧
      (s.genuine asker = false → exec (reading addr) s = .next s) ∧
      (s.genuine me = false → exec (writing addr) s = .next s)) ∧
    (1 ∈ s.pace.stoppedIslands →
      exec (.registerWrite ⟨0x400, b⟩ 0x10050000 v) s = exec (.registerWrite ⟨0x400, b⟩ 0x10050000 v) { s with
        pace := { s.pace with
          stoppedIslands := s.pace.stoppedIslands.filter (· != 1), resync := s.pace.resync.filter (· != 1)
          wakeAsked := s.pace.wakeAsked.filter (· != 1) } }) ∧
    (n < 4 → (s.feed n).up = false →
      exec (.registerWrite ⟨0x400, b⟩ (0x100C0000 + 0x4000 * n) v) s = .next (s.report 2 0x8016 0xFFFF 0 10)) ∧
    (q < 256 → reads (0x10090028 + 0x40 * q) → exec (reading (0x10090028 + 0x40 * q)) s =
      .next (answered (s.setQueue q { s.queue q with refCnt := 0 }) (s.queue q).refCnt)) ∧
    (reads 0x10020008 → exec (reading 0x10020008) s =
      .next (answered { s with router := { s.router with lost := 0 } } s.router.lost)) ∧
    (reads 0x100A0024 → exec (reading 0x100A0024) s =
      .next (answered { s with pool := { s.pool with cntDouble := 0 } } s.pool.cntDouble)) ∧
    (n < 16 → reads (0x1012005C + 0x800 * n) → exec (reading (0x1012005C + 0x800 * n)) s =
      .next (answered (s.setDisp n { s.disp n with race := 0 }) (s.disp n).race)) ∧
    (reads 0x100B0018 → exec (reading 0x100B0018) s =
      .next (answered (s.setEngine { s.engine with noStream := 0 }) s.engine.noStream)) ∧
    (reads 0x10030040 → exec (reading 0x10030040) s = .next (answered s 0)) ∧
    (writes 0x10020000 → exec (writing 0x10020000) s =
      .next { s with router := { s.router with err := s.router.err &&& ~~~ low 4 } }) ∧
    (writes 0x10030014 → exec (writing 0x10030014) s =
      .next { s with time := { s.time with err := s.time.err &&& ~~~ low 3 } }) ∧
    (writes 0x10050000 → exec (writing 0x10050000) s =
      .next { s with fio := { s.fio with err := s.fio.err &&& ~~~ low 3 } }) ∧
    (writes 0x100A001C → exec (writing 0x100A001C) s =
      .next { s with pool := { s.pool with err := s.pool.err &&& ~~~ low 5 } }) ∧
    (writes 0x100B0008 → exec (writing 0x100B0008) s =
      .next (s.setEngine { s.engine with err := s.engine.err &&& ~~~ low 8 })) ∧
    (writes 0x100A0018 → exec (writing 0x100A0018) s =
      .next { s with pool := { s.pool with low := v.toNat % 4096 } }) ∧
    (writes 0x10030010 → exec (writing 0x10030010) s = .next s) ∧
    (writes 0x10030040 → exec (writing 0x10030040) s = .next s) ∧
    (¬ writes 0x10094000 ∧ ¬ writes 0x10130004) ∧
    (addr % 4 ≠ 0 → exec (writing addr) s = .next s ∧ exec (reading addr) s = .next s) ∧
    (writes 0x10030020 → s.time.owner ≠ i → exec (writing 0x10030020) s =
      .next { s with time := { s.time with err := s.time.err ||| 1 } }) ∧
    (exec (.registerWrite ⟨0x400, b⟩ 0x10020010 v) s =
      .next { s with router := { s.router with wakeCfg := v &&& 0x1FFFFF } }) ∧
    (d.dbg.jtag = true → 2 ≤ d.dbg.level → s.islandRuns 0x10130014 = true →
      exec (.registerWrite ⟨0x403, b⟩ 0x10130014 v) s =
        .next { s with dbgBlock := { d with traceCtl := low 3 } })

/-! ### The whole machine -/

/-- A step takes the command at the front of the queue and runs exactly it, with the rest of the queue in the
state; on an empty queue a tick of the field clock passes (the model's choice, log 1). -/
def Obligations.StepRunsFrontCommand : Prop :=
  ∀ (c : Instr) (rest : List Instr) (s : State),
    step { s with pending := c :: rest } = exec c { s with pending := rest } ∧
    step { s with pending := [] } = .next (tick { s with pending := [] })

/-- R11, R59, R165, R188, R198, R201, R267, R271, R290, R313: the values that the spec gives registers after a cold
start, and the invariants of the statements below hold there. Where the rules leave a point open, the clause
states the model's choice (log 9). -/
def Obligations.ResetValues : Prop :=
  let s := State.reset
  (∀ p < 1088, (s.tile p).d = Vector.replicate 16 0 ∧ (s.tile p).p = Vector.replicate 8 0 ∧
    (s.tile p).fl = {} ∧ (s.tile p).pc = 0 ∧ (s.tile p).rsDepth = 0 ∧ (s.tile p).rs = Vector.replicate 8 0 ∧
    (s.tile p).en = 0x2000 ∧ (s.tile p).pend = 0 ∧ (s.tile p).evOn = false ∧ (s.tile p).vec = 0x0010 ∧
    (s.tile p).task = 0xFF ∧ (s.tile p).dtValid = 0) ∧
  (∀ l < 1024, s.physOf l = some l ∧ s.capOf l = 1) ∧
  (∀ q < 304, (s.queue q).fill = [] ∧ (s.queue q).drain = [] ∧ (s.queue q).en = 0 ∧ (s.queue q).owner = 0x4FF) ∧
  s.pool.freeCount = 2048 ∧ s.pool.reserve = 0x40 ∧ s.pool.low = 0x80 ∧ s.pool.evctl = 7 ∧ s.pool.err = 0 ∧
  (∀ b < 2048, s.pool.ownerOf b = 0x4FF ∧ s.pool.genOf b = 0) ∧
  (∀ n < 512, (s.src n).pend = false ∧ (s.src n).act = false ∧ (s.src n).fires = 0) ∧
  (∀ n < 32, (s.src n).kind = 2 ∧ (s.src n).owner = 0x400) ∧
  (∀ m < 2, (s.src (81 + 2 * m)).kind = 3 ∧ (s.src (81 + 2 * m)).vector = m) ∧ s.aon.count = 0 ∧ s.aon.rate = 2000000000 ∧ s.time.unknown = true ∧ s.time.owner = 0x400 ∧
  (∀ k < 8, (s.alarm k).armed = false ∧ (s.alarm k).owner = 0x4FF) ∧
  (∀ n < 96, (s.pin n).owner = 0x4FF) ∧ (∀ n < 32, (s.timer n).owner = 0x4FF) ∧
  (∀ e < 8, (s.ser e).owner = 0x4FF) ∧
  (∀ ch < 128, (s.chan ch).owner = 0x4FF) ∧ (∀ k < 4, (s.stream k).st = .off) ∧
  (∀ m < 8, (s.mbx m).st = 0) ∧ s.mgmt.hwAborts = 0 ∧ s.mgmt.windows = [] ∧ s.power.st = .run ∧
  s.fabric.joined = false ∧ s.dbgBlock.dbg.level = 0 ∧ s.dbgBlock.frost = false ∧ s.dbgBlock.ir = 1 ∧
  s.bufMem = [] ∧ s.pending = [] ∧
  (∀ p, TileLegal (s.tile p)) ∧ MemoriesCanonical s ∧ PoolSound s.pool

/-- Every command whose units exist answers a next state, from every state, and leaves the queue as it is; a
command that names a unit which does not exist stops as that and nothing else. -/
def Obligations.WellFormedCommandsComplete : Prop :=
  ∀ (c : Instr) (s : State),
    (c.wf = true → ∃ t, exec c s = .next t ∧ t.pending = s.pending) ∧
    (c.wf = false → exec c s = .fault .noSuchUnit)

/-- R92 to R99, R101, R122: a tile instruction that bytes can hold decodes from its bytes to itself, with every
operand at every value, whatever bytes follow, and its length is that of its bytes. -/
def Obligations.TileDecodeInvertsEncode : Prop :=
  ∀ (p : Nat) (i : Instr) (rest : List Byte), i.encodable p = true →
    ∃ bs, tileEncode i = some bs ∧ tileDecode p (bs ++ rest) = .insn i bs.length ∧ bs.length ≤ 8

/-- R59, R74, R81, R161: in every state that a step reaches from one where it holds, every tile's line 13 stays
enabled, its return stack holds at most eight entries, and its receive ring has a base of 256 bytes, a size that
is a power of two and a tail at a block. -/
def Obligations.TilesStayLegal : Prop :=
  ∀ s t : State, (∀ p, TileLegal (s.tile p)) → step s = .next t → ∀ p, TileLegal (t.tile p)

/-- Every memory keeps its canonical form in every step: tiles, buffers, the management processor's, the model
memory, the mailboxes' areas, the firmware banks, the boot record copies, the stored tile images and the MSI-X table; and the pool's free list and
generations stay in range (R198). -/
def Obligations.StorageStaysSound : Prop :=
  (∀ s t : State, MemoriesCanonical s → step s = .next t → MemoriesCanonical t) ∧
  (∀ s t : State, PoolSound s.pool → step s = .next t → PoolSound t.pool)
end

