-- ==== Sys2Proof/Laws/Access.lean ====
section
/-! SUPPORT. What a register access can do: it acts, waits, fails, or has no effect (R16, R21, R26, R51, R52). -/

namespace Sys2Proof.Machine

set_option Elab.async false

theorem State.crossed_of_runs {s : State} {a : Nat} (h : s.islandRuns a = true) : s.crossed a = s := by
  simp [State.crossed, h]

theorem State.reaches_iff {s : State} {w : Who} {a n : Nat} {write : Bool} :
    s.reaches w a n write = true ↔
      s.live = true ∧ s.genuine w = true ∧ s.mayReach w a n write = true ∧ s.islandRuns a = true := by
  simp [State.reaches, and_assoc]

/-- A write that its master reaches does just what the register does. -/
theorem State.regWrite_of_reaches {s : State} {w : Who} {a n : Nat} (h : s.reaches w a n true = true)
    (f : State → State) : s.regWrite w a n f = f s := by
  obtain ⟨hl, hg, hm, hi⟩ := State.reaches_iff.mp h
  have hd : s.deadAt a = false := by simp [State.islandRuns] at hi; exact hi.1
  simp [State.regWrite, hl, hg, hm, hd, State.crossed_of_runs hi]

/-- A read that its master reaches is answered with what the register gives. -/
theorem State.regRead_of_reaches {s : State} {by_ : AskBy} {dev a n : Nat}
    (h : s.reaches (s.askerWho by_ dev) a n false = true) (f : State → State × Nat) :
    s.regRead by_ dev a n f = (f s).1.answerRead by_ (f s).2 n := by
  obtain ⟨hl, hg, hm, hi⟩ := State.reaches_iff.mp h
  have hd : s.deadAt a = false := by simp [State.islandRuns] at hi; exact hi.1
  simp [State.regRead, hl, hg, hm, hd, State.crossed_of_runs hi]

/-- All that a register write can do. -/
theorem State.regWrite_cases (s : State) (w : Who) (a n : Nat) (f : State → State) :
    s.regWrite w a n f = s ∨ s.regWrite w a n f = s.writeFails w ∨
      s.regWrite w a n f = (s.crossFails a).writeFails w ∨
      s.live = true ∧ s.genuine w = true ∧ s.mayReach w a n true = true ∧ s.regWrite w a n f = f (s.crossed a) := by
  unfold State.regWrite
  split
  · exact .inl rfl
  · split
    · exact .inr (.inl rfl)
    · split
      · exact .inr (.inr (.inl rfl))
      · simp_all

end Sys2Proof.Machine
end

