-- ==== Sys2Proof/Laws/Flags.lean ====
section
/-! SUPPORT. The flag computations of Machine/Flags.lean equal the arithmetic on numbers that Safety.lean states. -/

namespace Sys2Proof.Machine
open Sys2Proof.Safety

set_option Elab.async false

theorem bitAt_n {w r : Nat} (hw : w = 8 ∨ w = 16) (h : r < 2 ^ w) : bitAt r (w - 1) = nOf w r := by
  unfold bitAt nOf
  rw [Bool.eq_iff_iff]; simp
  rcases hw with rfl | rfl <;> norm_num at * <;> omega

theorem sint_signed {w a : Nat} (h : a < 2 ^ w) : sint w a = signed w a := by
  simp [sint, signed, Nat.mod_eq_of_lt h]

theorem addF_eq {w a b c : Nat} (hw : w = 8 ∨ w = 16) (ha : a < 2 ^ w) (hb : b < 2 ^ w) (hc : c ≤ 1) (f : Flags) :
    addF w a b c f = ((a + b + c) % 2 ^ w, sumFlags w a b c) := by
  have hr : (a + b + c) % 2 ^ w < 2 ^ w := Nat.mod_lt _ (Nat.two_pow_pos w)
  simp only [addF, sumFlags, Flags.nz, bitAt_n hw hr, zOf, Prod.mk.injEq, true_and, Flags.mk.injEq, Nat.mod_mod]
  refine ⟨?_, ?_⟩
  · rw [sint_signed ha, sint_signed hb, sint_signed hr]
    unfold overflows signed
    rcases hw with rfl | rfl <;> norm_num at * <;> rw [Bool.eq_iff_iff] <;> simp <;> split_ifs <;> omega
  · rfl

theorem subF_eq {w a b c : Nat} (hw : w = 8 ∨ w = 16) (ha : a < 2 ^ w) (hb : b < 2 ^ w) (hc : c ≤ 1) (f : Flags) :
    subF w a b c f = (diff w a b c, diffFlags w a b c) := by
  have hr : diff w a b c < 2 ^ w := Nat.mod_lt _ (Nat.two_pow_pos w)
  have e : uint w ((a : Int) - b - c) = diff w a b c := by
    unfold uint diff
    rcases hw with rfl | rfl <;> norm_num at * <;> omega
  simp only [subF, diffFlags, e, Flags.nz, bitAt_n hw hr, zOf, Prod.mk.injEq, true_and, Flags.mk.injEq]
  refine ⟨?_, ?_⟩
  · rw [sint_signed ha, sint_signed hb, sint_signed hr]
    unfold overflows signed diff
    rcases hw with rfl | rfl <;> norm_num at * <;> rw [Bool.eq_iff_iff] <;> simp <;> split_ifs <;> omega
  · rw [Nat.mod_eq_of_lt hr]; rfl

theorem b2n_le (b : Bool) : b2n b ≤ 1 := by cases b <;> simp [b2n]

theorem Flags.nz_eq {w r : Nat} (hw : w = 8 ∨ w = 16) (h : r < 2 ^ w) (f : Flags) :
    f.nz w r = { f with n := nOf w r, z := zOf r } := by
  simp [Flags.nz, bitAt_n hw h, Nat.mod_eq_of_lt h, zOf]
  rfl

theorem logicF_eq {w r : Nat} (hw : w = 8 ∨ w = 16) (h : r < 2 ^ w) (f : Flags) :
    logicF w r f = (r, logicFlags w r f) := by
  simp [logicF, Flags.nz_eq hw h, logicFlags]

end Sys2Proof.Machine
end

