-- ==== Sys2Proof/Laws/Memory.lean ====
section
/-! SUPPORT. Memories: a read after a write, and the canonical form, which every memory operation keeps. -/

namespace Sys2Proof.Machine

set_option Elab.async false

theorem Mem.wfFrom_mono {d : Byte} {lo hi : Nat} {m : Mem} (h : lo ≤ hi) (hm : m.wfFrom d hi = true) :
    m.wfFrom d lo = true := by
  cases m with
  | nil => rfl
  | cons e r =>
    simp only [Mem.wfFrom, Bool.and_eq_true, decide_eq_true_eq] at hm ⊢
    exact ⟨⟨Nat.le_trans h hm.1.1, hm.1.2⟩, hm.2⟩

/-- Nothing is listed below where the addresses begin. -/
theorem memGet_below {d : Byte} {lo a : Nat} {m : Mem} (hm : m.wfFrom d lo = true) (h : a < lo) :
    memGet d a m = d := by
  induction m generalizing lo with
  | nil => rfl
  | cons e r ih =>
    obtain ⟨b, w⟩ := e
    simp only [Mem.wfFrom, Bool.and_eq_true, decide_eq_true_eq] at hm
    have hb : b ≠ a := by omega
    simp only [memGet, hb, if_false]
    exact ih hm.2 (by omega)

theorem memPut_wfFrom {d v : Byte} {lo a : Nat} {m : Mem} (ha : lo ≤ a) (hm : m.wfFrom d lo = true) :
    (memPut d a v m).wfFrom d lo = true := by
  induction m generalizing lo with
  | nil =>
    unfold memPut
    split
    · rfl
    · rename_i hv; simp [Mem.wfFrom, ha, hv]
  | cons e r ih =>
    obtain ⟨b, w⟩ := e
    have hm' := hm
    simp only [Mem.wfFrom, Bool.and_eq_true, decide_eq_true_eq, bne_iff_ne] at hm
    obtain ⟨⟨h1, h2⟩, h3⟩ := hm
    unfold memPut
    split
    · rename_i hb
      subst hb
      split
      · exact Mem.wfFrom_mono (by omega) h3
      · rename_i hv; simp [Mem.wfFrom, h1, h3, hv]
    · rename_i hb
      split
      · rename_i hlt
        split
        · exact hm'
        · rename_i hv
          simp only [Mem.wfFrom, Bool.and_eq_true, decide_eq_true_eq, bne_iff_ne]
          exact ⟨⟨ha, hv⟩, ⟨by omega, h2⟩, h3⟩
      · rename_i hlt
        simp only [Mem.wfFrom, Bool.and_eq_true, decide_eq_true_eq, bne_iff_ne]
        exact ⟨⟨h1, h2⟩, ih (by omega) h3⟩

/-- A byte written keeps the canonical form. -/
theorem memPut_wf {d v : Byte} {a : Nat} {m : Mem} (hm : Memory.wf d m = true) :
    Memory.wf d (memPut d a v m) = true := memPut_wfFrom (Nat.zero_le _) hm

/-- Bytes written keep the canonical form. -/
theorem memWrite_wf {d : Byte} {a : Nat} {bs : List Byte} {m : Mem} (hm : Memory.wf d m = true) :
    Memory.wf d (memWrite d m a bs) = true := by
  induction bs generalizing m a with
  | nil => exact hm
  | cons b r ih => exact ih (memPut_wf hm)

@[simp] theorem empty_wf (d : Byte) : Memory.wf d [] = true := rfl

theorem memGet_memPut_wfFrom {d v : Byte} {lo a c : Nat} {m : Mem} (hm : m.wfFrom d lo = true) :
    memGet d c (memPut d a v m) = if c = a then v else memGet d c m := by
  induction m generalizing lo with
  | nil =>
    unfold memPut
    split
    · rename_i hv; subst hv; simp [memGet]
    · simp only [memGet, eq_comm (a := a)]
  | cons e r ih =>
    obtain ⟨b, w⟩ := e
    simp only [Mem.wfFrom, Bool.and_eq_true, decide_eq_true_eq] at hm
    obtain ⟨⟨h1, _⟩, h3⟩ := hm
    unfold memPut
    split
    · rename_i hb
      subst hb
      split
      · rename_i hv
        subst hv
        by_cases hc : c = b
        · subst hc
          simp [memGet_below h3 (Nat.lt_succ_self c)]
        · simp [memGet, hc, Ne.symm hc]
      · by_cases hc : c = b
        · subst hc; simp [memGet]
        · simp [memGet, hc, Ne.symm hc]
    · rename_i hb
      split
      · rename_i hlt
        split
        · rename_i hv
          subst hv
          by_cases hc : c = a
          · subst hc
            simp [memGet, hb, memGet_below h3 (show c < b + 1 by omega)]
          · simp [hc]
        · by_cases hc : c = a
          · subst hc; simp [memGet]
          · simp [memGet, hc, Ne.symm hc]
      · rename_i hlt
        by_cases hc : c = b
        · subst hc
          have : c ≠ a := hb
          simp [memGet, this]
        · simp only [memGet, Ne.symm hc, if_false]
          exact ih h3

/-- A read after a write of one byte. -/
theorem memGet_memPut {d v : Byte} {a c : Nat} {m : Mem} (hm : Memory.wf d m = true) :
    memGet d c (memPut d a v m) = if c = a then v else memGet d c m := memGet_memPut_wfFrom hm

/-- A read after a write of several bytes. -/
theorem memGet_memWrite {d : Byte} {a c : Nat} {bs : List Byte} {m : Mem} (hm : Memory.wf d m = true) :
    memGet d c (memWrite d m a bs) =
      if a ≤ c then (bs[c - a]?).getD (memGet d c m) else memGet d c m := by
  induction bs generalizing m a with
  | nil => simp [memWrite]
  | cons b r ih =>
    rw [memWrite, ih (memPut_wf hm), memGet_memPut hm]
    rcases Nat.lt_trichotomy c a with h | h | h
    · rw [if_neg (show ¬ a + 1 ≤ c by omega), if_neg (show ¬ c = a by omega), if_neg (show ¬ a ≤ c by omega)]
    · subst h
      rw [if_neg (show ¬ c + 1 ≤ c by omega), if_pos rfl, if_pos (Nat.le_refl c), Nat.sub_self]
      rfl
    · rw [if_pos (show a + 1 ≤ c by omega), if_neg (show ¬ c = a by omega), if_pos (show a ≤ c by omega),
        show c - a = c - (a + 1) + 1 by omega, List.getElem?_cons_succ]

/-- Reading back the bytes that a write stored. -/
theorem memRead_memWrite {d : Byte} {a o n : Nat} {bs : List Byte} {m : Mem} (hm : Memory.wf d m = true)
    (h : o + n ≤ bs.length) : memRead d (memWrite d m a bs) (a + o) n = (bs.drop o).take n := by
  apply List.ext_getElem?
  intro i
  by_cases hi : i < n
  · simp [memRead, memGet_memWrite hm, hi, List.getElem?_drop]
    rw [show a + o + i - a = o + i by omega, if_pos (by omega), List.getElem?_eq_getElem (by omega)]
    rfl
  · simp [memRead, hi]

/-- A number of `k` bytes is what its bytes spell. -/
theorem leNum_leBytes (n k : Nat) : leNum (leBytes n k) = n % 256 ^ k := by
  induction k generalizing n with
  | zero => simp [leBytes, leNum, Nat.mod_one]
  | succ k ih =>
    rw [leBytes, leNum, ih, Nat.pow_succ', Nat.mod_mul]
    simp

/-- The length of a number's bytes. -/
@[simp] theorem leBytes_length (n k : Nat) : (leBytes n k).length = k := by
  induction k generalizing n with
  | zero => rfl
  | succ k ih => simp [leBytes, ih]
end Sys2Proof.Machine
end

