-- ==== Sys2Proof/Laws/State.lean ====
section
/-! SUPPORT. One lemma per field and update of State: reading back what an update wrote, and every field that
it leaves alone. -/

namespace Sys2Proof.Machine

set_option Elab.async false

/-! ### Tables -/

@[simp] theorem tget_tput_self {α : Type} (d v : α) (k : Nat) (m : Table α) :
    tget d k (tput k v m) = v := by
  induction m with
  | nil => simp [tput, tget]
  | cons e r ih =>
    obtain ⟨j, w⟩ := e
    unfold tput
    split
    · simp [tget]
    · split
      · simp [tget]
      · rename_i h _; simp [tget, h, ih]

theorem tget_tput_ne {α : Type} (d v : α) {k j : Nat} (h : j ≠ k) (m : Table α) :
    tget d j (tput k v m) = tget d j m := by
  induction m with
  | nil => simp [tput, tget, Ne.symm h]
  | cons e r ih =>
    obtain ⟨i, w⟩ := e
    unfold tput
    split
    · rename_i hi; subst hi; simp [tget, Ne.symm h]
    · split
      · simp [tget, Ne.symm h]
      · simp [tget, ih]

@[simp] theorem tput_tput {α : Type} (k : Nat) (v w : α) (m : Table α) : tput k v (tput k w m) = tput k v m := by
  induction m with
  | nil => simp [tput]
  | cons e r ih =>
    obtain ⟨i, u⟩ := e
    rcases Nat.lt_trichotomy k i with h | h | h
    · simp [tput, h, Nat.ne_of_gt h]
    · simp [tput, h]
    · simp [tput, Nat.not_lt_of_gt h, Nat.ne_of_lt h, ih]

@[simp] theorem tfind?_tput_self {α : Type} (k : Nat) (v : α) (m : Table α) : tfind? k (tput k v m) = some v := by
  induction m with
  | nil => simp [tput, tfind?]
  | cons e r ih =>
    obtain ⟨i, u⟩ := e
    unfold tput
    split
    · simp [tfind?]
    · split
      · simp [tfind?]
      · rename_i h _; simp [tfind?, h, ih]

theorem tfind?_tput_ne {α : Type} (v : α) {k j : Nat} (h : j ≠ k) (m : Table α) :
    tfind? j (tput k v m) = tfind? j m := by
  induction m with
  | nil => simp [tput, tfind?, Ne.symm h]
  | cons e r ih =>
    obtain ⟨i, u⟩ := e
    unfold tput
    split
    · rename_i hi; subst hi; simp [tfind?, Ne.symm h]
    · split
      · simp [tfind?, Ne.symm h]
      · simp [tfind?, ih]

@[simp] theorem tfind?_tdel_self {α : Type} (k : Nat) (m : Table α) : tfind? k (tdel k m) = none := by
  induction m with
  | nil => rfl
  | cons e r ih =>
    obtain ⟨i, u⟩ := e
    by_cases h : i = k
    · simpa [tdel, h] using ih
    · simpa [tdel, h, tfind?] using ih

theorem tfind?_tdel_ne {α : Type} {k j : Nat} (h : j ≠ k) (m : Table α) : tfind? j (tdel k m) = tfind? j m := by
  induction m with
  | nil => rfl
  | cons e r ih =>
    obtain ⟨i, u⟩ := e
    by_cases hi : i = k
    · subst hi; simpa [tdel, tfind?, Ne.symm h] using ih
    · by_cases hj : i = j
      · simp [tdel, tfind?, hj, h]
      · simpa [tdel, hi, tfind?, hj] using ih

/-! ### A replaced unit reads back -/

@[simp] theorem State.setTile_tile (s : State) (k : Nat) (v : Tile) : (s.setTile k v).tile k = v :=
  tget_tput_self _ _ _ _
theorem State.setTile_tile_ne (s : State) (v : Tile) {k j : Nat} (h : j ≠ k) :
    (s.setTile k v).tile j = s.tile j := tget_tput_ne _ _ h _
@[simp] theorem State.setQueue_queue (s : State) (k : Nat) (v : Queue) : (s.setQueue k v).queue k = v :=
  tget_tput_self _ _ _ _
theorem State.setQueue_queue_ne (s : State) (v : Queue) {k j : Nat} (h : j ≠ k) :
    (s.setQueue k v).queue j = s.queue j := tget_tput_ne _ _ h _
@[simp] theorem State.setDisp_disp (s : State) (k : Nat) (v : Disp) : (s.setDisp k v).disp k = v :=
  tget_tput_self _ _ _ _
theorem State.setDisp_disp_ne (s : State) (v : Disp) {k j : Nat} (h : j ≠ k) :
    (s.setDisp k v).disp j = s.disp j := tget_tput_ne _ _ h _
@[simp] theorem State.setStream_stream (s : State) (k : Nat) (v : Stream) : (s.setStream k v).stream k = v :=
  tget_tput_self _ _ _ _
theorem State.setStream_stream_ne (s : State) (v : Stream) {k j : Nat} (h : j ≠ k) :
    (s.setStream k v).stream j = s.stream j := tget_tput_ne _ _ h _
@[simp] theorem State.setChan_chan (s : State) (k : Nat) (v : Chan) : (s.setChan k v).chan k = v :=
  tget_tput_self _ _ _ _
theorem State.setChan_chan_ne (s : State) (v : Chan) {k j : Nat} (h : j ≠ k) :
    (s.setChan k v).chan j = s.chan j := tget_tput_ne _ _ h _
@[simp] theorem State.setDmaE_dmaE (s : State) (k : Nat) (v : DmaEngine) : (s.setDmaE k v).dmaE k = v :=
  tget_tput_self _ _ _ _
theorem State.setDmaE_dmaE_ne (s : State) (v : DmaEngine) {k j : Nat} (h : j ≠ k) :
    (s.setDmaE k v).dmaE j = s.dmaE j := tget_tput_ne _ _ h _
@[simp] theorem State.setSrc_src (s : State) (k : Nat) (v : Src) : (s.setSrc k v).src k = v :=
  tget_tput_self _ _ _ _
theorem State.setSrc_src_ne (s : State) (v : Src) {k j : Nat} (h : j ≠ k) :
    (s.setSrc k v).src j = s.src j := tget_tput_ne _ _ h _
@[simp] theorem State.setHold_hold (s : State) (k : Nat) (v : Hold) : (s.setHold k v).hold k = v :=
  tget_tput_self _ _ _ _
theorem State.setHold_hold_ne (s : State) (v : Hold) {k j : Nat} (h : j ≠ k) :
    (s.setHold k v).hold j = s.hold j := tget_tput_ne _ _ h _
@[simp] theorem State.setAlarm_alarm (s : State) (k : Nat) (v : Alarm) : (s.setAlarm k v).alarm k = v :=
  tget_tput_self _ _ _ _
theorem State.setAlarm_alarm_ne (s : State) (v : Alarm) {k j : Nat} (h : j ≠ k) :
    (s.setAlarm k v).alarm j = s.alarm j := tget_tput_ne _ _ h _
@[simp] theorem State.setPin_pin (s : State) (k : Nat) (v : Pin) : (s.setPin k v).pin k = v :=
  tget_tput_self _ _ _ _
theorem State.setPin_pin_ne (s : State) (v : Pin) {k j : Nat} (h : j ≠ k) :
    (s.setPin k v).pin j = s.pin j := tget_tput_ne _ _ h _
@[simp] theorem State.setTimer_timer (s : State) (k : Nat) (v : Timer) : (s.setTimer k v).timer k = v :=
  tget_tput_self _ _ _ _
theorem State.setTimer_timer_ne (s : State) (v : Timer) {k j : Nat} (h : j ≠ k) :
    (s.setTimer k v).timer j = s.timer j := tget_tput_ne _ _ h _
@[simp] theorem State.setSer_ser (s : State) (k : Nat) (v : Ser) : (s.setSer k v).ser k = v :=
  tget_tput_self _ _ _ _
theorem State.setSer_ser_ne (s : State) (v : Ser) {k j : Nat} (h : j ≠ k) :
    (s.setSer k v).ser j = s.ser j := tget_tput_ne _ _ h _
@[simp] theorem State.setBank_bank (s : State) (k : Nat) (v : Bank) : (s.setBank k v).bank k = v :=
  tget_tput_self _ _ _ _
theorem State.setBank_bank_ne (s : State) (v : Bank) {k j : Nat} (h : j ≠ k) :
    (s.setBank k v).bank j = s.bank j := tget_tput_ne _ _ h _
@[simp] theorem State.setCourt_court (s : State) (k : Nat) (v : Court) : (s.setCourt k v).court k = v :=
  tget_tput_self _ _ _ _
theorem State.setCourt_court_ne (s : State) (v : Court) {k j : Nat} (h : j ≠ k) :
    (s.setCourt k v).court j = s.court j := tget_tput_ne _ _ h _
@[simp] theorem State.setMbx_mbx (s : State) (k : Nat) (v : Mbx) : (s.setMbx k v).mbx k = v :=
  tget_tput_self _ _ _ _
theorem State.setMbx_mbx_ne (s : State) (v : Mbx) {k j : Nat} (h : j ≠ k) :
    (s.setMbx k v).mbx j = s.mbx j := tget_tput_ne _ _ h _
@[simp] theorem State.setPort_port (s : State) (k : Nat) (v : LinkPort) : (s.setPort k v).port k = v :=
  tget_tput_self _ _ _ _
theorem State.setPort_port_ne (s : State) (v : LinkPort) {k j : Nat} (h : j ≠ k) :
    (s.setPort k v).port j = s.port j := tget_tput_ne _ _ h _
@[simp] theorem State.setFeed_feed (s : State) (k : Nat) (v : Feed) : (s.setFeed k v).feed k = v :=
  tget_tput_self _ _ _ _
theorem State.setFeed_feed_ne (s : State) (v : Feed) {k j : Nat} (h : j ≠ k) :
    (s.setFeed k v).feed j = s.feed j := tget_tput_ne _ _ h _

/-! ### A second write prevails -/

@[simp] theorem State.setTile_setTile (s : State) (k : Nat) (v w : Tile) : (s.setTile k w).setTile k v = s.setTile k v := by
  simp [State.setTile]
@[simp] theorem State.setQueue_setQueue (s : State) (k : Nat) (v w : Queue) : (s.setQueue k w).setQueue k v = s.setQueue k v := by
  simp [State.setQueue]
@[simp] theorem State.setDisp_setDisp (s : State) (k : Nat) (v w : Disp) : (s.setDisp k w).setDisp k v = s.setDisp k v := by
  simp [State.setDisp]
@[simp] theorem State.setStream_setStream (s : State) (k : Nat) (v w : Stream) : (s.setStream k w).setStream k v = s.setStream k v := by
  simp [State.setStream]
@[simp] theorem State.setChan_setChan (s : State) (k : Nat) (v w : Chan) : (s.setChan k w).setChan k v = s.setChan k v := by
  simp [State.setChan]
@[simp] theorem State.setDmaE_setDmaE (s : State) (k : Nat) (v w : DmaEngine) : (s.setDmaE k w).setDmaE k v = s.setDmaE k v := by
  simp [State.setDmaE]
@[simp] theorem State.setSrc_setSrc (s : State) (k : Nat) (v w : Src) : (s.setSrc k w).setSrc k v = s.setSrc k v := by
  simp [State.setSrc]
@[simp] theorem State.setHold_setHold (s : State) (k : Nat) (v w : Hold) : (s.setHold k w).setHold k v = s.setHold k v := by
  simp [State.setHold]
@[simp] theorem State.setAlarm_setAlarm (s : State) (k : Nat) (v w : Alarm) : (s.setAlarm k w).setAlarm k v = s.setAlarm k v := by
  simp [State.setAlarm]
@[simp] theorem State.setPin_setPin (s : State) (k : Nat) (v w : Pin) : (s.setPin k w).setPin k v = s.setPin k v := by
  simp [State.setPin]
@[simp] theorem State.setTimer_setTimer (s : State) (k : Nat) (v w : Timer) : (s.setTimer k w).setTimer k v = s.setTimer k v := by
  simp [State.setTimer]
@[simp] theorem State.setSer_setSer (s : State) (k : Nat) (v w : Ser) : (s.setSer k w).setSer k v = s.setSer k v := by
  simp [State.setSer]
@[simp] theorem State.setBank_setBank (s : State) (k : Nat) (v w : Bank) : (s.setBank k w).setBank k v = s.setBank k v := by
  simp [State.setBank]
@[simp] theorem State.setCourt_setCourt (s : State) (k : Nat) (v w : Court) : (s.setCourt k w).setCourt k v = s.setCourt k v := by
  simp [State.setCourt]
@[simp] theorem State.setMbx_setMbx (s : State) (k : Nat) (v w : Mbx) : (s.setMbx k w).setMbx k v = s.setMbx k v := by
  simp [State.setMbx]
@[simp] theorem State.setPort_setPort (s : State) (k : Nat) (v w : LinkPort) : (s.setPort k w).setPort k v = s.setPort k v := by
  simp [State.setPort]
@[simp] theorem State.setFeed_setFeed (s : State) (k : Nat) (v w : Feed) : (s.setFeed k w).setFeed k v = s.setFeed k v := by
  simp [State.setFeed]

/-! ### Every other field stays -/

@[simp] theorem State.setTile_pending (s : State) (k : Nat) (v : Tile) : (s.setTile k v).pending = s.pending := rfl
@[simp] theorem State.setTile_now (s : State) (k : Nat) (v : Tile) : (s.setTile k v).now = s.now := rfl
@[simp] theorem State.setTile_wall (s : State) (k : Nat) (v : Tile) : (s.setTile k v).wall = s.wall := rfl
@[simp] theorem State.setTile_free (s : State) (k : Nat) (v : Tile) : (s.setTile k v).free = s.free := rfl
@[simp] theorem State.setTile_gates (s : State) (k : Nat) (v : Tile) : (s.setTile k v).gates = s.gates := rfl
@[simp] theorem State.setTile_flight (s : State) (k : Nat) (v : Tile) : (s.setTile k v).flight = s.flight := rfl
@[simp] theorem State.setTile_replies (s : State) (k : Nat) (v : Tile) : (s.setTile k v).replies = s.replies := rfl
@[simp] theorem State.setTile_queues (s : State) (k : Nat) (v : Tile) : (s.setTile k v).queues = s.queues := rfl
@[simp] theorem State.setTile_disps (s : State) (k : Nat) (v : Tile) : (s.setTile k v).disps = s.disps := rfl
@[simp] theorem State.setTile_pool (s : State) (k : Nat) (v : Tile) : (s.setTile k v).pool = s.pool := rfl
@[simp] theorem State.setTile_bufMem (s : State) (k : Nat) (v : Tile) : (s.setTile k v).bufMem = s.bufMem := rfl
@[simp] theorem State.setTile_engine (s : State) (k : Nat) (v : Tile) : (s.setTile k v).engine = s.engine := rfl
@[simp] theorem State.setTile_chans (s : State) (k : Nat) (v : Tile) : (s.setTile k v).chans = s.chans := rfl
@[simp] theorem State.setTile_dmaEng (s : State) (k : Nat) (v : Tile) : (s.setTile k v).dmaEng = s.dmaEng := rfl
@[simp] theorem State.setTile_router (s : State) (k : Nat) (v : Tile) : (s.setTile k v).router = s.router := rfl
@[simp] theorem State.setTile_time (s : State) (k : Nat) (v : Tile) : (s.setTile k v).time = s.time := rfl
@[simp] theorem State.setTile_aon (s : State) (k : Nat) (v : Tile) : (s.setTile k v).aon = s.aon := rfl
@[simp] theorem State.setTile_fio (s : State) (k : Nat) (v : Tile) : (s.setTile k v).fio = s.fio := rfl
@[simp] theorem State.setTile_faults (s : State) (k : Nat) (v : Tile) : (s.setTile k v).faults = s.faults := rfl
@[simp] theorem State.setTile_pace (s : State) (k : Nat) (v : Tile) : (s.setTile k v).pace = s.pace := rfl
@[simp] theorem State.setTile_fabric (s : State) (k : Nat) (v : Tile) : (s.setTile k v).fabric = s.fabric := rfl
@[simp] theorem State.setTile_mgmt (s : State) (k : Nat) (v : Tile) : (s.setTile k v).mgmt = s.mgmt := rfl
@[simp] theorem State.setTile_boot (s : State) (k : Nat) (v : Tile) : (s.setTile k v).boot = s.boot := rfl
@[simp] theorem State.setTile_power (s : State) (k : Nat) (v : Tile) : (s.setTile k v).power = s.power := rfl
@[simp] theorem State.setTile_feeds (s : State) (k : Nat) (v : Tile) : (s.setTile k v).feeds = s.feeds := rfl
@[simp] theorem State.setTile_host (s : State) (k : Nat) (v : Tile) : (s.setTile k v).host = s.host := rfl
@[simp] theorem State.setTile_service (s : State) (k : Nat) (v : Tile) : (s.setTile k v).service = s.service := rfl
@[simp] theorem State.setTile_dbgBlock (s : State) (k : Nat) (v : Tile) : (s.setTile k v).dbgBlock = s.dbgBlock := rfl
@[simp] theorem State.setTile_queue (s : State) (k j : Nat) (v : Tile) : (s.setTile k v).queue j = s.queue j := rfl
@[simp] theorem State.setTile_disp (s : State) (k j : Nat) (v : Tile) : (s.setTile k v).disp j = s.disp j := rfl
@[simp] theorem State.setTile_stream (s : State) (k j : Nat) (v : Tile) : (s.setTile k v).stream j = s.stream j := rfl
@[simp] theorem State.setTile_chan (s : State) (k j : Nat) (v : Tile) : (s.setTile k v).chan j = s.chan j := rfl
@[simp] theorem State.setTile_dmaE (s : State) (k j : Nat) (v : Tile) : (s.setTile k v).dmaE j = s.dmaE j := rfl
@[simp] theorem State.setTile_src (s : State) (k j : Nat) (v : Tile) : (s.setTile k v).src j = s.src j := rfl
@[simp] theorem State.setTile_hold (s : State) (k j : Nat) (v : Tile) : (s.setTile k v).hold j = s.hold j := rfl
@[simp] theorem State.setTile_alarm (s : State) (k j : Nat) (v : Tile) : (s.setTile k v).alarm j = s.alarm j := rfl
@[simp] theorem State.setTile_pin (s : State) (k j : Nat) (v : Tile) : (s.setTile k v).pin j = s.pin j := rfl
@[simp] theorem State.setTile_timer (s : State) (k j : Nat) (v : Tile) : (s.setTile k v).timer j = s.timer j := rfl
@[simp] theorem State.setTile_ser (s : State) (k j : Nat) (v : Tile) : (s.setTile k v).ser j = s.ser j := rfl
@[simp] theorem State.setTile_bank (s : State) (k j : Nat) (v : Tile) : (s.setTile k v).bank j = s.bank j := rfl
@[simp] theorem State.setTile_court (s : State) (k j : Nat) (v : Tile) : (s.setTile k v).court j = s.court j := rfl
@[simp] theorem State.setTile_mbx (s : State) (k j : Nat) (v : Tile) : (s.setTile k v).mbx j = s.mbx j := rfl
@[simp] theorem State.setTile_port (s : State) (k j : Nat) (v : Tile) : (s.setTile k v).port j = s.port j := rfl
@[simp] theorem State.setTile_feed (s : State) (k j : Nat) (v : Tile) : (s.setTile k v).feed j = s.feed j := rfl
@[simp] theorem State.setQueue_pending (s : State) (k : Nat) (v : Queue) : (s.setQueue k v).pending = s.pending := rfl
@[simp] theorem State.setQueue_now (s : State) (k : Nat) (v : Queue) : (s.setQueue k v).now = s.now := rfl
@[simp] theorem State.setQueue_wall (s : State) (k : Nat) (v : Queue) : (s.setQueue k v).wall = s.wall := rfl
@[simp] theorem State.setQueue_free (s : State) (k : Nat) (v : Queue) : (s.setQueue k v).free = s.free := rfl
@[simp] theorem State.setQueue_tiles (s : State) (k : Nat) (v : Queue) : (s.setQueue k v).tiles = s.tiles := rfl
@[simp] theorem State.setQueue_gates (s : State) (k : Nat) (v : Queue) : (s.setQueue k v).gates = s.gates := rfl
@[simp] theorem State.setQueue_flight (s : State) (k : Nat) (v : Queue) : (s.setQueue k v).flight = s.flight := rfl
@[simp] theorem State.setQueue_replies (s : State) (k : Nat) (v : Queue) : (s.setQueue k v).replies = s.replies := rfl
@[simp] theorem State.setQueue_disps (s : State) (k : Nat) (v : Queue) : (s.setQueue k v).disps = s.disps := rfl
@[simp] theorem State.setQueue_pool (s : State) (k : Nat) (v : Queue) : (s.setQueue k v).pool = s.pool := rfl
@[simp] theorem State.setQueue_bufMem (s : State) (k : Nat) (v : Queue) : (s.setQueue k v).bufMem = s.bufMem := rfl
@[simp] theorem State.setQueue_engine (s : State) (k : Nat) (v : Queue) : (s.setQueue k v).engine = s.engine := rfl
@[simp] theorem State.setQueue_chans (s : State) (k : Nat) (v : Queue) : (s.setQueue k v).chans = s.chans := rfl
@[simp] theorem State.setQueue_dmaEng (s : State) (k : Nat) (v : Queue) : (s.setQueue k v).dmaEng = s.dmaEng := rfl
@[simp] theorem State.setQueue_router (s : State) (k : Nat) (v : Queue) : (s.setQueue k v).router = s.router := rfl
@[simp] theorem State.setQueue_time (s : State) (k : Nat) (v : Queue) : (s.setQueue k v).time = s.time := rfl
@[simp] theorem State.setQueue_aon (s : State) (k : Nat) (v : Queue) : (s.setQueue k v).aon = s.aon := rfl
@[simp] theorem State.setQueue_fio (s : State) (k : Nat) (v : Queue) : (s.setQueue k v).fio = s.fio := rfl
@[simp] theorem State.setQueue_faults (s : State) (k : Nat) (v : Queue) : (s.setQueue k v).faults = s.faults := rfl
@[simp] theorem State.setQueue_pace (s : State) (k : Nat) (v : Queue) : (s.setQueue k v).pace = s.pace := rfl
@[simp] theorem State.setQueue_fabric (s : State) (k : Nat) (v : Queue) : (s.setQueue k v).fabric = s.fabric := rfl
@[simp] theorem State.setQueue_mgmt (s : State) (k : Nat) (v : Queue) : (s.setQueue k v).mgmt = s.mgmt := rfl
@[simp] theorem State.setQueue_boot (s : State) (k : Nat) (v : Queue) : (s.setQueue k v).boot = s.boot := rfl
@[simp] theorem State.setQueue_power (s : State) (k : Nat) (v : Queue) : (s.setQueue k v).power = s.power := rfl
@[simp] theorem State.setQueue_feeds (s : State) (k : Nat) (v : Queue) : (s.setQueue k v).feeds = s.feeds := rfl
@[simp] theorem State.setQueue_host (s : State) (k : Nat) (v : Queue) : (s.setQueue k v).host = s.host := rfl
@[simp] theorem State.setQueue_service (s : State) (k : Nat) (v : Queue) : (s.setQueue k v).service = s.service := rfl
@[simp] theorem State.setQueue_dbgBlock (s : State) (k : Nat) (v : Queue) : (s.setQueue k v).dbgBlock = s.dbgBlock := rfl
@[simp] theorem State.setQueue_tile (s : State) (k j : Nat) (v : Queue) : (s.setQueue k v).tile j = s.tile j := rfl
@[simp] theorem State.setQueue_disp (s : State) (k j : Nat) (v : Queue) : (s.setQueue k v).disp j = s.disp j := rfl
@[simp] theorem State.setQueue_stream (s : State) (k j : Nat) (v : Queue) : (s.setQueue k v).stream j = s.stream j := rfl
@[simp] theorem State.setQueue_chan (s : State) (k j : Nat) (v : Queue) : (s.setQueue k v).chan j = s.chan j := rfl
@[simp] theorem State.setQueue_dmaE (s : State) (k j : Nat) (v : Queue) : (s.setQueue k v).dmaE j = s.dmaE j := rfl
@[simp] theorem State.setQueue_src (s : State) (k j : Nat) (v : Queue) : (s.setQueue k v).src j = s.src j := rfl
@[simp] theorem State.setQueue_hold (s : State) (k j : Nat) (v : Queue) : (s.setQueue k v).hold j = s.hold j := rfl
@[simp] theorem State.setQueue_alarm (s : State) (k j : Nat) (v : Queue) : (s.setQueue k v).alarm j = s.alarm j := rfl
@[simp] theorem State.setQueue_pin (s : State) (k j : Nat) (v : Queue) : (s.setQueue k v).pin j = s.pin j := rfl
@[simp] theorem State.setQueue_timer (s : State) (k j : Nat) (v : Queue) : (s.setQueue k v).timer j = s.timer j := rfl
@[simp] theorem State.setQueue_ser (s : State) (k j : Nat) (v : Queue) : (s.setQueue k v).ser j = s.ser j := rfl
@[simp] theorem State.setQueue_bank (s : State) (k j : Nat) (v : Queue) : (s.setQueue k v).bank j = s.bank j := rfl
@[simp] theorem State.setQueue_court (s : State) (k j : Nat) (v : Queue) : (s.setQueue k v).court j = s.court j := rfl
@[simp] theorem State.setQueue_mbx (s : State) (k j : Nat) (v : Queue) : (s.setQueue k v).mbx j = s.mbx j := rfl
@[simp] theorem State.setQueue_port (s : State) (k j : Nat) (v : Queue) : (s.setQueue k v).port j = s.port j := rfl
@[simp] theorem State.setQueue_feed (s : State) (k j : Nat) (v : Queue) : (s.setQueue k v).feed j = s.feed j := rfl
@[simp] theorem State.setDisp_pending (s : State) (k : Nat) (v : Disp) : (s.setDisp k v).pending = s.pending := rfl
@[simp] theorem State.setDisp_now (s : State) (k : Nat) (v : Disp) : (s.setDisp k v).now = s.now := rfl
@[simp] theorem State.setDisp_wall (s : State) (k : Nat) (v : Disp) : (s.setDisp k v).wall = s.wall := rfl
@[simp] theorem State.setDisp_free (s : State) (k : Nat) (v : Disp) : (s.setDisp k v).free = s.free := rfl
@[simp] theorem State.setDisp_tiles (s : State) (k : Nat) (v : Disp) : (s.setDisp k v).tiles = s.tiles := rfl
@[simp] theorem State.setDisp_gates (s : State) (k : Nat) (v : Disp) : (s.setDisp k v).gates = s.gates := rfl
@[simp] theorem State.setDisp_flight (s : State) (k : Nat) (v : Disp) : (s.setDisp k v).flight = s.flight := rfl
@[simp] theorem State.setDisp_replies (s : State) (k : Nat) (v : Disp) : (s.setDisp k v).replies = s.replies := rfl
@[simp] theorem State.setDisp_queues (s : State) (k : Nat) (v : Disp) : (s.setDisp k v).queues = s.queues := rfl
@[simp] theorem State.setDisp_pool (s : State) (k : Nat) (v : Disp) : (s.setDisp k v).pool = s.pool := rfl
@[simp] theorem State.setDisp_bufMem (s : State) (k : Nat) (v : Disp) : (s.setDisp k v).bufMem = s.bufMem := rfl
@[simp] theorem State.setDisp_engine (s : State) (k : Nat) (v : Disp) : (s.setDisp k v).engine = s.engine := rfl
@[simp] theorem State.setDisp_chans (s : State) (k : Nat) (v : Disp) : (s.setDisp k v).chans = s.chans := rfl
@[simp] theorem State.setDisp_dmaEng (s : State) (k : Nat) (v : Disp) : (s.setDisp k v).dmaEng = s.dmaEng := rfl
@[simp] theorem State.setDisp_router (s : State) (k : Nat) (v : Disp) : (s.setDisp k v).router = s.router := rfl
@[simp] theorem State.setDisp_time (s : State) (k : Nat) (v : Disp) : (s.setDisp k v).time = s.time := rfl
@[simp] theorem State.setDisp_aon (s : State) (k : Nat) (v : Disp) : (s.setDisp k v).aon = s.aon := rfl
@[simp] theorem State.setDisp_fio (s : State) (k : Nat) (v : Disp) : (s.setDisp k v).fio = s.fio := rfl
@[simp] theorem State.setDisp_faults (s : State) (k : Nat) (v : Disp) : (s.setDisp k v).faults = s.faults := rfl
@[simp] theorem State.setDisp_pace (s : State) (k : Nat) (v : Disp) : (s.setDisp k v).pace = s.pace := rfl
@[simp] theorem State.setDisp_fabric (s : State) (k : Nat) (v : Disp) : (s.setDisp k v).fabric = s.fabric := rfl
@[simp] theorem State.setDisp_mgmt (s : State) (k : Nat) (v : Disp) : (s.setDisp k v).mgmt = s.mgmt := rfl
@[simp] theorem State.setDisp_boot (s : State) (k : Nat) (v : Disp) : (s.setDisp k v).boot = s.boot := rfl
@[simp] theorem State.setDisp_power (s : State) (k : Nat) (v : Disp) : (s.setDisp k v).power = s.power := rfl
@[simp] theorem State.setDisp_feeds (s : State) (k : Nat) (v : Disp) : (s.setDisp k v).feeds = s.feeds := rfl
@[simp] theorem State.setDisp_host (s : State) (k : Nat) (v : Disp) : (s.setDisp k v).host = s.host := rfl
@[simp] theorem State.setDisp_service (s : State) (k : Nat) (v : Disp) : (s.setDisp k v).service = s.service := rfl
@[simp] theorem State.setDisp_dbgBlock (s : State) (k : Nat) (v : Disp) : (s.setDisp k v).dbgBlock = s.dbgBlock := rfl
@[simp] theorem State.setDisp_tile (s : State) (k j : Nat) (v : Disp) : (s.setDisp k v).tile j = s.tile j := rfl
@[simp] theorem State.setDisp_queue (s : State) (k j : Nat) (v : Disp) : (s.setDisp k v).queue j = s.queue j := rfl
@[simp] theorem State.setDisp_stream (s : State) (k j : Nat) (v : Disp) : (s.setDisp k v).stream j = s.stream j := rfl
@[simp] theorem State.setDisp_chan (s : State) (k j : Nat) (v : Disp) : (s.setDisp k v).chan j = s.chan j := rfl
@[simp] theorem State.setDisp_dmaE (s : State) (k j : Nat) (v : Disp) : (s.setDisp k v).dmaE j = s.dmaE j := rfl
@[simp] theorem State.setDisp_src (s : State) (k j : Nat) (v : Disp) : (s.setDisp k v).src j = s.src j := rfl
@[simp] theorem State.setDisp_hold (s : State) (k j : Nat) (v : Disp) : (s.setDisp k v).hold j = s.hold j := rfl
@[simp] theorem State.setDisp_alarm (s : State) (k j : Nat) (v : Disp) : (s.setDisp k v).alarm j = s.alarm j := rfl
@[simp] theorem State.setDisp_pin (s : State) (k j : Nat) (v : Disp) : (s.setDisp k v).pin j = s.pin j := rfl
@[simp] theorem State.setDisp_timer (s : State) (k j : Nat) (v : Disp) : (s.setDisp k v).timer j = s.timer j := rfl
@[simp] theorem State.setDisp_ser (s : State) (k j : Nat) (v : Disp) : (s.setDisp k v).ser j = s.ser j := rfl
@[simp] theorem State.setDisp_bank (s : State) (k j : Nat) (v : Disp) : (s.setDisp k v).bank j = s.bank j := rfl
@[simp] theorem State.setDisp_court (s : State) (k j : Nat) (v : Disp) : (s.setDisp k v).court j = s.court j := rfl
@[simp] theorem State.setDisp_mbx (s : State) (k j : Nat) (v : Disp) : (s.setDisp k v).mbx j = s.mbx j := rfl
@[simp] theorem State.setDisp_port (s : State) (k j : Nat) (v : Disp) : (s.setDisp k v).port j = s.port j := rfl
@[simp] theorem State.setDisp_feed (s : State) (k j : Nat) (v : Disp) : (s.setDisp k v).feed j = s.feed j := rfl
@[simp] theorem State.setStream_pending (s : State) (k : Nat) (v : Stream) : (s.setStream k v).pending = s.pending := rfl
@[simp] theorem State.setStream_now (s : State) (k : Nat) (v : Stream) : (s.setStream k v).now = s.now := rfl
@[simp] theorem State.setStream_wall (s : State) (k : Nat) (v : Stream) : (s.setStream k v).wall = s.wall := rfl
@[simp] theorem State.setStream_free (s : State) (k : Nat) (v : Stream) : (s.setStream k v).free = s.free := rfl
@[simp] theorem State.setStream_tiles (s : State) (k : Nat) (v : Stream) : (s.setStream k v).tiles = s.tiles := rfl
@[simp] theorem State.setStream_gates (s : State) (k : Nat) (v : Stream) : (s.setStream k v).gates = s.gates := rfl
@[simp] theorem State.setStream_flight (s : State) (k : Nat) (v : Stream) : (s.setStream k v).flight = s.flight := rfl
@[simp] theorem State.setStream_replies (s : State) (k : Nat) (v : Stream) : (s.setStream k v).replies = s.replies := rfl
@[simp] theorem State.setStream_queues (s : State) (k : Nat) (v : Stream) : (s.setStream k v).queues = s.queues := rfl
@[simp] theorem State.setStream_disps (s : State) (k : Nat) (v : Stream) : (s.setStream k v).disps = s.disps := rfl
@[simp] theorem State.setStream_pool (s : State) (k : Nat) (v : Stream) : (s.setStream k v).pool = s.pool := rfl
@[simp] theorem State.setStream_bufMem (s : State) (k : Nat) (v : Stream) : (s.setStream k v).bufMem = s.bufMem := rfl
@[simp] theorem State.setStream_chans (s : State) (k : Nat) (v : Stream) : (s.setStream k v).chans = s.chans := rfl
@[simp] theorem State.setStream_dmaEng (s : State) (k : Nat) (v : Stream) : (s.setStream k v).dmaEng = s.dmaEng := rfl
@[simp] theorem State.setStream_router (s : State) (k : Nat) (v : Stream) : (s.setStream k v).router = s.router := rfl
@[simp] theorem State.setStream_time (s : State) (k : Nat) (v : Stream) : (s.setStream k v).time = s.time := rfl
@[simp] theorem State.setStream_aon (s : State) (k : Nat) (v : Stream) : (s.setStream k v).aon = s.aon := rfl
@[simp] theorem State.setStream_fio (s : State) (k : Nat) (v : Stream) : (s.setStream k v).fio = s.fio := rfl
@[simp] theorem State.setStream_faults (s : State) (k : Nat) (v : Stream) : (s.setStream k v).faults = s.faults := rfl
@[simp] theorem State.setStream_pace (s : State) (k : Nat) (v : Stream) : (s.setStream k v).pace = s.pace := rfl
@[simp] theorem State.setStream_fabric (s : State) (k : Nat) (v : Stream) : (s.setStream k v).fabric = s.fabric := rfl
@[simp] theorem State.setStream_mgmt (s : State) (k : Nat) (v : Stream) : (s.setStream k v).mgmt = s.mgmt := rfl
@[simp] theorem State.setStream_boot (s : State) (k : Nat) (v : Stream) : (s.setStream k v).boot = s.boot := rfl
@[simp] theorem State.setStream_power (s : State) (k : Nat) (v : Stream) : (s.setStream k v).power = s.power := rfl
@[simp] theorem State.setStream_feeds (s : State) (k : Nat) (v : Stream) : (s.setStream k v).feeds = s.feeds := rfl
@[simp] theorem State.setStream_host (s : State) (k : Nat) (v : Stream) : (s.setStream k v).host = s.host := rfl
@[simp] theorem State.setStream_service (s : State) (k : Nat) (v : Stream) : (s.setStream k v).service = s.service := rfl
@[simp] theorem State.setStream_dbgBlock (s : State) (k : Nat) (v : Stream) : (s.setStream k v).dbgBlock = s.dbgBlock := rfl
@[simp] theorem State.setStream_tile (s : State) (k j : Nat) (v : Stream) : (s.setStream k v).tile j = s.tile j := rfl
@[simp] theorem State.setStream_queue (s : State) (k j : Nat) (v : Stream) : (s.setStream k v).queue j = s.queue j := rfl
@[simp] theorem State.setStream_disp (s : State) (k j : Nat) (v : Stream) : (s.setStream k v).disp j = s.disp j := rfl
@[simp] theorem State.setStream_chan (s : State) (k j : Nat) (v : Stream) : (s.setStream k v).chan j = s.chan j := rfl
@[simp] theorem State.setStream_dmaE (s : State) (k j : Nat) (v : Stream) : (s.setStream k v).dmaE j = s.dmaE j := rfl
@[simp] theorem State.setStream_src (s : State) (k j : Nat) (v : Stream) : (s.setStream k v).src j = s.src j := rfl
@[simp] theorem State.setStream_hold (s : State) (k j : Nat) (v : Stream) : (s.setStream k v).hold j = s.hold j := rfl
@[simp] theorem State.setStream_alarm (s : State) (k j : Nat) (v : Stream) : (s.setStream k v).alarm j = s.alarm j := rfl
@[simp] theorem State.setStream_pin (s : State) (k j : Nat) (v : Stream) : (s.setStream k v).pin j = s.pin j := rfl
@[simp] theorem State.setStream_timer (s : State) (k j : Nat) (v : Stream) : (s.setStream k v).timer j = s.timer j := rfl
@[simp] theorem State.setStream_ser (s : State) (k j : Nat) (v : Stream) : (s.setStream k v).ser j = s.ser j := rfl
@[simp] theorem State.setStream_bank (s : State) (k j : Nat) (v : Stream) : (s.setStream k v).bank j = s.bank j := rfl
@[simp] theorem State.setStream_court (s : State) (k j : Nat) (v : Stream) : (s.setStream k v).court j = s.court j := rfl
@[simp] theorem State.setStream_mbx (s : State) (k j : Nat) (v : Stream) : (s.setStream k v).mbx j = s.mbx j := rfl
@[simp] theorem State.setStream_port (s : State) (k j : Nat) (v : Stream) : (s.setStream k v).port j = s.port j := rfl
@[simp] theorem State.setStream_feed (s : State) (k j : Nat) (v : Stream) : (s.setStream k v).feed j = s.feed j := rfl
@[simp] theorem State.setChan_pending (s : State) (k : Nat) (v : Chan) : (s.setChan k v).pending = s.pending := rfl
@[simp] theorem State.setChan_now (s : State) (k : Nat) (v : Chan) : (s.setChan k v).now = s.now := rfl
@[simp] theorem State.setChan_wall (s : State) (k : Nat) (v : Chan) : (s.setChan k v).wall = s.wall := rfl
@[simp] theorem State.setChan_free (s : State) (k : Nat) (v : Chan) : (s.setChan k v).free = s.free := rfl
@[simp] theorem State.setChan_tiles (s : State) (k : Nat) (v : Chan) : (s.setChan k v).tiles = s.tiles := rfl
@[simp] theorem State.setChan_gates (s : State) (k : Nat) (v : Chan) : (s.setChan k v).gates = s.gates := rfl
@[simp] theorem State.setChan_flight (s : State) (k : Nat) (v : Chan) : (s.setChan k v).flight = s.flight := rfl
@[simp] theorem State.setChan_replies (s : State) (k : Nat) (v : Chan) : (s.setChan k v).replies = s.replies := rfl
@[simp] theorem State.setChan_queues (s : State) (k : Nat) (v : Chan) : (s.setChan k v).queues = s.queues := rfl
@[simp] theorem State.setChan_disps (s : State) (k : Nat) (v : Chan) : (s.setChan k v).disps = s.disps := rfl
@[simp] theorem State.setChan_pool (s : State) (k : Nat) (v : Chan) : (s.setChan k v).pool = s.pool := rfl
@[simp] theorem State.setChan_bufMem (s : State) (k : Nat) (v : Chan) : (s.setChan k v).bufMem = s.bufMem := rfl
@[simp] theorem State.setChan_engine (s : State) (k : Nat) (v : Chan) : (s.setChan k v).engine = s.engine := rfl
@[simp] theorem State.setChan_dmaEng (s : State) (k : Nat) (v : Chan) : (s.setChan k v).dmaEng = s.dmaEng := rfl
@[simp] theorem State.setChan_router (s : State) (k : Nat) (v : Chan) : (s.setChan k v).router = s.router := rfl
@[simp] theorem State.setChan_time (s : State) (k : Nat) (v : Chan) : (s.setChan k v).time = s.time := rfl
@[simp] theorem State.setChan_aon (s : State) (k : Nat) (v : Chan) : (s.setChan k v).aon = s.aon := rfl
@[simp] theorem State.setChan_fio (s : State) (k : Nat) (v : Chan) : (s.setChan k v).fio = s.fio := rfl
@[simp] theorem State.setChan_faults (s : State) (k : Nat) (v : Chan) : (s.setChan k v).faults = s.faults := rfl
@[simp] theorem State.setChan_pace (s : State) (k : Nat) (v : Chan) : (s.setChan k v).pace = s.pace := rfl
@[simp] theorem State.setChan_fabric (s : State) (k : Nat) (v : Chan) : (s.setChan k v).fabric = s.fabric := rfl
@[simp] theorem State.setChan_mgmt (s : State) (k : Nat) (v : Chan) : (s.setChan k v).mgmt = s.mgmt := rfl
@[simp] theorem State.setChan_boot (s : State) (k : Nat) (v : Chan) : (s.setChan k v).boot = s.boot := rfl
@[simp] theorem State.setChan_power (s : State) (k : Nat) (v : Chan) : (s.setChan k v).power = s.power := rfl
@[simp] theorem State.setChan_feeds (s : State) (k : Nat) (v : Chan) : (s.setChan k v).feeds = s.feeds := rfl
@[simp] theorem State.setChan_host (s : State) (k : Nat) (v : Chan) : (s.setChan k v).host = s.host := rfl
@[simp] theorem State.setChan_service (s : State) (k : Nat) (v : Chan) : (s.setChan k v).service = s.service := rfl
@[simp] theorem State.setChan_dbgBlock (s : State) (k : Nat) (v : Chan) : (s.setChan k v).dbgBlock = s.dbgBlock := rfl
@[simp] theorem State.setChan_tile (s : State) (k j : Nat) (v : Chan) : (s.setChan k v).tile j = s.tile j := rfl
@[simp] theorem State.setChan_queue (s : State) (k j : Nat) (v : Chan) : (s.setChan k v).queue j = s.queue j := rfl
@[simp] theorem State.setChan_disp (s : State) (k j : Nat) (v : Chan) : (s.setChan k v).disp j = s.disp j := rfl
@[simp] theorem State.setChan_stream (s : State) (k j : Nat) (v : Chan) : (s.setChan k v).stream j = s.stream j := rfl
@[simp] theorem State.setChan_dmaE (s : State) (k j : Nat) (v : Chan) : (s.setChan k v).dmaE j = s.dmaE j := rfl
@[simp] theorem State.setChan_src (s : State) (k j : Nat) (v : Chan) : (s.setChan k v).src j = s.src j := rfl
@[simp] theorem State.setChan_hold (s : State) (k j : Nat) (v : Chan) : (s.setChan k v).hold j = s.hold j := rfl
@[simp] theorem State.setChan_alarm (s : State) (k j : Nat) (v : Chan) : (s.setChan k v).alarm j = s.alarm j := rfl
@[simp] theorem State.setChan_pin (s : State) (k j : Nat) (v : Chan) : (s.setChan k v).pin j = s.pin j := rfl
@[simp] theorem State.setChan_timer (s : State) (k j : Nat) (v : Chan) : (s.setChan k v).timer j = s.timer j := rfl
@[simp] theorem State.setChan_ser (s : State) (k j : Nat) (v : Chan) : (s.setChan k v).ser j = s.ser j := rfl
@[simp] theorem State.setChan_bank (s : State) (k j : Nat) (v : Chan) : (s.setChan k v).bank j = s.bank j := rfl
@[simp] theorem State.setChan_court (s : State) (k j : Nat) (v : Chan) : (s.setChan k v).court j = s.court j := rfl
@[simp] theorem State.setChan_mbx (s : State) (k j : Nat) (v : Chan) : (s.setChan k v).mbx j = s.mbx j := rfl
@[simp] theorem State.setChan_port (s : State) (k j : Nat) (v : Chan) : (s.setChan k v).port j = s.port j := rfl
@[simp] theorem State.setChan_feed (s : State) (k j : Nat) (v : Chan) : (s.setChan k v).feed j = s.feed j := rfl
@[simp] theorem State.setDmaE_pending (s : State) (k : Nat) (v : DmaEngine) : (s.setDmaE k v).pending = s.pending := rfl
@[simp] theorem State.setDmaE_now (s : State) (k : Nat) (v : DmaEngine) : (s.setDmaE k v).now = s.now := rfl
@[simp] theorem State.setDmaE_wall (s : State) (k : Nat) (v : DmaEngine) : (s.setDmaE k v).wall = s.wall := rfl
@[simp] theorem State.setDmaE_free (s : State) (k : Nat) (v : DmaEngine) : (s.setDmaE k v).free = s.free := rfl
@[simp] theorem State.setDmaE_tiles (s : State) (k : Nat) (v : DmaEngine) : (s.setDmaE k v).tiles = s.tiles := rfl
@[simp] theorem State.setDmaE_gates (s : State) (k : Nat) (v : DmaEngine) : (s.setDmaE k v).gates = s.gates := rfl
@[simp] theorem State.setDmaE_flight (s : State) (k : Nat) (v : DmaEngine) : (s.setDmaE k v).flight = s.flight := rfl
@[simp] theorem State.setDmaE_replies (s : State) (k : Nat) (v : DmaEngine) : (s.setDmaE k v).replies = s.replies := rfl
@[simp] theorem State.setDmaE_queues (s : State) (k : Nat) (v : DmaEngine) : (s.setDmaE k v).queues = s.queues := rfl
@[simp] theorem State.setDmaE_disps (s : State) (k : Nat) (v : DmaEngine) : (s.setDmaE k v).disps = s.disps := rfl
@[simp] theorem State.setDmaE_pool (s : State) (k : Nat) (v : DmaEngine) : (s.setDmaE k v).pool = s.pool := rfl
@[simp] theorem State.setDmaE_bufMem (s : State) (k : Nat) (v : DmaEngine) : (s.setDmaE k v).bufMem = s.bufMem := rfl
@[simp] theorem State.setDmaE_engine (s : State) (k : Nat) (v : DmaEngine) : (s.setDmaE k v).engine = s.engine := rfl
@[simp] theorem State.setDmaE_chans (s : State) (k : Nat) (v : DmaEngine) : (s.setDmaE k v).chans = s.chans := rfl
@[simp] theorem State.setDmaE_router (s : State) (k : Nat) (v : DmaEngine) : (s.setDmaE k v).router = s.router := rfl
@[simp] theorem State.setDmaE_time (s : State) (k : Nat) (v : DmaEngine) : (s.setDmaE k v).time = s.time := rfl
@[simp] theorem State.setDmaE_aon (s : State) (k : Nat) (v : DmaEngine) : (s.setDmaE k v).aon = s.aon := rfl
@[simp] theorem State.setDmaE_fio (s : State) (k : Nat) (v : DmaEngine) : (s.setDmaE k v).fio = s.fio := rfl
@[simp] theorem State.setDmaE_faults (s : State) (k : Nat) (v : DmaEngine) : (s.setDmaE k v).faults = s.faults := rfl
@[simp] theorem State.setDmaE_pace (s : State) (k : Nat) (v : DmaEngine) : (s.setDmaE k v).pace = s.pace := rfl
@[simp] theorem State.setDmaE_fabric (s : State) (k : Nat) (v : DmaEngine) : (s.setDmaE k v).fabric = s.fabric := rfl
@[simp] theorem State.setDmaE_mgmt (s : State) (k : Nat) (v : DmaEngine) : (s.setDmaE k v).mgmt = s.mgmt := rfl
@[simp] theorem State.setDmaE_boot (s : State) (k : Nat) (v : DmaEngine) : (s.setDmaE k v).boot = s.boot := rfl
@[simp] theorem State.setDmaE_power (s : State) (k : Nat) (v : DmaEngine) : (s.setDmaE k v).power = s.power := rfl
@[simp] theorem State.setDmaE_feeds (s : State) (k : Nat) (v : DmaEngine) : (s.setDmaE k v).feeds = s.feeds := rfl
@[simp] theorem State.setDmaE_host (s : State) (k : Nat) (v : DmaEngine) : (s.setDmaE k v).host = s.host := rfl
@[simp] theorem State.setDmaE_service (s : State) (k : Nat) (v : DmaEngine) : (s.setDmaE k v).service = s.service := rfl
@[simp] theorem State.setDmaE_dbgBlock (s : State) (k : Nat) (v : DmaEngine) : (s.setDmaE k v).dbgBlock = s.dbgBlock := rfl
@[simp] theorem State.setDmaE_tile (s : State) (k j : Nat) (v : DmaEngine) : (s.setDmaE k v).tile j = s.tile j := rfl
@[simp] theorem State.setDmaE_queue (s : State) (k j : Nat) (v : DmaEngine) : (s.setDmaE k v).queue j = s.queue j := rfl
@[simp] theorem State.setDmaE_disp (s : State) (k j : Nat) (v : DmaEngine) : (s.setDmaE k v).disp j = s.disp j := rfl
@[simp] theorem State.setDmaE_stream (s : State) (k j : Nat) (v : DmaEngine) : (s.setDmaE k v).stream j = s.stream j := rfl
@[simp] theorem State.setDmaE_chan (s : State) (k j : Nat) (v : DmaEngine) : (s.setDmaE k v).chan j = s.chan j := rfl
@[simp] theorem State.setDmaE_src (s : State) (k j : Nat) (v : DmaEngine) : (s.setDmaE k v).src j = s.src j := rfl
@[simp] theorem State.setDmaE_hold (s : State) (k j : Nat) (v : DmaEngine) : (s.setDmaE k v).hold j = s.hold j := rfl
@[simp] theorem State.setDmaE_alarm (s : State) (k j : Nat) (v : DmaEngine) : (s.setDmaE k v).alarm j = s.alarm j := rfl
@[simp] theorem State.setDmaE_pin (s : State) (k j : Nat) (v : DmaEngine) : (s.setDmaE k v).pin j = s.pin j := rfl
@[simp] theorem State.setDmaE_timer (s : State) (k j : Nat) (v : DmaEngine) : (s.setDmaE k v).timer j = s.timer j := rfl
@[simp] theorem State.setDmaE_ser (s : State) (k j : Nat) (v : DmaEngine) : (s.setDmaE k v).ser j = s.ser j := rfl
@[simp] theorem State.setDmaE_bank (s : State) (k j : Nat) (v : DmaEngine) : (s.setDmaE k v).bank j = s.bank j := rfl
@[simp] theorem State.setDmaE_court (s : State) (k j : Nat) (v : DmaEngine) : (s.setDmaE k v).court j = s.court j := rfl
@[simp] theorem State.setDmaE_mbx (s : State) (k j : Nat) (v : DmaEngine) : (s.setDmaE k v).mbx j = s.mbx j := rfl
@[simp] theorem State.setDmaE_port (s : State) (k j : Nat) (v : DmaEngine) : (s.setDmaE k v).port j = s.port j := rfl
@[simp] theorem State.setDmaE_feed (s : State) (k j : Nat) (v : DmaEngine) : (s.setDmaE k v).feed j = s.feed j := rfl
@[simp] theorem State.setSrc_pending (s : State) (k : Nat) (v : Src) : (s.setSrc k v).pending = s.pending := rfl
@[simp] theorem State.setSrc_now (s : State) (k : Nat) (v : Src) : (s.setSrc k v).now = s.now := rfl
@[simp] theorem State.setSrc_wall (s : State) (k : Nat) (v : Src) : (s.setSrc k v).wall = s.wall := rfl
@[simp] theorem State.setSrc_free (s : State) (k : Nat) (v : Src) : (s.setSrc k v).free = s.free := rfl
@[simp] theorem State.setSrc_tiles (s : State) (k : Nat) (v : Src) : (s.setSrc k v).tiles = s.tiles := rfl
@[simp] theorem State.setSrc_gates (s : State) (k : Nat) (v : Src) : (s.setSrc k v).gates = s.gates := rfl
@[simp] theorem State.setSrc_flight (s : State) (k : Nat) (v : Src) : (s.setSrc k v).flight = s.flight := rfl
@[simp] theorem State.setSrc_replies (s : State) (k : Nat) (v : Src) : (s.setSrc k v).replies = s.replies := rfl
@[simp] theorem State.setSrc_queues (s : State) (k : Nat) (v : Src) : (s.setSrc k v).queues = s.queues := rfl
@[simp] theorem State.setSrc_disps (s : State) (k : Nat) (v : Src) : (s.setSrc k v).disps = s.disps := rfl
@[simp] theorem State.setSrc_pool (s : State) (k : Nat) (v : Src) : (s.setSrc k v).pool = s.pool := rfl
@[simp] theorem State.setSrc_bufMem (s : State) (k : Nat) (v : Src) : (s.setSrc k v).bufMem = s.bufMem := rfl
@[simp] theorem State.setSrc_engine (s : State) (k : Nat) (v : Src) : (s.setSrc k v).engine = s.engine := rfl
@[simp] theorem State.setSrc_chans (s : State) (k : Nat) (v : Src) : (s.setSrc k v).chans = s.chans := rfl
@[simp] theorem State.setSrc_dmaEng (s : State) (k : Nat) (v : Src) : (s.setSrc k v).dmaEng = s.dmaEng := rfl
@[simp] theorem State.setSrc_time (s : State) (k : Nat) (v : Src) : (s.setSrc k v).time = s.time := rfl
@[simp] theorem State.setSrc_aon (s : State) (k : Nat) (v : Src) : (s.setSrc k v).aon = s.aon := rfl
@[simp] theorem State.setSrc_fio (s : State) (k : Nat) (v : Src) : (s.setSrc k v).fio = s.fio := rfl
@[simp] theorem State.setSrc_faults (s : State) (k : Nat) (v : Src) : (s.setSrc k v).faults = s.faults := rfl
@[simp] theorem State.setSrc_pace (s : State) (k : Nat) (v : Src) : (s.setSrc k v).pace = s.pace := rfl
@[simp] theorem State.setSrc_fabric (s : State) (k : Nat) (v : Src) : (s.setSrc k v).fabric = s.fabric := rfl
@[simp] theorem State.setSrc_mgmt (s : State) (k : Nat) (v : Src) : (s.setSrc k v).mgmt = s.mgmt := rfl
@[simp] theorem State.setSrc_boot (s : State) (k : Nat) (v : Src) : (s.setSrc k v).boot = s.boot := rfl
@[simp] theorem State.setSrc_power (s : State) (k : Nat) (v : Src) : (s.setSrc k v).power = s.power := rfl
@[simp] theorem State.setSrc_feeds (s : State) (k : Nat) (v : Src) : (s.setSrc k v).feeds = s.feeds := rfl
@[simp] theorem State.setSrc_host (s : State) (k : Nat) (v : Src) : (s.setSrc k v).host = s.host := rfl
@[simp] theorem State.setSrc_service (s : State) (k : Nat) (v : Src) : (s.setSrc k v).service = s.service := rfl
@[simp] theorem State.setSrc_dbgBlock (s : State) (k : Nat) (v : Src) : (s.setSrc k v).dbgBlock = s.dbgBlock := rfl
@[simp] theorem State.setSrc_tile (s : State) (k j : Nat) (v : Src) : (s.setSrc k v).tile j = s.tile j := rfl
@[simp] theorem State.setSrc_queue (s : State) (k j : Nat) (v : Src) : (s.setSrc k v).queue j = s.queue j := rfl
@[simp] theorem State.setSrc_disp (s : State) (k j : Nat) (v : Src) : (s.setSrc k v).disp j = s.disp j := rfl
@[simp] theorem State.setSrc_stream (s : State) (k j : Nat) (v : Src) : (s.setSrc k v).stream j = s.stream j := rfl
@[simp] theorem State.setSrc_chan (s : State) (k j : Nat) (v : Src) : (s.setSrc k v).chan j = s.chan j := rfl
@[simp] theorem State.setSrc_dmaE (s : State) (k j : Nat) (v : Src) : (s.setSrc k v).dmaE j = s.dmaE j := rfl
@[simp] theorem State.setSrc_hold (s : State) (k j : Nat) (v : Src) : (s.setSrc k v).hold j = s.hold j := rfl
@[simp] theorem State.setSrc_alarm (s : State) (k j : Nat) (v : Src) : (s.setSrc k v).alarm j = s.alarm j := rfl
@[simp] theorem State.setSrc_pin (s : State) (k j : Nat) (v : Src) : (s.setSrc k v).pin j = s.pin j := rfl
@[simp] theorem State.setSrc_timer (s : State) (k j : Nat) (v : Src) : (s.setSrc k v).timer j = s.timer j := rfl
@[simp] theorem State.setSrc_ser (s : State) (k j : Nat) (v : Src) : (s.setSrc k v).ser j = s.ser j := rfl
@[simp] theorem State.setSrc_bank (s : State) (k j : Nat) (v : Src) : (s.setSrc k v).bank j = s.bank j := rfl
@[simp] theorem State.setSrc_court (s : State) (k j : Nat) (v : Src) : (s.setSrc k v).court j = s.court j := rfl
@[simp] theorem State.setSrc_mbx (s : State) (k j : Nat) (v : Src) : (s.setSrc k v).mbx j = s.mbx j := rfl
@[simp] theorem State.setSrc_port (s : State) (k j : Nat) (v : Src) : (s.setSrc k v).port j = s.port j := rfl
@[simp] theorem State.setSrc_feed (s : State) (k j : Nat) (v : Src) : (s.setSrc k v).feed j = s.feed j := rfl
@[simp] theorem State.setHold_pending (s : State) (k : Nat) (v : Hold) : (s.setHold k v).pending = s.pending := rfl
@[simp] theorem State.setHold_now (s : State) (k : Nat) (v : Hold) : (s.setHold k v).now = s.now := rfl
@[simp] theorem State.setHold_wall (s : State) (k : Nat) (v : Hold) : (s.setHold k v).wall = s.wall := rfl
@[simp] theorem State.setHold_free (s : State) (k : Nat) (v : Hold) : (s.setHold k v).free = s.free := rfl
@[simp] theorem State.setHold_tiles (s : State) (k : Nat) (v : Hold) : (s.setHold k v).tiles = s.tiles := rfl
@[simp] theorem State.setHold_gates (s : State) (k : Nat) (v : Hold) : (s.setHold k v).gates = s.gates := rfl
@[simp] theorem State.setHold_flight (s : State) (k : Nat) (v : Hold) : (s.setHold k v).flight = s.flight := rfl
@[simp] theorem State.setHold_replies (s : State) (k : Nat) (v : Hold) : (s.setHold k v).replies = s.replies := rfl
@[simp] theorem State.setHold_queues (s : State) (k : Nat) (v : Hold) : (s.setHold k v).queues = s.queues := rfl
@[simp] theorem State.setHold_disps (s : State) (k : Nat) (v : Hold) : (s.setHold k v).disps = s.disps := rfl
@[simp] theorem State.setHold_pool (s : State) (k : Nat) (v : Hold) : (s.setHold k v).pool = s.pool := rfl
@[simp] theorem State.setHold_bufMem (s : State) (k : Nat) (v : Hold) : (s.setHold k v).bufMem = s.bufMem := rfl
@[simp] theorem State.setHold_engine (s : State) (k : Nat) (v : Hold) : (s.setHold k v).engine = s.engine := rfl
@[simp] theorem State.setHold_chans (s : State) (k : Nat) (v : Hold) : (s.setHold k v).chans = s.chans := rfl
@[simp] theorem State.setHold_dmaEng (s : State) (k : Nat) (v : Hold) : (s.setHold k v).dmaEng = s.dmaEng := rfl
@[simp] theorem State.setHold_time (s : State) (k : Nat) (v : Hold) : (s.setHold k v).time = s.time := rfl
@[simp] theorem State.setHold_aon (s : State) (k : Nat) (v : Hold) : (s.setHold k v).aon = s.aon := rfl
@[simp] theorem State.setHold_fio (s : State) (k : Nat) (v : Hold) : (s.setHold k v).fio = s.fio := rfl
@[simp] theorem State.setHold_faults (s : State) (k : Nat) (v : Hold) : (s.setHold k v).faults = s.faults := rfl
@[simp] theorem State.setHold_pace (s : State) (k : Nat) (v : Hold) : (s.setHold k v).pace = s.pace := rfl
@[simp] theorem State.setHold_fabric (s : State) (k : Nat) (v : Hold) : (s.setHold k v).fabric = s.fabric := rfl
@[simp] theorem State.setHold_mgmt (s : State) (k : Nat) (v : Hold) : (s.setHold k v).mgmt = s.mgmt := rfl
@[simp] theorem State.setHold_boot (s : State) (k : Nat) (v : Hold) : (s.setHold k v).boot = s.boot := rfl
@[simp] theorem State.setHold_power (s : State) (k : Nat) (v : Hold) : (s.setHold k v).power = s.power := rfl
@[simp] theorem State.setHold_feeds (s : State) (k : Nat) (v : Hold) : (s.setHold k v).feeds = s.feeds := rfl
@[simp] theorem State.setHold_host (s : State) (k : Nat) (v : Hold) : (s.setHold k v).host = s.host := rfl
@[simp] theorem State.setHold_service (s : State) (k : Nat) (v : Hold) : (s.setHold k v).service = s.service := rfl
@[simp] theorem State.setHold_dbgBlock (s : State) (k : Nat) (v : Hold) : (s.setHold k v).dbgBlock = s.dbgBlock := rfl
@[simp] theorem State.setHold_tile (s : State) (k j : Nat) (v : Hold) : (s.setHold k v).tile j = s.tile j := rfl
@[simp] theorem State.setHold_queue (s : State) (k j : Nat) (v : Hold) : (s.setHold k v).queue j = s.queue j := rfl
@[simp] theorem State.setHold_disp (s : State) (k j : Nat) (v : Hold) : (s.setHold k v).disp j = s.disp j := rfl
@[simp] theorem State.setHold_stream (s : State) (k j : Nat) (v : Hold) : (s.setHold k v).stream j = s.stream j := rfl
@[simp] theorem State.setHold_chan (s : State) (k j : Nat) (v : Hold) : (s.setHold k v).chan j = s.chan j := rfl
@[simp] theorem State.setHold_dmaE (s : State) (k j : Nat) (v : Hold) : (s.setHold k v).dmaE j = s.dmaE j := rfl
@[simp] theorem State.setHold_src (s : State) (k j : Nat) (v : Hold) : (s.setHold k v).src j = s.src j := rfl
@[simp] theorem State.setHold_alarm (s : State) (k j : Nat) (v : Hold) : (s.setHold k v).alarm j = s.alarm j := rfl
@[simp] theorem State.setHold_pin (s : State) (k j : Nat) (v : Hold) : (s.setHold k v).pin j = s.pin j := rfl
@[simp] theorem State.setHold_timer (s : State) (k j : Nat) (v : Hold) : (s.setHold k v).timer j = s.timer j := rfl
@[simp] theorem State.setHold_ser (s : State) (k j : Nat) (v : Hold) : (s.setHold k v).ser j = s.ser j := rfl
@[simp] theorem State.setHold_bank (s : State) (k j : Nat) (v : Hold) : (s.setHold k v).bank j = s.bank j := rfl
@[simp] theorem State.setHold_court (s : State) (k j : Nat) (v : Hold) : (s.setHold k v).court j = s.court j := rfl
@[simp] theorem State.setHold_mbx (s : State) (k j : Nat) (v : Hold) : (s.setHold k v).mbx j = s.mbx j := rfl
@[simp] theorem State.setHold_port (s : State) (k j : Nat) (v : Hold) : (s.setHold k v).port j = s.port j := rfl
@[simp] theorem State.setHold_feed (s : State) (k j : Nat) (v : Hold) : (s.setHold k v).feed j = s.feed j := rfl
@[simp] theorem State.setAlarm_pending (s : State) (k : Nat) (v : Alarm) : (s.setAlarm k v).pending = s.pending := rfl
@[simp] theorem State.setAlarm_now (s : State) (k : Nat) (v : Alarm) : (s.setAlarm k v).now = s.now := rfl
@[simp] theorem State.setAlarm_wall (s : State) (k : Nat) (v : Alarm) : (s.setAlarm k v).wall = s.wall := rfl
@[simp] theorem State.setAlarm_free (s : State) (k : Nat) (v : Alarm) : (s.setAlarm k v).free = s.free := rfl
@[simp] theorem State.setAlarm_tiles (s : State) (k : Nat) (v : Alarm) : (s.setAlarm k v).tiles = s.tiles := rfl
@[simp] theorem State.setAlarm_gates (s : State) (k : Nat) (v : Alarm) : (s.setAlarm k v).gates = s.gates := rfl
@[simp] theorem State.setAlarm_flight (s : State) (k : Nat) (v : Alarm) : (s.setAlarm k v).flight = s.flight := rfl
@[simp] theorem State.setAlarm_replies (s : State) (k : Nat) (v : Alarm) : (s.setAlarm k v).replies = s.replies := rfl
@[simp] theorem State.setAlarm_queues (s : State) (k : Nat) (v : Alarm) : (s.setAlarm k v).queues = s.queues := rfl
@[simp] theorem State.setAlarm_disps (s : State) (k : Nat) (v : Alarm) : (s.setAlarm k v).disps = s.disps := rfl
@[simp] theorem State.setAlarm_pool (s : State) (k : Nat) (v : Alarm) : (s.setAlarm k v).pool = s.pool := rfl
@[simp] theorem State.setAlarm_bufMem (s : State) (k : Nat) (v : Alarm) : (s.setAlarm k v).bufMem = s.bufMem := rfl
@[simp] theorem State.setAlarm_engine (s : State) (k : Nat) (v : Alarm) : (s.setAlarm k v).engine = s.engine := rfl
@[simp] theorem State.setAlarm_chans (s : State) (k : Nat) (v : Alarm) : (s.setAlarm k v).chans = s.chans := rfl
@[simp] theorem State.setAlarm_dmaEng (s : State) (k : Nat) (v : Alarm) : (s.setAlarm k v).dmaEng = s.dmaEng := rfl
@[simp] theorem State.setAlarm_router (s : State) (k : Nat) (v : Alarm) : (s.setAlarm k v).router = s.router := rfl
@[simp] theorem State.setAlarm_aon (s : State) (k : Nat) (v : Alarm) : (s.setAlarm k v).aon = s.aon := rfl
@[simp] theorem State.setAlarm_fio (s : State) (k : Nat) (v : Alarm) : (s.setAlarm k v).fio = s.fio := rfl
@[simp] theorem State.setAlarm_faults (s : State) (k : Nat) (v : Alarm) : (s.setAlarm k v).faults = s.faults := rfl
@[simp] theorem State.setAlarm_pace (s : State) (k : Nat) (v : Alarm) : (s.setAlarm k v).pace = s.pace := rfl
@[simp] theorem State.setAlarm_fabric (s : State) (k : Nat) (v : Alarm) : (s.setAlarm k v).fabric = s.fabric := rfl
@[simp] theorem State.setAlarm_mgmt (s : State) (k : Nat) (v : Alarm) : (s.setAlarm k v).mgmt = s.mgmt := rfl
@[simp] theorem State.setAlarm_boot (s : State) (k : Nat) (v : Alarm) : (s.setAlarm k v).boot = s.boot := rfl
@[simp] theorem State.setAlarm_power (s : State) (k : Nat) (v : Alarm) : (s.setAlarm k v).power = s.power := rfl
@[simp] theorem State.setAlarm_feeds (s : State) (k : Nat) (v : Alarm) : (s.setAlarm k v).feeds = s.feeds := rfl
@[simp] theorem State.setAlarm_host (s : State) (k : Nat) (v : Alarm) : (s.setAlarm k v).host = s.host := rfl
@[simp] theorem State.setAlarm_service (s : State) (k : Nat) (v : Alarm) : (s.setAlarm k v).service = s.service := rfl
@[simp] theorem State.setAlarm_dbgBlock (s : State) (k : Nat) (v : Alarm) : (s.setAlarm k v).dbgBlock = s.dbgBlock := rfl
@[simp] theorem State.setAlarm_tile (s : State) (k j : Nat) (v : Alarm) : (s.setAlarm k v).tile j = s.tile j := rfl
@[simp] theorem State.setAlarm_queue (s : State) (k j : Nat) (v : Alarm) : (s.setAlarm k v).queue j = s.queue j := rfl
@[simp] theorem State.setAlarm_disp (s : State) (k j : Nat) (v : Alarm) : (s.setAlarm k v).disp j = s.disp j := rfl
@[simp] theorem State.setAlarm_stream (s : State) (k j : Nat) (v : Alarm) : (s.setAlarm k v).stream j = s.stream j := rfl
@[simp] theorem State.setAlarm_chan (s : State) (k j : Nat) (v : Alarm) : (s.setAlarm k v).chan j = s.chan j := rfl
@[simp] theorem State.setAlarm_dmaE (s : State) (k j : Nat) (v : Alarm) : (s.setAlarm k v).dmaE j = s.dmaE j := rfl
@[simp] theorem State.setAlarm_src (s : State) (k j : Nat) (v : Alarm) : (s.setAlarm k v).src j = s.src j := rfl
@[simp] theorem State.setAlarm_hold (s : State) (k j : Nat) (v : Alarm) : (s.setAlarm k v).hold j = s.hold j := rfl
@[simp] theorem State.setAlarm_pin (s : State) (k j : Nat) (v : Alarm) : (s.setAlarm k v).pin j = s.pin j := rfl
@[simp] theorem State.setAlarm_timer (s : State) (k j : Nat) (v : Alarm) : (s.setAlarm k v).timer j = s.timer j := rfl
@[simp] theorem State.setAlarm_ser (s : State) (k j : Nat) (v : Alarm) : (s.setAlarm k v).ser j = s.ser j := rfl
@[simp] theorem State.setAlarm_bank (s : State) (k j : Nat) (v : Alarm) : (s.setAlarm k v).bank j = s.bank j := rfl
@[simp] theorem State.setAlarm_court (s : State) (k j : Nat) (v : Alarm) : (s.setAlarm k v).court j = s.court j := rfl
@[simp] theorem State.setAlarm_mbx (s : State) (k j : Nat) (v : Alarm) : (s.setAlarm k v).mbx j = s.mbx j := rfl
@[simp] theorem State.setAlarm_port (s : State) (k j : Nat) (v : Alarm) : (s.setAlarm k v).port j = s.port j := rfl
@[simp] theorem State.setAlarm_feed (s : State) (k j : Nat) (v : Alarm) : (s.setAlarm k v).feed j = s.feed j := rfl
@[simp] theorem State.setPin_pending (s : State) (k : Nat) (v : Pin) : (s.setPin k v).pending = s.pending := rfl
@[simp] theorem State.setPin_now (s : State) (k : Nat) (v : Pin) : (s.setPin k v).now = s.now := rfl
@[simp] theorem State.setPin_wall (s : State) (k : Nat) (v : Pin) : (s.setPin k v).wall = s.wall := rfl
@[simp] theorem State.setPin_free (s : State) (k : Nat) (v : Pin) : (s.setPin k v).free = s.free := rfl
@[simp] theorem State.setPin_tiles (s : State) (k : Nat) (v : Pin) : (s.setPin k v).tiles = s.tiles := rfl
@[simp] theorem State.setPin_gates (s : State) (k : Nat) (v : Pin) : (s.setPin k v).gates = s.gates := rfl
@[simp] theorem State.setPin_flight (s : State) (k : Nat) (v : Pin) : (s.setPin k v).flight = s.flight := rfl
@[simp] theorem State.setPin_replies (s : State) (k : Nat) (v : Pin) : (s.setPin k v).replies = s.replies := rfl
@[simp] theorem State.setPin_queues (s : State) (k : Nat) (v : Pin) : (s.setPin k v).queues = s.queues := rfl
@[simp] theorem State.setPin_disps (s : State) (k : Nat) (v : Pin) : (s.setPin k v).disps = s.disps := rfl
@[simp] theorem State.setPin_pool (s : State) (k : Nat) (v : Pin) : (s.setPin k v).pool = s.pool := rfl
@[simp] theorem State.setPin_bufMem (s : State) (k : Nat) (v : Pin) : (s.setPin k v).bufMem = s.bufMem := rfl
@[simp] theorem State.setPin_engine (s : State) (k : Nat) (v : Pin) : (s.setPin k v).engine = s.engine := rfl
@[simp] theorem State.setPin_chans (s : State) (k : Nat) (v : Pin) : (s.setPin k v).chans = s.chans := rfl
@[simp] theorem State.setPin_dmaEng (s : State) (k : Nat) (v : Pin) : (s.setPin k v).dmaEng = s.dmaEng := rfl
@[simp] theorem State.setPin_router (s : State) (k : Nat) (v : Pin) : (s.setPin k v).router = s.router := rfl
@[simp] theorem State.setPin_time (s : State) (k : Nat) (v : Pin) : (s.setPin k v).time = s.time := rfl
@[simp] theorem State.setPin_aon (s : State) (k : Nat) (v : Pin) : (s.setPin k v).aon = s.aon := rfl
@[simp] theorem State.setPin_faults (s : State) (k : Nat) (v : Pin) : (s.setPin k v).faults = s.faults := rfl
@[simp] theorem State.setPin_pace (s : State) (k : Nat) (v : Pin) : (s.setPin k v).pace = s.pace := rfl
@[simp] theorem State.setPin_fabric (s : State) (k : Nat) (v : Pin) : (s.setPin k v).fabric = s.fabric := rfl
@[simp] theorem State.setPin_mgmt (s : State) (k : Nat) (v : Pin) : (s.setPin k v).mgmt = s.mgmt := rfl
@[simp] theorem State.setPin_boot (s : State) (k : Nat) (v : Pin) : (s.setPin k v).boot = s.boot := rfl
@[simp] theorem State.setPin_power (s : State) (k : Nat) (v : Pin) : (s.setPin k v).power = s.power := rfl
@[simp] theorem State.setPin_feeds (s : State) (k : Nat) (v : Pin) : (s.setPin k v).feeds = s.feeds := rfl
@[simp] theorem State.setPin_host (s : State) (k : Nat) (v : Pin) : (s.setPin k v).host = s.host := rfl
@[simp] theorem State.setPin_service (s : State) (k : Nat) (v : Pin) : (s.setPin k v).service = s.service := rfl
@[simp] theorem State.setPin_dbgBlock (s : State) (k : Nat) (v : Pin) : (s.setPin k v).dbgBlock = s.dbgBlock := rfl
@[simp] theorem State.setPin_tile (s : State) (k j : Nat) (v : Pin) : (s.setPin k v).tile j = s.tile j := rfl
@[simp] theorem State.setPin_queue (s : State) (k j : Nat) (v : Pin) : (s.setPin k v).queue j = s.queue j := rfl
@[simp] theorem State.setPin_disp (s : State) (k j : Nat) (v : Pin) : (s.setPin k v).disp j = s.disp j := rfl
@[simp] theorem State.setPin_stream (s : State) (k j : Nat) (v : Pin) : (s.setPin k v).stream j = s.stream j := rfl
@[simp] theorem State.setPin_chan (s : State) (k j : Nat) (v : Pin) : (s.setPin k v).chan j = s.chan j := rfl
@[simp] theorem State.setPin_dmaE (s : State) (k j : Nat) (v : Pin) : (s.setPin k v).dmaE j = s.dmaE j := rfl
@[simp] theorem State.setPin_src (s : State) (k j : Nat) (v : Pin) : (s.setPin k v).src j = s.src j := rfl
@[simp] theorem State.setPin_hold (s : State) (k j : Nat) (v : Pin) : (s.setPin k v).hold j = s.hold j := rfl
@[simp] theorem State.setPin_alarm (s : State) (k j : Nat) (v : Pin) : (s.setPin k v).alarm j = s.alarm j := rfl
@[simp] theorem State.setPin_timer (s : State) (k j : Nat) (v : Pin) : (s.setPin k v).timer j = s.timer j := rfl
@[simp] theorem State.setPin_ser (s : State) (k j : Nat) (v : Pin) : (s.setPin k v).ser j = s.ser j := rfl
@[simp] theorem State.setPin_bank (s : State) (k j : Nat) (v : Pin) : (s.setPin k v).bank j = s.bank j := rfl
@[simp] theorem State.setPin_court (s : State) (k j : Nat) (v : Pin) : (s.setPin k v).court j = s.court j := rfl
@[simp] theorem State.setPin_mbx (s : State) (k j : Nat) (v : Pin) : (s.setPin k v).mbx j = s.mbx j := rfl
@[simp] theorem State.setPin_port (s : State) (k j : Nat) (v : Pin) : (s.setPin k v).port j = s.port j := rfl
@[simp] theorem State.setPin_feed (s : State) (k j : Nat) (v : Pin) : (s.setPin k v).feed j = s.feed j := rfl
@[simp] theorem State.setTimer_pending (s : State) (k : Nat) (v : Timer) : (s.setTimer k v).pending = s.pending := rfl
@[simp] theorem State.setTimer_now (s : State) (k : Nat) (v : Timer) : (s.setTimer k v).now = s.now := rfl
@[simp] theorem State.setTimer_wall (s : State) (k : Nat) (v : Timer) : (s.setTimer k v).wall = s.wall := rfl
@[simp] theorem State.setTimer_free (s : State) (k : Nat) (v : Timer) : (s.setTimer k v).free = s.free := rfl
@[simp] theorem State.setTimer_tiles (s : State) (k : Nat) (v : Timer) : (s.setTimer k v).tiles = s.tiles := rfl
@[simp] theorem State.setTimer_gates (s : State) (k : Nat) (v : Timer) : (s.setTimer k v).gates = s.gates := rfl
@[simp] theorem State.setTimer_flight (s : State) (k : Nat) (v : Timer) : (s.setTimer k v).flight = s.flight := rfl
@[simp] theorem State.setTimer_replies (s : State) (k : Nat) (v : Timer) : (s.setTimer k v).replies = s.replies := rfl
@[simp] theorem State.setTimer_queues (s : State) (k : Nat) (v : Timer) : (s.setTimer k v).queues = s.queues := rfl
@[simp] theorem State.setTimer_disps (s : State) (k : Nat) (v : Timer) : (s.setTimer k v).disps = s.disps := rfl
@[simp] theorem State.setTimer_pool (s : State) (k : Nat) (v : Timer) : (s.setTimer k v).pool = s.pool := rfl
@[simp] theorem State.setTimer_bufMem (s : State) (k : Nat) (v : Timer) : (s.setTimer k v).bufMem = s.bufMem := rfl
@[simp] theorem State.setTimer_engine (s : State) (k : Nat) (v : Timer) : (s.setTimer k v).engine = s.engine := rfl
@[simp] theorem State.setTimer_chans (s : State) (k : Nat) (v : Timer) : (s.setTimer k v).chans = s.chans := rfl
@[simp] theorem State.setTimer_dmaEng (s : State) (k : Nat) (v : Timer) : (s.setTimer k v).dmaEng = s.dmaEng := rfl
@[simp] theorem State.setTimer_router (s : State) (k : Nat) (v : Timer) : (s.setTimer k v).router = s.router := rfl
@[simp] theorem State.setTimer_time (s : State) (k : Nat) (v : Timer) : (s.setTimer k v).time = s.time := rfl
@[simp] theorem State.setTimer_aon (s : State) (k : Nat) (v : Timer) : (s.setTimer k v).aon = s.aon := rfl
@[simp] theorem State.setTimer_faults (s : State) (k : Nat) (v : Timer) : (s.setTimer k v).faults = s.faults := rfl
@[simp] theorem State.setTimer_pace (s : State) (k : Nat) (v : Timer) : (s.setTimer k v).pace = s.pace := rfl
@[simp] theorem State.setTimer_fabric (s : State) (k : Nat) (v : Timer) : (s.setTimer k v).fabric = s.fabric := rfl
@[simp] theorem State.setTimer_mgmt (s : State) (k : Nat) (v : Timer) : (s.setTimer k v).mgmt = s.mgmt := rfl
@[simp] theorem State.setTimer_boot (s : State) (k : Nat) (v : Timer) : (s.setTimer k v).boot = s.boot := rfl
@[simp] theorem State.setTimer_power (s : State) (k : Nat) (v : Timer) : (s.setTimer k v).power = s.power := rfl
@[simp] theorem State.setTimer_feeds (s : State) (k : Nat) (v : Timer) : (s.setTimer k v).feeds = s.feeds := rfl
@[simp] theorem State.setTimer_host (s : State) (k : Nat) (v : Timer) : (s.setTimer k v).host = s.host := rfl
@[simp] theorem State.setTimer_service (s : State) (k : Nat) (v : Timer) : (s.setTimer k v).service = s.service := rfl
@[simp] theorem State.setTimer_dbgBlock (s : State) (k : Nat) (v : Timer) : (s.setTimer k v).dbgBlock = s.dbgBlock := rfl
@[simp] theorem State.setTimer_tile (s : State) (k j : Nat) (v : Timer) : (s.setTimer k v).tile j = s.tile j := rfl
@[simp] theorem State.setTimer_queue (s : State) (k j : Nat) (v : Timer) : (s.setTimer k v).queue j = s.queue j := rfl
@[simp] theorem State.setTimer_disp (s : State) (k j : Nat) (v : Timer) : (s.setTimer k v).disp j = s.disp j := rfl
@[simp] theorem State.setTimer_stream (s : State) (k j : Nat) (v : Timer) : (s.setTimer k v).stream j = s.stream j := rfl
@[simp] theorem State.setTimer_chan (s : State) (k j : Nat) (v : Timer) : (s.setTimer k v).chan j = s.chan j := rfl
@[simp] theorem State.setTimer_dmaE (s : State) (k j : Nat) (v : Timer) : (s.setTimer k v).dmaE j = s.dmaE j := rfl
@[simp] theorem State.setTimer_src (s : State) (k j : Nat) (v : Timer) : (s.setTimer k v).src j = s.src j := rfl
@[simp] theorem State.setTimer_hold (s : State) (k j : Nat) (v : Timer) : (s.setTimer k v).hold j = s.hold j := rfl
@[simp] theorem State.setTimer_alarm (s : State) (k j : Nat) (v : Timer) : (s.setTimer k v).alarm j = s.alarm j := rfl
@[simp] theorem State.setTimer_pin (s : State) (k j : Nat) (v : Timer) : (s.setTimer k v).pin j = s.pin j := rfl
@[simp] theorem State.setTimer_ser (s : State) (k j : Nat) (v : Timer) : (s.setTimer k v).ser j = s.ser j := rfl
@[simp] theorem State.setTimer_bank (s : State) (k j : Nat) (v : Timer) : (s.setTimer k v).bank j = s.bank j := rfl
@[simp] theorem State.setTimer_court (s : State) (k j : Nat) (v : Timer) : (s.setTimer k v).court j = s.court j := rfl
@[simp] theorem State.setTimer_mbx (s : State) (k j : Nat) (v : Timer) : (s.setTimer k v).mbx j = s.mbx j := rfl
@[simp] theorem State.setTimer_port (s : State) (k j : Nat) (v : Timer) : (s.setTimer k v).port j = s.port j := rfl
@[simp] theorem State.setTimer_feed (s : State) (k j : Nat) (v : Timer) : (s.setTimer k v).feed j = s.feed j := rfl
@[simp] theorem State.setSer_pending (s : State) (k : Nat) (v : Ser) : (s.setSer k v).pending = s.pending := rfl
@[simp] theorem State.setSer_now (s : State) (k : Nat) (v : Ser) : (s.setSer k v).now = s.now := rfl
@[simp] theorem State.setSer_wall (s : State) (k : Nat) (v : Ser) : (s.setSer k v).wall = s.wall := rfl
@[simp] theorem State.setSer_free (s : State) (k : Nat) (v : Ser) : (s.setSer k v).free = s.free := rfl
@[simp] theorem State.setSer_tiles (s : State) (k : Nat) (v : Ser) : (s.setSer k v).tiles = s.tiles := rfl
@[simp] theorem State.setSer_gates (s : State) (k : Nat) (v : Ser) : (s.setSer k v).gates = s.gates := rfl
@[simp] theorem State.setSer_flight (s : State) (k : Nat) (v : Ser) : (s.setSer k v).flight = s.flight := rfl
@[simp] theorem State.setSer_replies (s : State) (k : Nat) (v : Ser) : (s.setSer k v).replies = s.replies := rfl
@[simp] theorem State.setSer_queues (s : State) (k : Nat) (v : Ser) : (s.setSer k v).queues = s.queues := rfl
@[simp] theorem State.setSer_disps (s : State) (k : Nat) (v : Ser) : (s.setSer k v).disps = s.disps := rfl
@[simp] theorem State.setSer_pool (s : State) (k : Nat) (v : Ser) : (s.setSer k v).pool = s.pool := rfl
@[simp] theorem State.setSer_bufMem (s : State) (k : Nat) (v : Ser) : (s.setSer k v).bufMem = s.bufMem := rfl
@[simp] theorem State.setSer_engine (s : State) (k : Nat) (v : Ser) : (s.setSer k v).engine = s.engine := rfl
@[simp] theorem State.setSer_chans (s : State) (k : Nat) (v : Ser) : (s.setSer k v).chans = s.chans := rfl
@[simp] theorem State.setSer_dmaEng (s : State) (k : Nat) (v : Ser) : (s.setSer k v).dmaEng = s.dmaEng := rfl
@[simp] theorem State.setSer_router (s : State) (k : Nat) (v : Ser) : (s.setSer k v).router = s.router := rfl
@[simp] theorem State.setSer_time (s : State) (k : Nat) (v : Ser) : (s.setSer k v).time = s.time := rfl
@[simp] theorem State.setSer_aon (s : State) (k : Nat) (v : Ser) : (s.setSer k v).aon = s.aon := rfl
@[simp] theorem State.setSer_faults (s : State) (k : Nat) (v : Ser) : (s.setSer k v).faults = s.faults := rfl
@[simp] theorem State.setSer_pace (s : State) (k : Nat) (v : Ser) : (s.setSer k v).pace = s.pace := rfl
@[simp] theorem State.setSer_fabric (s : State) (k : Nat) (v : Ser) : (s.setSer k v).fabric = s.fabric := rfl
@[simp] theorem State.setSer_mgmt (s : State) (k : Nat) (v : Ser) : (s.setSer k v).mgmt = s.mgmt := rfl
@[simp] theorem State.setSer_boot (s : State) (k : Nat) (v : Ser) : (s.setSer k v).boot = s.boot := rfl
@[simp] theorem State.setSer_power (s : State) (k : Nat) (v : Ser) : (s.setSer k v).power = s.power := rfl
@[simp] theorem State.setSer_feeds (s : State) (k : Nat) (v : Ser) : (s.setSer k v).feeds = s.feeds := rfl
@[simp] theorem State.setSer_host (s : State) (k : Nat) (v : Ser) : (s.setSer k v).host = s.host := rfl
@[simp] theorem State.setSer_service (s : State) (k : Nat) (v : Ser) : (s.setSer k v).service = s.service := rfl
@[simp] theorem State.setSer_dbgBlock (s : State) (k : Nat) (v : Ser) : (s.setSer k v).dbgBlock = s.dbgBlock := rfl
@[simp] theorem State.setSer_tile (s : State) (k j : Nat) (v : Ser) : (s.setSer k v).tile j = s.tile j := rfl
@[simp] theorem State.setSer_queue (s : State) (k j : Nat) (v : Ser) : (s.setSer k v).queue j = s.queue j := rfl
@[simp] theorem State.setSer_disp (s : State) (k j : Nat) (v : Ser) : (s.setSer k v).disp j = s.disp j := rfl
@[simp] theorem State.setSer_stream (s : State) (k j : Nat) (v : Ser) : (s.setSer k v).stream j = s.stream j := rfl
@[simp] theorem State.setSer_chan (s : State) (k j : Nat) (v : Ser) : (s.setSer k v).chan j = s.chan j := rfl
@[simp] theorem State.setSer_dmaE (s : State) (k j : Nat) (v : Ser) : (s.setSer k v).dmaE j = s.dmaE j := rfl
@[simp] theorem State.setSer_src (s : State) (k j : Nat) (v : Ser) : (s.setSer k v).src j = s.src j := rfl
@[simp] theorem State.setSer_hold (s : State) (k j : Nat) (v : Ser) : (s.setSer k v).hold j = s.hold j := rfl
@[simp] theorem State.setSer_alarm (s : State) (k j : Nat) (v : Ser) : (s.setSer k v).alarm j = s.alarm j := rfl
@[simp] theorem State.setSer_pin (s : State) (k j : Nat) (v : Ser) : (s.setSer k v).pin j = s.pin j := rfl
@[simp] theorem State.setSer_timer (s : State) (k j : Nat) (v : Ser) : (s.setSer k v).timer j = s.timer j := rfl
@[simp] theorem State.setSer_bank (s : State) (k j : Nat) (v : Ser) : (s.setSer k v).bank j = s.bank j := rfl
@[simp] theorem State.setSer_court (s : State) (k j : Nat) (v : Ser) : (s.setSer k v).court j = s.court j := rfl
@[simp] theorem State.setSer_mbx (s : State) (k j : Nat) (v : Ser) : (s.setSer k v).mbx j = s.mbx j := rfl
@[simp] theorem State.setSer_port (s : State) (k j : Nat) (v : Ser) : (s.setSer k v).port j = s.port j := rfl
@[simp] theorem State.setSer_feed (s : State) (k j : Nat) (v : Ser) : (s.setSer k v).feed j = s.feed j := rfl
@[simp] theorem State.setBank_pending (s : State) (k : Nat) (v : Bank) : (s.setBank k v).pending = s.pending := rfl
@[simp] theorem State.setBank_now (s : State) (k : Nat) (v : Bank) : (s.setBank k v).now = s.now := rfl
@[simp] theorem State.setBank_wall (s : State) (k : Nat) (v : Bank) : (s.setBank k v).wall = s.wall := rfl
@[simp] theorem State.setBank_free (s : State) (k : Nat) (v : Bank) : (s.setBank k v).free = s.free := rfl
@[simp] theorem State.setBank_tiles (s : State) (k : Nat) (v : Bank) : (s.setBank k v).tiles = s.tiles := rfl
@[simp] theorem State.setBank_gates (s : State) (k : Nat) (v : Bank) : (s.setBank k v).gates = s.gates := rfl
@[simp] theorem State.setBank_flight (s : State) (k : Nat) (v : Bank) : (s.setBank k v).flight = s.flight := rfl
@[simp] theorem State.setBank_replies (s : State) (k : Nat) (v : Bank) : (s.setBank k v).replies = s.replies := rfl
@[simp] theorem State.setBank_queues (s : State) (k : Nat) (v : Bank) : (s.setBank k v).queues = s.queues := rfl
@[simp] theorem State.setBank_disps (s : State) (k : Nat) (v : Bank) : (s.setBank k v).disps = s.disps := rfl
@[simp] theorem State.setBank_pool (s : State) (k : Nat) (v : Bank) : (s.setBank k v).pool = s.pool := rfl
@[simp] theorem State.setBank_bufMem (s : State) (k : Nat) (v : Bank) : (s.setBank k v).bufMem = s.bufMem := rfl
@[simp] theorem State.setBank_engine (s : State) (k : Nat) (v : Bank) : (s.setBank k v).engine = s.engine := rfl
@[simp] theorem State.setBank_chans (s : State) (k : Nat) (v : Bank) : (s.setBank k v).chans = s.chans := rfl
@[simp] theorem State.setBank_dmaEng (s : State) (k : Nat) (v : Bank) : (s.setBank k v).dmaEng = s.dmaEng := rfl
@[simp] theorem State.setBank_router (s : State) (k : Nat) (v : Bank) : (s.setBank k v).router = s.router := rfl
@[simp] theorem State.setBank_time (s : State) (k : Nat) (v : Bank) : (s.setBank k v).time = s.time := rfl
@[simp] theorem State.setBank_aon (s : State) (k : Nat) (v : Bank) : (s.setBank k v).aon = s.aon := rfl
@[simp] theorem State.setBank_faults (s : State) (k : Nat) (v : Bank) : (s.setBank k v).faults = s.faults := rfl
@[simp] theorem State.setBank_pace (s : State) (k : Nat) (v : Bank) : (s.setBank k v).pace = s.pace := rfl
@[simp] theorem State.setBank_fabric (s : State) (k : Nat) (v : Bank) : (s.setBank k v).fabric = s.fabric := rfl
@[simp] theorem State.setBank_mgmt (s : State) (k : Nat) (v : Bank) : (s.setBank k v).mgmt = s.mgmt := rfl
@[simp] theorem State.setBank_boot (s : State) (k : Nat) (v : Bank) : (s.setBank k v).boot = s.boot := rfl
@[simp] theorem State.setBank_power (s : State) (k : Nat) (v : Bank) : (s.setBank k v).power = s.power := rfl
@[simp] theorem State.setBank_feeds (s : State) (k : Nat) (v : Bank) : (s.setBank k v).feeds = s.feeds := rfl
@[simp] theorem State.setBank_host (s : State) (k : Nat) (v : Bank) : (s.setBank k v).host = s.host := rfl
@[simp] theorem State.setBank_service (s : State) (k : Nat) (v : Bank) : (s.setBank k v).service = s.service := rfl
@[simp] theorem State.setBank_dbgBlock (s : State) (k : Nat) (v : Bank) : (s.setBank k v).dbgBlock = s.dbgBlock := rfl
@[simp] theorem State.setBank_tile (s : State) (k j : Nat) (v : Bank) : (s.setBank k v).tile j = s.tile j := rfl
@[simp] theorem State.setBank_queue (s : State) (k j : Nat) (v : Bank) : (s.setBank k v).queue j = s.queue j := rfl
@[simp] theorem State.setBank_disp (s : State) (k j : Nat) (v : Bank) : (s.setBank k v).disp j = s.disp j := rfl
@[simp] theorem State.setBank_stream (s : State) (k j : Nat) (v : Bank) : (s.setBank k v).stream j = s.stream j := rfl
@[simp] theorem State.setBank_chan (s : State) (k j : Nat) (v : Bank) : (s.setBank k v).chan j = s.chan j := rfl
@[simp] theorem State.setBank_dmaE (s : State) (k j : Nat) (v : Bank) : (s.setBank k v).dmaE j = s.dmaE j := rfl
@[simp] theorem State.setBank_src (s : State) (k j : Nat) (v : Bank) : (s.setBank k v).src j = s.src j := rfl
@[simp] theorem State.setBank_hold (s : State) (k j : Nat) (v : Bank) : (s.setBank k v).hold j = s.hold j := rfl
@[simp] theorem State.setBank_alarm (s : State) (k j : Nat) (v : Bank) : (s.setBank k v).alarm j = s.alarm j := rfl
@[simp] theorem State.setBank_pin (s : State) (k j : Nat) (v : Bank) : (s.setBank k v).pin j = s.pin j := rfl
@[simp] theorem State.setBank_timer (s : State) (k j : Nat) (v : Bank) : (s.setBank k v).timer j = s.timer j := rfl
@[simp] theorem State.setBank_ser (s : State) (k j : Nat) (v : Bank) : (s.setBank k v).ser j = s.ser j := rfl
@[simp] theorem State.setBank_court (s : State) (k j : Nat) (v : Bank) : (s.setBank k v).court j = s.court j := rfl
@[simp] theorem State.setBank_mbx (s : State) (k j : Nat) (v : Bank) : (s.setBank k v).mbx j = s.mbx j := rfl
@[simp] theorem State.setBank_port (s : State) (k j : Nat) (v : Bank) : (s.setBank k v).port j = s.port j := rfl
@[simp] theorem State.setBank_feed (s : State) (k j : Nat) (v : Bank) : (s.setBank k v).feed j = s.feed j := rfl
@[simp] theorem State.setCourt_pending (s : State) (k : Nat) (v : Court) : (s.setCourt k v).pending = s.pending := rfl
@[simp] theorem State.setCourt_now (s : State) (k : Nat) (v : Court) : (s.setCourt k v).now = s.now := rfl
@[simp] theorem State.setCourt_wall (s : State) (k : Nat) (v : Court) : (s.setCourt k v).wall = s.wall := rfl
@[simp] theorem State.setCourt_free (s : State) (k : Nat) (v : Court) : (s.setCourt k v).free = s.free := rfl
@[simp] theorem State.setCourt_tiles (s : State) (k : Nat) (v : Court) : (s.setCourt k v).tiles = s.tiles := rfl
@[simp] theorem State.setCourt_gates (s : State) (k : Nat) (v : Court) : (s.setCourt k v).gates = s.gates := rfl
@[simp] theorem State.setCourt_flight (s : State) (k : Nat) (v : Court) : (s.setCourt k v).flight = s.flight := rfl
@[simp] theorem State.setCourt_replies (s : State) (k : Nat) (v : Court) : (s.setCourt k v).replies = s.replies := rfl
@[simp] theorem State.setCourt_queues (s : State) (k : Nat) (v : Court) : (s.setCourt k v).queues = s.queues := rfl
@[simp] theorem State.setCourt_disps (s : State) (k : Nat) (v : Court) : (s.setCourt k v).disps = s.disps := rfl
@[simp] theorem State.setCourt_pool (s : State) (k : Nat) (v : Court) : (s.setCourt k v).pool = s.pool := rfl
@[simp] theorem State.setCourt_bufMem (s : State) (k : Nat) (v : Court) : (s.setCourt k v).bufMem = s.bufMem := rfl
@[simp] theorem State.setCourt_engine (s : State) (k : Nat) (v : Court) : (s.setCourt k v).engine = s.engine := rfl
@[simp] theorem State.setCourt_chans (s : State) (k : Nat) (v : Court) : (s.setCourt k v).chans = s.chans := rfl
@[simp] theorem State.setCourt_dmaEng (s : State) (k : Nat) (v : Court) : (s.setCourt k v).dmaEng = s.dmaEng := rfl
@[simp] theorem State.setCourt_router (s : State) (k : Nat) (v : Court) : (s.setCourt k v).router = s.router := rfl
@[simp] theorem State.setCourt_time (s : State) (k : Nat) (v : Court) : (s.setCourt k v).time = s.time := rfl
@[simp] theorem State.setCourt_aon (s : State) (k : Nat) (v : Court) : (s.setCourt k v).aon = s.aon := rfl
@[simp] theorem State.setCourt_fio (s : State) (k : Nat) (v : Court) : (s.setCourt k v).fio = s.fio := rfl
@[simp] theorem State.setCourt_faults (s : State) (k : Nat) (v : Court) : (s.setCourt k v).faults = s.faults := rfl
@[simp] theorem State.setCourt_fabric (s : State) (k : Nat) (v : Court) : (s.setCourt k v).fabric = s.fabric := rfl
@[simp] theorem State.setCourt_mgmt (s : State) (k : Nat) (v : Court) : (s.setCourt k v).mgmt = s.mgmt := rfl
@[simp] theorem State.setCourt_boot (s : State) (k : Nat) (v : Court) : (s.setCourt k v).boot = s.boot := rfl
@[simp] theorem State.setCourt_power (s : State) (k : Nat) (v : Court) : (s.setCourt k v).power = s.power := rfl
@[simp] theorem State.setCourt_feeds (s : State) (k : Nat) (v : Court) : (s.setCourt k v).feeds = s.feeds := rfl
@[simp] theorem State.setCourt_host (s : State) (k : Nat) (v : Court) : (s.setCourt k v).host = s.host := rfl
@[simp] theorem State.setCourt_service (s : State) (k : Nat) (v : Court) : (s.setCourt k v).service = s.service := rfl
@[simp] theorem State.setCourt_dbgBlock (s : State) (k : Nat) (v : Court) : (s.setCourt k v).dbgBlock = s.dbgBlock := rfl
@[simp] theorem State.setCourt_tile (s : State) (k j : Nat) (v : Court) : (s.setCourt k v).tile j = s.tile j := rfl
@[simp] theorem State.setCourt_queue (s : State) (k j : Nat) (v : Court) : (s.setCourt k v).queue j = s.queue j := rfl
@[simp] theorem State.setCourt_disp (s : State) (k j : Nat) (v : Court) : (s.setCourt k v).disp j = s.disp j := rfl
@[simp] theorem State.setCourt_stream (s : State) (k j : Nat) (v : Court) : (s.setCourt k v).stream j = s.stream j := rfl
@[simp] theorem State.setCourt_chan (s : State) (k j : Nat) (v : Court) : (s.setCourt k v).chan j = s.chan j := rfl
@[simp] theorem State.setCourt_dmaE (s : State) (k j : Nat) (v : Court) : (s.setCourt k v).dmaE j = s.dmaE j := rfl
@[simp] theorem State.setCourt_src (s : State) (k j : Nat) (v : Court) : (s.setCourt k v).src j = s.src j := rfl
@[simp] theorem State.setCourt_hold (s : State) (k j : Nat) (v : Court) : (s.setCourt k v).hold j = s.hold j := rfl
@[simp] theorem State.setCourt_alarm (s : State) (k j : Nat) (v : Court) : (s.setCourt k v).alarm j = s.alarm j := rfl
@[simp] theorem State.setCourt_pin (s : State) (k j : Nat) (v : Court) : (s.setCourt k v).pin j = s.pin j := rfl
@[simp] theorem State.setCourt_timer (s : State) (k j : Nat) (v : Court) : (s.setCourt k v).timer j = s.timer j := rfl
@[simp] theorem State.setCourt_ser (s : State) (k j : Nat) (v : Court) : (s.setCourt k v).ser j = s.ser j := rfl
@[simp] theorem State.setCourt_bank (s : State) (k j : Nat) (v : Court) : (s.setCourt k v).bank j = s.bank j := rfl
@[simp] theorem State.setCourt_mbx (s : State) (k j : Nat) (v : Court) : (s.setCourt k v).mbx j = s.mbx j := rfl
@[simp] theorem State.setCourt_port (s : State) (k j : Nat) (v : Court) : (s.setCourt k v).port j = s.port j := rfl
@[simp] theorem State.setCourt_feed (s : State) (k j : Nat) (v : Court) : (s.setCourt k v).feed j = s.feed j := rfl
@[simp] theorem State.setMbx_pending (s : State) (k : Nat) (v : Mbx) : (s.setMbx k v).pending = s.pending := rfl
@[simp] theorem State.setMbx_now (s : State) (k : Nat) (v : Mbx) : (s.setMbx k v).now = s.now := rfl
@[simp] theorem State.setMbx_wall (s : State) (k : Nat) (v : Mbx) : (s.setMbx k v).wall = s.wall := rfl
@[simp] theorem State.setMbx_free (s : State) (k : Nat) (v : Mbx) : (s.setMbx k v).free = s.free := rfl
@[simp] theorem State.setMbx_tiles (s : State) (k : Nat) (v : Mbx) : (s.setMbx k v).tiles = s.tiles := rfl
@[simp] theorem State.setMbx_gates (s : State) (k : Nat) (v : Mbx) : (s.setMbx k v).gates = s.gates := rfl
@[simp] theorem State.setMbx_flight (s : State) (k : Nat) (v : Mbx) : (s.setMbx k v).flight = s.flight := rfl
@[simp] theorem State.setMbx_replies (s : State) (k : Nat) (v : Mbx) : (s.setMbx k v).replies = s.replies := rfl
@[simp] theorem State.setMbx_queues (s : State) (k : Nat) (v : Mbx) : (s.setMbx k v).queues = s.queues := rfl
@[simp] theorem State.setMbx_disps (s : State) (k : Nat) (v : Mbx) : (s.setMbx k v).disps = s.disps := rfl
@[simp] theorem State.setMbx_pool (s : State) (k : Nat) (v : Mbx) : (s.setMbx k v).pool = s.pool := rfl
@[simp] theorem State.setMbx_bufMem (s : State) (k : Nat) (v : Mbx) : (s.setMbx k v).bufMem = s.bufMem := rfl
@[simp] theorem State.setMbx_engine (s : State) (k : Nat) (v : Mbx) : (s.setMbx k v).engine = s.engine := rfl
@[simp] theorem State.setMbx_chans (s : State) (k : Nat) (v : Mbx) : (s.setMbx k v).chans = s.chans := rfl
@[simp] theorem State.setMbx_dmaEng (s : State) (k : Nat) (v : Mbx) : (s.setMbx k v).dmaEng = s.dmaEng := rfl
@[simp] theorem State.setMbx_router (s : State) (k : Nat) (v : Mbx) : (s.setMbx k v).router = s.router := rfl
@[simp] theorem State.setMbx_time (s : State) (k : Nat) (v : Mbx) : (s.setMbx k v).time = s.time := rfl
@[simp] theorem State.setMbx_aon (s : State) (k : Nat) (v : Mbx) : (s.setMbx k v).aon = s.aon := rfl
@[simp] theorem State.setMbx_fio (s : State) (k : Nat) (v : Mbx) : (s.setMbx k v).fio = s.fio := rfl
@[simp] theorem State.setMbx_faults (s : State) (k : Nat) (v : Mbx) : (s.setMbx k v).faults = s.faults := rfl
@[simp] theorem State.setMbx_pace (s : State) (k : Nat) (v : Mbx) : (s.setMbx k v).pace = s.pace := rfl
@[simp] theorem State.setMbx_fabric (s : State) (k : Nat) (v : Mbx) : (s.setMbx k v).fabric = s.fabric := rfl
@[simp] theorem State.setMbx_boot (s : State) (k : Nat) (v : Mbx) : (s.setMbx k v).boot = s.boot := rfl
@[simp] theorem State.setMbx_power (s : State) (k : Nat) (v : Mbx) : (s.setMbx k v).power = s.power := rfl
@[simp] theorem State.setMbx_feeds (s : State) (k : Nat) (v : Mbx) : (s.setMbx k v).feeds = s.feeds := rfl
@[simp] theorem State.setMbx_host (s : State) (k : Nat) (v : Mbx) : (s.setMbx k v).host = s.host := rfl
@[simp] theorem State.setMbx_service (s : State) (k : Nat) (v : Mbx) : (s.setMbx k v).service = s.service := rfl
@[simp] theorem State.setMbx_dbgBlock (s : State) (k : Nat) (v : Mbx) : (s.setMbx k v).dbgBlock = s.dbgBlock := rfl
@[simp] theorem State.setMbx_tile (s : State) (k j : Nat) (v : Mbx) : (s.setMbx k v).tile j = s.tile j := rfl
@[simp] theorem State.setMbx_queue (s : State) (k j : Nat) (v : Mbx) : (s.setMbx k v).queue j = s.queue j := rfl
@[simp] theorem State.setMbx_disp (s : State) (k j : Nat) (v : Mbx) : (s.setMbx k v).disp j = s.disp j := rfl
@[simp] theorem State.setMbx_stream (s : State) (k j : Nat) (v : Mbx) : (s.setMbx k v).stream j = s.stream j := rfl
@[simp] theorem State.setMbx_chan (s : State) (k j : Nat) (v : Mbx) : (s.setMbx k v).chan j = s.chan j := rfl
@[simp] theorem State.setMbx_dmaE (s : State) (k j : Nat) (v : Mbx) : (s.setMbx k v).dmaE j = s.dmaE j := rfl
@[simp] theorem State.setMbx_src (s : State) (k j : Nat) (v : Mbx) : (s.setMbx k v).src j = s.src j := rfl
@[simp] theorem State.setMbx_hold (s : State) (k j : Nat) (v : Mbx) : (s.setMbx k v).hold j = s.hold j := rfl
@[simp] theorem State.setMbx_alarm (s : State) (k j : Nat) (v : Mbx) : (s.setMbx k v).alarm j = s.alarm j := rfl
@[simp] theorem State.setMbx_pin (s : State) (k j : Nat) (v : Mbx) : (s.setMbx k v).pin j = s.pin j := rfl
@[simp] theorem State.setMbx_timer (s : State) (k j : Nat) (v : Mbx) : (s.setMbx k v).timer j = s.timer j := rfl
@[simp] theorem State.setMbx_ser (s : State) (k j : Nat) (v : Mbx) : (s.setMbx k v).ser j = s.ser j := rfl
@[simp] theorem State.setMbx_bank (s : State) (k j : Nat) (v : Mbx) : (s.setMbx k v).bank j = s.bank j := rfl
@[simp] theorem State.setMbx_court (s : State) (k j : Nat) (v : Mbx) : (s.setMbx k v).court j = s.court j := rfl
@[simp] theorem State.setMbx_port (s : State) (k j : Nat) (v : Mbx) : (s.setMbx k v).port j = s.port j := rfl
@[simp] theorem State.setMbx_feed (s : State) (k j : Nat) (v : Mbx) : (s.setMbx k v).feed j = s.feed j := rfl
@[simp] theorem State.setPort_pending (s : State) (k : Nat) (v : LinkPort) : (s.setPort k v).pending = s.pending := rfl
@[simp] theorem State.setPort_now (s : State) (k : Nat) (v : LinkPort) : (s.setPort k v).now = s.now := rfl
@[simp] theorem State.setPort_wall (s : State) (k : Nat) (v : LinkPort) : (s.setPort k v).wall = s.wall := rfl
@[simp] theorem State.setPort_free (s : State) (k : Nat) (v : LinkPort) : (s.setPort k v).free = s.free := rfl
@[simp] theorem State.setPort_tiles (s : State) (k : Nat) (v : LinkPort) : (s.setPort k v).tiles = s.tiles := rfl
@[simp] theorem State.setPort_gates (s : State) (k : Nat) (v : LinkPort) : (s.setPort k v).gates = s.gates := rfl
@[simp] theorem State.setPort_flight (s : State) (k : Nat) (v : LinkPort) : (s.setPort k v).flight = s.flight := rfl
@[simp] theorem State.setPort_replies (s : State) (k : Nat) (v : LinkPort) : (s.setPort k v).replies = s.replies := rfl
@[simp] theorem State.setPort_queues (s : State) (k : Nat) (v : LinkPort) : (s.setPort k v).queues = s.queues := rfl
@[simp] theorem State.setPort_disps (s : State) (k : Nat) (v : LinkPort) : (s.setPort k v).disps = s.disps := rfl
@[simp] theorem State.setPort_pool (s : State) (k : Nat) (v : LinkPort) : (s.setPort k v).pool = s.pool := rfl
@[simp] theorem State.setPort_bufMem (s : State) (k : Nat) (v : LinkPort) : (s.setPort k v).bufMem = s.bufMem := rfl
@[simp] theorem State.setPort_engine (s : State) (k : Nat) (v : LinkPort) : (s.setPort k v).engine = s.engine := rfl
@[simp] theorem State.setPort_chans (s : State) (k : Nat) (v : LinkPort) : (s.setPort k v).chans = s.chans := rfl
@[simp] theorem State.setPort_dmaEng (s : State) (k : Nat) (v : LinkPort) : (s.setPort k v).dmaEng = s.dmaEng := rfl
@[simp] theorem State.setPort_router (s : State) (k : Nat) (v : LinkPort) : (s.setPort k v).router = s.router := rfl
@[simp] theorem State.setPort_time (s : State) (k : Nat) (v : LinkPort) : (s.setPort k v).time = s.time := rfl
@[simp] theorem State.setPort_aon (s : State) (k : Nat) (v : LinkPort) : (s.setPort k v).aon = s.aon := rfl
@[simp] theorem State.setPort_fio (s : State) (k : Nat) (v : LinkPort) : (s.setPort k v).fio = s.fio := rfl
@[simp] theorem State.setPort_faults (s : State) (k : Nat) (v : LinkPort) : (s.setPort k v).faults = s.faults := rfl
@[simp] theorem State.setPort_pace (s : State) (k : Nat) (v : LinkPort) : (s.setPort k v).pace = s.pace := rfl
@[simp] theorem State.setPort_mgmt (s : State) (k : Nat) (v : LinkPort) : (s.setPort k v).mgmt = s.mgmt := rfl
@[simp] theorem State.setPort_boot (s : State) (k : Nat) (v : LinkPort) : (s.setPort k v).boot = s.boot := rfl
@[simp] theorem State.setPort_power (s : State) (k : Nat) (v : LinkPort) : (s.setPort k v).power = s.power := rfl
@[simp] theorem State.setPort_feeds (s : State) (k : Nat) (v : LinkPort) : (s.setPort k v).feeds = s.feeds := rfl
@[simp] theorem State.setPort_host (s : State) (k : Nat) (v : LinkPort) : (s.setPort k v).host = s.host := rfl
@[simp] theorem State.setPort_service (s : State) (k : Nat) (v : LinkPort) : (s.setPort k v).service = s.service := rfl
@[simp] theorem State.setPort_dbgBlock (s : State) (k : Nat) (v : LinkPort) : (s.setPort k v).dbgBlock = s.dbgBlock := rfl
@[simp] theorem State.setPort_tile (s : State) (k j : Nat) (v : LinkPort) : (s.setPort k v).tile j = s.tile j := rfl
@[simp] theorem State.setPort_queue (s : State) (k j : Nat) (v : LinkPort) : (s.setPort k v).queue j = s.queue j := rfl
@[simp] theorem State.setPort_disp (s : State) (k j : Nat) (v : LinkPort) : (s.setPort k v).disp j = s.disp j := rfl
@[simp] theorem State.setPort_stream (s : State) (k j : Nat) (v : LinkPort) : (s.setPort k v).stream j = s.stream j := rfl
@[simp] theorem State.setPort_chan (s : State) (k j : Nat) (v : LinkPort) : (s.setPort k v).chan j = s.chan j := rfl
@[simp] theorem State.setPort_dmaE (s : State) (k j : Nat) (v : LinkPort) : (s.setPort k v).dmaE j = s.dmaE j := rfl
@[simp] theorem State.setPort_src (s : State) (k j : Nat) (v : LinkPort) : (s.setPort k v).src j = s.src j := rfl
@[simp] theorem State.setPort_hold (s : State) (k j : Nat) (v : LinkPort) : (s.setPort k v).hold j = s.hold j := rfl
@[simp] theorem State.setPort_alarm (s : State) (k j : Nat) (v : LinkPort) : (s.setPort k v).alarm j = s.alarm j := rfl
@[simp] theorem State.setPort_pin (s : State) (k j : Nat) (v : LinkPort) : (s.setPort k v).pin j = s.pin j := rfl
@[simp] theorem State.setPort_timer (s : State) (k j : Nat) (v : LinkPort) : (s.setPort k v).timer j = s.timer j := rfl
@[simp] theorem State.setPort_ser (s : State) (k j : Nat) (v : LinkPort) : (s.setPort k v).ser j = s.ser j := rfl
@[simp] theorem State.setPort_bank (s : State) (k j : Nat) (v : LinkPort) : (s.setPort k v).bank j = s.bank j := rfl
@[simp] theorem State.setPort_court (s : State) (k j : Nat) (v : LinkPort) : (s.setPort k v).court j = s.court j := rfl
@[simp] theorem State.setPort_mbx (s : State) (k j : Nat) (v : LinkPort) : (s.setPort k v).mbx j = s.mbx j := rfl
@[simp] theorem State.setPort_feed (s : State) (k j : Nat) (v : LinkPort) : (s.setPort k v).feed j = s.feed j := rfl
@[simp] theorem State.setFeed_pending (s : State) (k : Nat) (v : Feed) : (s.setFeed k v).pending = s.pending := rfl
@[simp] theorem State.setFeed_now (s : State) (k : Nat) (v : Feed) : (s.setFeed k v).now = s.now := rfl
@[simp] theorem State.setFeed_wall (s : State) (k : Nat) (v : Feed) : (s.setFeed k v).wall = s.wall := rfl
@[simp] theorem State.setFeed_free (s : State) (k : Nat) (v : Feed) : (s.setFeed k v).free = s.free := rfl
@[simp] theorem State.setFeed_tiles (s : State) (k : Nat) (v : Feed) : (s.setFeed k v).tiles = s.tiles := rfl
@[simp] theorem State.setFeed_gates (s : State) (k : Nat) (v : Feed) : (s.setFeed k v).gates = s.gates := rfl
@[simp] theorem State.setFeed_flight (s : State) (k : Nat) (v : Feed) : (s.setFeed k v).flight = s.flight := rfl
@[simp] theorem State.setFeed_replies (s : State) (k : Nat) (v : Feed) : (s.setFeed k v).replies = s.replies := rfl
@[simp] theorem State.setFeed_queues (s : State) (k : Nat) (v : Feed) : (s.setFeed k v).queues = s.queues := rfl
@[simp] theorem State.setFeed_disps (s : State) (k : Nat) (v : Feed) : (s.setFeed k v).disps = s.disps := rfl
@[simp] theorem State.setFeed_pool (s : State) (k : Nat) (v : Feed) : (s.setFeed k v).pool = s.pool := rfl
@[simp] theorem State.setFeed_bufMem (s : State) (k : Nat) (v : Feed) : (s.setFeed k v).bufMem = s.bufMem := rfl
@[simp] theorem State.setFeed_engine (s : State) (k : Nat) (v : Feed) : (s.setFeed k v).engine = s.engine := rfl
@[simp] theorem State.setFeed_chans (s : State) (k : Nat) (v : Feed) : (s.setFeed k v).chans = s.chans := rfl
@[simp] theorem State.setFeed_dmaEng (s : State) (k : Nat) (v : Feed) : (s.setFeed k v).dmaEng = s.dmaEng := rfl
@[simp] theorem State.setFeed_router (s : State) (k : Nat) (v : Feed) : (s.setFeed k v).router = s.router := rfl
@[simp] theorem State.setFeed_time (s : State) (k : Nat) (v : Feed) : (s.setFeed k v).time = s.time := rfl
@[simp] theorem State.setFeed_aon (s : State) (k : Nat) (v : Feed) : (s.setFeed k v).aon = s.aon := rfl
@[simp] theorem State.setFeed_fio (s : State) (k : Nat) (v : Feed) : (s.setFeed k v).fio = s.fio := rfl
@[simp] theorem State.setFeed_faults (s : State) (k : Nat) (v : Feed) : (s.setFeed k v).faults = s.faults := rfl
@[simp] theorem State.setFeed_pace (s : State) (k : Nat) (v : Feed) : (s.setFeed k v).pace = s.pace := rfl
@[simp] theorem State.setFeed_fabric (s : State) (k : Nat) (v : Feed) : (s.setFeed k v).fabric = s.fabric := rfl
@[simp] theorem State.setFeed_mgmt (s : State) (k : Nat) (v : Feed) : (s.setFeed k v).mgmt = s.mgmt := rfl
@[simp] theorem State.setFeed_boot (s : State) (k : Nat) (v : Feed) : (s.setFeed k v).boot = s.boot := rfl
@[simp] theorem State.setFeed_power (s : State) (k : Nat) (v : Feed) : (s.setFeed k v).power = s.power := rfl
@[simp] theorem State.setFeed_host (s : State) (k : Nat) (v : Feed) : (s.setFeed k v).host = s.host := rfl
@[simp] theorem State.setFeed_service (s : State) (k : Nat) (v : Feed) : (s.setFeed k v).service = s.service := rfl
@[simp] theorem State.setFeed_dbgBlock (s : State) (k : Nat) (v : Feed) : (s.setFeed k v).dbgBlock = s.dbgBlock := rfl
@[simp] theorem State.setFeed_tile (s : State) (k j : Nat) (v : Feed) : (s.setFeed k v).tile j = s.tile j := rfl
@[simp] theorem State.setFeed_queue (s : State) (k j : Nat) (v : Feed) : (s.setFeed k v).queue j = s.queue j := rfl
@[simp] theorem State.setFeed_disp (s : State) (k j : Nat) (v : Feed) : (s.setFeed k v).disp j = s.disp j := rfl
@[simp] theorem State.setFeed_stream (s : State) (k j : Nat) (v : Feed) : (s.setFeed k v).stream j = s.stream j := rfl
@[simp] theorem State.setFeed_chan (s : State) (k j : Nat) (v : Feed) : (s.setFeed k v).chan j = s.chan j := rfl
@[simp] theorem State.setFeed_dmaE (s : State) (k j : Nat) (v : Feed) : (s.setFeed k v).dmaE j = s.dmaE j := rfl
@[simp] theorem State.setFeed_src (s : State) (k j : Nat) (v : Feed) : (s.setFeed k v).src j = s.src j := rfl
@[simp] theorem State.setFeed_hold (s : State) (k j : Nat) (v : Feed) : (s.setFeed k v).hold j = s.hold j := rfl
@[simp] theorem State.setFeed_alarm (s : State) (k j : Nat) (v : Feed) : (s.setFeed k v).alarm j = s.alarm j := rfl
@[simp] theorem State.setFeed_pin (s : State) (k j : Nat) (v : Feed) : (s.setFeed k v).pin j = s.pin j := rfl
@[simp] theorem State.setFeed_timer (s : State) (k j : Nat) (v : Feed) : (s.setFeed k v).timer j = s.timer j := rfl
@[simp] theorem State.setFeed_ser (s : State) (k j : Nat) (v : Feed) : (s.setFeed k v).ser j = s.ser j := rfl
@[simp] theorem State.setFeed_bank (s : State) (k j : Nat) (v : Feed) : (s.setFeed k v).bank j = s.bank j := rfl
@[simp] theorem State.setFeed_court (s : State) (k j : Nat) (v : Feed) : (s.setFeed k v).court j = s.court j := rfl
@[simp] theorem State.setFeed_mbx (s : State) (k j : Nat) (v : Feed) : (s.setFeed k v).mbx j = s.mbx j := rfl
@[simp] theorem State.setFeed_port (s : State) (k j : Nat) (v : Feed) : (s.setFeed k v).port j = s.port j := rfl

end Sys2Proof.Machine
end

