-- ==== Sys2Proof/Laws/Ops.lean ====
section
/-! SUPPORT. What the shared operations of Machine/Ops.lean leave alone, field by field, and what a firing
does to its source. -/

namespace Sys2Proof.Machine

set_option Elab.async false

/-! ### askFrost -/

@[simp] theorem State.askFrost_pending (s : State) (on : Bool) : (s.askFrost on).pending = s.pending := by
  unfold State.askFrost
  dsimp only
  split <;> rfl
@[simp] theorem State.askFrost_now (s : State) (on : Bool) : (s.askFrost on).now = s.now := by
  unfold State.askFrost
  dsimp only
  split <;> rfl
@[simp] theorem State.askFrost_wall (s : State) (on : Bool) : (s.askFrost on).wall = s.wall := by
  unfold State.askFrost
  dsimp only
  split <;> rfl
@[simp] theorem State.askFrost_free (s : State) (on : Bool) : (s.askFrost on).free = s.free := by
  unfold State.askFrost
  dsimp only
  split <;> rfl
@[simp] theorem State.askFrost_tiles (s : State) (on : Bool) : (s.askFrost on).tiles = s.tiles := by
  unfold State.askFrost
  dsimp only
  split <;> rfl
@[simp] theorem State.askFrost_gates (s : State) (on : Bool) : (s.askFrost on).gates = s.gates := by
  unfold State.askFrost
  dsimp only
  split <;> rfl
@[simp] theorem State.askFrost_flight (s : State) (on : Bool) : (s.askFrost on).flight = s.flight := by
  unfold State.askFrost
  dsimp only
  split <;> rfl
@[simp] theorem State.askFrost_replies (s : State) (on : Bool) : (s.askFrost on).replies = s.replies := by
  unfold State.askFrost
  dsimp only
  split <;> rfl
@[simp] theorem State.askFrost_queues (s : State) (on : Bool) : (s.askFrost on).queues = s.queues := by
  unfold State.askFrost
  dsimp only
  split <;> rfl
@[simp] theorem State.askFrost_disps (s : State) (on : Bool) : (s.askFrost on).disps = s.disps := by
  unfold State.askFrost
  dsimp only
  split <;> rfl
@[simp] theorem State.askFrost_pool (s : State) (on : Bool) : (s.askFrost on).pool = s.pool := by
  unfold State.askFrost
  dsimp only
  split <;> rfl
@[simp] theorem State.askFrost_bufMem (s : State) (on : Bool) : (s.askFrost on).bufMem = s.bufMem := by
  unfold State.askFrost
  dsimp only
  split <;> rfl
@[simp] theorem State.askFrost_engine (s : State) (on : Bool) : (s.askFrost on).engine = s.engine := by
  unfold State.askFrost
  dsimp only
  split <;> rfl
@[simp] theorem State.askFrost_chans (s : State) (on : Bool) : (s.askFrost on).chans = s.chans := by
  unfold State.askFrost
  dsimp only
  split <;> rfl
@[simp] theorem State.askFrost_dmaEng (s : State) (on : Bool) : (s.askFrost on).dmaEng = s.dmaEng := by
  unfold State.askFrost
  dsimp only
  split <;> rfl
@[simp] theorem State.askFrost_router (s : State) (on : Bool) : (s.askFrost on).router = s.router := by
  unfold State.askFrost
  dsimp only
  split <;> rfl
@[simp] theorem State.askFrost_time (s : State) (on : Bool) : (s.askFrost on).time = s.time := by
  unfold State.askFrost
  dsimp only
  split <;> rfl
@[simp] theorem State.askFrost_aon (s : State) (on : Bool) : (s.askFrost on).aon = s.aon := by
  unfold State.askFrost
  dsimp only
  split <;> rfl
@[simp] theorem State.askFrost_fio (s : State) (on : Bool) : (s.askFrost on).fio = s.fio := by
  unfold State.askFrost
  dsimp only
  split <;> rfl
@[simp] theorem State.askFrost_faults (s : State) (on : Bool) : (s.askFrost on).faults = s.faults := by
  unfold State.askFrost
  dsimp only
  split <;> rfl
@[simp] theorem State.askFrost_pace (s : State) (on : Bool) : (s.askFrost on).pace = s.pace := by
  unfold State.askFrost
  dsimp only
  split <;> rfl
@[simp] theorem State.askFrost_fabric (s : State) (on : Bool) : (s.askFrost on).fabric = s.fabric := by
  unfold State.askFrost
  dsimp only
  split <;> rfl
@[simp] theorem State.askFrost_mgmt (s : State) (on : Bool) : (s.askFrost on).mgmt = s.mgmt := by
  unfold State.askFrost
  dsimp only
  split <;> rfl
@[simp] theorem State.askFrost_boot (s : State) (on : Bool) : (s.askFrost on).boot = s.boot := by
  unfold State.askFrost
  dsimp only
  split <;> rfl
@[simp] theorem State.askFrost_power (s : State) (on : Bool) : (s.askFrost on).power = s.power := by
  unfold State.askFrost
  dsimp only
  split <;> rfl
@[simp] theorem State.askFrost_feeds (s : State) (on : Bool) : (s.askFrost on).feeds = s.feeds := by
  unfold State.askFrost
  dsimp only
  split <;> rfl
@[simp] theorem State.askFrost_host (s : State) (on : Bool) : (s.askFrost on).host = s.host := by
  unfold State.askFrost
  dsimp only
  split <;> rfl
@[simp] theorem State.askFrost_service (s : State) (on : Bool) : (s.askFrost on).service = s.service := by
  unfold State.askFrost
  dsimp only
  split <;> rfl
@[simp] theorem State.askFrost_tile (s : State) (on : Bool) (k : Nat) : (s.askFrost on).tile k = s.tile k := by
  simp [State.tile]
@[simp] theorem State.askFrost_queue (s : State) (on : Bool) (k : Nat) : (s.askFrost on).queue k = s.queue k := by
  simp [State.queue]
@[simp] theorem State.askFrost_disp (s : State) (on : Bool) (k : Nat) : (s.askFrost on).disp k = s.disp k := by
  simp [State.disp]
@[simp] theorem State.askFrost_stream (s : State) (on : Bool) (k : Nat) : (s.askFrost on).stream k = s.stream k := by
  simp [State.stream]
@[simp] theorem State.askFrost_chan (s : State) (on : Bool) (k : Nat) : (s.askFrost on).chan k = s.chan k := by
  simp [State.chan]
@[simp] theorem State.askFrost_dmaE (s : State) (on : Bool) (k : Nat) : (s.askFrost on).dmaE k = s.dmaE k := by
  simp [State.dmaE]
@[simp] theorem State.askFrost_src (s : State) (on : Bool) (k : Nat) : (s.askFrost on).src k = s.src k := by
  simp [State.src]
@[simp] theorem State.askFrost_hold (s : State) (on : Bool) (k : Nat) : (s.askFrost on).hold k = s.hold k := by
  simp [State.hold]
@[simp] theorem State.askFrost_alarm (s : State) (on : Bool) (k : Nat) : (s.askFrost on).alarm k = s.alarm k := by
  simp [State.alarm]
@[simp] theorem State.askFrost_pin (s : State) (on : Bool) (k : Nat) : (s.askFrost on).pin k = s.pin k := by
  simp [State.pin]
@[simp] theorem State.askFrost_timer (s : State) (on : Bool) (k : Nat) : (s.askFrost on).timer k = s.timer k := by
  simp [State.timer]
@[simp] theorem State.askFrost_ser (s : State) (on : Bool) (k : Nat) : (s.askFrost on).ser k = s.ser k := by
  simp [State.ser]
@[simp] theorem State.askFrost_bank (s : State) (on : Bool) (k : Nat) : (s.askFrost on).bank k = s.bank k := by
  simp [State.bank]
@[simp] theorem State.askFrost_court (s : State) (on : Bool) (k : Nat) : (s.askFrost on).court k = s.court k := by
  simp [State.court]
@[simp] theorem State.askFrost_mbx (s : State) (on : Bool) (k : Nat) : (s.askFrost on).mbx k = s.mbx k := by
  simp [State.mbx]
@[simp] theorem State.askFrost_port (s : State) (on : Bool) (k : Nat) : (s.askFrost on).port k = s.port k := by
  simp [State.port]
@[simp] theorem State.askFrost_feed (s : State) (on : Bool) (k : Nat) : (s.askFrost on).feed k = s.feed k := by
  simp [State.feed]

/-! ### fireRun -/

@[simp] theorem State.fireRun_pending (s : State) (n : Nat) : (s.fireRun n).pending = s.pending := by
  unfold State.fireRun
  dsimp only
  split <;> simp
@[simp] theorem State.fireRun_now (s : State) (n : Nat) : (s.fireRun n).now = s.now := by
  unfold State.fireRun
  dsimp only
  split <;> simp
@[simp] theorem State.fireRun_wall (s : State) (n : Nat) : (s.fireRun n).wall = s.wall := by
  unfold State.fireRun
  dsimp only
  split <;> simp
@[simp] theorem State.fireRun_free (s : State) (n : Nat) : (s.fireRun n).free = s.free := by
  unfold State.fireRun
  dsimp only
  split <;> simp
@[simp] theorem State.fireRun_tiles (s : State) (n : Nat) : (s.fireRun n).tiles = s.tiles := by
  unfold State.fireRun
  dsimp only
  split <;> simp
@[simp] theorem State.fireRun_gates (s : State) (n : Nat) : (s.fireRun n).gates = s.gates := by
  unfold State.fireRun
  dsimp only
  split <;> simp
@[simp] theorem State.fireRun_flight (s : State) (n : Nat) : (s.fireRun n).flight = s.flight := by
  unfold State.fireRun
  dsimp only
  split <;> simp
@[simp] theorem State.fireRun_replies (s : State) (n : Nat) : (s.fireRun n).replies = s.replies := by
  unfold State.fireRun
  dsimp only
  split <;> simp
@[simp] theorem State.fireRun_queues (s : State) (n : Nat) : (s.fireRun n).queues = s.queues := by
  unfold State.fireRun
  dsimp only
  split <;> simp
@[simp] theorem State.fireRun_disps (s : State) (n : Nat) : (s.fireRun n).disps = s.disps := by
  unfold State.fireRun
  dsimp only
  split <;> simp
@[simp] theorem State.fireRun_pool (s : State) (n : Nat) : (s.fireRun n).pool = s.pool := by
  unfold State.fireRun
  dsimp only
  split <;> simp
@[simp] theorem State.fireRun_bufMem (s : State) (n : Nat) : (s.fireRun n).bufMem = s.bufMem := by
  unfold State.fireRun
  dsimp only
  split <;> simp
@[simp] theorem State.fireRun_engine (s : State) (n : Nat) : (s.fireRun n).engine = s.engine := by
  unfold State.fireRun
  dsimp only
  split <;> simp
@[simp] theorem State.fireRun_chans (s : State) (n : Nat) : (s.fireRun n).chans = s.chans := by
  unfold State.fireRun
  dsimp only
  split <;> simp
@[simp] theorem State.fireRun_dmaEng (s : State) (n : Nat) : (s.fireRun n).dmaEng = s.dmaEng := by
  unfold State.fireRun
  dsimp only
  split <;> simp
@[simp] theorem State.fireRun_time (s : State) (n : Nat) : (s.fireRun n).time = s.time := by
  unfold State.fireRun
  dsimp only
  split <;> simp
@[simp] theorem State.fireRun_aon (s : State) (n : Nat) : (s.fireRun n).aon = s.aon := by
  unfold State.fireRun
  dsimp only
  split <;> simp
@[simp] theorem State.fireRun_fio (s : State) (n : Nat) : (s.fireRun n).fio = s.fio := by
  unfold State.fireRun
  dsimp only
  split <;> simp
@[simp] theorem State.fireRun_faults (s : State) (n : Nat) : (s.fireRun n).faults = s.faults := by
  unfold State.fireRun
  dsimp only
  split <;> simp
@[simp] theorem State.fireRun_pace (s : State) (n : Nat) : (s.fireRun n).pace = s.pace := by
  unfold State.fireRun
  dsimp only
  split <;> simp
@[simp] theorem State.fireRun_fabric (s : State) (n : Nat) : (s.fireRun n).fabric = s.fabric := by
  unfold State.fireRun
  dsimp only
  split <;> simp
@[simp] theorem State.fireRun_mgmt (s : State) (n : Nat) : (s.fireRun n).mgmt = s.mgmt := by
  unfold State.fireRun
  dsimp only
  split <;> simp
@[simp] theorem State.fireRun_boot (s : State) (n : Nat) : (s.fireRun n).boot = s.boot := by
  unfold State.fireRun
  dsimp only
  split <;> simp
@[simp] theorem State.fireRun_power (s : State) (n : Nat) : (s.fireRun n).power = s.power := by
  unfold State.fireRun
  dsimp only
  split <;> simp
@[simp] theorem State.fireRun_feeds (s : State) (n : Nat) : (s.fireRun n).feeds = s.feeds := by
  unfold State.fireRun
  dsimp only
  split <;> simp
@[simp] theorem State.fireRun_host (s : State) (n : Nat) : (s.fireRun n).host = s.host := by
  unfold State.fireRun
  dsimp only
  split <;> simp
@[simp] theorem State.fireRun_service (s : State) (n : Nat) : (s.fireRun n).service = s.service := by
  unfold State.fireRun
  dsimp only
  split <;> simp
@[simp] theorem State.fireRun_tile (s : State) (n : Nat) (k : Nat) : (s.fireRun n).tile k = s.tile k := by
  simp [State.tile]
@[simp] theorem State.fireRun_queue (s : State) (n : Nat) (k : Nat) : (s.fireRun n).queue k = s.queue k := by
  simp [State.queue]
@[simp] theorem State.fireRun_disp (s : State) (n : Nat) (k : Nat) : (s.fireRun n).disp k = s.disp k := by
  simp [State.disp]
@[simp] theorem State.fireRun_stream (s : State) (n : Nat) (k : Nat) : (s.fireRun n).stream k = s.stream k := by
  simp [State.stream]
@[simp] theorem State.fireRun_chan (s : State) (n : Nat) (k : Nat) : (s.fireRun n).chan k = s.chan k := by
  simp [State.chan]
@[simp] theorem State.fireRun_dmaE (s : State) (n : Nat) (k : Nat) : (s.fireRun n).dmaE k = s.dmaE k := by
  simp [State.dmaE]
@[simp] theorem State.fireRun_alarm (s : State) (n : Nat) (k : Nat) : (s.fireRun n).alarm k = s.alarm k := by
  simp [State.alarm]
@[simp] theorem State.fireRun_pin (s : State) (n : Nat) (k : Nat) : (s.fireRun n).pin k = s.pin k := by
  simp [State.pin]
@[simp] theorem State.fireRun_timer (s : State) (n : Nat) (k : Nat) : (s.fireRun n).timer k = s.timer k := by
  simp [State.timer]
@[simp] theorem State.fireRun_ser (s : State) (n : Nat) (k : Nat) : (s.fireRun n).ser k = s.ser k := by
  simp [State.ser]
@[simp] theorem State.fireRun_bank (s : State) (n : Nat) (k : Nat) : (s.fireRun n).bank k = s.bank k := by
  simp [State.bank]
@[simp] theorem State.fireRun_court (s : State) (n : Nat) (k : Nat) : (s.fireRun n).court k = s.court k := by
  simp [State.court]
@[simp] theorem State.fireRun_mbx (s : State) (n : Nat) (k : Nat) : (s.fireRun n).mbx k = s.mbx k := by
  simp [State.mbx]
@[simp] theorem State.fireRun_port (s : State) (n : Nat) (k : Nat) : (s.fireRun n).port k = s.port k := by
  simp [State.port]
@[simp] theorem State.fireRun_feed (s : State) (n : Nat) (k : Nat) : (s.fireRun n).feed k = s.feed k := by
  simp [State.feed]

/-! ### wakeNow -/

@[simp] theorem State.wakeNow_pending (s : State) (kind code : Nat) : (s.wakeNow kind code).pending = s.pending := by
  unfold State.wakeNow
  split <;> rfl
@[simp] theorem State.wakeNow_now (s : State) (kind code : Nat) : (s.wakeNow kind code).now = s.now := by
  unfold State.wakeNow
  split <;> rfl
@[simp] theorem State.wakeNow_wall (s : State) (kind code : Nat) : (s.wakeNow kind code).wall = s.wall := by
  unfold State.wakeNow
  split <;> rfl
@[simp] theorem State.wakeNow_free (s : State) (kind code : Nat) : (s.wakeNow kind code).free = s.free := by
  unfold State.wakeNow
  split <;> rfl
@[simp] theorem State.wakeNow_tiles (s : State) (kind code : Nat) : (s.wakeNow kind code).tiles = s.tiles := by
  unfold State.wakeNow
  split <;> rfl
@[simp] theorem State.wakeNow_gates (s : State) (kind code : Nat) : (s.wakeNow kind code).gates = s.gates := by
  unfold State.wakeNow
  split <;> rfl
@[simp] theorem State.wakeNow_flight (s : State) (kind code : Nat) : (s.wakeNow kind code).flight = s.flight := by
  unfold State.wakeNow
  split <;> rfl
@[simp] theorem State.wakeNow_replies (s : State) (kind code : Nat) : (s.wakeNow kind code).replies = s.replies := by
  unfold State.wakeNow
  split <;> rfl
@[simp] theorem State.wakeNow_queues (s : State) (kind code : Nat) : (s.wakeNow kind code).queues = s.queues := by
  unfold State.wakeNow
  split <;> rfl
@[simp] theorem State.wakeNow_disps (s : State) (kind code : Nat) : (s.wakeNow kind code).disps = s.disps := by
  unfold State.wakeNow
  split <;> rfl
@[simp] theorem State.wakeNow_pool (s : State) (kind code : Nat) : (s.wakeNow kind code).pool = s.pool := by
  unfold State.wakeNow
  split <;> rfl
@[simp] theorem State.wakeNow_bufMem (s : State) (kind code : Nat) : (s.wakeNow kind code).bufMem = s.bufMem := by
  unfold State.wakeNow
  split <;> rfl
@[simp] theorem State.wakeNow_engine (s : State) (kind code : Nat) : (s.wakeNow kind code).engine = s.engine := by
  unfold State.wakeNow
  split <;> rfl
@[simp] theorem State.wakeNow_chans (s : State) (kind code : Nat) : (s.wakeNow kind code).chans = s.chans := by
  unfold State.wakeNow
  split <;> rfl
@[simp] theorem State.wakeNow_dmaEng (s : State) (kind code : Nat) : (s.wakeNow kind code).dmaEng = s.dmaEng := by
  unfold State.wakeNow
  split <;> rfl
@[simp] theorem State.wakeNow_router (s : State) (kind code : Nat) : (s.wakeNow kind code).router = s.router := by
  unfold State.wakeNow
  split <;> rfl
@[simp] theorem State.wakeNow_time (s : State) (kind code : Nat) : (s.wakeNow kind code).time = s.time := by
  unfold State.wakeNow
  split <;> rfl
@[simp] theorem State.wakeNow_aon (s : State) (kind code : Nat) : (s.wakeNow kind code).aon = s.aon := by
  unfold State.wakeNow
  split <;> rfl
@[simp] theorem State.wakeNow_fio (s : State) (kind code : Nat) : (s.wakeNow kind code).fio = s.fio := by
  unfold State.wakeNow
  split <;> rfl
@[simp] theorem State.wakeNow_faults (s : State) (kind code : Nat) : (s.wakeNow kind code).faults = s.faults := by
  unfold State.wakeNow
  split <;> rfl
@[simp] theorem State.wakeNow_pace (s : State) (kind code : Nat) : (s.wakeNow kind code).pace = s.pace := by
  unfold State.wakeNow
  split <;> rfl
@[simp] theorem State.wakeNow_fabric (s : State) (kind code : Nat) : (s.wakeNow kind code).fabric = s.fabric := by
  unfold State.wakeNow
  split <;> rfl
@[simp] theorem State.wakeNow_mgmt (s : State) (kind code : Nat) : (s.wakeNow kind code).mgmt = s.mgmt := by
  unfold State.wakeNow
  split <;> rfl
@[simp] theorem State.wakeNow_boot (s : State) (kind code : Nat) : (s.wakeNow kind code).boot = s.boot := by
  unfold State.wakeNow
  split <;> rfl
@[simp] theorem State.wakeNow_feeds (s : State) (kind code : Nat) : (s.wakeNow kind code).feeds = s.feeds := by
  unfold State.wakeNow
  split <;> rfl
@[simp] theorem State.wakeNow_host (s : State) (kind code : Nat) : (s.wakeNow kind code).host = s.host := by
  unfold State.wakeNow
  split <;> rfl
@[simp] theorem State.wakeNow_service (s : State) (kind code : Nat) : (s.wakeNow kind code).service = s.service := by
  unfold State.wakeNow
  split <;> rfl
@[simp] theorem State.wakeNow_dbgBlock (s : State) (kind code : Nat) : (s.wakeNow kind code).dbgBlock = s.dbgBlock := by
  unfold State.wakeNow
  split <;> rfl
@[simp] theorem State.wakeNow_tile (s : State) (kind code : Nat) (k : Nat) : (s.wakeNow kind code).tile k = s.tile k := by
  simp [State.tile]
@[simp] theorem State.wakeNow_queue (s : State) (kind code : Nat) (k : Nat) : (s.wakeNow kind code).queue k = s.queue k := by
  simp [State.queue]
@[simp] theorem State.wakeNow_disp (s : State) (kind code : Nat) (k : Nat) : (s.wakeNow kind code).disp k = s.disp k := by
  simp [State.disp]
@[simp] theorem State.wakeNow_stream (s : State) (kind code : Nat) (k : Nat) : (s.wakeNow kind code).stream k = s.stream k := by
  simp [State.stream]
@[simp] theorem State.wakeNow_chan (s : State) (kind code : Nat) (k : Nat) : (s.wakeNow kind code).chan k = s.chan k := by
  simp [State.chan]
@[simp] theorem State.wakeNow_dmaE (s : State) (kind code : Nat) (k : Nat) : (s.wakeNow kind code).dmaE k = s.dmaE k := by
  simp [State.dmaE]
@[simp] theorem State.wakeNow_src (s : State) (kind code : Nat) (k : Nat) : (s.wakeNow kind code).src k = s.src k := by
  simp [State.src]
@[simp] theorem State.wakeNow_hold (s : State) (kind code : Nat) (k : Nat) : (s.wakeNow kind code).hold k = s.hold k := by
  simp [State.hold]
@[simp] theorem State.wakeNow_alarm (s : State) (kind code : Nat) (k : Nat) : (s.wakeNow kind code).alarm k = s.alarm k := by
  simp [State.alarm]
@[simp] theorem State.wakeNow_pin (s : State) (kind code : Nat) (k : Nat) : (s.wakeNow kind code).pin k = s.pin k := by
  simp [State.pin]
@[simp] theorem State.wakeNow_timer (s : State) (kind code : Nat) (k : Nat) : (s.wakeNow kind code).timer k = s.timer k := by
  simp [State.timer]
@[simp] theorem State.wakeNow_ser (s : State) (kind code : Nat) (k : Nat) : (s.wakeNow kind code).ser k = s.ser k := by
  simp [State.ser]
@[simp] theorem State.wakeNow_bank (s : State) (kind code : Nat) (k : Nat) : (s.wakeNow kind code).bank k = s.bank k := by
  simp [State.bank]
@[simp] theorem State.wakeNow_court (s : State) (kind code : Nat) (k : Nat) : (s.wakeNow kind code).court k = s.court k := by
  simp [State.court]
@[simp] theorem State.wakeNow_mbx (s : State) (kind code : Nat) (k : Nat) : (s.wakeNow kind code).mbx k = s.mbx k := by
  simp [State.mbx]
@[simp] theorem State.wakeNow_port (s : State) (kind code : Nat) (k : Nat) : (s.wakeNow kind code).port k = s.port k := by
  simp [State.port]
@[simp] theorem State.wakeNow_feed (s : State) (kind code : Nat) (k : Nat) : (s.wakeNow kind code).feed k = s.feed k := by
  simp [State.feed]

/-! ### fire -/

@[simp] theorem State.fire_pending (s : State) (n : Nat) : (s.fire n).pending = s.pending := by
  unfold State.fire
  split
  · rfl
  split
  · simp
  split
  · split <;> simp
  rfl
@[simp] theorem State.fire_now (s : State) (n : Nat) : (s.fire n).now = s.now := by
  unfold State.fire
  split
  · rfl
  split
  · simp
  split
  · split <;> simp
  rfl
@[simp] theorem State.fire_wall (s : State) (n : Nat) : (s.fire n).wall = s.wall := by
  unfold State.fire
  split
  · rfl
  split
  · simp
  split
  · split <;> simp
  rfl
@[simp] theorem State.fire_free (s : State) (n : Nat) : (s.fire n).free = s.free := by
  unfold State.fire
  split
  · rfl
  split
  · simp
  split
  · split <;> simp
  rfl
@[simp] theorem State.fire_tiles (s : State) (n : Nat) : (s.fire n).tiles = s.tiles := by
  unfold State.fire
  split
  · rfl
  split
  · simp
  split
  · split <;> simp
  rfl
@[simp] theorem State.fire_gates (s : State) (n : Nat) : (s.fire n).gates = s.gates := by
  unfold State.fire
  split
  · rfl
  split
  · simp
  split
  · split <;> simp
  rfl
@[simp] theorem State.fire_flight (s : State) (n : Nat) : (s.fire n).flight = s.flight := by
  unfold State.fire
  split
  · rfl
  split
  · simp
  split
  · split <;> simp
  rfl
@[simp] theorem State.fire_replies (s : State) (n : Nat) : (s.fire n).replies = s.replies := by
  unfold State.fire
  split
  · rfl
  split
  · simp
  split
  · split <;> simp
  rfl
@[simp] theorem State.fire_queues (s : State) (n : Nat) : (s.fire n).queues = s.queues := by
  unfold State.fire
  split
  · rfl
  split
  · simp
  split
  · split <;> simp
  rfl
@[simp] theorem State.fire_disps (s : State) (n : Nat) : (s.fire n).disps = s.disps := by
  unfold State.fire
  split
  · rfl
  split
  · simp
  split
  · split <;> simp
  rfl
@[simp] theorem State.fire_pool (s : State) (n : Nat) : (s.fire n).pool = s.pool := by
  unfold State.fire
  split
  · rfl
  split
  · simp
  split
  · split <;> simp
  rfl
@[simp] theorem State.fire_bufMem (s : State) (n : Nat) : (s.fire n).bufMem = s.bufMem := by
  unfold State.fire
  split
  · rfl
  split
  · simp
  split
  · split <;> simp
  rfl
@[simp] theorem State.fire_engine (s : State) (n : Nat) : (s.fire n).engine = s.engine := by
  unfold State.fire
  split
  · rfl
  split
  · simp
  split
  · split <;> simp
  rfl
@[simp] theorem State.fire_chans (s : State) (n : Nat) : (s.fire n).chans = s.chans := by
  unfold State.fire
  split
  · rfl
  split
  · simp
  split
  · split <;> simp
  rfl
@[simp] theorem State.fire_dmaEng (s : State) (n : Nat) : (s.fire n).dmaEng = s.dmaEng := by
  unfold State.fire
  split
  · rfl
  split
  · simp
  split
  · split <;> simp
  rfl
@[simp] theorem State.fire_time (s : State) (n : Nat) : (s.fire n).time = s.time := by
  unfold State.fire
  split
  · rfl
  split
  · simp
  split
  · split <;> simp
  rfl
@[simp] theorem State.fire_aon (s : State) (n : Nat) : (s.fire n).aon = s.aon := by
  unfold State.fire
  split
  · rfl
  split
  · simp
  split
  · split <;> simp
  rfl
@[simp] theorem State.fire_fio (s : State) (n : Nat) : (s.fire n).fio = s.fio := by
  unfold State.fire
  split
  · rfl
  split
  · simp
  split
  · split <;> simp
  rfl
@[simp] theorem State.fire_faults (s : State) (n : Nat) : (s.fire n).faults = s.faults := by
  unfold State.fire
  split
  · rfl
  split
  · simp
  split
  · split <;> simp
  rfl
@[simp] theorem State.fire_pace (s : State) (n : Nat) : (s.fire n).pace = s.pace := by
  unfold State.fire
  split
  · rfl
  split
  · simp
  split
  · split <;> simp
  rfl
@[simp] theorem State.fire_fabric (s : State) (n : Nat) : (s.fire n).fabric = s.fabric := by
  unfold State.fire
  split
  · rfl
  split
  · simp
  split
  · split <;> simp
  rfl
@[simp] theorem State.fire_mgmt (s : State) (n : Nat) : (s.fire n).mgmt = s.mgmt := by
  unfold State.fire
  split
  · rfl
  split
  · simp
  split
  · split <;> simp
  rfl
@[simp] theorem State.fire_boot (s : State) (n : Nat) : (s.fire n).boot = s.boot := by
  unfold State.fire
  split
  · rfl
  split
  · simp
  split
  · split <;> simp
  rfl
@[simp] theorem State.fire_feeds (s : State) (n : Nat) : (s.fire n).feeds = s.feeds := by
  unfold State.fire
  split
  · rfl
  split
  · simp
  split
  · split <;> simp
  rfl
@[simp] theorem State.fire_host (s : State) (n : Nat) : (s.fire n).host = s.host := by
  unfold State.fire
  split
  · rfl
  split
  · simp
  split
  · split <;> simp
  rfl
@[simp] theorem State.fire_service (s : State) (n : Nat) : (s.fire n).service = s.service := by
  unfold State.fire
  split
  · rfl
  split
  · simp
  split
  · split <;> simp
  rfl
@[simp] theorem State.fire_tile (s : State) (n : Nat) (k : Nat) : (s.fire n).tile k = s.tile k := by
  simp [State.tile]
@[simp] theorem State.fire_queue (s : State) (n : Nat) (k : Nat) : (s.fire n).queue k = s.queue k := by
  simp [State.queue]
@[simp] theorem State.fire_disp (s : State) (n : Nat) (k : Nat) : (s.fire n).disp k = s.disp k := by
  simp [State.disp]
@[simp] theorem State.fire_stream (s : State) (n : Nat) (k : Nat) : (s.fire n).stream k = s.stream k := by
  simp [State.stream]
@[simp] theorem State.fire_chan (s : State) (n : Nat) (k : Nat) : (s.fire n).chan k = s.chan k := by
  simp [State.chan]
@[simp] theorem State.fire_dmaE (s : State) (n : Nat) (k : Nat) : (s.fire n).dmaE k = s.dmaE k := by
  simp [State.dmaE]
@[simp] theorem State.fire_alarm (s : State) (n : Nat) (k : Nat) : (s.fire n).alarm k = s.alarm k := by
  simp [State.alarm]
@[simp] theorem State.fire_pin (s : State) (n : Nat) (k : Nat) : (s.fire n).pin k = s.pin k := by
  simp [State.pin]
@[simp] theorem State.fire_timer (s : State) (n : Nat) (k : Nat) : (s.fire n).timer k = s.timer k := by
  simp [State.timer]
@[simp] theorem State.fire_ser (s : State) (n : Nat) (k : Nat) : (s.fire n).ser k = s.ser k := by
  simp [State.ser]
@[simp] theorem State.fire_bank (s : State) (n : Nat) (k : Nat) : (s.fire n).bank k = s.bank k := by
  simp [State.bank]
@[simp] theorem State.fire_court (s : State) (n : Nat) (k : Nat) : (s.fire n).court k = s.court k := by
  simp [State.court]
@[simp] theorem State.fire_mbx (s : State) (n : Nat) (k : Nat) : (s.fire n).mbx k = s.mbx k := by
  simp [State.mbx]
@[simp] theorem State.fire_port (s : State) (n : Nat) (k : Nat) : (s.fire n).port k = s.port k := by
  simp [State.port]
@[simp] theorem State.fire_feed (s : State) (n : Nat) (k : Nat) : (s.fire n).feed k = s.feed k := by
  simp [State.feed]

/-! ### fireIf -/

@[simp] theorem State.fireIf_pending (s : State) (c : Bool) (n : Nat) : (s.fireIf c n).pending = s.pending := by
  unfold State.fireIf
  split <;> simp
@[simp] theorem State.fireIf_now (s : State) (c : Bool) (n : Nat) : (s.fireIf c n).now = s.now := by
  unfold State.fireIf
  split <;> simp
@[simp] theorem State.fireIf_wall (s : State) (c : Bool) (n : Nat) : (s.fireIf c n).wall = s.wall := by
  unfold State.fireIf
  split <;> simp
@[simp] theorem State.fireIf_free (s : State) (c : Bool) (n : Nat) : (s.fireIf c n).free = s.free := by
  unfold State.fireIf
  split <;> simp
@[simp] theorem State.fireIf_tiles (s : State) (c : Bool) (n : Nat) : (s.fireIf c n).tiles = s.tiles := by
  unfold State.fireIf
  split <;> simp
@[simp] theorem State.fireIf_gates (s : State) (c : Bool) (n : Nat) : (s.fireIf c n).gates = s.gates := by
  unfold State.fireIf
  split <;> simp
@[simp] theorem State.fireIf_flight (s : State) (c : Bool) (n : Nat) : (s.fireIf c n).flight = s.flight := by
  unfold State.fireIf
  split <;> simp
@[simp] theorem State.fireIf_replies (s : State) (c : Bool) (n : Nat) : (s.fireIf c n).replies = s.replies := by
  unfold State.fireIf
  split <;> simp
@[simp] theorem State.fireIf_queues (s : State) (c : Bool) (n : Nat) : (s.fireIf c n).queues = s.queues := by
  unfold State.fireIf
  split <;> simp
@[simp] theorem State.fireIf_disps (s : State) (c : Bool) (n : Nat) : (s.fireIf c n).disps = s.disps := by
  unfold State.fireIf
  split <;> simp
@[simp] theorem State.fireIf_pool (s : State) (c : Bool) (n : Nat) : (s.fireIf c n).pool = s.pool := by
  unfold State.fireIf
  split <;> simp
@[simp] theorem State.fireIf_bufMem (s : State) (c : Bool) (n : Nat) : (s.fireIf c n).bufMem = s.bufMem := by
  unfold State.fireIf
  split <;> simp
@[simp] theorem State.fireIf_engine (s : State) (c : Bool) (n : Nat) : (s.fireIf c n).engine = s.engine := by
  unfold State.fireIf
  split <;> simp
@[simp] theorem State.fireIf_chans (s : State) (c : Bool) (n : Nat) : (s.fireIf c n).chans = s.chans := by
  unfold State.fireIf
  split <;> simp
@[simp] theorem State.fireIf_dmaEng (s : State) (c : Bool) (n : Nat) : (s.fireIf c n).dmaEng = s.dmaEng := by
  unfold State.fireIf
  split <;> simp
@[simp] theorem State.fireIf_time (s : State) (c : Bool) (n : Nat) : (s.fireIf c n).time = s.time := by
  unfold State.fireIf
  split <;> simp
@[simp] theorem State.fireIf_aon (s : State) (c : Bool) (n : Nat) : (s.fireIf c n).aon = s.aon := by
  unfold State.fireIf
  split <;> simp
@[simp] theorem State.fireIf_fio (s : State) (c : Bool) (n : Nat) : (s.fireIf c n).fio = s.fio := by
  unfold State.fireIf
  split <;> simp
@[simp] theorem State.fireIf_faults (s : State) (c : Bool) (n : Nat) : (s.fireIf c n).faults = s.faults := by
  unfold State.fireIf
  split <;> simp
@[simp] theorem State.fireIf_pace (s : State) (c : Bool) (n : Nat) : (s.fireIf c n).pace = s.pace := by
  unfold State.fireIf
  split <;> simp
@[simp] theorem State.fireIf_fabric (s : State) (c : Bool) (n : Nat) : (s.fireIf c n).fabric = s.fabric := by
  unfold State.fireIf
  split <;> simp
@[simp] theorem State.fireIf_mgmt (s : State) (c : Bool) (n : Nat) : (s.fireIf c n).mgmt = s.mgmt := by
  unfold State.fireIf
  split <;> simp
@[simp] theorem State.fireIf_boot (s : State) (c : Bool) (n : Nat) : (s.fireIf c n).boot = s.boot := by
  unfold State.fireIf
  split <;> simp
@[simp] theorem State.fireIf_feeds (s : State) (c : Bool) (n : Nat) : (s.fireIf c n).feeds = s.feeds := by
  unfold State.fireIf
  split <;> simp
@[simp] theorem State.fireIf_host (s : State) (c : Bool) (n : Nat) : (s.fireIf c n).host = s.host := by
  unfold State.fireIf
  split <;> simp
@[simp] theorem State.fireIf_service (s : State) (c : Bool) (n : Nat) : (s.fireIf c n).service = s.service := by
  unfold State.fireIf
  split <;> simp
@[simp] theorem State.fireIf_tile (s : State) (c : Bool) (n : Nat) (k : Nat) : (s.fireIf c n).tile k = s.tile k := by
  simp [State.tile]
@[simp] theorem State.fireIf_queue (s : State) (c : Bool) (n : Nat) (k : Nat) : (s.fireIf c n).queue k = s.queue k := by
  simp [State.queue]
@[simp] theorem State.fireIf_disp (s : State) (c : Bool) (n : Nat) (k : Nat) : (s.fireIf c n).disp k = s.disp k := by
  simp [State.disp]
@[simp] theorem State.fireIf_stream (s : State) (c : Bool) (n : Nat) (k : Nat) : (s.fireIf c n).stream k = s.stream k := by
  simp [State.stream]
@[simp] theorem State.fireIf_chan (s : State) (c : Bool) (n : Nat) (k : Nat) : (s.fireIf c n).chan k = s.chan k := by
  simp [State.chan]
@[simp] theorem State.fireIf_dmaE (s : State) (c : Bool) (n : Nat) (k : Nat) : (s.fireIf c n).dmaE k = s.dmaE k := by
  simp [State.dmaE]
@[simp] theorem State.fireIf_alarm (s : State) (c : Bool) (n : Nat) (k : Nat) : (s.fireIf c n).alarm k = s.alarm k := by
  simp [State.alarm]
@[simp] theorem State.fireIf_pin (s : State) (c : Bool) (n : Nat) (k : Nat) : (s.fireIf c n).pin k = s.pin k := by
  simp [State.pin]
@[simp] theorem State.fireIf_timer (s : State) (c : Bool) (n : Nat) (k : Nat) : (s.fireIf c n).timer k = s.timer k := by
  simp [State.timer]
@[simp] theorem State.fireIf_ser (s : State) (c : Bool) (n : Nat) (k : Nat) : (s.fireIf c n).ser k = s.ser k := by
  simp [State.ser]
@[simp] theorem State.fireIf_bank (s : State) (c : Bool) (n : Nat) (k : Nat) : (s.fireIf c n).bank k = s.bank k := by
  simp [State.bank]
@[simp] theorem State.fireIf_court (s : State) (c : Bool) (n : Nat) (k : Nat) : (s.fireIf c n).court k = s.court k := by
  simp [State.court]
@[simp] theorem State.fireIf_mbx (s : State) (c : Bool) (n : Nat) (k : Nat) : (s.fireIf c n).mbx k = s.mbx k := by
  simp [State.mbx]
@[simp] theorem State.fireIf_port (s : State) (c : Bool) (n : Nat) (k : Nat) : (s.fireIf c n).port k = s.port k := by
  simp [State.port]
@[simp] theorem State.fireIf_feed (s : State) (c : Bool) (n : Nat) (k : Nat) : (s.fireIf c n).feed k = s.feed k := by
  simp [State.feed]

/-! ### logFault -/

@[simp] theorem State.logFault_pending (s : State) (a b c d e f g : Nat) : (s.logFault a b c d e f g).pending = s.pending := rfl
@[simp] theorem State.logFault_now (s : State) (a b c d e f g : Nat) : (s.logFault a b c d e f g).now = s.now := rfl
@[simp] theorem State.logFault_wall (s : State) (a b c d e f g : Nat) : (s.logFault a b c d e f g).wall = s.wall := rfl
@[simp] theorem State.logFault_free (s : State) (a b c d e f g : Nat) : (s.logFault a b c d e f g).free = s.free := rfl
@[simp] theorem State.logFault_tiles (s : State) (a b c d e f g : Nat) : (s.logFault a b c d e f g).tiles = s.tiles := rfl
@[simp] theorem State.logFault_gates (s : State) (a b c d e f g : Nat) : (s.logFault a b c d e f g).gates = s.gates := rfl
@[simp] theorem State.logFault_flight (s : State) (a b c d e f g : Nat) : (s.logFault a b c d e f g).flight = s.flight := rfl
@[simp] theorem State.logFault_replies (s : State) (a b c d e f g : Nat) : (s.logFault a b c d e f g).replies = s.replies := rfl
@[simp] theorem State.logFault_queues (s : State) (a b c d e f g : Nat) : (s.logFault a b c d e f g).queues = s.queues := rfl
@[simp] theorem State.logFault_disps (s : State) (a b c d e f g : Nat) : (s.logFault a b c d e f g).disps = s.disps := rfl
@[simp] theorem State.logFault_pool (s : State) (a b c d e f g : Nat) : (s.logFault a b c d e f g).pool = s.pool := rfl
@[simp] theorem State.logFault_bufMem (s : State) (a b c d e f g : Nat) : (s.logFault a b c d e f g).bufMem = s.bufMem := rfl
@[simp] theorem State.logFault_engine (s : State) (a b c d e f g : Nat) : (s.logFault a b c d e f g).engine = s.engine := rfl
@[simp] theorem State.logFault_chans (s : State) (a b c d e f g : Nat) : (s.logFault a b c d e f g).chans = s.chans := rfl
@[simp] theorem State.logFault_dmaEng (s : State) (a b c d e f g : Nat) : (s.logFault a b c d e f g).dmaEng = s.dmaEng := rfl
@[simp] theorem State.logFault_router (s : State) (a b c d e f g : Nat) : (s.logFault a b c d e f g).router = s.router := rfl
@[simp] theorem State.logFault_time (s : State) (a b c d e f g : Nat) : (s.logFault a b c d e f g).time = s.time := rfl
@[simp] theorem State.logFault_fio (s : State) (a b c d e f g : Nat) : (s.logFault a b c d e f g).fio = s.fio := rfl
@[simp] theorem State.logFault_faults (s : State) (a b c d e f g : Nat) : (s.logFault a b c d e f g).faults = s.faults := rfl
@[simp] theorem State.logFault_pace (s : State) (a b c d e f g : Nat) : (s.logFault a b c d e f g).pace = s.pace := rfl
@[simp] theorem State.logFault_fabric (s : State) (a b c d e f g : Nat) : (s.logFault a b c d e f g).fabric = s.fabric := rfl
@[simp] theorem State.logFault_mgmt (s : State) (a b c d e f g : Nat) : (s.logFault a b c d e f g).mgmt = s.mgmt := rfl
@[simp] theorem State.logFault_boot (s : State) (a b c d e f g : Nat) : (s.logFault a b c d e f g).boot = s.boot := rfl
@[simp] theorem State.logFault_power (s : State) (a b c d e f g : Nat) : (s.logFault a b c d e f g).power = s.power := rfl
@[simp] theorem State.logFault_feeds (s : State) (a b c d e f g : Nat) : (s.logFault a b c d e f g).feeds = s.feeds := rfl
@[simp] theorem State.logFault_host (s : State) (a b c d e f g : Nat) : (s.logFault a b c d e f g).host = s.host := rfl
@[simp] theorem State.logFault_service (s : State) (a b c d e f g : Nat) : (s.logFault a b c d e f g).service = s.service := rfl
@[simp] theorem State.logFault_dbgBlock (s : State) (a b c d e f g : Nat) : (s.logFault a b c d e f g).dbgBlock = s.dbgBlock := rfl
@[simp] theorem State.logFault_tile (s : State) (a b c d e f g : Nat) (k : Nat) : (s.logFault a b c d e f g).tile k = s.tile k := by
  simp [State.tile]
@[simp] theorem State.logFault_queue (s : State) (a b c d e f g : Nat) (k : Nat) : (s.logFault a b c d e f g).queue k = s.queue k := by
  simp [State.queue]
@[simp] theorem State.logFault_disp (s : State) (a b c d e f g : Nat) (k : Nat) : (s.logFault a b c d e f g).disp k = s.disp k := by
  simp [State.disp]
@[simp] theorem State.logFault_stream (s : State) (a b c d e f g : Nat) (k : Nat) : (s.logFault a b c d e f g).stream k = s.stream k := by
  simp [State.stream]
@[simp] theorem State.logFault_chan (s : State) (a b c d e f g : Nat) (k : Nat) : (s.logFault a b c d e f g).chan k = s.chan k := by
  simp [State.chan]
@[simp] theorem State.logFault_dmaE (s : State) (a b c d e f g : Nat) (k : Nat) : (s.logFault a b c d e f g).dmaE k = s.dmaE k := by
  simp [State.dmaE]
@[simp] theorem State.logFault_src (s : State) (a b c d e f g : Nat) (k : Nat) : (s.logFault a b c d e f g).src k = s.src k := by
  simp [State.src]
@[simp] theorem State.logFault_hold (s : State) (a b c d e f g : Nat) (k : Nat) : (s.logFault a b c d e f g).hold k = s.hold k := by
  simp [State.hold]
@[simp] theorem State.logFault_alarm (s : State) (a b c d e f g : Nat) (k : Nat) : (s.logFault a b c d e f g).alarm k = s.alarm k := by
  simp [State.alarm]
@[simp] theorem State.logFault_pin (s : State) (a b c d e f g : Nat) (k : Nat) : (s.logFault a b c d e f g).pin k = s.pin k := by
  simp [State.pin]
@[simp] theorem State.logFault_timer (s : State) (a b c d e f g : Nat) (k : Nat) : (s.logFault a b c d e f g).timer k = s.timer k := by
  simp [State.timer]
@[simp] theorem State.logFault_ser (s : State) (a b c d e f g : Nat) (k : Nat) : (s.logFault a b c d e f g).ser k = s.ser k := by
  simp [State.ser]
@[simp] theorem State.logFault_bank (s : State) (a b c d e f g : Nat) (k : Nat) : (s.logFault a b c d e f g).bank k = s.bank k := by
  simp [State.bank]
@[simp] theorem State.logFault_court (s : State) (a b c d e f g : Nat) (k : Nat) : (s.logFault a b c d e f g).court k = s.court k := by
  simp [State.court]
@[simp] theorem State.logFault_mbx (s : State) (a b c d e f g : Nat) (k : Nat) : (s.logFault a b c d e f g).mbx k = s.mbx k := by
  simp [State.mbx]
@[simp] theorem State.logFault_port (s : State) (a b c d e f g : Nat) (k : Nat) : (s.logFault a b c d e f g).port k = s.port k := by
  simp [State.port]
@[simp] theorem State.logFault_feed (s : State) (a b c d e f g : Nat) (k : Nat) : (s.logFault a b c d e f g).feed k = s.feed k := by
  simp [State.feed]

/-! ### report -/

@[simp] theorem State.report_pending (s : State) (a b c d e : Nat) : (s.report a b c d e).pending = s.pending := by
  simp [State.report]
@[simp] theorem State.report_now (s : State) (a b c d e : Nat) : (s.report a b c d e).now = s.now := by
  simp [State.report]
@[simp] theorem State.report_wall (s : State) (a b c d e : Nat) : (s.report a b c d e).wall = s.wall := by
  simp [State.report]
@[simp] theorem State.report_free (s : State) (a b c d e : Nat) : (s.report a b c d e).free = s.free := by
  simp [State.report]
@[simp] theorem State.report_tiles (s : State) (a b c d e : Nat) : (s.report a b c d e).tiles = s.tiles := by
  simp [State.report]
@[simp] theorem State.report_gates (s : State) (a b c d e : Nat) : (s.report a b c d e).gates = s.gates := by
  simp [State.report]
@[simp] theorem State.report_flight (s : State) (a b c d e : Nat) : (s.report a b c d e).flight = s.flight := by
  simp [State.report]
@[simp] theorem State.report_replies (s : State) (a b c d e : Nat) : (s.report a b c d e).replies = s.replies := by
  simp [State.report]
@[simp] theorem State.report_queues (s : State) (a b c d e : Nat) : (s.report a b c d e).queues = s.queues := by
  simp [State.report]
@[simp] theorem State.report_disps (s : State) (a b c d e : Nat) : (s.report a b c d e).disps = s.disps := by
  simp [State.report]
@[simp] theorem State.report_pool (s : State) (a b c d e : Nat) : (s.report a b c d e).pool = s.pool := by
  simp [State.report]
@[simp] theorem State.report_bufMem (s : State) (a b c d e : Nat) : (s.report a b c d e).bufMem = s.bufMem := by
  simp [State.report]
@[simp] theorem State.report_engine (s : State) (a b c d e : Nat) : (s.report a b c d e).engine = s.engine := by
  simp [State.report]
@[simp] theorem State.report_chans (s : State) (a b c d e : Nat) : (s.report a b c d e).chans = s.chans := by
  simp [State.report]
@[simp] theorem State.report_dmaEng (s : State) (a b c d e : Nat) : (s.report a b c d e).dmaEng = s.dmaEng := by
  simp [State.report]
@[simp] theorem State.report_time (s : State) (a b c d e : Nat) : (s.report a b c d e).time = s.time := by
  simp [State.report]
@[simp] theorem State.report_fio (s : State) (a b c d e : Nat) : (s.report a b c d e).fio = s.fio := by
  simp [State.report]
@[simp] theorem State.report_faults (s : State) (a b c d e : Nat) : (s.report a b c d e).faults = s.faults := by
  simp [State.report]
@[simp] theorem State.report_pace (s : State) (a b c d e : Nat) : (s.report a b c d e).pace = s.pace := by
  simp [State.report]
@[simp] theorem State.report_fabric (s : State) (a b c d e : Nat) : (s.report a b c d e).fabric = s.fabric := by
  simp [State.report]
@[simp] theorem State.report_mgmt (s : State) (a b c d e : Nat) : (s.report a b c d e).mgmt = s.mgmt := by
  simp [State.report]
@[simp] theorem State.report_boot (s : State) (a b c d e : Nat) : (s.report a b c d e).boot = s.boot := by
  simp [State.report]
@[simp] theorem State.report_feeds (s : State) (a b c d e : Nat) : (s.report a b c d e).feeds = s.feeds := by
  simp [State.report]
@[simp] theorem State.report_host (s : State) (a b c d e : Nat) : (s.report a b c d e).host = s.host := by
  simp [State.report]
@[simp] theorem State.report_service (s : State) (a b c d e : Nat) : (s.report a b c d e).service = s.service := by
  simp [State.report]
@[simp] theorem State.report_tile (s : State) (a b c d e : Nat) (k : Nat) : (s.report a b c d e).tile k = s.tile k := by
  simp [State.tile]
@[simp] theorem State.report_queue (s : State) (a b c d e : Nat) (k : Nat) : (s.report a b c d e).queue k = s.queue k := by
  simp [State.queue]
@[simp] theorem State.report_disp (s : State) (a b c d e : Nat) (k : Nat) : (s.report a b c d e).disp k = s.disp k := by
  simp [State.disp]
@[simp] theorem State.report_stream (s : State) (a b c d e : Nat) (k : Nat) : (s.report a b c d e).stream k = s.stream k := by
  simp [State.stream]
@[simp] theorem State.report_chan (s : State) (a b c d e : Nat) (k : Nat) : (s.report a b c d e).chan k = s.chan k := by
  simp [State.chan]
@[simp] theorem State.report_dmaE (s : State) (a b c d e : Nat) (k : Nat) : (s.report a b c d e).dmaE k = s.dmaE k := by
  simp [State.dmaE]
@[simp] theorem State.report_alarm (s : State) (a b c d e : Nat) (k : Nat) : (s.report a b c d e).alarm k = s.alarm k := by
  simp [State.alarm]
@[simp] theorem State.report_pin (s : State) (a b c d e : Nat) (k : Nat) : (s.report a b c d e).pin k = s.pin k := by
  simp [State.pin]
@[simp] theorem State.report_timer (s : State) (a b c d e : Nat) (k : Nat) : (s.report a b c d e).timer k = s.timer k := by
  simp [State.timer]
@[simp] theorem State.report_ser (s : State) (a b c d e : Nat) (k : Nat) : (s.report a b c d e).ser k = s.ser k := by
  simp [State.ser]
@[simp] theorem State.report_bank (s : State) (a b c d e : Nat) (k : Nat) : (s.report a b c d e).bank k = s.bank k := by
  simp [State.bank]
@[simp] theorem State.report_court (s : State) (a b c d e : Nat) (k : Nat) : (s.report a b c d e).court k = s.court k := by
  simp [State.court]
@[simp] theorem State.report_mbx (s : State) (a b c d e : Nat) (k : Nat) : (s.report a b c d e).mbx k = s.mbx k := by
  simp [State.mbx]
@[simp] theorem State.report_port (s : State) (a b c d e : Nat) (k : Nat) : (s.report a b c d e).port k = s.port k := by
  simp [State.port]
@[simp] theorem State.report_feed (s : State) (a b c d e : Nat) (k : Nat) : (s.report a b c d e).feed k = s.feed k := by
  simp [State.feed]

/-! ### trace -/

@[simp] theorem State.trace_pending (s : State) (a b : Nat) (l : List Byte) : (s.trace a b l).pending = s.pending := by
  unfold State.trace
  split
  · rfl
  dsimp only
  (repeat' split) <;> simp
@[simp] theorem State.trace_now (s : State) (a b : Nat) (l : List Byte) : (s.trace a b l).now = s.now := by
  unfold State.trace
  split
  · rfl
  dsimp only
  (repeat' split) <;> simp
@[simp] theorem State.trace_wall (s : State) (a b : Nat) (l : List Byte) : (s.trace a b l).wall = s.wall := by
  unfold State.trace
  split
  · rfl
  dsimp only
  (repeat' split) <;> simp
@[simp] theorem State.trace_free (s : State) (a b : Nat) (l : List Byte) : (s.trace a b l).free = s.free := by
  unfold State.trace
  split
  · rfl
  dsimp only
  (repeat' split) <;> simp
@[simp] theorem State.trace_tiles (s : State) (a b : Nat) (l : List Byte) : (s.trace a b l).tiles = s.tiles := by
  unfold State.trace
  split
  · rfl
  dsimp only
  (repeat' split) <;> simp
@[simp] theorem State.trace_gates (s : State) (a b : Nat) (l : List Byte) : (s.trace a b l).gates = s.gates := by
  unfold State.trace
  split
  · rfl
  dsimp only
  (repeat' split) <;> simp
@[simp] theorem State.trace_flight (s : State) (a b : Nat) (l : List Byte) : (s.trace a b l).flight = s.flight := by
  unfold State.trace
  split
  · rfl
  dsimp only
  (repeat' split) <;> simp
@[simp] theorem State.trace_replies (s : State) (a b : Nat) (l : List Byte) : (s.trace a b l).replies = s.replies := by
  unfold State.trace
  split
  · rfl
  dsimp only
  (repeat' split) <;> simp
@[simp] theorem State.trace_queues (s : State) (a b : Nat) (l : List Byte) : (s.trace a b l).queues = s.queues := by
  unfold State.trace
  split
  · rfl
  dsimp only
  (repeat' split) <;> simp
@[simp] theorem State.trace_disps (s : State) (a b : Nat) (l : List Byte) : (s.trace a b l).disps = s.disps := by
  unfold State.trace
  split
  · rfl
  dsimp only
  (repeat' split) <;> simp
@[simp] theorem State.trace_pool (s : State) (a b : Nat) (l : List Byte) : (s.trace a b l).pool = s.pool := by
  unfold State.trace
  split
  · rfl
  dsimp only
  (repeat' split) <;> simp
@[simp] theorem State.trace_bufMem (s : State) (a b : Nat) (l : List Byte) : (s.trace a b l).bufMem = s.bufMem := by
  unfold State.trace
  split
  · rfl
  dsimp only
  (repeat' split) <;> simp
@[simp] theorem State.trace_engine (s : State) (a b : Nat) (l : List Byte) : (s.trace a b l).engine = s.engine := by
  unfold State.trace
  split
  · rfl
  dsimp only
  (repeat' split) <;> simp
@[simp] theorem State.trace_chans (s : State) (a b : Nat) (l : List Byte) : (s.trace a b l).chans = s.chans := by
  unfold State.trace
  split
  · rfl
  dsimp only
  (repeat' split) <;> simp
@[simp] theorem State.trace_dmaEng (s : State) (a b : Nat) (l : List Byte) : (s.trace a b l).dmaEng = s.dmaEng := by
  unfold State.trace
  split
  · rfl
  dsimp only
  (repeat' split) <;> simp
@[simp] theorem State.trace_time (s : State) (a b : Nat) (l : List Byte) : (s.trace a b l).time = s.time := by
  unfold State.trace
  split
  · rfl
  dsimp only
  (repeat' split) <;> simp
@[simp] theorem State.trace_aon (s : State) (a b : Nat) (l : List Byte) : (s.trace a b l).aon = s.aon := by
  unfold State.trace
  split
  · rfl
  dsimp only
  (repeat' split) <;> simp
@[simp] theorem State.trace_fio (s : State) (a b : Nat) (l : List Byte) : (s.trace a b l).fio = s.fio := by
  unfold State.trace
  split
  · rfl
  dsimp only
  (repeat' split) <;> simp
@[simp] theorem State.trace_faults (s : State) (a b : Nat) (l : List Byte) : (s.trace a b l).faults = s.faults := by
  unfold State.trace
  split
  · rfl
  dsimp only
  (repeat' split) <;> simp
@[simp] theorem State.trace_pace (s : State) (a b : Nat) (l : List Byte) : (s.trace a b l).pace = s.pace := by
  unfold State.trace
  split
  · rfl
  dsimp only
  (repeat' split) <;> simp
@[simp] theorem State.trace_fabric (s : State) (a b : Nat) (l : List Byte) : (s.trace a b l).fabric = s.fabric := by
  unfold State.trace
  split
  · rfl
  dsimp only
  (repeat' split) <;> simp
@[simp] theorem State.trace_mgmt (s : State) (a b : Nat) (l : List Byte) : (s.trace a b l).mgmt = s.mgmt := by
  unfold State.trace
  split
  · rfl
  dsimp only
  (repeat' split) <;> simp
@[simp] theorem State.trace_boot (s : State) (a b : Nat) (l : List Byte) : (s.trace a b l).boot = s.boot := by
  unfold State.trace
  split
  · rfl
  dsimp only
  (repeat' split) <;> simp
@[simp] theorem State.trace_feeds (s : State) (a b : Nat) (l : List Byte) : (s.trace a b l).feeds = s.feeds := by
  unfold State.trace
  split
  · rfl
  dsimp only
  (repeat' split) <;> simp
@[simp] theorem State.trace_host (s : State) (a b : Nat) (l : List Byte) : (s.trace a b l).host = s.host := by
  unfold State.trace
  split
  · rfl
  dsimp only
  (repeat' split) <;> simp
@[simp] theorem State.trace_service (s : State) (a b : Nat) (l : List Byte) : (s.trace a b l).service = s.service := by
  unfold State.trace
  split
  · rfl
  dsimp only
  (repeat' split) <;> simp
@[simp] theorem State.trace_tile (s : State) (a b : Nat) (l : List Byte) (k : Nat) : (s.trace a b l).tile k = s.tile k := by
  simp [State.tile]
@[simp] theorem State.trace_queue (s : State) (a b : Nat) (l : List Byte) (k : Nat) : (s.trace a b l).queue k = s.queue k := by
  simp [State.queue]
@[simp] theorem State.trace_disp (s : State) (a b : Nat) (l : List Byte) (k : Nat) : (s.trace a b l).disp k = s.disp k := by
  simp [State.disp]
@[simp] theorem State.trace_stream (s : State) (a b : Nat) (l : List Byte) (k : Nat) : (s.trace a b l).stream k = s.stream k := by
  simp [State.stream]
@[simp] theorem State.trace_chan (s : State) (a b : Nat) (l : List Byte) (k : Nat) : (s.trace a b l).chan k = s.chan k := by
  simp [State.chan]
@[simp] theorem State.trace_dmaE (s : State) (a b : Nat) (l : List Byte) (k : Nat) : (s.trace a b l).dmaE k = s.dmaE k := by
  simp [State.dmaE]
@[simp] theorem State.trace_alarm (s : State) (a b : Nat) (l : List Byte) (k : Nat) : (s.trace a b l).alarm k = s.alarm k := by
  simp [State.alarm]
@[simp] theorem State.trace_pin (s : State) (a b : Nat) (l : List Byte) (k : Nat) : (s.trace a b l).pin k = s.pin k := by
  simp [State.pin]
@[simp] theorem State.trace_timer (s : State) (a b : Nat) (l : List Byte) (k : Nat) : (s.trace a b l).timer k = s.timer k := by
  simp [State.timer]
@[simp] theorem State.trace_ser (s : State) (a b : Nat) (l : List Byte) (k : Nat) : (s.trace a b l).ser k = s.ser k := by
  simp [State.ser]
@[simp] theorem State.trace_bank (s : State) (a b : Nat) (l : List Byte) (k : Nat) : (s.trace a b l).bank k = s.bank k := by
  simp [State.bank]
@[simp] theorem State.trace_court (s : State) (a b : Nat) (l : List Byte) (k : Nat) : (s.trace a b l).court k = s.court k := by
  simp [State.court]
@[simp] theorem State.trace_mbx (s : State) (a b : Nat) (l : List Byte) (k : Nat) : (s.trace a b l).mbx k = s.mbx k := by
  simp [State.mbx]
@[simp] theorem State.trace_port (s : State) (a b : Nat) (l : List Byte) (k : Nat) : (s.trace a b l).port k = s.port k := by
  simp [State.port]
@[simp] theorem State.trace_feed (s : State) (a b : Nat) (l : List Byte) (k : Nat) : (s.trace a b l).feed k = s.feed k := by
  simp [State.feed]

/-! ### setLine -/

@[simp] theorem State.setLine_pending (s : State) (p l : Nat) : (s.setLine p l).pending = s.pending := rfl
@[simp] theorem State.setLine_now (s : State) (p l : Nat) : (s.setLine p l).now = s.now := rfl
@[simp] theorem State.setLine_wall (s : State) (p l : Nat) : (s.setLine p l).wall = s.wall := rfl
@[simp] theorem State.setLine_free (s : State) (p l : Nat) : (s.setLine p l).free = s.free := rfl
@[simp] theorem State.setLine_gates (s : State) (p l : Nat) : (s.setLine p l).gates = s.gates := rfl
@[simp] theorem State.setLine_flight (s : State) (p l : Nat) : (s.setLine p l).flight = s.flight := rfl
@[simp] theorem State.setLine_replies (s : State) (p l : Nat) : (s.setLine p l).replies = s.replies := rfl
@[simp] theorem State.setLine_queues (s : State) (p l : Nat) : (s.setLine p l).queues = s.queues := rfl
@[simp] theorem State.setLine_disps (s : State) (p l : Nat) : (s.setLine p l).disps = s.disps := rfl
@[simp] theorem State.setLine_pool (s : State) (p l : Nat) : (s.setLine p l).pool = s.pool := rfl
@[simp] theorem State.setLine_bufMem (s : State) (p l : Nat) : (s.setLine p l).bufMem = s.bufMem := rfl
@[simp] theorem State.setLine_engine (s : State) (p l : Nat) : (s.setLine p l).engine = s.engine := rfl
@[simp] theorem State.setLine_chans (s : State) (p l : Nat) : (s.setLine p l).chans = s.chans := rfl
@[simp] theorem State.setLine_dmaEng (s : State) (p l : Nat) : (s.setLine p l).dmaEng = s.dmaEng := rfl
@[simp] theorem State.setLine_router (s : State) (p l : Nat) : (s.setLine p l).router = s.router := rfl
@[simp] theorem State.setLine_time (s : State) (p l : Nat) : (s.setLine p l).time = s.time := rfl
@[simp] theorem State.setLine_aon (s : State) (p l : Nat) : (s.setLine p l).aon = s.aon := rfl
@[simp] theorem State.setLine_fio (s : State) (p l : Nat) : (s.setLine p l).fio = s.fio := rfl
@[simp] theorem State.setLine_faults (s : State) (p l : Nat) : (s.setLine p l).faults = s.faults := rfl
@[simp] theorem State.setLine_pace (s : State) (p l : Nat) : (s.setLine p l).pace = s.pace := rfl
@[simp] theorem State.setLine_fabric (s : State) (p l : Nat) : (s.setLine p l).fabric = s.fabric := rfl
@[simp] theorem State.setLine_mgmt (s : State) (p l : Nat) : (s.setLine p l).mgmt = s.mgmt := rfl
@[simp] theorem State.setLine_boot (s : State) (p l : Nat) : (s.setLine p l).boot = s.boot := rfl
@[simp] theorem State.setLine_power (s : State) (p l : Nat) : (s.setLine p l).power = s.power := rfl
@[simp] theorem State.setLine_feeds (s : State) (p l : Nat) : (s.setLine p l).feeds = s.feeds := rfl
@[simp] theorem State.setLine_host (s : State) (p l : Nat) : (s.setLine p l).host = s.host := rfl
@[simp] theorem State.setLine_service (s : State) (p l : Nat) : (s.setLine p l).service = s.service := rfl
@[simp] theorem State.setLine_dbgBlock (s : State) (p l : Nat) : (s.setLine p l).dbgBlock = s.dbgBlock := rfl
@[simp] theorem State.setLine_queue (s : State) (p l : Nat) (k : Nat) : (s.setLine p l).queue k = s.queue k := by
  simp [State.queue]
@[simp] theorem State.setLine_disp (s : State) (p l : Nat) (k : Nat) : (s.setLine p l).disp k = s.disp k := by
  simp [State.disp]
@[simp] theorem State.setLine_stream (s : State) (p l : Nat) (k : Nat) : (s.setLine p l).stream k = s.stream k := by
  simp [State.stream]
@[simp] theorem State.setLine_chan (s : State) (p l : Nat) (k : Nat) : (s.setLine p l).chan k = s.chan k := by
  simp [State.chan]
@[simp] theorem State.setLine_dmaE (s : State) (p l : Nat) (k : Nat) : (s.setLine p l).dmaE k = s.dmaE k := by
  simp [State.dmaE]
@[simp] theorem State.setLine_src (s : State) (p l : Nat) (k : Nat) : (s.setLine p l).src k = s.src k := by
  simp [State.src]
@[simp] theorem State.setLine_hold (s : State) (p l : Nat) (k : Nat) : (s.setLine p l).hold k = s.hold k := by
  simp [State.hold]
@[simp] theorem State.setLine_alarm (s : State) (p l : Nat) (k : Nat) : (s.setLine p l).alarm k = s.alarm k := by
  simp [State.alarm]
@[simp] theorem State.setLine_pin (s : State) (p l : Nat) (k : Nat) : (s.setLine p l).pin k = s.pin k := by
  simp [State.pin]
@[simp] theorem State.setLine_timer (s : State) (p l : Nat) (k : Nat) : (s.setLine p l).timer k = s.timer k := by
  simp [State.timer]
@[simp] theorem State.setLine_ser (s : State) (p l : Nat) (k : Nat) : (s.setLine p l).ser k = s.ser k := by
  simp [State.ser]
@[simp] theorem State.setLine_bank (s : State) (p l : Nat) (k : Nat) : (s.setLine p l).bank k = s.bank k := by
  simp [State.bank]
@[simp] theorem State.setLine_court (s : State) (p l : Nat) (k : Nat) : (s.setLine p l).court k = s.court k := by
  simp [State.court]
@[simp] theorem State.setLine_mbx (s : State) (p l : Nat) (k : Nat) : (s.setLine p l).mbx k = s.mbx k := by
  simp [State.mbx]
@[simp] theorem State.setLine_port (s : State) (p l : Nat) (k : Nat) : (s.setLine p l).port k = s.port k := by
  simp [State.port]
@[simp] theorem State.setLine_feed (s : State) (p l : Nat) (k : Nat) : (s.setLine p l).feed k = s.feed k := by
  simp [State.feed]

/-! ### setLineL -/

@[simp] theorem State.setLineL_pending (s : State) (t l : Nat) : (s.setLineL t l).pending = s.pending := by
  unfold State.setLineL
  split
  · rfl
  dsimp only
  split <;> rfl
@[simp] theorem State.setLineL_now (s : State) (t l : Nat) : (s.setLineL t l).now = s.now := by
  unfold State.setLineL
  split
  · rfl
  dsimp only
  split <;> rfl
@[simp] theorem State.setLineL_wall (s : State) (t l : Nat) : (s.setLineL t l).wall = s.wall := by
  unfold State.setLineL
  split
  · rfl
  dsimp only
  split <;> rfl
@[simp] theorem State.setLineL_free (s : State) (t l : Nat) : (s.setLineL t l).free = s.free := by
  unfold State.setLineL
  split
  · rfl
  dsimp only
  split <;> rfl
@[simp] theorem State.setLineL_gates (s : State) (t l : Nat) : (s.setLineL t l).gates = s.gates := by
  unfold State.setLineL
  split
  · rfl
  dsimp only
  split <;> rfl
@[simp] theorem State.setLineL_flight (s : State) (t l : Nat) : (s.setLineL t l).flight = s.flight := by
  unfold State.setLineL
  split
  · rfl
  dsimp only
  split <;> rfl
@[simp] theorem State.setLineL_replies (s : State) (t l : Nat) : (s.setLineL t l).replies = s.replies := by
  unfold State.setLineL
  split
  · rfl
  dsimp only
  split <;> rfl
@[simp] theorem State.setLineL_queues (s : State) (t l : Nat) : (s.setLineL t l).queues = s.queues := by
  unfold State.setLineL
  split
  · rfl
  dsimp only
  split <;> rfl
@[simp] theorem State.setLineL_disps (s : State) (t l : Nat) : (s.setLineL t l).disps = s.disps := by
  unfold State.setLineL
  split
  · rfl
  dsimp only
  split <;> rfl
@[simp] theorem State.setLineL_pool (s : State) (t l : Nat) : (s.setLineL t l).pool = s.pool := by
  unfold State.setLineL
  split
  · rfl
  dsimp only
  split <;> rfl
@[simp] theorem State.setLineL_bufMem (s : State) (t l : Nat) : (s.setLineL t l).bufMem = s.bufMem := by
  unfold State.setLineL
  split
  · rfl
  dsimp only
  split <;> rfl
@[simp] theorem State.setLineL_engine (s : State) (t l : Nat) : (s.setLineL t l).engine = s.engine := by
  unfold State.setLineL
  split
  · rfl
  dsimp only
  split <;> rfl
@[simp] theorem State.setLineL_chans (s : State) (t l : Nat) : (s.setLineL t l).chans = s.chans := by
  unfold State.setLineL
  split
  · rfl
  dsimp only
  split <;> rfl
@[simp] theorem State.setLineL_dmaEng (s : State) (t l : Nat) : (s.setLineL t l).dmaEng = s.dmaEng := by
  unfold State.setLineL
  split
  · rfl
  dsimp only
  split <;> rfl
@[simp] theorem State.setLineL_router (s : State) (t l : Nat) : (s.setLineL t l).router = s.router := by
  unfold State.setLineL
  split
  · rfl
  dsimp only
  split <;> rfl
@[simp] theorem State.setLineL_time (s : State) (t l : Nat) : (s.setLineL t l).time = s.time := by
  unfold State.setLineL
  split
  · rfl
  dsimp only
  split <;> rfl
@[simp] theorem State.setLineL_aon (s : State) (t l : Nat) : (s.setLineL t l).aon = s.aon := by
  unfold State.setLineL
  split
  · rfl
  dsimp only
  split <;> rfl
@[simp] theorem State.setLineL_fio (s : State) (t l : Nat) : (s.setLineL t l).fio = s.fio := by
  unfold State.setLineL
  split
  · rfl
  dsimp only
  split <;> rfl
@[simp] theorem State.setLineL_faults (s : State) (t l : Nat) : (s.setLineL t l).faults = s.faults := by
  unfold State.setLineL
  split
  · rfl
  dsimp only
  split <;> rfl
@[simp] theorem State.setLineL_pace (s : State) (t l : Nat) : (s.setLineL t l).pace = s.pace := by
  unfold State.setLineL
  split
  · rfl
  dsimp only
  split <;> rfl
@[simp] theorem State.setLineL_fabric (s : State) (t l : Nat) : (s.setLineL t l).fabric = s.fabric := by
  unfold State.setLineL
  split
  · rfl
  dsimp only
  split <;> rfl
@[simp] theorem State.setLineL_mgmt (s : State) (t l : Nat) : (s.setLineL t l).mgmt = s.mgmt := by
  unfold State.setLineL
  split
  · rfl
  dsimp only
  split <;> rfl
@[simp] theorem State.setLineL_boot (s : State) (t l : Nat) : (s.setLineL t l).boot = s.boot := by
  unfold State.setLineL
  split
  · rfl
  dsimp only
  split <;> rfl
@[simp] theorem State.setLineL_power (s : State) (t l : Nat) : (s.setLineL t l).power = s.power := by
  unfold State.setLineL
  split
  · rfl
  dsimp only
  split <;> rfl
@[simp] theorem State.setLineL_feeds (s : State) (t l : Nat) : (s.setLineL t l).feeds = s.feeds := by
  unfold State.setLineL
  split
  · rfl
  dsimp only
  split <;> rfl
@[simp] theorem State.setLineL_host (s : State) (t l : Nat) : (s.setLineL t l).host = s.host := by
  unfold State.setLineL
  split
  · rfl
  dsimp only
  split <;> rfl
@[simp] theorem State.setLineL_service (s : State) (t l : Nat) : (s.setLineL t l).service = s.service := by
  unfold State.setLineL
  split
  · rfl
  dsimp only
  split <;> rfl
@[simp] theorem State.setLineL_dbgBlock (s : State) (t l : Nat) : (s.setLineL t l).dbgBlock = s.dbgBlock := by
  unfold State.setLineL
  split
  · rfl
  dsimp only
  split <;> rfl
@[simp] theorem State.setLineL_queue (s : State) (t l : Nat) (k : Nat) : (s.setLineL t l).queue k = s.queue k := by
  simp [State.queue]
@[simp] theorem State.setLineL_disp (s : State) (t l : Nat) (k : Nat) : (s.setLineL t l).disp k = s.disp k := by
  simp [State.disp]
@[simp] theorem State.setLineL_stream (s : State) (t l : Nat) (k : Nat) : (s.setLineL t l).stream k = s.stream k := by
  simp [State.stream]
@[simp] theorem State.setLineL_chan (s : State) (t l : Nat) (k : Nat) : (s.setLineL t l).chan k = s.chan k := by
  simp [State.chan]
@[simp] theorem State.setLineL_dmaE (s : State) (t l : Nat) (k : Nat) : (s.setLineL t l).dmaE k = s.dmaE k := by
  simp [State.dmaE]
@[simp] theorem State.setLineL_src (s : State) (t l : Nat) (k : Nat) : (s.setLineL t l).src k = s.src k := by
  simp [State.src]
@[simp] theorem State.setLineL_hold (s : State) (t l : Nat) (k : Nat) : (s.setLineL t l).hold k = s.hold k := by
  simp [State.hold]
@[simp] theorem State.setLineL_alarm (s : State) (t l : Nat) (k : Nat) : (s.setLineL t l).alarm k = s.alarm k := by
  simp [State.alarm]
@[simp] theorem State.setLineL_pin (s : State) (t l : Nat) (k : Nat) : (s.setLineL t l).pin k = s.pin k := by
  simp [State.pin]
@[simp] theorem State.setLineL_timer (s : State) (t l : Nat) (k : Nat) : (s.setLineL t l).timer k = s.timer k := by
  simp [State.timer]
@[simp] theorem State.setLineL_ser (s : State) (t l : Nat) (k : Nat) : (s.setLineL t l).ser k = s.ser k := by
  simp [State.ser]
@[simp] theorem State.setLineL_bank (s : State) (t l : Nat) (k : Nat) : (s.setLineL t l).bank k = s.bank k := by
  simp [State.bank]
@[simp] theorem State.setLineL_court (s : State) (t l : Nat) (k : Nat) : (s.setLineL t l).court k = s.court k := by
  simp [State.court]
@[simp] theorem State.setLineL_mbx (s : State) (t l : Nat) (k : Nat) : (s.setLineL t l).mbx k = s.mbx k := by
  simp [State.mbx]
@[simp] theorem State.setLineL_port (s : State) (t l : Nat) (k : Nat) : (s.setLineL t l).port k = s.port k := by
  simp [State.port]
@[simp] theorem State.setLineL_feed (s : State) (t l : Nat) (k : Nat) : (s.setLineL t l).feed k = s.feed k := by
  simp [State.feed]

/-! ### What a firing does (R257, R258) -/

theorem State.fireRun_src_self (s : State) (n : Nat) : (s.fireRun n).src n = (s.src n).fire := by
  unfold State.fireRun
  dsimp only
  split <;> simp

theorem State.fireRun_src_ne (s : State) {n m : Nat} (h : m ≠ n) : (s.fireRun n).src m = s.src m := by
  unfold State.fireRun
  dsimp only
  split
  · rw [State.askFrost_src, State.setSrc_src_ne _ _ h]
  · exact State.setSrc_src_ne _ _ h

theorem State.fire_run {s : State} (h : s.power.st = .run) {n : Nat} (hr : reservedSource n = false) :
    s.fire n = s.fireRun n := by
  simp [State.fire, h, hr]

theorem State.fire_reserved (s : State) {n : Nat} (hr : reservedSource n = true) : s.fire n = s := by
  simp [State.fire, hr]

theorem State.fire_src_self {s : State} (h : s.power.st = .run) {n : Nat} (hr : reservedSource n = false) :
    (s.fire n).src n = (s.src n).fire := by
  rw [State.fire_run h hr, State.fireRun_src_self]

theorem State.fire_src_ne {s : State} (h : s.power.st = .run) {n m : Nat} (hn : m ≠ n) :
    (s.fire n).src m = s.src m := by
  cases hr : reservedSource n
  · rw [State.fire_run h hr, State.fireRun_src_ne _ hn]
  · rw [State.fire_reserved _ hr]

theorem State.fire_power {s : State} (h : s.power.st = .run) (n : Nat) : (s.fire n).power = s.power := by
  cases hr : reservedSource n
  · rw [State.fire_run h hr]
    unfold State.fireRun
    dsimp only
    split <;> simp
  · rw [State.fire_reserved _ hr]

theorem State.fire_hold {s : State} (h : s.power.st = .run) (n g : Nat) : (s.fire n).hold g = s.hold g := by
  cases hr : reservedSource n
  · rw [State.fire_run h hr]
    unfold State.fireRun
    dsimp only
    split <;> simp
  · rw [State.fire_reserved _ hr]

end Sys2Proof.Machine
end

