-- ==== Sys2Proof/Laws/PerInstr.lean ====
section
/-! SUPPORT. Statements for every command, one lemma per constructor. -/

/-- A command that bytes of a tile spell names units that exist. -/
def Sys2Proof.Laws.Encodable.Statement : Sys2Proof.Instr → Prop :=
  fun c => ∀ t : Nat, t < 1088 → c.encodable t = true → c.wf = true

namespace Sys2Proof.Laws.Encodable

set_option Elab.async false

theorem ofEq {q t : Nat} (ht : t < 1088) (h : (q == t) = true) : isTile q = true := by
  rw [eq_of_beq h]
  exact decide_eq_true ht

theorem ofAnd {q t : Nat} {a : Bool} (ht : t < 1088) (h : (q == t && a) = true) : isTile q = true :=
  ofEq ht ((Bool.and_eq_true _ _ ▸ h).1)

theorem ofAnd2 {q t : Nat} {a b : Bool} (ht : t < 1088) (h : (q == t && a && b) = true) : isTile q = true :=
  ofAnd ht ((Bool.and_eq_true _ _ ▸ h).1)

theorem ofAnd3 {q t : Nat} {a b c : Bool} (ht : t < 1088) (h : (q == t && a && b && c) = true) : isTile q = true :=
  ofAnd2 ht ((Bool.and_eq_true _ _ ▸ h).1)

theorem mov (p : Nat) (f : MovForm) : Statement (.mov p f) :=
  fun _ ht h => match f, h with
    | .copy _ _ _, h => ofEq ht h
theorem add (p : Nat) (x : Pfx) (d s : Fin 16) : Statement (.add p x d s) := fun _ ht h => ofEq ht h
theorem adc (p : Nat) (x : Pfx) (d s : Fin 16) : Statement (.adc p x d s) := fun _ ht h => ofEq ht h
theorem sub (p : Nat) (x : Pfx) (d s : Fin 16) : Statement (.sub p x d s) := fun _ ht h => ofEq ht h
theorem sbc (p : Nat) (x : Pfx) (d s : Fin 16) : Statement (.sbc p x d s) := fun _ ht h => ofEq ht h
theorem and (p : Nat) (x : Pfx) (d s : Fin 16) : Statement (.and p x d s) := fun _ ht h => ofEq ht h
theorem or (p : Nat) (x : Pfx) (d s : Fin 16) : Statement (.or p x d s) := fun _ ht h => ofEq ht h
theorem xor (p : Nat) (x : Pfx) (d s : Fin 16) : Statement (.xor p x d s) := fun _ ht h => ofEq ht h
theorem mul (p : Nat) (x : Pfx) (d s : Fin 16) : Statement (.mul p x d s) := fun _ ht h => ofAnd ht h
theorem muls (p : Nat) (x : Pfx) (d s : Fin 16) : Statement (.muls p x d s) := fun _ ht h => ofAnd ht h
theorem not (p : Nat) (x : Pfx) (d : Fin 16) : Statement (.not p x d) := fun _ ht h => ofEq ht h
theorem neg (p : Nat) (x : Pfx) (d : Fin 16) : Statement (.neg p x d) := fun _ ht h => ofEq ht h
theorem inc (p : Nat) (x : Pfx) (d : Fin 16) : Statement (.inc p x d) := fun _ ht h => ofEq ht h
theorem dec (p : Nat) (x : Pfx) (d : Fin 16) : Statement (.dec p x d) := fun _ ht h => ofEq ht h
theorem swap (p : Nat) (x : Pfx) (d : Fin 16) : Statement (.swap p x d) := fun _ ht h => ofEq ht h
theorem movp (p : Nat) (x : Pfx) (pd ps : Fin 8) : Statement (.movp p x pd ps) := fun _ ht h => ofAnd ht h
theorem movpw (p : Nat) (x : Pfx) (pd : Fin 8) (s : Fin 16) : Statement (.movpw p x pd s) := fun _ ht h => ofAnd ht h
theorem movwp (p : Nat) (x : Pfx) (d : Fin 16) (ps : Fin 8) : Statement (.movwp p x d ps) := fun _ ht h => ofAnd ht h
theorem addpw (p : Nat) (x : Pfx) (pd : Fin 8) (s : Fin 16) : Statement (.addpw p x pd s) := fun _ ht h => ofAnd ht h
theorem addpb (p : Nat) (x : Pfx) (pd : Fin 8) (s : Fin 16) : Statement (.addpb p x pd s) := fun _ ht h => ofAnd ht h
theorem movi (p : Nat) (x : Pfx) (d : Fin 16) (imm : W16) : Statement (.movi p x d imm) := fun _ ht h => ofAnd ht h
theorem addi (p : Nat) (x : Pfx) (d : Fin 16) (imm : W16) : Statement (.addi p x d imm) := fun _ ht h => ofAnd ht h
theorem movip (p : Nat) (x : Pfx) (pd : Fin 8) (imm : W16) : Statement (.movip p x pd imm) := fun _ ht h => ofAnd ht h
theorem addip (p : Nat) (x : Pfx) (pd : Fin 8) (simm : Byte) : Statement (.addip p x pd simm) :=
  fun _ ht h => ofAnd ht h
theorem subi (p : Nat) (x : Pfx) (d : Fin 16) (imm : W16) : Statement (.subi p x d imm) := fun _ ht h => ofAnd ht h
theorem adci (p : Nat) (x : Pfx) (d : Fin 16) (imm : W16) : Statement (.adci p x d imm) := fun _ ht h => ofAnd ht h
theorem sbci (p : Nat) (x : Pfx) (d : Fin 16) (imm : W16) : Statement (.sbci p x d imm) := fun _ ht h => ofAnd ht h
theorem andi (p : Nat) (x : Pfx) (d : Fin 16) (imm : W16) : Statement (.andi p x d imm) := fun _ ht h => ofAnd ht h
theorem ori (p : Nat) (x : Pfx) (d : Fin 16) (imm : W16) : Statement (.ori p x d imm) := fun _ ht h => ofAnd ht h
theorem xori (p : Nat) (x : Pfx) (d : Fin 16) (imm : W16) : Statement (.xori p x d imm) := fun _ ht h => ofAnd ht h
theorem shl (p : Nat) (x : Pfx) (d c : Fin 16) : Statement (.shl p x d c) := fun _ ht h => ofEq ht h
theorem shr (p : Nat) (x : Pfx) (d c : Fin 16) : Statement (.shr p x d c) := fun _ ht h => ofEq ht h
theorem asr (p : Nat) (x : Pfx) (d c : Fin 16) : Statement (.asr p x d c) := fun _ ht h => ofEq ht h
theorem rol (p : Nat) (x : Pfx) (d c : Fin 16) : Statement (.rol p x d c) := fun _ ht h => ofEq ht h
theorem ror (p : Nat) (x : Pfx) (d c : Fin 16) : Statement (.ror p x d c) := fun _ ht h => ofEq ht h
theorem rlc (p : Nat) (x : Pfx) (d c : Fin 16) : Statement (.rlc p x d c) := fun _ ht h => ofEq ht h
theorem rrc (p : Nat) (x : Pfx) (d c : Fin 16) : Statement (.rrc p x d c) := fun _ ht h => ofEq ht h
theorem ld (p : Nat) (x : Pfx) (r : Fin 16) (b : Fin 8) (disp : W16) : Statement (.ld p x r b disp) :=
  fun _ ht h => ofAnd ht h
theorem st (p : Nat) (x : Pfx) (r : Fin 16) (b : Fin 8) (disp : W16) : Statement (.st p x r b disp) :=
  fun _ ht h => ofAnd ht h
theorem ldw (p : Nat) (x : Pfx) (r : Fin 16) (b : Fin 8) (disp : W16) : Statement (.ldw p x r b disp) :=
  fun _ ht h => ofAnd ht h
theorem stw (p : Nat) (x : Pfx) (r : Fin 16) (b : Fin 8) (disp : W16) : Statement (.stw p x r b disp) :=
  fun _ ht h => ofAnd ht h
theorem ldp (p : Nat) (x : Pfx) (r b : Fin 8) (disp : W16) : Statement (.ldp p x r b disp) := fun _ ht h => ofAnd ht h
theorem stp (p : Nat) (x : Pfx) (r b : Fin 8) (disp : W16) : Statement (.stp p x r b disp) := fun _ ht h => ofAnd ht h
theorem lea (p : Nat) (x : Pfx) (r b : Fin 8) (disp : W16) : Statement (.lea p x r b disp) := fun _ ht h => ofAnd ht h
theorem jmp (p : Nat) (x : Pfx) (target : W16) : Statement (.jmp p x target) := fun _ ht h => ofAnd ht h
theorem call (p : Nat) (x : Pfx) (target : W16) : Statement (.call p x target) := fun _ ht h => ofAnd ht h
theorem ret (p : Nat) (x : Pfx) : Statement (.ret p x) := fun _ ht h => ofAnd ht h
theorem bra (p : Nat) (x : Pfx) (rel : W16) : Statement (.bra p x rel) := fun _ ht h => ofAnd ht h
theorem jmpp (p : Nat) (x : Pfx) (b : Fin 8) : Statement (.jmpp p x b) := fun _ ht h => ofAnd ht h
theorem callp (p : Nat) (x : Pfx) (b : Fin 8) : Statement (.callp p x b) := fun _ ht h => ofAnd ht h
theorem djnz (p : Nat) (x : Pfx) (d : Fin 16) (rel : Byte) : Statement (.djnz p x d rel) := fun _ ht h => ofEq ht h
theorem bcc (p : Nat) (x : Pfx) (c : Fin 8) (rel : W16) : Statement (.bcc p x c rel) := fun _ ht h => ofAnd ht h
theorem nop (p : Nat) (x : Pfx) : Statement (.nop p x) := fun _ ht h => ofAnd ht h
theorem cmpg (p : Nat) (x : Pfx) (c : Fin 8) (d s : Fin 16) (g : Fin 8) : Statement (.cmpg p x c d s g) :=
  fun _ ht h => ofEq ht h
theorem cmpgi (p : Nat) (x : Pfx) (c : Fin 8) (d : Fin 16) (g : Fin 8) (imm : W16)
    : Statement (.cmpgi p x c d g imm) :=
  fun _ ht h => ofAnd ht h
theorem dadd (p : Nat) (x : Pfx) (d s : Fin 16) : Statement (.dadd p x d s) := fun _ ht h => ofEq ht h
theorem dsub (p : Nat) (x : Pfx) (d s : Fin 16) : Statement (.dsub p x d s) := fun _ ht h => ofEq ht h
theorem dadj (p : Nat) (x : Pfx) (d : Fin 16) (m : Bool) : Statement (.dadj p x d m) := fun _ ht h => ofAnd ht h
theorem dshl (p : Nat) (x : Pfx) (d s : Fin 16) : Statement (.dshl p x d s) := fun _ ht h => ofAnd ht h
theorem dshr (p : Nat) (x : Pfx) (d s : Fin 16) : Statement (.dshr p x d s) := fun _ ht h => ofAnd ht h
theorem b2d (p : Nat) (x : Pfx) (d s : Fin 16) : Statement (.b2d p x d s) := fun _ ht h => ofAnd ht h
theorem d2b (p : Nat) (x : Pfx) (d s : Fin 16) : Statement (.d2b p x d s) := fun _ ht h => ofAnd ht h
theorem bset (p : Nat) (x : Pfx) (d : Fin 16) (b : Fin 8) : Statement (.bset p x d b) := fun _ ht h => ofAnd ht h
theorem bclr (p : Nat) (x : Pfx) (d : Fin 16) (b : Fin 8) : Statement (.bclr p x d b) := fun _ ht h => ofAnd ht h
theorem btgl (p : Nat) (x : Pfx) (d : Fin 16) (b : Fin 8) : Statement (.btgl p x d b) := fun _ ht h => ofAnd ht h
theorem btst (p : Nat) (x : Pfx) (d : Fin 16) (b : Fin 8) (inv : Bool) (g : Fin 8)
    : Statement (.btst p x d b inv g) :=
  fun _ ht h => ofAnd ht h
theorem gand (p : Nat) (x : Pfx) (g a b : Fin 8) (inv : Bool) : Statement (.gand p x g a b inv) :=
  fun _ ht h => ofAnd ht h
theorem gor (p : Nat) (x : Pfx) (g a b : Fin 8) (inv : Bool) : Statement (.gor p x g a b inv) :=
  fun _ ht h => ofAnd ht h
theorem gxor (p : Nat) (x : Pfx) (g a b : Fin 8) (inv : Bool) : Statement (.gxor p x g a b inv) :=
  fun _ ht h => ofAnd ht h
theorem gmov (p : Nat) (x : Pfx) (g a : Fin 8) : Statement (.gmov p x g a) := fun _ ht h => ofAnd ht h
theorem gtod (p : Nat) (x : Pfx) (d : Fin 16) : Statement (.gtod p x d) := fun _ ht h => ofAnd ht h
theorem dtog (p : Nat) (x : Pfx) (s : Fin 16) : Statement (.dtog p x s) := fun _ ht h => ofAnd ht h
theorem send (p : Nat) (x : Pfx) (b g : Fin 8) : Statement (.send p x b g) := fun _ ht h => ofAnd ht h
theorem qpush (p : Nat) (x : Pfx) (d : Fin 16) (q : W16) (g : Fin 8) (r : Reply) : Statement (.qpush p x d q g r) :=
  fun _ ht h => ofAnd2 ht h
theorem qpop (p : Nat) (x : Pfx) (d : Fin 16) (q : W16) (g : Fin 8) (r : Reply) : Statement (.qpop p x d q g r) :=
  fun _ ht h => ofAnd2 ht h
theorem time (p : Nat) (x : Pfx) (b g : Fin 8) (r : Reply) : Statement (.time p x b g r) := fun _ ht h => ofAnd2 ht h
theorem stim (p : Nat) (x : Pfx) (port : Fin 32) (d : Fin 16) (n : Fin 8) : Statement (.stim p x port d n) :=
  fun _ ht h => ofAnd ht h
theorem sleep (p : Nat) (x : Pfx) : Statement (.sleep p x) := fun _ ht h => ofAnd ht h
theorem tready (p : Nat) (x : Pfx) (d : Fin 16) (g : Fin 8) (r : Reply) : Statement (.tready p x d g r) :=
  fun _ ht h => ofAnd2 ht h
theorem tcancel (p : Nat) (x : Pfx) (d : Fin 16) (g : Fin 8) (r : Reply) : Statement (.tcancel p x d g r) :=
  fun _ ht h => ofAnd2 ht h
theorem tdone (p : Nat) (x : Pfx) (r : Reply) : Statement (.tdone p x r) := fun _ ht h => ofAnd2 ht h
theorem gets (p : Nat) (x : Pfx) (d : Fin 16) (sys : Byte) : Statement (.gets p x d sys) := fun _ ht h => ofAnd ht h
theorem sets (p : Nat) (x : Pfx) (s : Fin 16) (sys : Byte) : Statement (.sets p x s sys) := fun _ ht h => ofAnd ht h
theorem rete (p : Nat) (x : Pfx) : Statement (.rete p x) := fun _ ht h => ofAnd ht h
theorem trap (p : Nat) (x : Pfx) (imm : Byte) : Statement (.trap p x imm) := fun _ ht h => ofAnd ht h
theorem fence (p : Nat) (x : Pfx) : Statement (.fence p x) := fun _ ht h => ofAnd ht h
theorem customInstruction (p : Nat) (x : Pfx) (c : CustomRun) : Statement (.customInstruction p x c) :=
  fun _ ht h => ofAnd3 ht h
theorem eventEntry (p : Nat) : Statement (.eventEntry p) := fun _ _ h => (Bool.false_ne_true h).elim
theorem tileWake (p : Nat) : Statement (.tileWake p) := fun _ _ h => (Bool.false_ne_true h).elim
theorem paceCompareMatch (p : Nat) : Statement (.paceCompareMatch p) := fun _ _ h => (Bool.false_ne_true h).elim
theorem sysPcnt0 (p : Nat) (x : Pfx) (d : Fin 16) : Statement (.sysPcnt0 p x d) :=
  fun _ _ h => (Bool.false_ne_true h).elim
theorem sysDtdat2 (p : Nat) (x : Pfx) (s : Fin 16) : Statement (.sysDtdat2 p x s) :=
  fun _ _ h => (Bool.false_ne_true h).elim
theorem sysDtcmt (p : Nat) (x : Pfx) (s : Fin 16) : Statement (.sysDtcmt p x s) :=
  fun _ _ h => (Bool.false_ne_true h).elim
theorem sysRxsize (p : Nat) (x : Pfx) (baseHi : Bool) (s : Fin 16) : Statement (.sysRxsize p x baseHi s) :=
  fun _ _ h => (Bool.false_ne_true h).elim
theorem write (m : Msg) : Statement (.write m) := fun _ _ h => (Bool.false_ne_true h).elim
theorem read (m : Msg) : Statement (.read m) := fun _ _ h => (Bool.false_ne_true h).elim
theorem writeFixed (m : Msg) : Statement (.writeFixed m) := fun _ _ h => (Bool.false_ne_true h).elim
theorem msg (m : Msg) : Statement (.msg m) := fun _ _ h => (Bool.false_ne_true h).elim
theorem event (m : Msg) : Statement (.event m) := fun _ _ h => (Bool.false_ne_true h).elim
theorem done (r : Resp) : Statement (.done r) := fun _ _ h => (Bool.false_ne_true h).elim
theorem retry (r : Resp) : Statement (.retry r) := fun _ _ h => (Bool.false_ne_true h).elim
theorem error (r : Resp) : Statement (.error r) := fun _ _ h => (Bool.false_ne_true h).elim
theorem abandon (m : Msg) (arrived : Nat) : Statement (.abandon m arrived) := fun _ _ h => (Bool.false_ne_true h).elim
theorem sendCompletion (p tag : Nat) : Statement (.sendCompletion p tag) := fun _ _ h => (Bool.false_ne_true h).elim
theorem queuePush (q : Nat) (entry : W32) (by_ : PushBy) : Statement (.queuePush q entry by_) :=
  fun _ _ h => (Bool.false_ne_true h).elim
theorem queuePop (q : Nat) (by_ : AskBy) : Statement (.queuePop q by_) := fun _ _ h => (Bool.false_ne_true h).elim
theorem flush (master q : Nat) : Statement (.flush master q) := fun _ _ h => (Bool.false_ne_true h).elim
theorem queueTailExpiry (q : Nat) : Statement (.queueTailExpiry q) := fun _ _ h => (Bool.false_ne_true h).elim
theorem dispReady (c slot : Nat) (by_ : ReadyBy) : Statement (.dispReady c slot by_) :=
  fun _ _ h => (Bool.false_ne_true h).elim
theorem dispCancel (c slot : Nat) (by_ : AskBy) (withReady : Bool) : Statement (.dispCancel c slot by_ withReady) :=
  fun _ _ h => (Bool.false_ne_true h).elim
theorem dispTdone (c phys opnum : Nat) : Statement (.dispTdone c phys opnum) :=
  fun _ _ h => (Bool.false_ne_true h).elim
theorem dispatch (c : Nat) : Statement (.dispatch c) := fun _ _ h => (Bool.false_ne_true h).elim
theorem cancelLimitExpiry (c slot : Nat) : Statement (.cancelLimitExpiry c slot) :=
  fun _ _ h => (Bool.false_ne_true h).elim
theorem poolTake (by_ : AskBy) : Statement (.poolTake by_) := fun _ _ h => (Bool.false_ne_true h).elim
theorem poolGive (master : Nat) (v : W32) : Statement (.poolGive master v) := fun _ _ h => (Bool.false_ne_true h).elim
theorem poolFree (master : Nat) (v : W32) : Statement (.poolFree master v) := fun _ _ h => (Bool.false_ne_true h).elim
theorem engReturn (master : Nat) (v : W32) : Statement (.engReturn master v) :=
  fun _ _ h => (Bool.false_ne_true h).elim
theorem frameHandoff (f : Nat) : Statement (.frameHandoff f) := fun _ _ h => (Bool.false_ne_true h).elim
theorem lineTimeout (s : Nat) : Statement (.lineTimeout s) := fun _ _ h => (Bool.false_ne_true h).elim
theorem lineProcess (s : Nat) : Statement (.lineProcess s) := fun _ _ h => (Bool.false_ne_true h).elim
theorem flushUsExpiry (s kind : Nat) : Statement (.flushUsExpiry s kind) := fun _ _ h => (Bool.false_ne_true h).elim
theorem strmCmd (master s : Nat) (v : W32) : Statement (.strmCmd master s v) :=
  fun _ _ h => (Bool.false_ne_true h).elim
theorem enginePoolRetry : Statement (.enginePoolRetry) := fun _ _ h => (Bool.false_ne_true h).elim
theorem enginePushAccepted (q : Nat) : Statement (.enginePushAccepted q) := fun _ _ h => (Bool.false_ne_true h).elim
theorem modelMemoryWrite (master addr : Nat) (data : List Byte) : Statement (.modelMemoryWrite master addr data) :=
  fun _ _ h => (Bool.false_ne_true h).elim
theorem streamDrained (s : Nat) : Statement (.streamDrained s) := fun _ _ h => (Bool.false_ne_true h).elim
theorem dmaRun (master ch : Nat) (v : W32) : Statement (.dmaRun master ch v) :=
  fun _ _ h => (Bool.false_ne_true h).elim
theorem dmaStop (master ch : Nat) (v : W32) : Statement (.dmaStop master ch v) :=
  fun _ _ h => (Bool.false_ne_true h).elim
theorem dmaStopComplete (ch : Nat) : Statement (.dmaStopComplete ch) := fun _ _ h => (Bool.false_ne_true h).elim
theorem dmaReset (master ch : Nat) : Statement (.dmaReset master ch) := fun _ _ h => (Bool.false_ne_true h).elim
theorem dmaBeat (e : Nat) : Statement (.dmaBeat e) := fun _ _ h => (Bool.false_ne_true h).elim
theorem dmaDescriptorComplete (ch : Nat) : Statement (.dmaDescriptorComplete ch) :=
  fun _ _ h => (Bool.false_ne_true h).elim
theorem eventFiring (n : Nat) : Statement (.eventFiring n) := fun _ _ h => (Bool.false_ne_true h).elim
theorem deliveryStart (n : Nat) : Statement (.deliveryStart n) := fun _ _ h => (Bool.false_ne_true h).elim
theorem deliveryConfirm (n : Nat) : Statement (.deliveryConfirm n) := fun _ _ h => (Bool.false_ne_true h).elim
theorem deliveryResend (n : Nat) : Statement (.deliveryResend n) := fun _ _ h => (Bool.false_ne_true h).elim
theorem deliveryTimeout (n : Nat) : Statement (.deliveryTimeout n) := fun _ _ h => (Bool.false_ne_true h).elim
theorem holdIntervalEnd (g : Nat) : Statement (.holdIntervalEnd g) := fun _ _ h => (Bool.false_ne_true h).elim
theorem evrTgt (master n : Nat) (v : W32) : Statement (.evrTgt master n v) := fun _ _ h => (Bool.false_ne_true h).elim
theorem evrFired (master w : Nat) (v : W32) : Statement (.evrFired master w v) :=
  fun _ _ h => (Bool.false_ne_true h).elim
theorem evrHold (master g : Nat) (v : W32) : Statement (.evrHold master g v) :=
  fun _ _ h => (Bool.false_ne_true h).elim
theorem secondTick : Statement (.secondTick) := fun _ _ h => (Bool.false_ne_true h).elim
theorem timeNs (master size : Nat) : Statement (.timeNs master size) := fun _ _ h => (Bool.false_ne_true h).elim
theorem timeAonLo (master lag : Nat) : Statement (.timeAonLo master lag) := fun _ _ h => (Bool.false_ne_true h).elim
theorem timeCommitAbsolute (master : Nat) : Statement (.timeCommitAbsolute master) :=
  fun _ _ h => (Bool.false_ne_true h).elim
theorem timeCommitRelative (master : Nat) : Statement (.timeCommitRelative master) :=
  fun _ _ h => (Bool.false_ne_true h).elim
theorem commitApply : Statement (.commitApply) := fun _ _ h => (Bool.false_ne_true h).elim
theorem timeRate (master : Nat) (v : W32) : Statement (.timeRate master v) := fun _ _ h => (Bool.false_ne_true h).elim
theorem slewEnd : Statement (.slewEnd) := fun _ _ h => (Bool.false_ne_true h).elim
theorem alarmFire (k : Nat) : Statement (.alarmFire k) := fun _ _ h => (Bool.false_ne_true h).elim
theorem arm (master k : Nat) (v : W32) : Statement (.arm master k v) := fun _ _ h => (Bool.false_ne_true h).elim
theorem releaseAlarm (master k : Nat) : Statement (.releaseAlarm master k) := fun _ _ h => (Bool.false_ne_true h).elim
theorem aonCalibration (measured : Nat) : Statement (.aonCalibration measured) :=
  fun _ _ h => (Bool.false_ne_true h).elim
theorem relock : Statement (.relock) := fun _ _ h => (Bool.false_ne_true h).elim
theorem syncLost : Statement (.syncLost) := fun _ _ h => (Bool.false_ne_true h).elim
theorem pinInputChange (n mv : Nat) : Statement (.pinInputChange n mv) := fun _ _ h => (Bool.false_ne_true h).elim
theorem deglitchExpiry (n : Nat) : Statement (.deglitchExpiry n) := fun _ _ h => (Bool.false_ne_true h).elim
theorem pinCfg (master n : Nat) (v : W32) : Statement (.pinCfg master n v) := fun _ _ h => (Bool.false_ne_true h).elim
theorem pinSet (master w : Nat) (v : W32) : Statement (.pinSet master w v) := fun _ _ h => (Bool.false_ne_true h).elim
theorem pinClr (master w : Nat) (v : W32) : Statement (.pinClr master w v) := fun _ _ h => (Bool.false_ne_true h).elim
theorem vioLoss (b mv : Nat) : Statement (.vioLoss b mv) := fun _ _ h => (Bool.false_ne_true h).elim
theorem timerBoundary (n : Nat) : Statement (.timerBoundary n) := fun _ _ h => (Bool.false_ne_true h).elim
theorem timerCompareMatch (n : Nat) : Statement (.timerCompareMatch n) := fun _ _ h => (Bool.false_ne_true h).elim
theorem chainedAction (n : Nat) : Statement (.chainedAction n) := fun _ _ h => (Bool.false_ne_true h).elim
theorem timerCapture (n : Nat) : Statement (.timerCapture n) := fun _ _ h => (Bool.false_ne_true h).elim
theorem tmrShadowWrite (master n : Nat) (reg : Fin 3) (v : W32) : Statement (.tmrShadowWrite master n reg v) :=
  fun _ _ h => (Bool.false_ne_true h).elim
theorem tmrCnt (master n : Nat) (v : W32) : Statement (.tmrCnt master n v) := fun _ _ h => (Bool.false_ne_true h).elim
theorem tmrCtl (master n : Nat) (v : W32) : Statement (.tmrCtl master n v) := fun _ _ h => (Bool.false_ne_true h).elim
theorem serTx (master e : Nat) (v : W32) : Statement (.serTx master e v) := fun _ _ h => (Bool.false_ne_true h).elim
theorem serRx (by_ : AskBy) (e : Nat) : Statement (.serRx by_ e) := fun _ _ h => (Bool.false_ne_true h).elim
theorem serCtl (master e : Nat) (v : W32) : Statement (.serCtl master e v) := fun _ _ h => (Bool.false_ne_true h).elim
theorem serialUnitDone (e : Nat) (u : SerUnit) : Statement (.serialUnitDone e u) :=
  fun _ _ h => (Bool.false_ne_true h).elim
theorem lineJudgeStall (u : StallUnit) : Statement (.lineJudgeStall u) := fun _ _ h => (Bool.false_ne_true h).elim
theorem responseTimeout (by_ : Requester) (tag : Nat) : Statement (.responseTimeout by_ tag) :=
  fun _ _ h => (Bool.false_ne_true h).elim
theorem invalidCode (u : StallUnit) : Statement (.invalidCode u) := fun _ _ h => (Bool.false_ne_true h).elim
theorem scrubVisit (m : ScrubMem) (word : Nat) (single : Bool) : Statement (.scrubVisit m word single) :=
  fun _ _ h => (Bool.false_ne_true h).elim
theorem refereeOutvote (k : Fin 3) : Statement (.refereeOutvote k) := fun _ _ h => (Bool.false_ne_true h).elim
theorem lockstepMismatch : Statement (.lockstepMismatch) := fun _ _ h => (Bool.false_ne_true h).elim
theorem refereeMajorityLoss : Statement (.refereeMajorityLoss) := fun _ _ h => (Bool.false_ne_true h).elim
theorem supplyOutOfRange (r : Rail) : Statement (.supplyOutOfRange r) := fun _ _ h => (Bool.false_ne_true h).elim
theorem referenceClockLoss : Statement (.referenceClockLoss) := fun _ _ h => (Bool.false_ne_true h).elim
theorem temperatureRead (readings : List Int) : Statement (.temperatureRead readings) :=
  fun _ _ h => (Bool.false_ne_true h).elim
theorem tileSubstitution (t : Nat) (copyBad : Bool) : Statement (.tileSubstitution t copyBad) :=
  fun _ _ h => (Bool.false_ne_true h).elim
theorem courtSubstitution (c : Nat) : Statement (.courtSubstitution c) := fun _ _ h => (Bool.false_ne_true h).elim
theorem duplexPromotion (t : Nat) : Statement (.duplexPromotion t) := fun _ _ h => (Bool.false_ne_true h).elim
theorem coldStart (c : ColdStart) :
    Statement (.coldStart c) := fun _ _ h => (Bool.false_ne_true h).elim
theorem deviceRestart :
    Statement (.deviceRestart) := fun _ _ h => (Bool.false_ne_true h).elim
theorem managementRestart (c : Restart MgmtCause) : Statement (.managementRestart c) :=
  fun _ _ h => (Bool.false_ne_true h).elim
theorem courtRestart (c : CourtRestart) : Statement (.courtRestart c) :=
  fun _ _ h => (Bool.false_ne_true h).elim
theorem tileRestart (p : Restart Nat) : Statement (.tileRestart p) :=
  fun _ _ h => (Bool.false_ne_true h).elim
theorem paceLoop (readings : List Nat) : Statement (.paceLoop readings) := fun _ _ h => (Bool.false_ne_true h).elim
theorem paceAlarm (c : Nat) : Statement (.paceAlarm c) := fun _ _ h => (Bool.false_ne_true h).elim
theorem powerEstimate (mw : Nat) : Statement (.powerEstimate mw) := fun _ _ h => (Bool.false_ne_true h).elim
theorem courtPark (c : Nat) : Statement (.courtPark c) := fun _ _ h => (Bool.false_ne_true h).elim
theorem pmbusPoll (ok : Poll) (vout iout temp : Nat) : Statement (.pmbusPoll ok vout iout temp) :=
  fun _ _ h => (Bool.false_ne_true h).elim
theorem pmbAlertN (fault : Bool) : Statement (.pmbAlertN fault) := fun _ _ h => (Bool.false_ne_true h).elim
theorem regulatorRetry (ok : Bool) : Statement (.regulatorRetry ok) := fun _ _ h => (Bool.false_ne_true h).elim
theorem placementRefresh (busy : List Nat) : Statement (.placementRefresh busy) :=
  fun _ _ h => (Bool.false_ne_true h).elim
theorem islandWake (inv : Nat) : Statement (.islandWake inv) := fun _ _ h => (Bool.false_ne_true h).elim
theorem portUp (p : Nat) (h : Heartbeat) : Statement (.portUp p h) := fun _ _ h => (Bool.false_ne_true h).elim
theorem laneLoss (p : Nat) (lane : Fin 2) : Statement (.laneLoss p lane) := fun _ _ h => (Bool.false_ne_true h).elim
theorem laneRestore (p : Nat) : Statement (.laneRestore p) := fun _ _ h => (Bool.false_ne_true h).elim
theorem req (p : Nat) (k : Packet) : Statement (.req p k) := fun _ _ h => (Bool.false_ne_true h).elim
theorem rsp (p : Nat) (k : Packet) : Statement (.rsp p k) := fun _ _ h => (Bool.false_ne_true h).elim
theorem beacon (p : Nat) (k : Packet) (residence : Nat) : Statement (.beacon p k residence) :=
  fun _ _ h => (Bool.false_ne_true h).elim
theorem link (p : Nat) (k : LinkPkt) : Statement (.link p k) := fun _ _ h => (Bool.false_ne_true h).elim
theorem heartbeat (p : Nat) (h : Heartbeat) : Statement (.heartbeat p h) := fun _ _ h => (Bool.false_ne_true h).elim
theorem replayTimeout (p : Nat) : Statement (.replayTimeout p) := fun _ _ h => (Bool.false_ne_true h).elim
theorem replayLimit (p : Nat) : Statement (.replayLimit p) := fun _ _ h => (Bool.false_ne_true h).elim
theorem heartbeatSend : Statement (.heartbeatSend) := fun _ _ h => (Bool.false_ne_true h).elim
theorem neighbourSilent (p : Nat) : Statement (.neighbourSilent p) := fun _ _ h => (Bool.false_ne_true h).elim
theorem statusSend : Statement (.statusSend) := fun _ _ h => (Bool.false_ne_true h).elim
theorem status (a : MemberIn) (number : Nat) :
    Statement (.status a number) := fun _ _ h => (Bool.false_ne_true h).elim
theorem confirm (a : MemberIn) (number cap epoch noticeSeq : Nat) :
    Statement (.confirm a number cap epoch noticeSeq) := fun _ _ h => (Bool.false_ne_true h).elim
theorem redirect (a : MemberIn) (captain : Nat) :
    Statement (.redirect a captain) := fun _ _ h => (Bool.false_ne_true h).elim
theorem notice (a : MemberIn) (seq : Nat) (b : NoticeSays) :
    Statement (.notice a seq b) := fun _ _ h => (Bool.false_ne_true h).elim
theorem sentOff (a : MemberIn) :
    Statement (.sentOff a) := fun _ _ h => (Bool.false_ne_true h).elim
theorem takeover (a : TakeoverIn) :
    Statement (.takeover a) := fun _ _ h => (Bool.false_ne_true h).elim
theorem membershipUnconfirmed : Statement (.membershipUnconfirmed) := fun _ _ h => (Bool.false_ne_true h).elim
theorem candidateMove : Statement (.candidateMove) := fun _ _ h => (Bool.false_ne_true h).elim
theorem captainQuorumLoss : Statement (.captainQuorumLoss) := fun _ _ h => (Bool.false_ne_true h).elim
theorem fabricSubstitution (d : Nat) (standby : Option (Nat × List Nat))
    : Statement (.fabricSubstitution d standby) :=
  fun _ _ h => (Bool.false_ne_true h).elim
theorem beaconSend : Statement (.beaconSend) := fun _ _ h => (Bool.false_ne_true h).elim
theorem delayExchange (p : Nat) (t1 t2 t3 t4 : Int) : Statement (.delayExchange p t1 t2 t3 t4) :=
  fun _ _ h => (Bool.false_ne_true h).elim
theorem linkWakeRequest (p : Nat) : Statement (.linkWakeRequest p) := fun _ _ h => (Bool.false_ne_true h).elim
theorem mbxDoorbell (master dev m : Nat) (v : W32) : Statement (.mbxDoorbell master dev m v) :=
  fun _ _ h => (Bool.false_ne_true h).elim
theorem mbxAbort (master dev m : Nat) : Statement (.mbxAbort master dev m) := fun _ _ h => (Bool.false_ne_true h).elim
theorem mbxTake (by_ : AskBy) (dev m : Nat) : Statement (.mbxTake by_ dev m) :=
  fun _ _ h => (Bool.false_ne_true h).elim
theorem mbxGive (master dev m : Nat) : Statement (.mbxGive master dev m) := fun _ _ h => (Bool.false_ne_true h).elim
theorem holderExpiry (m : Nat) : Statement (.holderExpiry m) := fun _ _ h => (Bool.false_ne_true h).elim
theorem commandTake (m : Nat) : Statement (.commandTake m) := fun _ _ h => (Bool.false_ne_true h).elim
theorem deadlineExpiry (m : Nat) : Statement (.deadlineExpiry m) := fun _ _ h => (Bool.false_ne_true h).elim
theorem hwAborted (m : Nat) : Statement (.hwAborted m) := fun _ _ h => (Bool.false_ne_true h).elim
theorem getIdentity (m : Nat) : Statement (.getIdentity m) := fun _ _ h => (Bool.false_ne_true h).elim
theorem getCapabilities (m : Nat) : Statement (.getCapabilities m) := fun _ _ h => (Bool.false_ne_true h).elim
theorem echo (m : Nat) : Statement (.echo m) := fun _ _ h => (Bool.false_ne_true h).elim
theorem abort (m : Nat) : Statement (.abort m) := fun _ _ h => (Bool.false_ne_true h).elim
theorem loadTileImage (m : Nat) : Statement (.loadTileImage m) := fun _ _ h => (Bool.false_ne_true h).elim
theorem startTile (m : Nat) : Statement (.startTile m) := fun _ _ h => (Bool.false_ne_true h).elim
theorem stopTile (m : Nat) : Statement (.stopTile m) := fun _ _ h => (Bool.false_ne_true h).elim
theorem setPaceTarget (m : Nat) : Statement (.setPaceTarget m) := fun _ _ h => (Bool.false_ne_true h).elim
theorem setPowerCap (m : Nat) : Statement (.setPowerCap m) := fun _ _ h => (Bool.false_ne_true h).elim
theorem loadDecodeTable (m : Nat) : Statement (.loadDecodeTable m) := fun _ _ h => (Bool.false_ne_true h).elim
theorem claim (m : Nat) : Statement (.claim m) := fun _ _ h => (Bool.false_ne_true h).elim
theorem release (m : Nat) : Statement (.release m) := fun _ _ h => (Bool.false_ne_true h).elim
theorem queryOwner (m : Nat) : Statement (.queryOwner m) := fun _ _ h => (Bool.false_ne_true h).elim
theorem grantWindowOpen (m : Nat) : Statement (.grantWindowOpen m) := fun _ _ h => (Bool.false_ne_true h).elim
theorem grantWindowClose (m : Nat) : Statement (.grantWindowClose m) := fun _ _ h => (Bool.false_ne_true h).elim
theorem updateBegin (m : Nat) (fuseOk : Bool) : Statement (.updateBegin m fuseOk) :=
  fun _ _ h => (Bool.false_ne_true h).elim
theorem updateChunk (m : Nat) : Statement (.updateChunk m) := fun _ _ h => (Bool.false_ne_true h).elim
theorem updateVerify (m : Nat) : Statement (.updateVerify m) := fun _ _ h => (Bool.false_ne_true h).elim
theorem updateActivate (m : Nat) : Statement (.updateActivate m) := fun _ _ h => (Bool.false_ne_true h).elim
theorem updateConfirm (m : Nat) : Statement (.updateConfirm m) := fun _ _ h => (Bool.false_ne_true h).elim
theorem updateStatus (m : Nat) : Statement (.updateStatus m) := fun _ _ h => (Bool.false_ne_true h).elim
theorem updateCancel (m : Nat) : Statement (.updateCancel m) := fun _ _ h => (Bool.false_ne_true h).elim
theorem calReadFactory (m : Nat) : Statement (.calReadFactory m) := fun _ _ h => (Bool.false_ne_true h).elim
theorem calWriteUser (m : Nat) : Statement (.calWriteUser m) := fun _ _ h => (Bool.false_ne_true h).elim
theorem calApply (m : Nat) : Statement (.calApply m) := fun _ _ h => (Bool.false_ne_true h).elim
theorem calRevert (m : Nat) : Statement (.calRevert m) := fun _ _ h => (Bool.false_ne_true h).elim
theorem calRecordWrite : Statement (.calRecordWrite) := fun _ _ h => (Bool.false_ne_true h).elim
theorem faultLogRead (m : Nat) : Statement (.faultLogRead m) := fun _ _ h => (Bool.false_ne_true h).elim
theorem substituteTile (m : Nat) (copyBad : Bool) : Statement (.substituteTile m copyBad) :=
  fun _ _ h => (Bool.false_ne_true h).elim
theorem readmitTile (m : Nat) (pass : Bool) : Statement (.readmitTile m pass) :=
  fun _ _ h => (Bool.false_ne_true h).elim
theorem setDuplex (m : Nat) : Statement (.setDuplex m) := fun _ _ h => (Bool.false_ne_true h).elim
theorem sendOff (m : Nat) : Statement (.sendOff m) := fun _ _ h => (Bool.false_ne_true h).elim
theorem timeSet (m : Nat) : Statement (.timeSet m) := fun _ _ h => (Bool.false_ne_true h).elim
theorem timeAdjustRate (m : Nat) : Statement (.timeAdjustRate m) := fun _ _ h => (Bool.false_ne_true h).elim
theorem timeAdjustSlew (m : Nat) : Statement (.timeAdjustSlew m) := fun _ _ h => (Bool.false_ne_true h).elim
theorem timeSyncMode (m : Nat) : Statement (.timeSyncMode m) := fun _ _ h => (Bool.false_ne_true h).elim
theorem powerStateSet (m : Nat) : Statement (.powerStateSet m) := fun _ _ h => (Bool.false_ne_true h).elim
theorem drizzleProgram (m : Nat) : Statement (.drizzleProgram m) := fun _ _ h => (Bool.false_ne_true h).elim
theorem wakeRecordRead (m : Nat) : Statement (.wakeRecordRead m) := fun _ _ h => (Bool.false_ne_true h).elim
theorem modelLoad (m : Nat) : Statement (.modelLoad m) := fun _ _ h => (Bool.false_ne_true h).elim
theorem modelLoadValidate (m : Nat) : Statement (.modelLoadValidate m) := fun _ _ h => (Bool.false_ne_true h).elim
theorem modelSwitch (m : Nat) : Statement (.modelSwitch m) := fun _ _ h => (Bool.false_ne_true h).elim
theorem streamConfigure (m : Nat) : Statement (.streamConfigure m) := fun _ _ h => (Bool.false_ne_true h).elim
theorem streamEnable (m : Nat) : Statement (.streamEnable m) := fun _ _ h => (Bool.false_ne_true h).elim
theorem streamStop (m : Nat) : Statement (.streamStop m) := fun _ _ h => (Bool.false_ne_true h).elim
theorem feedRuleLoad (m : Nat) : Statement (.feedRuleLoad m) := fun _ _ h => (Bool.false_ne_true h).elim
theorem fabricJoin (m : Nat) : Statement (.fabricJoin m) := fun _ _ h => (Bool.false_ne_true h).elim
theorem fabricLeave (m : Nat) : Statement (.fabricLeave m) := fun _ _ h => (Bool.false_ne_true h).elim
theorem fabricRouteSet (m : Nat) : Statement (.fabricRouteSet m) := fun _ _ h => (Bool.false_ne_true h).elim
theorem fabricMembers (m : Nat) : Statement (.fabricMembers m) := fun _ _ h => (Bool.false_ne_true h).elim
theorem authChallenge (m : Nat) : Statement (.authChallenge m) := fun _ _ h => (Bool.false_ne_true h).elim
theorem authResponse (m : Nat) : Statement (.authResponse m) := fun _ _ h => (Bool.false_ne_true h).elim
theorem debugEnable (m : Nat) : Statement (.debugEnable m) := fun _ _ h => (Bool.false_ne_true h).elim
theorem logRead (m : Nat) : Statement (.logRead m) := fun _ _ h => (Bool.false_ne_true h).elim
theorem countersRead (m : Nat) : Statement (.countersRead m) := fun _ _ h => (Bool.false_ne_true h).elim
theorem wakeInput (w : WakeBy) : Statement (.wakeInput w) := fun _ _ h => (Bool.false_ne_true h).elim
theorem sleepExit : Statement (.sleepExit) := fun _ _ h => (Bool.false_ne_true h).elim
theorem drizzleCycle (rx : List (List Byte)) : Statement (.drizzleCycle rx) :=
  fun _ _ h => (Bool.false_ne_true h).elim
theorem drizzleWaitEnd (rx : List (List Byte)) : Statement (.drizzleWaitEnd rx) :=
  fun _ _ h => (Bool.false_ne_true h).elim
theorem trialSelfTest (pass : Bool) : Statement (.trialSelfTest pass) := fun _ _ h => (Bool.false_ne_true h).elim
theorem backgroundErase : Statement (.backgroundErase) := fun _ _ h => (Bool.false_ne_true h).elim
theorem frameReceived (f : Nat) (k : Frame) : Statement (.frameReceived f k) :=
  fun _ _ h => (Bool.false_ne_true h).elim
theorem rateDetectTurn (f : Nat) : Statement (.rateDetectTurn f) := fun _ _ h => (Bool.false_ne_true h).elim
theorem hostAccess (a : HostAcc) : Statement (.hostAccess a) := fun _ _ h => (Bool.false_ne_true h).elim
theorem msixSend (v : Nat) : Statement (.msixSend v) := fun _ _ h => (Bool.false_ne_true h).elim
theorem functionLevelReset (c : FlrCause) : Statement (.functionLevelReset c) :=
  fun _ _ h => (Bool.false_ne_true h).elim
theorem serviceBulkCommand (bytes : List Byte) : Statement (.serviceBulkCommand bytes) :=
  fun _ _ h => (Bool.false_ne_true h).elim
theorem vendorAbort : Statement (.vendorAbort) := fun _ _ h => (Bool.false_ne_true h).elim
theorem vendorState : Statement (.vendorState) := fun _ _ h => (Bool.false_ne_true h).elim
theorem busReset (r : BusReset) :
    Statement (.busReset r) := fun _ _ h => (Bool.false_ne_true h).elim
theorem dbgAccess (op space : Fin 4) (addr : Nat) (data : W32) : Statement (.dbgAccess op space addr data) :=
  fun _ _ h => (Bool.false_ne_true h).elim
theorem frostEnter : Statement (.frostEnter) := fun _ _ h => (Bool.false_ne_true h).elim
theorem frostLeave : Statement (.frostLeave) := fun _ _ h => (Bool.false_ne_true h).elim
theorem debugLine14 (t : Nat) : Statement (.debugLine14 t) := fun _ _ h => (Bool.false_ne_true h).elim
theorem debugHalt (t : Nat) : Statement (.debugHalt t) := fun _ _ h => (Bool.false_ne_true h).elim
theorem debugResume (t : Nat) : Statement (.debugResume t) := fun _ _ h => (Bool.false_ne_true h).elim
theorem debugStep (t : Nat) : Statement (.debugStep t) := fun _ _ h => (Bool.false_ne_true h).elim
theorem dbgPatchAddr (u : Fin 16) (v : W32) : Statement (.dbgPatchAddr u v) :=
  fun _ _ h => (Bool.false_ne_true h).elim
theorem tapReset : Statement (.tapReset) := fun _ _ h => (Bool.false_ne_true h).elim
theorem testInstructionReplaced (ir : Nat) : Statement (.testInstructionReplaced ir) :=
  fun _ _ h => (Bool.false_ne_true h).elim
theorem rcRead (by_ : AskBy) (addr : Nat) : Statement (.rcRead by_ addr) := fun _ _ h => (Bool.false_ne_true h).elim
theorem registerWrite (by_ : RegBy) (addr : Nat) (v : W32) : Statement (.registerWrite by_ addr v) :=
  fun _ _ h => (Bool.false_ne_true h).elim
theorem vioRise (b mv : Nat) : Statement (.vioRise b mv) := fun _ _ h => (Bool.false_ne_true h).elim
theorem supplyRestored (r : Rail) : Statement (.supplyRestored r) := fun _ _ h => (Bool.false_ne_true h).elim
theorem powerLoss : Statement (.powerLoss) := fun _ _ h => (Bool.false_ne_true h).elim
theorem aonOscillatorStop : Statement (.aonOscillatorStop) := fun _ _ h => (Bool.false_ne_true h).elim
theorem feedBlockLock (f : Nat) (fast : Bool) : Statement (.feedBlockLock f fast) :=
  fun _ _ h => (Bool.false_ne_true h).elim
theorem feedLinkDown (f : Nat) : Statement (.feedLinkDown f) := fun _ _ h => (Bool.false_ne_true h).elim
theorem hostLinkUp (gen width : Nat) : Statement (.hostLinkUp gen width) := fun _ _ h => (Bool.false_ne_true h).elim
theorem configurationSpaceWrite (w : CfgWrite) : Statement (.configurationSpaceWrite w) :=
  fun _ _ h => (Bool.false_ne_true h).elim
theorem vbusRise : Statement (.vbusRise) := fun _ _ h => (Bool.false_ne_true h).elim
theorem setConfiguration : Statement (.setConfiguration) := fun _ _ h => (Bool.false_ne_true h).elim
theorem suspend (on : Bool) : Statement (.suspend on) := fun _ _ h => (Bool.false_ne_true h).elim
theorem tagRestExpiry (by_ : Requester) (tag : Nat) : Statement (.tagRestExpiry by_ tag) :=
  fun _ _ h => (Bool.false_ne_true h).elim
theorem fullTables (a : MemberIn) (caps : List (Nat × Nat)) (sets : FabSets) (seq : Nat) :
    Statement (.fullTables a caps sets seq) := fun _ _ h => (Bool.false_ne_true h).elim
end Sys2Proof.Laws.Encodable
end

