-- ==== Sys2Proof/Laws/Queue.lean ====
section
/-! SUPPORT. No shared operation touches the queue of waiting commands: one simp lemma for each. -/

namespace Sys2Proof.Machine

set_option Elab.async false

set_option linter.all false

@[simp] theorem foldl_pending {α : Type} (f : State → α → State) (h : ∀ s a, (f s a).pending = s.pending) (l : List
    α) (s : State) : (l.foldl f s).pending = s.pending := by
  induction l generalizing s with
  | nil => rfl
  | cons a r ih => rw [List.foldl_cons, ih, h]
@[simp] theorem ite_pending (c : Prop) [Decidable c] (a b : State) : (if c then a else b).pending = if c then
    a.pending else b.pending := by split <;> rfl
@[simp] theorem ite_st_fst {α : Type} (c : Prop) [Decidable c] (a b : State × α) : (if c then a else b).1 = if c
    then a.1 else b.1 := by split <;> rfl
theorem ok_next {b : Bool} {s t : State} (h : ok b s = .next t) : t = s := by
  unfold ok at h
  split at h
  · cases h; rfl
  · cases h
@[simp] theorem when__pending (c : Bool) (s' s : State) :
    (when_ c s' s).pending = if c then s'.pending else s.pending := by
  simp [when_]
@[simp] theorem State.fireAll_pending (s : State) (ns : List Nat) : (State.fireAll s ns).pending = s.pending := by
  simp [State.fireAll]
@[simp] theorem State.logAs_pending (s : State) (late : Bool) (source : Nat) (unit : Nat) (logical : Nat) (oldCap :
    Nat) (newCap : Nat) (action : Nat) (arg : Nat) : (State.logAs s late source unit logical oldCap newCap action
    arg).pending = s.pending := by
  simp [State.logAs]
@[simp] theorem State.takeFree_pending (s : State) : (State.takeFree s).2.pending = s.pending := by
  simp [State.takeFree]
@[simp] theorem State.wakeCourt_pending (s : State) (c : Nat) : (State.wakeCourt s c).pending = s.pending := by
  simp [State.wakeCourt]
@[simp] theorem State.tileTrap_pending (s : State) (p : Nat) (code : Nat) (arg : Byte) (t : Tile) (spc : W16) :
    (State.tileTrap s p code arg t spc).pending = s.pending := by
  simp [State.tileTrap]
/-- An effect that leaves the queue as it is in `s`, on states whose queue is that one. -/
def Eff.KeepsQueue (s : State) : Eff → Prop
  | .act _ post => ∀ u : State, u.pending = s.pending → (post u).pending = s.pending
  | .own f => ∀ u : State, u.pending = s.pending → (f u).pending = s.pending
  | _ => True
@[simp] theorem State.noteBad_pending (s : State) (p : Nat) (a : W16) : (State.noteBad s p a).pending = s.pending
    := by
  simp [State.noteBad]
theorem State.tileStep_pending (s u : State) (p len : Nat) (x : Pfx) (dec : Option Nat) (body : Tile → Tile → Eff)
    (hu : u.pending = s.pending) (h : ∀ o n, (body o n).KeepsQueue s) :
    (u.tileStep p len x dec body).pending = s.pending := by
  simp only [State.tileStep]
  split
  · simp [hu]
  · split
    · simp [hu]
    · split
      · have hb := h (u.tile p) (u.tile p).land
        split <;> rename_i heq <;> rw [heq] at hb
        · simp [hu]
        · simp [hu]
        · simp [hu]
        · simp [hu]
        · simp [hu]
        · exact hb _ (by simp [hu])
        · exact hb _ hu
      · simp [hu]
theorem State.tileInsn_pending (s u : State) (p len : Nat) (x : Pfx) (dec : Option (Nat × Nat))
    (body : Tile → Tile → Eff) (hu : u.pending = s.pending) (h : ∀ o n, (body o n).KeepsQueue s) :
    (u.tileInsn p len x dec body).pending = s.pending :=
  State.tileStep_pending s u p _ x _ body hu h
theorem State.tileExec_pending {s t : State} {p len : Nat} {x : Pfx} {dec : Option (Nat × Nat)}
    {body : Tile → Tile → Eff} (e : s.tileExec p len x dec body = .next t)
    (h : ∀ o n, (body o n).KeepsQueue s) : t.pending = s.pending := by
  have := ok_next e
  subst this
  simp [State.tileInsn_pending s s p len x dec body rfl h]
@[simp] theorem State.resumeTile_pending (s : State) (p : Nat) : (State.resumeTile s p).pending = s.pending := by
  simp [State.resumeTile]
theorem State.tileExecW_pending {s t : State} {p len : Nat} {x : Pfx} {dec : Option (Nat × Nat)} {key : List Nat}
    {body : Tile → Tile → Eff} (e : s.tileExecW p len x dec key body = .next t)
    (h : ∀ o n, (body o n).KeepsQueue s) : t.pending = s.pending := by
  have := ok_next e
  subst this
  split
  · exact State.tileInsn_pending s _ p len x dec body (by simp [State.resumeTile]) h
  · simp [State.tileInsn_pending s s p len x dec body rfl h]
@[simp] theorem State.startIsland_pending (s : State) (i : Nat) : (State.startIsland s i).pending = s.pending := by
  simp [State.startIsland]
@[simp] theorem State.crossed_pending (s : State) (a : Nat) : (State.crossed s a).pending = s.pending := by
  unfold State.crossed
  (repeat' split) <;> simp
@[simp] theorem State.askWake_pending (s : State) (a : Nat) : (State.askWake s a).pending = s.pending := by
  unfold State.askWake
  (repeat' split) <;> simp
@[simp] theorem State.hostError_pending (s : State) : (State.hostError s).pending = s.pending := by
  simp [State.hostError]
@[simp] theorem State.crossFails_pending (s : State) (a : Nat) : (State.crossFails s a).pending = s.pending := by
  simp [State.crossFails]
@[simp] theorem State.writeFails_pending (s : State) (w : Who) : (State.writeFails s w).pending = s.pending := by
  simp [State.writeFails]
@[simp] theorem State.regWrite_pending (s : State) (w : Who) (a n : Nat) (f : State → State)
    (h : ∀ u, (f u).pending = u.pending) : (s.regWrite w a n f).pending = s.pending := by
  simp only [State.regWrite]
  (repeat' split) <;> simp [h]
@[simp] theorem State.answerRead_pending (s : State) (by_ : AskBy) (v : Nat) (n : Nat) : (State.answerRead s by_ v
    n).pending = s.pending := by
  simp [State.answerRead]
@[simp] theorem State.failRead_pending (s : State) (by_ : AskBy) (status : Nat) : (State.failRead s by_
    status).pending = s.pending := by
  simp [State.failRead]
@[simp] theorem State.regRead_pending (s : State) (by_ : AskBy) (dev a n : Nat) (f : State → State × Nat)
    (h : ∀ u, (f u).1.pending = u.pending) : (s.regRead by_ dev a n f).pending = s.pending := by
  simp only [State.regRead]
  (repeat' split) <;> simp [h]
@[simp] theorem State.writeBuf_pending (s : State) (a : Nat) (bytes : List Byte) : (State.writeBuf s a
    bytes).pending = s.pending := by
  simp [State.writeBuf]
@[simp] theorem State.take_pending (s : State) (o : Nat) : (State.take s o).1.pending = s.pending := by
  simp [State.take]
@[simp] theorem State.poolRefuse_pending (s : State) (cause : Nat) (op : Nat) (caller : Nat) (handle : Nat) :
    (State.poolRefuse s cause op caller handle).pending = s.pending := by
  simp [State.poolRefuse]
@[simp] theorem State.poolFreeOp_pending (s : State) (caller : Nat) (handle : Nat) : (State.poolFreeOp s caller
    handle).pending = s.pending := by
  simp [State.poolFreeOp]
@[simp] theorem State.poolGiveOp_pending (s : State) (caller : Nat) (handle : Nat) (owner : Nat) : (State.poolGiveOp
    s caller handle owner).pending = s.pending := by
  simp [State.poolGiveOp]
@[simp] theorem State.readTake_pending (s : State) (owner : Nat) (srcId : Nat) (srcPhys : Nat) (tag : Nat) :
    (State.readTake s owner srcId srcPhys tag).1.pending = s.pending := by
  unfold State.readTake
  (repeat' split) <;> simp
@[simp] theorem State.queueNotices_pending (s : State) (q : Nat) (a : Queue) (b : Queue) : (State.queueNotices s q a
    b).pending = s.pending := by
  simp [State.queueNotices]
@[simp] theorem State.qPush_pending (s : State) (q : Nat) (e : W32) : (State.qPush s q e).1.pending = s.pending := by
  simp [State.qPush]
@[simp] theorem State.qRefuse_pending (s : State) (q : Nat) : (State.qRefuse s q).pending = s.pending := by
  simp [State.qRefuse]
@[simp] theorem State.qPop_pending (s : State) (q : Nat) : (State.qPop s q).1.pending = s.pending := by
  simp [State.qPop]
@[simp] theorem State.readPop_pending (s : State) (q : Nat) (srcId : Nat) (srcPhys : Nat) (tag : Nat) :
    (State.readPop s q srcId srcPhys tag).1.pending = s.pending := by
  unfold State.readPop
  (repeat' split) <;> simp
@[simp] theorem State.qFlush_pending (s : State) (q : Nat) : (State.qFlush s q).pending = s.pending := by
  simp [State.qFlush]
@[simp] theorem State.hwPush_pending (s : State) (q : Nat) (e : W32) (producer : Nat) : (State.hwPush s q e
    producer).1.pending = s.pending := by
  simp [State.hwPush]
@[simp] theorem State.writePush_pending (s : State) (q : Nat) (e : W32) (master : Nat) : (State.writePush s q e
    master).pending = s.pending := by
  simp [State.writePush]
@[simp] theorem State.setQResult_pending (s : State) (q : Nat) (p : Nat) (r : Result) : (State.setQResult s q p
    r).pending = s.pending := by
  simp [State.setQResult]
@[simp] theorem State.gatePush_pending (s : State) (q : Nat) (p : Nat) (opnum : Nat) (e : W32) : (State.gatePush s q
    p opnum e).1.pending = s.pending := by
  simp [State.gatePush]
@[simp] theorem State.gatePop_pending (s : State) (q : Nat) (p : Nat) (opnum : Nat) : (State.gatePop s q p
    opnum).1.pending = s.pending := by
  simp [State.gatePop]
@[simp] theorem byTile_pending (p : Nat) (s' s : State) :
    (byTile p s' s).pending = if s.gated p then s'.pending else s.pending := by
  simp [byTile]
@[simp] theorem State.dReady_pending (s : State) (c : Nat) (n : Nat) : (State.dReady s c n).1.pending = s.pending :=
    by
  simp [State.dReady]
@[simp] theorem State.dCancel_pending (s : State) (c : Nat) (n : Nat) : (State.dCancel s c n).1.pending = s.pending
    := by
  simp only [State.dCancel]
  (repeat' split) <;> simp
@[simp] theorem State.dTdone_pending (s : State) (c : Nat) (p : Nat) : (State.dTdone s c p).pending = s.pending := by
  unfold State.dTdone
  (repeat' split) <;> simp
@[simp] theorem State.setDResult_pending (s : State) (c : Nat) (p : Nat) (r : Result) : (State.setDResult s c p
    r).pending = s.pending := by
  simp [State.setDResult]
@[simp] theorem State.gateReady_pending (s : State) (c : Nat) (n : Nat) (p : Nat) (opnum : Nat) : (State.gateReady s
    c n p opnum).1.pending = s.pending := by
  simp [State.gateReady]
@[simp] theorem State.beaten_pending (s : State) (c : Nat) : (State.beaten s c).pending = s.pending := by
  simp [State.beaten]
@[simp] theorem State.gateBeaten_pending (s : State) (c : Nat) (p : Nat) (opnum : Nat) : (State.gateBeaten s c p
    opnum).1.pending = s.pending := by
  simp [State.gateBeaten]
@[simp] theorem State.gateCancel_pending (s : State) (c : Nat) (n : Nat) (p : Nat) (opnum : Nat) : (State.gateCancel
    s c n p opnum).1.pending = s.pending := by
  simp [State.gateCancel]
@[simp] theorem State.gateTdone_pending (s : State) (c : Nat) (p : Nat) (opnum : Nat) : (State.gateTdone s c p
    opnum).1.pending = s.pending := by
  simp [State.gateTdone]
@[simp] theorem State.dropTask_pending (s : State) (t : Nat) : (State.dropTask s t).pending = s.pending := by
  simp only [State.dropTask]
  (repeat' split) <;> simp
@[simp] theorem State.restartTile_pending (s : State) (p : Nat) : (State.restartTile s p).pending = s.pending := by
  unfold State.restartTile
  (repeat' split) <;> simp
@[simp] theorem State.startTask_pending (s : State) (p : Nat) (n : Nat) : (State.startTask s p n).pending =
    s.pending := by
  simp [State.startTask]
@[simp] theorem State.setDuplex_pending (s : State) (t : Nat) (d : Duplex) : (State.setDuplex s t d).pending =
    s.pending := by
  simp [State.setDuplex]
@[simp] theorem State.setCatchUp_pending (s : State) (p : Nat) (d : Duplex) : (State.setCatchUp s p d).pending =
    s.pending := by
  simp [State.setCatchUp]
@[simp] theorem State.pair_pending (s : State) (t : Nat) (partner : Nat) (auto : Bool) : (State.pair s t partner
    auto).pending = s.pending := by
  unfold State.pair
  (repeat' split) <;> simp
@[simp] theorem State.noteBench_pending (s : State) (n : Nat) : (s.noteBench n).pending = s.pending := by
  simp only [State.noteBench]
  (repeat' split) <;> simp
@[simp] theorem State.withBench_pending (s : State) (f : State → State) (h : (f s).pending = s.pending) :
    (s.withBench f).pending = s.pending := by
  exact (State.noteBench_pending _ _).trans h
@[simp] theorem State.rePair_pending (s : State) (t : Nat) (auto : Bool) : (s.rePair t auto).pending = s.pending := by
  simp only [State.rePair]
  split
  · rfl
  · split
    · rfl
    · split
      · exact State.withBench_pending _ _ (by simp)
      · rfl
@[simp] theorem State.fence_pending (s : State) (p : Nat) : (State.fence s p).pending = s.pending := by
  simp [State.fence]
@[simp] theorem State.dropPartner_pending (s : State) (t : Nat) (d : Duplex) : (State.dropPartner s t d).pending =
    s.pending := by
  simp [State.dropPartner]
@[simp] theorem State.diverge_pending (s : State) (t : Nat) (d : Duplex) : (State.diverge s t d).pending = s.pending
    := by
  simp [State.diverge]
@[simp] theorem State.absorb_pending (s : State) (p : Nat) (tag : Nat) (data : Nat × List Byte) : (State.absorb s p tag
    data).pending = s.pending := by
  simp [State.absorb]
@[simp] theorem State.fly_pending (s : State) (m : Msg) : (State.fly s m).pending = s.pending := by
  simp [State.fly]
@[simp] theorem State.inject_pending (s : State) (p : Nat) (m : Msg) : (State.inject s p m).pending = s.pending := by
  simp only [State.inject]
  (repeat' split) <;> simp
@[simp] theorem State.noteOutcome_pending (s : State) (p tag : Nat) (bs : Nat × List Byte) :
    (s.noteOutcome p tag bs).pending = s.pending := by
  unfold State.noteOutcome
  (repeat' split) <;> simp
@[simp] theorem State.noteFailure_pending (s : State) (p tag status : Nat) :
    (s.noteFailure p tag status).pending = s.pending := by
  unfold State.noteFailure
  split
  · split <;> simp
  · rfl
@[simp] theorem State.noteDone_pending (s : State) (p : Nat) (tag : Nat) : (State.noteDone s p tag).pending =
    s.pending := by
  unfold State.noteDone
  (repeat' split) <;> simp
@[simp] theorem State.sendBy_pending (s : State) (p : Nat) (r : SendReq) (put : State → Msg → State)
    (h : ∀ u m, (put u m).pending = u.pending) : (s.sendBy p r put).pending = s.pending := by
  simp only [State.sendBy]
  (repeat' split) <;> simp [h]
@[simp] theorem State.issue_pending (s : State) (p : Nat) (r : SendReq) : (s.issue p r).pending = s.pending :=
  State.sendBy_pending s p r _ (by simp)
@[simp] theorem State.sendAt_pending (s : State) (p : Nat) (a : W16) (g : Fin 8) : (State.sendAt s p a g).pending =
    s.pending := by
  simp [State.sendAt]
@[simp] theorem State.staleDrop_pending (s : State) (m : Msg) (court : Nat) : (State.staleDrop s m court).pending =
    s.pending := by
  simp [State.staleDrop]
@[simp] theorem State.serveAt_pending (s : State) (m : Msg) (p : Nat) : (State.serveAt s m p).1.pending = s.pending
    := by
  simp only [State.serveAt]
  (repeat' split) <;> simp
@[simp] theorem State.routedAt_pending (s : State) (m : Msg) (t : Nat) (p : Nat) : (State.routedAt s m t
    p).1.pending = s.pending := by
  unfold State.routedAt
  (repeat' split) <;> simp
@[simp] theorem State.serveRouted_pending (s : State) (m : Msg) (t : Nat) (p : Nat) : (State.serveRouted s m t
    p).1.pending = s.pending := by
  unfold State.serveRouted
  (repeat' split) <;> simp
@[simp] theorem State.serveTile_pending (s : State) (m : Msg) : (State.serveTile s m).1.pending = s.pending := by
  simp only [State.serveTile]
  (repeat' split) <;> simp
@[simp] theorem State.serveGate_pending (s : State) (m : Msg) : (State.serveGate s m).1.pending = s.pending := by
  unfold State.serveGate
  (repeat' split) <;> simp
@[simp] theorem State.stray_pending (s : State) (p : Nat) : (State.stray s p).pending = s.pending := by
  simp [State.stray]
@[simp] theorem State.finishAt_pending (s : State) (p : Nat) (tag : Nat) (status : Nat) : (State.finishAt s p tag
    status).pending = s.pending := by
  simp [State.finishAt]
@[simp] theorem State.resendOr_pending (s : State) (p : Nat) (q : SendReq) (may : Bool) : (State.resendOr s p q
    may).pending = s.pending := by
  simp [State.resendOr]
@[simp] theorem State.doneAt_pending (s : State) (r : Resp) : (State.doneAt s r).pending = s.pending := by
  unfold State.doneAt
  (repeat' split) <;> simp
@[simp] theorem State.retryAt_pending (s : State) (r : Resp) : (State.retryAt s r).pending = s.pending := by
  unfold State.retryAt
  (repeat' split) <;> simp
@[simp] theorem State.errorAt_pending (s : State) (r : Resp) : (State.errorAt s r).pending = s.pending := by
  unfold State.errorAt
  (repeat' split) <;> simp
@[simp] theorem State.complete_pending (s : State) (p : Nat) (q : SendReq) (status : Nat) : (State.complete s p q
    status).pending = s.pending := by
  simp only [State.complete]
  (repeat' split) <;> simp
@[simp] theorem State.hostVector_pending (s : State) (v : Nat) : (State.hostVector s v).pending = s.pending := by
  simp [State.hostVector]
@[simp] theorem State.startDelivery_pending (s : State) (n : Nat) : (State.startDelivery s n).pending = s.pending :=
    by
  simp [State.startDelivery]
@[simp] theorem State.confirmDelivery_pending (s : State) (n : Nat) : (State.confirmDelivery s n).pending =
    s.pending := by
  simp [State.confirmDelivery]
@[simp] theorem State.dropDelivery_pending (s : State) (n : Nat) : (State.dropDelivery s n).pending = s.pending := by
  simp [State.dropDelivery]
@[simp] theorem State.deliveryError_pending (s : State) (n : Nat) (status : Nat) : (State.deliveryError s n
    status).pending = s.pending := by
  simp [State.deliveryError]
@[simp] theorem State.deliveryRetry_pending (s : State) (n : Nat) (may : Bool) : (State.deliveryRetry s n
    may).pending = s.pending := by
  simp [State.deliveryRetry]
@[simp] theorem State.evrProt_pending (s : State) : (State.evrProt s).pending = s.pending := by
  simp [State.evrProt]
@[simp] theorem State.evrRefuse_pending (s : State) (cause : Nat) (master : Nat) (n : Nat) : (State.evrRefuse s
    cause master n).pending = s.pending := by
  simp [State.evrRefuse]
@[simp] theorem State.writeTgt_pending (s : State) (master : Nat) (n : Nat) (v : W32) : (State.writeTgt s master n
    v).pending = s.pending := by
  simp [State.writeTgt]
@[simp] theorem State.writeFired_pending (s : State) (master : Nat) (w : Nat) (v : W32) : (State.writeFired s master
    w v).pending = s.pending := by
  simp [State.writeFired]
@[simp] theorem State.writeHold_pending (s : State) (master : Nat) (g : Nat) (v : W32) : (State.writeHold s master g
    v).pending = s.pending := by
  simp [State.writeHold]
@[simp] theorem State.traceSync_pending (s : State) : (State.traceSync s).pending = s.pending := by
  simp [State.traceSync]
@[simp] theorem State.fireAlarm_pending (s : State) (k : Nat) (late : Bool) (stepped : Bool) : (State.fireAlarm s k
    late stepped).pending = s.pending := by
  simp [State.fireAlarm]
@[simp] theorem State.stepAlarms_pending (s : State) (old : Nat) (late : Bool) : (State.stepAlarms s old
    late).pending = s.pending := by
  simp [State.stepAlarms]
@[simp] theorem State.timeBad_pending (s : State) : (State.timeBad s).pending = s.pending := by
  simp [State.timeBad]
@[simp] theorem State.plainTick_pending (s : State) : (State.plainTick s).pending = s.pending := by
  simp [State.plainTick]
@[simp] theorem State.applyCommit_pending (s : State) (c : Commit) : (State.applyCommit s c).pending = s.pending := by
  simp only [State.applyCommit]
  (repeat' split) <;> simp
@[simp] theorem State.writeCommit_pending (s : State) (master : Nat) (code : Nat) : (State.writeCommit s master
    code).pending = s.pending := by
  simp [State.writeCommit]
@[simp] theorem State.writeRate_pending (s : State) (master : Nat) (v : W32) : (State.writeRate s master v).pending
    = s.pending := by
  simp [State.writeRate]
@[simp] theorem State.startSlew_pending (s : State) (offset : Int) : (State.startSlew s offset).pending = s.pending
    := by
  simp [State.startSlew]
@[simp] theorem State.alarmHeld_pending (s : State) : (State.alarmHeld s).pending = s.pending := by
  simp [State.alarmHeld]
@[simp] theorem State.writeAlmCtl_pending (s : State) (master : Nat) (k : Nat) (v : W32) : (State.writeAlmCtl s
    master k v).pending = s.pending := by
  simp [State.writeAlmCtl]
@[simp] theorem State.writeAlm_pending (s : State) (master : Nat) (k : Nat) (off : Nat) (v : W32) : (State.writeAlm
    s master k off v).pending = s.pending := by
  simp [State.writeAlm]
@[simp] theorem State.anchor_pending (s : State) : (State.anchor s).pending = s.pending := by
  simp [State.anchor]
@[simp] theorem State.carry_pending (s : State) : (State.carry s).pending = s.pending := by
  simp [State.carry]
@[simp] theorem State.sampleTime_pending (s : State) : (State.sampleTime s).pending = s.pending := by
  simp [State.sampleTime]
@[simp] theorem State.sampleAon_pending (s : State) (lag : Nat) : (State.sampleAon s lag).pending = s.pending := by
  simp [State.sampleAon]
@[simp] theorem State.fioRefuse_pending (s : State) (cause : Nat) (block : Nat) (master : Nat) (offset : Nat) :
    (State.fioRefuse s cause block master offset).pending = s.pending := by
  simp [State.fioRefuse]
@[simp] theorem State.seePad_pending (s : State) (n : Nat) : (State.seePad s n).pending = s.pending := by
  simp [State.seePad]
@[simp] theorem State.padChange_pending (s : State) (n : Nat) (mv : Nat) : (State.padChange s n mv).pending =
    s.pending := by
  simp [State.padChange]
@[simp] theorem State.captureEdge_pending (s : State) (n : Nat) (rising : Bool) : (State.captureEdge s n
    rising).pending = s.pending := by
  simp [State.captureEdge]
@[simp] theorem State.pinEdge_pending (s : State) (n : Nat) : (State.pinEdge s n).pending = s.pending := by
  simp [State.pinEdge]
@[simp] theorem State.mapPins_pending (s : State) (f : Nat → Pin → Pin) : (State.mapPins s f).pending = s.pending :=
    by
  simp [State.mapPins]
@[simp] theorem State.safeAll_pending (s : State) (c : SafeCause) : (State.safeAll s c).pending = s.pending := by
  simp [State.safeAll]
@[simp] theorem State.safeEnd_pending (s : State) (c : SafeCause) : (State.safeEnd s c).pending = s.pending := by
  simp [State.safeEnd]
@[simp] theorem State.writePinCfg_pending (s : State) (master : Nat) (n : Nat) (w : W32) : (State.writePinCfg s
    master n w).pending = s.pending := by
  simp [State.writePinCfg]
@[simp] theorem State.writePinBits_pending (s : State) (master : Nat) (w : Nat) (v : W32) (set : Bool) :
    (State.writePinBits s master w v set).pending = s.pending := by
  simp [State.writePinBits]
@[simp] theorem State.writePinReg_pending (s : State) (master : Nat) (n : Nat) (off : Nat) (w : W32) :
    (State.writePinReg s master n off w).pending = s.pending := by
  simp [State.writePinReg]
@[simp] theorem State.bankAt_pending (s : State) (b : Nat) (mv : Nat) : (State.bankAt s b mv).pending = s.pending :=
    by
  simp [State.bankAt]
@[simp] theorem State.chainTo_pending (s : State) (n : Nat) (a : ChainAct) : (State.chainTo s n a).pending =
    s.pending := by
  simp [State.chainTo]
@[simp] theorem State.chainEvents_pending (s : State) (n : Nat) (t : Timer) : (State.chainEvents s n t).pending =
    s.pending := by
  simp only [State.chainEvents]
  refine foldl_pending _ (fun u a => ?_) _ _
  (repeat' split) <;> simp
@[simp] theorem State.timerEvents_pending (s : State) (n : Nat) (t : Timer) : (State.timerEvents s n t).pending =
    s.pending := by
  simp [State.timerEvents]
@[simp] theorem State.capture_pending (s : State) (n : Nat) : (State.capture s n).pending = s.pending := by
  simp [State.capture]
@[simp] theorem State.writeShadow_pending (s : State) (master : Nat) (n : Nat) (reg : Nat) (v : W32) :
    (State.writeShadow s master n reg v).pending = s.pending := by
  simp [State.writeShadow]
@[simp] theorem State.writeCnt_pending (s : State) (master : Nat) (n : Nat) (v : W32) : (State.writeCnt s master n
    v).pending = s.pending := by
  simp [State.writeCnt]
@[simp] theorem State.writeCtl_pending (s : State) (master : Nat) (n : Nat) (v : W32) : (State.writeCtl s master n
    v).pending = s.pending := by
  simp [State.writeCtl]
@[simp] theorem State.writeTmr_pending (s : State) (master : Nat) (n : Nat) (off : Nat) (v : W32) : (State.writeTmr
    s master n off v).pending = s.pending := by
  unfold State.writeTmr
  (repeat' split) <;> simp
@[simp] theorem State.writeSerTx_pending (s : State) (master : Nat) (e : Nat) (v : W32) : (State.writeSerTx s master
    e v).pending = s.pending := by
  simp [State.writeSerTx]
@[simp] theorem State.writeSerCtl_pending (s : State) (master : Nat) (e : Nat) (v : W32) : (State.writeSerCtl s
    master e v).pending = s.pending := by
  simp [State.writeSerCtl]
@[simp] theorem State.writeSer_pending (s : State) (master : Nat) (e : Nat) (off : Nat) (v : W32) : (State.writeSer
    s master e off v).pending = s.pending := by
  unfold State.writeSer
  (repeat' split) <;> simp
@[simp] theorem State.readSer_pending (s : State) (e : Nat) : (State.readSer s e).1.pending = s.pending := by
  simp [State.readSer]
@[simp] theorem State.serUnit_pending (s : State) (e : Nat) (u : SerUnit) : (State.serUnit s e u).pending =
    s.pending := by
  simp [State.serUnit]
@[simp] theorem State.setEngine_pending (s : State) (e : Engine) : (State.setEngine s e).pending = s.pending := by
  simp [State.setEngine]
@[simp] theorem State.engErr_pending (s : State) (bit : Nat) : (State.engErr s bit).pending = s.pending := by
  simp [State.engErr]
@[simp] theorem State.writeModel_pending (s : State) (addr : Nat) (data : List Byte) : (State.writeModel s addr
    data).1.pending = s.pending := by
  simp [State.writeModel]
@[simp] theorem State.freeBufs_pending (s : State) (l : List Nat) : (State.freeBufs s l).pending = s.pending := by
  simp [State.freeBufs]
@[simp] theorem State.startWait_pending (s : State) : (State.startWait s).pending = s.pending := by
  simp [State.startWait]
@[simp] theorem State.countStall_pending (s : State) : (State.countStall s).pending = s.pending := by
  unfold State.countStall
  (repeat' split) <;> simp
@[simp] theorem State.endWait_pending (s : State) : (State.endWait s).pending = s.pending := by
  unfold State.endWait
  (repeat' split) <;> simp
@[simp] theorem State.notePushed_pending (s : State) (e : W32) : (State.notePushed s e).pending = s.pending := by
  simp [State.notePushed]
@[simp] theorem State.enginePush_pending (s : State) (q : Nat) (e : W32) : (State.enginePush s q e).pending =
    s.pending := by
  simp [State.enginePush]
@[simp] theorem State.pushBuf_pending (s : State) (k : Nat) (kind : Nat) : (State.pushBuf s k kind).pending =
    s.pending := by
  simp only [State.pushBuf]
  (repeat' split) <;> simp
@[simp] theorem State.pushAll_pending (s : State) (k : Nat) : (State.pushAll s k).pending = s.pending := by
  simp [State.pushAll]
@[simp] theorem State.flushStream_pending (s : State) (k : Nat) : (State.flushStream s k).pending = s.pending := by
  simp [State.flushStream]
@[simp] theorem State.dueFlushes_pending (s : State) : (State.dueFlushes s).pending = s.pending := by
  simp [State.dueFlushes]
@[simp] theorem State.putRec_pending (s : State) (k : Nat) (kind : Nat) (b : RecBuf) (bytes : List Byte) :
    (State.putRec s k kind b bytes).pending = s.pending := by
  simp [State.putRec]
@[simp] theorem State.tryRec_pending (s : State) (k : Nat) (kind : Nat) (bytes : List Byte) : (State.tryRec s k kind
    bytes).1.pending = s.pending := by
  simp only [State.tryRec]
  (repeat' split) <;> simp
@[simp] theorem State.emit_pending (s : State) (k : Nat) (kind : Nat) (bytes : List Byte) : (State.emit s k kind
    bytes).pending = s.pending := by
  simp [State.emit]
@[simp] theorem State.drainHeld_pending (s : State) (l : List HeldRec) :
    (s.drainHeld l).pending = s.pending := by
  induction l generalizing s with
  | nil => rfl
  | cons h r ih => simp only [State.drainHeld]; split <;> simp [ih]
@[simp] theorem State.closeItems_pending (s : State) (bank : Nat) (k : Nat) (l : List Item) : (State.closeItems s
    bank k l).pending = s.pending := by
  simp [State.closeItems]
@[simp] theorem State.endPeriod_pending (s : State) (bank : Nat) (k : Nat) (x : Section) (short : Bool) :
    (State.endPeriod s bank k x short).pending = s.pending := by
  simp [State.endPeriod]
@[simp] theorem State.countLine_pending (s : State) (bank : Nat) (k : Nat) (x : Section) (l : Nat) (gap : Bool)
    (processed : Bool) : (State.countLine s bank k x l gap processed).pending = s.pending := by
  simp [State.countLine]
@[simp] theorem State.countLost_pending (s : State) (bank k : Nat) (x : Section) (l n : Nat) :
    (s.countLost bank k x l n).pending = s.pending := by
  induction n generalizing s l with
  | zero => rfl
  | succ n ih => simp [State.countLost, ih]
@[simp] theorem State.emitStatus_pending (s : State) (bank : Nat) (k : Nat) : (State.emitStatus s bank k).pending =
    s.pending := by
  simp [State.emitStatus]
@[simp] theorem State.tryExchange_pending (s : State) : (State.tryExchange s).pending = s.pending := by
  simp [State.tryExchange]
@[simp] theorem State.switchAtLine_pending (s : State) (k : Nat) (l : Nat) : (State.switchAtLine s k l).pending =
    s.pending := by
  simp [State.switchAtLine]
@[simp] theorem State.missLines_pending (s : State) (bank : Nat) (k : Nat) (n : Nat) : (State.missLines s bank k
    n).pending = s.pending := by
  simp [State.missLines]
@[simp] theorem State.lostLines_pending (s : State) (k : Nat) (l : Nat) (n : Nat) : (State.lostLines s k l
    n).pending = s.pending := by
  simp [State.lostLines]
@[simp] theorem State.fullLine_pending (s : State) (bank : Nat) (k : Nat) (x : Section) (b : LineBuf) :
    (State.fullLine s bank k x b).pending = s.pending := by
  simp [State.fullLine]
@[simp] theorem State.modelError_pending (s : State) (bank : Nat) (k : Nat) (l : Nat) (word : Nat) :
    (State.modelError s bank k l word).pending = s.pending := by
  simp [State.modelError]
@[simp] theorem State.markMixed_pending (s : State) (k : Nat) : (State.markMixed s k).pending = s.pending := by
  simp [State.markMixed]
@[simp] theorem State.upToLine_pending (s : State) (k : Nat) (l : Nat) (next : Nat) (lost : Nat) : (State.upToLine s
    k l next lost).pending = s.pending := by
  unfold State.upToLine
  (repeat' split) <;> simp
@[simp] theorem State.applyLine_pending (s : State) (bank : Nat) (k : Nat) (b : LineBuf) : (State.applyLine s bank k
    b).pending = s.pending := by
  unfold State.applyLine
  (repeat' split) <;> simp
@[simp] theorem State.lineDone_pending (s : State) (bank : Nat) (k : Nat) (b : LineBuf) : (State.lineDone s bank k
    b).pending = s.pending := by
  simp [State.lineDone]
@[simp] theorem State.processLine_pending (s : State) (k : Nat) : (s.processLine k).pending = s.pending := by
  simp only [State.processLine]
  split
  · rfl
  · split <;> simp
@[simp] theorem State.makeRoom_pending (s : State) (k : Nat) : (State.makeRoom s k).pending = s.pending := by
  simp [State.makeRoom]
@[simp] theorem State.releaseOne_pending (s : State) (k : Nat) : (State.releaseOne s k).pending = s.pending := by
  simp [State.releaseOne]
@[simp] theorem State.releaseLines_pending (s : State) (k n : Nat) : (s.releaseLines k n).pending = s.pending := by
  induction n generalizing s with
  | zero => rfl
  | succ n ih => simp [State.releaseLines, ih]
@[simp] theorem State.releaseComplete_pending (s : State) (k n : Nat) : (s.releaseComplete k n).pending = s.pending
    := by
  induction n generalizing s with
  | zero => rfl
  | succ n ih =>
    simp only [State.releaseComplete]
    split <;> simp [ih]
@[simp] theorem State.lateFrame_pending (s : State) (k : Nat) (h : Handoff) : (State.lateFrame s k h).pending =
    s.pending := by
  simp [State.lateFrame]
@[simp] theorem State.storeFrame_pending (s : State) (k : Nat) (l : Nat) (h : Handoff) : (State.storeFrame s k l
    h).pending = s.pending := by
  simp [State.storeFrame]
@[simp] theorem State.placeFrame_pending (s : State) (k : Nat) (h : Handoff) : (State.placeFrame s k h).pending =
    s.pending := by
  simp [State.placeFrame]
@[simp] theorem State.takeFrame_pending (s : State) (h : Handoff) : (State.takeFrame s h).pending = s.pending := by
  simp [State.takeFrame]
@[simp] theorem State.stopStream_pending (s : State) (k : Nat) : (State.stopStream s k).pending = s.pending := by
  simp [State.stopStream]
@[simp] theorem State.packStop_pending (s : State) (k : Nat) : (State.packStop s k).pending = s.pending := by
  simp [State.packStop]
@[simp] theorem State.stopDone_pending (s : State) (k : Nat) : (State.stopDone s k).pending = s.pending := by
  simp [State.stopDone]
@[simp] theorem State.retryHeld_pending (s : State) : (State.retryHeld s).pending = s.pending := by
  simp [State.retryHeld]
@[simp] theorem State.acceptHeld_pending (s0 : State) (h : HeldPush) : (State.acceptHeld s0 h).pending = s0.pending
    := by
  simp [State.acceptHeld]
@[simp] theorem State.writeEngReturn_pending (s : State) (master : Nat) (v : W32) : (State.writeEngReturn s master
    v).pending = s.pending := by
  simp [State.writeEngReturn]
@[simp] theorem State.bootUp_pending (s : State) (forceOther : Bool) : (State.bootUp s forceOther).pending =
    s.pending := by
  simp [State.bootUp]
@[simp] theorem State.unpreempt_pending (s : State) (ch : Nat) : (State.unpreempt s ch).pending = s.pending := by
  simp only [State.unpreempt]
  refine foldl_pending _ (fun u a => ?_) _ _
  (repeat' split) <;> simp
@[simp] theorem State.chanReset_pending (s : State) (ch : Nat) : (State.chanReset s ch).pending = s.pending := by
  simp [State.chanReset]
@[simp] theorem State.safeRouted_pending (s : State) (func : Nat) (i : Nat) : (State.safeRouted s func i).pending =
    s.pending := by
  simp [State.safeRouted]
@[simp] theorem State.releasePin_pending (s : State) (n : Nat) : (State.releasePin s n).pending = s.pending := by
  simp [State.releasePin]
@[simp] theorem State.releaseTimer_pending (s : State) (n : Nat) : (State.releaseTimer s n).pending = s.pending := by
  simp [State.releaseTimer]
@[simp] theorem State.releaseSer_pending (s : State) (e : Nat) : (State.releaseSer s e).pending = s.pending := by
  simp [State.releaseSer]
@[simp] theorem State.releaseChan_pending (s : State) (ch : Nat) : (State.releaseChan s ch).pending = s.pending := by
  simp [State.releaseChan]
@[simp] theorem State.releaseAll_pending (s : State) (o : Nat) : (State.releaseAll s o).pending = s.pending := by
  simp [State.releaseAll]
@[simp] theorem State.restartCore_pending (s : State) : (State.restartCore s).pending = s.pending := by
  simp [State.restartCore]
@[simp] theorem State.restartDone_pending (s : State) : (State.restartDone s).pending = s.pending := by
  simp [State.restartDone]
@[simp] theorem State.deviceRestart_pending (s : State) (why : Option HeldRestart) : (State.deviceRestart s
    why).pending = s.pending := by
  simp only [State.deviceRestart]
  (repeat' split) <;> simp
@[simp] theorem State.letGo_pending (s : State) (why : HeldRestart) : (State.letGo s why).pending = s.pending := by
  simp [State.letGo]
@[simp] theorem State.coldStart_pending (s : State) (testEn : Bool) : (State.coldStart s testEn).pending = s.pending
    := by
  simp [State.coldStart]
@[simp] theorem State.sendUp_pending (s : State) (bytes : List Byte) : (State.sendUp s bytes).pending = s.pending :=
    by
  simp [State.sendUp]
@[simp] theorem State.finishMbx_pending (s : State) (m : Nat) (status : Nat) (payload : List Byte) :
    (State.finishMbx s m status payload).pending = s.pending := by
  simp [State.finishMbx]
@[simp] theorem State.endCommand_pending (s : State) (m : Nat) (status : Nat) : (State.endCommand s m
    status).pending = s.pending := by
  simp [State.endCommand]
@[simp] theorem State.abortAllMbx_pending (s : State) : (State.abortAllMbx s).pending = s.pending := by
  simp [State.abortAllMbx]
@[simp] theorem State.endRequests_pending (s : State) (p : Msg → Bool) : (State.endRequests s p).pending = s.pending
    := by
  simp [State.endRequests]
@[simp] theorem State.endReached_pending (s : State) (p : Msg → Bool) : (State.endReached s p).pending =
    s.pending := by
  simp [State.endReached]
@[simp] theorem State.mgmtRestart_pending (s : State) (other : Bool) : (State.mgmtRestart s other).pending =
    s.pending := by
  simp [State.mgmtRestart]
@[simp] theorem State.courtRestart_pending (s : State) (c : Nat) (accepted : List Msg) : (State.courtRestart s c
    accepted).pending = s.pending := by
  simp [State.courtRestart]
@[simp] theorem State.announceOff_pending (s : State) : (State.announceOff s).pending = s.pending := by
  simp [State.announceOff]
@[simp] theorem State.selfSendOff_pending (s : State) (source : Nat) : (State.selfSendOff s source).pending =
    s.pending := by
  simp [State.selfSendOff]
@[simp] theorem State.remap_pending (s : State) (t : Nat) (old : Nat) (new : Nat) : (State.remap s t old
    new).pending = s.pending := by
  simp [State.remap]
@[simp] theorem State.restoreTile_pending (s : State) (d : Deferred) (late : Bool) : (State.restoreTile s d
    late).pending = s.pending := by
  unfold State.restoreTile
  (repeat' split) <;> simp
@[simp] theorem State.restoreOrDefer_pending (s : State) (d0 : Deferred) : (State.restoreOrDefer s d0).pending =
    s.pending := by
  unfold State.restoreOrDefer
  (repeat' split) <;> simp
@[simp] theorem State.substitute_pending (s : State) (t : Nat) (spare : Nat) (copyBad : Bool) : (State.substitute s
    t spare copyBad).pending = s.pending := by
  unfold State.substitute
  (repeat' split) <;> simp
@[simp] theorem State.releaseLogical_pending (s : State) (t : Nat) : (State.releaseLogical s t).pending = s.pending
    := by
  simp [State.releaseLogical]
@[simp] theorem State.noSpare_pending (s : State) (t : Nat) (p : Nat) : (State.noSpare s t p).pending = s.pending :=
    by
  simp [State.noSpare]
@[simp] theorem State.substituteLowest_pending (s : State) (t : Nat) (copyBad : Bool) :
    (s.substituteLowest t copyBad).pending = s.pending := by
  unfold State.substituteLowest
  generalize s.freeSpares = l
  split
  · simp
  · split <;> simp
@[simp] theorem State.releaseHeld_pending (s : State) (d : Duplex) : (State.releaseHeld s d).pending = s.pending := by
  simp only [State.releaseHeld]
  refine foldl_pending _ (fun u a => ?_) _ _
  (repeat' split) <;> simp
@[simp] theorem State.promote_pending (s : State) (t : Nat) (d : Duplex) : (State.promote s t d).pending = s.pending
    := by
  simp [State.promote]
@[simp] theorem State.tileFails_pending (s : State) (p : Nat) : (State.tileFails s p).pending = s.pending := by
  unfold State.tileFails
  (repeat' split) <;> simp
@[simp] theorem State.reportTile_pending (s : State) (source : Nat) (p : Nat) (arg : Nat) : (State.reportTile s
    source p arg).pending = s.pending := by
  simp [State.reportTile]
@[simp] theorem State.moveTile_pending (s : State) (c : Nat) (i : Nat) : (State.moveTile s c i).pending = s.pending
    := by
  simp only [State.moveTile]
  (repeat' split) <;> simp
@[simp] theorem State.moveCourt_pending (s : State) (c : Nat) : (s.moveCourt c).pending = s.pending :=
  State.withBench_pending _ _ (foldl_pending _ (fun _ _ => by simp) _ _)
@[simp] theorem State.courtFails_pending (s : State) (c : Nat) : (State.courtFails s c).pending = s.pending := by
  simp [State.courtFails]
@[simp] theorem State.portDies_pending (s : State) (p : Nat) (dead : Bool) : (State.portDies s p dead).pending =
    s.pending := by
  simp [State.portDies]
@[simp] theorem State.abortCrossing_pending (s : State) (i : Nat) : (State.abortCrossing s i).pending = s.pending :=
    by
  simp [State.abortCrossing]
@[simp] theorem State.fenceMover_pending (s : State) (e : Nat) : (State.fenceMover s e).pending = s.pending := by
  simp [State.fenceMover]
@[simp] theorem State.unitFails_pending (s : State) (u : StallUnit) (arg : Nat) : (State.unitFails s u arg).pending
    = s.pending := by
  unfold State.unitFails
  (repeat' split) <;> simp
@[simp] theorem State.scrubFix_pending (s : State) (m : ScrubMem) (word : Nat) : (State.scrubFix s m word).pending =
    s.pending := by
  simp only [State.scrubFix]
  (repeat' split) <;> simp
@[simp] theorem State.scrubBad_pending (s : State) (m : ScrubMem) (word : Nat) : (State.scrubBad s m word).pending =
    s.pending := by
  simp only [State.scrubBad]
  (repeat' split) <;> simp
@[simp] theorem State.thermalTrip_pending (s : State) : (State.thermalTrip s).pending = s.pending := by
  simp [State.thermalTrip]
@[simp] theorem State.mgmtDone_pending (s : State) : (State.mgmtDone s).pending = s.pending := by
  simp [State.mgmtDone]
@[simp] theorem State.pmb_pending (s : State) (cs : List PmbCmd) : (State.pmb s cs).pending = s.pending := by
  simp [State.pmb]
@[simp] theorem State.setVdd_pending (s : State) (mv : Nat) : (State.setVdd s mv).pending = s.pending := by
  simp [State.setVdd]
@[simp] theorem State.paceLoop_pending (s : State) (l : List Nat) : (s.paceLoop l).pending = s.pending := by
  simp only [State.paceLoop]
  split <;> (try simp only [State.setVdd_pending]) <;> exact foldl_pending _ (fun _ _ => by simp) _ _
@[simp] theorem State.tickRails_pending (s : State) : (State.tickRails s).pending = s.pending := by
  simp [State.tickRails]
@[simp] theorem State.mapEff_pending (s : State) (f : Court → Nat) : (State.mapEff s f).pending = s.pending := by
  simp only [State.mapEff]
  refine foldl_pending _ (fun u a => ?_) _ _
  (repeat' split) <;> simp
@[simp] theorem State.capDown_pending (s : State) : (State.capDown s).pending = s.pending := by
  simp [State.capDown]
@[simp] theorem State.capUp_pending (s : State) : (State.capUp s).pending = s.pending := by
  simp [State.capUp]
@[simp] theorem State.powerEstimate_pending (s : State) (mw : Nat) : (State.powerEstimate s mw).pending = s.pending
    := by
  simp [State.powerEstimate]
@[simp] theorem State.regulatorLost_pending (s : State) : s.regulatorLost.pending = s.pending := by
  simp only [State.regulatorLost, State.fireIf_pending]
  refine foldl_pending _ (fun u a => ?_) _ _
  simp
@[simp] theorem State.readStatus_pending (s : State) (fault : Bool) : (State.readStatus s fault).pending = s.pending
    := by
  simp [State.readStatus]
@[simp] theorem State.polled_pending (s : State) (vout : Nat) (iout : Nat) (temp : Nat) : (State.polled s vout iout
    temp).pending = s.pending := by
  simp [State.polled]
@[simp] theorem State.modeRead_pending (s : State) (mode : Byte) : (State.modeRead s mode).pending = s.pending := by
  simp [State.modeRead]
@[simp] theorem State.pmbFailed_pending (s : State) : (State.pmbFailed s).pending = s.pending := by
  simp [State.pmbFailed]
@[simp] theorem State.setFabric_pending (s : State) (f : Fabric) : (State.setFabric s f).pending = s.pending := by
  simp [State.setFabric]
@[simp] theorem State.pumpPort_pending (s : State) (p : Nat) : (State.pumpPort s p).pending = s.pending := by
  simp [State.pumpPort]
@[simp] theorem State.linkSend_pending (s : State) (p : Nat) (k : Packet) : (State.linkSend s p k).pending =
    s.pending := by
  simp [State.linkSend]
@[simp] theorem State.routeOut_pending (s : State) (inP : Option Nat) (k : Packet) : (State.routeOut s inP
    k).1.pending = s.pending := by
  simp [State.routeOut]
@[simp] theorem State.partDone_pending (s : State) (ftag : Nat) (status : Nat) (data : List Byte) : (State.partDone
    s ftag status data).pending = s.pending := by
  simp only [State.partDone]
  (repeat' split) <;> simp
@[simp] theorem State.failPacket_pending (s : State) (k : Packet) : (State.failPacket s k).pending = s.pending := by
  simp [State.failPacket]
@[simp] theorem State.sendParts_pending (s : State) (m : Msg) (id : Nat)
    (l : List (Nat × (Nat × (Nat × Nat)))) : (s.sendParts m id l).pending = s.pending := by
  induction l generalizing s with
  | nil => rfl
  | cons h r ih => obtain ⟨i, t, part⟩ := h; simp [State.sendParts, ih]
@[simp] theorem State.toHub_pending (s : State) (m : Msg) : (State.toHub s m).pending = s.pending := by
  unfold State.toHub
  (repeat' split) <;> simp
@[simp] theorem State.serveReq_pending (s : State) (p : Nat) (k : Packet) : (State.serveReq s p k).pending =
    s.pending := by
  simp only [State.serveReq]
  (repeat' split) <;> simp
@[simp] theorem State.hubAnswer_pending (s : State) (x : HubServe) (st : Nat) (data : List Byte) : (State.hubAnswer
    s x st data).pending = s.pending := by
  simp [State.hubAnswer]
@[simp] theorem State.hubDone_pending (s : State) (r : Resp) : (State.hubDone s r).pending = s.pending := by
  unfold State.hubDone
  (repeat' split) <;> simp
@[simp] theorem State.dropPort_pending (s : State) (p : Nat) : (State.dropPort s p).pending = s.pending := by
  simp [State.dropPort]
@[simp] theorem State.replayPort_pending (s : State) (p : Nat) : (State.replayPort s p).pending = s.pending := by
  simp [State.replayPort]
@[simp] theorem State.member_pending (s : State) (dest : Nat) (b : MemberBody) : (State.member s dest b).pending
    = s.pending := by
  simp [State.member]
@[simp] theorem State.tellSentOff_pending (s : State) (d : Nat) : (State.tellSentOff s d).pending = s.pending := by
  simp [State.tellSentOff]
@[simp] theorem State.sendLink_pending (s : State) (p : Nat) (nak : Bool) : (State.sendLink s p nak).pending = s.pending := by
  simp [State.sendLink]
@[simp] theorem State.tickLinks_pending (s : State) : (State.tickLinks s).pending = s.pending := by
  simp [State.tickLinks]
@[simp] theorem State.takePacket_pending (s : State) (p : Nat) (k : Packet) : (State.takePacket s p k).1.pending =
    s.pending := by
  simp [State.takePacket]
@[simp] theorem State.passOn_pending (s : State) (p : Nat) (k : Packet) : (State.passOn s p k).pending = s.pending
    := by
  simp [State.passOn]
@[simp] theorem State.startPhys_pending (s : State) (p : Nat) : (State.startPhys s p).pending = s.pending := by
  unfold State.startPhys
  (repeat' split) <;> simp
@[simp] theorem State.startLogical_pending (s : State) (t : Nat) : (State.startLogical s t).pending = s.pending := by
  unfold State.startLogical
  (repeat' split) <;> simp
@[simp] theorem State.enableStream_pending (s : State) (k : Nat) : (State.enableStream s k).1.pending = s.pending :=
    by
  simp [State.enableStream]
@[simp] theorem State.flood_pending (s : State) (inP : Option Nat) (ports : List Nat) (k : Packet) : (State.flood
    s inP ports k).pending = s.pending := by
  simp [State.flood]
@[simp] theorem State.announce_pending (s : State) (k : NoticeKind) : (State.announce s k).pending = s.pending := by
  simp [State.announce]
@[simp] theorem State.markOut_pending (s : State) (d : Nat) : (State.markOut s d).pending = s.pending := by
  simp [State.markOut]
@[simp] theorem State.fwLost_pending (s : State) (d : Nat) (announced : Bool) (own : Bool) : (State.fwLost s d
    announced own).pending = s.pending := by
  simp [State.fwLost]
@[simp] theorem State.fwRejoined_pending (s : State) (d : Nat) (own : Bool) : (State.fwRejoined s d own).pending
    = s.pending := by
  simp [State.fwRejoined]
@[simp] theorem State.fwNotice_pending (s : State) (src : Nat) (seq : Nat) (k : NoticeKind) : (State.fwNotice s
    src seq k).pending = s.pending := by
  simp [State.fwNotice]
@[simp] theorem State.fwTables_pending (s : State) (t : FabTables) : (State.fwTables s t).pending = s.pending := by
  simp [State.fwTables]
@[simp] theorem State.confirmTo_pending (s : State) (d : Nat) (number : Nat) : (State.confirmTo s d number).pending
    = s.pending := by
  simp [State.confirmTo]
@[simp] theorem State.confirmed_pending (s : State) (captain : Nat) (number : Nat) (cap : Nat) (epoch : Nat)
    (noticeSeq : Nat) : (State.confirmed s captain number cap epoch noticeSeq).pending = s.pending := by
  simp only [State.confirmed]
  (repeat' split) <;> simp
@[simp] theorem State.loadTaken_pending (s : State) (t : Nat) (p : Nat) (mem : Mem) : (State.loadTaken s t p
    mem).pending = s.pending := by
  simp [State.loadTaken]
@[simp] theorem State.takeTile_pending (s : State) (t : Nat) : (State.takeTile s t).pending = s.pending := by
  unfold State.takeTile
  (repeat' split) <;> simp
@[simp] theorem State.takeover_pending (s : State) (d : Nat) : (State.takeover s d).pending = s.pending := by
  unfold State.takeover
  (repeat' split) <;> simp
@[simp] theorem State.fwSentOff_pending (s : State) (p : Nat) : (State.fwSentOff s p).pending = s.pending := by
  simp [State.fwSentOff]
@[simp] theorem State.fwMember_pending (s : State) (p : Nat) (src : Nat) (a : MemberBody) : (State.fwMember s p
    src a).pending = s.pending := by
  unfold State.fwMember
  (repeat' split) <;> simp
@[simp] theorem State.forFirmware_pending (s : State) (p : Nat) (src : Nat) (b : MemberBody) : (State.forFirmware
    s p src b).pending = s.pending := by
  simp [State.forFirmware]
@[simp] theorem State.tickMembers_pending (s : State) : (State.tickMembers s).pending = s.pending := by
  simp [State.tickMembers]
@[simp] theorem State.elected_pending (s : State) : (State.elected s).pending = s.pending := by
  simp [State.elected]
@[simp] theorem State.hearStatus_pending (s : State) (src : Nat) (number : Nat) : (State.hearStatus s src
    number).pending = s.pending := by
  simp only [State.hearStatus]
  (repeat' split) <;> simp
@[simp] theorem State.syncTo_pending (s : State) (offset : Int) : (State.syncTo s offset).pending = s.pending := by
  simp [State.syncTo]
@[simp] theorem State.acceptBeacon_pending (s : State) (p : Nat) (k : Packet) (residence : Nat) :
    (State.acceptBeacon s p k residence).pending = s.pending := by
  simp [State.acceptBeacon]
@[simp] theorem State.takeMember_pending (s : State) (a : MemberIn) (b : MemberBody) (f : State → State)
    (h : ∀ u, (f u).pending = u.pending) : (s.takeMember a b f).pending = s.pending := by
  simp only [State.takeMember]
  (repeat' split) <;> simp [h]
@[simp] theorem State.takeFlood_pending (s : State) (p : Nat) (k : Packet) (seq : Nat) (n : NoticeKind) :
    (State.takeFlood s p k seq n).pending = s.pending := by
  simp [State.takeFlood]
@[simp] theorem State.mbxForeign_pending (s : State) (m : Nat) : (State.mbxForeign s m).pending = s.pending := by
  simp [State.mbxForeign]
@[simp] theorem State.setMbxTarget_pending (s : State) (m : Nat) (tile : Option Nat) : (State.setMbxTarget s m
    tile).pending = s.pending := by
  unfold State.setMbxTarget
  (repeat' split) <;> simp
@[simp] theorem State.releaseMbx_pending (s : State) (m : Nat) : (State.releaseMbx s m).pending = s.pending := by
  simp [State.releaseMbx]
@[simp] theorem State.doorbell_pending (s : State) (m : Nat) (dev : Nat) (master : Nat) (v : W32) : (State.doorbell
    s m dev master v).pending = s.pending := by
  simp [State.doorbell]
@[simp] theorem State.requestAbort_pending (s : State) (m : Nat) (status : Nat) : (State.requestAbort s m
    status).pending = s.pending := by
  simp [State.requestAbort]
@[simp] theorem State.writeAbort_pending (s : State) (m : Nat) (dev : Nat) (master : Nat) (v : W32) :
    (State.writeAbort s m dev master v).pending = s.pending := by
  simp [State.writeAbort]
@[simp] theorem State.writeGive_pending (s : State) (m : Nat) (dev : Nat) (master : Nat) (v : W32) :
    (State.writeGive s m dev master v).pending = s.pending := by
  simp [State.writeGive]
@[simp] theorem State.readMbxTake_pending (s : State) (m : Nat) (dev : Nat) (srcId : Nat) (srcPhys : Nat) (tag :
    Nat) : (State.readMbxTake s m dev srcId srcPhys tag).1.pending = s.pending := by
  simp only [State.readMbxTake]
  (repeat' split) <;> simp
theorem command_pending {s t : State} {m code : Nat} {sel : List Byte → Bool} {body : List Byte → CmdRes}
    (h : ∀ p, ((body p).finish m).pending = s.pending) (e : command s m code sel body = .next t) :
    t.pending = s.pending := by
  have := ok_next e
  subst this
  simp [h]
@[simp] theorem State.mapCopies_pending (s : State) (t : Nat) (f : Tile → Tile) : (State.mapCopies s t f).pending =
    s.pending := by
  simp only [State.mapCopies]
  refine foldl_pending _ (fun u a => ?_) _ _
  (repeat' split) <;> simp
@[simp] theorem State.persist_pending (s : State) (t : Nat) : (State.persist s t).pending = s.pending := by
  unfold State.persist
  (repeat' split) <;> simp
@[simp] theorem State.stopAt_pending (s : State) (p : Nat) : (State.stopAt s p).pending = s.pending := by
  simp [State.stopAt]
@[simp] theorem State.giveRes_pending (s : State) (kind : Nat) (o : Nat) (i : Nat) : (State.giveRes s kind o
    i).pending = s.pending := by
  unfold State.giveRes
  (repeat' split) <;> simp
@[simp] theorem State.freeRes_pending (s : State) (kind : Nat) (i : Nat) : (State.freeRes s kind i).pending =
    s.pending := by
  unfold State.freeRes
  (repeat' split) <;> simp
@[simp] theorem State.setBoot_pending (s : State) (b : Boot) : (State.setBoot s b).pending = s.pending := by
  simp [State.setBoot]
@[simp] theorem State.setUpdateBox_pending (s : State) (b : Option Nat) : (State.setUpdateBox s b).pending =
    s.pending := by
  simp [State.setUpdateBox]
@[simp] theorem State.confirmTrial_pending (s : State) : (State.confirmTrial s).pending = s.pending := by
  simp [State.confirmTrial]
@[simp] theorem State.setCalBox_pending (s : State) (b : Option Nat) : (State.setCalBox s b).pending = s.pending := by
  simp [State.setCalBox]
@[simp] theorem State.readmit_pending (s : State) (p : Nat) : (State.readmit s p).pending = s.pending := by
  simp [State.readmit]
@[simp] theorem State.retire_pending (s : State) (p : Nat) : (State.retire s p).pending = s.pending := by
  simp [State.retire]
@[simp] theorem State.unpair_pending (s : State) (t : Nat) (d : Duplex) : (State.unpair s t d).pending = s.pending
    := by
  simp [State.unpair]
@[simp] theorem State.retireLogical_pending (s : State) (u : Nat) : (State.retireLogical s u).pending = s.pending :=
    by
  unfold State.retireLogical
  (repeat' split) <;> simp
@[simp] theorem State.setModelBox_pending (s : State) (b : Option Nat) : (State.setModelBox s b).pending = s.pending
    := by
  simp [State.setModelBox]
@[simp] theorem State.join_pending (s : State) (m : Nat) (p : List Byte) : (State.join s m p).pending = s.pending :=
    by
  simp [State.join]
@[simp] theorem State.feedCount_pending (s : State) (f : Nat) (k : Nat) : (State.feedCount s f k).pending =
    s.pending := by
  simp [State.feedCount]
@[simp] theorem State.feedPush_pending (s : State) (f : Nat) (q : Nat) (e : W32) : (State.feedPush s f q e).pending
    = s.pending := by
  simp [State.feedPush]
@[simp] theorem State.feedSend_pending (s : State) (f : Nat) (k : FeedTxKind) : (State.feedSend s f k).pending =
    s.pending := by
  simp [State.feedSend]
@[simp] theorem State.ptpFrame_pending (s : State) (f : Nat) (frame : List Byte) (st : Stamp) : (State.ptpFrame s
    f frame st).pending = s.pending := by
  simp only [State.ptpFrame]
  (repeat' split) <;> simp
@[simp] theorem State.arpFrame_pending (s : State) (f : Nat) (frame : List Byte) : (State.arpFrame s f
    frame).pending = s.pending := by
  unfold State.arpFrame
  (repeat' split) <;> simp
@[simp] theorem State.tickFeedTx_pending (s : State) (f : Nat) : (State.tickFeedTx s f).pending = s.pending := by
  simp [State.tickFeedTx]
@[simp] theorem State.firmwareFrees_pending (s : State) (f : Nat) : (State.firmwareFrees s f).pending = s.pending :=
    by
  simp [State.firmwareFrees]
@[simp] theorem State.passToFirmware_pending (s : State) (f : Nat) (h : Nat) (frame : List Byte) (st : Stamp) :
    (State.passToFirmware s f h frame st).pending = s.pending := by
  simp [State.passToFirmware]
@[simp] theorem State.feedFrame_pending (s : State) (f : Nat) (frame : List Byte) (st : Stamp) : (State.feedFrame s
    f frame st).pending = s.pending := by
  simp only [State.feedFrame]
  (repeat' split) <;> simp
@[simp] theorem State.feedDrain_pending (s : State) (f : Nat) (l : List (List Byte × Stamp)) :
    (s.feedDrain f l).pending = s.pending := by
  induction l generalizing s with
  | nil => simp [State.feedDrain]
  | cons h r ih => simp only [State.feedDrain]; split <;> simp [ih]
@[simp] theorem State.feedRetry_pending (s : State) (f : Nat) : (State.feedRetry s f).pending = s.pending := by
  unfold State.feedRetry
  (repeat' split) <;> simp
@[simp] theorem State.feedAccept_pending (s : State) (f : Nat) (bytes : List Byte) : (State.feedAccept s f
    bytes).pending = s.pending := by
  simp [State.feedAccept]
@[simp] theorem State.receiveFrame_pending (s0 : State) (f : Nat) (k : Frame) : (State.receiveFrame s0 f k).pending
    = s0.pending := by
  simp [State.receiveFrame]
@[simp] theorem State.closeHostWindows_pending (s : State) : (State.closeHostWindows s).pending = s.pending := by
  simp [State.closeHostWindows]
@[simp] theorem State.hostReset_pending (s : State) (c : FlrCause) : (State.hostReset s c).pending = s.pending := by
  simp [State.hostReset]
@[simp] theorem State.aerLog_pending (s : State) (v : W32) : (State.aerLog s v).pending = s.pending := by
  simp [State.aerLog]
@[simp] theorem State.unsupported_pending (s : State) (a : HostAcc) : (State.unsupported s a).pending = s.pending
    := by
  simp [State.unsupported]
@[simp] theorem State.configWrite_pending (s : State) (w : CfgWrite) : (State.configWrite s w).pending = s.pending
    := by
  unfold State.configWrite
  (repeat' split) <;> simp
@[simp] theorem State.dropSvc_pending (s : State) : (State.dropSvc s).pending = s.pending := by
  simp [State.dropSvc]
@[simp] theorem State.writeLog_pending (s : State) : (State.writeLog s).pending = s.pending := by
  simp [State.writeLog]
@[simp] theorem State.sendConsole_pending (s : State) : (State.sendConsole s).pending = s.pending := by
  simp [State.sendConsole]
@[simp] theorem State.tickLog_pending (s : State) : (State.tickLog s).pending = s.pending := by
  simp [State.tickLog]
@[simp] theorem State.bulkCommand_pending (s : State) (bytes : List Byte) : (State.bulkCommand s bytes).pending =
    s.pending := by
  simp [State.bulkCommand]
@[simp] theorem State.haltUnits_pending (s : State) (on : Bool) : (State.haltUnits s on).pending = s.pending := by
  simp [State.haltUnits]
@[simp] theorem State.portsDown_pending (s : State) (emulated : Bool) : (State.portsDown s emulated).pending =
    s.pending := by
  simp [State.portsDown]
@[simp] theorem State.sleepRails_pending (s : State) (off : Bool) : (s.sleepRails off).pending = s.pending := by
  simp only [State.sleepRails]
  (repeat' split) <;> (try simp only [State.setVdd_pending, State.pmb_pending]) <;>
    exact foldl_pending _ (fun _ _ => by simp) _ _
@[simp] theorem State.settleTime_pending (s : State) : (State.settleTime s).pending = s.pending := by
  unfold State.settleTime
  (repeat' split) <;> simp
@[simp] theorem State.enterSleep_pending (s : State) (st : PState) (keep : Bool) (cfg : W32) (w : Table W32) :
    (s.enterSleep st keep cfg w).pending = s.pending := by
  have h : ∀ (g : Nat → Alarm → Alarm) (v : State),
      ((List.range 8).foldl (fun (u : State) k => u.setAlarm k (g k (u.alarm k))) v).pending = v.pending := by
    intro g v
    refine foldl_pending _ (fun u a => ?_) _ _
    simp
  have h1 := h fun k a => { a with converted := a.armed && bitq cfg (8 + k) }
  simp only [State.enterSleep]
  split <;> simp [h1]
@[simp] theorem State.wakeFrom_pending (s : State) (w : WakeBy) : (State.wakeFrom s w).pending = s.pending := by
  unfold State.wakeFrom
  (repeat' split) <;> simp
@[simp] theorem State.wakeRails_pending (s : State) : s.wakeRails.pending = s.pending := by
  simp only [State.wakeRails]
  split <;> (try simp only [State.setVdd_pending]) <;> exact foldl_pending _ (fun _ _ => by simp) _ _
@[simp] theorem State.endCycle_pending (s : State) : s.endCycle.pending = s.pending := by
  simp only [State.endCycle]
  exact foldl_pending _ (fun _ _ => by simp) _ _
@[simp] theorem State.fireConverted_pending (s : State) (old : State) : (State.fireConverted s old).pending =
    s.pending := by
  simp [State.fireConverted]
@[simp] theorem State.leaveSleep_pending (s : State) (w : Nat × Nat) : (s.leaveSleep w).pending = s.pending := by
  have h : ∀ (g : Alarm → Alarm) (v : State),
      ((List.range 8).foldl (fun (u : State) k => u.setAlarm k (g (u.alarm k))) v).pending = v.pending := by
    intro g v
    refine foldl_pending _ (fun u a => ?_) _ _
    simp
  simp only [State.leaveSleep, State.fireAll_pending]
  split
  · simp
  · refine (h (fun a => { a with converted := false }) _).trans ?_
    split <;> simp
@[simp] theorem State.setS_pending (s : State) (i : Nat) (v : W32) : (State.setS s i v).pending = s.pending := by
  simp [State.setS]
@[simp] theorem State.drizDrive_pending (s : State) (n : Nat) (v : Option Bool) : (State.drizDrive s n v).pending =
    s.pending := by
  simp [State.drizDrive]
@[simp] theorem State.takeKept_pending (s : State) (d : Drizzle) : (State.takeKept s d).pending = s.pending :=
  foldl_pending _ (fun _ _ => by simp) _ _
@[simp] theorem State.slotSignals_pending (s : State) (slot : Nat × List Nat × W32 × W32) : (State.slotSignals s
    slot).pending = s.pending := by
  simp [State.slotSignals]
@[simp] theorem State.takeSlot_pending (s : State) (slot : Nat × List Nat × W32 × W32) : (State.takeSlot s
    slot).pending = s.pending := by
  simp [State.takeSlot]
@[simp] theorem State.openCycle_pending (s : State) (d : Drizzle) : (State.openCycle s d).pending = s.pending := by
  simp [State.openCycle]
@[simp] theorem State.xferOut_pending (s : State) (x : DrizStep) : (State.xferOut s x).pending = s.pending := by
  unfold State.xferOut
  split
  · rfl
  · exact (foldl_pending _ (fun _ _ => by split <;> simp) _ _).trans rfl
@[simp] theorem State.runSteps_pending (s : State) (i : Nat) (rx : List (List Byte)) (l : List DrizStep) :
    (s.runSteps i rx l).pending = s.pending := by
  induction l generalizing s i rx with
  | nil => simp [State.runSteps]
  | cons h r ih =>
    simp only [State.runSteps]
    split <;> simp [ih]
@[simp] theorem State.drizzleStart_pending (s : State) (d : Drizzle) (rx : List (List Byte)) : (State.drizzleStart s
    d rx).pending = s.pending := by
  unfold State.drizzleStart
  (repeat' split) <;> simp
theorem execAdd_pending (p : Nat) (x : Pfx) (d : Fin 16) (src : Fin 16) (s : State) (t' : State) (h : execAdd p x d
    src s = .next t') : t'.pending = s.pending :=
  State.tileExec_pending h fun _ _ => trivial
theorem execAdc_pending (p : Nat) (x : Pfx) (d : Fin 16) (src : Fin 16) (s : State) (t' : State) (h : execAdc p x d
    src s = .next t') : t'.pending = s.pending :=
  State.tileExec_pending h fun _ _ => trivial
theorem execSub_pending (p : Nat) (x : Pfx) (d : Fin 16) (src : Fin 16) (s : State) (t' : State) (h : execSub p x d
    src s = .next t') : t'.pending = s.pending :=
  State.tileExec_pending h fun _ _ => trivial
theorem execSbc_pending (p : Nat) (x : Pfx) (d : Fin 16) (src : Fin 16) (s : State) (t' : State) (h : execSbc p x d
    src s = .next t') : t'.pending = s.pending :=
  State.tileExec_pending h fun _ _ => trivial
theorem execAnd_pending (p : Nat) (x : Pfx) (d : Fin 16) (src : Fin 16) (s : State) (t' : State) (h : execAnd p x d
    src s = .next t') : t'.pending = s.pending :=
  State.tileExec_pending h fun _ _ => trivial
theorem execOr_pending (p : Nat) (x : Pfx) (d : Fin 16) (src : Fin 16) (s : State) (t' : State) (h : execOr p x d
    src s = .next t') : t'.pending = s.pending :=
  State.tileExec_pending h fun _ _ => trivial
theorem execXor_pending (p : Nat) (x : Pfx) (d : Fin 16) (src : Fin 16) (s : State) (t' : State) (h : execXor p x d
    src s = .next t') : t'.pending = s.pending :=
  State.tileExec_pending h fun _ _ => trivial
theorem execMul_pending (p : Nat) (x : Pfx) (d : Fin 16) (src : Fin 16) (s : State) (t' : State) (h : execMul p x d
    src s = .next t') : t'.pending = s.pending :=
  State.tileExec_pending h fun _ _ => trivial
theorem execMuls_pending (p : Nat) (x : Pfx) (d : Fin 16) (src : Fin 16) (s : State) (t' : State) (h : execMuls p x
    d src s = .next t') : t'.pending = s.pending :=
  State.tileExec_pending h fun _ _ => trivial
theorem execNot_pending (p : Nat) (x : Pfx) (d : Fin 16) (s : State) (t' : State) (h : execNot p x d s = .next t') :
    t'.pending = s.pending :=
  State.tileExec_pending h fun _ _ => trivial
theorem execNeg_pending (p : Nat) (x : Pfx) (d : Fin 16) (s : State) (t' : State) (h : execNeg p x d s = .next t') :
    t'.pending = s.pending :=
  State.tileExec_pending h fun _ _ => trivial
theorem execInc_pending (p : Nat) (x : Pfx) (d : Fin 16) (s : State) (t' : State) (h : execInc p x d s = .next t') :
    t'.pending = s.pending :=
  State.tileExec_pending h fun _ _ => trivial
theorem execDec_pending (p : Nat) (x : Pfx) (d : Fin 16) (s : State) (t' : State) (h : execDec p x d s = .next t') :
    t'.pending = s.pending :=
  State.tileExec_pending h fun _ _ => trivial
theorem execSwap_pending (p : Nat) (x : Pfx) (d : Fin 16) (s : State) (t' : State) (h : execSwap p x d s = .next t')
    : t'.pending = s.pending :=
  State.tileExec_pending h fun _ _ => trivial
theorem execMovp_pending (p : Nat) (x : Pfx) (pd : Fin 8) (ps : Fin 8) (s : State) (t' : State) (h : execMovp p x pd
    ps s = .next t') : t'.pending = s.pending :=
  State.tileExec_pending h fun _ _ => trivial
theorem execMovpw_pending (p : Nat) (x : Pfx) (pd : Fin 8) (src : Fin 16) (s : State) (t' : State) (h : execMovpw p
    x pd src s = .next t') : t'.pending = s.pending :=
  State.tileExec_pending h fun _ _ => trivial
theorem execMovwp_pending (p : Nat) (x : Pfx) (d : Fin 16) (ps : Fin 8) (s : State) (t' : State) (h : execMovwp p x
    d ps s = .next t') : t'.pending = s.pending :=
  State.tileExec_pending h fun _ _ => trivial
theorem execAddpw_pending (p : Nat) (x : Pfx) (pd : Fin 8) (src : Fin 16) (s : State) (t' : State) (h : execAddpw p
    x pd src s = .next t') : t'.pending = s.pending :=
  State.tileExec_pending h fun _ _ => trivial
theorem execAddpb_pending (p : Nat) (x : Pfx) (pd : Fin 8) (src : Fin 16) (s : State) (t' : State) (h : execAddpb p
    x pd src s = .next t') : t'.pending = s.pending :=
  State.tileExec_pending h fun _ _ => trivial
theorem execMovi_pending (p : Nat) (x : Pfx) (d : Fin 16) (imm : W16) (s : State) (t' : State) (h : execMovi p x d
    imm s = .next t') : t'.pending = s.pending :=
  State.tileExec_pending h fun _ _ => trivial
theorem execAddi_pending (p : Nat) (x : Pfx) (d : Fin 16) (imm : W16) (s : State) (t' : State) (h : execAddi p x d
    imm s = .next t') : t'.pending = s.pending :=
  State.tileExec_pending h fun _ _ => trivial
theorem execMovip_pending (p : Nat) (x : Pfx) (pd : Fin 8) (imm : W16) (s : State) (t' : State) (h : execMovip p x
    pd imm s = .next t') : t'.pending = s.pending :=
  State.tileExec_pending h fun _ _ => trivial
theorem execAddip_pending (p : Nat) (x : Pfx) (pd : Fin 8) (simm : Byte) (s : State) (t' : State) (h : execAddip p x
    pd simm s = .next t') : t'.pending = s.pending :=
  State.tileExec_pending h fun _ _ => trivial
theorem execSubi_pending (p : Nat) (x : Pfx) (d : Fin 16) (imm : W16) (s : State) (t' : State) (h : execSubi p x d
    imm s = .next t') : t'.pending = s.pending :=
  State.tileExec_pending h fun _ _ => trivial
theorem execAdci_pending (p : Nat) (x : Pfx) (d : Fin 16) (imm : W16) (s : State) (t' : State) (h : execAdci p x d
    imm s = .next t') : t'.pending = s.pending :=
  State.tileExec_pending h fun _ _ => trivial
theorem execSbci_pending (p : Nat) (x : Pfx) (d : Fin 16) (imm : W16) (s : State) (t' : State) (h : execSbci p x d
    imm s = .next t') : t'.pending = s.pending :=
  State.tileExec_pending h fun _ _ => trivial
theorem execAndi_pending (p : Nat) (x : Pfx) (d : Fin 16) (imm : W16) (s : State) (t' : State) (h : execAndi p x d
    imm s = .next t') : t'.pending = s.pending :=
  State.tileExec_pending h fun _ _ => trivial
theorem execOri_pending (p : Nat) (x : Pfx) (d : Fin 16) (imm : W16) (s : State) (t' : State) (h : execOri p x d imm
    s = .next t') : t'.pending = s.pending :=
  State.tileExec_pending h fun _ _ => trivial
theorem execXori_pending (p : Nat) (x : Pfx) (d : Fin 16) (imm : W16) (s : State) (t' : State) (h : execXori p x d
    imm s = .next t') : t'.pending = s.pending :=
  State.tileExec_pending h fun _ _ => trivial
theorem execShl_pending (p : Nat) (x : Pfx) (d : Fin 16) (c : Fin 16) (s : State) (t' : State) (h : execShl p x d c
    s = .next t') : t'.pending = s.pending :=
  State.tileExec_pending h fun _ _ => trivial
theorem execShr_pending (p : Nat) (x : Pfx) (d : Fin 16) (c : Fin 16) (s : State) (t' : State) (h : execShr p x d c
    s = .next t') : t'.pending = s.pending :=
  State.tileExec_pending h fun _ _ => trivial
theorem execAsr_pending (p : Nat) (x : Pfx) (d : Fin 16) (c : Fin 16) (s : State) (t' : State) (h : execAsr p x d c
    s = .next t') : t'.pending = s.pending :=
  State.tileExec_pending h fun _ _ => trivial
theorem execRol_pending (p : Nat) (x : Pfx) (d : Fin 16) (c : Fin 16) (s : State) (t' : State) (h : execRol p x d c
    s = .next t') : t'.pending = s.pending :=
  State.tileExec_pending h fun _ _ => trivial
theorem execRor_pending (p : Nat) (x : Pfx) (d : Fin 16) (c : Fin 16) (s : State) (t' : State) (h : execRor p x d c
    s = .next t') : t'.pending = s.pending :=
  State.tileExec_pending h fun _ _ => trivial
theorem execRlc_pending (p : Nat) (x : Pfx) (d : Fin 16) (c : Fin 16) (s : State) (t' : State) (h : execRlc p x d c
    s = .next t') : t'.pending = s.pending :=
  State.tileExec_pending h fun _ _ => trivial
theorem execRrc_pending (p : Nat) (x : Pfx) (d : Fin 16) (c : Fin 16) (s : State) (t' : State) (h : execRrc p x d c
    s = .next t') : t'.pending = s.pending :=
  State.tileExec_pending h fun _ _ => trivial
theorem execLd_pending (p : Nat) (x : Pfx) (r : Fin 16) (b : Fin 8) (disp : W16) (s : State) (t' : State) (h :
    execLd p x r b disp s = .next t') : t'.pending = s.pending := by
  refine State.tileExec_pending h fun o n => ?_
  simp only [loadEff]
  try dsimp only
  (repeat' split) <;> first | trivial | (intro u hu; simp [hu]; done) | (intro u hu; (repeat' split) <;> simp [hu])
theorem execSt_pending (p : Nat) (x : Pfx) (r : Fin 16) (b : Fin 8) (disp : W16) (s : State) (t' : State) (h :
    execSt p x r b disp s = .next t') : t'.pending = s.pending := by
  refine State.tileExec_pending h fun o n => ?_
  simp only [storeByteEff]
  try dsimp only
  (repeat' split) <;> first | trivial | (intro u hu; simp [hu]; done) | (intro u hu; (repeat' split) <;> simp [hu])
theorem execLdw_pending (p : Nat) (x : Pfx) (r : Fin 16) (b : Fin 8) (disp : W16) (s : State) (t' : State) (h :
    execLdw p x r b disp s = .next t') : t'.pending = s.pending := by
  refine State.tileExec_pending h fun o n => ?_
  simp only [loadEff]
  try dsimp only
  (repeat' split) <;> first | trivial | (intro u hu; simp [hu]; done) | (intro u hu; (repeat' split) <;> simp [hu])
theorem execStw_pending (p : Nat) (x : Pfx) (r : Fin 16) (b : Fin 8) (disp : W16) (s : State) (t' : State) (h :
    execStw p x r b disp s = .next t') : t'.pending = s.pending := by
  refine State.tileExec_pending h fun o n => ?_
  simp only [storeWordEff]
  try dsimp only
  (repeat' split) <;> first | trivial | (intro u hu; simp [hu]; done) | (intro u hu; (repeat' split) <;> simp [hu])
theorem execLdp_pending (p : Nat) (x : Pfx) (r : Fin 8) (b : Fin 8) (disp : W16) (s : State) (t' : State) (h :
    execLdp p x r b disp s = .next t') : t'.pending = s.pending := by
  refine State.tileExec_pending h fun o n => ?_
  simp only [loadEff]
  try dsimp only
  (repeat' split) <;> first | trivial | (intro u hu; simp [hu]; done) | (intro u hu; (repeat' split) <;> simp [hu])
theorem execStp_pending (p : Nat) (x : Pfx) (r : Fin 8) (b : Fin 8) (disp : W16) (s : State) (t' : State) (h :
    execStp p x r b disp s = .next t') : t'.pending = s.pending := by
  refine State.tileExec_pending h fun o n => ?_
  simp only [storeWordEff]
  try dsimp only
  (repeat' split) <;> first | trivial | (intro u hu; simp [hu]; done) | (intro u hu; (repeat' split) <;> simp [hu])
theorem execLea_pending (p : Nat) (x : Pfx) (r : Fin 8) (b : Fin 8) (disp : W16) (s : State) (t' : State) (h :
    execLea p x r b disp s = .next t') : t'.pending = s.pending :=
  State.tileExec_pending h fun _ _ => trivial
theorem execJmp_pending (p : Nat) (x : Pfx) (target : W16) (s : State) (t' : State) (h : execJmp p x target s =
    .next t') : t'.pending = s.pending :=
  State.tileExec_pending h fun _ _ => trivial
theorem execCall_pending (p : Nat) (x : Pfx) (target : W16) (s : State) (t' : State) (h : execCall p x target s =
    .next t') : t'.pending = s.pending := by
  refine State.tileExec_pending h fun o n => ?_
  simp only [callEff]
  try dsimp only
  (repeat' split) <;> first | trivial | (intro u hu; simp [hu]; done) | (intro u hu; (repeat' split) <;> simp [hu])
theorem execRet_pending (p : Nat) (x : Pfx) (s : State) (t' : State) (h : execRet p x s = .next t') : t'.pending =
    s.pending := by
  refine State.tileExec_pending h fun o n => ?_
  try dsimp only
  (repeat' split) <;> first | trivial | (intro u hu; simp [hu]; done) | (intro u hu; (repeat' split) <;> simp [hu])
theorem execBra_pending (p : Nat) (x : Pfx) (rel : W16) (s : State) (t' : State) (h : execBra p x rel s = .next t')
    : t'.pending = s.pending :=
  State.tileExec_pending h fun _ _ => trivial
theorem execJmpp_pending (p : Nat) (x : Pfx) (b : Fin 8) (s : State) (t' : State) (h : execJmpp p x b s = .next t')
    : t'.pending = s.pending :=
  State.tileExec_pending h fun _ _ => trivial
theorem execCallp_pending (p : Nat) (x : Pfx) (b : Fin 8) (s : State) (t' : State) (h : execCallp p x b s = .next
    t') : t'.pending = s.pending := by
  refine State.tileExec_pending h fun o n => ?_
  simp only [callEff]
  try dsimp only
  (repeat' split) <;> first | trivial | (intro u hu; simp [hu]; done) | (intro u hu; (repeat' split) <;> simp [hu])
theorem execDjnz_pending (p : Nat) (x : Pfx) (d : Fin 16) (rel : Byte) (s : State) (t' : State) (h : execDjnz p x d
    rel s = .next t') : t'.pending = s.pending := by
  refine State.tileExec_pending h fun o n => ?_
  try dsimp only
  (repeat' split) <;> first | trivial | (intro u hu; simp [hu]; done) | (intro u hu; (repeat' split) <;> simp [hu])
theorem execBcc_pending (p : Nat) (x : Pfx) (c : Fin 8) (rel : W16) (s : State) (t' : State) (h : execBcc p x c rel
    s = .next t') : t'.pending = s.pending := by
  refine State.tileExec_pending h fun o n => ?_
  try dsimp only
  (repeat' split) <;> first | trivial | (intro u hu; simp [hu]; done) | (intro u hu; (repeat' split) <;> simp [hu])
theorem execNop_pending (p : Nat) (x : Pfx) (s : State) (t' : State) (h : execNop p x s = .next t') : t'.pending =
    s.pending :=
  State.tileExec_pending h fun _ _ => trivial
theorem execCmpg_pending (p : Nat) (x : Pfx) (c : Fin 8) (d : Fin 16) (src : Fin 16) (g : Fin 8) (s : State) (t' :
    State) (h : execCmpg p x c d src g s = .next t') : t'.pending = s.pending :=
  State.tileExec_pending h fun _ _ => trivial
theorem execCmpgi_pending (p : Nat) (x : Pfx) (c : Fin 8) (d : Fin 16) (g : Fin 8) (imm : W16) (s : State) (t' :
    State) (h : execCmpgi p x c d g imm s = .next t') : t'.pending = s.pending :=
  State.tileExec_pending h fun _ _ => trivial
theorem execDadd_pending (p : Nat) (x : Pfx) (d : Fin 16) (src : Fin 16) (s : State) (t' : State) (h : execDadd p x
    d src s = .next t') : t'.pending = s.pending := by
  refine State.tileExec_pending h fun o n => ?_
  try dsimp only
  (repeat' split) <;> first | trivial | (intro u hu; simp [hu]; done) | (intro u hu; (repeat' split) <;> simp [hu])
theorem execDsub_pending (p : Nat) (x : Pfx) (d : Fin 16) (src : Fin 16) (s : State) (t' : State) (h : execDsub p x
    d src s = .next t') : t'.pending = s.pending := by
  refine State.tileExec_pending h fun o n => ?_
  try dsimp only
  (repeat' split) <;> first | trivial | (intro u hu; simp [hu]; done) | (intro u hu; (repeat' split) <;> simp [hu])
theorem execDadj_pending (p : Nat) (x : Pfx) (d : Fin 16) (m : Bool) (s : State) (t' : State) (h : execDadj p x d m
    s = .next t') : t'.pending = s.pending := by
  refine State.tileExec_pending h fun o n => ?_
  try dsimp only
  (repeat' split) <;> first | trivial | (intro u hu; simp [hu]; done) | (intro u hu; (repeat' split) <;> simp [hu])
theorem execDshl_pending (p : Nat) (x : Pfx) (d : Fin 16) (src : Fin 16) (s : State) (t' : State) (h : execDshl p x
    d src s = .next t') : t'.pending = s.pending :=
  State.tileExec_pending h fun _ _ => trivial
theorem execDshr_pending (p : Nat) (x : Pfx) (d : Fin 16) (src : Fin 16) (s : State) (t' : State) (h : execDshr p x
    d src s = .next t') : t'.pending = s.pending :=
  State.tileExec_pending h fun _ _ => trivial
theorem execB2d_pending (p : Nat) (x : Pfx) (d : Fin 16) (src : Fin 16) (s : State) (t' : State) (h : execB2d p x d
    src s = .next t') : t'.pending = s.pending := by
  refine State.tileExec_pending h fun o n => ?_
  try dsimp only
  (repeat' split) <;> first | trivial | (intro u hu; simp [hu]; done) | (intro u hu; (repeat' split) <;> simp [hu])
theorem execD2b_pending (p : Nat) (x : Pfx) (d : Fin 16) (src : Fin 16) (s : State) (t' : State) (h : execD2b p x d
    src s = .next t') : t'.pending = s.pending := by
  refine State.tileExec_pending h fun o n => ?_
  try dsimp only
  (repeat' split) <;> first | trivial | (intro u hu; simp [hu]; done) | (intro u hu; (repeat' split) <;> simp [hu])
theorem execBset_pending (p : Nat) (x : Pfx) (d : Fin 16) (b : Fin 8) (s : State) (t' : State) (h : execBset p x d b
    s = .next t') : t'.pending = s.pending :=
  State.tileExec_pending h fun _ _ => trivial
theorem execBclr_pending (p : Nat) (x : Pfx) (d : Fin 16) (b : Fin 8) (s : State) (t' : State) (h : execBclr p x d b
    s = .next t') : t'.pending = s.pending :=
  State.tileExec_pending h fun _ _ => trivial
theorem execBtgl_pending (p : Nat) (x : Pfx) (d : Fin 16) (b : Fin 8) (s : State) (t' : State) (h : execBtgl p x d b
    s = .next t') : t'.pending = s.pending :=
  State.tileExec_pending h fun _ _ => trivial
theorem execBtst_pending (p : Nat) (x : Pfx) (d : Fin 16) (b : Fin 8) (i : Bool) (g : Fin 8) (s : State) (t' :
    State) (h : execBtst p x d b i g s = .next t') : t'.pending = s.pending :=
  State.tileExec_pending h fun _ _ => trivial
theorem execGand_pending (p : Nat) (x : Pfx) (g : Fin 8) (a : Fin 8) (b : Fin 8) (i : Bool) (s : State) (t' : State)
    (h : execGand p x g a b i s = .next t') : t'.pending = s.pending :=
  State.tileExec_pending h fun _ _ => trivial
theorem execGor_pending (p : Nat) (x : Pfx) (g : Fin 8) (a : Fin 8) (b : Fin 8) (i : Bool) (s : State) (t' : State)
    (h : execGor p x g a b i s = .next t') : t'.pending = s.pending :=
  State.tileExec_pending h fun _ _ => trivial
theorem execGxor_pending (p : Nat) (x : Pfx) (g : Fin 8) (a : Fin 8) (b : Fin 8) (i : Bool) (s : State) (t' : State)
    (h : execGxor p x g a b i s = .next t') : t'.pending = s.pending :=
  State.tileExec_pending h fun _ _ => trivial
theorem execGmov_pending (p : Nat) (x : Pfx) (g : Fin 8) (a : Fin 8) (s : State) (t' : State) (h : execGmov p x g a
    s = .next t') : t'.pending = s.pending :=
  State.tileExec_pending h fun _ _ => trivial
theorem execGtod_pending (p : Nat) (x : Pfx) (d : Fin 16) (s : State) (t' : State) (h : execGtod p x d s = .next t')
    : t'.pending = s.pending :=
  State.tileExec_pending h fun _ _ => trivial
theorem execDtog_pending (p : Nat) (x : Pfx) (src : Fin 16) (s : State) (t' : State) (h : execDtog p x src s = .next
    t') : t'.pending = s.pending :=
  State.tileExec_pending h fun _ _ => trivial
theorem execSend_pending (p : Nat) (x : Pfx) (b : Fin 8) (g : Fin 8) (s : State) (t' : State) (h : execSend p x b g
    s = .next t') : t'.pending = s.pending := by
  refine State.tileExec_pending h fun o n => ?_
  try dsimp only
  (repeat' split) <;> first | trivial | (intro u hu; simp [hu]; done) | (intro u hu; (repeat' split) <;> simp [hu])
@[simp] theorem State.noteFails_pending (s : State) (p : Nat) (addr : Nat) (arg : Nat) (l : List ReqFail) :
    (State.noteFails s p addr arg l).pending = s.pending := by
  simp only [State.noteFails]
  refine foldl_pending _ (fun u a => ?_) _ _
  (repeat' split) <;> simp
theorem State.gateInstr_pending (s : State) (p addr opc target : Nat) (entry : W32) (r : Reply)
    (apply : State → Nat → State × Option Result) (fin : Option Result → Tile → Tile)
    (h : ∀ u n, (apply u n).1.pending = u.pending) :
    (s.gateInstr p addr opc target entry r apply fin).pending = s.pending := by
  have key : ∀ f : State → Nat → State × Option Result, (∀ u n, (f u n).1.pending = u.pending) →
      ((s.gateOp p addr opc target entry f).getD (s, none)).1.pending = s.pending := by
    intro f hf
    simp only [State.gateOp]
    (repeat' split) <;> simp [hf]
  have lost := key (fun u n => (u, u.outcomeOf addr p n)) (fun _ _ => rfl)
  cases r with
  | good => simp [State.gateInstr, key apply h]
  | beaten => simp [State.gateInstr, key apply h]
  | found l => simp [State.gateInstr, key apply h]
  | missed l => simp [State.gateInstr, lost]
  | lost b l => cases b <;> simp [State.gateInstr, lost, key apply h]
theorem execQpush_pending (p : Nat) (x : Pfx) (d : Fin 16) (q : W16) (g : Fin 8) (r : Reply) (s : State) (t' :
    State) (h : execQpush p x d q g r s = .next t') : t'.pending = s.pending := by
  refine State.tileExecW_pending h fun o n => ?_
  (repeat' split) <;>
    first
    | trivial
    | exact fun u hu => (State.gateInstr_pending _ _ _ _ _ _ _ _ _ (by simp)).trans hu
    | (intro u hu; refine (State.gateInstr_pending _ _ _ _ _ _ _ _ _ (fun v m => ?_)).trans hu; split <;> simp)
    | (intro u hu; (repeat' split) <;> simp [hu])
theorem execQpop_pending (p : Nat) (x : Pfx) (d : Fin 16) (q : W16) (g : Fin 8) (r : Reply) (s : State) (t' : State)
    (h : execQpop p x d q g r s = .next t') : t'.pending = s.pending := by
  refine State.tileExecW_pending h fun o n => ?_
  (repeat' split) <;>
    first
    | trivial
    | exact fun u hu => (State.gateInstr_pending _ _ _ _ _ _ _ _ _ (by simp)).trans hu
    | (intro u hu; refine (State.gateInstr_pending _ _ _ _ _ _ _ _ _ (fun v m => ?_)).trans hu; split <;> simp)
    | (intro u hu; (repeat' split) <;> simp [hu])
theorem execTready_pending (p : Nat) (x : Pfx) (d : Fin 16) (g : Fin 8) (r : Reply) (s : State) (t' : State) (h :
    execTready p x d g r s = .next t') : t'.pending = s.pending := by
  refine State.tileExecW_pending h fun o n => ?_
  (repeat' split) <;>
    first
    | trivial
    | exact fun u hu => (State.gateInstr_pending _ _ _ _ _ _ _ _ _ (by simp)).trans hu
    | (intro u hu; refine (State.gateInstr_pending _ _ _ _ _ _ _ _ _ (fun v m => ?_)).trans hu; split <;> simp)
    | (intro u hu; (repeat' split) <;> simp [hu])
theorem execTcancel_pending (p : Nat) (x : Pfx) (d : Fin 16) (g : Fin 8) (r : Reply) (s : State) (t' : State) (h :
    execTcancel p x d g r s = .next t') : t'.pending = s.pending := by
  refine State.tileExecW_pending h fun o n => ?_
  (repeat' split) <;>
    first
    | trivial
    | exact fun u hu => (State.gateInstr_pending _ _ _ _ _ _ _ _ _ (by simp)).trans hu
    | (intro u hu; refine (State.gateInstr_pending _ _ _ _ _ _ _ _ _ (fun v m => ?_)).trans hu; split <;> simp)
    | (intro u hu; (repeat' split) <;> simp [hu])
theorem execTdone_pending (p : Nat) (x : Pfx) (r : Reply) (s : State) (t' : State) (h : execTdone p x r s = .next
    t') : t'.pending = s.pending := by
  refine State.tileExecW_pending h fun o n => ?_
  (repeat' split) <;>
    first
    | trivial
    | exact fun u hu => (State.gateInstr_pending _ _ _ _ _ _ _ _ _ (by simp)).trans hu
    | (intro u hu; refine (State.gateInstr_pending _ _ _ _ _ _ _ _ _ (fun v m => ?_)).trans hu; split <;> simp)
    | (intro u hu; (repeat' split) <;> simp [hu])
theorem execTime_pending (p : Nat) (x : Pfx) (b : Fin 8) (g : Fin 8) (r : Reply) (s : State) (t' : State) (h :
    execTime p x b g r s = .next t') : t'.pending = s.pending := by
  refine State.tileExec_pending h fun o n => ?_
  try dsimp only
  (repeat' split) <;> first | trivial | (intro u hu; simp [hu]; done) | (intro u hu; (repeat' split) <;> simp [hu])
theorem execStim_pending (p : Nat) (x : Pfx) (port : Fin 32) (d : Fin 16) (n : Fin 8) (s : State) (t' : State) (h :
    execStim p x port d n s = .next t') : t'.pending = s.pending := by
  refine State.tileExec_pending h fun o n => ?_
  try dsimp only
  (repeat' split) <;> first | trivial | (intro u hu; simp [hu]; done) | (intro u hu; (repeat' split) <;> simp [hu])
theorem execSleep_pending (p : Nat) (x : Pfx) (s : State) (t' : State) (h : execSleep p x s = .next t') : t'.pending
    = s.pending := by
  refine State.tileExec_pending h fun o n => ?_
  try dsimp only
  (repeat' split) <;> first | trivial | (intro u hu; simp [hu]; done) | (intro u hu; (repeat' split) <;> simp [hu])
theorem execGets_pending (p : Nat) (x : Pfx) (d : Fin 16) (sys : Byte) (s : State) (t' : State) (h : execGets p x d
    sys s = .next t') : t'.pending = s.pending :=
  State.tileExec_pending h fun _ _ => trivial
theorem execSets_pending (p : Nat) (x : Pfx) (src : Fin 16) (sys : Byte) (s : State) (t' : State) (h : execSets p x
    src sys s = .next t') : t'.pending = s.pending :=
  State.tileExec_pending h fun _ _ => trivial
theorem execRete_pending (p : Nat) (x : Pfx) (s : State) (t' : State) (h : execRete p x s = .next t') : t'.pending =
    s.pending := by
  refine State.tileExec_pending h fun o n => ?_
  try dsimp only
  (repeat' split) <;> first | trivial | (intro u hu; simp [hu]; done) | (intro u hu; (repeat' split) <;> simp [hu])
theorem execTrap_pending (p : Nat) (x : Pfx) (imm : Byte) (s : State) (t' : State) (h : execTrap p x imm s = .next
    t') : t'.pending = s.pending := by
  refine State.tileExec_pending h fun o n => ?_
  try dsimp only
  (repeat' split) <;> first | trivial | (intro u hu; simp [hu]; done) | (intro u hu; (repeat' split) <;> simp [hu])
theorem execFence_pending (p : Nat) (x : Pfx) (s : State) (t' : State) (h : execFence p x s = .next t') : t'.pending
    = s.pending := by
  refine State.tileExec_pending h fun o n => ?_
  try dsimp only
  (repeat' split) <;> first | trivial | (intro u hu; simp [hu]; done) | (intro u hu; (repeat' split) <;> simp [hu])
theorem State.custom_pending {s t : State} {p : Nat} {x : Pfx} {c : CustomArgs}
    {run : CustomArgs → List W24 → UCtx → Eff} (e : s.custom p x c run = .next t)
    (h : ∀ f us k, (run f us k).KeepsQueue s) : t.pending = s.pending := by
  refine State.tileExec_pending e fun o n => ?_
  split
  · trivial
  · split
    · trivial
    · exact h _ _ _
theorem custPlain_keepsQueue (s : State) (f : CustomArgs) (us : List W24) (k : UCtx) :
    (custPlain f us k).KeepsQueue s := by
  unfold custPlain
  split
  · trivial
  · exact fun _ hu => hu
theorem execMov_pending (p : Nat) (f : MovForm) (s t : State) (h : execMov p f s = .next t) : t.pending = s.pending
    := by
  cases f with
  | copy x d src => exact State.tileExec_pending h fun _ _ => trivial
  | decodeTrap bs =>
    simp only [execMov] at h
    split at h
    · have := ok_next h
      subst this
      have hq : ∀ k c, (s.tileStep p k ⟨none, false⟩ c fun _ n => .go n).pending = s.pending := fun k c =>
        State.tileStep_pending s s p k _ c _ rfl fun _ _ => trivial
      simp [hq]
    · have := ok_next h
      subst this
      rfl
theorem tileRun_pending (i : Instr) (s t : State) (h : tileRun i s = .next t) : t.pending = s.pending := by
  cases i
  case mov => exact execMov_pending _ _ _ _ h
  case add => exact execAdd_pending _ _ _ _ _ _ h
  case adc => exact execAdc_pending _ _ _ _ _ _ h
  case sub => exact execSub_pending _ _ _ _ _ _ h
  case sbc => exact execSbc_pending _ _ _ _ _ _ h
  case and => exact execAnd_pending _ _ _ _ _ _ h
  case or => exact execOr_pending _ _ _ _ _ _ h
  case xor => exact execXor_pending _ _ _ _ _ _ h
  case mul => exact execMul_pending _ _ _ _ _ _ h
  case muls => exact execMuls_pending _ _ _ _ _ _ h
  case not => exact execNot_pending _ _ _ _ _ h
  case neg => exact execNeg_pending _ _ _ _ _ h
  case inc => exact execInc_pending _ _ _ _ _ h
  case dec => exact execDec_pending _ _ _ _ _ h
  case swap => exact execSwap_pending _ _ _ _ _ h
  case movp => exact execMovp_pending _ _ _ _ _ _ h
  case movpw => exact execMovpw_pending _ _ _ _ _ _ h
  case movwp => exact execMovwp_pending _ _ _ _ _ _ h
  case addpw => exact execAddpw_pending _ _ _ _ _ _ h
  case addpb => exact execAddpb_pending _ _ _ _ _ _ h
  case movi => exact execMovi_pending _ _ _ _ _ _ h
  case addi => exact execAddi_pending _ _ _ _ _ _ h
  case movip => exact execMovip_pending _ _ _ _ _ _ h
  case addip => exact execAddip_pending _ _ _ _ _ _ h
  case subi => exact execSubi_pending _ _ _ _ _ _ h
  case adci => exact execAdci_pending _ _ _ _ _ _ h
  case sbci => exact execSbci_pending _ _ _ _ _ _ h
  case andi => exact execAndi_pending _ _ _ _ _ _ h
  case ori => exact execOri_pending _ _ _ _ _ _ h
  case xori => exact execXori_pending _ _ _ _ _ _ h
  case shl => exact execShl_pending _ _ _ _ _ _ h
  case shr => exact execShr_pending _ _ _ _ _ _ h
  case asr => exact execAsr_pending _ _ _ _ _ _ h
  case rol => exact execRol_pending _ _ _ _ _ _ h
  case ror => exact execRor_pending _ _ _ _ _ _ h
  case rlc => exact execRlc_pending _ _ _ _ _ _ h
  case rrc => exact execRrc_pending _ _ _ _ _ _ h
  case ld => exact execLd_pending _ _ _ _ _ _ _ h
  case st => exact execSt_pending _ _ _ _ _ _ _ h
  case ldw => exact execLdw_pending _ _ _ _ _ _ _ h
  case stw => exact execStw_pending _ _ _ _ _ _ _ h
  case ldp => exact execLdp_pending _ _ _ _ _ _ _ h
  case stp => exact execStp_pending _ _ _ _ _ _ _ h
  case lea => exact execLea_pending _ _ _ _ _ _ _ h
  case jmp => exact execJmp_pending _ _ _ _ _ h
  case call => exact execCall_pending _ _ _ _ _ h
  case ret => exact execRet_pending _ _ _ _ h
  case bra => exact execBra_pending _ _ _ _ _ h
  case jmpp => exact execJmpp_pending _ _ _ _ _ h
  case callp => exact execCallp_pending _ _ _ _ _ h
  case djnz => exact execDjnz_pending _ _ _ _ _ _ h
  case bcc => exact execBcc_pending _ _ _ _ _ _ h
  case nop => exact execNop_pending _ _ _ _ h
  case cmpg => exact execCmpg_pending _ _ _ _ _ _ _ _ h
  case cmpgi => exact execCmpgi_pending _ _ _ _ _ _ _ _ h
  case dadd => exact execDadd_pending _ _ _ _ _ _ h
  case dsub => exact execDsub_pending _ _ _ _ _ _ h
  case dadj => exact execDadj_pending _ _ _ _ _ _ h
  case dshl => exact execDshl_pending _ _ _ _ _ _ h
  case dshr => exact execDshr_pending _ _ _ _ _ _ h
  case b2d => exact execB2d_pending _ _ _ _ _ _ h
  case d2b => exact execD2b_pending _ _ _ _ _ _ h
  case bset => exact execBset_pending _ _ _ _ _ _ h
  case bclr => exact execBclr_pending _ _ _ _ _ _ h
  case btgl => exact execBtgl_pending _ _ _ _ _ _ h
  case btst => exact execBtst_pending _ _ _ _ _ _ _ _ h
  case gand => exact execGand_pending _ _ _ _ _ _ _ _ h
  case gor => exact execGor_pending _ _ _ _ _ _ _ _ h
  case gxor => exact execGxor_pending _ _ _ _ _ _ _ _ h
  case gmov => exact execGmov_pending _ _ _ _ _ _ h
  case gtod => exact execGtod_pending _ _ _ _ _ h
  case dtog => exact execDtog_pending _ _ _ _ _ h
  case send => exact execSend_pending _ _ _ _ _ _ h
  case qpush => exact execQpush_pending _ _ _ _ _ _ _ _ h
  case qpop => exact execQpop_pending _ _ _ _ _ _ _ _ h
  case time => exact execTime_pending _ _ _ _ _ _ _ h
  case stim => exact execStim_pending _ _ _ _ _ _ _ h
  case sleep => exact execSleep_pending _ _ _ _ h
  case tready => exact execTready_pending _ _ _ _ _ _ _ h
  case tcancel => exact execTcancel_pending _ _ _ _ _ _ _ h
  case tdone => exact execTdone_pending _ _ _ _ _ h
  case gets => exact execGets_pending _ _ _ _ _ _ h
  case sets => exact execSets_pending _ _ _ _ _ _ h
  case rete => exact execRete_pending _ _ _ _ h
  case trap => exact execTrap_pending _ _ _ _ _ h
  case fence => exact execFence_pending _ _ _ _ h
  case customInstruction => exact State.custom_pending h (custPlain_keepsQueue s)
  all_goals cases h; rfl
@[simp] theorem State.setPath_pending (s : State) (m : Nat) (d : DbgPath) : (State.setPath s m d).pending =
    s.pending := by
  simp [State.setPath]
@[simp] theorem State.resumeAll_pending (s : State) : (State.resumeAll s).pending = s.pending := by
  simp [State.resumeAll]
@[simp] theorem State.traceFrost_pending (s : State) (on : Bool) : (State.traceFrost s on).pending = s.pending := by
  simp [State.traceFrost]
@[simp] theorem State.enterFrost_pending (s : State) : (State.enterFrost s).pending = s.pending := by
  simp [State.enterFrost]
@[simp] theorem State.shiftTimes_pending (s : State) (d : Nat) : (State.shiftTimes s d).pending = s.pending := by
  simp [State.shiftTimes]
@[simp] theorem State.lateAlarms_pending (s : State) : (State.lateAlarms s).pending = s.pending := by
  simp [State.lateAlarms]
@[simp] theorem State.leaveFrost_pending (s : State) : (State.leaveFrost s).pending = s.pending := by
  simp [State.leaveFrost]
@[simp] theorem State.dbgName_pending (s : State) (t : Nat) : (State.dbgName s t).pending = s.pending := by
  simp [State.dbgName]
theorem State.onDbgTile_pending (s : State) (t : Nat) (f : State → Nat → State)
    (h : ∀ u p, (f u p).pending = u.pending) : (s.onDbgTile t f).pending = s.pending := by
  simp only [State.onDbgTile]
  (repeat' split) <;> simp [h]
@[simp] theorem State.askHalt_pending (s : State) (p : Nat) (on : Bool) : (State.askHalt s p on).pending = s.pending
    := by
  simp [State.askHalt]
@[simp] theorem State.dbgHalt_pending (s : State) (p : Nat) : (State.dbgHalt s p).pending = s.pending := by
  simp [State.dbgHalt]
@[simp] theorem State.tickHalts_pending (s : State) : (State.tickHalts s).pending = s.pending := by
  simp [State.tickHalts]
@[simp] theorem State.dbgResume_pending (s : State) (p : Nat) : (State.dbgResume s p).pending = s.pending := by
  simp [State.dbgResume]
@[simp] theorem State.runOne_pending (s : State) (p : Nat) : (s.runOne p).pending = s.pending := by
  simp only [State.runOne]
  split
  · simp
  · split
    · rename_i h; exact tileRun_pending _ _ _ h
    · rfl
@[simp] theorem State.dbgStep_pending (s : State) (p : Nat) : (State.dbgStep s p).pending = s.pending := by
  simp [State.dbgStep]
@[simp] theorem State.writeDbgTile_pending (s : State) (op t : Nat) : (s.writeDbgTile op t).pending = s.pending := by
  simp only [State.writeDbgTile]
  split
  · rfl
  · exact State.onDbgTile_pending _ _ _ (fun _ _ => by split <;> simp)
@[simp] theorem State.setPatch_pending (s : State) (u : Nat) (v : Patch) : (State.setPatch s u v).pending =
    s.pending := by
  simp [State.setPatch]
@[simp] theorem State.writePatchAddr_pending (s : State) (u : Nat) (v : W32) : (State.writePatchAddr s u v).pending
    = s.pending := by
  simp [State.writePatchAddr]
@[simp] theorem State.writePatchData_pending (s : State) (u : Nat) (v : W32) : (State.writePatchData s u v).pending
    = s.pending := by
  simp [State.writePatchData]
@[simp] theorem State.loadIr_pending (s : State) (ir : Nat) : (State.loadIr s ir).pending = s.pending := by
  simp [State.loadIr]
@[simp] theorem State.dmaFail_pending (s : State) (ch : Nat) (status : Nat) : (State.dmaFail s ch status).pending =
    s.pending := by
  simp [State.dmaFail]
@[simp] theorem State.dmaRead_pending (s : State) (ch full len : Nat) : (s.dmaRead ch full len).pending = s.pending
    := by
  simp only [State.dmaRead]
  (repeat' split) <;> simp
@[simp] theorem State.dmaWrite_pending (s : State) (ch full off : Nat) (fixed : Bool) (data : List Byte) :
    (s.dmaWrite ch full off fixed data).pending = s.pending := by
  simp only [State.dmaWrite]
  (repeat' split) <;> simp
@[simp] theorem State.dmaFetch_pending (s : State) (ch : Nat) (a : Nat) : (State.dmaFetch s ch a).pending =
    s.pending := by
  simp [State.dmaFetch]
@[simp] theorem State.dmaOwnErr_pending (s : State) (ch : Nat) : (State.dmaOwnErr s ch).pending = s.pending := by
  simp [State.dmaOwnErr]
@[simp] theorem State.dmaStart_pending (s : State) (ch : Nat) : (State.dmaStart s ch).pending = s.pending := by
  simp [State.dmaStart]
@[simp] theorem State.dmaStopReq_pending (s : State) (ch : Nat) : (State.dmaStopReq s ch).pending = s.pending := by
  simp [State.dmaStopReq]
@[simp] theorem State.writeDmaCtl_pending (s : State) (master : Nat) (ch : Nat) (v : W32) : (State.writeDmaCtl s
    master ch v).pending = s.pending := by
  simp [State.writeDmaCtl]
@[simp] theorem State.writeDmaReg_pending (s : State) (master : Nat) (ch : Nat) (off : Nat) (v : W32) :
    (State.writeDmaReg s master ch off v).pending = s.pending := by
  unfold State.writeDmaReg
  (repeat' split) <;> simp
@[simp] theorem State.dmaRegWrite_pending (s : State) (master : Nat) (o : Nat) (v : W32) : (State.dmaRegWrite s
    master o v).pending = s.pending := by
  simp [State.dmaRegWrite]
@[simp] theorem State.dmaGotDesc_pending (s : State) (ch : Nat) (b : List Byte) : (State.dmaGotDesc s ch b).pending
    = s.pending := by
  simp [State.dmaGotDesc]
@[simp] theorem State.dmaGotData_pending (s : State) (ch : Nat) (b : List Byte) : (State.dmaGotData s ch b).pending
    = s.pending := by
  simp [State.dmaGotData]
@[simp] theorem State.dmaAcked_pending (s : State) (ch : Nat) (tag : Nat) : (State.dmaAcked s ch tag).pending =
    s.pending := by
  simp [State.dmaAcked]
@[simp] theorem State.dmaErrored_pending (s : State) (ch : Nat) (tag : Nat) (status : Nat) : (State.dmaErrored s ch
    tag status).pending = s.pending := by
  simp [State.dmaErrored]
@[simp] theorem State.dmaResend_pending (s : State) (ch : Nat) (u : DmaReq) : (State.dmaResend s ch u).pending =
    s.pending := by
  simp [State.dmaResend]
@[simp] theorem State.dmaResponse_pending (s : State) (r : Resp) : (State.dmaResponse s r).pending = s.pending := by
  simp only [State.dmaResponse]
  (repeat' split) <;> simp
@[simp] theorem State.issueReads_pending (s : State) (e : Nat) : (State.issueReads s e).pending = s.pending := by
  simp only [State.issueReads]
  refine foldl_pending _ (fun u a => ?_) _ _
  (repeat' split) <;> simp
@[simp] theorem State.stageBeat_pending (s : State) (ch : Nat) : (State.stageBeat s ch).pending = s.pending := by
  simp [State.stageBeat]
@[simp] theorem State.preempts_pending (s : State) (e : Nat) (k : Nat) : (State.preempts s e k).pending = s.pending
    := by
  simp only [State.preempts]
  refine foldl_pending _ (fun u a => ?_) _ _
  (repeat' split) <;> simp
@[simp] theorem State.noPreempts_pending (s : State) (e : Nat) : (State.noPreempts s e).pending = s.pending := by
  simp only [State.noPreempts]
  refine foldl_pending _ (fun u a => ?_) _ _
  (repeat' split) <;> simp
@[simp] theorem State.moveBeat_pending (s : State) (e : Nat) (k : Nat) : (State.moveBeat s e k).pending = s.pending
    := by
  simp only [State.moveBeat]
  (repeat' split) <;> simp
@[simp] theorem State.dmaFinish_pending (s : State) (ch : Nat) (status : Nat) : (State.dmaFinish s ch
    status).pending = s.pending := by
  simp [State.dmaFinish]
@[simp] theorem State.dmaEnd_pending (s : State) (ch : Nat) : (State.dmaEnd s ch).pending = s.pending := by
  simp [State.dmaEnd]
@[simp] theorem State.rdCap_pending (s : State) (w : Who) (mute : Bool) (o : Nat) : (State.rdCap s w mute
    o).1.pending = s.pending := by
  unfold State.rdCap
  (repeat' split) <;> simp
@[simp] theorem State.wrDoorbell_pending (s : State) (w : Who) (o : Nat) (v : W32) : (State.wrDoorbell s w o
    v).pending = s.pending := by
  unfold State.wrDoorbell
  (repeat' split) <;> simp
@[simp] theorem State.wrMbxByte_pending (s : State) (w : Who) (o : Nat) (b : Byte) : (State.wrMbxByte s w o
    b).pending = s.pending := by
  simp [State.wrMbxByte]
@[simp] theorem State.rdEvr_pending (s : State) (o : Nat) : (State.rdEvr s o).1.pending = s.pending := by
  simp [State.rdEvr]
@[simp] theorem State.wrEvr_pending (s : State) (own : Nat) (o : Nat) (v : W32) : (State.wrEvr s own o v).pending =
    s.pending := by
  simp [State.wrEvr]
@[simp] theorem State.rdTime_pending (s : State) (o : Nat) : (State.rdTime s o).1.pending = s.pending := by
  unfold State.rdTime
  (repeat' split) <;> simp
@[simp] theorem State.timeOwned_pending (s : State) (own : Nat) (t : TimeUnit) : (State.timeOwned s own t).pending =
    s.pending := by
  simp [State.timeOwned]
@[simp] theorem State.wrTime_pending (s : State) (own : Nat) (o : Nat) (v : W32) : (State.wrTime s own o v).pending
    = s.pending := by
  unfold State.wrTime
  (repeat' split) <;> simp
@[simp] theorem State.rdPins_pending (s : State) (o : Nat) : (State.rdPins s o).1.pending = s.pending := by
  unfold State.rdPins
  (repeat' split) <;> simp
@[simp] theorem State.wrPins_pending (s : State) (own : Nat) (o : Nat) (v : W32) : (State.wrPins s own o v).pending
    = s.pending := by
  simp [State.wrPins]
@[simp] theorem State.rdTimer_pending (s : State) (o : Nat) : (State.rdTimer s o).1.pending = s.pending := by
  simp [State.rdTimer]
@[simp] theorem State.rdSer_pending (s : State) (mute : Bool) (o : Nat) : (State.rdSer s mute o).1.pending =
    s.pending := by
  unfold State.rdSer
  (repeat' split) <;> simp
@[simp] theorem State.rdQueue_pending (s : State) (w : Who) (o : Nat) : (State.rdQueue s w o).1.pending = s.pending
    := by
  unfold State.rdQueue
  (repeat' split) <;> simp
@[simp] theorem State.writeConsumer_pending (s : State) (q : Nat) (v : W32) : (State.writeConsumer s q v).pending =
    s.pending := by
  simp [State.writeConsumer]
@[simp] theorem State.wrQueue_pending (s : State) (own : Nat) (o : Nat) (v : W32) : (State.wrQueue s own o
    v).pending = s.pending := by
  unfold State.wrQueue
  (repeat' split) <;> simp
@[simp] theorem State.rdPool_pending (s : State) (o : Nat) : (State.rdPool s o).1.pending = s.pending := by
  unfold State.rdPool
  (repeat' split) <;> simp
@[simp] theorem State.wrPool_pending (s : State) (own : Nat) (o : Nat) (v : W32) : (State.wrPool s own o v).pending
    = s.pending := by
  unfold State.wrPool
  (repeat' split) <;> simp
@[simp] theorem State.rcStream_pending (s : State) (k : Nat) (n : Nat) (c : StreamCnt) : (State.rcStream s k n
    c).1.pending = s.pending := by
  simp [State.rcStream]
@[simp] theorem State.rdStream_pending (s : State) (k : Nat) (o : Nat) : (State.rdStream s k o).1.pending =
    s.pending := by
  unfold State.rdStream
  (repeat' split) <;> simp
@[simp] theorem State.rdEngine_pending (s : State) (o : Nat) : (State.rdEngine s o).1.pending = s.pending := by
  unfold State.rdEngine
  (repeat' split) <;> simp
@[simp] theorem State.wrEngine_pending (s : State) (own : Nat) (o : Nat) (v : W32) : (State.wrEngine s own o
    v).pending = s.pending := by
  unfold State.wrEngine
  (repeat' split) <;> simp
@[simp] theorem State.rdDisp_pending (s : State) (w : Who) (c : Nat) (o : Nat) : (State.rdDisp s w c o).1.pending =
    s.pending := by
  unfold State.rdDisp
  (repeat' split) <;> simp
@[simp] theorem State.wrDisp_pending (s : State) (w : Who) (c : Nat) (o : Nat) (v : W32) : (State.wrDisp s w c o
    v).pending = s.pending := by
  unfold State.wrDisp
  (repeat' split) <;> simp
@[simp] theorem State.rdDebug_pending (s : State) (o : Nat) : (State.rdDebug s o).1.pending = s.pending := by
  unfold State.rdDebug
  (repeat' split) <;> simp
@[simp] theorem State.wrDebug_pending (s : State) (o : Nat) (v : W32) : (State.wrDebug s o v).pending = s.pending :=
    by
  unfold State.wrDebug
  (repeat' split) <;> simp
@[simp] theorem State.rdWord_pending (s : State) (w : Who) (mute : Bool) (a : Nat) : (State.rdWord s w mute
    a).1.pending = s.pending := by
  unfold State.rdWord
  (repeat' split) <;> simp
@[simp] theorem State.wrWord_pending (s : State) (w : Who) (a : Nat) (v : W32) : (State.wrWord s w a v).pending =
    s.pending := by
  unfold State.wrWord
  (repeat' split) <;> simp
theorem readWords_pending (rd : State → Nat → State × List Byte) (h : ∀ u i, (rd u i).1.pending = u.pending)
    (l : List Nat) (x : State × List Byte) :
    (l.foldl (fun y i => ((rd y.1 i).1, y.2 ++ (rd y.1 i).2)) x).1.pending = x.1.pending := by
  induction l generalizing x with
  | nil => rfl
  | cons a r ih => rw [List.foldl_cons, ih, h]
@[simp] theorem State.rdRegs_pending (s : State) (w : Who) (mute : Bool) (a n : Nat) :
    (s.rdRegs w mute a n).1.pending = s.pending := by
  simp only [State.rdRegs]
  split
  · simp
  · split
    · simp
    · split
      · rfl
      · exact readWords_pending
          (fun u i => ((u.rdWord w mute (a / 4 * 4 + 4 * i)).1, leBytes (u.rdWord w mute (a / 4 * 4 + 4 * i)).2 4))
          (fun _ _ => by simp) _ (s, [])
@[simp] theorem State.serveWindow_pending (s : State) (m : Msg) (p : Nat) : (State.serveWindow s m p).1.pending =
    s.pending := by
  simp [State.serveWindow]
@[simp] theorem State.rdUnit_pending (s : State) (w : Who) (a : Nat) (n : Nat) : (State.rdUnit s w a n).1.pending =
    s.pending := by
  simp [State.rdUnit]
@[simp] theorem State.wrFlit_pending (s : State) (w : Who) (a : Nat) (bs : List Byte) : (State.wrFlit s w a
    bs).pending = s.pending := by
  simp [State.wrFlit]
@[simp] theorem State.wrFlits_pending (s : State) (w : Who) (n a : Nat) (bs : List Byte) :
    (s.wrFlits w n a bs).pending = s.pending := by
  induction n generalizing s a bs with
  | zero => rfl
  | succ n ih => simp [State.wrFlits, ih]
@[simp] theorem State.wrUnit_pending (s : State) (w : Who) (a : Nat) (bs : List Byte) :
    (s.wrUnit w a bs).1.pending = s.pending := by
  simp [State.wrUnit]
@[simp] theorem State.wrBeats_pending (s : State) (w : Who) (a n : Nat) (bs : List Byte) :
    (s.wrBeats w a n bs).1.pending = s.pending := by
  induction n generalizing s bs with
  | zero => rfl
  | succ n ih =>
    simp only [State.wrBeats]
    (repeat' split) <;> simp [ih]
@[simp] theorem State.serveUnit_pending (s : State) (m : Msg) : (s.serveUnit m).1.pending = s.pending := by
  simp only [State.serveUnit]
  split
  · simp
  · split <;> (try split) <;> (try split) <;> simp
@[simp] theorem State.serve_pending (s : State) (m : Msg) : (State.serve s m).1.pending = s.pending := by
  simp [State.serve]
@[simp] theorem State.keepAction_pending (s : State) (m : Msg) (r : Resp) : (State.keepAction s m r).pending =
    s.pending := by
  simp [State.keepAction]
@[simp] theorem State.deliver_pending (s : State) (m : Msg) : (State.deliver s m).pending = s.pending := by
  simp [State.deliver]
@[simp] theorem State.abandonWorm_pending (s : State) (m : Msg) (arrived : Nat) : (State.abandonWorm s m
    arrived).pending = s.pending := by
  simp [State.abandonWorm]
@[simp] theorem State.routerResponse_pending (s : State) (r : Resp) : (State.routerResponse s r).pending = s.pending
    := by
  simp [State.routerResponse]
@[simp] theorem State.hostData_pending (s : State) (tag : Nat) (off : Nat) (bytes : List Byte) : (State.hostData
    s tag off bytes).pending = s.pending := by
  simp [State.hostData]
@[simp] theorem State.hostFails_pending (s : State) (q : HostReq) : (State.hostFails s q).pending = s.pending := by
  simp [State.hostFails]
@[simp] theorem State.hostResponse_pending (s : State) (r : Resp) : (State.hostResponse s r).pending = s.pending := by
  simp only [State.hostResponse]
  (repeat' split) <;> simp
@[simp] theorem State.reportLate_pending (s : State) (target : Nat) (tag : Nat) : (State.reportLate s target
    tag).pending = s.pending := by
  unfold State.reportLate
  (repeat' split) <;> simp
@[simp] theorem State.dropRemote_pending (s : State) (srcId : Nat) (srcPhys : Nat) (tag : Nat) : (State.dropRemote s
    srcId srcPhys tag).pending = s.pending := by
  simp [State.dropRemote]
@[simp] theorem State.tileLate_pending (s : State) (p : Nat) (tag : Nat) : (State.tileLate s p tag).pending =
    s.pending := by
  unfold State.tileLate
  (repeat' split) <;> simp
@[simp] theorem State.dmaLate_pending (s : State) (e tag : Nat) : (s.dmaLate e tag).pending = s.pending := by
  unfold State.dmaLate
  split
  · rfl
  · dsimp only
    split <;> simp only [State.reportLate_pending, State.setDmaE_pending, State.dmaErrored_pending,
      State.dropRemote_pending]
@[simp] theorem State.hostLate_pending (s : State) (tag : Nat) : (State.hostLate s tag).pending = s.pending := by
  simp only [State.hostLate]
  (repeat' split) <;> simp
@[simp] theorem State.hubLate_pending (s : State) (tag : Nat) : (State.hubLate s tag).pending = s.pending := by
  unfold State.hubLate
  (repeat' split) <;> simp
@[simp] theorem State.routerLate_pending (s : State) (n : Nat) : (State.routerLate s n).pending = s.pending := by
  unfold State.routerLate
  (repeat' split) <;> simp
@[simp] theorem State.respond_pending (s : State) (r : Resp) : (State.respond s r).pending = s.pending := by
  simp [State.respond]
@[simp] theorem State.usedTag_pending (s : State) (tag : Nat) : (State.usedTag s tag).pending = s.pending := by
  simp [State.usedTag]
@[simp] theorem State.bar0Word_pending (s : State) (w : Who) (o : Nat) : (State.bar0Word s w o).1.pending =
    s.pending := by
  unfold State.bar0Word
  (repeat' split) <;> simp
@[simp] theorem State.bar0Read_pending (s : State) (w : Who) (o k : Nat) : (s.bar0Read w o k).1.pending = s.pending :=
  readWords_pending (fun u i => ((u.bar0Word w (o + 4 * i)).1, leBytes (u.bar0Word w (o + 4 * i)).2 4))
    (fun _ _ => by simp) _ (s, [])
@[simp] theorem State.bar0Flit_pending (s : State) (w : Who) (o : Nat) (bs : List Byte) : (State.bar0Flit s w o
    bs).pending = s.pending := by
  unfold State.bar0Flit
  (repeat' split) <;> simp
@[simp] theorem State.bar0Write_pending (s : State) (w : Who) (n o : Nat) (bs : List Byte) :
    (s.bar0Write w n o bs).pending = s.pending := by
  induction n generalizing s o bs with
  | zero => rfl
  | succ n ih =>
    simp only [State.bar0Write]
    split <;> simp [ih]
@[simp] theorem State.bar0_pending (s : State) (a : HostAcc) : (s.bar0 a).pending = s.pending := by
  simp only [State.bar0]
  split <;> simp
@[simp] theorem State.bar2_pending (s : State) (a : HostAcc) : (State.bar2 s a).pending = s.pending := by
  simp only [State.bar2]
  (repeat' split) <;> simp
@[simp] theorem State.bar4Byte_pending (s : State) (o : Nat) (b : Byte) : (State.bar4Byte s o b).pending =
    s.pending := by
  simp [State.bar4Byte]
@[simp] theorem State.bar4_pending (s : State) (a : HostAcc) : (State.bar4 s a).pending = s.pending := by
  unfold State.bar4
  (repeat' split) <;> simp
@[simp] theorem State.accDone_pending (s : State) (status : Nat) (data : Nat) : (State.accDone s status
    data).pending = s.pending := by
  simp [State.accDone]
@[simp] theorem State.debugTile_pending (s : State) (write : Bool) (addr : Nat) (data : W32) : (State.debugTile s
    write addr data).pending = s.pending := by
  simp [State.debugTile]
@[simp] theorem State.debugUnit_pending (s : State) (write : Bool) (addr : Nat) (data : W32) : (State.debugUnit s
    write addr data).pending = s.pending := by
  simp [State.debugUnit]
@[simp] theorem State.debugAccess_pending (s : State) (op : Nat) (space : Nat) (addr : Nat) (data : W32) :
    (State.debugAccess s op space addr data).pending = s.pending := by
  simp [State.debugAccess]
@[simp] theorem State.arrive_pending (s : State) (m : Msg) (kind : MsgKind) : (State.arrive s m kind).pending =
    s.pending := by
  simp [State.arrive]
@[simp] theorem State.serveMid_pending (s : State) (p : Nat) (n : Nat) (mid : List (Nat × Msg)) : (State.serveMid s
    p n mid).pending = s.pending := by
  simp [State.serveMid]
@[simp] theorem uRunMid_pending (c : CustomArgs) (p : Nat) (mid : List (Nat × Msg)) (fuel n : Nat) (us : List W24)
    (s : State) (k : UCtx) : (uRunMid c p mid fuel n us s k).1.pending = s.pending := by
  induction fuel generalizing n us s k with
  | zero => rfl
  | succ fuel ih =>
    cases us with
    | nil => rfl
    | cons u r =>
      simp only [uRunMid]
      split
      · simp
      · split
        · simp
        · simp [ih]
theorem execCustomInstruction_pending (p : Nat) (x : Pfx) (c : CustomRun) (s t : State)
    (h : execCustomInstruction p x c s = .next t) : t.pending = s.pending := by
  refine State.custom_pending h fun f us k => ?_
  split
  · exact custPlain_keepsQueue s f us k
  · unfold State.custMid
    dsimp only
    split
    · intro u hu
      simp
    · intro u hu
      simp

end Sys2Proof.Machine
end

