-- ==== Sys2Proof/Laws/Tile.lean ====
section
/-! SUPPORT. What a tile instruction does, once: the shared frame of Machine/TileCore.lean under the
conditions of Safety.Executes, and the flag groups on exact integers. -/

namespace Sys2Proof.Machine
open Sys2Proof.Safety

set_option Elab.async false

/-! ### Decode outcomes -/

theorem odd_eq_false {r : Fin 16} (h : r.val % 2 = 0) : odd r = false := by simp [odd, h]

theorem decW_none {x : Pfx} {rs : List (Fin 16)} (h : evenIf x.wide rs) : decW x rs = none := by
  unfold decW
  split
  · rename_i hx
    simp only [Bool.and_eq_true, List.any_eq_true] at hx
    obtain ⟨hw, r, hr, ho⟩ := hx
    rw [odd_eq_false (h hw r hr)] at ho
    cases ho
  · rfl

theorem decN_none {x : Pfx} {b : Bool} (h : x.wide = false) (hb : b = false) : decN x b = none := by
  simp [decN, h, hb]

/-! ### Retirement -/

theorem Tile.retire_eq (t : Tile) : t.retire = booked t.retire t := by
  unfold Tile.retire booked Tile.raise
  dsimp only
  (repeat' split) <;> rfl

theorem Tile.retire_pcnt (t : Tile) : t.retire.pcnt = if t.cntOn then t.pcnt + 1 else t.pcnt := by
  unfold Tile.retire Tile.raise
  dsimp only
  (repeat' split) <;> rfl

theorem Tile.retire_pc (t : Tile) : t.retire.pc = t.pc := by
  unfold Tile.retire Tile.raise
  dsimp only
  (repeat' split) <;> rfl

theorem Tile.retire_pend (t : Tile) :
    t.retire.pend = if t.cntOn && t.cmpOn && t.pcnt + 1 == t.pcmp then t.pend ||| 0x0800 else t.pend := by
  unfold Tile.retire Tile.raise
  dsimp only
  split
  · rename_i h
    rw [h, Bool.true_and]
    split <;> rfl
  · rename_i h
    rw [Bool.not_eq_true] at h
    rw [h]
    rfl

/-- A tile that retires an instruction, at any next pc and prefetch. -/
theorem retires_setTile (s : State) (p : Nat) (m : Tile) (pc : W16) (pre : Table W32) :
    Retires s (s.setTile p { m with pc := pc, prefetch := pre }.retire) p pc m := by
  refine ⟨by simp, ?_, ?_, ?_, ?_⟩ <;> rw [State.setTile_tile]
  · rw [Tile.retire_eq]; rfl
  · exact Tile.retire_pc _
  · exact Tile.retire_pcnt _
  · exact Tile.retire_pend _

/-! ### The frame of one instruction -/

theorem tileExec_go {s : State} {p len : Nat} {x : Pfx} {dec : Option (Nat × Nat)} {body : Tile → Tile → Eff}
    {m : Tile} (h : Executes s p len x) (hd : dec = none)
    (hb : body (s.tile p) (s.tile p).land = .go m) :
    ∃ t, s.tileExec p len x dec body = .next t ∧ Retires s t p (following s p len x) m := by
  obtain ⟨h1, h2, h3, h4⟩ := h
  refine ⟨_, ?_, retires_setTile s p m (following s p len x) ((s.tile p).prefetchFor (pfxLen x + len))⟩
  subst hd
  simp [State.tileExec, State.tileInsn, decodeLen, ok, when_, h1, h2, State.tileStep, h3, h4, hb, Tile.seq, following]

theorem tileExec_jump {s : State} {p len : Nat} {x : Pfx} {dec : Option (Nat × Nat)} {body : Tile → Tile → Eff}
    {m : Tile} {pc : W16} (h : Executes s p len x) (hd : dec = none)
    (hb : body (s.tile p) (s.tile p).land = .jump m pc) :
    ∃ t, s.tileExec p len x dec body = .next t ∧ Retires s t p pc m := by
  obtain ⟨h1, h2, h3, h4⟩ := h
  refine ⟨_, ?_, retires_setTile s p m pc []⟩
  subst hd
  simp [State.tileExec, State.tileInsn, decodeLen, ok, when_, h1, h2, State.tileStep, h3, h4, hb, Tile.jumpTo]

theorem tileExec_act {s : State} {p len : Nat} {x : Pfx} {dec : Option (Nat × Nat)} {body : Tile → Tile → Eff}
    {m : Tile} {post : State → State} (h : Executes s p len x) (hd : dec = none)
    (hb : body (s.tile p) (s.tile p).land = .act m post) :
    ∃ u, s.tileExec p len x dec body = .next (post u) ∧ Retires s u p (following s p len x) m := by
  obtain ⟨h1, h2, h3, h4⟩ := h
  refine ⟨_, ?_, retires_setTile s p m (following s p len x) ((s.tile p).prefetchFor (pfxLen x + len))⟩
  subst hd
  simp [State.tileExec, State.tileInsn, decodeLen, ok, when_, h1, h2, State.tileStep, h3, h4, hb, Tile.seq, following]

theorem tileExec_trap {s : State} {p len : Nat} {x : Pfx} {dec : Option (Nat × Nat)} {body : Tile → Tile → Eff}
    {c : Nat} {a : Byte} (h : Executes s p len x) (hd : dec = none)
    (hb : body (s.tile p) (s.tile p).land = .trap c a) :
    s.tileExec p len x dec body = .next (s.tileTrap p c a (s.tile p) (s.tile p).pc) := by
  obtain ⟨h1, h2, h3, h4⟩ := h
  subst hd
  simp [State.tileExec, State.tileInsn, decodeLen, ok, when_, h1, h2, State.tileStep, h3, h4, hb]

/-! ### Registers -/

theorem Tile.dreg_lt (t : Tile) (r : Fin 16) : t.dreg r < 256 := (t.d[r]).isLt

theorem Tile.rd_lt (t : Tile) (wide : Bool) (r : Fin 16) : t.rd wide r < 2 ^ opW wide := by
  have h1 := t.dreg_lt r
  have h2 := t.dreg_lt (nextReg r)
  cases wide <;> simp [Tile.rd, opW] <;> omega

theorem opW_cases (wide : Bool) : opW wide = 8 ∨ opW wide = 16 := by cases wide <;> simp [opW]

/-! ### Loads in flight, guards, return stack, traps -/

theorem Tile.land_form (t : Tile) : t.land = {t with d := t.land.d, p := t.land.p, wb := none} := by
  unfold Tile.land
  split
  · rename_i h
    obtain ⟨d⟩ := t
    simp_all
  all_goals simp [Tile.wr, Tile.setD, Tile.setP]

theorem Tile.land_land (t : Tile) : t.land.land = t.land := by
  have : t.land.wb = none := by rw [Tile.land_form]
  rw [Tile.land.eq_def t.land, this]

theorem Tile.setG_eq (m : Tile) (g : Fin 8) (v : Bool) : m.setG g v = guardSet m g v := by
  unfold Tile.setG guardSet; split <;> simp

theorem Tile.guard_eq (m : Tile) (g : Fin 8) : m.guard g = guardIs m g := by
  unfold Tile.guard guardIs; split <;> simp_all

theorem tileTrap_eq (s : State) (p c : Nat) (a : Byte) (t : Tile) (pc : W16) (h : ¬ (t.inh = true ∧ t.evOn = false)) :
    s.tileTrap p c a t pc = trapped s p c a t.land pc := by
  unfold State.tileTrap trapped
  have : (t.inh && !t.evOn) = false := by cases h1 : t.inh <;> cases h2 : t.evOn <;> simp_all
  simp only [this]
  rfl

theorem tileTrap_double (s : State) (p c : Nat) (a : Byte) (t : Tile) (pc : W16) (h : t.inh = true ∧ t.evOn = false) :
    let u := (s.tileTrap p c a t pc).tile p
    u.dbl = true ∧ u.run = .halted ∧ u.cause = c ∧ u.trapArg = a := by
  unfold State.tileTrap
  simp [h.1, h.2, State.report]

theorem Tile.push_some {m : Tile} (a : W16) (h : (m.rsTrap && m.rsDepth == 8) = false) :
    m.push a = some (pushed m a) := by
  simp only [Tile.push, h]; rfl

theorem Tile.pop_some {m : Tile} (h : (m.rsTrap && m.rsDepth == 0) = false) :
    m.pop = some (m.rs[m.rsTop], { m with rsTop := m.rsTop - 1, rsDepth := m.rsDepth - 1 }) := by
  simp only [Tile.pop, h]; rfl

end Sys2Proof.Machine
end

