-- ==== Sys2Proof/Tests/Slice0.lean ====
section
/-! SUPPORT. Tests: ill-formed commands, words of the spec's encodings, and the spec's worked examples. -/

set_option maxRecDepth 100000

namespace Sys2Proof.Tests
open Sys2Proof Sys2Proof.Machine Sys2Proof.Safety

set_option Elab.async false

/-! ### Ill-formed commands, which WellFormed refuses -/

/-- No prefix. -/
def N : Pfx := ⟨none, false⟩
/-- A wide prefix. -/
def W : Pfx := ⟨none, true⟩

theorem test_ill_formed_units :
    [Instr.nop 1088 N, .tileRestart ⟨1088, false⟩, .queuePop 304 (.gate 0 0), .enginePushAccepted 304,
      .dispReady 16 0 ⟨.gate 0 0, false⟩, .dispReady 0 256 ⟨.gate 0 0, false⟩, .dispTdone 16 0 0, .dispTdone 0 1088 0, .dispatch 16,
      .frameHandoff 4, .lineTimeout 4, .flushUsExpiry 4 0, .flushUsExpiry 0 3, .modelMemoryWrite 0 0x7FFFFF [0, 0],
      .dmaStopComplete 128, .dmaBeat 16, .eventFiring 512, .holdIntervalEnd 32, .evrFired 0 16 0, .alarmFire 8,
      .deglitchExpiry 96, .pinSet 0 3 0, .timerBoundary 32, .serRx (.gate 0 0) 8, .lineJudgeStall (.tile 1088 true),
      .lineJudgeStall (.router 17), .lineJudgeStall (.dmaMover 16), .lineJudgeStall (.array 24),
      .lineJudgeStall (.crossing 12), .scrubVisit (.tile 0) 16384 true, .scrubVisit (.tile 1088) 0 true,
      .debugHalt 1024, .courtRestart ⟨17, false, []⟩, .paceAlarm 18, .islandWake 12, .replayLimit 4, .commandTake 8,
      .getIdentity 8, .wakeInput (.alarm 8), .wakeInput (.source 512), .msixSend 64,
      .configurationSpaceWrite (.vectorMask 64 true)].all (fun c => c.wf == false) = true := by
  decide +kernel

theorem test_ill_formed_operands :
    [(Instr.addi 5 N 0 0x100), .bra 5 N 0x0080, .mul 5 W 0 0, .nop 6 N, .tdone 5 N (.lost false []),
      .customInstruction 5 N ⟨⟨0, 8, 0, 0, 0, 0, 0⟩, []⟩, .customInstruction 5 N ⟨⟨0, 0, 1, 0, 0, 0, 0⟩, []⟩,
      .customInstruction 5 N ⟨⟨0, 2, 0, 0, 0, 0, 0x100⟩, []⟩, .eventEntry 5].all (fun c => c.encodable 5 == false) = true := by
  decide +kernel

theorem test_ill_formed_stops : exec (.nop 1088 N) State.reset = .fault .noSuchUnit := by rfl

/-! ### Words of the spec's encodings -/

/-- Each byte string decodes to its instruction, all of it read, and the encoder gives it back. -/
def spells (bs : List Byte) (i : Instr) : Bool :=
  tileDecode 5 bs == .insn i bs.length && tileEncode i == some bs

/-- The zone step of file 04: EE CF 41 80 0C, F1 70 20 04, 81 23 12. -/
theorem test_decode_zone_step :
    spells [0xEE, 0xCF, 0x41, 0x80, 0x0C] (.cmpgi 5 W 7 4 1 3200) = true ∧
    spells [0xF1, 0x70, 0x20, 0x04] (.subi 5 ⟨some (true, 1), false⟩ 2 4) = true ∧
    spells [0x81, 0x23, 0x12] (.st 5 N 2 3 0x12) = true := by decide +kernel

/-- The batch counter of file 04. -/
theorem test_decode_batch_counter :
    spells [0x07, 0x44] (.xor 5 N 4 4) = true ∧ spells [0x80, 0x01, 0x00] (.ld 5 N 0 1 0) = true ∧
    spells [0x43, 0x01] (.movi 5 N 3 1) = true ∧ spells [0xD0, 0x03] (.dadd 5 N 0 3) = true := by decide +kernel

/-- The recipe field of file 04. -/
theorem test_decode_recipe_field :
    spells [0xCB, 0x22, 0x10] (.cmpgi 5 N 3 2 2 0x10) = true ∧
    spells [0xF2, 0xA3, 0x08] (.bra 5 ⟨some (true, 2), false⟩ 8) = true ∧
    spells [0xD3, 0x21] (.dshl 5 N 2 1) = true ∧ spells [0x14, 0x50] (.swap 5 N 5) = true := by decide +kernel

/-- The custom instruction of file 05, EF 35 64, and guarded on G2; QPOP of file 07, E2 03 10 01. -/
theorem test_decode_custom_and_qpop :
    spells [0xEF, 0x35, 0x64] (.customInstruction 5 N ⟨⟨3, 5, 6, 0, 4, 0, 0⟩, []⟩) = true ∧
    spells [0xF2, 0xEF, 0x35, 0x64] (.customInstruction 5 ⟨some (true, 2), false⟩ ⟨⟨3, 5, 6, 0, 4, 0, 0⟩, []⟩) = true ∧
    spells [0xE2, 0x03, 0x10, 0x01] (.qpop 5 N 0 272 3 .good) = true := by decide +kernel

/-- F1 F2 01 23 traps with cause 0x2 (file 04). -/
theorem test_decode_two_guards : tileDecode 5 [0xF1, 0xF2, 0x01, 0x23] = .trap 2 := by decide +kernel

/-! ### Tile instructions on worked values -/

/-- Tile 5 of a reset device, running. -/
def runs (t : Tile) : State := State.reset.setTile 5 { t with run := .running }
/-- Tile 5 after a command. -/
def tileAfter (c : Instr) (s : State) : Option Tile :=
  match exec c s with
  | .next t => some (t.tile 5)
  | _ => none

/-- DADD of 0x99 and 1 gives 0x00 and C (file 04). -/
theorem test_dadd_wraps :
    (tileAfter (.dadd 5 N 0 3) (runs { d := Vector.ofFn fun i => if i = 0 then 0x99 else if i = 3 then 1 else 0 })).map
      (fun t => (t.d[0], t.fl.c)) = some (0x00, true) := by decide +kernel

/-- DSHL D0,D5 with 0x45 and 0x70 gives 0x57 (file 04). -/
theorem test_dshl_digit :
    (tileAfter (.dshl 5 N 0 5) (runs { d := Vector.ofFn fun i => if i = 0 then 0x45 else 0x70 })).map
      (fun t => t.d[0]) = some 0x57 := by decide +kernel

/-- SUBI 5 − 9 borrows: 0xFC, C, H and N (R100, R102). -/
theorem test_subi_borrows :
    (tileAfter (.subi 5 N 0 9) (runs { d := Vector.replicate 16 5 })).map (fun t => (t.d[0], t.fl.toByte)) =
      some (0xFC, 0x1A) := by decide +kernel

/-- A load's destination reads old in the slot and new after it (R69). -/
theorem test_load_slot :
    (tileAfter (.mov 5 (.copy N 1 0)) (runs { wb := some ⟨.data 0, 0x99⟩, d := Vector.replicate 16 7 })).map
      (fun t => (t.d[1], t.d[0], t.wb)) = some (7, 0x99, none) := by decide +kernel

/-- The micro-ops of the thermocouple entry of file 05. -/
def thermo : List W24 :=
  [0x050A00, 0x4D0007, 0x450001, 0x0D0B00, 0x7D1800, 0x792802, 0x013A00, 0x5D3900, 0x4D3007, 0x0D3880, 0x074980]
/-- A tile with that entry active, D7:D6 = 0x0A37, P4 = 0x3000 and the row of segment 10. -/
def oven : Tile :=
  { active := [(3, thermo)], dtValid := 8, p := Vector.replicate 8 0x3000
    d := Vector.ofFn fun i => if i = 6 then 0x37 else if i = 7 then 0x0A else 0
    mem := [(0x3028, 0x2E), (0x3029, 0x09), (0x302A, 0x7C)] }

/-- The entry passes the checks of R135. -/
theorem test_thermo_checks : checkEntry (thermo ++ List.replicate 5 0) = some thermo := by decide +kernel

/-- It turns 0x0A37 into 0x0948 (file 05), here from T0 to T3 holding 9. -/
theorem test_witness_CustomInstruction_thermo :
    let c : CustomArgs := ⟨3, 5, 6, 0, 4, 0, 0⟩
    (5 < 1088 ∧ N.wide = false ∧ c.mode.val < 8 ∧ Executes (runs oven) 5 (custLen c.mode.val) N ∧
      tfind? c.entry.val oven.active = some thermo ∧ custOdd (custFields c) thermo = false) ∧
    (uRun (custFields c) thermo.length thermo
      { m := oven, n := oven.land, t := Vector.replicate 4 9, due := none }).toOption.map
      (fun k => (k.finish.d[7], k.finish.d[6])) = some (0x09, 0x48) := by decide +kernel

/-- A WRITE of tile 9 that changes the row of segment 10 between two micro-ops. -/
def rowWrite : Msg :=
  { kind := .write, len := 2, srcId := 9, srcPhys := 9, srcDev := 0, tag := 0, cap := 1, chk := false, dev := 0, space := 0
    addr := 5 * 65536 + 0x3028, data := [0x2F, 9], badCrc := false }

/-- The same entry while that WRITE is served before its second micro-op (R132). -/
theorem test_witness_CustomInstruction_between :
    let c : CustomArgs := ⟨3, 5, 6, 0, 4, 0, 0⟩
    let s : State := { runs oven with flight := [rowWrite] }
    N.wide = false ∧ c.mode.val < 8 ∧ Executes s 5 (custLen c.mode.val) N ∧
    tfind? c.entry.val (s.tile 5).active = some thermo ∧ custOdd (custFields c) thermo = false ∧
    ((uRunMid (custFields c) 5 [(1, rowWrite)] thermo.length 0 thermo s
      { m := s.tile 5, n := (s.tile 5).land, t := Vector.replicate 4 9, due := none }).2.toOption.map
        fun k => (k.finish.d[7], k.finish.d[6])) = some (0x09, 0x49) := by decide +kernel

/-- Two guard prefixes trap at their own address with cause 0x2 (file 04). -/
theorem test_two_guards_trap :
    (tileAfter (.mov 5 (.decodeTrap [0xF1, 0xF2, 0x01, 0x23])) (runs { pc := 0x40, evOn := true })).map
      (fun t => (t.cause, t.spc, t.pc, t.inh)) = some (2, 0x40, 0x10, true) := by decide +kernel

/-! ### Units on worked values -/

/-- The state after a command. -/
def after (c : Instr) (s : State) : State :=
  match exec c s with
  | .next t => t
  | _ => s

/-- The 41st pop of queue 272 by operation 0x31 leaves 51 A5 5A 00 00 00 31 00 in the result record (file 07). -/
theorem test_pop_record :
    ((after (.queuePop 272 (.gate 200 0x31)) (State.reset.setQueue 272 { drain := [0x5AA5], popCnt := 40 })).queue
      272).results = [(200, { res := 0x51, data := 0x5AA5, opnum := 0x31 })] := by decide +kernel

/-- A window of a master over every register block. -/
def opened (m : Nat) (s : State) : State :=
  { s with mgmt := { s.mgmt with windows := [{ num := 0, master := m, dev := s.device, rw := true, slot := 0xFF
                                               base := 2 ^ 32 + 0x10000000, size := 0x200000, closing := false }] } }

/-- A second free of handle 0x5AA5 is refused as DOUBLE: POOL_OFFENDER 0x40C8_5AA5 and source 12 (file 07). -/
theorem test_double_free :
    let t := after (.poolFree 200 0x5AA5) (opened 200 { State.reset with
      pool := { gen := [(0x2A5, 0x0C)], fresh := 0x300, freed := [0x2A5] } })
    (t.pool.offender, t.pool.err, (t.src 12).fired) = (0x40C85AA5, 1, true) := by decide +kernel

/-- EVR_TGT 224 with 0x40C8_0000 by the host (file 10): KIND 1, tile 200, line 0, owner 0x401. -/
theorem test_event_target :
    (fun v : Src => (v.kind, v.tile, v.line, v.owner, v.pend, v.fires))
      ((after (.evrTgt 0x401 224 0x40C80000) (opened 0x401 State.reset)).src 224) = (1, 200, 0, 0x401, false, 0) := by decide +kernel

/-- A mailbox command of device 6 in mailbox 0, Running: header (R389) and payload. -/
def cmd (code tag : Nat) (p : List Byte) (s : State) : State :=
  { s with boot := { s.boot with bootRec := { device := 6 } } }.setMbx 0
    { st := 2, tag := tag, cmd := memWrite 0 [] 0 (leBytes code 2 ++ leBytes tag 2 ++ leBytes p.length 2 ++
        List.replicate 10 0 ++ p) }
/-- The response's status, length and payload. -/
def response (s : State) (n : Nat) : Byte × List Byte × List Byte :=
  (memGet 0 4 (s.mbx 0).resp, memRead 0 (s.mbx 0).resp 6 2, memRead 0 (s.mbx 0).resp 16 n)

/-- CLAIM of pins 16 and 17 for owner 0x100: OK, and both pins held (file 15). -/
theorem test_claim :
    let t := after (.claim 0) (cmd 0x201 0x31 [1, 0, 0x10, 0, 2, 0, 0, 1] State.reset)
    ((t.pin 16).owner, (t.pin 17).owner, (response t 0).1) = (0x100, 0x100, 0) := by decide +kernel

/-- With pin 17 held by tile 257: status 06, payload 01 01 11 00, pin 16 free (file 15). -/
theorem test_claim_held :
    let t := after (.claim 0) (cmd 0x201 0x31 [1, 0, 0x10, 0, 2, 0, 0, 1] (State.reset.setPin 17 { owner := 257 }))
    ((t.pin 16).owner, response t 4) = (0x4FF, 6, [4, 0], [1, 1, 0x11, 0]) := by decide +kernel

/-- A grant window on the timer block for tile 256: payload 07 00 FF 00 where windows 0 to 6 are in use (file 15). -/
theorem test_grant_window :
    let w (n : Nat) : Window :=
      { num := n, master := 1, dev := 6, rw := true, slot := 0xFF, base := 0, size := 4096, closing := false }
    let t := after (.grantWindowOpen 0) (cmd 0x204 0x32 [1, 1, 0, 1, 6, 0, 0xFF, 0, 0, 0, 6, 0x10, 0x19, 0, 0, 0, 0, 0,
      1, 0, 0, 0] { State.reset with mgmt := { windows := (List.range 7).map w } })
    (response t 4, t.mgmt.windows.length) = ((0, [4, 0], [7, 0, 0xFF, 0]), 8) := by decide +kernel

/-! ### Witnesses of the statements on the whole machine -/

theorem test_witness_WellFormedCommandsComplete :
    Instr.wf (.getIdentity 7) = true ∧ Instr.wf (.getIdentity 8) = false := by decide

theorem test_witness_TileDecodeInvertsEncode :
    (Instr.cmpgi 1087 W 7 15 7 0xFFFF).encodable 1087 = true ∧ (Instr.bra 0 N 0xFF80).encodable 0 = true := by decide

/-- A running tile whose ring and return stack are at the ends of their ranges. -/
def edgeTile : Tile := { run := .running, rsDepth := 8, rxBase := 0xFF00, rxLog := 14, rxTail := 0x3FF8 }

theorem test_witness_TilesStayLegal :
    (∀ p, TileLegal ((State.reset.setTile 5 edgeTile).tile p)) ∧
    ∃ t, step { State.reset.setTile 5 edgeTile with pending := [.nop 5 N] } = .next t := by
  refine ⟨fun p => ?_, _, rfl⟩
  by_cases h : p = 5
  · subst h
    unfold TileLegal
    decide +kernel
  · have : (State.reset.setTile 5 edgeTile).tile p = {} := by
      simp [State.setTile, State.tile, tput, tget, State.reset, Ne.symm h]
    rw [this]
    unfold TileLegal
    decide +kernel

theorem test_witness_StorageStaysSound :
    (∀ p, Memory.wf 0 ((State.reset.setTile 5 oven).tile p).mem = true) ∧ PoolSound State.reset.pool ∧
    ∃ t, step { State.reset.setTile 5 oven with pending := [.st 5 N 0 0 0] } = .next t := by
  refine ⟨fun p => ?_, by decide, _, rfl⟩
  by_cases h : p = 5
  · subst h
    decide +kernel
  · have : (State.reset.setTile 5 oven).tile p = {} := by
      simp [State.setTile, State.tile, tput, tget, State.reset, Ne.symm h]
    rw [this]
    rfl

/-- R490: of two enabled units that name one word, the lower-numbered applies, and a disabled one does not. -/
theorem test_patch_lowest :
    let s := ((State.reset.setPatch 3 { addr := 0x80100004, data := 7 }).setPatch 1 { addr := 0x80100004, data := 9 }).setPatch
      0 { addr := 0x00100004, data := 5 }
    s.xipWord 0 0x100004 = 9 ∧ s.xipWord 1 0x100004 ≠ 9 := by decide +kernel

/-- R511: while a pin drives low, the pad is where outside wiring puts it, and the pin's own level after a toggle. -/
theorem test_contended_pad :
    let s := (State.reset.setPin 5 { cfg := 0x10000C00 }).setBank 0 { vio := 2, mv := 3300 }
    (s.padChange 5 2900).padOf 5 = 2900 ∧
      ((s.padChange 5 2900).setPin 5 { (s.padChange 5 2900).pin 5 with cfg := 0x10000C20 }).padOf 5 = 3300 := by
  decide +kernel

/-- The header of the MSG from tile 200 of device 6 to tile 70 of device 5 (file 14). -/
theorem test_worked_header :
    pktHeader { typ := 0, vc := 4, seq := 0x123, dst := 5, src := 6, dcap := 1, kind := 2, ftag := 0x01A, srcId := 0x0C8
                space := 0, addr := 0x460000, len := 8, data := List.replicate 8 0, badCrc := false } =
      [0x40, 0x23, 0x51, 0x00, 0x18, 0x00, 0x01, 0x08, 0x88, 0x06, 0x20, 0x03, 0x00, 0x00, 0x46, 0x00] := by
  decide +kernel

/-- SHA-256 of "abc", the example of FIPS 180-4 (log 139). -/
theorem test_sha256_abc :
    (sha256 [0x61, 0x62, 0x63]).take 8 = [0xBA, 0x78, 0x16, 0xBF, 0x8F, 0x01, 0xCF, 0xEA] := by decide +kernel

/-- The table gives no row any bits: no word spells a command, and a word in front changes nothing. -/
theorem test_no_words (n w : Nat) : decodeTableWord n w = none ∧ State.reset.withFetchWord n w = State.reset :=
  ⟨rfl, rfl⟩

end Sys2Proof.Tests
end

