-- ==== Sys2Proof/Tests/WitnessBase.lean ====
section
/-! SUPPORT. Witnesses: the windows that the states of the witness files open. -/

namespace Sys2Proof.Tests
open Sys2Proof Sys2Proof.Machine

/-- `s` with one window over the device's registers for each of the masters `l` (R22, R405). -/
def opens (l : List Nat) (s : State) : State :=
  { s with mgmt := { s.mgmt with windows := l.map fun m =>
      { num := m, master := m, dev := s.device, rw := true, slot := 0xFF
        base := s.device * 2 ^ 34 + 2 ^ 32 + 0x10000000, size := 0x200000, closing := false } } }

end Sys2Proof.Tests
end

