-- ==== Sys2Proof/Tests/WitnessCommands.lean ====
section
/-! SUPPORT. Witnesses: for the statements on mailbox commands, concrete states and operands that meet the hypotheses of
each clause together. -/

set_option maxRecDepth 100000
set_option linter.unusedVariables false

namespace Sys2Proof.Tests
open Sys2Proof Sys2Proof.Machine Sys2Proof.Safety

set_option Elab.async false

/-- A device with number 129, some time after its reset. -/
def S0 : State :=
  { State.reset with now := 900000000000, wall := 900000000000, boot := { State.reset.boot with bootRec := { device := 129 } } }
/-- A command area with a code, a tag and a payload (R389). -/
def hdr (code tag : Nat) (pl : List Byte) : Mem :=
  memWrite 0 [] 0 (leBytes code 2 ++ leBytes tag 2 ++ leBytes pl.length 2 ++ leBytes 0 2 ++ leBytes 0 4 ++
    leBytes 0 4 ++ pl)
/-- Mailbox `m` runs a command. -/
def CM (m code : Nat) (p : List Byte) (s : State) : State :=
  s.setMbx m { cmd := hdr code 0x123 p, st := 2, tag := 0x123, resp := [(0, 3), (4, 5), (16, 4), (20, 3)] }

/-- In such a state the firmware runs the command. -/
theorem serving_CM {m code : Nat} {p : List Byte} {s : State} (hm : m < 8) (hc : code < 65536)
    (hp : p.length < 65536) (hu : s.mgmt.up = true) (hr : s.mgmt.restarting = false) (hs : s.running = true) :
    Serving (CM m code p s) m code p := by
  have key (o n : Nat) (h : o + n ≤ 16 + p.length) : memRead 0 (hdr code 0x123 p) o n =
      ((leBytes code 2 ++ leBytes 0x123 2 ++ leBytes p.length 2 ++ leBytes 0 2 ++ leBytes 0 4 ++ leBytes 0 4 ++
        p).drop o).take n := by
    have h' := memRead_memWrite (d := 0) (a := 0) (m := []) (o := o) (n := n)
      (bs := leBytes code 2 ++ leBytes 0x123 2 ++ leBytes p.length 2 ++ leBytes 0 2 ++ leBytes 0 4 ++
        leBytes 0 4 ++ p) rfl (by simp; omega)
    rwa [Nat.zero_add] at h'
  have h0 : leNum (memRead 0 (hdr code 0x123 p) 0 2) = code := by
    rw [key _ _ (by omega)]
    exact (leNum_leBytes code 2).trans (Nat.mod_eq_of_lt hc)
  have h4 : leNum (memRead 0 (hdr code 0x123 p) 4 2) = p.length := by
    rw [key _ _ (by omega)]
    exact (leNum_leBytes p.length 2).trans (Nat.mod_eq_of_lt hp)
  refine ⟨hm, hu, hr, hs, ?_, ?_, ?_⟩ <;> simp only [CM, State.setMbx_mbx]
  · exact h0
  · rw [h4, key _ _ (by omega)]
    simp [leBytes]


namespace IdentityCmds

def P1 := leBytes 0x20031 4 ++ leBytes 700000 4 ++ leBytes 410 2 ++ leBytes 0xFFFFFFFF 4
def P2 := leBytes 0x20031 4 ++ leBytes 30000 4 ++ leBytes 410 2 ++ leBytes 0xFFFFFFFF 4
def P4 := leBytes 0x1FFFF 4 ++ leBytes 820000 4 ++ leBytes 0xFFFF 2 ++ leBytes 1000000 4
def P3 : List Sys2Proof.Byte := [1,0,0x10,0,2,0,0,1]

theorem test_witness_IdentityAndClaimCommands :
    (let m : Nat := 0; let p : List Byte := [1]; let s : State := (CM 0 0xB02 [1] S0);
     Memory.wf 0 (s.mbx m).resp = true ∧ let byte := fun o => BitVec.toNat (p.getD o 0); Serving s m 2818 p ∧
     p.length = 1 ∧ byte 0 ≤ 2 ∧ byte 0 = 1) ∧
    (let m : Nat := 1; let p : List Byte := []; let s : State := (CM 1 1 [] S0);
     Memory.wf 0 (s.mbx m).resp = true ∧ Serving s m 1 p ∧ p = []) ∧
    (let m : Nat := 1; let p : List Byte := [5]; let s : State := (CM 1 1 [5] S0);
     Memory.wf 0 (s.mbx m).resp = true ∧ Serving s m 1 p ∧ ¬p = []) ∧
    (let m : Nat := 1; let p : List Byte := [0x40,0]; let s : State := (CM 1 2 [0x40,0] S0);
     Memory.wf 0 (s.mbx m).resp = true ∧ let byte := fun o => BitVec.toNat (p.getD o 0);
     let two := fun o => byte o + 256 * byte (o + 1); Serving s m 2 p ∧ p.length = 2 ∧ two 0 % 8 = 0 ∧
     two 0 < 2048 ∧ two 0 ≤ 72 ∧ two 0 ≤ 64) ∧
    (let m : Nat := 1; let p : List Byte := [0x40,1,5,0]; let s : State := (CM 1 3 [0x40,1,5,0] S0);
     Memory.wf 0 (s.mbx m).resp = true ∧ Serving s m 3 p) ∧
    (let m : Nat := 1; let p : List Byte := [4,0,5,2];
     let s : State := (CM 1 0xF [4,0,5,2] (S0.setMbx 4 {st := 2, tag := 0x205}));
     Memory.wf 0 (s.mbx m).resp = true ∧ let byte := fun o => BitVec.toNat (p.getD o 0);
     let two := fun o => byte o + 256 * byte (o + 1); Serving s m 15 p ∧ p.length = 4 ∧ byte 0 < 8 ∧
     byte 1 = 0 ∧ byte 0 ≠ m ∧ ¬(m = 3 ∨ m = 4) ∧ let y := s.mbx (byte 0); (y.st = 1 ∨ y.st = 2) ∧
     y.tag = two 2 ∧ y.aborting = false ∧ leNum (memRead 0 y.cmd 0 2) ≠ 15 ∧
     leNum (memRead 0 y.cmd 0 2) ≠ 1285) ∧
    (let m : Nat := 1; let p : List Byte := [4,0,5,2];
     let s : State := (CM 1 0xF [4,0,5,2] (S0.setMbx 4 {st := 3, tag := 0x205}));
     Memory.wf 0 (s.mbx m).resp = true ∧ let byte := fun o => BitVec.toNat (p.getD o 0);
     let two := fun o => byte o + 256 * byte (o + 1); Serving s m 15 p ∧ p.length = 4 ∧ byte 0 < 8 ∧
     byte 1 = 0 ∧ byte 0 ≠ m ∧ ¬(m = 3 ∨ m = 4) ∧ let y := s.mbx (byte 0);
     ¬((y.st = 1 ∨ y.st = 2) ∧ y.tag = two 2)) ∧
    (let m : Nat := 1; let p : List Byte := P1; let s : State := (CM 1 0x104 P1 S0);
     Memory.wf 0 (s.mbx m).resp = true ∧ let byte := fun o => BitVec.toNat (p.getD o 0);
     let two := fun o => byte o + 256 * byte (o + 1); let four := fun o => two o + 65536 * two (o + 2);
     Serving s m 260 p ∧ p.length = 14 ∧ four 0 < 2 ^ 18 ∧
     (four 0 % 2 ^ 17 ≠ 0 → 45000 ≤ four 4 ∧ four 4 ≤ 820000) ∧
     (four 0 / 2 ^ 17 % 2 = 1 → 100000 ≤ four 4 ∧ four 4 ≤ 800000) ∧
     (two 8 = 65535 ∨ 400 ≤ two 8 ∧ two 8 ≤ 600) ∧ (four 10 = 4294967295 ∨ four 10 ≤ 1000000)) ∧
    (let m : Nat := 1; let p : List Byte := P2; let s : State := (CM 1 0x104 P2 S0);
     Memory.wf 0 (s.mbx m).resp = true ∧ let byte := fun o => BitVec.toNat (p.getD o 0);
     let two := fun o => byte o + 256 * byte (o + 1); let four := fun o => two o + 65536 * two (o + 2);
     Serving s m 260 p ∧ p.length = 14 ∧ four 0 % 2 ^ 17 ≠ 0 ∧ (four 4 < 45000 ∨ 820000 < four 4)) ∧
    (let m : Nat := 1; let p : List Byte := [100,0,200,0]; let s : State := (CM 1 0x105 [100,0,200,0] S0);
     Memory.wf 0 (s.mbx m).resp = true ∧ let byte := fun o => BitVec.toNat (p.getD o 0);
     let two := fun o => byte o + 256 * byte (o + 1); Serving s m 261 p ∧ p.length = 4 ∧ 50 ≤ two 0 ∧
     two 0 ≤ 450 ∧ 45 ≤ two 2 ∧ two 2 ≤ 600) ∧
    (let m : Nat := 1; let p : List Byte := [100,2,200,0]; let s : State := (CM 1 0x105 [100,2,200,0] S0);
     Memory.wf 0 (s.mbx m).resp = true ∧ let byte := fun o => BitVec.toNat (p.getD o 0);
     let two := fun o => byte o + 256 * byte (o + 1); Serving s m 261 p ∧ p.length = 4 ∧
     ¬(50 ≤ two 0 ∧ two 0 ≤ 450 ∧ 45 ≤ two 2 ∧ two 2 ≤ 600)) ∧
    (let m : Nat := 0; let p : List Byte := P3; let s : State := (CM 0 0x201 P3 S0);
     Memory.wf 0 (s.mbx m).resp = true ∧ let byte := fun o => BitVec.toNat (p.getD o 0);
     let two := fun o => byte o + 256 * byte (o + 1);
     let owner := fun u k i => match k with | 1 => (u.pin i).owner | 2 => (u.timer i).owner | 3 => (u.ser i).owner | x => (u.chan i).owner;
     let count := fun k => match k with | 1 => 96 | 2 => 32 | 3 => 8 | x => 128; p.length = 8 ∧ 1 ≤ byte 0 ∧
     byte 0 ≤ 4 ∧ byte 1 = 0 ∧ 1 ≤ two 4 ∧ two 2 + two 4 ≤ count (byte 0) ∧ let k := byte 0;
     let ours := (List.range (two 4)).all fun i => owner s k (two 2 + i) == two 6 || owner s k (two 2 + i) == 1279;
     Serving s m 513 p ∧ (two 6 < 1024 ∨ 1025 ≤ two 6 ∧ two 6 ≤ 1028) ∧ ours = true) ∧
    (let m : Nat := 0; let p : List Byte := P3;
     let s : State := (CM 0 0x201 P3 (S0.setPin 17 {owner := 0x101})); Memory.wf 0 (s.mbx m).resp = true ∧
     let byte := fun o => BitVec.toNat (p.getD o 0); let two := fun o => byte o + 256 * byte (o + 1);
     let owner := fun u k i => match k with | 1 => (u.pin i).owner | 2 => (u.timer i).owner | 3 => (u.ser i).owner | x => (u.chan i).owner;
     let count := fun k => match k with | 1 => 96 | 2 => 32 | 3 => 8 | x => 128; p.length = 8 ∧ 1 ≤ byte 0 ∧
     byte 0 ≤ 4 ∧ byte 1 = 0 ∧ 1 ≤ two 4 ∧ two 2 + two 4 ≤ count (byte 0) ∧ let k := byte 0;
     let ours := (List.range (two 4)).all fun i => owner s k (two 2 + i) == two 6 || owner s k (two 2 + i) == 1279;
     Serving s m 513 p ∧ (two 6 < 1024 ∨ 1025 ≤ two 6 ∧ two 6 ≤ 1028) ∧ ours = false) ∧
    (let m : Nat := 0; let p : List Byte := P3;
     let s : State := (CM 0 0x202 P3 (S0.setPin 17 {owner := 0x101})); Memory.wf 0 (s.mbx m).resp = true ∧
     let byte := fun o => BitVec.toNat (p.getD o 0); let two := fun o => byte o + 256 * byte (o + 1);
     let owner := fun u k i => match k with | 1 => (u.pin i).owner | 2 => (u.timer i).owner | 3 => (u.ser i).owner | x => (u.chan i).owner;
     let count := fun k => match k with | 1 => 96 | 2 => 32 | 3 => 8 | x => 128; p.length = 8 ∧ 1 ≤ byte 0 ∧
     byte 0 ≤ 4 ∧ byte 1 = 0 ∧ 1 ≤ two 4 ∧ two 2 + two 4 ≤ count (byte 0) ∧ let k := byte 0;
     let mine := fun o => (List.range (two 4)).all fun i => owner s k (two 2 + i) == o; Serving s m 514 p ∧
     mine (two 6) = false) ∧
    (let m : Nat := 0; let p : List Byte := P3;
     let s : State := (CM 0 0x202 P3 ((S0.setPin 16 {owner := 0x100}).setPin 17 {owner := 0x100}));
     Memory.wf 0 (s.mbx m).resp = true ∧ let byte := fun o => BitVec.toNat (p.getD o 0);
     let two := fun o => byte o + 256 * byte (o + 1);
     let owner := fun u k i => match k with | 1 => (u.pin i).owner | 2 => (u.timer i).owner | 3 => (u.ser i).owner | x => (u.chan i).owner;
     let count := fun k => match k with | 1 => 96 | 2 => 32 | 3 => 8 | x => 128; p.length = 8 ∧ 1 ≤ byte 0 ∧
     byte 0 ≤ 4 ∧ byte 1 = 0 ∧ 1 ≤ two 4 ∧ two 2 + two 4 ≤ count (byte 0) ∧ let k := byte 0;
     let mine := fun o => (List.range (two 4)).all fun i => owner s k (two 2 + i) == o; Serving s m 514 p ∧
     mine (two 6) = true ∧ k = 1) ∧
    (let m : Nat := 0; let p : List Byte := [2,0,0x10,0,2,0];
     let s : State := (CM 0 0x203 [2,0,0x10,0,2,0] ((S0.setTimer 16 {owner := 0x100}).setTimer 17 {owner := 0x100}));
     Memory.wf 0 (s.mbx m).resp = true ∧ let byte := fun o => BitVec.toNat (p.getD o 0);
     let two := fun o => byte o + 256 * byte (o + 1);
     let count := fun k => match k with | 1 => 96 | 2 => 32 | 3 => 8 | x => 128; Serving s m 515 p ∧
     p.length = 6 ∧ 1 ≤ byte 0 ∧ byte 0 ≤ 4 ∧ byte 1 = 0 ∧ 1 ≤ two 4 ∧ two 2 + two 4 ≤ count (byte 0)) ∧
    (let m : Nat := 0; let p : List Byte := [2,0,0,0,20,0];
     let s : State := (CM 0 0xB01 [2,0,0,0,20,0] {S0 with mgmt := {S0.mgmt with log := [⟨1, 5, []⟩, ⟨2, 6, [9]⟩, ⟨3, 7, [8, 8]⟩]}});
     Memory.wf 0 (s.mbx m).resp = true ∧ let byte := fun o => BitVec.toNat (p.getD o 0);
     let two := fun o => byte o + 256 * byte (o + 1); let four := fun o => two o + 65536 * two (o + 2);
     Serving s m 2817 p ∧ p.length = 6 ∧ let k : Nat := 2; k ≤ s.mgmt.log.length ∧
     let entries := (s.mgmt.log.filter fun e => decide (four 0 ≤ e.seq)).map fun e =>
       leBytes e.seq 4 ++ leBytes e.text.length 2 ++ leBytes e.code 2 ++ e.text;
     let room := min 4080 (two 4); (entries.take k).flatten.length ≤ room ∧
     ∀ e, (entries.drop k).head? = some e → room < (entries.take k).flatten.length + e.length) ∧
    (let m : Nat := 1; let p : List Byte := P4; let s : State := (CM 1 0x104 P4 S0);
     Memory.wf 0 (s.mbx m).resp = true ∧ let byte := fun o => BitVec.toNat (p.getD o 0);
     let two := fun o => byte o + 256 * byte (o + 1); let four := fun o => two o + 65536 * two (o + 2);
     Serving s m 260 p ∧ p.length = 14 ∧ four 0 < 2 ^ 18 ∧
     (four 0 % 2 ^ 17 ≠ 0 → 45000 ≤ four 4 ∧ four 4 ≤ 820000) ∧ four 0 / 2 ^ 17 % 2 = 0 ∧ four 4 = 820000) ∧
    (let m : Nat := 0; let p : List Byte := [3]; let s : State := (CM 0 0xB02 [3] S0);
     Memory.wf 0 (s.mbx m).resp = true ∧ let byte := fun o => BitVec.toNat (p.getD o 0); Serving s m 2818 p ∧
     p.length = 1 ∧ 2 < byte 0) := by
  refine ⟨?_, ?_, ?_, ?_, ?_, ?_, ?_, ?_, ?_, ?_, ?_, ?_, ?_, ?_, ?_, ?_, ?_, ?_, ?_⟩ <;>
    decide +kernel

end IdentityCmds

namespace TileCmds

def TL : State :=
  (S0.setTile 5 {run := .stopped, mem := [(0,3),(65535,7)], pc := 77, d := Vector.replicate 16 5, active := [(3,[5])]}).setTile 6 {run := .running, mem := [(0,3),(65535,7)], pc := 77}
def I1 (t : Nat) (per : Sys2Proof.Byte) : List Sys2Proof.Byte :=
  leBytes t 2 ++ [per,0] ++ leBytes 0xFFFE 2 ++ leBytes 5 2 ++ [1,2,0,0,5]
def uop : List Nat :=
  [0x050A00, 0x4D0007, 0x450001, 0x0D0B00, 0x7D1800, 0x792802, 0x013A00, 0x5D3900, 0x4D3007, 0x0D3880,
    0x074980, 0, 0, 0, 0, 0]
def DT : List Sys2Proof.Byte :=
  leBytes 5 2 ++ leBytes 0x88 2 ++ uop.flatMap (leBytes · 3) ++ uop.flatMap (leBytes · 3)
def DT2 : List Sys2Proof.Byte :=
  leBytes 5 2 ++ leBytes 0x88 2 ++ (List.replicate 48 0) ++ uop.flatMap (leBytes · 3)
def W1 : List Sys2Proof.Byte :=
  [1,1,0,1] ++ leBytes 129 2 ++ [0xFF,0] ++ leBytes (129 * 2^34 + 2^32 + 0x10060000) 6 ++ [0,0,0,0,1,0,0,0]
def win (n m : Nat) : Window :=
  {num := n, master := m, dev := 129, rw := true, slot := 255, base := 0, size := 4096, closing := false}
/-- A READ of tile 256 in the network. -/
def rq : Msg :=
  {kind := .read, len := 8, srcId := 256, srcPhys := 256, srcDev := 129, tag := 7, cap := 1, chk := false, dev := 129,
   space := 1, addr := 0x1000000, data := [], badCrc := false}
def W2 : List Sys2Proof.Byte := [2] ++ List.replicate 19 0 ++ [3,0]

theorem test_witness_TileCommands :
    (let m : Nat := 1; let p : List Byte := (I1 5 0); let s : State := (CM 1 0x101 (I1 5 0) TL);
     Memory.wf 0 (s.mbx m).resp = true ∧ s.dbgBlock.trigEn = false ∧ let byte := fun o => BitVec.toNat (p.getD o 0);
     let two := fun o => byte o + 256 * byte (o + 1); let l := two 0; Serving s m 257 p ∧ 8 < p.length ∧ l < 1024 ∧
     byte 2 ≤ 1 ∧ byte 3 = 0 ∧ two 6 ≤ 4072 ∧ p.length = 8 + two 6 ∧ tfind? l s.gates.duplex = none ∧
     ∃ q, s.physOf l = some q ∧ Memory.wf 0 (s.tile q).mem = true ∧ (s.tile q).run = RunState.stopped) ∧
    (let m : Nat := 1; let p : List Byte := (I1 6 1); let s : State := (CM 1 0x101 (I1 6 1) TL);
     Memory.wf 0 (s.mbx m).resp = true ∧ s.dbgBlock.trigEn = false ∧ let byte := fun o => BitVec.toNat (p.getD o 0);
     let two := fun o => byte o + 256 * byte (o + 1); let l := two 0; Serving s m 257 p ∧ 8 < p.length ∧ l < 1024 ∧
     byte 2 ≤ 1 ∧ byte 3 = 0 ∧ two 6 ≤ 4072 ∧ p.length = 8 + two 6 ∧ tfind? l s.gates.duplex = none ∧
     ∃ q, s.physOf l = some q ∧ Memory.wf 0 (s.tile q).mem = true ∧ (s.tile q).run ≠ RunState.stopped) ∧
    (let m : Nat := 1; let p : List Byte := [4,0,1,0]; let s : State := (CM 1 0x102 [4,0,1,0] TL);
     Memory.wf 0 (s.mbx m).resp = true ∧ s.dbgBlock.trigEn = false ∧ let byte := fun o => BitVec.toNat (p.getD o 0);
     let two := fun o => byte o + 256 * byte (o + 1); p.length = 4 ∧ 1 ≤ two 2 ∧ two 0 + two 2 ≤ 1024 ∧
     s.gates.duplex = [] ∧ Serving s m 258 p) ∧
    (let m : Nat := 1; let p : List Byte := [4,0,3,0]; let s : State := (CM 1 0x103 [4,0,3,0] TL);
     Memory.wf 0 (s.mbx m).resp = true ∧ s.dbgBlock.trigEn = false ∧ let byte := fun o => BitVec.toNat (p.getD o 0);
     let two := fun o => byte o + 256 * byte (o + 1); let range := List.map (fun x => two 0 + x) (List.range (two 2));
     p.length = 4 ∧ 1 ≤ two 2 ∧ two 0 + two 2 ≤ 1024 ∧ s.gates.duplex = [] ∧ Serving s m 259 p ∧
     (∀ (j : Nat), j ∈ range → ∀ (q : Nat), s.physOf j = some q → (s.tile q).run = RunState.running → (s.tile q).atBoundary = true)) ∧
    (let m : Nat := 1; let p : List Byte := [6,0,1,0];
     let s : State := (CM 1 0x103 [6,0,1,0] (TL.setTile 6 {run := .running, wb := some ⟨.data 2, 5⟩}));
     Memory.wf 0 (s.mbx m).resp = true ∧ s.dbgBlock.trigEn = false ∧ let byte := fun o => BitVec.toNat (p.getD o 0);
     let two := fun o => byte o + 256 * byte (o + 1); let range := List.map (fun x => two 0 + x) (List.range (two 2));
     p.length = 4 ∧ 1 ≤ two 2 ∧ two 0 + two 2 ≤ 1024 ∧ s.gates.duplex = [] ∧ Serving s m 259 p ∧ let j : Nat := 6;
     j ∈ range ∧ ∃ q, s.physOf j = some q ∧ (s.tile q).run = RunState.running ∧ (s.tile q).atBoundary = false) ∧
    (let m : Nat := 1; let p : List Byte := DT; let s : State := (CM 1 0x106 DT TL);
     Memory.wf 0 (s.mbx m).resp = true ∧ s.dbgBlock.trigEn = false ∧ let byte := fun o => BitVec.toNat (p.getD o 0);
     let two := fun o => byte o + 256 * byte (o + 1); let l := two 0;
     let range := List.map (fun x => two 0 + x) (List.range (two 2));
     let rank := fun e => (List.filter (fun i => decide (two 2 / 2 ^ i % 2 = 1)) (List.range e)).length;
     let named := fun e => decide (two 2 / 2 ^ e % 2 = 1);
     let ops := fun e => List.map (fun i => BitVec.ofNat 24 (two (4 + 48 * rank e + 3 * i) + 65536 * byte (6 + 48 * rank e + 3 * i))) (List.range 16);
     let ill := List.filter (fun e => named e && (checkEntry (ops e)).isNone) (List.range 16); Serving s m 262 p ∧
     4 ≤ p.length ∧ l < 1024 ∧ p.length = 4 + 48 * (List.filter named (List.range 16)).length ∧
     tfind? l s.gates.duplex = none ∧ ill = [] ∧ ∃ q, s.physOf l = some q) ∧
    (let m : Nat := 1; let p : List Byte := DT2; let s : State := (CM 1 0x106 DT2 TL);
     Memory.wf 0 (s.mbx m).resp = true ∧ s.dbgBlock.trigEn = false ∧ let byte := fun o => BitVec.toNat (p.getD o 0);
     let two := fun o => byte o + 256 * byte (o + 1); let l := two 0;
     let range := List.map (fun x => two 0 + x) (List.range (two 2));
     let rank := fun e => (List.filter (fun i => decide (two 2 / 2 ^ i % 2 = 1)) (List.range e)).length;
     let named := fun e => decide (two 2 / 2 ^ e % 2 = 1);
     let ops := fun e => List.map (fun i => BitVec.ofNat 24 (two (4 + 48 * rank e + 3 * i) + 65536 * byte (6 + 48 * rank e + 3 * i))) (List.range 16);
     let ill := List.filter (fun e => named e && (checkEntry (ops e)).isNone) (List.range 16); Serving s m 262 p ∧
     4 ≤ p.length ∧ l < 1024 ∧ p.length = 4 + 48 * (List.filter named (List.range 16)).length ∧
     tfind? l s.gates.duplex = none ∧ ill ≠ []) ∧
    (let m : Nat := 1; let p : List Byte := W1; let s : State := (CM 1 0x204 W1 TL);
     Memory.wf 0 (s.mbx m).resp = true ∧ s.dbgBlock.trigEn = false ∧ let byte := fun o => BitVec.toNat (p.getD o 0);
     let two := fun o => byte o + 256 * byte (o + 1); let four := fun o => two o + 65536 * two (o + 2);
     let range := List.map (fun x => two 0 + x) (List.range (two 2)); let base := four 8 + 2 ^ 32 * two 12;
     let addr := base % 2 ^ 32; let size := four 16;
     let usable := [(0, 8388608), (16777216, 4194304), (268435456, 262144), (268763136, 458752), (269615104, 32768)].any fun r => decide (r.fst ≤ addr) && decide (addr + size ≤ r.fst + r.snd);
     let opens := p.length = 22 ∧ byte 0 = 1 ∧ byte 1 ≤ 1 ∧ byte 7 = 0 ∧ two 14 = 0 ∧ two 20 = 0 ∧ two 2 < 1024 ∧ two 4 = s.device ∧ two 4 < 2 ^ 14 ∧ byte 6 = 255 ∧ size ∈ List.map (fun x => 4096 * 2 ^ x) (List.range 12) ∧ base % size = 0 ∧ base / 2 ^ 32 = 4 * s.device + 1 ∧ usable = true;
     Serving s m 516 p ∧ opens ∧ let mine := (List.filter (fun w => w.master == two 2) s.mgmt.windows).length;
     mine < 8 ∧ ∃ n, List.find? (fun n => !s.mgmt.windows.any fun w => w.num == n) (List.range 512) = some n) ∧
    (let m : Nat := 1; let p : List Byte := W1;
     let s : State := (CM 1 0x204 W1 {TL with mgmt := {TL.mgmt with windows := (List.range 8).map fun n => win n 256}});
     Memory.wf 0 (s.mbx m).resp = true ∧ s.dbgBlock.trigEn = false ∧ let byte := fun o => BitVec.toNat (p.getD o 0);
     let two := fun o => byte o + 256 * byte (o + 1); let four := fun o => two o + 65536 * two (o + 2);
     let range := List.map (fun x => two 0 + x) (List.range (two 2)); let base := four 8 + 2 ^ 32 * two 12;
     let addr := base % 2 ^ 32; let size := four 16;
     let usable := [(0, 8388608), (16777216, 4194304), (268435456, 262144), (268763136, 458752), (269615104, 32768)].any fun r => decide (r.fst ≤ addr) && decide (addr + size ≤ r.fst + r.snd);
     let opens := p.length = 22 ∧ byte 0 = 1 ∧ byte 1 ≤ 1 ∧ byte 7 = 0 ∧ two 14 = 0 ∧ two 20 = 0 ∧ two 2 < 1024 ∧ two 4 = s.device ∧ two 4 < 2 ^ 14 ∧ byte 6 = 255 ∧ size ∈ List.map (fun x => 4096 * 2 ^ x) (List.range 12) ∧ base % size = 0 ∧ base / 2 ^ 32 = 4 * s.device + 1 ∧ usable = true;
     Serving s m 516 p ∧ opens ∧ let mine := (List.filter (fun w => w.master == two 2) s.mgmt.windows).length;
     8 ≤ mine) ∧
    (let m : Nat := 1; let p : List Byte := W2; let s : State := (CM 1 0x204 W2 TL);
     Memory.wf 0 (s.mbx m).resp = true ∧ s.dbgBlock.trigEn = false ∧ let byte := fun o => BitVec.toNat (p.getD o 0);
     let two := fun o => byte o + 256 * byte (o + 1); Serving s m 516 p ∧ p.length = 22 ∧ byte 0 = 2 ∧
     (∀ (w : Window), w ∈ s.mgmt.windows → w.num ≠ two 20)) ∧
    (let m : Nat := 1; let p : List Byte := W2;
     let s : State := (CM 1 0x204 W2 {TL with flight := [rq], mgmt := {TL.mgmt with windows := (List.range 8).map fun n => {win n 256 with base := 129 * 2 ^ 34 + 2 ^ 32 + 0x1000000}}});
     Memory.wf 0 (s.mbx m).resp = true ∧ s.dbgBlock.trigEn = false ∧ let byte := fun o => BitVec.toNat (p.getD o 0);
     let two := fun o => byte o + 256 * byte (o + 1); Serving s m 516 p ∧ p.length = 22 ∧ byte 0 = 2 ∧ byte 7 = 0 ∧
     two 14 = 0 ∧ ∃ w, List.find? (fun w => w.num == two 20) s.mgmt.windows = some w ∧ w.closing = false ∧
     ((∃ r, r ∈ s.flight ∧ s.windowUse w r = true) ∨ ∃ r, r ∈ s.replies ∧ s.replyUse w r = true)) ∧
    (let m : Nat := 1; let p : List Byte := W2;
     let s : State := (CM 1 0x204 W2 {TL with mgmt := {TL.mgmt with windows := (List.range 8).map fun n => win n 256}});
     Memory.wf 0 (s.mbx m).resp = true ∧ s.dbgBlock.trigEn = false ∧ let byte := fun o => BitVec.toNat (p.getD o 0);
     let two := fun o => byte o + 256 * byte (o + 1); Serving s m 516 p ∧ p.length = 22 ∧ byte 0 = 2 ∧ byte 7 = 0 ∧
     two 14 = 0 ∧ ∃ w, List.find? (fun w => w.num == two 20) s.mgmt.windows = some w ∧ s.flight = [] ∧
     s.replies = [] ∧ s.fabric.remotes = []) ∧
    (let m : Nat := 1; let p : List Byte := [5,0,0xFF,0xFF];
     let s : State := (CM 1 0x502 [5,0,0xFF,0xFF] {TL with gates := {TL.gates with retired := (List.range 64).map (· + 1024)}});
     Memory.wf 0 (s.mbx m).resp = true ∧ s.dbgBlock.trigEn = false ∧ let byte := fun o => BitVec.toNat (p.getD o 0);
     let two := fun o => byte o + 256 * byte (o + 1); let l := two 0; Serving s m 1282 p ∧ p.length = 4 ∧ l < 1024 ∧
     tfind? l s.gates.duplex = none ∧ ∃ old, s.physOf l = some old ∧ two 2 = 65535 ∧ s.freeSpares = []) ∧
    (let m : Nat := 1; let p : List Byte := [5,0,7,4]; let s : State := (CM 1 0x502 [5,0,7,4] TL);
     Memory.wf 0 (s.mbx m).resp = true ∧ s.dbgBlock.trigEn = false ∧ let byte := fun o => BitVec.toNat (p.getD o 0);
     let two := fun o => byte o + 256 * byte (o + 1); let l := two 0; Serving s m 1282 p ∧ p.length = 4 ∧ l < 1024 ∧
     tfind? l s.gates.duplex = none ∧ ∃ old, s.physOf l = some old ∧ two 2 < 1088 ∧ s.isFreeSpare (two 2) = true ∧
     two 2 ≠ old ∧ (s.tile old).bad = [] ∧ ¬old ∈ s.faults.deadPorts) ∧
    (let m : Nat := 1; let p : List Byte := [7,0]; let s : State := (CM 1 0x503 [7,0] TL);
     Memory.wf 0 (s.mbx m).resp = true ∧ s.dbgBlock.trigEn = false ∧ let byte := fun o => BitVec.toNat (p.getD o 0);
     let two := fun o => byte o + 256 * byte (o + 1); let l := two 0; Serving s m 1283 p ∧ p.length = 2 ∧ l < 1088 ∧
     s.logicalOf l ≠ none) ∧
    (let m : Nat := 1; let p : List Byte := [7,4];
     let s : State := (CM 1 0x503 [7,4] {TL with gates := {TL.gates with fenced := [1031]}});
     Memory.wf 0 (s.mbx m).resp = true ∧ s.dbgBlock.trigEn = false ∧ let byte := fun o => BitVec.toNat (p.getD o 0);
     let two := fun o => byte o + 256 * byte (o + 1); let l := two 0; Serving s m 1283 p ∧ p.length = 2 ∧ l < 1088 ∧
     s.logicalOf l = none ∧ s.duplexOf l = none ∧ tget 0 l s.gates.offCount < 3 ∧ ¬l ∈ s.gates.retired) ∧
    (let m : Nat := 1; let p : List Byte := [6,0,7,4,1];
     let s : State := (CM 1 0x504 [6,0,7,4,1] (TL.setTile 6 {run := .running, wb := some ⟨.data 2, 5⟩}));
     Memory.wf 0 (s.mbx m).resp = true ∧ s.dbgBlock.trigEn = false ∧ let byte := fun o => BitVec.toNat (p.getD o 0);
     let two := fun o => byte o + 256 * byte (o + 1); let l := two 0; Serving s m 1284 p ∧ p.length = 5 ∧ l < 1024 ∧
     byte 4 ≤ 1 ∧ tfind? l s.gates.duplex = none ∧ two 2 < 1088 ∧ s.isFreeSpare (two 2) = true ∧
     ∃ q, s.physOf l = some q ∧ (s.tile q).run = RunState.running ∧ (s.tile q).atBoundary = false) ∧
    (let m : Nat := 1; let p : List Byte := [6,0,7,4,1]; let s : State := (CM 1 0x504 [6,0,7,4,1] TL);
     Memory.wf 0 (s.mbx m).resp = true ∧ s.dbgBlock.trigEn = false ∧ let byte := fun o => BitVec.toNat (p.getD o 0);
     let two := fun o => byte o + 256 * byte (o + 1); let l := two 0; Serving s m 1284 p ∧ p.length = 5 ∧ l < 1024 ∧
     byte 4 ≤ 1 ∧ tfind? l s.gates.duplex = none ∧ two 2 < 1088 ∧ s.isFreeSpare (two 2) = true ∧
     ∃ q, s.physOf l = some q ∧
     ((s.tile q).run = RunState.running → (s.tile q).wb = none ∧ (s.tile q).waiting = none) ∧
     tfind? q s.gates.catchUp = none) ∧
    (let m : Nat := 1; let p : List Byte := [5,0,7,4,2];
     let s : State := (CM 1 0x504 [5,0,7,4,2] {TL with gates := {TL.gates with duplex := [(5,{primary := 5, partner := 1040, auto := false, nPrim := 0, nPart := 0, log := [], held := [], outcomes := [], tags := [], nDone := 0})]}});
     Memory.wf 0 (s.mbx m).resp = true ∧ s.dbgBlock.trigEn = false ∧ let byte := fun o => BitVec.toNat (p.getD o 0);
     let two := fun o => byte o + 256 * byte (o + 1); let l := two 0; Serving s m 1284 p ∧ p.length = 5 ∧ l < 1024 ∧
     byte 4 = 2 ∧ ∃ d, tfind? l s.gates.duplex = some d) ∧
    (let m : Nat := 1; let p : List Byte := [255,255]; let s : State := (CM 1 0x505 [255,255] TL);
     Memory.wf 0 (s.mbx m).resp = true ∧ s.dbgBlock.trigEn = false ∧ let byte := fun o => BitVec.toNat (p.getD o 0);
     let two := fun o => byte o + 256 * byte (o + 1); let l := two 0; Serving s m 1285 p ∧ p.length = 2 ∧ l = 65535 ∧
     s.dbgBlock.testMode = false) ∧
    (let m : Nat := 1; let p : List Byte := [7,4]; let s : State := (CM 1 0x505 [7,4] TL);
     Memory.wf 0 (s.mbx m).resp = true ∧ s.dbgBlock.trigEn = false ∧ let byte := fun o => BitVec.toNat (p.getD o 0);
     let two := fun o => byte o + 256 * byte (o + 1); let l := two 0; Serving s m 1285 p ∧ p.length = 2 ∧ l < 1088 ∧
     s.logicalOf l = none ∧ s.duplexOf l = none) ∧
    (let m : Nat := 1; let p : List Byte := [6,0]; let s : State := (CM 1 0x505 [6,0] TL);
     Memory.wf 0 (s.mbx m).resp = true ∧ s.dbgBlock.trigEn = false ∧ let byte := fun o => BitVec.toNat (p.getD o 0);
     let two := fun o => byte o + 256 * byte (o + 1); let l := two 0; Serving s m 1285 p ∧ p.length = 2 ∧ l < 1088 ∧
     s.duplexOf l = none ∧ ∃ j, s.logicalOf l = some j ∧ s.physOf j = some l ∧ tfind? j s.gates.duplex = none ∧
     ∃ q, s.freeSpares.head? = some q ∧ q ≠ l ∧ (s.tile l).bad = [] ∧ ¬l ∈ s.faults.deadPorts) := by
  refine ⟨⟨?_, ?_, ?_, ?_, ?_, ?_, ?_, ?_, ?_, ?_, _, rfl, ?_, ?_⟩, ⟨?_, ?_, ?_, ?_, ?_, ?_, ?_, ?_, ?_, ?_, _, rfl,
    ?_, ?_⟩, ?_, ?_, ⟨?_, ?_, ?_, ?_, ?_, ?_, ?_, ?_, _, rfl, ?_, ?_⟩, ⟨?_, ?_, ?_, ?_, ?_, ?_, ?_, ?_, _, rfl⟩, ?_,
    ⟨?_, ?_, ?_, ?_, ?_, _, rfl⟩, ?_, ?_, ⟨?_, ?_, ?_, ?_, ?_, ?_, ?_, _, rfl, ?_, ?_⟩, ⟨?_, ?_, ?_, ?_, ?_, ?_, ?_,
    _, rfl, ?_, ?_, ?_⟩, ⟨?_, ?_, ?_, ?_, ?_, ?_, _, rfl, ?_, ?_⟩, ⟨?_, ?_, ?_, ?_, ?_, ?_, _, rfl, ?_, ?_, ?_, ?_,
    ?_⟩, ?_, ?_, ⟨?_, ?_, ?_, ?_, ?_, ?_, ?_, ?_, ?_, _, rfl, ?_, ?_⟩, ⟨?_, ?_, ?_, ?_, ?_, ?_, ?_, ?_, ?_, _, rfl,
    ?_, ?_⟩, ⟨?_, ?_, ?_, ?_, ?_, ?_, _, rfl⟩, ?_, ?_, ⟨?_, ?_, ?_, ?_, ?_, ?_, _, rfl, ?_, ?_, _, rfl, ?_, ?_, ?_⟩⟩
    <;> decide +kernel

end TileCmds

namespace UpdateCmds

def J (st act len : Nat) : Journal :=
  { seq := 5, state := st, active := act, fallback := false, reverted := false, imageLen := len }
def B (f : Boot → Boot) (g : Mgmt → Mgmt) : State := {S0 with boot := f S0.boot, mgmt := g S0.mgmt}
def U1 : List Sys2Proof.Byte := [0,0,0,0,1,1,1,0]
def U3 : List Sys2Proof.Byte := leBytes 32 4 ++ leBytes 5 2 ++ [0,0] ++ List.replicate 5 9

theorem test_witness_UpdateAndCalibration :
    (let m : Nat := 1; let p : List Byte := U1;
     let s : State := (CM 1 0x301 U1 (B (fun b => {b with factory := [], bank0 := [(12,3),(5,5)]}) id));
     Memory.wf 0 (s.mbx m).resp = true ∧ let byte := fun o => BitVec.toNat (p.getD o 0);
     let two := fun o => byte o + 256 * byte (o + 1); let four := fun o => two o + 65536 * two (o + 2);
     let b := s.boot; let j := b.journal; let ours := fun x => x = none ∨ x = some m;
     let flash := ¬0 ∈ b.absent ∨ ¬1 ∈ b.absent; Serving s m 769 p ∧ p.length = 8 ∧ byte 0 = 0 ∧ byte 1 = 0 ∧
     two 2 = 0 ∧ 65536 ≤ four 4 ∧ four 4 ≤ 4194304 ∧ ours s.mgmt.updateBox ∧ s.mgmt.trial = false ∧ flash ∧
     j.active ≤ 1 ∧ let free := max b.antiRoll (min 63 (b.rollbackOf j.active)); b.antiRoll < free) ∧
    (let m : Nat := 1; let p : List Byte := U3;
     let s : State := (CM 1 0x302 U3 (B (fun b => {b with journal1 := some (J 1 0 0x10005), acked := 32, erased := [0,1], bank1 := [(4,5)]}) fun g => {g with updateBox := some 1}));
     Memory.wf 0 (s.mbx m).resp = true ∧ let byte := fun o => BitVec.toNat (p.getD o 0);
     let two := fun o => byte o + 256 * byte (o + 1); let four := fun o => two o + 65536 * two (o + 2);
     let b := s.boot; let j := b.journal; let ours := fun x => x = none ∨ x = some m; let other := 1 - j.active;
     let k := four 0; let total := (j.imageLen + 2047) / 2048;
     let chunk := if k + 1 = total then j.imageLen - 2048 * k else 2048; Serving s m 770 p ∧ p.length = 8 + two 4 ∧
     1 ≤ two 4 ∧ two 4 ≤ 2048 ∧ two 6 = 0 ∧ ours s.mgmt.updateBox ∧ s.mgmt.updateBox = some m ∧ j.state = 1 ∧
     j.active ≤ 1 ∧ k = b.acked ∧ k < total ∧ two 4 = chunk ∧ k / 32 ∈ b.erased ∧
     Memory.wf 255 (b.bankMem other) = true) ∧
    (let m : Nat := 1; let p : List Byte := [];
     let s : State := (CM 1 0x303 [] (B (fun b => {b with journal1 := some (J 1 0 0x10005), acked := 32, erased := [0,1], bank1 := [(4,5)]}) fun g => {g with updateBox := some 1}));
     Memory.wf 0 (s.mbx m).resp = true ∧ let b := s.boot; let j := b.journal;
     let ours := fun x => x = none ∨ x = some m; let total := (j.imageLen + 2047) / 2048;
     let flash := ¬0 ∈ b.absent ∨ ¬1 ∈ b.absent; Serving s m 771 p ∧ p = [] ∧ ours s.mgmt.updateBox ∧ j.state = 1 ∧
     flash ∧ b.acked < total) ∧
    (let m : Nat := 1; let p : List Byte := [];
     let s : State := (CM 1 0x303 [] (B (fun b => {b with journal1 := some (J 1 1 0x10005), acked := 33, erased := [0,1], bank1 := [(4,5)]}) fun g => {g with updateBox := some 1}));
     Memory.wf 0 (s.mbx m).resp = true ∧ let b := s.boot; let j := b.journal;
     let ours := fun x => x = none ∨ x = some m; let other := 1 - j.active; let total := (j.imageLen + 2047) / 2048;
     let flash := ¬0 ∈ b.absent ∨ ¬1 ∈ b.absent; Serving s m 771 p ∧ p = [] ∧ ours s.mgmt.updateBox ∧ j.state = 1 ∧
     flash ∧ total ≤ b.acked ∧ b.verify other (some j.imageLen) = true) ∧
    (let m : Nat := 1; let p : List Byte := [];
     let s : State := (CM 1 0x303 [] (B (fun b => {b with journal1 := some (J 1 0 0x10005), acked := 33, erased := [0,1], bank1 := [(4,5)]}) fun g => {g with updateBox := some 1}));
     Memory.wf 0 (s.mbx m).resp = true ∧ let b := s.boot; let j := b.journal;
     let ours := fun x => x = none ∨ x = some m; let other := 1 - j.active; let total := (j.imageLen + 2047) / 2048;
     let flash := ¬0 ∈ b.absent ∨ ¬1 ∈ b.absent; Serving s m 771 p ∧ p = [] ∧ ours s.mgmt.updateBox ∧ j.state = 1 ∧
     flash ∧ total ≤ b.acked ∧ b.verify other (some j.imageLen) = false) ∧
    (let m : Nat := 1; let p : List Byte := [];
     let s : State := (CM 1 0x304 [] (B (fun b => {b with journal1 := some (J 1 1 0x10005), acked := 33, erased := [0,1], bank1 := [(4,5)]}) fun g => {g with updateBox := some 1}));
     Memory.wf 0 (s.mbx m).resp = true ∧ let b := s.boot; let ours := fun x => x = none ∨ x = some m;
     Serving s m 772 p ∧ p = [] ∧ ours s.mgmt.updateBox ∧ b.verified = false) ∧
    (let m : Nat := 1; let p : List Byte := [];
     let s : State := (CM 1 0x304 [] (B (fun b => {b with journal1 := some (J 1 1 0x10005), verified := true, erased := [0,1], bank1 := [(4,5)]}) fun g => {g with updateBox := some 1}));
     Memory.wf 0 (s.mbx m).resp = true ∧ let b := s.boot; let ours := fun x => x = none ∨ x = some m;
     let flash := ¬0 ∈ b.absent ∨ ¬1 ∈ b.absent; Serving s m 772 p ∧ p = [] ∧ ours s.mgmt.updateBox ∧
     b.verified = true ∧ flash) ∧
    (let m : Nat := 1; let p : List Byte := [];
     let s : State := (CM 1 0x305 [] (B (fun b => {b with journal1 := some (J 2 1 0x10005), trialPassed := true}) fun g => {g with trial := true}));
     Memory.wf 0 (s.mbx m).resp = true ∧ let b := s.boot; let ours := fun x => x = none ∨ x = some m;
     Serving s m 773 p ∧ p = [] ∧ ours s.mgmt.updateBox ∧ s.mgmt.trial = true ∧ b.trialPassed = true) ∧
    (let m : Nat := 1; let p : List Byte := []; let s : State := CM 1 0x305 [] S0; Memory.wf 0 (s.mbx m).resp = true ∧
     let b := s.boot; let ours := fun x => x = none ∨ x = some m; Serving s m 773 p ∧ p = [] ∧ ours s.mgmt.updateBox ∧
     (¬ (s.mgmt.trial = true ∧ b.trialPassed = true)) ∧ s.pace.silent = false ∧ s.power.st = PState.run ∧
     s.faults.held = [] ∧ let readings : List Nat := List.replicate 70 500000; readings.length = 70) ∧
    (let m : Nat := 1; let p : List Byte := [];
     let s : State := (CM 1 0x306 [] (B (fun b => {b with journal1 := some (J 2 1 0x10005), trialPassed := true}) fun g => {g with trial := true}));
     Memory.wf 0 (s.mbx m).resp = true ∧ let b := s.boot; let ours := fun x => x = none ∨ x = some m;
     Serving s m 774 p ∧ p = [] ∧ ours s.mgmt.updateBox ∧ ∃ r, b.ruling = some r) ∧
    (let m : Nat := 1; let p : List Byte := [];
     let s : State := (CM 1 0x307 [] (B (fun b => {b with journal1 := some (J 2 1 0x10005), trialPassed := false}) fun g => {g with trial := true}));
     Memory.wf 0 (s.mbx m).resp = true ∧ let ours := fun x => x = none ∨ x = some m; Serving s m 775 p ∧ p = [] ∧
     ours s.mgmt.updateBox ∧ s.mgmt.trial = true ∧ let b := s.boot; s.fwRuns = true ∧ b.trialPassed = false ∧
     b.bootRec.hostConfirm = false) ∧
    (let m : Nat := 1; let p : List Byte := [];
     let s : State := (CM 1 0x307 [] (B (fun b => {b with bootRec := {hostConfirm := true}, journal1 := some (J 1 1 0x20005), trialPassed := false, erased := [0]}) fun g => {g with updateBox := some 1}));
     Memory.wf 0 (s.mbx m).resp = true ∧ let b := s.boot; let j := b.journal;
     let ours := fun x => x = none ∨ x = some m; let flash := ¬0 ∈ b.absent ∨ ¬1 ∈ b.absent; Serving s m 775 p ∧
     p = [] ∧ ours s.mgmt.updateBox ∧ s.mgmt.trial = false ∧ j.state = 1 ∧ flash ∧
     let next := List.foldl (fun n e => max n (e + 1)) 0 b.erased; j.active ≤ 1 ∧ s.mgmt.updateBox ≠ none ∧
     s.fwRuns = true ∧ next * 65536 < j.imageLen) ∧
    (let m : Nat := 1; let p : List Byte := [];
     let s : State := (CM 1 0x307 [] (B (fun b => {b with bootRec := {hostConfirm := true}, journal1 := some (J 0 1 0x20005), trialPassed := false, erased := [0]}) fun g => {g with trial := false}));
     Memory.wf 0 (s.mbx m).resp = true ∧ let b := s.boot; let j := b.journal;
     let ours := fun x => x = none ∨ x = some m; Serving s m 775 p ∧ p = [] ∧ ours s.mgmt.updateBox ∧
     s.mgmt.trial = false ∧ j.state ≠ 1) ∧
    (let m : Nat := 1;
     let s : State := (CM 1 0x300 [] (B (fun b => {b with bootRec := {hostConfirm := true}, journal1 := some (J 2 1 0x20005), trialPassed := false, erased := [0]}) fun g => {g with trial := true}));
     Memory.wf 0 (s.mbx m).resp = true ∧ let b := s.boot; s.mgmt.trial = true ∧ s.fwRuns = true ∧
     b.trialPassed = false ∧ b.bootRec.hostConfirm = true) ∧
    (let m : Nat := 1; let p : List Byte := [3,0]; let s : State := (CM 1 0x401 [3,0] S0);
     Memory.wf 0 (s.mbx m).resp = true ∧ let byte := fun o => BitVec.toNat (p.getD o 0);
     let two := fun o => byte o + 256 * byte (o + 1); let ours := fun x => x = none ∨ x = some m; Serving s m 1025 p ∧
     p.length = 2 ∧ 1 ≤ two 0 ∧ two 0 ≤ 6 ∧ ours s.mgmt.calBox) ∧
    (let m : Nat := 1; let p : List Byte := [5,0,2,0,5,0,0xFE,0xFF];
     let s : State := (CM 1 0x402 [5,0,2,0,5,0,0xFE,0xFF] S0); Memory.wf 0 (s.mbx m).resp = true ∧
     let byte := fun o => BitVec.toNat (p.getD o 0); let two := fun o => byte o + 256 * byte (o + 1);
     let ours := fun x => x = none ∨ x = some m;
     let item := fun i =>   match i with   | 1 => (21, 50)   | 2 => (70, 200)   | 3 => (18, 20)   | 4 => (36, 8)   | 5 => (2, 500)   | x => (6, 16);
     let deltas := List.map (fun i => sint 16 (two (4 + 2 * i))) (List.range (two 2)); Serving s m 1026 p ∧
     1 ≤ two 0 ∧ two 0 ≤ 6 ∧ p.length = 4 + 2 * two 2 ∧ two 2 = (item (two 0)).fst ∧ ours s.mgmt.calBox ∧
     (∀ (d : Int), d ∈ deltas → d.natAbs ≤ (item (two 0)).snd)) ∧
    (let m : Nat := 1; let p : List Byte := [5,0,2,0,5,0,0xFE,0xEF];
     let s : State := (CM 1 0x402 [5,0,2,0,5,0,0xFE,0xEF] S0); Memory.wf 0 (s.mbx m).resp = true ∧
     let byte := fun o => BitVec.toNat (p.getD o 0); let two := fun o => byte o + 256 * byte (o + 1);
     let ours := fun x => x = none ∨ x = some m;
     let item := fun i =>   match i with   | 1 => (21, 50)   | 2 => (70, 200)   | 3 => (18, 20)   | 4 => (36, 8)   | 5 => (2, 500)   | x => (6, 16);
     let deltas := List.map (fun i => sint 16 (two (4 + 2 * i))) (List.range (two 2)); Serving s m 1026 p ∧
     1 ≤ two 0 ∧ two 0 ≤ 6 ∧ p.length = 4 + 2 * two 2 ∧ two 2 = (item (two 0)).fst ∧ ours s.mgmt.calBox ∧
     (∃ d, d ∈ deltas ∧ (item (two 0)).snd < d.natAbs)) ∧
    (let m : Nat := 1; let p : List Byte := [];
     let s : State := (CM 1 0x403 [] {S0 with boot := {S0.boot with staged := some [(5,[1,2])], recordDue := some 3}});
     Memory.wf 0 (s.mbx m).resp = true ∧ let ours := fun x => x = none ∨ x = some m; Serving s m 1027 p ∧ p = [] ∧
     ours s.mgmt.calBox ∧ let b := s.boot; let flash := ¬0 ∈ b.absent ∨ ¬1 ∈ b.absent; b.recordDue ≠ none ∧
     s.fwRuns = true ∧ flash) ∧
    (let m : Nat := 1; let p : List Byte := [];
     let s : State := (CM 1 0x404 [] {S0 with boot := {S0.boot with staged := some [(5,[1,2])]}});
     Memory.wf 0 (s.mbx m).resp = true ∧ let ours := fun x => x = none ∨ x = some m; Serving s m 1028 p ∧ p = [] ∧
     ours s.mgmt.calBox) := by
  refine ⟨?_, ?_, ?_, ?_, ?_, ?_, ?_, ?_, ?_, ⟨?_, ?_, ?_, ?_, _, rfl⟩, ?_, ?_, ?_, ?_, ?_, ?_, ?_, ?_, ?_⟩ <;>
    decide +kernel

end UpdateCmds

namespace TimeCmds

def fr (n : Nat) : FaultRec :=
  { ns := 5, sec := 6, unknown := true, deferred := false, source := 3, unit := 0x8014, logical := 0xFFFF,
    oldCap := 1, newCap := 2, action := 9, arg := 77, seq := n }
def Q (p : List Sys2Proof.Byte) (c : Nat) (s : State) := CM 7 c p s
def TS (c : Sys2Proof.Byte) : List Sys2Proof.Byte := [c,0,0,0] ++ leBytes 5 4 ++ leBytes 777 6
def TA (c : Sys2Proof.Byte) (r : Nat) : List Sys2Proof.Byte := [c,0,0,0] ++ leBytes r 4 ++ leBytes (2^64-5) 8
def PS (st k cfg : Nat) : List Sys2Proof.Byte :=
  [BitVec.ofNat 8 st, BitVec.ofNat 8 k, 0, 0] ++ leBytes cfg 4 ++ List.replicate 128 0
def DP (op a : Nat) : List Sys2Proof.Byte :=
  leBytes 100 4 ++ [
    1,0,0,0] ++ ([0xFF] ++ List.replicate 15 0) ++ ([0xFF] ++ List.replicate 15 0) ++ [BitVec.ofNat 8 op,
    BitVec.ofNat 8 a,0,0,1,0,0,0]
def R16 := List.replicate 16 (0 : Sys2Proof.Byte)
def AU (c : Option (Nat × List Sys2Proof.Byte × Nat)) (ms : List Nat) (ru : Nat) : State :=
  {S0 with dbgBlock := {S0.dbgBlock with dbg := {challenge := c, misses := ms, refusedUntil := ru}}}

theorem test_witness_TimePowerAndAuthCommands :
    (let m : Nat := 7; let p : List Byte := [3,0,0,0,2];
     let s : State := (Q [3,0,0,0,2] 0x501 {S0 with aon := {S0.aon with log := [fr 1, fr 3, fr 4, fr 5]}});
     Memory.wf 0 (s.mbx m).resp = true ∧ s.dbgBlock.trigEn = false ∧ let byte := fun o => BitVec.toNat (p.getD o 0);
     Serving s m 1281 p ∧ p.length = 5 ∧ 1 ≤ byte 4 ∧ byte 4 ≤ 127) ∧
    (let m : Nat := 7; let p : List Byte := (TS 1); let s : State := (Q (TS 1) 0x601 S0);
     Memory.wf 0 (s.mbx m).resp = true ∧ s.dbgBlock.trigEn = false ∧ let byte := fun o => BitVec.toNat (p.getD o 0);
     let two := fun o => byte o + 256 * byte (o + 1); let four := fun o => two o + 65536 * two (o + 2);
     let tm := s.time; Serving s m 1537 p ∧ p.length = 14 ∧ byte 1 = 0 ∧ two 2 = 0 ∧ four 4 < 10 ^ 9 ∧ tm.mode = 0 ∧
     byte 0 = 1) ∧
    (let m : Nat := 7; let p : List Byte := (TS 3); let s : State := (Q (TS 3) 0x601 S0);
     Memory.wf 0 (s.mbx m).resp = true ∧ s.dbgBlock.trigEn = false ∧ let byte := fun o => BitVec.toNat (p.getD o 0);
     let two := fun o => byte o + 256 * byte (o + 1); let four := fun o => two o + 65536 * two (o + 2);
     let six := fun o => four o + 2 ^ 32 * two (o + 4); let tm := s.time; Serving s m 1537 p ∧ p.length = 14 ∧
     byte 1 = 0 ∧ two 2 = 0 ∧ four 4 < 10 ^ 9 ∧ tm.mode = 0 ∧ byte 0 = 3 ∧ six 8 < 2 ^ 46 ∧ s.time.sec < 2 ^ 46 ∧
     s.time.ns < 10 ^ 9 ∧ s.time.frac < 2 ^ 32 ∧ s.time.rate = 0 ∧ s.time.newRate = none ∧ s.time.slewOn = false) ∧
    (let m : Nat := 7; let p : List Byte := (TS 3);
     let s : State := (Q (TS 3) 0x601 {S0 with time := {S0.time with mode := 2}}); Memory.wf 0 (s.mbx m).resp = true ∧
     s.dbgBlock.trigEn = false ∧ let byte := fun o => BitVec.toNat (p.getD o 0);
     let two := fun o => byte o + 256 * byte (o + 1); let four := fun o => two o + 65536 * two (o + 2);
     let tm := s.time; Serving s m 1537 p ∧ p.length = 14 ∧ byte 1 = 0 ∧ two 2 = 0 ∧ four 4 < 10 ^ 9 ∧ tm.mode ≠ 0 ∧
     (byte 0 = 1 ∨ byte 0 = 3)) ∧
    (let m : Nat := 7; let p : List Byte := (TA 0 7); let s : State := (Q (TA 0 7) 0x602 S0);
     Memory.wf 0 (s.mbx m).resp = true ∧ s.dbgBlock.trigEn = false ∧ let byte := fun o => BitVec.toNat (p.getD o 0);
     let two := fun o => byte o + 256 * byte (o + 1); let tm := s.time; Serving s m 1538 p ∧ p.length = 16 ∧
     byte 1 = 0 ∧ two 2 = 0 ∧ byte 0 ≤ 1 ∧ tm.mode = 0 ∧ byte 0 = 0) ∧
    (let m : Nat := 7; let p : List Byte := (TA 1 0x40000000); let s : State := (Q (TA 1 0x40000000) 0x602 S0);
     Memory.wf 0 (s.mbx m).resp = true ∧ s.dbgBlock.trigEn = false ∧ let byte := fun o => BitVec.toNat (p.getD o 0);
     let two := fun o => byte o + 256 * byte (o + 1); let tm := s.time; Serving s m 1538 p ∧ p.length = 16 ∧
     byte 1 = 0 ∧ two 2 = 0 ∧ byte 0 ≤ 1 ∧ tm.mode = 0 ∧ byte 0 = 1) ∧
    (let m : Nat := 7; let p : List Byte := (TA 1 0x40000000);
     let s : State := (Q (TA 1 0x40000000) 0x602 {S0 with time := {S0.time with mode := 2}});
     Memory.wf 0 (s.mbx m).resp = true ∧ s.dbgBlock.trigEn = false ∧ let byte := fun o => BitVec.toNat (p.getD o 0);
     let two := fun o => byte o + 256 * byte (o + 1); let tm := s.time; Serving s m 1538 p ∧ p.length = 16 ∧
     byte 1 = 0 ∧ two 2 = 0 ∧ byte 0 ≤ 1 ∧ tm.mode ≠ 0 ∧ byte 0 = 1) ∧
    (let m : Nat := 7; let p : List Byte := [0,5,7,0,60,3]; let s : State := (Q [0,5,7,0,60,3] 0x603 S0);
     Memory.wf 0 (s.mbx m).resp = true ∧ s.dbgBlock.trigEn = false ∧ let byte := fun o => BitVec.toNat (p.getD o 0);
     let two := fun o => byte o + 256 * byte (o + 1); Serving s m 1539 p ∧ p.length = 6 ∧ byte 0 ≤ 2 ∧
     (byte 0 = 1 → byte 1 < 4) ∧ (byte 0 = 0 → inOwnerTable (two 2) = true) ∧ 1 ≤ byte 4 ∧ byte 4 ≤ 60 ∧ byte 5 < 4) ∧
    (let m : Nat := 7; let p : List Byte := [1,3,7,0,61,3]; let s : State := (Q [1,3,7,0,61,3] 0x603 S0);
     Memory.wf 0 (s.mbx m).resp = true ∧ s.dbgBlock.trigEn = false ∧ let byte := fun o => BitVec.toNat (p.getD o 0);
     Serving s m 1539 p ∧ p.length = 6 ∧ (3 ≤ byte 0 ∨ byte 4 = 0 ∨ 60 < byte 4)) ∧
    (let m : Nat := 7; let p : List Byte := (PS 0 0 0); let s : State := (Q (PS 0 0 0) 0x701 S0);
     Memory.wf 0 (s.mbx m).resp = true ∧ s.dbgBlock.trigEn = false ∧ let byte := fun o => BitVec.toNat (p.getD o 0);
     let two := fun o => byte o + 256 * byte (o + 1); Serving s m 1793 p ∧ p.length = 136 ∧ byte 0 < 4 ∧ byte 1 ≤ 1 ∧
     two 2 = 0 ∧ byte 0 = 0) ∧
    (let m : Nat := 7; let p : List Byte := (PS 1 0 5);
     let s : State := (Q (PS 1 0 5) 0x701 {S0 with fabric := {S0.fabric with joined := true}});
     Memory.wf 0 (s.mbx m).resp = true ∧ s.dbgBlock.trigEn = false ∧ let byte := fun o => BitVec.toNat (p.getD o 0);
     let two := fun o => byte o + 256 * byte (o + 1); Serving s m 1793 p ∧ p.length = 136 ∧ byte 0 < 4 ∧ byte 1 ≤ 1 ∧
     two 2 = 0 ∧ byte 0 ≠ 0 ∧ s.fabric.joined = true) ∧
    (let m : Nat := 7; let p : List Byte := (PS 2 0 0); let s : State := (Q (PS 2 0 0) 0x701 S0);
     Memory.wf 0 (s.mbx m).resp = true ∧ s.dbgBlock.trigEn = false ∧ let byte := fun o => BitVec.toNat (p.getD o 0);
     let two := fun o => byte o + 256 * byte (o + 1); Serving s m 1793 p ∧ p.length = 136 ∧ byte 0 < 4 ∧ byte 1 ≤ 1 ∧
     two 2 = 0 ∧ byte 0 = 2 ∧ s.aon.drizzle = none) ∧
    (let m : Nat := 7; let p : List Byte := (PS 1 0 0); let s : State := (Q (PS 1 0 0) 0x701 S0);
     Memory.wf 0 (s.mbx m).resp = true ∧ s.dbgBlock.trigEn = false ∧ let byte := fun o => BitVec.toNat (p.getD o 0);
     let two := fun o => byte o + 256 * byte (o + 1); Serving s m 1793 p ∧ p.length = 136 ∧ byte 0 < 4 ∧ byte 1 ≤ 1 ∧
     two 2 = 0 ∧ byte 0 = 1 ∧ s.fabric.joined = false ∧ ((List.range 132).all fun i => p.getD (4 + i) 0 == 0) = true) ∧
    (let m : Nat := 7; let p : List Byte := (PS 1 0 5); let s : State := (Q (PS 1 0 5) 0x701 (S0.setMbx 1 {st := 1}));
     Memory.wf 0 (s.mbx m).resp = true ∧ s.dbgBlock.trigEn = false ∧ let byte := fun o => BitVec.toNat (p.getD o 0);
     let two := fun o => byte o + 256 * byte (o + 1); let four := fun o => two o + 65536 * two (o + 2);
     let idle := (∀ (k : Nat), k < 8 → k ≠ m → (s.mbx k).st ≠ 1 ∧ (s.mbx k).st ≠ 2) ∧ ∀ (e : Nat × Tile), e ∈ s.tiles → e.snd.run = RunState.running → e.snd.atBoundary = true;
     let cfg := BitVec.ofNat 32 (four 4) &&& 2097151; Serving s m 1793 p ∧ p.length = 136 ∧ byte 0 < 4 ∧ byte 1 ≤ 1 ∧
     two 2 = 0 ∧ (byte 0 = 1 ∨ byte 0 = 3) ∧ s.fabric.joined = false ∧ cfg ≠ 0 ∧ ¬idle) ∧
    (let m : Nat := 7; let p : List Byte := (PS 1 0 5);
     let s : State := (Q (PS 1 0 5) 0x701 ((S0.setPort 1 {up := true}).setFeed 2 {up := true}));
     Memory.wf 0 (s.mbx m).resp = true ∧ s.dbgBlock.trigEn = false ∧ let byte := fun o => BitVec.toNat (p.getD o 0);
     let two := fun o => byte o + 256 * byte (o + 1); let four := fun o => two o + 65536 * two (o + 2);
     let idle := (∀ (k : Nat), k < 8 → k ≠ m → (s.mbx k).st ≠ 1 ∧ (s.mbx k).st ≠ 2) ∧ ∀ (e : Nat × Tile), e ∈ s.tiles → e.snd.run = RunState.running → e.snd.atBoundary = true;
     let cfg := BitVec.ofNat 32 (four 4) &&& 2097151; Serving s m 1793 p ∧ p.length = 136 ∧ byte 0 < 4 ∧ byte 1 ≤ 1 ∧
     two 2 = 0 ∧ (byte 0 = 1 ∨ byte 0 = 3) ∧ s.fabric.joined = false ∧ cfg ≠ 0 ∧ idle) ∧
    (let m : Nat := 7; let p : List Byte := (DP 8 7);
     let s : State := (Q (DP 8 7) 0x702 (S0.setPin 7 {owner := 0x404})); Memory.wf 0 (s.mbx m).resp = true ∧
     s.dbgBlock.trigEn = false ∧ Serving s m 1794 p ∧ s.parseDrizzle p = none ∧
     let byte := fun o => BitVec.toNat (p.getD o 0); p.length = 48 ∧ byte 4 = 1 ∧ 7 < byte 40) ∧
    (let m : Nat := 7; let p : List Byte := (DP 1 7);
     let s : State := (Q (DP 1 7) 0x702 (S0.setPin 7 {owner := 0x404})); Memory.wf 0 (s.mbx m).resp = true ∧
     s.dbgBlock.trigEn = false ∧ Serving s m 1794 p ∧ ∃ z, s.parseDrizzle p = some z ∧
     (∀ (n : Nat), n ∈ z.allPins → (s.pin n).owner = 1028) ∧ (∀ (e : Nat), e ∈ z.engines → (s.ser e).owner = 1028)) ∧
    (let m : Nat := 7; let p : List Byte := (DP 1 7); let s : State := (Q (DP 1 7) 0x702 S0);
     Memory.wf 0 (s.mbx m).resp = true ∧ s.dbgBlock.trigEn = false ∧ Serving s m 1794 p ∧
     ∃ z, s.parseDrizzle p = some z ∧ (∃ n, n ∈ z.allPins ∧ (s.pin n).owner ≠ 1028)) ∧
    (let m : Nat := 7; let p : List Byte := [];
     let s : State := (Q [] 0x703 {S0 with aon := {S0.aon with wake := {state := 2, kind := 1, code := 3, regs := [5]}}});
     Memory.wf 0 (s.mbx m).resp = true ∧ s.dbgBlock.trigEn = false ∧ Serving s m 1795 p ∧ p = []) ∧
    (let m : Nat := 1; let p : List Byte := [0]; let s : State := CM 1 0xA01 [0] S0;
     Memory.wf 0 (s.mbx m).resp = true ∧ s.dbgBlock.trigEn = false ∧ let byte := fun o => BitVec.toNat (p.getD o 0);
     Serving s m 2561 p ∧ (p.length ≠ 1 ∨ byte 0 = 0 ∨ 3 < byte 0)) ∧
    (let m : Nat := 7; let p : List Byte := [2]; let s : State := (Q [2] 0xA01 S0);
     Memory.wf 0 (s.mbx m).resp = true ∧ s.dbgBlock.trigEn = false ∧ let byte := fun o => BitVec.toNat (p.getD o 0);
     Serving s m 2561 p ∧ p.length = 1 ∧ 1 ≤ byte 0 ∧ byte 0 ≤ 3) ∧
    (let m : Nat := 7; let p : List Byte := R16;
     let s : State := (Q R16 0xA02 (AU (some (3, R16, 899999999999)) [899999999999,8] 900000000001));
     Memory.wf 0 (s.mbx m).resp = true ∧ s.dbgBlock.trigEn = false ∧
     let d := if m = 2 then s.dbgBlock.svc else s.dbgBlock.dbg; Serving s m 2562 p ∧ p.length = 16 ∧
     s.wall < d.refusedUntil) ∧
    (let m : Nat := 7; let p : List Byte := [3,3];
     let s : State := (Q [3,3] 0xA03 {S0 with dbgBlock := {S0.dbgBlock with dbg := {granted := 2, level := 2}}});
     Memory.wf 0 (s.mbx m).resp = true ∧ s.dbgBlock.trigEn = false ∧ let byte := fun o => BitVec.toNat (p.getD o 0);
     let d := if m = 2 then s.dbgBlock.svc else s.dbgBlock.dbg; Serving s m 2563 p ∧ p.length = 2 ∧ byte 0 ≤ 3 ∧
     byte 1 ≤ 3 ∧ d.granted < byte 0) ∧
    (let m : Nat := 7; let p : List Byte := [2,3];
     let s : State := (Q [2,3] 0xA03 {S0 with dbgBlock := {S0.dbgBlock with dbg := {granted := 2}}});
     Memory.wf 0 (s.mbx m).resp = true ∧ s.dbgBlock.trigEn = false ∧ let byte := fun o => BitVec.toNat (p.getD o 0);
     let d := if m = 2 then s.dbgBlock.svc else s.dbgBlock.dbg; Serving s m 2563 p ∧ p.length = 2 ∧ byte 0 ≤ 3 ∧
     byte 1 ≤ 3 ∧ byte 0 ≤ d.granted) := by
  refine ⟨?_, ?_, ?_, ?_, ?_, ?_, ?_, ?_, ?_, ?_, ?_, ?_, ?_, ?_, ?_, ?_, ⟨?_, ?_, ?_, _, rfl, ?_, ?_⟩, ⟨?_, ?_, ?_,
    _, rfl, ?_⟩, ?_, ?_, ?_, ?_, ?_, ?_⟩ <;> decide +kernel

end TimeCmds

namespace EngineCmds

def EN (f : Engine → Engine) : State := {S0 with engine := f S0.engine}
def ML : List Sys2Proof.Byte := [1,0,0,0] ++ leBytes 0x3FFFFE 4 ++ [5,6]
def MV : List Sys2Proof.Byte := [0,0,0,0,0,0,0,0]
def SW : List Sys2Proof.Byte := leBytes 5 4 ++ leBytes 6 4 ++ leBytes 7 4 ++ leBytes 8 4
def SC (px lr : Nat) : List Sys2Proof.Byte :=
  [2, 0] ++ leBytes px 2 ++ leBytes 4 2 ++ [5, 2, 12, 16, 3,
    0] ++ leBytes 100 2 ++ leBytes 9 2 ++ leBytes 64 2 ++ leBytes 272 2 ++ leBytes 273 2 ++ leBytes 303 2 ++ leBytes 0 4 ++ leBytes lr 4
def EM : State :=
  EN fun e => {e with homeValid := true, streams := [(2,{configured := true, par := {pixels := 3, bands := 5}})], mem := memWrite 0 (memWrite 0 [] 0x10 (leBytes 0x40 4 ++ leBytes 0x40 4 ++ leBytes 0x100 4 ++ leBytes 0x40 4)) 0x100 (leBytes 0x54434553 4 ++ [3,0,5,0, 3,0,5,0,3,0,5,0])}
def FR : List Sys2Proof.Byte :=
  [0x23,3,1,2,0,0,5,6,0xFF,3] ++ leBytes 20 2 ++ [0,0,0,0] ++ List.replicate 64 5 ++ List.replicate 64 7
def RS : List Sys2Proof.Byte := [1,0,0,0,5,0,0,0,2,0]

theorem test_witness_EngineAndFabricCommands :
    (let m : Nat := 1; let p : List Byte := ML;
     let s : State := (CM 1 0x801 ML (EN fun e => {e with switching := true}));
     Memory.wf 0 (s.mbx m).resp = true ∧ let byte := fun o => BitVec.toNat (p.getD o 0);
     let two := fun o => byte o + 256 * byte (o + 1); let four := fun o => two o + 65536 * two (o + 2);
     let e := s.engine; let ours := s.mgmt.modelBox = none ∨ s.mgmt.modelBox = some m; Serving s m 2049 p ∧
     byte 0 = 1 ∧ byte 1 = 0 ∧ two 2 = 0 ∧ 9 ≤ p.length ∧ four 4 + (p.length - 8) ≤ 4194304 ∧ ours ∧
     Memory.wf 0 e.mem = true ∧ e.switching = true) ∧
    (let m : Nat := 1; let p : List Byte := MV;
     let s : State := (CM 1 0x801 MV (EN fun e => {e with awayValid := true}));
     Memory.wf 0 (s.mbx m).resp = true ∧ let byte := fun o => BitVec.toNat (p.getD o 0);
     let two := fun o => byte o + 256 * byte (o + 1); let four := fun o => two o + 65536 * two (o + 2);
     let e := s.engine; let ours := s.mgmt.modelBox = none ∨ s.mgmt.modelBox = some m; Serving s m 2049 p ∧
     p.length = 8 ∧ byte 0 = 0 ∧ byte 1 = 0 ∧ two 2 = 0 ∧ four 4 < 4194304 ∧ ours ∧ e.switching = false) ∧
    (let m : Nat := 1; let p : List Byte := SW;
     let s : State := (CM 1 0x802 SW (EN fun e => {e with awayValid := true, awayId := 7}));
     Memory.wf 0 (s.mbx m).resp = true ∧ let e := s.engine; Serving s m 2050 p ∧ p.length = 16 ∧
     e.awayValid = true ∧ e.switching = false ∧ ∀ (q : Nat), q < 4 → (s.stream q).st = StreamState.off) ∧
    (let m : Nat := 1; let p : List Byte := SW;
     let s : State := (CM 1 0x802 SW (EN fun e => {e with awayValid := false}));
     Memory.wf 0 (s.mbx m).resp = true ∧ let e := s.engine; Serving s m 2050 p ∧ p.length = 16 ∧
     (e.awayValid = false ∨ e.switching = true)) ∧
    (let m : Nat := 1; let p : List Byte := SW;
     let s : State := (CM 1 0x802 SW (EN fun e => {e with awayValid := true, streams := [(1,{st := .running}),(2,{st := .armed})]}));
     Memory.wf 0 (s.mbx m).resp = true ∧ let e := s.engine; Serving s m 2050 p ∧ p.length = 16 ∧
     e.awayValid = true ∧ e.switching = false ∧ ∃ q, q < 4 ∧
     ((s.stream q).st = StreamState.running ∨ (s.stream q).st = StreamState.armed)) ∧
    (let m : Nat := 1; let p : List Byte := (SC 512 100); let s : State := (CM 1 0x803 (SC 512 100) S0);
     Memory.wf 0 (s.mbx m).resp = true ∧ let byte := fun o => BitVec.toNat (p.getD o 0);
     let two := fun o => byte o + 256 * byte (o + 1); let four := fun o => two o + 65536 * two (o + 2);
     let k := byte 0; let v := s.stream k;
     let x : StreamParams := { pixels := two 2, bands := two 4, bil := decide (byte 6 % 2 = 1), pixOff := decide (byte 6 / 2 % 2 = 1), left := decide (byte 6 / 4 % 2 = 1), little := decide (byte 6 / 8 % 2 = 1), container := byte 7, bits := byte 8, lineWidth := byte 9, window := byte 10, lineTimeout := two 12, maxSpan := two 14, itemQuota := two 16, itemQ := two 18, histQ := two 20, statusQ := two 22, flushUs := four 24, lineRate := four 28 };
     let inRange := 1 ≤ x.pixels ∧ x.pixels ≤ 4096 ∧ 1 ≤ x.bands ∧ x.bands ≤ 256 ∧ ¬(x.bil = true ∧ x.pixOff = true) ∧ (x.container = 1 ∨ x.container = 2) ∧ 8 ≤ x.bits ∧ x.bits ≤ 8 * x.container ∧ (x.lineWidth = 8 ∨ x.lineWidth = 16 ∨ x.lineWidth = 32) ∧ 1 ≤ x.window ∧ x.window ≤ 8 ∧ 10 ≤ x.lineTimeout ∧ 1 ≤ x.maxSpan ∧ 1 ≤ x.itemQuota ∧ x.itemQuota ≤ 256 ∧ 272 ≤ x.itemQ ∧ x.itemQ ≤ 303 ∧ 272 ≤ x.histQ ∧ x.histQ ≤ 303 ∧ 272 ≤ x.statusQ ∧ x.statusQ ≤ 303 ∧ x.flushUs ≤ 1000000 ∧ 1 ≤ x.lineRate ∧ x.lineRate ≤ 200000;
     let quota := List.foldl (fun x1 x2 => x1 + x2) 0 (List.map (fun j => if j = k then x.itemQuota else if (s.stream j).configured = true then (s.stream j).par.itemQuota else 0) (List.range 4));
     Serving s m 2051 p ∧ p.length = 32 ∧ k < 4 ∧ byte 1 = 0 ∧ byte 6 < 16 ∧ byte 11 = 0 ∧ inRange ∧
     v.st = StreamState.off ∧ quota ≤ 256 ∧ s.demand k x ≤ (s.court 17).target * 1000) ∧
    (let m : Nat := 1; let p : List Byte := (SC 0 100); let s : State := (CM 1 0x803 (SC 0 100) S0);
     Memory.wf 0 (s.mbx m).resp = true ∧ let byte := fun o => BitVec.toNat (p.getD o 0);
     let two := fun o => byte o + 256 * byte (o + 1); let four := fun o => two o + 65536 * two (o + 2);
     let k := byte 0;
     let x : StreamParams := { pixels := two 2, bands := two 4, bil := decide (byte 6 % 2 = 1), pixOff := decide (byte 6 / 2 % 2 = 1), left := decide (byte 6 / 4 % 2 = 1), little := decide (byte 6 / 8 % 2 = 1), container := byte 7, bits := byte 8, lineWidth := byte 9, window := byte 10, lineTimeout := two 12, maxSpan := two 14, itemQuota := two 16, itemQ := two 18, histQ := two 20, statusQ := two 22, flushUs := four 24, lineRate := four 28 };
     let inRange := 1 ≤ x.pixels ∧ x.pixels ≤ 4096 ∧ 1 ≤ x.bands ∧ x.bands ≤ 256 ∧ ¬(x.bil = true ∧ x.pixOff = true) ∧ (x.container = 1 ∨ x.container = 2) ∧ 8 ≤ x.bits ∧ x.bits ≤ 8 * x.container ∧ (x.lineWidth = 8 ∨ x.lineWidth = 16 ∨ x.lineWidth = 32) ∧ 1 ≤ x.window ∧ x.window ≤ 8 ∧ 10 ≤ x.lineTimeout ∧ 1 ≤ x.maxSpan ∧ 1 ≤ x.itemQuota ∧ x.itemQuota ≤ 256 ∧ 272 ≤ x.itemQ ∧ x.itemQ ≤ 303 ∧ 272 ≤ x.histQ ∧ x.histQ ≤ 303 ∧ 272 ≤ x.statusQ ∧ x.statusQ ≤ 303 ∧ x.flushUs ≤ 1000000 ∧ 1 ≤ x.lineRate ∧ x.lineRate ≤ 200000;
     Serving s m 2051 p ∧ p.length = 32 ∧ k < 4 ∧ byte 1 = 0 ∧ byte 6 < 16 ∧ byte 11 = 0 ∧ ¬inRange) ∧
    (let m : Nat := 1; let p : List Byte := (SC 512 100);
     let s : State := (CM 1 0x803 (SC 512 100) (EN fun e => {e with streams := [(1,{configured := true, par := {itemQuota := 256}})]}));
     Memory.wf 0 (s.mbx m).resp = true ∧ let byte := fun o => BitVec.toNat (p.getD o 0);
     let two := fun o => byte o + 256 * byte (o + 1); let four := fun o => two o + 65536 * two (o + 2);
     let k := byte 0; let v := s.stream k;
     let x : StreamParams := { pixels := two 2, bands := two 4, bil := decide (byte 6 % 2 = 1), pixOff := decide (byte 6 / 2 % 2 = 1), left := decide (byte 6 / 4 % 2 = 1), little := decide (byte 6 / 8 % 2 = 1), container := byte 7, bits := byte 8, lineWidth := byte 9, window := byte 10, lineTimeout := two 12, maxSpan := two 14, itemQuota := two 16, itemQ := two 18, histQ := two 20, statusQ := two 22, flushUs := four 24, lineRate := four 28 };
     let inRange := 1 ≤ x.pixels ∧ x.pixels ≤ 4096 ∧ 1 ≤ x.bands ∧ x.bands ≤ 256 ∧ ¬(x.bil = true ∧ x.pixOff = true) ∧ (x.container = 1 ∨ x.container = 2) ∧ 8 ≤ x.bits ∧ x.bits ≤ 8 * x.container ∧ (x.lineWidth = 8 ∨ x.lineWidth = 16 ∨ x.lineWidth = 32) ∧ 1 ≤ x.window ∧ x.window ≤ 8 ∧ 10 ≤ x.lineTimeout ∧ 1 ≤ x.maxSpan ∧ 1 ≤ x.itemQuota ∧ x.itemQuota ≤ 256 ∧ 272 ≤ x.itemQ ∧ x.itemQ ≤ 303 ∧ 272 ≤ x.histQ ∧ x.histQ ≤ 303 ∧ 272 ≤ x.statusQ ∧ x.statusQ ≤ 303 ∧ x.flushUs ≤ 1000000 ∧ 1 ≤ x.lineRate ∧ x.lineRate ≤ 200000;
     let quota := List.foldl (fun x1 x2 => x1 + x2) 0 (List.map (fun j => if j = k then x.itemQuota else if (s.stream j).configured = true then (s.stream j).par.itemQuota else 0) (List.range 4));
     Serving s m 2051 p ∧ p.length = 32 ∧ k < 4 ∧ byte 1 = 0 ∧ byte 6 < 16 ∧ byte 11 = 0 ∧ inRange ∧
     v.st = StreamState.off ∧ 256 < quota) ∧
    (let m : Nat := 1; let p : List Byte := (SC 512 100);
     let s : State := (CM 1 0x803 (SC 512 100) (EN fun e => {e with streams := [(2,{st := .armed})]}));
     Memory.wf 0 (s.mbx m).resp = true ∧ let byte := fun o => BitVec.toNat (p.getD o 0);
     let two := fun o => byte o + 256 * byte (o + 1); let four := fun o => two o + 65536 * two (o + 2);
     let k := byte 0; let v := s.stream k;
     let x : StreamParams := { pixels := two 2, bands := two 4, bil := decide (byte 6 % 2 = 1), pixOff := decide (byte 6 / 2 % 2 = 1), left := decide (byte 6 / 4 % 2 = 1), little := decide (byte 6 / 8 % 2 = 1), container := byte 7, bits := byte 8, lineWidth := byte 9, window := byte 10, lineTimeout := two 12, maxSpan := two 14, itemQuota := two 16, itemQ := two 18, histQ := two 20, statusQ := two 22, flushUs := four 24, lineRate := four 28 };
     let inRange := 1 ≤ x.pixels ∧ x.pixels ≤ 4096 ∧ 1 ≤ x.bands ∧ x.bands ≤ 256 ∧ ¬(x.bil = true ∧ x.pixOff = true) ∧ (x.container = 1 ∨ x.container = 2) ∧ 8 ≤ x.bits ∧ x.bits ≤ 8 * x.container ∧ (x.lineWidth = 8 ∨ x.lineWidth = 16 ∨ x.lineWidth = 32) ∧ 1 ≤ x.window ∧ x.window ≤ 8 ∧ 10 ≤ x.lineTimeout ∧ 1 ≤ x.maxSpan ∧ 1 ≤ x.itemQuota ∧ x.itemQuota ≤ 256 ∧ 272 ≤ x.itemQ ∧ x.itemQ ≤ 303 ∧ 272 ≤ x.histQ ∧ x.histQ ≤ 303 ∧ 272 ≤ x.statusQ ∧ x.statusQ ≤ 303 ∧ x.flushUs ≤ 1000000 ∧ 1 ≤ x.lineRate ∧ x.lineRate ≤ 200000;
     Serving s m 2051 p ∧ p.length = 32 ∧ k < 4 ∧ byte 1 = 0 ∧ byte 6 < 16 ∧ byte 11 = 0 ∧ inRange ∧
     v.st ≠ StreamState.off) ∧
    (let m : Nat := 1; let p : List Byte := [2,1]; let s : State := (CM 1 0x803 [2,1] S0);
     Memory.wf 0 (s.mbx m).resp = true ∧ let byte := fun o => BitVec.toNat (p.getD o 0); let e := s.engine;
     let k := byte 0; let v := s.stream k; let section_ := s.sectionIn e.homeBank k;
     let sectioned := e.homeValid = true ∧ (s.model e.homeBank).sect k ≠ 0 ∧ section_.pixels = v.par.pixels ∧ section_.bands = v.par.bands;
     Serving s m 2051 p ∧ p.length = 2 ∧ k < 4 ∧ byte 1 = 1 ∧
     ¬(v.st = StreamState.off ∧ v.configured = true ∧ sectioned)) ∧
    (let m : Nat := 1; let p : List Byte := [2,1];
     let s : State := (CM 1 0x803 [2,1] (let s := EM; s.setStream 2 {configured := true, par := {pixels := (s.sectionIn 0 2).pixels, bands := (s.sectionIn 0 2).bands}}));
     Memory.wf 0 (s.mbx m).resp = true ∧ let byte := fun o => BitVec.toNat (p.getD o 0); let e := s.engine;
     let k := byte 0; let v := s.stream k; let section_ := s.sectionIn e.homeBank k;
     let sectioned := e.homeValid = true ∧ (s.model e.homeBank).sect k ≠ 0 ∧ section_.pixels = v.par.pixels ∧ section_.bands = v.par.bands;
     Serving s m 2051 p ∧ p.length = 2 ∧ k < 4 ∧ byte 1 = 1 ∧ v.st = StreamState.off ∧ v.configured = true ∧
     sectioned ∧ s.demand k v.par ≤ (s.court 17).target * 1000) ∧
    (let m : Nat := 1; let p : List Byte := [2,2]; let s : State := (CM 1 0x803 [2,2] EM);
     Memory.wf 0 (s.mbx m).resp = true ∧ let byte := fun o => BitVec.toNat (p.getD o 0); let k := byte 0;
     let v := s.stream k; Serving s m 2051 p ∧ p.length = 2 ∧ k < 4 ∧ byte 1 = 2 ∧ v.st = StreamState.off) ∧
    (let m : Nat := 1; let p : List Byte := [2,2];
     let s : State := (CM 1 0x803 [2,2] (EM.setStream 2 {st := .draining}));
     Memory.wf 0 (s.mbx m).resp = true ∧ let byte := fun o => BitVec.toNat (p.getD o 0); let k := byte 0;
     let v := s.stream k; Serving s m 2051 p ∧ p.length = 2 ∧ k < 4 ∧ byte 1 = 2 ∧ v.st = StreamState.draining) ∧
    (let m : Nat := 1; let p : List Byte := [2,2];
     let s : State := (CM 1 0x803 [2,2] (EM.setStream 2 {st := .running, opens := [{line := 4}], backlog := [{line := 3}]}));
     Memory.wf 0 (s.mbx m).resp = true ∧ let byte := fun o => BitVec.toNat (p.getD o 0); let k := byte 0;
     let v := s.stream k; Serving s m 2051 p ∧ p.length = 2 ∧ k < 4 ∧ byte 1 = 2 ∧
     (v.st = StreamState.armed ∨ v.st = StreamState.running)) ∧
    (let m : Nat := 1; let p : List Byte := FR; let s : State := (CM 1 0x803 FR S0);
     Memory.wf 0 (s.mbx m).resp = true ∧ let byte := fun o => BitVec.toNat (p.getD o 0);
     let two := fun o => byte o + 256 * byte (o + 1); let four := fun o => two o + 65536 * two (o + 2);
     let ruleGood := byte 0 < 64 ∧ byte 2 ≤ 2 ∧ (byte 3 ≤ if byte 2 = 1 ∧ byte 8 = 255 then 3 else 0) ∧ (two 4 ≤ if byte 2 = 2 then 255 else 0) ∧ (byte 2 = 0 ∨ byte 6 ≤ 60 ∧ byte 7 ≤ 62 ∧ (byte 8 ≤ 63 ∨ byte 8 = 255) ∧ byte 9 < 4 ∧ 14 ≤ two 10 ∧ two 10 ≤ 2027) ∧ four 12 = 0 ∧ ((List.range 64).all fun i => p.getD (16 + i) 0 &&& ~~~p.getD (80 + i) 0 == 0) = true;
     Serving s m 2051 p ∧ p.length = 144 ∧ byte 1 = 3 ∧ ruleGood) ∧
    (let m : Nat := 1; let p : List Byte := [];
     let s : State := (CM 1 0x902 [] {S0 with fabric := {S0.fabric with joined := true}});
     Memory.wf 0 (s.mbx m).resp = true ∧ let f := s.fabric; Serving s m 2306 p ∧ p = [] ∧ f.joined = true) ∧
    (let m : Nat := 1; let p : List Byte := []; let s : State := (CM 1 0x902 [] S0);
     Memory.wf 0 (s.mbx m).resp = true ∧ let f := s.fabric; Serving s m 2306 p ∧ p = [] ∧ f.joined = false) ∧
    (let m : Nat := 1; let p : List Byte := RS; let s : State := (CM 1 0x903 RS S0);
     Memory.wf 0 (s.mbx m).resp = true ∧ let byte := fun o => BitVec.toNat (p.getD o 0);
     let two := fun o => byte o + 256 * byte (o + 1); let f := s.fabric; Serving s m 2307 p ∧
     p.length = 4 + 6 * byte 0 ∧ byte 0 ≤ 64 ∧ byte 1 = 0 ∧ two 2 = 0 ∧
     (∀ (i : Nat), i < 64 → i < byte 0 → two (4 + 6 * i) < 2 ^ 14 ∧ two (6 + 6 * i) < 2 ^ 14 ∧ byte (8 + 6 * i) < 4 ∧ byte (9 + 6 * i) = 0) ∧
     f.ftags = []) ∧
    (let m : Nat := 1; let p : List Byte := RS;
     let s : State := (CM 1 0x903 RS {S0 with fabric := {S0.fabric with ftags := [(9,⟨6,5,5,3,1,4,0,1⟩)]}});
     Memory.wf 0 (s.mbx m).resp = true ∧ let byte := fun o => BitVec.toNat (p.getD o 0);
     let two := fun o => byte o + 256 * byte (o + 1); let f := s.fabric; Serving s m 2307 p ∧
     p.length = 4 + 6 * byte 0 ∧ byte 0 ≤ 64 ∧ byte 1 = 0 ∧ two 2 = 0 ∧
     (∀ (i : Nat), i < 64 → i < byte 0 → two (4 + 6 * i) < 2 ^ 14 ∧ two (6 + 6 * i) < 2 ^ 14 ∧ byte (8 + 6 * i) < 4 ∧ byte (9 + 6 * i) = 0) ∧
     byte 0 = 1 ∧ two 6 = 0 ∧ f.ftags ≠ []) ∧
    (let m : Nat := 1; let p : List Byte := [5,0,20,0];
     let s : State := (CM 1 0x904 [5,0,20,0] {S0 with fabric := {S0.fabric with members := [6,7,9], gone := [7,20], out := [9], caps := [(6,4)], aliases := [⟨9,6,[]⟩]}});
     Memory.wf 0 (s.mbx m).resp = true ∧ let byte := fun o => BitVec.toNat (p.getD o 0);
     let two := fun o => byte o + 256 * byte (o + 1); Serving s m 2308 p ∧ p.length = 4 ∧ 1 ≤ two 2 ∧
     two 2 ≤ 1000 ∧ two 0 + two 2 ≤ 16384) ∧
    (let m : Nat := 1; let p : List Byte := MV;
     let s : State := (CM 1 0x801 MV (EN fun e => {e with switching := true}));
     Memory.wf 0 (s.mbx m).resp = true ∧ let byte := fun o => BitVec.toNat (p.getD o 0);
     let two := fun o => byte o + 256 * byte (o + 1); let four := fun o => two o + 65536 * two (o + 2);
     let e := s.engine; let ours := s.mgmt.modelBox = none ∨ s.mgmt.modelBox = some m; Serving s m 2049 p ∧
     p.length = 8 ∧ byte 0 = 0 ∧ byte 1 = 0 ∧ two 2 = 0 ∧ four 4 < 4194304 ∧ ours ∧ e.switching = true) := by
  refine ⟨?_, ?_, ?_, ?_, ?_, ?_, ?_, ?_, ?_, ?_, ?_, ?_, ?_, ?_, ?_, ?_, ?_, ?_, ?_, ?_, ?_⟩ <;>
    decide +kernel

theorem test_witness_EngineAndFabricCommands_3 :
    (let m : Nat := 1; let p : List Byte := SW;
     let s : State := (CM 1 0x802 SW ({S0 with mgmt := {S0.mgmt with modelBox := some 4}}));
     Memory.wf 0 (s.mbx m).resp = true ∧ let ours := s.mgmt.modelBox = none ∨ s.mgmt.modelBox = some m;
     Serving s m 2050 p ∧ p.length = 16 ∧ ¬ours) ∧
    (let m : Nat := 1; let p : List Byte := SW;
     let s : State := (CM 1 0x802 SW (EN fun e => {e with awayValid := false})); Memory.wf 0 (s.mbx m).resp = true ∧
     let e := s.engine; let ours := s.mgmt.modelBox = none ∨ s.mgmt.modelBox = some m; Serving s m 2050 p ∧
     p.length = 16 ∧ ours ∧ (e.awayValid = false ∨ e.switching = true)) ∧
    (let m : Nat := 1; let p : List Byte := SW;
     let s : State := (CM 1 0x802 SW (EN fun e => {e with awayValid := true, streams := [(1,{st := .running}),(2,{st := .armed})]}));
     Memory.wf 0 (s.mbx m).resp = true ∧ let e := s.engine;
     let ours := s.mgmt.modelBox = none ∨ s.mgmt.modelBox = some m; Serving s m 2050 p ∧ p.length = 16 ∧ ours ∧
     e.awayValid = true ∧ e.switching = false ∧
     (∃ q, q < 4 ∧ ((s.stream q).st = StreamState.running ∨ (s.stream q).st = StreamState.armed))) ∧
    (let m : Nat := 1; let p : List Byte := SW;
     let s : State := (CM 1 0x802 SW (EN fun e => {e with awayValid := true, awayId := 7}));
     Memory.wf 0 (s.mbx m).resp = true ∧ let e := s.engine;
     let ours := s.mgmt.modelBox = none ∨ s.mgmt.modelBox = some m; Serving s m 2050 p ∧ p.length = 16 ∧ ours ∧
     e.awayValid = true ∧ e.switching = false ∧ (∀ (q : Nat), q < 4 → (s.stream q).st = StreamState.off)) ∧
    (let m : Nat := 1; let p : List Byte := [2,2];
     let s : State := (CM 1 0x803 [2,2] ({EM.setStream 2 {st := .running, opens := [{line := 4}], backlog := [{line := 3}]} with engine := {(EM.setStream 2 {st := .running, opens := [{line := 4}], backlog := [{line := 3}]}).engine with halted := true}}));
     Memory.wf 0 (s.mbx m).resp = true ∧ let byte := fun o => BitVec.toNat (p.getD o 0); let e := s.engine;
     let k := byte 0; let v := s.stream k; Serving s m 2051 p ∧ p.length = 2 ∧ k < 4 ∧ byte 1 = 2 ∧
     (v.st = StreamState.armed ∨ v.st = StreamState.running) ∧ e.halted = true) ∧
    (let m : Nat := 1; let p : List Byte := [2,2];
     let s : State := (CM 1 0x803 [2,2] (EM.setStream 2 {st := .running, opens := [{line := 4}], backlog := [{line := 3}]}));
     Memory.wf 0 (s.mbx m).resp = true ∧ let byte := fun o => BitVec.toNat (p.getD o 0); let e := s.engine;
     let k := byte 0; let v := s.stream k; Serving s m 2051 p ∧ p.length = 2 ∧ k < 4 ∧ byte 1 = 2 ∧
     (v.st = StreamState.armed ∨ v.st = StreamState.running) ∧ e.halted = false) := by
  refine ⟨?_, ?_, ?_, ?_, ?_, ?_⟩ <;> decide +kernel

end EngineCmds

namespace EngineCmds2

def EN (f : Engine → Engine) : State := {S0 with engine := f S0.engine}
def ML : List Sys2Proof.Byte := [1,0,0,0] ++ leBytes 0x3FFFFE 4 ++ [5,6]
def F0 : List Sys2Proof.Byte := [0x3F,3] ++ List.replicate 142 0

theorem test_witness_EngineAndFabricCommands_2 :
    (let m : Nat := 1; let p : List Byte := ML;
     let s : State := (CM 1 0x801 ML (EN fun e => {e with mem := [(4,5),(0x7FFFFE,3)]}));
     Memory.wf 0 (s.mbx m).resp = true ∧ let byte := fun o => BitVec.toNat (p.getD o 0);
     let two := fun o => byte o + 256 * byte (o + 1); let four := fun o => two o + 65536 * two (o + 2);
     let e := s.engine; let ours := s.mgmt.modelBox = none ∨ s.mgmt.modelBox = some m; Serving s m 2049 p ∧
     byte 0 = 1 ∧ byte 1 = 0 ∧ two 2 = 0 ∧ 9 ≤ p.length ∧ four 4 + (p.length - 8) ≤ 4194304 ∧ ours ∧
     Memory.wf 0 e.mem = true ∧ e.switching = false) ∧
    (let m : Nat := 1; let p : List Byte := ML;
     let s : State := (CM 1 0x801 ML {S0 with mgmt := {S0.mgmt with modelBox := some 4}});
     Memory.wf 0 (s.mbx m).resp = true ∧ let byte := fun o => BitVec.toNat (p.getD o 0);
     let two := fun o => byte o + 256 * byte (o + 1); let four := fun o => two o + 65536 * two (o + 2);
     let e := s.engine; let ours := s.mgmt.modelBox = none ∨ s.mgmt.modelBox = some m; Serving s m 2049 p ∧
     byte 0 = 1 ∧ byte 1 = 0 ∧ two 2 = 0 ∧ 9 ≤ p.length ∧ four 4 + (p.length - 8) ≤ 4194304 ∧
     Memory.wf 0 e.mem = true ∧ ¬ ours) ∧
    (let m : Nat := 1; let p : List Byte := [1,3]; let s : State := (CM 1 0x801 [1,3] S0);
     Memory.wf 0 (s.mbx m).resp = true ∧ Serving s m 2049 p ∧ BitVec.toNat (p.getD 0 0) = 1 ∧
     BitVec.toNat (p.getD 1 0) ≠ 0) ∧
    (let m : Nat := 1; let p : List Byte := F0; let s : State := (CM 1 0x803 F0 S0);
     Memory.wf 0 (s.mbx m).resp = true ∧ let byte := fun o => BitVec.toNat (p.getD o 0);
     let two := fun o => byte o + 256 * byte (o + 1); let four := fun o => two o + 65536 * two (o + 2);
     let ruleGood := byte 0 < 64 ∧ byte 2 ≤ 2 ∧ (byte 3 ≤ if byte 2 = 1 ∧ byte 8 = 255 then 3 else 0) ∧ (two 4 ≤ if byte 2 = 2 then 255 else 0) ∧ (byte 2 = 0 ∨ byte 6 ≤ 60 ∧ byte 7 ≤ 62 ∧ (byte 8 ≤ 63 ∨ byte 8 = 255) ∧ byte 9 < 4 ∧ 14 ≤ two 10 ∧ two 10 ≤ 2027) ∧ four 12 = 0 ∧ ((List.range 64).all fun i => p.getD (16 + i) 0 &&& ~~~p.getD (80 + i) 0 == 0) = true;
     Serving s m 2051 p ∧ p.length = 144 ∧ byte 1 = 3 ∧ ruleGood ∧ byte 2 = 0) := by
  refine ⟨?_, ?_, ?_, ?_⟩ <;>
  decide +kernel

end EngineCmds2

namespace SpecialCmds

/-- FABRIC_JOIN (R364): device 129 among members 128 and 129. -/
def FJ : List Byte :=
  leBytes 7 4 ++ [4, 5, 0, 0] ++ leBytes 1000 4 ++ leBytes 5000 4 ++ [0, 0, 0, 0] ++ List.replicate 16 0 ++ [3] ++
    List.replicate 2031 0
/-- Device 129 with the fabric joined or not. -/
def joinedIs (b : Bool) : State := { S0 with fabric := { S0.fabric with joined := b } }

theorem test_witness_EngineAndFabricCommands_join : ∀ b : Bool,
    let m : Nat := 1; let p : List Byte := FJ; let s : State := CM 1 0x901 FJ (joinedIs b);
    let byte := fun o => BitVec.toNat (p.getD o 0);
    let two := fun o => byte o + 256 * byte (o + 1); let four := fun o => two o + 65536 * two (o + 2);
    let f := s.fabric; let member := fun d => byte (20 + d / 8) / 2 ^ (d % 8) % 2 == 1;
    Memory.wf 0 (s.mbx m).resp = true ∧ Serving s m 2305 p ∧ f.joinBox = none ∧ p.length = 2068 ∧
    (two 16 = 0 ∧ two 18 = 0 ∧ four 0 ≠ 0 ∧ 1 ≤ byte 4 ∧ byte 4 ≤ 128 ∧
    1 ≤ byte 5 ∧ byte 5 ≤ 128 ∧ byte 6 = 0 ∧ byte 7 = 0 ∧ 250 ≤ four 8 ∧ four 8 ≤ 10000 ∧ 1000 ≤ four 12 ∧
    four 12 ≤ 100000 ∧ 4 * four 8 + 500 ≤ four 12) ∧ member s.device = true ∧ s.device % 128 < byte 4 ∧
    s.device / 128 < byte 5 ∧ f.joined = b ∧ 2 ≤ (List.filter member (List.range 16384)).length := by
  intro b
  refine ⟨by cases b <;> decide +kernel, serving_CM (by decide) (by decide) (by simp [FJ]) rfl rfl rfl, rfl,
    by simp [FJ], by decide +kernel, by cases b <;> decide +kernel, by cases b <;> decide +kernel,
    by cases b <;> decide +kernel, rfl, ?_⟩
  refine Nat.le_trans ?_ (List.Sublist.length_le (List.Sublist.filter _
    (List.range_sublist.2 (by decide : (130 : Nat) ≤ 16384))))
  decide +kernel

/-- Sixteen zero bytes. -/
def R16 : List Byte := List.replicate 16 0
/-- What the path of mailbox 7 must answer to the challenge `R16` for level 3 (R479). -/
def right7 : List Byte :=
  (Config.debugMac (R16 ++ BitVec.ofNat 8 3 :: leBytes Config.serial.toNat 8 ++ [BitVec.ofNat 8 7])).toList
/-- The debug path with that challenge and earlier mismatches. -/
def challenged (ms : List Nat) : State :=
  { S0 with dbgBlock := { S0.dbgBlock with dbg := { challenge := some (3, R16, 899999999999), misses := ms } } }

theorem right7_length : right7.length = 16 := by simp [right7]

/-- The operands of AUTH_RESPONSE in mailbox 7 that the clauses of TimePowerAndAuthCommands share. -/
theorem test_witness_TimePowerAndAuthCommands_auth (p : List Byte) (hp : p.length = 16) (ms : List Nat) :
    let m : Nat := 7; let s : State := CM 7 0xA02 p (challenged ms);
    let d := if m = 2 then s.dbgBlock.svc else s.dbgBlock.dbg;
    Memory.wf 0 (s.mbx m).resp = true ∧ s.dbgBlock.trigEn = false ∧ Serving s m 2562 p ∧ (m = 2 ∨ m = 7) ∧
    p.length = 16 ∧ d.refusedUntil ≤ s.wall ∧ d.challenge = some (3, R16, 899999999999) ∧
    s.wall < 899999999999 + 2000000000 := by
  refine ⟨?_, rfl, serving_CM (by decide) (by decide) (by omega) rfl rfl rfl, .inr rfl, hp, Nat.zero_le _, rfl, ?_⟩
  · simp only [CM, State.setMbx_mbx]
    decide +kernel
  · show (900000000000 : Nat) < _
    decide

/-- An answer that matches, and one that does not. -/
theorem test_witness_TimePowerAndAuthCommands_answers :
    (∃ p : List Byte, p.length = 16 ∧ right7 = p) ∧ ∃ p : List Byte, p.length = 16 ∧ right7 ≠ p := by
  refine ⟨⟨right7, right7_length, rfl⟩, right7.map (~~~ ·), by simp [right7_length], fun h => ?_⟩
  have h0 := congrArg (fun l : List Byte => l[0]?) h
  have hl := right7_length
  cases hr : right7 with
  | nil => simp [hr] at hl
  | cons a r =>
    simp only [hr, List.map_cons, List.getElem?_cons_zero, Option.some.injEq] at h0
    exact (by decide : ∀ a : Byte, a ≠ ~~~a) a h0

end SpecialCmds

end Sys2Proof.Tests
end

