-- ==== Sys2Proof/Tests/WitnessDebug.lean ====
section
/-! SUPPORT. Witnesses: for the statements on the debug block, concrete states and operands that meet the hypotheses of
each clause together. -/

set_option maxRecDepth 100000
set_option linter.unusedVariables false

namespace Sys2Proof.Tests
open Sys2Proof Sys2Proof.Machine Sys2Proof.Safety

set_option Elab.async false

namespace DebugRows

def S0 : State :=
  { State.reset with now := 900000000000, boot := {State.reset.boot with bootRec := {device := 129}} }
def D (f : Debug → Debug) (s : State := S0) : State := {s with dbgBlock := f s.dbgBlock}
def ctl (n : Nat) : Debug → Debug := fun d => {d with dbg := {level := n, jtag := true}}
/-- A window of master 9 over the unit space of its own device. -/
def own : Window := ⟨0, 9, 129, true, 0, 129 * 2 ^ 34 + 2 ^ 32 + 0x10000000, 0x200000, false, []⟩
def W : State := {S0 with mgmt := {S0.mgmt with windows := [own]}}

/-- The statement's condition that a window of master 9 lets an access in, in the state of the witness. -/
def window (a : Nat) (write : Bool) : Bool := (D (fun d => d) W).mgmt.windows.any fun x => x.master = 9 ∧
  x.dev = (D (fun d => d) W).device ∧ (write = true → x.rw = true) ∧ x.closing = false ∧
  x.base ≤ (D (fun d => d) W).device * 2 ^ 34 + 2 ^ 32 + a ∧
  (D (fun d => d) W).device * 2 ^ 34 + 2 ^ 32 + a + 4 ≤ x.base + x.size

theorem test_witness_DebugAccessAndRegisters :
    (let i : Nat := 9; let addr : Nat := 0x10000000; let s : State := (D (fun d => {d with ir := 0x10}) S0);
     s.running = true ∧ i < 1024 ∧ let d := s.dbgBlock; d.ir = 16 ∧ (d.dbg.jtag = false ∨ d.dbg.level = 0) ∧
     addr < 2 ^ 32 ∧ addr % 4 = 0 ∧ 268435456 ≤ addr ∧ addr < 268437504 ∧ let n : Nat := 3; n < 4 ∧
     (s.feed n).up = false) ∧
    (let i : Nat := 9; let addr : Nat := 0x10020000; let s : State := (D (fun d => {d with ir := 0x10}) S0);
     s.running = true ∧ i < 1024 ∧ let d := s.dbgBlock; d.ir = 16 ∧ (d.dbg.jtag = false ∨ d.dbg.level = 0) ∧
     addr < 2 ^ 32 ∧ addr % 4 = 0 ∧ 268566528 ≤ addr ∧ addr < 269025280) ∧
    (let i : Nat := 9; let addr : Nat := 0x10024; let s : State := (D (fun d => {ctl 1 d with ir := 0x10}) S0);
     s.running = true ∧ i < 1024 ∧ let d := s.dbgBlock; let tile := fun a => s.tile ((s.physOf (a / 65536)).getD 0);
     d.ir = 16 ∧ d.dbg.jtag = true ∧ 1 ≤ d.dbg.level ∧ addr < 67108864 ∧ addr % 4 = 0 ∧ addr % 65536 < 38912 ∧
     (s.physOf (addr / 65536)).isSome = true ∧ s.isFenced ((s.physOf (addr / 65536)).getD 0) = false ∧
     (tile addr).anyBad (BitVec.ofNat 16 addr) 4 = false ∧ tfind? (addr / 65536) s.gates.duplex = none ∧
     d.dbg.level = 1) ∧
    (let i : Nat := 9; let addr : Nat := 0x10024;
     let s : State := (D (fun d => {ctl 2 d with ir := 0x10}) (S0.setTile 1 {mem := [(0x25,4),(0x26,7),(0x28,3)]}));
     s.running = true ∧ i < 1024 ∧ let d := s.dbgBlock; let tile := fun a => s.tile ((s.physOf (a / 65536)).getD 0);
     d.ir = 16 ∧ d.dbg.jtag = true ∧ 1 ≤ d.dbg.level ∧ addr < 67108864 ∧ addr % 4 = 0 ∧ addr % 65536 < 38912 ∧
     (s.physOf (addr / 65536)).isSome = true ∧ s.isFenced ((s.physOf (addr / 65536)).getD 0) = false ∧
     (tile addr).anyBad (BitVec.ofNat 16 addr) 4 = false ∧ tfind? (addr / 65536) s.gates.duplex = none ∧
     2 ≤ d.dbg.level ∧ Memory.wf 0 (tile addr).mem = true ∧ s.islandRuns 269680660 = true) ∧
    (let i : Nat := 9; let addr : Nat := 0x10021; let s : State := (D (fun d => {d with ir := 0x10}) S0);
     s.running = true ∧ i < 1024 ∧ let d := s.dbgBlock; d.ir = 16 ∧ addr < 2 ^ 32 ∧ addr % 4 ≠ 0) ∧
    (let p : Nat := 9; let tag : Nat := 3; let i : Nat := 9; let addr : Nat := 0x10020000; let s : State := W;
     s.running = true ∧ i < 1024 ∧
     let window := fun a write => ∃ x, x ∈ s.mgmt.windows ∧ x.master = i ∧ x.dev = s.device ∧ (write = true → x.rw = true) ∧ x.closing = false ∧ x.base ≤ s.device * 2 ^ 34 + 2 ^ 32 + a ∧ s.device * 2 ^ 34 + 2 ^ 32 + a + 4 ≤ x.base + x.size;
     let asker := s.askerWho (AskBy.access i p tag) s.device; 268566528 ≤ addr ∧ addr < 269221888 ∧ addr % 4 = 0 ∧
     (addr < 268697600 ∨ 268763136 ≤ addr) ∧ (addr < 269041664 ∨ 269042688 ≤ addr) ∧ s.islandRuns addr = true ∧
     s.genuine asker = true ∧ window addr false ∧ let b : Bool := true;
     let me := ({ s.whoIs i with beaten := b } : Who); s.genuine me = true ∧ window addr true ∧ let q : Nat := 255;
     let reads := fun a => s.reaches asker a 4 false = true; q < 256 ∧ reads (269025320 + 64 * q) ∧ reads 268566536 ∧
     reads 269090852 ∧ let n : Nat := 15; n < 16 ∧ reads (269615196 + 2048 * n) ∧ reads 269156376 ∧ reads 268632128 ∧
     let writes := fun a => s.reaches me a 4 true = true; writes 268566528 ∧ writes 268632084 ∧ writes 268763136 ∧
     writes 269090844 ∧ writes 269156360 ∧ writes 269090840 ∧ writes 268632080 ∧ writes 268632128 ∧ writes 268632096 ∧
     s.time.owner ≠ i) ∧
    (let p : Nat := 9; let tag : Nat := 3; let i : Nat := 9; let addr : Nat := 0x10002000; let s : State := S0;
     s.running = true ∧ i < 1024 ∧ let asker := s.askerWho (AskBy.access i p tag) s.device; 268443648 ≤ addr ∧
     addr < 269221888 ∧ addr % 4 = 0 ∧ (∀ (x : Window), x ∈ s.mgmt.windows → x.master ≠ i) ∧
     (addr < 268541952 ∨ 268566528 ≤ addr) ∧ s.genuine asker = true ∧ let b : Bool := true;
     let me := ({ s.whoIs i with beaten := b } : Who); ∃ y, s.physOf i = some y ∧ s.genuine me = true) ∧
    (let p : Nat := 5; let tag : Nat := 3; let i : Nat := 9; let addr : Nat := 0x10002000; let s : State := S0;
     s.running = true ∧ i < 1024 ∧ let asker := s.askerWho (AskBy.access i p tag) s.device; 268443648 ≤ addr ∧
     addr < 269221888 ∧ addr % 4 = 0 ∧ (∀ (x : Window), x ∈ s.mgmt.windows → x.master ≠ i) ∧
     (addr < 268541952 ∨ 268566528 ≤ addr) ∧ s.genuine asker = false) ∧
    (let tag : Nat := 3; let i : Nat := 9; let addr : Nat := 0x10002000; let b : Bool := true;
     let s : State := {S0 with gates := {fenced := [9]}}; s.running = true ∧ i < 1024 ∧
     let me := ({ s.whoIs i with beaten := b } : Who); 268443648 ≤ addr ∧ addr < 269221888 ∧ addr % 4 = 0 ∧
     (∀ (x : Window), x ∈ s.mgmt.windows → x.master ≠ i) ∧ (addr < 268541952 ∨ 268566528 ≤ addr) ∧
     s.genuine me = false) ∧
    (let i : Nat := 9; let s : State := {W with pace := {W.pace with stoppedIslands := [1]}}; s.running = true ∧
     i < 1024 ∧ 1 ∈ s.pace.stoppedIslands) := by
  refine ⟨?_, ?_, ?_, ?_, ?_, ?_, ⟨?_, ?_, ?_, ?_, ?_, ?_, ?_, ?_, _, rfl, ?_⟩, ?_, ?_, ?_⟩ <;> decide +kernel

theorem test_witness_FrostAndTileDebug :
    (let s : State := (D (fun d => {d with wantFrost := [true,false]}) (S0.setPin 4 {safeFrost := true}));
     s.dbgBlock.trigEn = false ∧ let d := s.dbgBlock;
     let loading := List.any s.tiles fun e => e.snd.run == RunState.running && !e.snd.atBoundary; s.running = true ∧
     d.wantFrost.head? = some true ∧ loading = false ∧ d.traceCtl = 0) ∧
    (let s : State := (D (fun d => {d with wantFrost := [false], frost := true, frostAt := 5000}) ((S0.setPin 4 {causes := [.frost]}).setAlarm 3 {armed := true}));
     s.dbgBlock.trigEn = false ∧ let d := s.dbgBlock;
     let loading := List.any s.tiles fun e => e.snd.run == RunState.running && !e.snd.atBoundary; s.running = true ∧
     (d.wantFrost.head? ≠ some true ∨ loading = true) ∧ d.wantFrost.head? = some false ∧ d.traceCtl = 0 ∧
     let n : Nat := 7; let may := fun l => d.dbg.jtag = true ∧ l ≤ d.dbg.level; n < 1024 ∧ (s.live = false ∨ ¬may 2) ∧
     let ir : Nat := 1; let testing := (ir = 0 ∨ 4 ≤ ir ∧ ir ≤ 7) ∧ (d.testMode = true ∨ may 3); d.ir = ir ∧ ir < 64 ∧
     n < 64 ∧ (¬testing ∨ ir = n) ∧ (¬testing ∨ ir = 1)) ∧
    (let n : Nat := 7; let p : Nat := 7;
     let s : State := (D (fun d => {ctl 3 d with ir := 0}) (S0.setTile 7 {run := .sleeping}));
     s.dbgBlock.trigEn = false ∧ let d := s.dbgBlock; let may := fun l => d.dbg.jtag = true ∧ l ≤ d.dbg.level;
     let x := s.tile p; n < 1024 ∧ s.running = true ∧ may 2 ∧ tfind? n s.gates.duplex = none ∧ s.physOf n = some p ∧
     (x.run = RunState.running ∧ x.atBoundary = true ∨ x.run = RunState.sleeping) ∧ x.run ≠ RunState.dbgHalted ∧
     (x.run ≠ RunState.dbgHalted ∧ x.run ≠ RunState.running ∨ x.dbgSlept = true ∨ d.frost = true) ∧ let ir : Nat := 0;
     let testing := (ir = 0 ∨ 4 ≤ ir ∧ ir ≤ 7) ∧ (d.testMode = true ∨ may 3); d.ir = ir ∧ ir < 64 ∧ n < 64 ∧ testing ∧
     ir ≠ n) ∧
    (let n : Nat := 7; let p : Nat := 7;
     let s : State := (D (ctl 2) (S0.setTile 7 {run := .running, wb := some ⟨.data 2, 5⟩}));
     s.dbgBlock.trigEn = false ∧ let d := s.dbgBlock; let may := fun l => d.dbg.jtag = true ∧ l ≤ d.dbg.level;
     let x := s.tile p; n < 1024 ∧ s.running = true ∧ may 2 ∧ tfind? n s.gates.duplex = none ∧ s.physOf n = some p ∧
     x.run = RunState.running ∧ x.atBoundary = false) ∧
    (let n : Nat := 7; let p : Nat := 7; let s : State := (D (ctl 2) (S0.setTile 7 {run := .dbgHalted}));
     s.dbgBlock.trigEn = false ∧ let d := s.dbgBlock; let may := fun l => d.dbg.jtag = true ∧ l ≤ d.dbg.level;
     let x := s.tile p; n < 1024 ∧ s.running = true ∧ may 2 ∧ tfind? n s.gates.duplex = none ∧ s.physOf n = some p ∧
     x.run ≠ RunState.running ∧ x.run ≠ RunState.sleeping ∧ x.run = RunState.dbgHalted ∧
     (x.run = RunState.dbgHalted ∨ x.run = RunState.running) ∧ x.dbgSlept = false ∧ d.frost = false ∧ x.due = false ∧
     p < 1088) := by
  refine ⟨?_, ?_, ?_, ?_, ?_⟩ <;> decide +kernel

end DebugRows

namespace DebugMore

def S0 : State :=
  { State.reset with now := 900000000000, boot := {State.reset.boot with bootRec := {device := 129}} }
def D (f : Debug → Debug) (s : State := S0) : State := {s with dbgBlock := f s.dbgBlock}
def ctl (n : Nat) : Debug → Debug := fun d => {d with dbg := {level := n, jtag := true}}
def dx : Duplex := ⟨7,3,false,0,0,[],[],[],[],0⟩

theorem test_witness_FrostAndTileDebug_2 :
    let n : Nat := 7; let s : State := (D (ctl 2) {S0 with gates := {S0.gates with duplex := [(7, dx)]}});
     s.dbgBlock.trigEn = false ∧ let d := s.dbgBlock; let may := fun l => d.dbg.jtag = true ∧ l ≤ d.dbg.level;
     n < 1024 ∧ s.running = true ∧ may 2 ∧ (tfind? n s.gates.duplex).isSome = true := by
  decide +kernel

end DebugMore

end Sys2Proof.Tests
end

