-- ==== Sys2Proof/Tests/WitnessEngine.lean ====
section
/-! SUPPORT. Witnesses: for the statements on the inspection engine, concrete states and operands that meet the hypotheses of
each clause together. -/

set_option maxRecDepth 100000
set_option linter.unusedVariables false

namespace Sys2Proof.Tests
open Sys2Proof Sys2Proof.Machine Sys2Proof.Safety

set_option Elab.async false

namespace EngineRows

def H : Handoff :=
  {sid := 1, handle := 0x1805, payPos := 14, payLen := 8, lineRaw := 77, offset := 0, stamp := {sec := 5}}
def W : Stream := {st := .armed, par := {pixels := 2, bands := 4, itemQ := 275, histQ := 276, statusQ := 277}}
def E (w : Stream) (h : Handoff) : State :=
  { ((State.reset.setStream 1 w).setFeed 0 {handoffs := [h]}) with
    now := 5000000
    pool := {owner := [(5,0x430),(6,0x420)], gen := [(5,3)], fresh := 100, enginePushed := [6]}
    bufMem := [(0x2810,3),(0x2811,4),(0x2812,7)] }
def X (w : Stream) (e : Engine) : State :=
  let s := { State.reset with now := 5000000, engine := e}; s.setStream 1 w
def L (n : Nat) : LineBuf := {line := n, bufs := [6], samples := (List.range 8).map fun i => (i, i)}
def MM : Model :=
  { mem := [(0,5),(1,7),(2,9),(4,200),(5,255),(6,3),(8,200),(9,77),(10,6),(12,6)], bad := [], base := 0,
    free := 0 }
def SX : Section := {(MM.sectionAt 100) with fgMask := 0xE, corrMode := 1, gshift := 3}

theorem test_witness_EnginePixels :
    (let x : Section := SX; x.corrMode ≠ 0) ∧
    (let x : Section := {SX with corrMode := 0}; let bits : Nat := 12; x.corrMode = 0 ∧ bits ≤ 15) := by
  refine ⟨?_, ?_⟩ <;>
    decide +kernel

theorem test_witness_EngineInputRows :
    (let f : Nat := 0; let k : Nat := 1; let addr : Nat := 0x8; let h : Handoff := H; let rest : List Handoff := [];
     let data : List Byte := [1,2]; let s : State := (E {W with st := .off} H); f < 4 ∧ k < 4 ∧
     addr + data.length ≤ 8388608 ∧ let w := s.stream k; let b := h.handle % 2048; (s.feed f).handoffs = h :: rest ∧
     s.engineRuns = true ∧ h.sid = k ∧ h.handle < 65536 ∧ tget 1279 b s.pool.owner = 1072 + f ∧
     tget 0 b s.pool.gen = h.handle / 2048 ∧ w.st ≠ StreamState.armed ∧ w.st ≠ StreamState.running) ∧
    (let f : Nat := 0; let k : Nat := 1; let addr : Nat := 0x8; let h : Handoff := {H with payLen := 7, offset := 4};
     let rest : List Handoff := []; let data : List Byte := [1,2];
     let s : State := (E W {H with payLen := 7, offset := 4}); f < 4 ∧ k < 4 ∧ addr + data.length ≤ 8388608 ∧
     let w := s.stream k; let p := w.par; let b := h.handle % 2048; (s.feed f).handoffs = h :: rest ∧
     s.engineRuns = true ∧ h.sid = k ∧ h.handle < 65536 ∧ tget 1279 b s.pool.owner = 1072 + f ∧
     tget 0 b s.pool.gen = h.handle / 2048 ∧ (w.st = StreamState.armed ∨ w.st = StreamState.running) ∧
     badPacket p h = true) ∧
    (let f : Nat := 0; let k : Nat := 1; let addr : Nat := 0x400008; let h : Handoff := H;
     let rest : List Handoff := []; let data : List Byte := [1,2]; let s : State := (E W H); f < 4 ∧ k < 4 ∧
     addr + data.length ≤ 8388608 ∧ let w := s.stream k; let p := w.par; let b := h.handle % 2048;
     (s.feed f).handoffs = h :: rest ∧ s.engineRuns = true ∧ h.sid = k ∧ h.handle < 65536 ∧
     tget 1279 b s.pool.owner = 1072 + f ∧ tget 0 b s.pool.gen = h.handle / 2048 ∧ w.st = StreamState.armed ∧
     badPacket p h = false ∧ w.l0 = none ∧ w.opens = [] ∧ 0 < p.pixels ∧ 0 < p.bands ∧ 1 ≤ p.window ∧
     w.backlog.length < 4) ∧
    (let f : Nat := 0; let k : Nat := 1; let addr : Nat := 0x8; let data : List Byte := [1,2];
     let s : State := (E {W with st := .running, l0 := some 7, opens := [{line := 7, samples := [(0,1)], bufs := [3]}, {line := 8, samples := [(0,1)], bufs := [4]}]} H);
     f < 4 ∧ k < 4 ∧ addr + data.length ≤ 8388608 ∧ let w := s.stream k; let p := w.par; let L := w.l0.getD 0;
     let line := w.open_ L; w.l0 = some L ∧ w.st = StreamState.running ∧ s.engineRuns = true ∧
     (w.opens.any fun x => x.line != L && decide (p.lineTimeout ≤ (s.now - x.firstAt) / 200)) = true ∧
     w.backlog.length < 4 ∧ List.length (w.open_ ((L + 1) % 2 ^ 32)).samples < p.pixels * p.bands ∧ L + 1 < 2 ^ 32) ∧
    (let f : Nat := 0; let k : Nat := 1; let addr : Nat := 0x400006; let master : Nat := 0x400;
     let data : List Byte := [1, 2]; let s : State := E W H; f < 4 ∧ k < 4 ∧ addr + data.length ≤ 8388608 ∧
     let writes := fun a n => s.reaches (s.whoIs master) a n true = true; let e := s.engine;
     let away := (1 - e.homeBank) * 4194304; writes addr (max 1 data.length) ∧ e.switching = false ∧ away ≤ addr ∧
     addr + data.length ≤ away + 4194304 ∧ let v : W32 := 0x806; let ret := BitVec.toNat v % 65536;
     writes 269156368 4 ∧
     (¬(tget 1279 (ret % 2048) s.pool.owner = 1056 ∧ ret % 2048 ∈ s.pool.enginePushed ∧ tget 0 (ret % 2048) s.pool.gen = ret / 2048))) ∧
    (let f : Nat := 0; let k : Nat := 1; let addr : Nat := 0x3FFFFF; let master : Nat := 0x400;
     let data : List Byte := [1, 2]; let s : State := E W H; f < 4 ∧ k < 4 ∧ addr + data.length ≤ 8388608 ∧
     let writes := fun a n => s.reaches (s.whoIs master) a n true = true; let e := s.engine;
     let away := (1 - e.homeBank) * 4194304; writes addr (max 1 data.length) ∧
     (e.switching = true ∨ addr < away ∨ away + 4194304 < addr + data.length)) ∧
    (let f : Nat := 0; let k : Nat := 1; let addr : Nat := 0x400006; let master : Nat := 0x400;
     let data : List Byte := [1, 2]; let v : W32 := 0x6; let s : State := E W H; f < 4 ∧ k < 4 ∧
     addr + data.length ≤ 8388608 ∧ let writes := fun a n => s.reaches (s.whoIs master) a n true = true;
     let ret := BitVec.toNat v % 65536; writes 269156368 4 ∧ tget 1279 (ret % 2048) s.pool.owner = 1056 ∧
     ret % 2048 ∈ s.pool.enginePushed ∧ tget 0 (ret % 2048) s.pool.gen = ret / 2048) := by
  refine ⟨?_, ?_, ?_, ?_, ?_, ?_, ?_⟩ <;> decide +kernel

theorem test_witness_EngineOutputRows :
    (let k : Nat := 1; let kind : Nat := 0; let b : LineBuf := (L 7); let rest : List LineBuf := [L 8];
     let s : State := (X {W with st := .running, backlog := [L 7, L 8], begun := true, line := 5, recs := [(0,{handle := 0x805, count := 4, since := 3})], par := {W.par with flushUs := 6}} {});
     k < 4 ∧ kind < 3 ∧ let w := s.stream k; let e := s.engine; w.backlog = b :: rest ∧
     (w.st = StreamState.running ∨ w.st = StreamState.draining) ∧ s.engineRuns = true ∧ e.heldPush = [] ∧
     e.heldRec = [] ∧ e.switching = false ∧ ∃ r, tfind? kind w.recs = some r ∧ w.par.flushUs ≠ 0 ∧
     w.par.flushUs ≤ (s.now - r.since) / 200) ∧
    (let k : Nat := 1; let kind : Nat := 0; let master : Nat := 0x400; let v : W32 := 1;
     let s : State := (X {W with st := .running, recs := [(0,{handle := 0x805, count := 4, since := 3})]} {}); k < 4 ∧
     kind < 3 ∧ let cmd := s.reaches (s.whoIs master) (269156624 + 64 * k) 4 true = true; let w := s.stream k;
     let e := s.engine; ∃ r, tfind? kind w.recs = some r ∧ e.heldPush = [] ∧ cmd ∧ e.halted = false ∧
     BitVec.getLsbD v 0 = true ∧ w.recs = [(kind, r)] ∧ e.heldRec = []) ∧
    (let k : Nat := 1; let kind : Nat := 0; let master : Nat := 0x400; let v : W32 := 1;
     let s : State := (X {W with st := .running, recs := [(0,{handle := 0x805, count := 4, since := 3})]} {halted := true});
     k < 4 ∧ kind < 3 ∧ let cmd := s.reaches (s.whoIs master) (269156624 + 64 * k) 4 true = true; let e := s.engine;
     cmd ∧ BitVec.getLsbD v 0 = true ∧ (e.halted = true ∨ e.heldRec ≠ [])) ∧
    (let k : Nat := 1; let kind : Nat := 0; let master : Nat := 0x400; let v : W32 := 6;
     let s : State := (X {W with st := .running, recs := [(0,{handle := 0x805, count := 4, since := 3})]} {}); k < 4 ∧
     kind < 3 ∧ let cmd := s.reaches (s.whoIs master) (269156624 + 64 * k) 4 true = true; cmd ∧
     BitVec.getLsbD v 0 = false) ∧
    (let k : Nat := 1; let kind : Nat := 0;
     let s : State := (X W {heldRec := [⟨1,0,List.replicate 128 3⟩], waitSince := some 500}); k < 4 ∧ kind < 3 ∧
     let w := s.stream k; let e := s.engine; ∃ r, e.heldRec = [r] ∧ e.heldPush = [] ∧ s.engineRuns = true ∧
     r.stream = k ∧ r.kind = kind ∧ tfind? kind w.recs = none ∧ 1 ≤ (s.now - e.retryAt) / 200 ∧
     ∃ x, (s.take 1056).snd = some x) ∧
    (let k : Nat := 1; let kind : Nat := 0;
     let s : State := {X W {heldRec := [⟨1,0,List.replicate 128 3⟩], waitSince := some 500} with pool := {State.reset.pool with fresh := 2048}};
     k < 4 ∧ kind < 3 ∧ let w := s.stream k; let e := s.engine; ∃ r, e.heldRec = [r] ∧ e.heldPush = [] ∧
     s.engineRuns = true ∧ r.stream = k ∧ r.kind = kind ∧ tfind? kind w.recs = none ∧ 1 ≤ (s.now - e.retryAt) / 200 ∧
     (s.take 1056).snd = none) ∧
    (let k : Nat := 1; let kind : Nat := 0; let q : Nat := 275;
     let s : State := (X W {heldPush := [⟨275,0x300805⟩], waitSince := some 500}); k < 4 ∧ kind < 3 ∧
     let e := s.engine; ∃ x, e.heldPush = [x] ∧ e.heldRec = [] ∧ s.engineRuns = true ∧ x.queue = q ∧ q < 304 ∧
     (s.queue q).hasRoom = true) ∧
    (let k : Nat := 1; let kind : Nat := 0; let s : State := (X {W with st := .draining, stopPacked := true} {});
     k < 4 ∧ kind < 3 ∧ let w := s.stream k; let e := s.engine; w.st = StreamState.draining ∧ w.backlog = [] ∧
     s.engineRuns = true ∧ e.heldPush = [] ∧ e.heldRec = [] ∧ e.switching = false ∧ w.stopPacked = true ∧ w.recs = []) ∧
    (let k : Nat := 1; let kind : Nat := 0; let s : State := (X {W with st := .draining} {}); k < 4 ∧ kind < 3 ∧
     let w := s.stream k; let e := s.engine; w.st = StreamState.draining ∧ w.backlog = [] ∧ s.engineRuns = true ∧
     e.heldPush = [] ∧ e.heldRec = [] ∧ e.switching = false ∧ w.stopPacked = false ∧
     (w.begun = false ∨ w.endLine = some ((w.line + 1) % 2 ^ 32)) ∧ w.items = [] ∧ w.hist.released = 0 ∧ w.recs = [] ∧
     w.pendingStatus = [] ∧ 0 < s.pool.freeCount ∧ w.par.statusQ < 304 ∧ (s.queue w.par.statusQ).hasRoom = true) := by
  refine ⟨⟨?_, ?_, ?_, ?_, ?_, ?_, ?_, ?_, _, rfl, ?_, ?_⟩, ⟨?_, ?_, _, rfl, ?_, ?_, ?_, ?_, ?_, ?_⟩, ?_, ?_, ⟨?_,
    ?_, _, rfl, ?_, ?_, ?_, ?_, ?_, ?_, _, rfl⟩, ⟨?_, ?_, _, rfl, ?_, ?_, ?_, ?_, ?_, ?_, ?_⟩, ⟨?_, ?_, _, rfl, ?_,
    ?_, ?_, ?_, ?_⟩, ?_, ?_⟩ <;> decide +kernel

end EngineRows

end Sys2Proof.Tests
end

