-- ==== Sys2Proof/Tests/WitnessFabric.lean ====
section
/-! SUPPORT. Witnesses: for the statements on links, fabric and mailboxes, concrete states and operands that meet the hypotheses of
each clause together. -/

set_option maxRecDepth 100000
set_option linter.unusedVariables false

namespace Sys2Proof.Tests
open Sys2Proof Sys2Proof.Machine Sys2Proof.Safety

set_option Elab.async false

namespace FabricRows

def S0 : State :=
  { State.reset with now := 900000000000, boot := {State.reset.boot with bootRec := {device := 129}} }
def hb : Heartbeat := {device := 130, dcap := 1, port := 0, state := 0, captain := 3, configId := 0}
def lk : LinkPkt := {ackSeq := 5, nak := false, credits := [1,0,0,0,0,0,0,0]}
def pk : Packet :=
  { typ := 0, vc := 4, seq := 7, dst := 5, src := 6, dcap := 1, kind := 0, ftag := 9, srcId := 5, space := 0,
    addr := 0x10004, len := 3, data := [1,2,3], badCrc := false }
def arrival : MemberIn :=
  { port := 1, vc := 0, seq := 7, src := 7, dst := 129, dcap := 1, data := [1,2,3], badCrc := false }
def MS (f : Fabric → Fabric) : State :=
  {S0 with fabric := f {S0.fabric with joined := true, members := [129, 3, 7, 200], candidate := 7}}
def TK := MS fun f => {f with aliases := [⟨3,129,[0,1,255]⟩], standby := [⟨3,[0,1,255],0⟩]}

theorem test_witness_FabricPackets :
    (let p : Nat := 3; let k : Packet := pk;
     let s : State := (({S0 with boot := {S0.boot with bootRec := {device := 5}}}).setPort 3 {up := true, rxSeq := 7});
     p < 4 ∧ s.running = true ∧ s.dbgBlock.trigEn = false ∧ let v := s.port p; let f := s.fabric;
     let expected := v.up = true ∧ k.badCrc = false ∧ k.seq = v.rxSeq;
     let good := expected ∧ k.dcap = tget 1 k.src f.caps ∧ ¬k.src ∈ f.out; k.typ = 0 ∧ good ∧ k.dst = s.device ∧
     k.kind < 6 ∧ k.kind ≠ 3 ∧ ∃ tag, f.hubTag = some tag ∧ let plain := k.typ ≠ 2 ∧ k.typ ≠ 3; plain) ∧
    (let p : Nat := 3; let k : Packet := {pk with kind := 1, dcap := 4};
     let s : State := (({S0 with boot := {S0.boot with bootRec := {device := 5}}}).setPort 3 {up := true, rxSeq := 7});
     p < 4 ∧ s.running = true ∧ s.dbgBlock.trigEn = false ∧ let v := s.port p; let f := s.fabric;
     let expected := v.up = true ∧ k.badCrc = false ∧ k.seq = v.rxSeq;
     let good := expected ∧ k.dcap = tget 1 k.src f.caps ∧ ¬k.src ∈ f.out; k.typ = 0 ∧ expected ∧ ¬good ∧
     f.hubTag ≠ none) ∧
    (let p : Nat := 3; let k : Packet := {pk with kind := 1, seq := 4};
     let s : State := (({S0 with boot := {S0.boot with bootRec := {device := 5}}}).setPort 3 {up := true, rxSeq := 7});
     p < 4 ∧ s.running = true ∧ s.dbgBlock.trigEn = false ∧ let v := s.port p; let f := s.fabric; k.typ = 0 ∧
     v.up = true ∧ (k.badCrc = true ∨ k.seq ≠ v.rxSeq) ∧ f.hubTag ≠ none) ∧
    (let p : Nat := 1; let k : Packet := {pk with typ := 1, vc := 7, dst := 257};
     let s : State := ((S0.setPort 1 {up := true, rxSeq := 7}).setPort 3 {up := true, txSeq := 11}); p < 4 ∧
     s.running = true ∧ s.dbgBlock.trigEn = false ∧ let v := s.port p; let f := s.fabric;
     let expected := v.up = true ∧ k.badCrc = false ∧ k.seq = v.rxSeq;
     let good := expected ∧ k.dcap = tget 1 k.src f.caps ∧ ¬k.src ∈ f.out; let x := s.device % 128;
     let y := s.device / 128;
     let way := if k.dst % 128 ≠ x then if x < k.dst % 128 then 1 else 0 else if y < k.dst / 128 then 3 else 2;
     let line := f.wrapX = false ∧ f.wrapY = false ∧ f.overrides = [] ∧ f.aliases = [];
     let idle := fun q => (s.port q).up = true ∧ (s.port q).queued = [] ∧ (s.port q).replay = [] ∧ ∀ (vc : Nat), vc < 8 → tget 0 vc (s.port q).sentUnits = 0 ∧ tget 0 vc (s.port q).freed = 0;
     k.typ ≤ 1 ∧ good ∧ k.dst ≠ s.device ∧ line ∧ ¬k.dst ∈ f.out ∧ way ≠ p ∧ way < 4 ∧ idle way ∧
     k.data.length ≤ 512 ∧ k.vc < 8 ∧ k.typ = 1) ∧
    (let p : Nat := 1; let k : Packet := {pk with typ := 1, vc := 7, dst := 129, addr := 0x82};
     let s : State := ({(S0.setPort 1 {up := true, rxSeq := 7}) with fabric := {(S0.setPort 1 {up := true, rxSeq := 7}).fabric with ftags := [(9,⟨6,5,5,3,1,4,0,1⟩)], remotes := [{id := 4, srcId := 5, srcPhys := 5, tag := 3, cap := 1, statuses := [], datas := [], parts := 1, isRead := true}]}});
     p < 4 ∧ s.running = true ∧ s.dbgBlock.trigEn = false ∧ let v := s.port p; let f := s.fabric;
     let expected := v.up = true ∧ k.badCrc = false ∧ k.seq = v.rxSeq;
     let good := expected ∧ k.dcap = tget 1 k.src f.caps ∧ ¬k.src ∈ f.out; k.typ = 1 ∧ good ∧ k.dst = s.device ∧
     ∃ r, tfind? k.ftag f.ftags = some r ∧ ∃ q, f.remotes = [q] ∧ q.id = r.parent ∧ q.parts = 1 ∧ r.part = 0 ∧
     q.statuses = [] ∧ q.datas = []) ∧
    (let p : Nat := 1; let k : Packet := {pk with typ := 2, vc := 2, data := List.replicate 25 3};
     let s : State := (S0.setPort 1 {up := true, rxSeq := 7, nbCaptain := 130}); p < 4 ∧ s.running = true ∧
     s.dbgBlock.trigEn = false ∧ let v := s.port p; let f := s.fabric;
     let expected := v.up = true ∧ k.badCrc = false ∧ k.seq = v.rxSeq;
     let good := expected ∧ k.dcap = tget 1 k.src f.caps ∧ ¬k.src ∈ f.out; k.typ = 2 ∧ good ∧ s.time.mode ≠ 2 ∧
     s.parentPort = some p ∧ f.lastBeacon ≠ some (leAt k.data 0 4) ∧ (k.typ = 2 ∨ k.typ = 3)) ∧
    (let p : Nat := 1; let k : Packet := {pk with typ := 2, vc := 2, data := List.replicate 25 3};
     let s : State := (S0.setPort 1 {up := true, rxSeq := 7, nbCaptain := 128}); p < 4 ∧ s.running = true ∧
     s.dbgBlock.trigEn = false ∧ let v := s.port p; let f := s.fabric;
     let expected := v.up = true ∧ k.badCrc = false ∧ k.seq = v.rxSeq;
     let good := expected ∧ k.dcap = tget 1 k.src f.caps ∧ ¬k.src ∈ f.out; k.typ = 2 ∧ good ∧ s.parentPort ≠ some p) ∧
    (let p : Nat := 1; let s : State := ({S0 with fabric := {S0.fabric with isCaptain := true}}); p < 4 ∧
     s.running = true ∧ s.dbgBlock.trigEn = false ∧ let f := s.fabric; f.isCaptain = true ∧
     (f.beaconAt = 0 ∨ f.beaconAt + 12500000 ≤ s.now)) := by
  refine ⟨⟨?_, ?_, ?_, ?_, ?_, ?_, ?_, ?_, _, rfl, ?_⟩, ?_, ?_, ?_, ⟨?_, ?_, ?_, ?_, ?_, ?_, _, rfl, _, rfl, ?_, ?_,
    ?_, ?_, ?_⟩, ?_, ?_, ?_⟩ <;> decide +kernel

theorem test_witness_LinkPorts :
    (let p : Nat := 1; let h : Heartbeat := hb; let s : State := S0; p < 4 ∧ s.running = true ∧
     s.dbgBlock.trigEn = false ∧ let v := s.port p; let f := s.fabric; let x := s.device % 128;
     let y := s.device / 128; let nx := if f.configId = 0 then 128 else f.nx;
     let ny := if f.configId = 0 then 128 else f.ny;
     let beside := p = 0 ∧ (0 < x ∧ h.device + 1 = s.device ∨ x = 0 ∧ f.wrapX = true ∧ h.device = y * 128 + (nx - 1)) ∨ p = 1 ∧ (x + 1 < nx ∧ h.device = s.device + 1 ∨ x + 1 = nx ∧ f.wrapX = true ∧ h.device = y * 128) ∨ p = 2 ∧ (0 < y ∧ h.device + 128 = s.device ∨ y = 0 ∧ f.wrapY = true ∧ h.device = (ny - 1) * 128 + x) ∨ p = 3 ∧ (y + 1 < ny ∧ h.device = s.device + 128 ∨ y + 1 = ny ∧ f.wrapY = true ∧ h.device = x);
     v.up = false ∧ s.faults.backupOsc = false ∧ s.mgmt.recovery = false ∧ h.configId = f.configId ∧ beside) ∧
    (let p : Nat := 3; let h : Heartbeat := {hb with configId := 4}; let s : State := S0; p < 4 ∧ s.running = true ∧
     s.dbgBlock.trigEn = false ∧ let v := s.port p; let f := s.fabric; let x := s.device % 128;
     let y := s.device / 128; let nx := if f.configId = 0 then 128 else f.nx;
     let ny := if f.configId = 0 then 128 else f.ny;
     let beside := p = 0 ∧ (0 < x ∧ h.device + 1 = s.device ∨ x = 0 ∧ f.wrapX = true ∧ h.device = y * 128 + (nx - 1)) ∨ p = 1 ∧ (x + 1 < nx ∧ h.device = s.device + 1 ∨ x + 1 = nx ∧ f.wrapX = true ∧ h.device = y * 128) ∨ p = 2 ∧ (0 < y ∧ h.device + 128 = s.device ∨ y = 0 ∧ f.wrapY = true ∧ h.device = (ny - 1) * 128 + x) ∨ p = 3 ∧ (y + 1 < ny ∧ h.device = s.device + 128 ∨ y + 1 = ny ∧ f.wrapY = true ∧ h.device = x);
     v.up = false ∧ s.faults.backupOsc = false ∧ s.mgmt.recovery = false ∧ (h.configId ≠ f.configId ∨ ¬beside)) ∧
    (let p : Nat := 3;
     let s : State := (S0.setPort 3 {up := true, lanes := 2, replay := [pk,{pk with seq := 5}, {pk with seq := 9}], sentUnits := [(0,2)]});
     p < 4 ∧ s.running = true ∧ s.dbgBlock.trigEn = false ∧ let v := s.port p; v.up = true ∧ v.lanes = 2 ∧
     v.lostLane = none ∧ v.replay ≠ [] ∧ v.progressAt + 800 ≤ s.now ∧ v.replays < 8 ∧ let h : Heartbeat := hb;
     let f := s.fabric; let back := h.state < 2 ∧ 2 ≤ v.nbState ∧ h.configId = f.configId ∧ h.device ∈ f.out;
     (h.state ≠ 2 ∨ v.nbState = 2) ∧ ¬back ∧ v.silent = false ∧ v.lastBeat + 200000 ≤ s.now ∧
     (v.delayAt = 0 ∨ v.delayAt + 12500000 ≤ s.now) ∧ let k : LinkPkt := lk; k.nak = false ∧ v.queued = [] ∧
     (∀ (vc : Nat), vc < 8 → tget 0 vc v.freed < 4096 ∧ k.credits.getD vc 0 < 4096 ∧ (k.credits.getD vc 0 + 4096 - tget 0 vc v.freed) % 4096 ≤ (tget 0 vc v.sentUnits + 4096 - tget 0 vc v.freed) % 4096) ∧
     (f.beatAt = 0 ∨ f.beatAt + 50000 ≤ s.now)) ∧
    (let p : Nat := 3; let lane : Fin 2 := 1;
     let s : State := (S0.setPort 3 {up := true, lanes := 1, lostLane := some 0, replay := [pk,{pk with seq := 2}], replays := 8});
     p < 4 ∧ s.running = true ∧ s.dbgBlock.trigEn = false ∧ let v := s.port p; v.up = true ∧ v.lanes = 1 ∧
     v.lostLane ≠ some ↑lane ∧ v.queued = [] ∧ v.lostLane ≠ none ∧ v.lostAt + 20000000 ≤ s.now ∧ 8 ≤ v.replays ∧
     let h : Heartbeat := {hb with state := 2}; h.state = 2 ∧ v.nbState ≠ 2 ∧ s.mgmt.up = true) ∧
    (let p : Nat := 3; let h : Heartbeat := {hb with configId := 0};
     let s : State := ((MS fun f => {f with out := [130], captain := some 7}).setPort 3 {up := true, lanes := 2, nbState := 2});
     p < 4 ∧ s.running = true ∧ s.dbgBlock.trigEn = false ∧ let v := s.port p; let f := s.fabric;
     let back := h.state < 2 ∧ 2 ≤ v.nbState ∧ h.configId = f.configId ∧ h.device ∈ f.out; v.up = true ∧ back ∧
     f.joined = true ∧ s.mgmt.up = true ∧ f.isCaptain = false) ∧
    (let p : Nat := 3; let h : Heartbeat := {hb with configId := 0};
     let s : State := ((MS fun f => {f with out := [130], isCaptain := true, candidate := 129, gotStatus := [(3,900000000000),(7,900000000000),(200,900000000000)]}).setPort 3 {up := true, lanes := 2, nbState := 2});
     p < 4 ∧ s.running = true ∧ s.dbgBlock.trigEn = false ∧ let v := s.port p; let f := s.fabric;
     let back := h.state < 2 ∧ 2 ≤ v.nbState ∧ h.configId = f.configId ∧ h.device ∈ f.out; v.up = true ∧ back ∧
     f.joined = true ∧ s.mgmt.up = true ∧ s.captainNow = true) ∧
    (let p : Nat := 1; let h : Heartbeat := {hb with state := 2};
     let s : State := {S0.setPort 1 {up := true, nbState := 1} with mgmt := {S0.mgmt with up := false}}; p < 4 ∧
     s.running = true ∧ s.dbgBlock.trigEn = false ∧ let v := s.port p; v.up = true ∧ h.state = 2 ∧ v.nbState ≠ 2 ∧
     s.mgmt.up = false ∧ let k : LinkPkt := lk; let vc : Nat := 0; vc < 8 ∧ tget 0 vc v.sentUnits = 0 ∧
     tget 0 vc v.freed = 0 ∧ 0 < k.credits.getD vc 0 ∧ k.credits.getD vc 0 < 4096 ∧ v.queued = []) := by
  refine ⟨?_, ?_, ?_, ?_, ?_, ?_, ?_⟩ <;> decide +kernel

theorem test_witness_Membership :
    (let a : MemberIn := arrival; let p : Nat := a.port; let dest : Nat := 129; let s : State := S0; p < 4 ∧ s.running = true ∧
     s.dbgBlock.trigEn = false ∧ dest = s.device) ∧
    (let a : MemberIn := arrival; let p : Nat := a.port; let dest : Nat := 7; let s : State := S0.setPort 1 {up := true}; p < 4 ∧ s.running = true ∧
     s.dbgBlock.trigEn = false ∧ let f := s.fabric; let x := s.device % 128; let y := s.device / 128;
     let way := if dest % 128 ≠ x then if x < dest % 128 then 1 else 0 else if y < dest / 128 then 3 else 2;
     dest ≠ s.device ∧ f.wrapX = false ∧ f.wrapY = false ∧ f.overrides = [] ∧ (s.port way).up = true ∧
     (s.port way).queued = [] ∧ (s.port way).replay = [] ∧
     (∀ (vc : Nat), vc < 8 → tget 0 vc (s.port way).sentUnits = 0 ∧ tget 0 vc (s.port way).freed = 0)) ∧
    (let a : MemberIn := arrival; let p : Nat := a.port;
     let s : State := (MS fun f => {f with isCaptain := true, announced := [3], needTables := true, gotStatus := [(3,900000000000),(7,900000000000),(129,900000000000),(200,900000000000)]});
     p < 4 ∧ s.running = true ∧ s.dbgBlock.trigEn = false ∧ let f := s.fabric;
     let due := f.sentStatus = [] ∨ f.statusAt + 200 * f.statusPeriod ≤ s.now; f.joined = true ∧ due ∧
     f.unanswered < 3 ∧ f.candidate ≠ s.device ∧ f.unconfirmed = false ∧ s.dbgBlock.frost = false ∧
     f.confirmedAt + 200 * f.holdUs < s.now ∧ let d : Nat := 3; let h : Nat := 7; f.isCaptain = true ∧
     s.mgmt.up = true ∧ d ∈ f.members ∧ ¬d ∈ f.out ∧ d ∈ f.announced ∧ d ≠ s.device ∧ h ≠ s.device ∧
     (∀ (m : Nat), m ∈ f.members → ∃ t, tfind? m f.gotStatus = some t ∧ s.now ≤ t)) ∧
    (let a : MemberIn := arrival; let p : Nat := a.port; let number : Nat := 5; let seq : Nat := 3;
     let s : State := {(MS fun f => {f with isCaptain := true, gotStatus := [(3,900000000000),(7,900000000000),(129,900000000000),(200,900000000000)]}).setPort 1 {up := true, rxSeq := 7} with mgmt := {S0.mgmt with up := true}};
     p < 4 ∧ s.running = true ∧ s.dbgBlock.trigEn = false ∧ let v := s.port p; let f := s.fabric; let src := a.src;
     let arrives := v.up = true ∧ a.badCrc = false ∧ a.seq = v.rxSeq ∧ a.dcap = tget 1 src f.caps ∧ ¬src ∈ f.out ∧ a.dst = s.device;
     let recent := (List.filter (fun m => m == src || Option.any (fun t => decide (s.now ≤ t + 400 * f.statusPeriod)) (tfind? m f.gotStatus)) f.members).length;
     let majority := f.members.length < 2 * recent; f.joined = true ∧ arrives ∧
     src ∈ f.members ∧ src ≠ s.device ∧ f.isCaptain = true ∧ majority) ∧
    (let a : MemberIn := arrival; let p : Nat := a.port; let number : Nat := 5; let seq : Nat := 3;
     let s : State := {(MS fun f => {f with isCaptain := true}).setPort 1 {up := true, rxSeq := 7} with mgmt := {S0.mgmt with up := true}};
     p < 4 ∧ s.running = true ∧ s.dbgBlock.trigEn = false ∧ let v := s.port p; let f := s.fabric; let src := a.src;
     let arrives := v.up = true ∧ a.badCrc = false ∧ a.seq = v.rxSeq ∧ a.dcap = tget 1 src f.caps ∧ ¬src ∈ f.out ∧ a.dst = s.device;
     let recent := (List.filter (fun m => m == src || Option.any (fun t => decide (s.now ≤ t + 400 * f.statusPeriod)) (tfind? m f.gotStatus)) f.members).length;
     let majority := f.members.length < 2 * recent; f.joined = true ∧ arrives ∧
     src ∈ f.members ∧ src ≠ s.device ∧ f.isCaptain = true ∧ ¬majority) ∧
    (let a : MemberIn := arrival; let p : Nat := a.port; let number : Nat := 5; let seq : Nat := 3;
     let s : State := {(MS fun f => {f with captain := none, gotStatus := [(3,899999999999),(200,899999999999)]}).setPort 1 {up := true, rxSeq := 7} with mgmt := {S0.mgmt with up := true}};
     p < 4 ∧ s.running = true ∧ s.dbgBlock.trigEn = false ∧ let v := s.port p; let f := s.fabric; let src := a.src;
     let arrives := v.up = true ∧ a.badCrc = false ∧ a.seq = v.rxSeq ∧ a.dcap = tget 1 src f.caps ∧ ¬src ∈ f.out ∧ a.dst = s.device;
     let recent := (List.filter (fun m => m == src || Option.any (fun t => decide (s.now ≤ t + 400 * f.statusPeriod)) (tfind? m f.gotStatus)) f.members).length;
     let majority := f.members.length < 2 * recent; f.joined = true ∧ arrives ∧
     src ∈ f.members ∧ src ≠ s.device ∧ f.isCaptain = false ∧ f.captain = none ∧ majority ∧ f.silentDevs = []) ∧
    (let a : MemberIn := arrival; let p : Nat := a.port; let number : Nat := 5; let seq : Nat := 3;
     let s : State := {(MS fun f => {f with captain := some 3}).setPort 1 {up := true, rxSeq := 7} with mgmt := {S0.mgmt with up := true}};
     p < 4 ∧ s.running = true ∧ s.dbgBlock.trigEn = false ∧ let v := s.port p; let f := s.fabric; let src := a.src;
     let arrives := v.up = true ∧ a.badCrc = false ∧ a.seq = v.rxSeq ∧ a.dcap = tget 1 src f.caps ∧ ¬src ∈ f.out ∧ a.dst = s.device;
     f.joined = true ∧ arrives ∧ src ∈ f.members ∧ src ≠ s.device ∧ f.isCaptain = false ∧
     ∃ c, f.captain = some c ∧ c ≠ s.device ∧ f.candidate ≠ s.device) ∧
    (let a : MemberIn := arrival; let p : Nat := a.port; let number : Nat := 5; let cap : Nat := 2; let epoch : Nat := 4; let noticeSeq : Nat := 1;
     let seq : Nat := 3;
     let s : State := {(MS fun f => {f with sentStatus := [(5,899999999999)], noticeSeq := 1}).setPort 1 {up := true, rxSeq := 7} with mgmt := {S0.mgmt with up := true}};
     p < 4 ∧ s.running = true ∧ s.dbgBlock.trigEn = false ∧ let v := s.port p; let f := s.fabric; let src := a.src;
     let arrives := v.up = true ∧ a.badCrc = false ∧ a.seq = v.rxSeq ∧ a.dcap = tget 1 src f.caps ∧ ¬src ∈ f.out ∧ a.dst = s.device;
     f.joined = true ∧ arrives ∧ noticeSeq ≤ f.noticeSeq ∧
     ∃ t0, tfind? number f.sentStatus = some t0 ∧ cap ≠ tget 1 s.device f.caps) ∧
    (let a : MemberIn := arrival; let p : Nat := a.port; let number : Nat := 5; let cap : Nat := 1; let epoch : Nat := 4; let noticeSeq : Nat := 1;
     let seq : Nat := 3;
     let s : State := {(MS fun f => {f with sentStatus := [(5,899999999999)], noticeSeq := 1}).setPort 1 {up := true, rxSeq := 7} with mgmt := {S0.mgmt with up := true}};
     p < 4 ∧ s.running = true ∧ s.dbgBlock.trigEn = false ∧ let v := s.port p; let f := s.fabric; let src := a.src;
     let arrives := v.up = true ∧ a.badCrc = false ∧ a.seq = v.rxSeq ∧ a.dcap = tget 1 src f.caps ∧ ¬src ∈ f.out ∧ a.dst = s.device;
     f.joined = true ∧ arrives ∧ noticeSeq ≤ f.noticeSeq ∧
     ∃ t0, tfind? number f.sentStatus = some t0 ∧ cap = tget 1 s.device f.caps ∧ f.joinBox = none) ∧
    (let a : MemberIn := arrival; let p : Nat := a.port; let seq : Nat := 3; let d : Nat := 3;
     let s : State := {(MS fun f => {f with candidate := 7}).setPort 1 {up := true, rxSeq := 7} with mgmt := {S0.mgmt with up := true}};
     p < 4 ∧ s.running = true ∧ s.dbgBlock.trigEn = false ∧ let v := s.port p; let f := s.fabric; let src := a.src;
     let arrives := v.up = true ∧ a.badCrc = false ∧ a.seq = v.rxSeq ∧ a.dcap = tget 1 src f.caps ∧ ¬src ∈ f.out ∧ a.dst = s.device;
     f.joined = true ∧ arrives ∧ f.candidate = src) ∧
    (let a : MemberIn := arrival; let p : Nat := a.port; let noticeSeq : Nat := 1; let seq : Nat := 1; let kind : NoticeKind := .cap 3 5;
     let s : State := {(MS fun f => {f with captain := some 7}).setPort 1 {up := true, rxSeq := 7} with mgmt := {S0.mgmt with up := true}};
     p < 4 ∧ s.running = true ∧ s.dbgBlock.trigEn = false ∧ let v := s.port p; let f := s.fabric; let src := a.src;
     let arrives := v.up = true ∧ a.badCrc = false ∧ a.seq = v.rxSeq ∧ a.dcap = tget 1 src f.caps ∧ ¬src ∈ f.out ∧ a.dst = s.device;
     f.joined = true ∧ arrives ∧ f.portTo s.device src = p ∧ src ≠ s.device ∧
     f.noticeSeq < seq ∧ s.mgmt.up = true ∧ seq = f.noticeSeq + 1) ∧
    (let a : MemberIn := arrival; let p : Nat := a.port; let noticeSeq : Nat := 1; let seq : Nat := 2; let kind : NoticeKind := .cap 3 5;
     let s : State := {(MS fun f => {f with captain := some 7}).setPort 1 {up := true, rxSeq := 7} with mgmt := {S0.mgmt with up := true}};
     p < 4 ∧ s.running = true ∧ s.dbgBlock.trigEn = false ∧ let v := s.port p; let f := s.fabric; let src := a.src;
     let arrives := v.up = true ∧ a.badCrc = false ∧ a.seq = v.rxSeq ∧ a.dcap = tget 1 src f.caps ∧ ¬src ∈ f.out ∧ a.dst = s.device;
     f.joined = true ∧ arrives ∧ f.portTo s.device src = p ∧ src ≠ s.device ∧
     f.noticeSeq < seq ∧ s.mgmt.up = true ∧ f.noticeSeq + 1 < seq ∧
     (∀ (q : Nat), q < 4 → q ≠ p → (s.port q).up = false)) ∧
    (let a : MemberIn := arrival; let p : Nat := a.port; let noticeSeq : Nat := 1; let seq : Nat := 2; let kind : NoticeKind := .cap 3 5;
     let s : State := {(MS fun f => {f with captain := some 7}).setPort 1 {up := true, rxSeq := 7} with mgmt := {S0.mgmt with up := false}};
     p < 4 ∧ s.running = true ∧ s.dbgBlock.trigEn = false ∧ let v := s.port p; let f := s.fabric; let src := a.src;
     let arrives := v.up = true ∧ a.badCrc = false ∧ a.seq = v.rxSeq ∧ a.dcap = tget 1 src f.caps ∧ ¬src ∈ f.out ∧ a.dst = s.device;
     f.joined = true ∧ arrives ∧ f.portTo s.device src = p ∧ src ≠ s.device ∧
     f.noticeSeq < seq ∧ s.mgmt.up = false) ∧
    (let a : MemberIn := arrival; let p : Nat := a.port; let noticeSeq : Nat := 1; let seq : Nat := 0; let kind : NoticeKind := .cap 3 5;
     let s : State := {(MS fun f => {f with captain := some 7}).setPort 1 {up := true, rxSeq := 7} with mgmt := {S0.mgmt with up := true}};
     p < 4 ∧ s.running = true ∧ s.dbgBlock.trigEn = false ∧ let v := s.port p; let f := s.fabric; let src := a.src;
     let arrives := v.up = true ∧ a.badCrc = false ∧ a.seq = v.rxSeq ∧ a.dcap = tget 1 src f.caps ∧ ¬src ∈ f.out ∧ a.dst = s.device;
     f.joined = true ∧ arrives ∧ (f.portTo s.device src ≠ p ∨ seq ≤ f.noticeSeq)) ∧
    (let a : MemberIn := arrival; let p : Nat := a.port; let seq : Nat := 0; let d : Nat := 7;
     let s : State := {(MS fun f => {f with isCaptain := true, gotStatus := [(3,900000000000),(7,900000000000),(129,900000000000),(200,900000000000)]}).setPort 1 {up := true, rxSeq := 7} with mgmt := {S0.mgmt with up := true}};
     p < 4 ∧ s.running = true ∧ s.dbgBlock.trigEn = false ∧ let v := s.port p; let f := s.fabric; let src := a.src;
     let arrives := v.up = true ∧ a.badCrc = false ∧ a.seq = v.rxSeq ∧ a.dcap = tget 1 src f.caps ∧ ¬src ∈ f.out ∧ a.dst = s.device;
     s.captainNow = true ∧ s.mgmt.up = true ∧ arrives) ∧
    (let a : MemberIn := arrival; let p : Nat := a.port; let seq : Nat := 0;
     let s : State := {(MS fun f => {f with isCaptain := true, gotStatus := [(3,900000000000),(7,900000000000),(129,900000000000),(200,900000000000)]}).setPort 1 {up := true, rxSeq := 7} with mgmt := {S0.mgmt with up := true}};
     p < 4 ∧ s.running = true ∧ s.dbgBlock.trigEn = false ∧ let v := s.port p; let f := s.fabric; let src := a.src;
     let arrives := v.up = true ∧ a.badCrc = false ∧ a.seq = v.rxSeq ∧ a.dcap = tget 1 src f.caps ∧ ¬src ∈ f.out ∧ a.dst = s.device;
     s.captainNow = true ∧ s.mgmt.up = true ∧ arrives) ∧
    (let a : MemberIn := arrival; let p : Nat := a.port; let seq : Nat := 0; let d : Nat := 3;
     let s : State := {(MS fun f => {f with isCaptain := true, gotStatus := [(3,900000000000),(7,900000000000),(129,900000000000),(200,900000000000)]}).setPort 1 {up := true, rxSeq := 7} with mgmt := {S0.mgmt with up := true}};
     p < 4 ∧ s.running = true ∧ s.dbgBlock.trigEn = false ∧ let v := s.port p; let f := s.fabric; let src := a.src;
     let arrives := v.up = true ∧ a.badCrc = false ∧ a.seq = v.rxSeq ∧ a.dcap = tget 1 src f.caps ∧ ¬src ∈ f.out ∧ a.dst = s.device;
     s.captainNow = true ∧ s.mgmt.up = true ∧ arrives ∧ d ∈ f.members ∧ ¬d ∈ f.out ∧
     d ≠ s.device) ∧
    (let a : MemberIn := arrival; let p : Nat := a.port; let seq : Nat := 0; let d : Nat := 3;
     let s : State := {(MS fun f => {f with isCaptain := true, out := [3], gotStatus := [(3,900000000000),(7,900000000000),(129,900000000000),(200,900000000000)]}).setPort 1 {up := true, rxSeq := 7} with mgmt := {S0.mgmt with up := true}};
     p < 4 ∧ s.running = true ∧ s.dbgBlock.trigEn = false ∧ let v := s.port p; let f := s.fabric; let src := a.src;
     let arrives := v.up = true ∧ a.badCrc = false ∧ a.seq = v.rxSeq ∧ a.dcap = tget 1 src f.caps ∧ ¬src ∈ f.out ∧ a.dst = s.device;
     s.captainNow = true ∧ s.mgmt.up = true ∧ arrives ∧ d ∈ f.out) ∧
    (let a : MemberIn := arrival; let p : Nat := a.port; let seq : Nat := 0;
     let s : State := {(MS fun f => {f with captain := some 7}).setPort 1 {up := true, rxSeq := 7} with mgmt := {S0.mgmt with up := true}};
     p < 4 ∧ s.running = true ∧ s.dbgBlock.trigEn = false ∧ let v := s.port p; let f := s.fabric; let src := a.src;
     let arrives := v.up = true ∧ a.badCrc = false ∧ a.seq = v.rxSeq ∧ a.dcap = tget 1 src f.caps ∧ ¬src ∈ f.out ∧ a.dst = s.device;
     arrives ∧ s.mgmt.up = true) ∧
    (let a : MemberIn := arrival; let p : Nat := a.port;
     let s : State := (MS fun f => {f with captain := some 7, unanswered := 3, candidate := 200, sentStatus := [(5,899999999999)], noticeSeq := 1});
     p < 4 ∧ s.running = true ∧ s.dbgBlock.trigEn = false ∧ let f := s.fabric;
     let due := f.sentStatus = [] ∨ f.statusAt + 200 * f.statusPeriod ≤ s.now; f.joined = true ∧ due ∧
     3 ≤ f.unanswered) ∧
    (let a : MemberIn := arrival; let p : Nat := a.port; let s : State := (MS fun f => {f with isCaptain := true}); p < 4 ∧ s.running = true ∧
     s.dbgBlock.trigEn = false ∧ let f := s.fabric; f.isCaptain = true ∧ f.gotStatus = []) ∧
    (let a : MemberIn := arrival; let p : Nat := a.port; let seq : Nat := 0; let d : Nat := 3;
     let s : State := {(MS fun f => {f with aliases := [⟨3,129,[0,1,255]⟩], standby := [⟨3,[0,1,255],0⟩]}).setPort 1 {up := true, rxSeq := 7} with mgmt := {S0.mgmt with up := true}};
     p < 4 ∧ s.running = true ∧ s.dbgBlock.trigEn = false ∧ let v := s.port p; let f := s.fabric; let src := a.src;
     let arrives := v.up = true ∧ a.badCrc = false ∧ a.seq = v.rxSeq ∧ a.dcap = tget 1 src f.caps ∧ ¬src ∈ f.out ∧ a.dst = s.device;
     f.joined = true ∧ s.mgmt.up = true ∧ arrives ∧ f.hostOf d = s.device ∧ f.aliasOf d ≠ none ∧
     ∃ e, List.find? (fun e => e.member == d) f.standby = some e ∧ s.gates.duplex = []) ∧
    (let a : MemberIn := arrival; let p : Nat := a.port; let noticeSeq : Nat := 1; let seq : Nat := 9;
     let caps : List (Nat × Nat) := [(3, 5)]; let sets : FabSets := ⟨[200], [3, 7, 129], [(200, 7, [1])]⟩;
     let s : State := {(MS fun f => {f with needTables := true}).setPort 1 {up := true, rxSeq := 7} with mgmt := {S0.mgmt with up := true}};
     p < 4 ∧ s.running = true ∧ s.dbgBlock.trigEn = false ∧ let v := s.port p; let f := s.fabric; let src := a.src;
     let arrives := v.up = true ∧ a.badCrc = false ∧ a.seq = v.rxSeq ∧ a.dcap = tget 1 src f.caps ∧ ¬src ∈ f.out ∧ a.dst = s.device;
     f.joined = true ∧ s.mgmt.up = true ∧ arrives ∧ (f.needTables = true ∨ f.noticeSeq < seq)) := by
  refine ⟨?_, ?_, ?_, ?_, ?_, ?_, ⟨?_, ?_, ?_, ?_, ?_, ?_, ?_, ?_, _, rfl, ?_, ?_⟩, ⟨?_, ?_, ?_, ?_, ?_, ?_, _, rfl,
    ?_⟩, ⟨?_, ?_, ?_, ?_, ?_, ?_, _, rfl, ?_, ?_⟩, ?_, ?_, ?_, ?_, ?_, ?_, ?_, ?_, ?_, ?_, ?_, ?_, ⟨?_, ?_, ?_, ?_,
    ?_, ?_, ?_, ?_, _, rfl, ?_⟩, ?_⟩ <;> decide +kernel

end FabricRows

namespace FabricMore

def S0 : State :=
  { State.reset with now := 900000000000, boot := {State.reset.boot with bootRec := {device := 129}} }
def pk : Packet :=
  { typ := 0, vc := 4, seq := 7, dst := 5, src := 6, dcap := 1, kind := 0, ftag := 9, srcId := 5, space := 0,
    addr := 0x10004, len := 3, data := [1,2,3], badCrc := false }

theorem test_witness_FabricPackets_2 :
    let p : Nat := 3; let k : Packet := pk;
     let s : State := ((S0.setPort 3 {up := true, rxSeq := 7}).setPort 1 {up := true, txSeq := 11}); p < 4 ∧
     s.running = true ∧ s.dbgBlock.trigEn = false ∧ let v := s.port p; let f := s.fabric;
     let expected := v.up = true ∧ k.badCrc = false ∧ k.seq = v.rxSeq;
     let good := expected ∧ k.dcap = tget 1 k.src f.caps ∧ ¬k.src ∈ f.out; let x := s.device % 128;
     let y := s.device / 128;
     let way := if k.dst % 128 ≠ x then if x < k.dst % 128 then 1 else 0 else if y < k.dst / 128 then 3 else 2;
     let line := f.wrapX = false ∧ f.wrapY = false ∧ f.overrides = [] ∧ f.aliases = [];
     let idle := fun q => (s.port q).up = true ∧ (s.port q).queued = [] ∧ (s.port q).replay = [] ∧ ∀ (vc : Nat), vc < 8 → tget 0 vc (s.port q).sentUnits = 0 ∧ tget 0 vc (s.port q).freed = 0;
     k.typ ≤ 1 ∧ good ∧ k.dst ≠ s.device ∧ line ∧ ¬k.dst ∈ f.out ∧ way ≠ p ∧ way < 4 ∧ idle way ∧
     k.data.length ≤ 512 ∧ k.vc < 8 ∧ k.typ = 0 := by
  decide +kernel

end FabricMore

namespace MailboxForms

def S0 : State :=
  { State.reset with now := 900000000000, boot := {State.reset.boot with bootRec := {device := 129}} }
def hdr (code tag len flags dl : Nat) : Mem :=
  memWrite 0 [
    ] 0 (leBytes code 2 ++ leBytes tag 2 ++ leBytes len 2 ++ leBytes flags 2 ++ leBytes dl 4 ++ leBytes 0 4 ++ [9,8,7,6,5,4,3,2,1])

theorem test_witness_MailboxRows :
    (let m : Nat := 0; let id : Nat := 0x4FF; let dev : Nat := 129; let payload : List Byte := [1,2,0,3];
     let s : State := opens [7, 0x401] (S0); m < 8 ∧ s.power.st = PState.run ∧ s.dbgBlock.trigEn = false ∧
     payload.length ≤ 4080 ∧ s.genuine (s.whoOn id dev) = false) ∧
    (let m : Nat := 5; let id : Nat := 7; let dev : Nat := 129; let payload : List Byte := [1,2,0,3];
     let s : State := opens [7, 0x401] (S0); m < 8 ∧ s.power.st = PState.run ∧ s.dbgBlock.trigEn = false ∧
     payload.length ≤ 4080 ∧ let x := s.mbx m; let shared := 3 ≤ m ∧ m ≤ 6;
     let submitter := if shared then x.holder = some (dev, id) else dev = s.device ∧ id = if m < 2 then 1025 else if m = 2 then 1026 else 1027;
     let writes := ∀ (off : Nat), off ∈ [0, 8, 24] → s.reaches (s.whoOn id dev) (bellReg m off) 4 true = true;
     ¬submitter ∧ writes ∧
     let asks := fun phys tag => s.reaches (s.askerWho (AskBy.access id phys tag) dev) (bellReg m 16) 4 false = true;
     shared ∧ x.holder = none ∧ x.lastReads = [] ∧ dev = s.device ∧ id < 1024 ∧ let phys : Nat := 7;
     let tag : Nat := 3; asks phys tag) ∧
    (let m : Nat := 0; let id : Nat := 0x401; let dev : Nat := 129; let v : W32 := 2;
     let payload : List Byte := [1,2,0,3]; let s : State := opens [7, 0x401] (S0); m < 8 ∧ s.power.st = PState.run ∧
     s.dbgBlock.trigEn = false ∧ payload.length ≤ 4080 ∧ let x := s.mbx m; let shared := 3 ≤ m ∧ m ≤ 6;
     let submitter := if shared then x.holder = some (dev, id) else dev = s.device ∧ id = if m < 2 then 1025 else if m = 2 then 1026 else 1027;
     let writes := ∀ (off : Nat), off ∈ [0, 8, 24] → s.reaches (s.whoOn id dev) (bellReg m off) 4 true = true;
     submitter ∧ writes ∧ BitVec.getLsbD v 0 = false) ∧
    (let m : Nat := 0; let id : Nat := 0x401; let dev : Nat := 129; let v : W32 := 1;
     let payload : List Byte := [1,2,0,3];
     let s : State := opens [7, 0x401] (S0.setMbx 0 {cmd := hdr 0x106 0x123 5 0 7, st := 1, tag := 0x123}); m < 8 ∧
     s.power.st = PState.run ∧ s.dbgBlock.trigEn = false ∧ payload.length ≤ 4080 ∧ let x := s.mbx m;
     let shared := 3 ≤ m ∧ m ≤ 6;
     let submitter := if shared then x.holder = some (dev, id) else dev = s.device ∧ id = if m < 2 then 1025 else if m = 2 then 1026 else 1027;
     let outstanding := x.st = 1 ∨ x.st = 2;
     let writes := ∀ (off : Nat), off ∈ [0, 8, 24] → s.reaches (s.whoOn id dev) (bellReg m off) 4 true = true;
     submitter ∧ writes ∧ BitVec.getLsbD v 0 = true ∧ outstanding ∧ x.aborting = false) ∧
    (let m : Nat := 5; let id : Nat := 7; let dev : Nat := 129; let v : W32 := 1;
     let payload : List Byte := [1,2,0,3];
     let s : State := opens [7, 0x401] (S0.setMbx 5 {cmd := hdr 0x3 0x123 5 0 0, st := 3, holder := some (129,7), holderCap := 1});
     m < 8 ∧ s.power.st = PState.run ∧ s.dbgBlock.trigEn = false ∧ payload.length ≤ 4080 ∧ let x := s.mbx m;
     let shared := 3 ≤ m ∧ m ≤ 6;
     let submitter := if shared then x.holder = some (dev, id) else dev = s.device ∧ id = if m < 2 then 1025 else if m = 2 then 1026 else 1027;
     let outstanding := x.st = 1 ∨ x.st = 2;
     let writes := ∀ (off : Nat), off ∈ [0, 8, 24] → s.reaches (s.whoOn id dev) (bellReg m off) 4 true = true;
     submitter ∧ writes ∧ BitVec.getLsbD v 0 = true ∧ ¬outstanding ∧ shared) ∧
    (let m : Nat := 5; let id : Nat := 7; let dev : Nat := 129; let payload : List Byte := [1,2,0,3];
     let s : State := opens [7, 0x401] (S0.setMbx 5 {cmd := hdr 0x3 0x123 5 0 0, st := 3, holder := some (129,6), holderCap := 1});
     m < 8 ∧ s.power.st = PState.run ∧ s.dbgBlock.trigEn = false ∧ payload.length ≤ 4080 ∧ let x := s.mbx m;
     let shared := 3 ≤ m ∧ m ≤ 6;
     let asks := fun phys tag => s.reaches (s.askerWho (AskBy.access id phys tag) dev) (bellReg m 16) 4 false = true;
     shared ∧ x.lastReads = [] ∧ ∃ h, x.holder = some h ∧ h ≠ (dev, id) ∧ let phys : Nat := 7; let tag : Nat := 3;
     asks phys tag) ∧
    (let m : Nat := 5; let payload : List Byte := [1,2,0,3];
     let s : State := (S0.setMbx 5 {cmd := hdr 0x3 0x123 5 0 0, st := 3, holder := some (129,7), holderCap := 1});
     m < 8 ∧ s.power.st = PState.run ∧ s.dbgBlock.trigEn = false ∧ payload.length ≤ 4080 ∧ let x := s.mbx m;
     let shared := 3 ≤ m ∧ m ≤ 6; let outstanding := x.st = 1 ∨ x.st = 2;
     let serves := s.mgmt.up = true ∧ s.mgmt.restarting = false ∧ s.running = true; shared ∧ x.holder ≠ none ∧
     ¬outstanding ∧ serves ∧ x.lastAct + 200000000 ≤ s.now) ∧
    (let m : Nat := 0; let payload : List Byte := [1,2,0,3];
     let s : State := (S0.setMbx 0 {cmd := hdr 0x106 0x123 5 4 7, st := 1, tag := 0x123}); m < 8 ∧
     s.power.st = PState.run ∧ s.dbgBlock.trigEn = false ∧ payload.length ≤ 4080 ∧ let x := s.mbx m;
     let word := fun o n => leNum (memRead 0 x.cmd o n);
     let serves := s.mgmt.up = true ∧ s.mgmt.restarting = false ∧ s.running = true; serves ∧ s.mgmt.recovery = false ∧
     x.st = 1 ∧ x.endAs = none ∧ Memory.wf 0 x.resp = true ∧
     let badHead := 2 ≤ word 6 2 ∨ word 12 4 ≠ 0 ∨ 4080 < word 4 2; badHead) ∧
    (let m : Nat := 4; let payload : List Byte := [1,2,0,3];
     let s : State := (S0.setMbx 4 {cmd := hdr 0x3 0x123 5 0 0, st := 1, holder := some (129,7), holderCap := 3});
     m < 8 ∧ s.power.st = PState.run ∧ s.dbgBlock.trigEn = false ∧ payload.length ≤ 4080 ∧ let x := s.mbx m;
     let word := fun o n => leNum (memRead 0 x.cmd o n); let shared := 3 ≤ m ∧ m ≤ 6;
     let serves := s.mgmt.up = true ∧ s.mgmt.restarting = false ∧ s.running = true; serves ∧ s.mgmt.recovery = false ∧
     x.st = 1 ∧ x.endAs = none ∧ Memory.wf 0 x.resp = true ∧
     let badHead := 2 ≤ word 6 2 ∨ word 12 4 ≠ 0 ∨ 4080 < word 4 2; ¬badHead ∧ ∃ h, x.holder = some h ∧ shared ∧
     h.fst = s.device ∧ x.holderCap ≠ s.capOf h.snd) ∧
    (let m : Nat := 0; let payload : List Byte := [1,2,0,3];
     let s : State := (S0.setMbx 0 {cmd := hdr 0x107 0x123 5 0 7, st := 1, tag := 0x123, aborting := true, endAs := none, resp := [(0,5),(3,5),(18,4)]});
     m < 8 ∧ s.power.st = PState.run ∧ s.dbgBlock.trigEn = false ∧ payload.length ≤ 4080 ∧ let x := s.mbx m;
     let word := fun o n => leNum (memRead 0 x.cmd o n); let shared := 3 ≤ m ∧ m ≤ 6;
     let known := word 0 2 ∈ [1, 2, 3, 15, 2817, 2818] ∨ 257 ≤ word 0 2 ∧ word 0 2 ≤ 262 ∨ 513 ≤ word 0 2 ∧ word 0 2 ≤ 516 ∨ 769 ≤ word 0 2 ∧ word 0 2 ≤ 775 ∨ 1025 ≤ word 0 2 ∧ word 0 2 ≤ 1028 ∨ 1281 ≤ word 0 2 ∧ word 0 2 ≤ 1285 ∨ 1537 ≤ word 0 2 ∧ word 0 2 ≤ 1539 ∨ 1793 ≤ word 0 2 ∧ word 0 2 ≤ 1795 ∨ 2049 ≤ word 0 2 ∧ word 0 2 ≤ 2051 ∨ 2305 ≤ word 0 2 ∧ word 0 2 ≤ 2308 ∨ 2561 ≤ word 0 2 ∧ word 0 2 ≤ 2563;
     let serves := s.mgmt.up = true ∧ s.mgmt.restarting = false ∧ s.running = true; serves ∧ s.mgmt.recovery = false ∧
     x.st = 1 ∧ x.endAs = none ∧ Memory.wf 0 x.resp = true ∧
     let badHead := 2 ≤ word 6 2 ∨ word 12 4 ≠ 0 ∨ 4080 < word 4 2; ¬badHead ∧ ¬shared ∧ ¬known ∧
     let outstanding := x.st = 1 ∨ x.st = 2; outstanding ∧ x.aborting = true ∧ x.abortAt + 1000000 ≤ s.now) ∧
    (let m : Nat := 0; let payload : List Byte := [1,2,0,3];
     let s : State := (S0.setMbx 0 {cmd := hdr 0x106 0x123 5 0 7, st := 1, tag := 0x123}); m < 8 ∧
     s.power.st = PState.run ∧ s.dbgBlock.trigEn = false ∧ payload.length ≤ 4080 ∧ let x := s.mbx m;
     let word := fun o n => leNum (memRead 0 x.cmd o n);
     let known := word 0 2 ∈ [1, 2, 3, 15, 2817, 2818] ∨ 257 ≤ word 0 2 ∧ word 0 2 ≤ 262 ∨ 513 ≤ word 0 2 ∧ word 0 2 ≤ 516 ∨ 769 ≤ word 0 2 ∧ word 0 2 ≤ 775 ∨ 1025 ≤ word 0 2 ∧ word 0 2 ≤ 1028 ∨ 1281 ≤ word 0 2 ∧ word 0 2 ≤ 1285 ∨ 1537 ≤ word 0 2 ∧ word 0 2 ≤ 1539 ∨ 1793 ≤ word 0 2 ∧ word 0 2 ≤ 1795 ∨ 2049 ≤ word 0 2 ∧ word 0 2 ≤ 2051 ∨ 2305 ≤ word 0 2 ∧ word 0 2 ≤ 2308 ∨ 2561 ≤ word 0 2 ∧ word 0 2 ≤ 2563;
     let serves := s.mgmt.up = true ∧ s.mgmt.restarting = false ∧ s.running = true; serves ∧ s.mgmt.recovery = false ∧
     x.st = 1 ∧ x.endAs = none ∧ Memory.wf 0 x.resp = true ∧
     let badHead := 2 ≤ word 6 2 ∨ word 12 4 ≠ 0 ∨ 4080 < word 4 2; ¬badHead ∧ m < 2 ∧ known ∧
     let outstanding := x.st = 1 ∨ x.st = 2; let abortable := word 0 2 ≠ 15 ∧ word 0 2 ≠ 1285; outstanding ∧
     x.aborting = false ∧ abortable ∧ word 8 4 ≠ 0 ∧ word 8 4 ≤ (s.now - x.bellAt) / 200) ∧
    (let m : Nat := 0; let payload : List Byte := [1,2,0,3];
     let s : State := opens [7, 0x401] (S0.setMbx 0 {cmd := hdr 0x106 0x123 5 4 7, st := 2, tag := 0x123, endAs := some 2});
     m < 8 ∧ s.power.st = PState.run ∧ s.dbgBlock.trigEn = false ∧ payload.length ≤ 4080 ∧ let x := s.mbx m;
     let outstanding := x.st = 1 ∨ x.st = 2;
     let serves := s.mgmt.up = true ∧ s.mgmt.restarting = false ∧ s.running = true; serves ∧ s.mgmt.recovery = false ∧
     outstanding ∧ Memory.wf 0 x.resp = true ∧ let st : Nat := 2; x.endAs = some st) := by
  refine ⟨?_, ?_, ?_, ?_, ?_, ⟨?_, ?_, ?_, ?_, ?_, ?_, _, rfl, ?_, ?_⟩, ?_, ?_, ⟨?_, ?_, ?_, ?_, ?_, ?_, ?_, ?_, ?_,
    ?_, _, rfl, ?_, ?_, ?_⟩, ?_, ?_, ?_⟩ <;> decide +kernel

end MailboxForms

end Sys2Proof.Tests
end

