-- ==== Sys2Proof/Tests/WitnessFaults.lean ====
section
/-! SUPPORT. Witnesses: for the statements on faults, resets, power and pace, concrete states and operands that meet the hypotheses of
each clause together. -/

set_option maxRecDepth 100000
set_option linter.unusedVariables false

namespace Sys2Proof.Tests
open Sys2Proof Sys2Proof.Machine Sys2Proof.Safety

set_option Elab.async false

namespace FaultRows

def S0 : State := { State.reset with now := 900000000000 }
def T1 : State :=
  (S0.setTile 1030 {run := .running, mem := [(4,7)]}).setTile 5 {run := .running, mem := [(4,7)], bad := [], sends := [{tag := 3, op := 0, desc := 0x100, len := 4, target := 7 * 65536, loc := 0x200, notify := false, resends := 0, since := 0, final := none}]}
/-- A request of tag 77 in flight to a unit of device 0. -/
def rq : Msg :=
  {kind := .read, len := 8, srcId := 0x450, srcPhys := 0x7C3, srcDev := 0, tag := 77, cap := 0, chk := false, dev := 0,
   space := 1, addr := 0x10090000, data := [], badCrc := false}
def pq : Packet :=
  { typ := 0, vc := 4, seq := 7, dst := 5, src := 6, dcap := 1, kind := 0, ftag := 9, srcId := 5, space := 0,
    addr := 0x10004, len := 3, data := [1,2,3], badCrc := false }
def TT : State :=
  { T1 with
    queues := [(3,{})]
    aon := {T1.aon with count := 777, drizzle := some ⟨5,[],[],[]⟩}
    bufMem := [(5,3)] }

theorem test_witness_DeviceResets :
    (let s : State := T1; s.dbgBlock.testMode = false ∧ s.faults.held = [] ∧ s.live = true ∧ s.mgmt.up = true ∧
     s.mgmt.restarting = false ∧ s.faults.absorb = false) ∧
    (let s : State := {T1 with mgmt := {T1.mgmt with restarting := true}}; s.dbgBlock.testMode = false ∧
     s.live = true ∧ s.mgmt.restarting = true) ∧
    (let s : State := {T1 with faults := {T1.faults with absorb := true}}; s.dbgBlock.testMode = false ∧
     s.faults.absorb = true) := by
  refine ⟨?_, ?_, ?_⟩ <;> decide +kernel

theorem test_witness_FaultReports :
    (let p : Nat := 1030; let e : Nat := 3; let i : Nat := 5; let word : Nat := 77; let s : State := T1; p < 1088 ∧
     e < 16 ∧ i < 12 ∧ word < 16384 ∧ s.power.st = PState.run ∧ s.dbgBlock.trigEn = false ∧ s.faults.held = [] ∧
     let m := s.tile p; m.run = RunState.running ∧ s.dbgBlock.frost = false ∧ s.duplexOf p = none ∧
     s.logicalOf p = none ∧ s.mgmt.restarting = false ∧
     let near := fun l => List.filter (fun t0 => decide (s.wall < t0 + 120000000000)) l;
     (near (tget [] word m.fixes)).length < 2 ∧ s.faults.disabled = []) ∧
    (let p : Nat := 5; let e : Nat := 15; let i : Nat := 11; let tag : Nat := 3; let word : Nat := 77;
     let s : State := {T1 with faults := {T1.faults with outvoted := [(2,[899999999999, 899999999998, 5])], lastMismatch := some 899999999998}};
     p < 1088 ∧ e < 16 ∧ i < 12 ∧ word < 16384 ∧ s.power.st = PState.run ∧ s.dbgBlock.trigEn = false ∧
     s.faults.held = [] ∧ let m := s.tile p;
     let late := fun target since => (if target / 2 ^ 34 = s.device then s.boot.bootRec.stallResp else 10000) ≤ (s.now - since) / 200;
     ∃ r, m.outstanding tag = some r ∧ s.duplexOf p = none ∧ late r.target r.since) ∧
    (let p : Nat := 1030; let e : Nat := 3; let i : Nat := 5; let tag : Nat := 77; let word : Nat := 77;
     let s : State := S0.setChan 29 {rd := some ⟨rq, 0, 0, 0⟩}; p < 1088 ∧ e < 16 ∧ i < 12 ∧ word < 16384 ∧
     s.power.st = PState.run ∧ s.dbgBlock.trigEn = false ∧ s.faults.held = [] ∧
     let late := fun target since => (if target / 2 ^ 34 = s.device then s.boot.bootRec.stallResp else 10000) ≤ (s.now - since) / 200;
     let full := fun x => x.dev * 2 ^ 34 + x.space * 2 ^ 32 + x.addr; let ch := 8 * e + tag % 8;
     ∃ u, (s.chan ch).openReq tag = some u ∧ late (full u.msg) u.since) ∧
    (let p : Nat := 1030; let e : Nat := 3; let i : Nat := 5; let tag : Nat := 77; let word : Nat := 77;
     let s : State := {S0 with host := {S0.host with outs := [⟨rq, 5, 0, 8, 0, 0⟩]}}; p < 1088 ∧ e < 16 ∧ i < 12 ∧
     word < 16384 ∧ s.power.st = PState.run ∧ s.dbgBlock.trigEn = false ∧ s.faults.held = [] ∧
     let late := fun target since => (if target / 2 ^ 34 = s.device then s.boot.bootRec.stallResp else 10000) ≤ (s.now - since) / 200;
     let full := fun x => x.dev * 2 ^ 34 + x.space * 2 ^ 32 + x.addr;
     ∃ q, List.find? (fun x => x.msg.tag == tag) s.host.outs = some q ∧ late (full q.msg) q.since) ∧
    (let p : Nat := 1030; let e : Nat := 3; let i : Nat := 5; let tag : Nat := 9; let word : Nat := 77;
     let s : State := {S0 with fabric := {S0.fabric with serving := [⟨9, 2, pq, 0, 0⟩]}}; p < 1088 ∧ e < 16 ∧ i < 12 ∧
     word < 16384 ∧ s.power.st = PState.run ∧ s.dbgBlock.trigEn = false ∧ s.faults.held = [] ∧
     let late := fun target since => (if target / 2 ^ 34 = s.device then s.boot.bootRec.stallResp else 10000) ≤ (s.now - since) / 200;
     ∃ x, List.find? (fun y => y.tag == tag) s.fabric.serving = some x ∧
     let full := fun x => x.dev * 2 ^ 34 + x.space * 2 ^ 32 + x.addr;
     late (full (s.hubMsg x.packet tag ((s.localAddr x.packet).getD 0))) x.since) ∧
    (let p : Nat := 1030; let e : Nat := 3; let i : Nat := 5; let tag : Nat := 100; let word : Nat := 77;
     let s : State := {S0 with router := {S0.router with src := [(100, {act := true, sentKind := 1, sentTile := 7})]}};
     p < 1088 ∧ e < 16 ∧ i < 12 ∧ word < 16384 ∧ s.power.st = PState.run ∧ s.dbgBlock.trigEn = false ∧
     s.faults.held = [] ∧
     let late := fun target since => (if target / 2 ^ 34 = s.device then s.boot.bootRec.stallResp else 10000) ≤ (s.now - since) / 200;
     (s.src tag).act = true ∧ (s.src tag).sentKind = 1 ∧ (s.src tag).retry = false ∧
     late (s.device * 2 ^ 34 + (s.src tag).sentTile * 65536) (s.src tag).resentAt) ∧
    (let p : Nat := 1030; let e : Nat := 15; let i : Nat := 11; let word : Nat := 77;
     let s : State := (T1.setTile 1030 {run := .running, mem := [(4,7)], fixes := [(77,[899999999999,899999999998])]});
     p < 1088 ∧ e < 16 ∧ i < 12 ∧ word < 16384 ∧ s.power.st = PState.run ∧ s.dbgBlock.trigEn = false ∧
     s.faults.held = [] ∧ let m := s.tile p;
     let near := fun l => List.filter (fun t0 => decide (s.wall < t0 + 120000000000)) l; s.duplexOf p = none ∧
     2 ≤ (near (tget [] word m.fixes)).length ∧ s.logicalOf p = none) := by
  refine ⟨?_, ⟨?_, ?_, ?_, ?_, ?_, ?_, ?_, _, rfl, ?_, ?_⟩, ⟨?_, ?_, ?_, ?_, ?_, ?_, ?_, _, rfl, ?_⟩, ⟨?_, ?_, ?_,
    ?_, ?_, ?_, ?_, _, rfl, ?_⟩, ⟨?_, ?_, ?_, ?_, ?_, ?_, ?_, _, rfl, ?_⟩, ?_, ?_⟩ <;> decide +kernel

theorem test_witness_SubstitutionsAndRestarts :
    (let l : Nat := 5; let p : Nat := 5; let c : Nat := 0; let s : State := T1; l < 1024 ∧ p < 1088 ∧ c < 16 ∧
     s.running = true ∧ s.dbgBlock.trigEn = false ∧ ∃ q, s.freeSpares.head? = some q ∧
     tfind? l s.gates.duplex = none ∧ s.mgmt.restarting = false ∧ ∃ old, s.physOf l = some old ∧
     (s.tile old).bad = [] ∧ ¬old ∈ s.faults.deadPorts ∧ q ≠ old ∧
     ((List.range 64).all fun i => s.isFreeSpare (1024 + i)) = true ∧ let i : Nat := 7; i < 64 ∧
     s.physOf (64 * c + i) = some (64 * c + i) ∧
     (∀ (j : Nat), j < 64 → s.physOf (64 * c + j) = some (64 * c + j) ∧ (s.tile (64 * c + j)).bad = [] ∧ ¬64 * c + j ∈ s.faults.deadPorts) ∧
     let accepted : List Msg := []; (∀ (m : Msg), m ∈ accepted → m ∈ s.flight ∧ s.toCourt c m = true) ∧
     (s.tile p).run ≠ RunState.halted) ∧
    (let l : Nat := 5; let p : Nat := 5; let c : Nat := 0;
     let s : State := {T1 with gates := {T1.gates with retired := (List.range 64).map (· + 1024)}}; l < 1024 ∧
     p < 1088 ∧ c < 16 ∧ s.running = true ∧ s.dbgBlock.trigEn = false ∧ s.freeSpares.head? = none ∧
     tfind? l s.gates.duplex = none ∧ ∃ old, s.physOf l = some old) ∧
    (let l : Nat := 5; let p : Nat := 5; let c : Nat := 0;
     let s : State := {T1 with gates := {T1.gates with duplex := [(5,{primary := 5, partner := 1040, auto := false, nPrim := 0, nPart := 0, log := [], held := [], outcomes := [], tags := [], nDone := 0})]}};
     l < 1024 ∧ p < 1088 ∧ c < 16 ∧ s.running = true ∧ s.dbgBlock.trigEn = false ∧
     ∃ d, tfind? l s.gates.duplex = some d ∧ d.held = [] ∧ s.mgmt.restarting = false ∧ d.auto = false) ∧
    (let l : Nat := 5; let p : Nat := 5; let c : Nat := 3;
     let s : State := (T1.setTile 5 {run := .halted, mem := [(4,7)], pc := 55}); l < 1024 ∧ p < 1088 ∧ c < 16 ∧
     s.running = true ∧ s.dbgBlock.trigEn = false ∧ (s.tile p).run = RunState.halted ∧
     tfind? p s.faults.doubleAt = none) ∧
    (let l : Nat := 5; let p : Nat := 5; let c : Nat := 0;
     let s : State := {T1.setTile 5 {run := .halted, mem := [(4,7)], pc := 55, dblAt := 899999999999} with faults := {T1.faults with doubleAt := [(5, 899999999990)]}};
     l < 1024 ∧ p < 1088 ∧ c < 16 ∧ s.running = true ∧ s.dbgBlock.trigEn = false ∧ (s.tile p).run = RunState.halted ∧
     ∃ t0, tfind? p s.faults.doubleAt = some t0 ∧ (s.tile p).dblAt < t0 + 200000000 ∧ s.duplexOf p = none ∧
     s.logicalOf p = some l ∧ tfind? l s.gates.duplex = none) := by
  refine ⟨⟨?_, ?_, ?_, ?_, ?_, _, rfl, ?_, ?_, _, rfl, ?_, ?_, ?_, ?_, ?_, ?_, ?_, ?_, ?_⟩, ⟨?_, ?_, ?_, ?_, ?_, ?_,
    ?_, _, rfl⟩, ⟨?_, ?_, ?_, ?_, ?_, _, rfl, ?_, ?_, ?_⟩, ?_, ⟨?_, ?_, ?_, ?_, ?_, ?_, _, rfl, ?_, ?_, ?_, ?_⟩⟩ <;>
    decide +kernel

theorem test_witness_SuppliesAndTrips :
    (let temps : List Int := (List.replicate 20 300 ++ [1650]); let s : State := TT; s.power.st = PState.run ∧
     s.dbgBlock.trigEn = false ∧ s.dbgBlock.testMode = false ∧
     let held := fun x => if x ∈ s.faults.held then s.faults.held else s.faults.held ++ [x];
     ¬HeldRestart.thermal ∈ s.faults.held ∧ temps.length = 21 ∧ (∃ x, x ∈ temps ∧ 1650 ≤ x)) ∧
    (let r : Rail := .vddaSd;
     let s : State := {TT with faults := {TT.faults with held := [.supply .vddaSd]}, mgmt := {TT.mgmt with up := false}};
     s.power.st = PState.run ∧ s.dbgBlock.trigEn = false ∧ s.dbgBlock.testMode = false ∧
     let held := fun x => if x ∈ s.faults.held then s.faults.held else s.faults.held ++ [x];
     HeldRestart.supply r ∈ s.faults.held) ∧
    (let r : Rail := .vddaSd; let s : State := {TT with faults := {TT.faults with held := [.thermal]}};
     s.power.st = PState.run ∧ s.dbgBlock.trigEn = false ∧ s.dbgBlock.testMode = false ∧
     let held := fun x => if x ∈ s.faults.held then s.faults.held else s.faults.held ++ [x];
     ¬HeldRestart.supply r ∈ s.faults.held) ∧
    (let temps : List Int := (List.replicate 20 300 ++ [1399]);
     let s : State := {TT with faults := {TT.faults with held := [.thermal], tripped := true}, mgmt := {TT.mgmt with up := false}};
     s.power.st = PState.run ∧ s.dbgBlock.trigEn = false ∧ s.dbgBlock.testMode = false ∧
     let held := fun x => if x ∈ s.faults.held then s.faults.held else s.faults.held ++ [x];
     HeldRestart.thermal ∈ s.faults.held ∧ temps.length = 21 ∧ (∀ (x : Int), x ∈ temps → x < 1400)) ∧
    (let temps : List Int := (List.replicate 20 300 ++ [1551]); let s : State := (TT.setFeed 2 {up := true});
     s.power.st = PState.run ∧ s.dbgBlock.trigEn = false ∧ s.dbgBlock.testMode = false ∧
     let held := fun x => if x ∈ s.faults.held then s.faults.held else s.faults.held ++ [x];
     ¬HeldRestart.thermal ∈ s.faults.held ∧ temps.length = 21 ∧ (∀ (x : Int), x ∈ temps → x < 1650)) := by
  refine ⟨?_, ?_, ?_, ?_, ?_⟩ <;> decide +kernel

end FaultRows

namespace PaceRows

def S0 : State := { State.reset with now := 900000000000 }
def rd (a b c : Nat) : List Nat := (List.replicate 20 a) ++ List.replicate 48 b ++ [c, c+1000]

theorem test_witness_PaceAndRegulator :
    (let readings : List Nat := (rd 500000 700000 800000); let s : State := S0; readings.length = 70 ∧
     s.power.st = PState.run ∧ s.dbgBlock.trigEn = false ∧ s.faults.held = [] ∧ s.pace.silent = false ∧
     let mw : Nat := 45001; let cap := s.pace.capTenths * 100; let floor := s.pace.floorM * 1000; cap < mw ∧
     (∃ c, c < 17 ∧ floor < (s.court c).eff) ∧ let i : Nat := 11; let busy : List Nat := (List.replicate 1088 4);
     i < 12 ∧ busy.length = 1088 ∧ s.pace.pmbFails = 0 ∧ ¬i ∈ s.pace.wakeAsked) ∧
    (let readings : List Nat := (rd 600000 593000 1800000);
     let s : State := ((S0.setCourt 3 {parked := true, rail := 500}).setCourt 4 {parkUs := 1000, lullSince := some 5, rail := 810, meters := [5,600000,600000], belowSince := some 5});
     readings.length = 70 ∧ s.power.st = PState.run ∧ s.dbgBlock.trigEn = false ∧ s.faults.held = [] ∧
     let c : Nat := 4; c < 18 ∧ (s.court c).alarmed = false ∧ (s.court c).parked = false ∧
     ∃ t0, (s.court c).belowSince = some t0 ∧ let mw : Nat := 44001; let cap := s.pace.capTenths * 100; mw ≤ cap ∧
     s.pace.capping = false) ∧
    (let readings : List Nat := (rd 600000 593000 1800000);
     let s : State := ((S0.setCourt 3 {parked := true, rail := 500}).setCourt 4 {parkUs := 1000, lullSince := some 5, rail := 810, meters := [5,600000,600000], belowSince := some 5});
     readings.length = 70 ∧ s.power.st = PState.run ∧ s.dbgBlock.trigEn = false ∧ s.faults.held = [] ∧
     let c : Nat := 4; c < 17 ∧ (s.court c).parked = false ∧ (s.court c).parkUs ≠ 0 ∧ s.lulls c = true ∧
     ∃ t0, (s.court c).lullSince = some t0 ∧ (s.court c).parkUs < (s.now - t0) / 200) ∧
    (let readings : List Nat := (rd 500000 700000 800000); let mw : Nat := 45001;
     let s : State := ((List.range 17).foldl (fun u c => u.setCourt c {eff := 160000}) S0); readings.length = 70 ∧
     s.power.st = PState.run ∧ s.dbgBlock.trigEn = false ∧ s.faults.held = [] ∧ let cap := s.pace.capTenths * 100;
     let floor := s.pace.floorM * 1000; cap < mw ∧ (∀ (c : Nat), c < 17 → (s.court c).eff ≤ floor)) ∧
    (let readings : List Nat := (rd 500000 700000 800000); let mw : Nat := 4401;
     let s : State := {S0.setCourt 17 {eff := 100000, target := 200000} with pace := {(S0.setCourt 17 {eff := 100000, target := 200000}).pace with capping := true}};
     readings.length = 70 ∧ s.power.st = PState.run ∧ s.dbgBlock.trigEn = false ∧ s.faults.held = [] ∧
     let cap := s.pace.capTenths * 100; 100 * mw < 98 * cap ∧ s.pace.capping = true ∧
     (s.court 17).eff < (s.court 17).target) ∧
    (let i : Nat := 11; let fault : Bool := false; let busy : List Nat := (List.replicate 1088 4);
     let s : State := {S0 with pace := {S0.pace with pmbFails := 1}}; s.power.st = PState.run ∧
     s.dbgBlock.trigEn = false ∧ s.faults.held = [] ∧ i < 12 ∧ busy.length = 1088 ∧ s.pace.silent = false ∧
     (0 < s.pace.pmbFails ∨ fault = true)) ∧
    (let i : Nat := 11; let busy : List Nat := (List.replicate 1088 4);
     let s : State := {S0 with pace := {S0.pace with silent := true}}; s.power.st = PState.run ∧
     s.dbgBlock.trigEn = false ∧ s.faults.held = [] ∧ i < 12 ∧ busy.length = 1088 ∧ s.pace.silent = true ∧
     s.pace.retryAt ≤ s.now) ∧
    (let i : Nat := 11; let busy : List Nat := (List.replicate 1088 4);
     let s : State := {S0 with pace := {S0.pace with wakeAsked := [11]}}; s.power.st = PState.run ∧
     s.dbgBlock.trigEn = false ∧ s.faults.held = [] ∧ i < 12 ∧ busy.length = 1088 ∧ i ∈ s.pace.wakeAsked) := by
  refine ⟨?_, ⟨?_, ?_, ?_, ?_, ?_, ?_, ?_, _, rfl, ?_, ?_⟩, ⟨?_, ?_, ?_, ?_, ?_, ?_, ?_, ?_, _, rfl, ?_⟩, ?_, ?_,
    ?_, ?_, ?_⟩ <;> decide +kernel

end PaceRows

end Sys2Proof.Tests
end

