-- ==== Sys2Proof/Tests/WitnessField.lean ====
section
/-! SUPPORT. Witnesses: for the statements on time and field I/O, concrete states and operands that meet the hypotheses of
each clause together. -/

set_option maxRecDepth 100000
set_option linter.unusedVariables false

namespace Sys2Proof.Tests
open Sys2Proof Sys2Proof.Machine Sys2Proof.Safety

set_option Elab.async false

namespace TimeRows

def Z : State := { State.reset with chans := [(17, {owner := 5})], dmaEng := [(2,{fenced := true})] }
def TS (t : TimeUnit) : State :=
  { State.reset with
    time := t
    now := 100000000
    aon := {State.reset.aon with count := 1000000, lastLo := 999999, anchorSec := 5, anchorNs := 7, anchorCount := 100} }
def t0 : TimeUnit :=
  { sec := 77, ns := 999999996, frac := 55, owner := 0x402, newNs := 99, newSec := 1234, mode := 1,
    syncTimeout := 3 }
def A (a : Alarm) : State := let s := TS {t0 with holdover := false}; s.setAlarm 3 a

theorem test_witness_DmaChannels_2 :
    (let ch : Nat := 17; let master : Nat := 5; let v : W32 := 0x80000012; let s : State := Z; ch < 128 ∧
     let c := s.chan ch; let e := ch / 8; c.owner = master ∧ BitVec.getLsbD v 31 = true ∧
     BitVec.getLsbD v 30 = false ∧ c.busy = false ∧ (s.dmaE e).fenced = true) := by
  decide +kernel

theorem test_witness_AlarmsAndCarry :
    (let k : Nat := 3; let s : State := (A {sec := 77, ns := 5, armed := true, fired := true, owner := 5}); k < 8 ∧
     let a := s.alarm k; let now := s.time.sec * 10 ^ 9 + s.time.ns; let target := a.sec * 10 ^ 9 + a.ns;
     a.armed = true ∧ s.dbgBlock.frost = false ∧ target ≤ now ∧ s.power.st = PState.run ∧ a.period = 0 ∧
     s.time.holdover = false ∧ ↑s.aon.phase < 163840 * (10000000 + s.delta 5 1) ∧ s.mgmt.up = true ∧
     s.mgmt.restarting = false) ∧
    (let k : Nat := 3;
     let s : State := (A {sec := 75, ns := 5, armed := true, fired := true, period := 1234567, owner := 5}); k < 8 ∧
     let a := s.alarm k; let now := s.time.sec * 10 ^ 9 + s.time.ns; let target := a.sec * 10 ^ 9 + a.ns;
     a.armed = true ∧ s.dbgBlock.frost = false ∧ target ≤ now ∧ s.power.st = PState.run ∧ 0 < a.period ∧
     a.period < 2 ^ 32 ∧ now < 2 ^ 70) ∧
    (let k : Nat := 3; let master : Nat := 5; let v : W32 := 0x40000003;
     let s : State := opens [5, 6] (A {sec := 75, ns := 5, armed := true, fired := true, period := 1234567, owner := 5});
     k < 8 ∧ let writes := s.reaches (s.whoIs master) (almReg k 16) 4 true = true; let a := s.alarm k;
     let free := a.owner = 1279 ∨ a.owner = master ∨ master = 1024; writes ∧ free ∧ BitVec.getLsbD v 30 = true) ∧
    (let k : Nat := 3; let master : Nat := 5; let v : W32 := 0x80000003;
     let s : State := opens [5, 6] (A {sec := 77, ns := 5, armed := false, fired := true, owner := 0x4FF}); k < 8 ∧
     let writes := s.reaches (s.whoIs master) (almReg k 16) 4 true = true; let a := s.alarm k;
     let free := a.owner = 1279 ∨ a.owner = master ∨ master = 1024; writes ∧ free ∧ BitVec.getLsbD v 30 = false ∧
     BitVec.getLsbD v 31 = true ∧ a.ns < 10 ^ 9) ∧
    (let k : Nat := 3; let master : Nat := 0x400; let v : W32 := 0x3;
     let s : State := { (A {sec := 75, ns := 5, armed := false, fired := true, period := 1234567, owner := 5}) with time := {t0 with holdover := true} };
     k < 8 ∧ let writes := s.reaches (s.whoIs master) (almReg k 16) 4 true = true; let a := s.alarm k;
     let free := a.owner = 1279 ∨ a.owner = master ∨ master = 1024; writes ∧ free ∧ BitVec.getLsbD v 30 = false ∧
     BitVec.getLsbD v 31 = false ∧ s.time.holdover = true ∧ s.aon.oscStopped = false ∧
     s.aon.anchorCount ≤ s.aon.count ∧ s.aon.count < 2 ^ 48 ∧ s.aon.anchorSec < 2 ^ 47 ∧ s.aon.anchorNs < 10 ^ 9 ∧
     s.aon.rate < 2 ^ 32) ∧
    (let k : Nat := 3; let master : Nat := 6;
     let s : State := opens [5, 6] (A {sec := 77, ns := 5, armed := true, fired := true, owner := 5}); k < 8 ∧
     let writes := s.reaches (s.whoIs master) (almReg k 16) 4 true = true; let a := s.alarm k;
     let free := a.owner = 1279 ∨ a.owner = master ∨ master = 1024; writes ∧ ¬free) := by
  refine ⟨?_, ?_, ?_, ?_, ?_, ?_⟩ <;> decide +kernel

theorem test_witness_TimeRows :
    (let s : State := {TS t0 with now := 700000000}; let t := s.time; s.running = true ∧ t.commit = none ∧
     t.holdover = false ∧ t.newRate = none ∧ t.slewOn = false ∧ t.rate = 0 ∧ t.ns < 10 ^ 9 ∧ 10 ^ 9 - 5 ≤ t.ns ∧
     t.frac < 2 ^ 32 ∧ (t.mode = 1 ∨ t.mode = 2) ∧ t.syncLost = false ∧
     t.syncTimeout * 1000000 ≤ (s.now - t.lastSync) / 200) ∧
    (let master : Nat := 0x402; let size : Nat := 8; let s : State := opens [5, 0x402] (TS t0);
     let from_ := if master < 1024 then (s.physOf master).getD 2047 else 2047;
     let reads := fun a n => s.reaches (s.askerWho (AskBy.access master from_ 0) s.device) a n false = true;
     reads 268632064 (max 1 (min size 16)) ∧ reads 268632116 4 ∧ let t := s.time;
     let writes := fun a => s.reaches (s.whoIs master) a 4 true = true;
     let mine := writes 268632108 ∧ writes 268632088 ∧ t.owner = master; mine ∧ t.newNs < 10 ^ 9) ∧
    (let master : Nat := 5; let s : State := opens [5, 0x402] (TS t0); let t := s.time;
     let writes := fun a => s.reaches (s.whoIs master) a 4 true = true;
     let others := writes 268632108 ∧ writes 268632088 ∧ t.owner ≠ master; others) ∧
    (let master : Nat := 0x402; let s : State := opens [5, 0x402] (TS {t0 with newNs := 1000000000, slewOn := true});
     let t := s.time; let writes := fun a => s.reaches (s.whoIs master) a 4 true = true;
     let mine := writes 268632108 ∧ writes 268632088 ∧ t.owner = master; mine ∧ 10 ^ 9 ≤ t.newNs) ∧
    (let s : State := (TS {t0 with commit := some ⟨true, 9, 8⟩}); let t := s.time; s.running = true ∧
     ∃ c, t.commit = some c ∧ c.absolute = true ∧ c.ns < 10 ^ 9) ∧
    (let s : State := (TS {t0 with newNs := 1000000000, slewOn := true}); let t := s.time; s.running = true ∧
     t.slewOn = true ∧ t.slewLeft = 0) := by
  refine ⟨?_, ?_, ?_, ?_, ⟨?_, _, rfl, ?_, ?_⟩, ?_⟩ <;> decide +kernel

end TimeRows

namespace FieldRows

def P (v : Pin) (b : Bank) : State :=
  { State.reset with
    now := 5000
    fio := { pins := [(20, v), (33, {owner := 5}), (34, {owner := 6, cfg := 0xFFFFFFFF})], banks := [(1, b)], timers := [(3, {owner := 5, capcfg := 0x140300})], err := 1 } }
def TT (t : Timer) : State := { State.reset with now := 5000, fio := { timers := [(3, t)] } }
def SE (x : Ser) : State := { State.reset with now := 5000, fio := { serial := [(3, x)] } }
def UU : SerUnit := ⟨some 0x55, true, true, true, true⟩

theorem test_witness_PinRows :
    (let n : Nat := 20; let b : Nat := 1; let w : Nat := 1; let mv : Nat := 900;
     let s : State := (P {owner := 5, cfg := 0xC400, recv := true, dgl := 100} {vio := 1, mv := 1800}); n < 96 ∧
     b < 6 ∧ w < 3 ∧ let x := s.pin n; let k := s.bank (n / 16); let vio := k.mv;
     let live := k.vio ≠ 0 ∧ (if k.vio = 1 then 1620 else 2970) ≤ k.mv; live ∧ BitVec.getLsbD x.cfg 13 = false ∧
     s.power.st = PState.run) ∧
    (let n : Nat := 20; let b : Nat := 1; let w : Nat := 1; let mv : Nat := 900;
     let s : State := {P {owner := 5, cfg := 0xC400, recv := true, dgl := 100} {vio := 1, mv := 1800} with wall := 5000};
     n < 96 ∧ b < 6 ∧ w < 3 ∧ let x := s.pin n; let k := s.bank (n / 16); let vio := k.mv;
     let live := k.vio ≠ 0 ∧ (if k.vio = 1 then 1620 else 2970) ≤ k.mv; live ∧ x.recv ≠ x.level ∧
     4 * x.dgl ≤ s.wall - x.recvAt ∧ s.running = true) ∧
    (let n : Nat := 20; let b : Nat := 1; let w : Nat := 1; let master : Nat := 5; let v : W32 := 0x10000411;
     let s : State := opens [5, 7] (P {owner := 5, cfg := 0x4400, causes := [.restart, .thermal]} {vio := 1, mv := 1800});
     n < 96 ∧ b < 6 ∧ w < 3 ∧ let writes := fun a => s.reaches (s.whoIs master) a 4 true = true;
     let cfgReg := 268763392 + 16 * n; let x := s.pin n; let mine := fun y => y.owner = master ∨ master = 1024;
     let func := BitVec.toNat v / 2 ^ 28; let sel := BitVec.toNat v / 2 ^ 23 % 32;
     let inRange := func ≤ 3 ∧ BitVec.toNat v / 2 ^ 16 % 4 ≠ 3 ∧ 3 ≤ BitVec.toNat v / 64 % 32 ∧ BitVec.toNat v / 64 % 32 ≤ 29;
     let routed := (func = 2 → (s.timer sel).owner = x.owner) ∧ (func = 3 → (s.ser (sel / 4)).owner = x.owner);
     writes cfgReg ∧ mine x ∧ inRange ∧ routed) ∧
    (let n : Nat := 20; let b : Nat := 1; let w : Nat := 1; let master : Nat := 7;
     let s : State := opens [5, 7] (P {owner := 5, cfg := 0xC400, recv := true, dgl := 100} {vio := 1, mv := 1800});
     n < 96 ∧ b < 6 ∧ w < 3 ∧ let writes := fun a => s.reaches (s.whoIs master) a 4 true = true;
     let cfgReg := 268763392 + 16 * n; let x := s.pin n; let mine := fun y => y.owner = master ∨ master = 1024;
     writes cfgReg ∧ ¬mine x) ∧
    (let n : Nat := 20; let b : Nat := 1; let w : Nat := 1; let master : Nat := 0x400; let v : W32 := 0x6;
     let s : State := (P {owner := 5, cfg := 0xC400, recv := false, level := true, dgl := 100} {vio := 2, mv := 3000});
     n < 96 ∧ b < 6 ∧ w < 3 ∧ let writes := fun a => s.reaches (s.whoIs master) a 4 true = true;
     let cfgReg := 268763392 + 16 * n; let x := s.pin n; let mine := fun y => y.owner = master ∨ master = 1024;
     let func := BitVec.toNat v / 2 ^ 28;
     let inRange := func ≤ 3 ∧ BitVec.toNat v / 2 ^ 16 % 4 ≠ 3 ∧ 3 ≤ BitVec.toNat v / 64 % 32 ∧ BitVec.toNat v / 64 % 32 ≤ 29;
     writes cfgReg ∧ mine x ∧ ¬inRange ∧ writes (268763168 + 4 * w) ∧ writes (268763184 + 4 * w)) ∧
    (let n : Nat := 20; let b : Nat := 1; let w : Nat := 1; let master : Nat := 5; let v : W32 := 0x20000411;
     let s : State := opens [5, 7] (P {owner := 5, cfg := 0xC400, recv := true, dgl := 100} {vio := 1, mv := 1800});
     n < 96 ∧ b < 6 ∧ w < 3 ∧ let writes := fun a => s.reaches (s.whoIs master) a 4 true = true;
     let cfgReg := 268763392 + 16 * n; let x := s.pin n; let mine := fun y => y.owner = master ∨ master = 1024;
     let func := BitVec.toNat v / 2 ^ 28; let sel := BitVec.toNat v / 2 ^ 23 % 32;
     let inRange := func ≤ 3 ∧ BitVec.toNat v / 2 ^ 16 % 4 ≠ 3 ∧ 3 ≤ BitVec.toNat v / 64 % 32 ∧ BitVec.toNat v / 64 % 32 ≤ 29;
     let routed := (func = 2 → (s.timer sel).owner = x.owner) ∧ (func = 3 → (s.ser (sel / 4)).owner = x.owner);
     writes cfgReg ∧ mine x ∧ inRange ∧ ¬routed) := by
  refine ⟨?_, ?_, ?_, ?_, ?_, ?_⟩ <;> decide +kernel

theorem test_witness_SerialRows :
    (let e : Nat := 3; let master : Nat := 5;
     let s : State := opens [5, 6] (SE {owner := 5, ctl := 0x40000000, busy := true, tx := [1], rx := [7]}); e < 8 ∧
     let writes := fun off => s.reaches (s.whoIs master) (serReg e off) 4 true = true; let x := s.ser e;
     let mine := x.owner = master ∨ master = 1024; writes 8 ∧ mine ∧ x.tx.length < 32 ∧ let v : W32 := 0x40000000;
     let m := BitVec.toNat v / 2 ^ 30;
     let badCtl := m = 1 ∧ BitVec.toNat v / 2 ^ 22 % 32 < 3 ∨ m = 2 ∧ BitVec.toNat v / 2 ^ 20 % 4 = 3 ∨ m = 3 ∧ (4 < BitVec.toNat v / 2 ^ 16 % 16 ∨ BitVec.toNat v / 2 ^ 14 % 4 = 3);
     writes 0 ∧ (x.busy = true ∨ badCtl) ∧ let i : Nat := 5; let p : Nat := 5; let tag : Nat := 9;
     s.reaches (s.askerWho (AskBy.access i p tag) s.device) (serReg e 12) 4 false = true) ∧
    (let e : Nat := 3; let master : Nat := 5;
     let s : State := opens [5, 6] (SE {owner := 5, ctl := 0x40000000, busy := false, tx := List.replicate 32 1, rx := []});
     e < 8 ∧ let writes := fun off => s.reaches (s.whoIs master) (serReg e off) 4 true = true; let x := s.ser e;
     let mine := x.owner = master ∨ master = 1024; writes 8 ∧ mine ∧ 32 ≤ x.tx.length ∧ let v : W32 := 0x40C00000;
     let m := BitVec.toNat v / 2 ^ 30;
     let badCtl := m = 1 ∧ BitVec.toNat v / 2 ^ 22 % 32 < 3 ∨ m = 2 ∧ BitVec.toNat v / 2 ^ 20 % 4 = 3 ∨ m = 3 ∧ (4 < BitVec.toNat v / 2 ^ 16 % 16 ∨ BitVec.toNat v / 2 ^ 14 % 4 = 3);
     writes 0 ∧ x.busy = false ∧ ¬badCtl) ∧
    (let e : Nat := 3; let master : Nat := 6;
     let s : State := opens [5, 6] (SE {owner := 5, ctl := 0x40000000, busy := true, tx := List.replicate 32 1, rx := List.replicate 3 1});
     e < 8 ∧ let writes := fun off => s.reaches (s.whoIs master) (serReg e off) 4 true = true; let x := s.ser e;
     let mine := x.owner = master ∨ master = 1024; ¬mine ∧ writes 8 ∧ writes 0) ∧
    (let e : Nat := 3; let s : State := (SE {owner := 5, ctl := 0x80000000, busy := true, tx := [0x400]}); e < 8 ∧
     let x := s.ser e; let mode := BitVec.toNat x.ctl / 2 ^ 30; s.ioRuns = true ∧ mode = 2 ∧ x.frozen = false ∧
     x.busy = true ∧ x.rx.length < 32) ∧
    (let e : Nat := 3; let u : SerUnit := UU;
     let s : State := opens [5, 6] (SE {owner := 5, ctl := 0xC0030000, rx := [7]}); e < 8 ∧ let x := s.ser e;
     let mode := BitVec.toNat x.ctl / 2 ^ 30; s.ioRuns = true ∧ mode = 3 ∧ x.frozen = false ∧ x.rx.length < 32 ∧
     ∃ d, u.rx = some d) ∧
    (let e : Nat := 3; let u : SerUnit := UU;
     let s : State := (SE {owner := 5, ctl := 0x40000000, busy := true, tx := [1], rx := [7]}); e < 8 ∧
     let x := s.ser e; let mode := BitVec.toNat x.ctl / 2 ^ 30; mode = 1 ∧ x.frozen = false ∧ x.busy = true ∧
     x.tx ≠ [] ∧ s.running = true ∧ ∃ r, u.rx = some r) := by
  refine ⟨?_, ?_, ?_, ?_, ⟨?_, ?_, ?_, ?_, ?_, _, rfl⟩, ⟨?_, ?_, ?_, ?_, ?_, ?_, _, rfl⟩⟩ <;> decide +kernel

theorem test_witness_TimerRows :
    (let n : Nat := 3; let v : W32 := 0x30AB0003;
     let s : State := (TT {owner := 5, run := true, count := 1, down := true, top := 10, sTop := 77, wTop := true, wCmpa := true, sCmpa := 4, mode := 2, updlock := false});
     n < 32 ∧ let t := s.timer n;
     let counts := s.ioRuns = true ∧ t.run = true ∧ t.frozen = false ∧ t.presc = t.prescale;
     let mode := BitVec.toNat v / 2 ^ 28 % 4; counts ∧ (t.mode = 0 → t.top ≤ t.count) ∧ (t.mode = 1 → t.count = 0) ∧
     (2 ≤ t.mode → t.down = true ∧ t.count ≤ 1)) ∧
    (let n : Nat := 3;
     let s : State := (TT {owner := 5, run := false, entered := true, due := [(.reset, 7)], capDue := true, count := 5, cmpa := 5, top := 10, act := 0xFFF, evsel := 15, mode := 0});
     n < 32 ∧ let t := s.timer n; s.ioRuns = true ∧ t.entered = true ∧ t.capDue = true ∧
     BitVec.getLsbD t.capcfg 0 = false) ∧
    (let n : Nat := 3;
     let s : State := opens [5, 6] (TT {owner := 5, run := false, entered := true, due := [(.reset, 7)], capDue := true, count := 5, cmpa := 5, top := 10, act := 0xFFF, evsel := 15, mode := 0});
     n < 32 ∧ let t := s.timer n; let a : ChainAct × Nat := (.reset, 7); let rest : List (ChainAct × Nat) := [];
     t.due = a :: rest ∧ rest = [] ∧ t.frozen = false ∧ a.snd ≤ s.now ∧ s.ioRuns = true ∧ let master : Nat := 5;
     let reg : Fin 3 := 0; let v : W32 := 0x90AB0003;
     let writes := fun off => s.reaches (s.whoIs master) (tmrReg n off) 4 true = true;
     let mine := t.owner = master ∨ master = 1024; let mode := BitVec.toNat v / 2 ^ 28 % 4; writes (12 + 4 * ↑reg) ∧
     mine ∧ (reg = 0 → (if t.mode = 2 then 2 else 1) ≤ BitVec.toNat v) ∧ writes 8 ∧ t.run = false ∧ writes 0 ∧
     mode < 2) ∧
    (let n : Nat := 3; let master : Nat := 5;
     let s : State := opens [5, 6] (TT {owner := 5, run := true, count := 1, down := true, top := 10, sTop := 77, wTop := true, wCmpa := true, sCmpa := 4, mode := 2, updlock := false});
     n < 32 ∧ let writes := fun off => s.reaches (s.whoIs master) (tmrReg n off) 4 true = true; let t := s.timer n;
     let mine := t.owner = master ∨ master = 1024; writes 8 ∧ mine ∧ t.run = true ∧ let v : W32 := 0x30AB0003;
     let mode := BitVec.toNat v / 2 ^ 28 % 4; writes 0 ∧ mode = 3) ∧
    (let n : Nat := 3; let master : Nat := 6; let reg : Fin 3 := 0;
     let s : State := opens [5, 6] (TT {owner := 5, run := true, count := 1, down := true, top := 10, sTop := 77, wTop := true, wCmpa := true, sCmpa := 4, mode := 2, updlock := false});
     n < 32 ∧ let writes := fun off => s.reaches (s.whoIs master) (tmrReg n off) 4 true = true; let t := s.timer n;
     let mine := t.owner = master ∨ master = 1024; ¬mine ∧ writes (12 + 4 * ↑reg) ∧ writes 8 ∧ writes 0) := by
  refine ⟨?_, ?_, ?_, ?_, ?_⟩ <;> decide +kernel

end FieldRows

end Sys2Proof.Tests
end

