-- ==== Sys2Proof/Tests/WitnessNetwork.lean ====
section
/-! SUPPORT. Witnesses: for the statements on the network, DMA and the event router, concrete states and operands that meet the hypotheses of
each clause together. -/

set_option maxRecDepth 100000
set_option linter.unusedVariables false

namespace Sys2Proof.Tests
open Sys2Proof Sys2Proof.Machine Sys2Proof.Safety

set_option Elab.async false

namespace NetRows

def M (k : MsgKind) (p : Nat) (len : Nat) (data : List Byte) : Msg :=
  { kind := k, len := len, srcId := 9, srcPhys := 9, srcDev := 0, tag := 0x21, cap := 1, chk := false,
    dev := 0, space := 0, addr := p*65536 + 0x102, data := data, badCrc := false }
def T5 : Tile :=
  { run := .running, rxLog := 8, rxHead := 0xE0, rxTail := 0x10, rxBase := 0x400,
    mem := [(0x101,1),(0x103,5),(0x4E0,9)] }
def SS (m : Msg) (o : Tile) : State := { State.reset.setTile 5 o with flight := [m], now := 4000 }
def U (k : MsgKind) (a : Nat) (id : Nat) (data : List Byte) : Msg :=
  { kind := k, len := 8, srcId := id, srcPhys := 0x7FF, srcDev := 0, tag := 0x21, cap := 1, chk := false,
    dev := 0, space := 1, addr := a, data := data, badCrc := false }
def SU (m : Msg) : State := { State.reset with flight := [m], bufMem := [(0x10,4)] }
def R (k : RespKind) : Resp :=
  { kind := k, dstPhys := 5, dstId := 5, tag := 3, cap := 1, status := 0x8B, data := [7,8,9], badCrc := false }
def SR (k : RespKind) (op : Nat) (res : Nat) : State :=
  { State.reset.setTile 5 { run := .running, mem := [(0x201,1)], sends := [⟨3, op, 0x100, 2, 0x40000, 0x200, false, res, 0, none⟩, ⟨4, op, 0x100, 2, 0x40000, 0x200, false, res, 0, some 0x85⟩, ⟨6, op, 0x100, 2, 0x40000, 0x200, false, res, 0, some 0⟩], resting := [(1,0),(4,0)] } with
    now := 4000
    replies := [R k]
    flight := [U .write 0x100000C 0x401 [1]] }

theorem test_witness_ResponsesAndCompletion :
    (let r : Resp := (R .done); let p : Nat := 5; let tag : Nat := 4; let s : State := (SR .done 1 0); p < 1088 ∧
     let o := s.tile p; r.dstPhys = p ∧ r ∈ s.replies ∧ s.isFenced p = false ∧ s.roleOf p = Role.single ∧
     r.cap = s.capOf (s.ownerOf p) ∧ r.badCrc = false ∧ s.live = true ∧ ∃ q, o.outstanding r.tag = some q ∧
     r.kind = RespKind.done ∧ q.op = 1 ∧ o.bad = [] ∧ Memory.wf 0 o.mem = true ∧ q.len ≤ 2048 ∧
     let old := fun l => s.live = true ∧ ∃ e, e ∈ l ∧ e.fst = tag ∧ 10 ≤ (s.now - e.snd) / 200; old o.resting ∧
     let m : Msg := (U .write 0x100000C 0x401 [1]); m ∈ s.flight ∧ (s.awaits m = false ∨ m.cut = true)) ∧
    (let r : Resp := (R .done); let p : Nat := 5; let tag : Nat := 8; let s : State := SR .done 0 0; p < 1088 ∧
     let o := s.tile p; r.dstPhys = p ∧ r ∈ s.replies ∧ s.isFenced p = false ∧ s.roleOf p = Role.single ∧
     r.cap = s.capOf (s.ownerOf p) ∧ r.badCrc = false ∧ s.live = true ∧ ∃ q, o.outstanding r.tag = some q ∧
     r.kind = RespKind.done ∧ q.op % 4 ≠ 1) ∧
    (let r : Resp := (R .error); let p : Nat := 5; let tag : Nat := 8; let s : State := SR .error 2 0; p < 1088 ∧
     let o := s.tile p; r.dstPhys = p ∧ r ∈ s.replies ∧ s.isFenced p = false ∧ s.roleOf p = Role.single ∧
     r.cap = s.capOf (s.ownerOf p) ∧ r.badCrc = false ∧ s.live = true ∧ ∃ q, o.outstanding r.tag = some q ∧
     r.kind = RespKind.error) ∧
    (let r : Resp := (R .retry); let p : Nat := 5; let tag : Nat := 8; let s : State := SR .retry 0 0; p < 1088 ∧
     let o := s.tile p; r.dstPhys = p ∧ r ∈ s.replies ∧ s.isFenced p = false ∧ s.roleOf p = Role.single ∧
     r.cap = s.capOf (s.ownerOf p) ∧ r.badCrc = false ∧ s.live = true ∧ ∃ q, o.outstanding r.tag = some q ∧
     r.kind = RespKind.retry ∧ q.resends < 3 ∧ o.bad = []) ∧
    (let r : Resp := (R .retry); let p : Nat := 5; let tag : Nat := 8; let s : State := SR .retry 1 3; p < 1088 ∧
     let o := s.tile p; r.dstPhys = p ∧ r ∈ s.replies ∧ s.isFenced p = false ∧ s.roleOf p = Role.single ∧
     r.cap = s.capOf (s.ownerOf p) ∧ r.badCrc = false ∧ s.live = true ∧ ∃ q, o.outstanding r.tag = some q ∧
     r.kind = RespKind.retry ∧ 3 ≤ q.resends) ∧
    (let p : Nat := 5; let tag : Nat := 4; let s : State := (SR .done 1 0); p < 1088 ∧ let o := s.tile p;
     ∃ q, List.find? (fun x => x.tag == tag && x.final.isSome) o.sends = some q ∧ ∃ st, q.final = some st ∧
     s.running = true ∧ q.notify = false) ∧
    (let p : Nat := 5; let tag : Nat := 4;
     let s : State := State.reset.setTile 5 { run := .running, sends := [⟨4, 0, 0x100, 2, 0x40000, 0x200, true, 0, 0, some 0x85⟩] };
     p < 1088 ∧ let o := s.tile p; ∃ q, List.find? (fun x => x.tag == tag && x.final.isSome) o.sends = some q ∧
     ∃ st, q.final = some st ∧ s.running = true ∧ q.notify = true) ∧
    (let p : Nat := 5; let tag : Nat := 8;
     let s : State := {SR .done 1 0 with dmaEng := [(3, {resting := [(8, 5)]})], host := {(SR .done 1 0).host with resting := [(8, 5)]}, fabric := {(SR .done 1 0).fabric with hubResting := [(8, 5)]}};
     p < 1088 ∧ let old := fun l => s.live = true ∧ ∃ e, e ∈ l ∧ e.fst = tag ∧ 10 ≤ (s.now - e.snd) / 200;
     let e : Nat := 3; e < 16 ∧ old (s.dmaE e).resting ∧ old s.host.resting ∧ old s.fabric.hubResting) := by
  refine ⟨⟨?_, ?_, ?_, ?_, ?_, ?_, ?_, ?_, _, rfl, ?_, ?_, ?_, ?_, ?_, ?_, ?_, ?_⟩, ⟨?_, ?_, ?_, ?_, ?_, ?_, ?_, ?_,
    _, rfl, ?_, ?_⟩, ⟨?_, ?_, ?_, ?_, ?_, ?_, ?_, ?_, _, rfl, ?_⟩, ⟨?_, ?_, ?_, ?_, ?_, ?_, ?_, ?_, _, rfl, ?_, ?_,
    ?_⟩, ⟨?_, ?_, ?_, ?_, ?_, ?_, ?_, ?_, _, rfl, ?_, ?_⟩, ⟨?_, _, rfl, _, rfl, ?_, ?_⟩, ⟨?_, _, rfl, _, rfl, ?_,
    ?_⟩, ?_⟩ <;> decide +kernel

theorem test_witness_TileRequests :
    (let m : Msg := (M .event 5 5 [3]);
     let s : State := {(SS (M .event 5 5 [3]) T5) with gates := {map := [(5,none)]}}; s.nextOf (msgSent m) = true ∧
     s.running = true ∧ m.dev = s.device ∧ m.space = 0 ∧ m.addr < 2 ^ 26 ∧ m.badCrc = false ∧ m.cut = false ∧
     let logical := m.addr / 65536 % 1024;
     let row := match m.kind with | MsgKind.write => some (Instr.write m) | MsgKind.read => some (Instr.read m) | MsgKind.writeFixed => some (Instr.writeFixed m) | MsgKind.msg => some (Instr.msg m) | MsgKind.event => some (Instr.event m) | x => none;
     ∃ c, row = some c ∧ m.phys = none ∧ s.physOf logical = none) ∧
    (let m : Msg := (M .event 5 5 [3]); let s : State := {(SS (M .event 5 5 [3]) T5) with gates := {fenced := [5]}};
     s.nextOf (msgSent m) = true ∧ s.running = true ∧ m.dev = s.device ∧ m.space = 0 ∧ m.addr < 2 ^ 26 ∧
     m.badCrc = false ∧ m.cut = false ∧ let logical := m.addr / 65536 % 1024;
     let row := match m.kind with | MsgKind.write => some (Instr.write m) | MsgKind.read => some (Instr.read m) | MsgKind.writeFixed => some (Instr.writeFixed m) | MsgKind.msg => some (Instr.msg m) | MsgKind.event => some (Instr.event m) | x => none;
     ∃ c, row = some c ∧ let p : Nat := 5; (m.phys = some p ∨ m.phys = none ∧ s.physOf logical = some p) ∧
     s.isFenced p = true ∧ (m.phys = some p ∨ s.stale m = false)) ∧
    (let m : Msg := (M .event 5 5 [3]); let s : State := {(SS (M .event 5 5 [3]) T5) with gates := {caps := [(9,7)]}};
     s.nextOf (msgSent m) = true ∧ s.running = true ∧ m.dev = s.device ∧ m.space = 0 ∧ m.addr < 2 ^ 26 ∧
     m.badCrc = false ∧ m.cut = false ∧ let logical := m.addr / 65536 % 1024;
     let row := match m.kind with | MsgKind.write => some (Instr.write m) | MsgKind.read => some (Instr.read m) | MsgKind.writeFixed => some (Instr.writeFixed m) | MsgKind.msg => some (Instr.msg m) | MsgKind.event => some (Instr.event m) | x => none;
     ∃ c, row = some c ∧ let p : Nat := 5; (m.phys = some p ∨ m.phys = none ∧ s.physOf logical = some p) ∧
     m.phys = none ∧ s.stale m = true) ∧
    (let m : Msg := {M .event 5 5 [3] with phys := some 1030};
     let s : State := {(SS {M .event 5 5 [3] with phys := some 1030} T5) with gates := {caps := [(9,7)]}};
     s.nextOf (msgSent m) = true ∧ s.running = true ∧ m.dev = s.device ∧ m.space = 0 ∧ m.addr < 2 ^ 26 ∧
     m.badCrc = false ∧ m.cut = false ∧ let logical := m.addr / 65536 % 1024;
     let row := match m.kind with | MsgKind.write => some (Instr.write m) | MsgKind.read => some (Instr.read m) | MsgKind.writeFixed => some (Instr.writeFixed m) | MsgKind.msg => some (Instr.msg m) | MsgKind.event => some (Instr.event m) | x => none;
     ∃ c, row = some c ∧ ∃ p, m.phys = some p ∧ (m.phys = some p ∨ m.phys = none ∧ s.physOf logical = some p) ∧
     s.isFenced p = false ∧ m.chk = false ∧ s.stale m = true) ∧
    (let m : Msg := (M .write 5 5 [1,2,3,4,0]); let s : State := (SS (M .write 5 5 [1,2,3,4,0]) T5);
     s.nextOf (msgSent m) = true ∧ s.running = true ∧ m.dev = s.device ∧ m.space = 0 ∧ m.addr < 2 ^ 26 ∧
     m.badCrc = false ∧ m.cut = false ∧ let logical := m.addr / 65536 % 1024;
     let row := match m.kind with | MsgKind.write => some (Instr.write m) | MsgKind.read => some (Instr.read m) | MsgKind.writeFixed => some (Instr.writeFixed m) | MsgKind.msg => some (Instr.msg m) | MsgKind.event => some (Instr.event m) | x => none;
     ∃ c, row = some c ∧ let p : Nat := 5; (m.phys = some p ∨ m.phys = none ∧ s.physOf logical = some p) ∧
     let o := s.tile p; s.isFenced p = false ∧ s.stale m = false ∧ tfind? logical s.gates.duplex = none ∧ o.bad = [] ∧
     Memory.wf 0 o.mem = true ∧ m.data.length ≤ 2048 ∧ m.kind = MsgKind.write) ∧
    (let m : Msg := (M .writeFixed 5 12 [1,2,3,4,5,6,7,8,9,10,11,12]);
     let s : State := (SS (M .writeFixed 5 12 [1,2,3,4,5,6,7,8,9,10,11,12]) T5); s.nextOf (msgSent m) = true ∧
     s.running = true ∧ m.dev = s.device ∧ m.space = 0 ∧ m.addr < 2 ^ 26 ∧ m.badCrc = false ∧ m.cut = false ∧
     let logical := m.addr / 65536 % 1024;
     let row := match m.kind with | MsgKind.write => some (Instr.write m) | MsgKind.read => some (Instr.read m) | MsgKind.writeFixed => some (Instr.writeFixed m) | MsgKind.msg => some (Instr.msg m) | MsgKind.event => some (Instr.event m) | x => none;
     ∃ c, row = some c ∧ let p : Nat := 5; (m.phys = some p ∨ m.phys = none ∧ s.physOf logical = some p) ∧
     let o := s.tile p; s.isFenced p = false ∧ s.stale m = false ∧ tfind? logical s.gates.duplex = none ∧ o.bad = [] ∧
     Memory.wf 0 o.mem = true ∧ m.data.length ≤ 2048 ∧ m.kind = MsgKind.writeFixed) ∧
    (let m : Msg := (M .read 5 5 []); let s : State := (SS (M .read 5 5 []) T5); s.nextOf (msgSent m) = true ∧
     s.running = true ∧ m.dev = s.device ∧ m.space = 0 ∧ m.addr < 2 ^ 26 ∧ m.badCrc = false ∧ m.cut = false ∧
     let logical := m.addr / 65536 % 1024;
     let row := match m.kind with | MsgKind.write => some (Instr.write m) | MsgKind.read => some (Instr.read m) | MsgKind.writeFixed => some (Instr.writeFixed m) | MsgKind.msg => some (Instr.msg m) | MsgKind.event => some (Instr.event m) | x => none;
     ∃ c, row = some c ∧ let p : Nat := 5; (m.phys = some p ∨ m.phys = none ∧ s.physOf logical = some p) ∧
     let o := s.tile p; s.isFenced p = false ∧ s.stale m = false ∧ tfind? logical s.gates.duplex = none ∧ o.bad = [] ∧
     Memory.wf 0 o.mem = true ∧ m.data.length ≤ 2048 ∧ m.kind = MsgKind.read) ∧
    (let m : Msg := (M .msg 5 5 [1,2,3,4,0]); let s : State := (SS (M .msg 5 5 [1,2,3,4,0]) {T5 with rxLog := 0});
     s.nextOf (msgSent m) = true ∧ s.running = true ∧ m.dev = s.device ∧ m.space = 0 ∧ m.addr < 2 ^ 26 ∧
     m.badCrc = false ∧ m.cut = false ∧ let logical := m.addr / 65536 % 1024;
     let row := match m.kind with | MsgKind.write => some (Instr.write m) | MsgKind.read => some (Instr.read m) | MsgKind.writeFixed => some (Instr.writeFixed m) | MsgKind.msg => some (Instr.msg m) | MsgKind.event => some (Instr.event m) | x => none;
     ∃ c, row = some c ∧ let p : Nat := 5; (m.phys = some p ∨ m.phys = none ∧ s.physOf logical = some p) ∧
     let o := s.tile p; s.isFenced p = false ∧ s.stale m = false ∧ tfind? logical s.gates.duplex = none ∧ o.bad = [] ∧
     Memory.wf 0 o.mem = true ∧ m.data.length ≤ 2048 ∧ m.kind = MsgKind.msg ∧ o.rxLog = 0) ∧
    (let m : Msg := (M .msg 5 5 [1,2,3,4,0]); let s : State := (SS (M .msg 5 5 [1,2,3,4,0]) {T5 with rxTail := 0xE8});
     s.nextOf (msgSent m) = true ∧ s.running = true ∧ m.dev = s.device ∧ m.space = 0 ∧ m.addr < 2 ^ 26 ∧
     m.badCrc = false ∧ m.cut = false ∧ let logical := m.addr / 65536 % 1024;
     let row := match m.kind with | MsgKind.write => some (Instr.write m) | MsgKind.read => some (Instr.read m) | MsgKind.writeFixed => some (Instr.writeFixed m) | MsgKind.msg => some (Instr.msg m) | MsgKind.event => some (Instr.event m) | x => none;
     ∃ c, row = some c ∧ let p : Nat := 5; (m.phys = some p ∨ m.phys = none ∧ s.physOf logical = some p) ∧
     let o := s.tile p; s.isFenced p = false ∧ s.stale m = false ∧ tfind? logical s.gates.duplex = none ∧ o.bad = [] ∧
     Memory.wf 0 o.mem = true ∧ m.data.length ≤ 2048 ∧ m.kind = MsgKind.msg ∧ 8 ≤ o.rxLog ∧ o.rxLog ≤ 14 ∧
     BitVec.toNat o.rxHead < 2 ^ o.rxLog ∧ let size := 2 ^ o.rxLog; let head := BitVec.toNat o.rxHead;
     let used := (head + size - BitVec.toNat o.rxTail % size) % size;
     let entry := leBytes (m.srcId % 4096) 2 ++ leBytes m.data.length 2 ++ leBytes (m.srcDev % 16384) 2 ++ [BitVec.ofNat 8 m.tag, BitVec.ofNat 8 m.cap] ++ m.data;
     let need := (entry.length + 7) / 8 * 8; let pad := if size < head + need then size - head else 0;
     size < used + pad + need + 8) ∧
    (let m : Msg := (M .msg 5 5 [1,2,3,4,0]); let s : State := (SS (M .msg 5 5 [1,2,3,4,0]) T5);
     s.nextOf (msgSent m) = true ∧ s.running = true ∧ m.dev = s.device ∧ m.space = 0 ∧ m.addr < 2 ^ 26 ∧
     m.badCrc = false ∧ m.cut = false ∧ let logical := m.addr / 65536 % 1024;
     let row := match m.kind with | MsgKind.write => some (Instr.write m) | MsgKind.read => some (Instr.read m) | MsgKind.writeFixed => some (Instr.writeFixed m) | MsgKind.msg => some (Instr.msg m) | MsgKind.event => some (Instr.event m) | x => none;
     ∃ c, row = some c ∧ let p : Nat := 5; (m.phys = some p ∨ m.phys = none ∧ s.physOf logical = some p) ∧
     let o := s.tile p; s.isFenced p = false ∧ s.stale m = false ∧ tfind? logical s.gates.duplex = none ∧ o.bad = [] ∧
     Memory.wf 0 o.mem = true ∧ m.data.length ≤ 2048 ∧ m.kind = MsgKind.msg ∧ 8 ≤ o.rxLog ∧ o.rxLog ≤ 14 ∧
     BitVec.toNat o.rxHead < 2 ^ o.rxLog ∧ let size := 2 ^ o.rxLog; let head := BitVec.toNat o.rxHead;
     let used := (head + size - BitVec.toNat o.rxTail % size) % size;
     let entry := leBytes (m.srcId % 4096) 2 ++ leBytes m.data.length 2 ++ leBytes (m.srcDev % 16384) 2 ++ [BitVec.ofNat 8 m.tag, BitVec.ofNat 8 m.cap] ++ m.data;
     let need := (entry.length + 7) / 8 * 8; used + need + 8 ≤ size ∧ head + need ≤ size) ∧
    (let m : Msg := (M .event 5 5 [3]); let s : State := (SS (M .event 5 5 [3]) {T5 with rxLog := 0});
     s.nextOf (msgSent m) = true ∧ s.running = true ∧ m.dev = s.device ∧ m.space = 0 ∧ m.addr < 2 ^ 26 ∧
     m.badCrc = false ∧ m.cut = false ∧ let logical := m.addr / 65536 % 1024;
     let row := match m.kind with | MsgKind.write => some (Instr.write m) | MsgKind.read => some (Instr.read m) | MsgKind.writeFixed => some (Instr.writeFixed m) | MsgKind.msg => some (Instr.msg m) | MsgKind.event => some (Instr.event m) | x => none;
     ∃ c, row = some c ∧ let p : Nat := 5; (m.phys = some p ∨ m.phys = none ∧ s.physOf logical = some p) ∧
     let o := s.tile p; s.isFenced p = false ∧ s.stale m = false ∧ tfind? logical s.gates.duplex = none ∧ o.bad = [] ∧
     Memory.wf 0 o.mem = true ∧ m.data.length ≤ 2048 ∧ m.kind = MsgKind.event) := by
  refine ⟨⟨?_, ?_, ?_, ?_, ?_, ?_, ?_, _, rfl, ?_, ?_⟩, ⟨?_, ?_, ?_, ?_, ?_, ?_, ?_, _, rfl, ?_, ?_, ?_⟩, ⟨?_, ?_,
    ?_, ?_, ?_, ?_, ?_, _, rfl, ?_, ?_, ?_⟩, ⟨?_, ?_, ?_, ?_, ?_, ?_, ?_, _, rfl, _, rfl, ?_, ?_, ?_, ?_⟩, ⟨?_, ?_,
    ?_, ?_, ?_, ?_, ?_, _, rfl, ?_, ?_, ?_, ?_, ?_, ?_, ?_, ?_⟩, ⟨?_, ?_, ?_, ?_, ?_, ?_, ?_, _, rfl, ?_, ?_, ?_,
    ?_, ?_, ?_, ?_, ?_⟩, ⟨?_, ?_, ?_, ?_, ?_, ?_, ?_, _, rfl, ?_, ?_, ?_, ?_, ?_, ?_, ?_, ?_⟩, ⟨?_, ?_, ?_, ?_, ?_,
    ?_, ?_, _, rfl, ?_, ?_, ?_, ?_, ?_, ?_, ?_, ?_, ?_⟩, ⟨?_, ?_, ?_, ?_, ?_, ?_, ?_, _, rfl, ?_, ?_, ?_, ?_, ?_,
    ?_, ?_, ?_, ?_, ?_, ?_, ?_⟩, ⟨?_, ?_, ?_, ?_, ?_, ?_, ?_, _, rfl, ?_, ?_, ?_, ?_, ?_, ?_, ?_, ?_, ?_, ?_, ?_,
    ?_, ?_⟩, ⟨?_, ?_, ?_, ?_, ?_, ?_, ?_, _, rfl, ?_, ?_, ?_, ?_, ?_, ?_, ?_, ?_⟩⟩ <;> decide +kernel

theorem test_witness_UnitRequests :
    (let m : Msg := {U .write 0x100000C 9 [1,2,3,4,5,6,7,8] with srcPhys := 9, cap := 7};
     let s : State := (SU {U .write 0x100000C 9 [1,2,3,4,5,6,7,8] with srcPhys := 9, cap := 7});
     s.nextOf (msgSent m) = true ∧ s.running = true ∧ m.dev = s.device ∧ m.space = 1 ∧ m.badCrc = false ∧
     m.cut = false ∧ s.islandRuns m.addr = true ∧ m.kind = MsgKind.write ∧ s.stale m = true) ∧
    (let m : Msg := (U .read 0x100000C 0x400 []); let s : State := (SU (U .read 0x100000C 0x400 []));
     s.nextOf (msgSent m) = true ∧ s.running = true ∧ m.dev = s.device ∧ m.space = 1 ∧ m.badCrc = false ∧
     m.cut = false ∧ s.islandRuns m.addr = true ∧ let n := if m.kind = MsgKind.read then m.len else m.data.length;
     let buffer := 16777216 ≤ m.addr ∧ m.addr + n ≤ 20971520; s.stale m = false ∧ m.kind = MsgKind.read ∧
     s.reach (whoOf m) (some m) m.addr n false = 0 ∧ buffer ∧ s.faults.badBuf = []) ∧
    (let m : Msg := (U .write 0x100000C 0x400 [1,2,3,4,5,6,7,8]);
     let s : State := (SU (U .write 0x100000C 0x400 [1,2,3,4,5,6,7,8])); s.nextOf (msgSent m) = true ∧
     s.running = true ∧ m.dev = s.device ∧ m.space = 1 ∧ m.badCrc = false ∧ m.cut = false ∧
     s.islandRuns m.addr = true ∧ let n := if m.kind = MsgKind.read then m.len else m.data.length;
     let buffer := 16777216 ≤ m.addr ∧ m.addr + n ≤ 20971520; s.stale m = false ∧ m.kind = MsgKind.write ∧
     s.reach (whoOf m) (some m) m.addr n true = 0 ∧ buffer ∧ s.faults.badBuf = []) ∧
    (let m : Msg := (U .read 0x100000C 0x401 []); let s : State := (SU (U .read 0x100000C 0x401 []));
     s.nextOf (msgSent m) = true ∧ s.running = true ∧ m.dev = s.device ∧ m.space = 1 ∧ m.badCrc = false ∧
     m.cut = false ∧ s.islandRuns m.addr = true ∧ let n := if m.kind = MsgKind.read then m.len else m.data.length;
     s.stale m = false ∧ m.kind = MsgKind.read ∧ let st := s.reach (whoOf m) (some m) m.addr n false; st ≠ 0) ∧
    (let m : Msg := (U .write 0x100000C 0x401 [1,2,3,4,5,6,7,8]);
     let s : State := (SU (U .write 0x100000C 0x401 [1,2,3,4,5,6,7,8])); s.nextOf (msgSent m) = true ∧
     s.running = true ∧ m.dev = s.device ∧ m.space = 1 ∧ m.badCrc = false ∧ m.cut = false ∧
     s.islandRuns m.addr = true ∧ let n := if m.kind = MsgKind.read then m.len else m.data.length; s.stale m = false ∧
     m.kind = MsgKind.write ∧ s.reach (whoOf m) (some m) m.addr n true ≠ 0) ∧
    (let m : Msg := (U .msg 0x100000C 0x400 []); let s : State := (SU (U .msg 0x100000C 0x400 []));
     s.nextOf (msgSent m) = true ∧ s.running = true ∧ m.dev = s.device ∧ m.space = 1 ∧ m.badCrc = false ∧
     m.cut = false ∧ s.islandRuns m.addr = true ∧ s.stale m = false ∧ m.kind = MsgKind.msg) ∧
    (let m : Msg := (U .event 0x100000C 0x401 []); let s : State := (SU (U .event 0x100000C 0x401 []));
     s.nextOf (msgSent m) = true ∧ s.running = true ∧ m.dev = s.device ∧ m.space = 1 ∧ m.badCrc = false ∧
     m.cut = false ∧ s.islandRuns m.addr = true ∧ s.stale m = false ∧ m.kind = MsgKind.event) := by
  refine ⟨?_, ?_, ?_, ?_, ?_, ?_, ?_⟩ <;> decide +kernel

end NetRows

namespace DmaRouter

def S0 : State :=
  { State.reset with
    now := 100000000
    chans := [(3, {owner := 5, descAddr := 0x2000, evErr := true}),
      (4, {owner := 5, busy := true, phase := .move, desc := {src := 0x1000, dst := 0x100000000 + 0x3000, len := 20, ctl := 0x0400}, staging := [1,2,3,4,5,6,7,8,9], written := 8, cur := 0x5000, wseq := 15 }),
      (5, {owner := 5, busy := true, stopping := true, phase := .move}),
      (6, {owner := 5, busy := true, phase := .move, desc := {len := 8, ctl := 0x4000}, written := 8}),
      (7, {owner := 5, busy := true, phase := .move, desc := {len := 8, ctl := 0x4000}, written := 0, endSt := some 0x82}),
      (9, {owner := 5, busy := true, phase := .move, desc := {len := 8, ctl := 0x2000}, written := 8, cur := 0x100 }),
      (10, {owner := 5, busy := true, phase := .move, rseq := 2, desc := {len := 8, ctl := 0x8000, next := 0x4000}, written := 8}),
      (17, {owner := 5})]
    dmaEng := [(2,{fenced := true})] }
def S1 : State :=
  { S0 with
    router := { State.reset.router with src := [(5,{kind := 1, tile := 7, line := 3, pend := true}), (6, {kind := 3, vector := 4, pend := true}), (7,{kind := 2, pend := true}), (100,{kind := 1, act := true, sentKind := 1, sentTile := 9, retry := true, owner := 5}), (101, {act := true, sentKind := 2}), (102, {act := true, sentKind := 3, owner := 5}), (103, {fired := true, owner := 5}), (104, {fired := true, owner := 6}),(105,{fired := true})], hold := [(6,{us := 5, start := some 10, last := 3})] }
    replies := [
      {kind := .done, dstPhys := 0x7FF, dstId := 0x400, tag := 0, cap := 0, status := 0, data := [100,0], badCrc := false}]
    dbgBlock := {trigEn := true, trigSrc := 104} }

theorem test_witness_DmaChannels :
    (let ch : Nat := 3; let master : Nat := 6; let v : W32 := 0x80000012;
     let s : State := opens [5, 6] { S0 with chans := S0.chans.filter (fun e : Nat × Chan => e.1 == 3) }; ch < 128 ∧
     let writes := s.reaches (s.whoIs master) (dmaReg ch 0) 4 true = true; let c := s.chan ch; writes ∧
     c.owner ≠ master ∧ BitVec.getLsbD v 31 = true) ∧
    (let ch : Nat := 3; let master : Nat := 6; let v : W32 := 0x12;
     let s : State := opens [5, 6] { S0 with chans := S0.chans.filter (fun e : Nat × Chan => e.1 == 3) }; ch < 128 ∧
     let writes := s.reaches (s.whoIs master) (dmaReg ch 0) 4 true = true; let c := s.chan ch; writes ∧
     c.owner ≠ master ∧ BitVec.getLsbD v 31 = false) ∧
    (let ch : Nat := 17; let master : Nat := 5; let v : W32 := 0x80000012;
     let s : State := opens [5, 6] { S0 with chans := S0.chans.filter (fun e : Nat × Chan => e.1 == 17) }; ch < 128 ∧
     let writes := s.reaches (s.whoIs master) (dmaReg ch 0) 4 true = true; let c := s.chan ch; let e := ch / 8;
     writes ∧ c.owner = master ∧ BitVec.getLsbD v 31 = true ∧ BitVec.getLsbD v 30 = false ∧ c.busy = false ∧
     (s.dmaE e).fenced = true ∧ c.prio < 4) ∧
    (let ch : Nat := 3; let master : Nat := 5; let v : W32 := 0x80000012;
     let s : State := opens [5, 6] { S0 with chans := S0.chans.filter (fun e : Nat × Chan => e.1 == 3) }; ch < 128 ∧
     let writes := s.reaches (s.whoIs master) (dmaReg ch 0) 4 true = true; let c := s.chan ch; let e := ch / 8;
     let may := fun full len write => s.dmaReach (s.dmaWho ch) full len write = true; writes ∧ c.owner = master ∧
     BitVec.getLsbD v 31 = true ∧ BitVec.getLsbD v 30 = false ∧ c.busy = false ∧ (s.dmaE e).fenced = false ∧
     may c.descAddr 32 false ∧ ∃ n, s.dmaSeq ch false = some n) ∧
    (let ch : Nat := 3; let master : Nat := 5; let v : W32 := 0x12;
     let s : State := opens [5, 6] { S0 with chans := S0.chans.filter (fun e : Nat × Chan => e.1 == 3) }; ch < 128 ∧
     let writes := s.reaches (s.whoIs master) (dmaReg ch 0) 4 true = true; let c := s.chan ch; writes ∧
     c.owner = master ∧ BitVec.getLsbD v 31 = false ∧ BitVec.getLsbD v 30 = false) ∧
    (let ch : Nat := 5; let s : State := S0; ch < 128 ∧ let c := s.chan ch; s.movesOn ch = true ∧ c.busy = true ∧
     c.stopping = true ∧ c.ends = false ∧ c.unacked = [] ∧ c.endSt = none) ∧
    (let ch : Nat := 4;
     let s : State := { S0 with chans := (S0.chans.filter (fun e : Nat × Chan => e.1 == 4)).map fun e => (e.1, {e.2 with inbox := [1,2,3]}) };
     ch < 128 ∧ let c := s.chan ch; let e := ch / 8; (s.dmaE e).fenced = false ∧ s.movesOn ch = true ∧
     (∀ (j : Nat), j < 8 → (s.chan (8 * e + j)).nextRead = none) ∧ s.moverPick e = some (ch % 8) ∧ c.inbox ≠ []) ∧
    (let ch : Nat := 4; let n : Nat := 15;
     let s : State := { S0 with chans := S0.chans.filter (fun e : Nat × Chan => e.1 == 4) , mgmt := { windows := [⟨0,5,0,true,0,0x100000000+0x3000,0x1000,false,[]⟩]}};
     ch < 128 ∧ let c := s.chan ch; let e := ch / 8;
     let may := fun full len write => s.dmaReach (s.dmaWho ch) full len write = true; (s.dmaE e).fenced = false ∧
     s.movesOn ch = true ∧ (∀ (j : Nat), j < 8 → (s.chan (8 * e + j)).nextRead = none) ∧
     s.moverPick e = some (ch % 8) ∧ let k := min 8 (c.desc.len - c.written);
     let full := if c.desc.dstFixed = true then c.desc.dst else c.desc.dst + c.written; c.inbox = [] ∧
     may full k true ∧ s.dmaSeq ch true = some n) ∧
    (let ch : Nat := 6; let s : State := S0; ch < 128 ∧ let c := s.chan ch; s.movesOn ch = true ∧ c.busy = true ∧
     c.rd = none ∧ c.unacked = [] ∧ c.stopping = false ∧ c.phase = ChanPhase.move ∧ c.endSt = none ∧
     c.written = c.desc.len ∧ c.desc.wb = false ∧ c.desc.nextEn = false) ∧
    (let ch : Nat := 10; let s : State := S0; ch < 128 ∧ let c := s.chan ch;
     let may := fun full len write => s.dmaReach (s.dmaWho ch) full len write = true; s.movesOn ch = true ∧
     c.busy = true ∧ c.rd = none ∧ c.unacked = [] ∧ c.stopping = false ∧ c.phase = ChanPhase.move ∧ c.endSt = none ∧
     c.written = c.desc.len ∧ c.desc.wb = false ∧ c.desc.nextEn = true ∧ may c.desc.next 32 false ∧
     ∃ n, s.dmaSeq ch false = some n) ∧
    (let ch : Nat := 7; let s : State := S0; ch < 128 ∧ let c := s.chan ch; s.movesOn ch = true ∧ c.busy = true ∧
     c.rd = none ∧ c.unacked = [] ∧ c.stopping = false ∧ c.phase = ChanPhase.move ∧ ∃ st, c.endSt = some st ∧ st ≠ 0 ∧
     c.desc.wb = false) ∧
    (let ch : Nat := 9; let s : State := S0; ch < 128 ∧ let c := s.chan ch;
     let may := fun full len write => s.dmaReach (s.dmaWho ch) full len write = true; s.movesOn ch = true ∧
     c.busy = true ∧ c.rd = none ∧ c.unacked = [] ∧ c.stopping = false ∧ c.phase = ChanPhase.move ∧ c.endSt = none ∧
     c.written = c.desc.len ∧ c.desc.wb = true ∧ may (c.cur + 18) 1 true ∧ ∃ n, s.dmaSeq ch true = some n) := by
  refine ⟨?_, ?_, ?_, ⟨?_, ?_, ?_, ?_, ?_, ?_, ?_, ?_, _, rfl⟩, ?_, ?_, ?_, ?_, ?_, ⟨?_, ?_, ?_, ?_, ?_, ?_, ?_, ?_,
    ?_, ?_, ?_, ?_, _, rfl⟩, ⟨?_, ?_, ?_, ?_, ?_, ?_, ?_, _, rfl, ?_, ?_⟩, ⟨?_, ?_, ?_, ?_, ?_, ?_, ?_, ?_, ?_, ?_,
    ?_, _, rfl⟩⟩ <;> decide +kernel

theorem test_witness_EventRouter :
    (let n : Nat := 31; let s : State := S1; n < 512 ∧ s.running = true ∧ reservedSource n = true) ∧
    (let n : Nat := 100; let s : State := S1; n < 512 ∧ s.running = true ∧ reservedSource n = false ∧
     (¬(s.dbgBlock.trigEn = true ∧ s.dbgBlock.trigSrc = n)) ∧ let v := s.src n; v.act = true ∧ v.retry = true ∧
     200 ≤ s.now - v.resentAt ∧ v.sentKind = 1 ∧ 1000000 ≤ s.now - v.sentAt ∧ n ≠ 17) ∧
    (let n : Nat := 104; let s : State := S1; n < 512 ∧ s.running = true ∧ reservedSource n = false ∧
     s.dbgBlock.trigEn = true ∧ s.dbgBlock.trigSrc = n ∧ s.dbgBlock.frost = false ∧ s.dbgBlock.wantFrost = []) ∧
    (let n : Nat := 5; let s : State := S1; n < 512 ∧ s.running = true ∧ let v := s.src n; let h := s.hold (n / 16);
     v.pend = true ∧ v.act = false ∧ h.start = none ∧ (h.us = 0 ∨ s.nextInGroup n = true) ∧
     s.dbgBlock.traceCtl.getLsbD 1 = false) ∧
    (let n : Nat := 100; let s : State := opens [5, 6] S1; n < 512 ∧ s.running = true ∧ let v := s.src n;
     v.act = true ∧ v.sentKind = 1 ∧
     let r : Resp := {kind := .done, dstPhys := 0x7FF, dstId := 0x400, tag := 0, cap := 0, status := 0, data := [100,0], badCrc := false};
     r ∈ s.replies ∧ r.kind = RespKind.done ∧ r.dstPhys = 2047 ∧ r.dstId = 1024 ∧ r.data = leBytes n 2 ∧
     let g : Nat := 6; let w : Nat := 3; let master : Nat := 5; let v : W32 := 0; g < 32 ∧ w < 16 ∧
     let writes := fun a => s.reaches (s.whoIs master) a 4 true = true; let x := s.src n;
     let kind := BitVec.toNat v / 2 ^ 30;
     let open_ := if n < 32 ∨ 80 ≤ n ∧ n < 96 then master = 1024 else if 508 ≤ n then master = 1024 ∨ master = 1027 else True;
     let owns := x.owner = 1279 ∨ x.owner = master ∨ master = 1024; let tile := BitVec.toNat v / 2 ^ 16 % 1024;
     let line := BitVec.toNat v / 256 % 8; let vector := BitVec.toNat v % 64;
     let wellFormed := BitVec.toNat v = kind * 2 ^ 30 + tile * 2 ^ 16 + line * 256 + vector ∧ (kind ≠ 1 → tile = 0 ∧ line = 0) ∧ (kind ≠ 3 → vector = 0);
     writes (268570624 + 8 * n) ∧ open_ ∧ owns ∧ wellFormed ∧ writes (268567552 + 4 * w) ∧
     writes (268566656 + 4 * g) ∧
     (if g = 0 ∨ g = 1 ∨ g = 5 then master = 1024 else if g = 31 then master = 1024 ∨ master = 1027 else True)) ∧
    (let n : Nat := 101; let s : State := S1; n < 512 ∧ s.running = true ∧ let v := s.src n; v.act = true ∧
     v.sentKind = 2 ∧ s.mgmt.up = true ∧ s.mgmt.restarting = false) ∧
    (let n : Nat := 102; let s : State := S1; n < 512 ∧ s.running = true ∧ let v := s.src n; v.act = true ∧
     v.sentKind = 3) ∧
    (let n : Nat := 103; let g : Nat := 6; let w : Nat := 3; let s : State := S1; n < 512 ∧ g < 32 ∧ w < 16 ∧
     let h := s.hold g; ∃ t0, h.start = some t0 ∧ h.us ≤ (s.now - t0) / 200 ∧ s.running = true) ∧
    (let n : Nat := 7; let g : Nat := 6; let w : Nat := 3; let master : Nat := 5; let s : State := opens [5, 6] S1;
     n < 512 ∧ g < 32 ∧ w < 16 ∧ let writes := fun a => s.reaches (s.whoIs master) a 4 true = true;
     let open_ := if n < 32 ∨ 80 ≤ n ∧ n < 96 then master = 1024 else if 508 ≤ n then master = 1024 ∨ master = 1027 else True;
     writes (268570624 + 8 * n) ∧ ¬open_) ∧
    (let n : Nat := 200; let g : Nat := 6; let w : Nat := 3; let master : Nat := 5; let v : W32 := 0x40070304;
     let s : State := opens [5, 6] S1; n < 512 ∧ g < 32 ∧ w < 16 ∧
     let writes := fun a => s.reaches (s.whoIs master) a 4 true = true; let x := s.src n;
     let kind := BitVec.toNat v / 2 ^ 30;
     let open_ := if n < 32 ∨ 80 ≤ n ∧ n < 96 then master = 1024 else if 508 ≤ n then master = 1024 ∨ master = 1027 else True;
     let owns := x.owner = 1279 ∨ x.owner = master ∨ master = 1024; let tile := BitVec.toNat v / 2 ^ 16 % 1024;
     let line := BitVec.toNat v / 256 % 8; let vector := BitVec.toNat v % 64;
     let wellFormed := BitVec.toNat v = kind * 2 ^ 30 + tile * 2 ^ 16 + line * 256 + vector ∧ (kind ≠ 1 → tile = 0 ∧ line = 0) ∧ (kind ≠ 3 → vector = 0);
     writes (268570624 + 8 * n) ∧ open_ ∧ (¬(owns ∧ wellFormed))) := by
  refine ⟨?_, ?_, ?_, ?_, ?_, ?_, ?_, ⟨?_, ?_, ?_, _, rfl, ?_, ?_⟩, ?_, ?_⟩ <;> decide +kernel

end DmaRouter

end Sys2Proof.Tests
end

