-- ==== Sys2Proof/Tests/WitnessPorts.lean ====
section
/-! SUPPORT. Witnesses: for the statements on the feed, host and service ports, concrete states and operands that meet the hypotheses of
each clause together. -/

set_option maxRecDepth 100000
set_option linter.unusedVariables false

namespace Sys2Proof.Tests
open Sys2Proof Sys2Proof.Machine Sys2Proof.Safety

set_option Elab.async false

namespace FeedRows

def S0 : State :=
  { State.reset with now := 900000000000, boot := {State.reset.boot with bootRec := {device := 129}} }
def F (v : Feed) (s : State := S0) : State := s.setFeed 2 v
def B (n : Nat) : List Sys2Proof.Byte := (List.range n).map fun i => BitVec.ofNat 8 (i*7+3)
def K (n : Nat) : Frame := ⟨B n, true, false⟩
def R1 (d : Nat) : Rule :=
  { dest := d, stream := 2, queue := 9, lineOff := 1, offOff := 60, idOff := 0xFF, payOff := 20,
    templ := [3,10], mask := [255,255] }
def Q (q : Queue) (s : State) : State := s.setQueue 9 q

theorem test_witness_FeedPorts :
    (let f : Nat := 2; let s : State := (F {}); f < 4 ∧ let v := s.feed f; v.up = false ∧ s.running = true ∧
     s.faults.backupOsc = false ∧ v.turnAt + 400000 ≤ s.now ∧ let fast : Bool := true; v.fast = fast) ∧
    (let f : Nat := 2; let s : State := F {turnAt := 900000000000 - 399999}; f < 4 ∧ let v := s.feed f; v.up = false ∧
     s.running = true ∧ s.faults.backupOsc = false ∧ s.now < v.turnAt + 400000) ∧
    (let f : Nat := 2;
     let s : State := F {up := true, heldPush := some (9, 5), fifo := [(List.replicate 65536 0, {sec := 5})]} (Q {give := true, owner := 7, fill := List.replicate 32 1} S0);
     f < 4 ∧ let v := s.feed f; v.up = true ∧ s.running = true ∧
     65536 ≤ (List.map (fun e => e.fst.length) v.fifo).sum ∧ s.feedRetry f = s) ∧
    (let f : Nat := 2; let k : Frame := (K 63); let s : State := (F {up := true}); f < 4 ∧ let v := s.feed f;
     let len := k.bytes.length; v.up = true ∧ s.running = true ∧ v.heldPush = none ∧ v.fifo = [] ∧ len < 64) ∧
    (let f : Nat := 2; let k : Frame := (K 2033); let s : State := (F {up := true}); f < 4 ∧ let v := s.feed f;
     let len := k.bytes.length; v.up = true ∧ s.running = true ∧ v.heldPush = none ∧ v.fifo = [] ∧ 2032 < len) ∧
    (let f : Nat := 2; let k : Frame := {K 64 with fcsOk := false}; let s : State := (F {up := true}); f < 4 ∧
     let v := s.feed f; let len := k.bytes.length; v.up = true ∧ s.running = true ∧ v.heldPush = none ∧ v.fifo = [] ∧
     64 ≤ len ∧ len ≤ 2032 ∧ k.fcsOk = false) ∧
    (let f : Nat := 2; let k : Frame := {K 64 with pause := true}; let s : State := (F {up := true}); f < 4 ∧
     let v := s.feed f; let len := k.bytes.length; v.up = true ∧ s.running = true ∧ v.heldPush = none ∧ v.fifo = [] ∧
     64 ≤ len ∧ len ≤ 2032 ∧ k.fcsOk = true ∧ k.pause = true) ∧
    (let f : Nat := 2; let k : Frame := (K 64); let s : State := (F {up := true} {S0 with pool := {fresh := 2048}});
     f < 4 ∧ let v := s.feed f; let len := k.bytes.length; v.up = true ∧ s.running = true ∧ v.heldPush = none ∧
     v.fifo = [] ∧ 64 ≤ len ∧ len ≤ 2032 ∧ k.fcsOk = true ∧ k.pause = false ∧ s.dbgBlock.trigEn = false ∧
     Memory.wf 0 s.bufMem = true ∧ PoolSound s.pool ∧ (s.take (1072 + f)).snd = none) ∧
    (let f : Nat := 2; let k : Frame := (K 70); let s : State := (F {up := true}); f < 4 ∧ let v := s.feed f;
     let len := k.bytes.length; let rule := fun i => tget { } i v.rules; let byte := fun i => k.bytes[i]?.getD 0;
     let hits := fun r => r.dest ≠ 0 ∧ ∀ (i : Nat), i < 64 → byte i &&& r.mask[i]?.getD 0 = r.templ[i]?.getD 0;
     v.up = true ∧ s.running = true ∧ v.heldPush = none ∧ v.fifo = [] ∧ 64 ≤ len ∧ len ≤ 2032 ∧ k.fcsOk = true ∧
     k.pause = false ∧ s.dbgBlock.trigEn = false ∧ Memory.wf 0 s.bufMem = true ∧ PoolSound s.pool ∧
     ∃ h, (s.take (1072 + f)).snd = some h ∧ (∀ (i : Nat), i < 16 → ¬hits (rule i)) ∧ s.mgmt.up = true ∧
     s.mgmt.restarting = false) ∧
    (let f : Nat := 2; let n : Nat := 5; let k : Frame := (K 70);
     let s : State := (F {up := true, rules := [(5, R1 1)]}); f < 4 ∧ let v := s.feed f; let len := k.bytes.length;
     let rule := fun i => tget { } i v.rules; let byte := fun i => k.bytes[i]?.getD 0;
     let hits := fun r => r.dest ≠ 0 ∧ ∀ (i : Nat), i < 64 → byte i &&& r.mask[i]?.getD 0 = r.templ[i]?.getD 0;
     let first := fun i => i < 16 ∧ hits (rule i) ∧ ∀ (j : Nat), j < i → ¬hits (rule j); v.up = true ∧
     s.running = true ∧ v.heldPush = none ∧ v.fifo = [] ∧ 64 ≤ len ∧ len ≤ 2032 ∧ k.fcsOk = true ∧ k.pause = false ∧
     s.dbgBlock.trigEn = false ∧ Memory.wf 0 s.bufMem = true ∧ PoolSound s.pool ∧
     ∃ h, (s.take (1072 + f)).snd = some h ∧ first n ∧ (rule n).dest = 1) ∧
    (let f : Nat := 2; let n : Nat := 5; let k : Frame := (K 70);
     let s : State := (Q {give := true, owner := 7} (F {up := true, rules := [(5, R1 2)]})); f < 4 ∧
     let v := s.feed f; let len := k.bytes.length; let rule := fun i => tget { } i v.rules;
     let byte := fun i => k.bytes[i]?.getD 0;
     let hits := fun r => r.dest ≠ 0 ∧ ∀ (i : Nat), i < 64 → byte i &&& r.mask[i]?.getD 0 = r.templ[i]?.getD 0;
     let first := fun i => i < 16 ∧ hits (rule i) ∧ ∀ (j : Nat), j < i → ¬hits (rule j); v.up = true ∧
     s.running = true ∧ v.heldPush = none ∧ v.fifo = [] ∧ 64 ≤ len ∧ len ≤ 2032 ∧ k.fcsOk = true ∧ k.pause = false ∧
     s.dbgBlock.trigEn = false ∧ Memory.wf 0 s.bufMem = true ∧ PoolSound s.pool ∧
     ∃ h, (s.take (1072 + f)).snd = some h ∧ first n ∧ (rule n).dest = 2 ∧ let q := (rule n).queue;
     let b := s.queue q; b.give = true ∧ b.owner < 1024 ∧ b.fill.length < 32) ∧
    (let f : Nat := 2; let n : Nat := 5; let k : Frame := (K 70);
     let s : State := (Q {give := true, owner := 7, drain := [5], fill := List.replicate 32 5} (F {up := true, rules := [(5, R1 2)]}));
     f < 4 ∧ let v := s.feed f; let len := k.bytes.length; let rule := fun i => tget { } i v.rules;
     let byte := fun i => k.bytes[i]?.getD 0;
     let hits := fun r => r.dest ≠ 0 ∧ ∀ (i : Nat), i < 64 → byte i &&& r.mask[i]?.getD 0 = r.templ[i]?.getD 0;
     let first := fun i => i < 16 ∧ hits (rule i) ∧ ∀ (j : Nat), j < i → ¬hits (rule j); v.up = true ∧
     s.running = true ∧ v.heldPush = none ∧ v.fifo = [] ∧ 64 ≤ len ∧ len ≤ 2032 ∧ k.fcsOk = true ∧ k.pause = false ∧
     s.dbgBlock.trigEn = false ∧ Memory.wf 0 s.bufMem = true ∧ PoolSound s.pool ∧
     ∃ h, (s.take (1072 + f)).snd = some h ∧ first n ∧ (rule n).dest = 2 ∧ let q := (rule n).queue;
     let b := s.queue q; b.give = true ∧ b.owner < 1024 ∧ b.drain ≠ [] ∧ b.fill.length = 32) ∧
    (let f : Nat := 2; let n : Nat := 5; let k : Frame := (K 70);
     let s : State := (F {up := true, rules := [(4, {R1 1 with templ := [4,10]}), (5, R1 2)]}); f < 4 ∧
     let v := s.feed f; let len := k.bytes.length; let rule := fun i => tget { } i v.rules;
     let byte := fun i => k.bytes[i]?.getD 0;
     let hits := fun r => r.dest ≠ 0 ∧ ∀ (i : Nat), i < 64 → byte i &&& r.mask[i]?.getD 0 = r.templ[i]?.getD 0;
     let first := fun i => i < 16 ∧ hits (rule i) ∧ ∀ (j : Nat), j < i → ¬hits (rule j); v.up = true ∧
     s.running = true ∧ v.heldPush = none ∧ v.fifo = [] ∧ 64 ≤ len ∧ len ≤ 2032 ∧ k.fcsOk = true ∧ k.pause = false ∧
     s.dbgBlock.trigEn = false ∧ Memory.wf 0 s.bufMem = true ∧ PoolSound s.pool ∧
     ∃ h, (s.take (1072 + f)).snd = some h ∧ first n ∧ (rule n).dest = 2 ∧ let q := (rule n).queue;
     let b := s.queue q; (b.give = false ∨ b.owner = 1279)) := by
  refine ⟨?_, ?_, ?_, ?_, ?_, ?_, ?_, ?_, ⟨?_, ?_, ?_, ?_, ?_, ?_, ?_, ?_, ?_, ?_, ?_, ?_, _, rfl, ?_, ?_, ?_⟩, ⟨?_,
    ?_, ?_, ?_, ?_, ?_, ?_, ?_, ?_, ?_, ?_, ?_, _, rfl, ?_, ?_⟩, ⟨?_, ?_, ?_, ?_, ?_, ?_, ?_, ?_, ?_, ?_, ?_, ?_, _,
    rfl, ?_, ?_, ?_, ?_, ?_⟩, ⟨?_, ?_, ?_, ?_, ?_, ?_, ?_, ?_, ?_, ?_, ?_, ?_, _, rfl, ?_, ?_, ?_, ?_, ?_, ?_⟩, ⟨?_,
    ?_, ?_, ?_, ?_, ?_, ?_, ?_, ?_, ?_, ?_, ?_, _, rfl, ?_, ?_, ?_⟩⟩ <;> decide +kernel

end FeedRows

namespace HostRows

def S0 : State :=
  { State.reset with now := 900000000000, boot := {State.reset.boot with bootRec := {device := 129}} }
def B (n : Nat) : List Sys2Proof.Byte := (List.range n).map fun i => BitVec.ofNat 8 (i*7+3)
def H (h : HostPort) (s : State := S0) : State := {s with host := h}
def W (w : List Window) (s : State := S0) : State := {s with mgmt := {s.mgmt with windows := w}}
def V (v : Service) (s : State := S0) : State := {s with service := v}
def w0 : Window := ⟨3, 0x401, 129, true, 1, 129 * 2^34 + 2^32 + 0x1000000, 0x100, false, []⟩
def rq : Msg :=
  {kind := .read, len := 4, srcId := 0x401, srcPhys := 0x7FF, srcDev := 129, tag := 7, cap := 0, chk := false, dev := 129,
   space := 1, addr := 0x1000000, data := [], badCrc := false}
def hd (n : Nat) : List Sys2Proof.Byte := [1,0,0x34,2] ++ leBytes n 2 ++ List.replicate 10 0 ++ B n

theorem test_witness_HostAndServicePorts :
    (let off : Nat := 0x44; let s : State := (H {linkUp := true}); s.power.st = PState.run ∧
     s.dbgBlock.trigEn = false ∧ let h := s.host;
     let room := (List.filter (fun q => q.msg.kind == MsgKind.read) h.outs).length < 32; h.linkUp = true ∧
     h.d3hot = false ∧ room ∧ off < 2048 ∧ off % 4 = 0 ∧ off < 4096 ∧ let n : Nat := 1;
     let bytes : List Byte := [1,0,0,0]; n < 2 ∧ bytes.length = 4 ∧ let gen : Nat := 4; s.mgmt.windows = [] ∧
     1 ≤ gen ∧ gen ≤ 512 ∧ off + gen ≤ 268435456 ∧ 1 ≤ bytes.length ∧ bytes.length ≤ 256 ∧
     off + bytes.length ≤ 268435456 ∧ n < 64 ∧
     (¬n ∈ h.pba ∨ h.msix = false ∨ h.fmask = true ∨ h.bme = false ∨ ¬n ∈ h.unmasked) ∧ let width : Nat := 2;
     gen ≤ 4 ∧ (width = 1 ∨ width = 2 ∨ width = 4) ∧ s.faults.held = [] ∧
     (h.linkUp = false ∨ h.gen ≠ gen ∨ h.width ≠ width) ∧ let on : Bool := true; h.d3hot ≠ on ∧ let v := s.service;
     v.vbus = false) ∧
    (let gen : Nat := 4; let off : Nat := 0x1FFC;
     let s : State := (H {linkUp := true, gen := 4, width := 2, unmasked := [1], pba := [1], msix := true, bme := true});
     s.power.st = PState.run ∧ s.dbgBlock.trigEn = false ∧ let h := s.host;
     let room := (List.filter (fun q => q.msg.kind == MsgKind.read) h.outs).length < 32; h.linkUp = true ∧
     h.d3hot = false ∧ 2560 ≤ off ∧ (off + gen ≤ 8192 ∨ 24576 ≤ off) ∧ 1 ≤ gen ∧ gen ≤ 512 ∧ off + gen ≤ 65536 ∧
     room ∧ let bytes : List Byte := [2,0,0,0]; gen ≤ 256 ∧ bytes.length = gen ∧ let n : Nat := 1; n < 64 ∧
     n ∈ h.pba ∧ h.msix = true ∧ h.fmask = false ∧ h.bme = true ∧ n ∈ h.unmasked ∧ s.faults.held = [] ∧
     let width : Nat := 2; gen ≤ 4 ∧ (width = 1 ∨ width = 2 ∨ width = 4) ∧ h.gen = gen ∧ h.width = width) ∧
    (let s : State := H {linkUp := true, outs := List.replicate 32 ⟨rq, 5, 0, 8, 0, 0⟩}; s.power.st = PState.run ∧
     s.dbgBlock.trigEn = false ∧ let h := s.host;
     let room := (List.filter (fun q => q.msg.kind == MsgKind.read) h.outs).length < 32; h.linkUp = true ∧
     h.d3hot = false ∧ ¬room) ∧
    (let n : Nat := 1; let gen : Nat := 4; let off : Nat := 0x10;
     let s : State := (W [w0, {w0 with num := 4, slot := 2}] ({(H {linkUp := true} (S0.setMbx 1 {st := 2})) with flight := [rq]}));
     s.power.st = PState.run ∧ s.dbgBlock.trigEn = false ∧ let h := s.host;
     let room := (List.filter (fun q => q.msg.kind == MsgKind.read) h.outs).length < 32; h.linkUp = true ∧
     h.d3hot = false ∧ ∃ w, s.mgmt.windows.head? = some w ∧ w.master = 1025 ∧ w.dev = s.device ∧ w.closing = false ∧
     w.slot = n ∧ off + gen ≤ w.size ∧ w.size ≤ 8388608 ∧ n < 32 ∧ 1 ≤ gen ∧ gen ≤ 256 ∧ room ∧ off < 8388608 ∧
     h.newTag ≠ none ∧ let bytes : List Byte := [2,0,0,1]; bytes.length = gen ∧ w.rw = true ∧
     let c : FlrCause := FlrCause.hotReset; c ≠ FlrCause.linkDown) ∧
    (let n : Nat := 1; let gen : Nat := 4; let off : Nat := 0xFC; let bytes : List Byte := [2,0,0,1];
     let s : State := (W [{w0 with rw := false}] (H {linkUp := true})); s.power.st = PState.run ∧
     s.dbgBlock.trigEn = false ∧ let h := s.host; h.linkUp = true ∧ h.d3hot = false ∧
     ∃ w, s.mgmt.windows.head? = some w ∧ w.master = 1025 ∧ w.dev = s.device ∧ w.closing = false ∧ w.slot = n ∧
     off + gen ≤ w.size ∧ w.size ≤ 8388608 ∧ n < 32 ∧ 1 ≤ gen ∧ gen ≤ 256 ∧ off < 8388608 ∧ bytes.length = gen ∧
     w.rw = false ∧ (∀ (y : Window), y ∈ s.mgmt.windows → y.slot = n → y = w)) ∧
    (let n : Nat := 63; let gen : Nat := 2; let bytes : List Byte := B 4;
     let s : State := H {linkUp := true, table := [(5, 3)]}; s.power.st = PState.run ∧ s.dbgBlock.trigEn = false ∧
     let h := s.host; let room := (List.filter (fun q => q.msg.kind == MsgKind.read) h.outs).length < 32;
     h.linkUp = true ∧ h.d3hot = false ∧ n < 64 ∧ gen < 3 ∧ bytes.length = 4 ∧ Memory.wf 0 h.table = true ∧ room) ∧
    (let gen : Nat := 256; let off : Nat := 0x20; let s : State := H {linkUp := true, d3hot := true};
     s.power.st = PState.run ∧ s.dbgBlock.trigEn = false ∧ let h := s.host;
     let room := (List.filter (fun q => q.msg.kind == MsgKind.read) h.outs).length < 32; h.linkUp = true ∧
     h.d3hot = true ∧ 1 ≤ gen ∧ gen ≤ 512 ∧ off + gen ≤ 65536 ∧ room ∧ let bytes : List Byte := B 256;
     bytes.length = gen ∧ gen ≤ 256) ∧
    (let s : State := (V {vbus := true, configured := true, kept := [1]} {S0 with dbgBlock := {S0.dbgBlock with svc := {granted := 3, level := 2}}});
     s.power.st = PState.run ∧ s.dbgBlock.trigEn = false ∧ let h := s.host; h.linkUp = false ∧
     let bytes : List Byte := (hd 5 ++ [1]); let v := s.service; v.vbus = true ∧ s.faults.held = [] ∧
     v.configured = true ∧ v.suspended = false ∧ (s.mbx 2).busy = false ∧
     (bytes.length < 16 ∨ bytes.length ≠ 16 + leAt bytes 4 2) ∧ let on : Bool := false; v.suspended = on) ∧
    (let bytes : List Byte := (hd 5); let s : State := (V {vbus := true, configured := true});
     s.power.st = PState.run ∧ s.dbgBlock.trigEn = false ∧ let v := s.service; v.vbus = true ∧ s.faults.held = [] ∧
     v.configured = true ∧ v.suspended = false ∧ (s.mbx 2).busy = false ∧ 16 ≤ bytes.length ∧
     bytes.length = 16 + leAt bytes 4 2 ∧ bytes.length ≤ 4096 ∧ Memory.wf 0 (s.mbx 2).cmd = true) ∧
    (let s : State := (V {vbus := true, configured := true, suspended := true} (S0.setMbx 2 {st := 2, tag := 5}));
     s.power.st = PState.run ∧ s.dbgBlock.trigEn = false ∧ let v := s.service; v.vbus = true ∧ s.faults.held = [] ∧
     (s.mbx 2).busy = true ∧ let on : Bool := false; v.suspended ≠ on) ∧
    (let s : State := V {vbus := true} {S0 with faults := {S0.faults with held := [.sendOff]}};
     s.power.st = PState.run ∧ s.dbgBlock.trigEn = false ∧ let v := s.service; v.vbus = true ∧ s.faults.held ≠ []) ∧
    (let s : State := V {vbus := false} {S0 with faults := {S0.faults with held := [.sendOff]}};
     s.power.st = PState.run ∧ s.dbgBlock.trigEn = false ∧ let v := s.service; v.vbus = false ∧ s.faults.held ≠ []) := by
  refine ⟨?_, ?_, ?_, ⟨?_, ?_, ?_, ?_, _, rfl, ?_, ?_, ?_, ?_, ?_, ?_, ?_, ?_, ?_, ?_, ?_, ?_, ?_, ?_, ?_⟩, ⟨?_, ?_,
    ?_, ?_, _, rfl, ?_, ?_, ?_, ?_, ?_, ?_, ?_, ?_, ?_, ?_, ?_, ?_, ?_⟩, ?_, ?_, ?_, ?_, ?_, ?_, ?_⟩ <;> decide
    +kernel

end HostRows

end Sys2Proof.Tests
end

