-- ==== Sys2Proof/Tests/WitnessPower.lean ====
section
/-! SUPPORT. Witnesses: for the statements on power states, concrete states and operands that meet the hypotheses of
each clause together. -/

set_option maxRecDepth 100000
set_option linter.unusedVariables false

namespace Sys2Proof.Tests
open Sys2Proof Sys2Proof.Machine Sys2Proof.Safety

set_option Elab.async false

namespace PowerStates

def S0 : State :=
  { State.reset with now := 900000000000, boot := {State.reset.boot with bootRec := {device := 129}} }
def X0 : DrizStep := ⟨7,0,0,0,0⟩
def D0 : Drizzle := {period := 40, slots := [(2, [8, 9, 10, 11], 0x41C00000, 0x130)], steps := [X0], pins := []}
def Z (st : PState) (f : Power → Power) : State := {S0 with power := f {st := st, ticks := 100000}}
def Zw (cfg : W32) (s : State) : State := {s with router := {s.router with wakeCfg := cfg}}
def banks (l : List Nat) (s : State) : State :=
  {s with fio := {s.fio with banks := l.map fun k => (k, {vio := 2, mv := 3300})}}
def ZD (x : DrizStep) (f : Power → Power) (l : List Nat) : State :=
  let s := banks l (Z .drizzle f); {s with aon := {s.aon with count := 80, sregs := [(3, 7)], drizzle := some {D0 with steps := [x]}}}
def T (x : DrizStep) : State := ZD x id [0,1,2,3,4,5]
def dd (x : DrizStep) : Drizzle := {D0 with steps := [x]}
def y1 : DrizStep := ⟨1,5,0,0,1⟩
def y2 : DrizStep := ⟨2,0,0,0,65535⟩
def y3 : DrizStep := ⟨3,5,1,0,0⟩
def y4 : DrizStep := ⟨4,0,1,2,0⟩
def y5 : DrizStep := ⟨5,3,1,0,0xFF⟩
def y6 (b : Nat) (a : W32): DrizStep := ⟨6,3,b,0,a⟩

theorem test_witness_PowerRows :
    (let n : Nat := 3; let k : Nat := 0; let rising : Bool := true; let s : State := (Zw 0x1FFFFF (Z .doldrums id));
     let pw := s.power; let cfg := s.router.wakeCfg; let cfgAt := fun k => BitVec.getLsbD cfg k; pw.st ≠ PState.run ∧
     pw.wake = none ∧ n < 4 ∧ cfgAt (2 * n + b2n !rising) = true ∧ cfgAt (16 + n) = true ∧ cfgAt 20 = true ∧ n < 512 ∧
     s.router.watch = []) ∧
    (let n : Nat := 3; let k : Nat := 0; let rising : Bool := true; let s : State := (Zw 0x0 (Z .doldrums id));
     let pw := s.power; let cfg := s.router.wakeCfg; let cfgAt := fun k => BitVec.getLsbD cfg k; pw.st ≠ PState.run ∧
     pw.wake = none ∧ n < 4 ∧ cfgAt (2 * n + b2n !rising) = false) ∧
    (let n : Nat := 2; let s : State := (((Z .doldrums id).setAlarm 2 {converted := true})); let pw := s.power;
     pw.st ≠ PState.run ∧ pw.wake = none ∧ n < 8 ∧ (s.alarm n).converted = true ∧ s.aon.oscStopped = false ∧
     (s.alarm n).target ≤ s.aonTime) ∧
    (let n : Nat := 400; let code : Nat := 5;
     let s : State := (let s := Z .doldrums id; {s with router := {s.router with watch := [(5, w32 (2^31+400))]}});
     let pw := s.power; pw.st ≠ PState.run ∧ pw.wake = none ∧ n < 512 ∧ code < 32 ∧
     s.router.watch = [(code, w32 (2 ^ 31 + n))] ∧ 396 ≤ n ∧ n < 492 ∧ pw.st ≠ PState.off ∧ ¬n ∈ pw.latched) ∧
    (let n : Nat := 2; let kind : Nat := 1; let code : Nat := 3;
     let s : State := (Z .drizzle fun p => {p with wake := some (1,3), race := 2, slept := 5, cycles := 9, overruns := 1});
     let pw := s.power; pw.st ≠ PState.run ∧ pw.wake = some (kind, code) ∧ n < 4 ∧ s.raceNow = 0 ∧
     s.dbgBlock.trigEn = false ∧ pw.latched = [] ∧ (pw.st = PState.doldrums ∨ pw.st = PState.drizzle)) ∧
    (let n : Nat := 3; let s : State := S0; let pw := s.power; pw.st = PState.run ∧ n < 4) ∧
    (let kind : Nat := 0; let code : Nat := 3;
     let s : State := (let s := Z .off fun p => {p with wake := some (0,3), ticks := 900000, slept := 5, cycles := 9, overruns := 1}; {s with aon := {s.aon with drizzle := some D0}});
     let pw := s.power; pw.wake = some (kind, code) ∧ s.raceNow = 0 ∧ s.dbgBlock.trigEn = false ∧ pw.latched = [] ∧
     pw.st = PState.off ∧ pw.emulated = false ∧ s.faults.held = []) ∧
    (let s : State := (ZD X0 (fun p => {p with inCycle := true, waitEnd := some 5, step := 0}) []); let pw := s.power;
     pw.inCycle = true ∧ pw.emulated = false ∧ let d : Drizzle := (dd X0); pw.st = PState.drizzle ∧ pw.wake = none ∧
     s.aon.drizzle = some d ∧ s.raceNow = 0 ∧ pw.nextCycle ≤ s.sleptNow ∧ ∃ w, pw.waitEnd = some w ∧ w ≤ pw.ticks ∧
     Option.all (fun y => y.op == 7) (List.drop pw.step d.steps).head? = true) ∧
    (let k : Nat := 2; let s : State := (Z .drizzle fun p => {p with engines := [(2, {ctl := 0x40000000})]});
     let pw := s.power; let v : Ser := {ctl := 0x40000000}; pw.engines = [(k, v)]) ∧
    (let d : Drizzle := {dd X0 with slots := [(2, [8, 9, 10, 11], 0x41C00000, 0x130), (255, [], 0, 0)]};
     let s : State := (let s := T X0; {s with aon := {s.aon with drizzle := some {dd X0 with slots := [(2, [8, 9, 10, 11], 0x41C00000, 0x130), (255, [], 0, 0)]}}});
     let pw := s.power; pw.st = PState.drizzle ∧ pw.wake = none ∧ s.aon.drizzle = some d ∧ let e : Nat := 2; e < 8 ∧
     let l : Nat × List Nat × W32 × W32 := (2, [8, 9, 10, 11], 0x41C00000, 0x130);
     let o : Nat × List Nat × W32 × W32 := (255, [], 0, 0); d.slots = [l, o] ∧ o.fst = 255 ∧ l.fst = e) ∧
    (let n : Nat := 0; let d : Drizzle := (dd y1); let s : State := (ZD y1 id [1,2,3]); let pw := s.power;
     pw.st = PState.drizzle ∧ pw.wake = none ∧ s.aon.drizzle = some d ∧ s.raceNow = 0 ∧ pw.nextCycle ≤ s.sleptNow ∧
     pw.inCycle = false ∧ n < 6 ∧ (∀ (b : Nat), b < n → (s.bank b).live = true) ∧ (s.bank n).live = false ∧
     (∃ q, q ∈ d.allPins ∧ q / 16 = n)) ∧
    (let d : Drizzle := (dd y1); let x : DrizStep := y1; let s : State := (T y1); let pw := s.power;
     pw.st = PState.drizzle ∧ pw.wake = none ∧ s.aon.drizzle = some d ∧ s.raceNow = 0 ∧ pw.nextCycle ≤ s.sleptNow ∧
     pw.inCycle = false ∧ (∀ (b : Nat), b < 6 → (s.bank b).live = true) ∧ d.steps.head? = some x ∧ x.op = 1) ∧
    (let d : Drizzle := (dd y2); let x : DrizStep := y2; let s : State := (T y2); let pw := s.power;
     pw.st = PState.drizzle ∧ pw.wake = none ∧ s.aon.drizzle = some d ∧ s.raceNow = 0 ∧ pw.nextCycle ≤ s.sleptNow ∧
     pw.inCycle = false ∧ (∀ (b : Nat), b < 6 → (s.bank b).live = true) ∧ d.steps.head? = some x ∧ x.op = 2) ∧
    (let d : Drizzle := (dd y3); let x : DrizStep := y3; let s : State := (T y3); let pw := s.power;
     pw.st = PState.drizzle ∧ pw.wake = none ∧ s.aon.drizzle = some d ∧ s.raceNow = 0 ∧ pw.nextCycle ≤ s.sleptNow ∧
     pw.inCycle = false ∧ (∀ (b : Nat), b < 6 → (s.bank b).live = true) ∧ d.steps.head? = some x ∧ x.op = 3) ∧
    (let n : Nat := 3; let k : Nat := 2; let d : Drizzle := dd y4; let x : DrizStep := y4;
     let rx : List (List Byte) := [[7, 8]]; let s : State := (T y4); let pw := s.power; pw.st = PState.drizzle ∧
     pw.wake = none ∧ s.aon.drizzle = some d ∧ s.raceNow = 0 ∧ pw.nextCycle ≤ s.sleptNow ∧ pw.inCycle = false ∧
     (∀ (b : Nat), b < 6 → (s.bank b).live = true) ∧ d.steps.head? = some x ∧ x.op = 4 ∧ ∃ bs, rx.head? = some bs ∧
     bs.length = x.n ∧ Option.map (fun x => x.fst) d.slots[x.a]? = some k) ∧
    (let d : Drizzle := (dd y5); let x : DrizStep := y5; let s : State := (T y5); let pw := s.power;
     pw.st = PState.drizzle ∧ pw.wake = none ∧ s.aon.drizzle = some d ∧ s.raceNow = 0 ∧ pw.nextCycle ≤ s.sleptNow ∧
     pw.inCycle = false ∧ (∀ (b : Nat), b < 6 → (s.bank b).live = true) ∧ d.steps.head? = some x ∧ x.op = 5) ∧
    (let d : Drizzle := (dd (y6 0 7)); let x : DrizStep := (y6 0 7); let s : State := (T (y6 0 7)); let pw := s.power;
     pw.st = PState.drizzle ∧ pw.wake = none ∧ s.aon.drizzle = some d ∧ let slot := tget 0 x.a s.aon.sregs;
     let holds := x.b % 4 = 0 ∧ BitVec.toInt x.arg < BitVec.toInt slot ∨ x.b % 4 = 1 ∧ BitVec.toInt slot < BitVec.toInt x.arg ∨ x.b % 4 = 2 ∧ slot ≠ x.arg ∨ x.b % 4 = 3 ∧ slot = x.arg;
     s.raceNow = 0 ∧ pw.nextCycle ≤ s.sleptNow ∧ pw.inCycle = false ∧ (∀ (b : Nat), b < 6 → (s.bank b).live = true) ∧
     d.steps.head? = some x ∧ x.op = 6 ∧ ¬holds) ∧
    (let d : Drizzle := (dd (y6 0 6)); let x : DrizStep := (y6 0 6); let s : State := (T (y6 0 6)); let pw := s.power;
     pw.st = PState.drizzle ∧ pw.wake = none ∧ s.aon.drizzle = some d ∧ let slot := tget 0 x.a s.aon.sregs;
     let holds := x.b % 4 = 0 ∧ BitVec.toInt x.arg < BitVec.toInt slot ∨ x.b % 4 = 1 ∧ BitVec.toInt slot < BitVec.toInt x.arg ∨ x.b % 4 = 2 ∧ slot ≠ x.arg ∨ x.b % 4 = 3 ∧ slot = x.arg;
     s.raceNow = 0 ∧ pw.nextCycle ≤ s.sleptNow ∧ pw.inCycle = false ∧ (∀ (b : Nat), b < 6 → (s.bank b).live = true) ∧
     d.steps.head? = some x ∧ x.op = 6 ∧ holds ∧ x.b < 128) ∧
    (let d : Drizzle := (dd (y6 131 7)); let x : DrizStep := (y6 131 7); let s : State := (T (y6 131 7));
     let pw := s.power; pw.st = PState.drizzle ∧ pw.wake = none ∧ s.aon.drizzle = some d ∧
     let slot := tget 0 x.a s.aon.sregs;
     let holds := x.b % 4 = 0 ∧ BitVec.toInt x.arg < BitVec.toInt slot ∨ x.b % 4 = 1 ∧ BitVec.toInt slot < BitVec.toInt x.arg ∨ x.b % 4 = 2 ∧ slot ≠ x.arg ∨ x.b % 4 = 3 ∧ slot = x.arg;
     s.raceNow = 0 ∧ pw.nextCycle ≤ s.sleptNow ∧ pw.inCycle = false ∧ (∀ (b : Nat), b < 6 → (s.bank b).live = true) ∧
     d.steps.head? = some x ∧ x.op = 6 ∧ holds ∧ 128 ≤ x.b ∧ x.b < 256) ∧
    (let d : Drizzle := (dd X0); let x : DrizStep := X0; let s : State := (T X0); let pw := s.power;
     pw.st = PState.drizzle ∧ pw.wake = none ∧ s.aon.drizzle = some d ∧ s.raceNow = 0 ∧ pw.nextCycle ≤ s.sleptNow ∧
     pw.inCycle = false ∧ (∀ (b : Nat), b < 6 → (s.bank b).live = true) ∧ d.steps.head? = some x ∧ x.op = 7) ∧
    (let d : Drizzle := (dd X0);
     let s : State := (ZD X0 (fun p => {p with inCycle := true, waitEnd := some 50000000, step := 1}) []);
     let pw := s.power; pw.st = PState.drizzle ∧ pw.wake = none ∧ s.aon.drizzle = some d ∧ pw.inCycle = true ∧
     ∃ w, pw.waitEnd = some w ∧ pw.ticks < w) := by
  refine ⟨?_, ?_, ?_, ?_, ?_, ?_, ?_, ⟨?_, ?_, ?_, ?_, ?_, ?_, ?_, _, rfl, ?_, ?_⟩, ?_, ?_, ?_, ?_, ?_, ?_, ⟨?_, ?_,
    ?_, ?_, ?_, ?_, ?_, ?_, ?_, _, rfl, ?_, ?_⟩, ?_, ?_, ?_, ?_, ?_, ⟨?_, ?_, ?_, ?_, _, rfl, ?_⟩⟩ <;> decide
    +kernel

end PowerStates

end Sys2Proof.Tests
end

