-- ==== Sys2Proof/Tests/WitnessQueues.lean ====
section
/-! SUPPORT. Witnesses: for the statements on queues, dispatchers and the pool, concrete states and operands that meet the hypotheses of
each clause together. -/

set_option maxRecDepth 100000
set_option linter.unusedVariables false

namespace Sys2Proof.Tests
open Sys2Proof Sys2Proof.Machine Sys2Proof.Safety

set_option Elab.async false

namespace QueueRows

def S0 : State :=
  { (State.reset.setTile 5 { run := .running, pc := 0x100, wb := some ⟨.data 3, 0x77⟩, cntOn := true, pcnt := 7 }) with
    queues := [
      (3, {line10 := true, owner := 5, drain := [1,2,3], fill := List.replicate 31 9, en := 7, sticky := 1}),
      (4, {line10 := true, owner := 5, en := 3}),
      (5, {drain := [1], fill := List.replicate 32 1, en := 31, tailLimit := 3, tailStart := some 10}),
      (280,{drain := [1], fill := List.replicate 32 1, en := 31}), (281, {en := 1}),
      (260, {fill := [2], tailSwap := true, tailLimit := 1, tailStart := some 0})]
    now := 10000 }

theorem test_witness_QueuePopsAndUpkeep :
    (let q : Nat := 260; let p : Nat := 5; let i : Nat := 5; let tag : Nat := 8; let s : State := opens [5, 7] S0;
     q < 304 ∧ let asker := s.askerWho (AskBy.access i p tag) s.device; let bench := 256 ≤ q ∧ q < 272; bench ∧
     i ≠ 1024 ∧ s.live = true ∧ s.genuine asker = true ∧ let o : Nat := 7; o ≠ 1024 ∧ s.genuine (s.whoIs o) = true) ∧
    (let q : Nat := 5; let p : Nat := 5; let s : State := opens [5, 7] S0; q < 304 ∧ let bench := 256 ≤ q ∧ q < 272;
     let v := s.queue q; let d := if v.drain = [] then v.fill else v.drain; let e : W32 := 1; let r : List W32 := [];
     d = e :: r ∧ ¬bench ∧ s.gated p = true ∧ let i : Nat := 5; let tag : Nat := 8;
     let asker := s.askerWho (AskBy.access i p tag) s.device;
     let mayPop := s.reaches asker (queueReg q 8) 8 false = true; mayPop ∧ storedRead v.lastReads i p tag = none) ∧
    (let q : Nat := 4; let p : Nat := 5; let s : State := S0; q < 304 ∧ let bench := 256 ≤ q ∧ q < 272;
     let v := s.queue q; let d := if v.drain = [] then v.fill else v.drain; d = [] ∧ ¬bench ∧ s.gated p = true) ∧
    (let q : Nat := 4; let p : Nat := 5; let i : Nat := 5; let tag : Nat := 8; let s : State := opens [5, 7] S0;
     q < 304 ∧ let asker := s.askerWho (AskBy.access i p tag) s.device;
     let mayPop := s.reaches asker (queueReg q 8) 8 false = true; let v := s.queue q;
     let d := if v.drain = [] then v.fill else v.drain; d = [] ∧ mayPop ∧ storedRead v.lastReads i p tag = none) ∧
    (let q : Nat := 3; let p : Nat := 5; let i : Nat := 5; let tag : Nat := 8;
     let s : State := opens [5, 7] (S0.setQueue 3 {S0.queue 3 with lastReads := [⟨5,5,8,0x55⟩]}); q < 304 ∧
     let asker := s.askerWho (AskBy.access i p tag) s.device;
     let mayPop := s.reaches asker (queueReg q 8) 8 false = true; let v := s.queue q; mayPop ∧
     ∃ word, storedRead v.lastReads i p tag = some word) ∧
    (let q : Nat := 260; let o : Nat := 0x400; let s : State := S0; q < 304 ∧
     s.reaches (s.whoIs o) (queueReg q 16) 4 true = true) ∧
    (let q : Nat := 5; let s : State := S0; q < 304 ∧ let v := s.queue q; s.live = true ∧
     ∃ t0, v.tailStart = some t0 ∧ v.tailLimit ≠ 0 ∧ v.tailLimit ≤ (s.now - t0) / 200) := by
  refine ⟨?_, ?_, ?_, ?_, ⟨?_, ?_, _, rfl⟩, ?_, ⟨?_, ?_, _, rfl, ?_, ?_⟩⟩ <;> decide +kernel

theorem test_witness_QueuePushes :
    (let q : Nat := 303; let o : Nat := 0x4FF; q < 304 ∧ inOwnerTable o = false) ∧
    (let q : Nat := 3; let p : Nat := 5; let s : State := opens [5, 7] S0; q < 304 ∧ let v := s.queue q;
     let empty := v.fill = [] ∧ v.drain = []; let room := empty ∨ v.fill.length < 32; q < 256 ∧ room ∧
     s.gated p = true ∧ let o : Nat := 7; let may := fun o => s.reaches (s.whoIs o) (queueReg q 0) 4 true = true;
     may o) ∧
    (let q : Nat := 5; let p : Nat := 5; let s : State := opens [5, 7] S0; q < 304 ∧ let v := s.queue q;
     let empty := v.fill = [] ∧ v.drain = []; let room := empty ∨ v.fill.length < 32; q < 256 ∧ ¬room ∧
     s.gated p = true ∧ let o : Nat := 7; let may := fun o => s.reaches (s.whoIs o) (queueReg q 0) 4 true = true;
     may o) ∧
    (let q : Nat := 260; let o : Nat := 7; let s : State := S0; q < 304 ∧
     let may := fun o => s.reaches (s.whoIs o) (queueReg q 0) 4 true = true; let v := s.queue q;
     let empty := v.fill = [] ∧ v.drain = []; let room := empty ∨ v.fill.length < 32; 256 ≤ q ∧ may 1024 ∧ room ∧
     o ≠ 1024 ∧ q < 272 ∧ s.live = true ∧ s.genuine (s.whoIs o) = true ∧ v.give = false ∧ inOwnerTable o = true) ∧
    (let q : Nat := 280; let o : Nat := 7; let s : State := opens [5, 7] S0; q < 304 ∧
     let may := fun o => s.reaches (s.whoIs o) (queueReg q 0) 4 true = true; let v := s.queue q;
     let empty := v.fill = [] ∧ v.drain = []; let room := empty ∨ v.fill.length < 32; 256 ≤ q ∧ may 1024 ∧ ¬room ∧
     o ≠ 1024 ∧ 272 ≤ q ∧ may o ∧ let p : Nat := 5; s.gated p = true) := by
  refine ⟨?_, ?_, ?_, ?_, ?_⟩ <;> decide +kernel

end QueueRows

namespace DispRows

def S0 : State :=
  { (State.reset.setTile 5 { run := .running, pc := 0x100, wb := some ⟨.data 3, 0x77⟩, cntOn := true, pcnt := 7 }) with
    pool := {owner := [(0,5),(7,9)], gen := [(0,1),(3,4)], fresh := 100, reserve := 5}
    now := 5000 }
def S1 : State :=
  { S0 with
    pool := {owner := [(0,5),(7,9)], gen := [(0,1),(3,4)], fresh := 2048, freed := [4,3,2], reserve := 5} }
def D0 : State :=
  { S0 with
    disps := [
      (0, {en := true, tiles := 0xFFFF, slots := [(1, {st := .idle}), (2, {st := .running, tile := 5}), (3, {st := .cancelling, tile := 5, cancelLimit := 10, cancelAt := 3}), (4, {st := .ready, prio := 2}),(6, {st := .running, tile := 7, again := true})]})] }

theorem test_witness_DispatcherOperations :
    (let c : Nat := 0; let n : Nat := 9; let p : Nat := 5; let i : Nat := 5; let tag : Nat := 8;
     let s : State := opens [5] D0; c < 16 ∧ n < 256 ∧ s.gated p = true ∧
     s.reaches (s.askerWho (AskBy.access i p tag) s.device) (dispReg c 80) 4 true = true ∧
     s.reaches (s.askerWho (AskBy.access i p tag) s.device) (dispReg c 84) 4 true = true ∧ let d := s.disp c;
     let v := d.slot n; (v.st = SlotState.unset ∨ v.st = SlotState.cancelling)) ∧
    (let c : Nat := 0; let n : Nat := 1; let p : Nat := 5; let i : Nat := 5; let tag : Nat := 8;
     let s : State := opens [5] D0; c < 16 ∧ n < 256 ∧ s.gated p = true ∧
     s.reaches (s.askerWho (AskBy.access i p tag) s.device) (dispReg c 80) 4 true = true ∧
     s.reaches (s.askerWho (AskBy.access i p tag) s.device) (dispReg c 84) 4 true = true ∧ let d := s.disp c;
     let v := d.slot n; v.st = SlotState.idle) ∧
    (let c : Nat := 0; let n : Nat := 2; let p : Nat := 5; let i : Nat := 5; let tag : Nat := 8;
     let s : State := opens [5] D0; c < 16 ∧ n < 256 ∧ s.gated p = true ∧
     s.reaches (s.askerWho (AskBy.access i p tag) s.device) (dispReg c 80) 4 true = true ∧
     s.reaches (s.askerWho (AskBy.access i p tag) s.device) (dispReg c 84) 4 true = true ∧ let d := s.disp c;
     let v := d.slot n; v.st = SlotState.running ∧ ∃ k, s.identOf p = some k ∧ k / 64 = c ∧ d.runs (k % 64) = some n) ∧
    (let c : Nat := 0; let n : Nat := 4; let p : Nat := 5; let i : Nat := 5; let tag : Nat := 8;
     let s : State := opens [5] D0; c < 16 ∧ n < 256 ∧ s.gated p = true ∧
     s.reaches (s.askerWho (AskBy.access i p tag) s.device) (dispReg c 80) 4 true = true ∧
     s.reaches (s.askerWho (AskBy.access i p tag) s.device) (dispReg c 84) 4 true = true ∧ let d := s.disp c;
     let v := d.slot n; let ready := Instr.dispReady c n { asker := AskBy.access i p tag, beaten := false };
     v.st = SlotState.ready) ∧
    (let c : Nat := 0; let n : Nat := 4; let p : Nat := 5; let i : Nat := 5; let tag : Nat := 8;
     let s : State := opens [5] ((D0.setTile 0 {run := .running}).setDisp 0 {en := true, tiles := 1, slots := [(4, {st := .ready, prio := 2})]});
     c < 16 ∧ n < 256 ∧ s.gated p = true ∧
     s.reaches (s.askerWho (AskBy.access i p tag) s.device) (dispReg c 80) 4 true = true ∧
     s.reaches (s.askerWho (AskBy.access i p tag) s.device) (dispReg c 84) 4 true = true ∧ let d := s.disp c;
     d.en = true ∧ s.dbgBlock.frost = false ∧ s.running = true ∧ ∃ a, s.pick c = some a ∧ a.fst = n ∧
     tfind? (64 * c + a.snd) s.gates.duplex = none ∧ ∃ q, s.physOf (64 * c + a.snd) = some q) ∧
    (let c : Nat := 0; let n : Nat := 3; let p : Nat := 5; let i : Nat := 5; let tag : Nat := 8;
     let s : State := opens [5] D0; c < 16 ∧ n < 256 ∧ s.gated p = true ∧
     s.reaches (s.askerWho (AskBy.access i p tag) s.device) (dispReg c 80) 4 true = true ∧
     s.reaches (s.askerWho (AskBy.access i p tag) s.device) (dispReg c 84) 4 true = true ∧ let d := s.disp c;
     let v := d.slot n; v.st = SlotState.cancelling ∧ v.cancelLimit ≤ (s.now - v.cancelAt) / 200 ∧
     s.dbgBlock.frost = false ∧ ∃ q, s.physOf (64 * c + v.tile) = some q) := by
  refine ⟨?_, ?_, ⟨?_, ?_, ?_, ?_, ?_, ?_, _, rfl, ?_, ?_⟩, ?_, ⟨?_, ?_, ?_, ?_, ?_, ?_, ?_, ?_, _, rfl, ?_, ?_, _,
    rfl⟩, ⟨?_, ?_, ?_, ?_, ?_, ?_, ?_, ?_, _, rfl⟩⟩ <;> decide +kernel

theorem test_witness_PoolOperations :
    (let i : Nat := 5; let p : Nat := 5; let tag : Nat := 9; let m : Nat := 5; let v : W32 := 0x0007_0800;
     let s : State := opens [5] S1;
     s.reaches (s.askerWho (AskBy.access i p tag) s.device) (poolReg 0) 4 false = true ∧
     s.reaches (s.whoIs m) (poolReg 8) 4 true = true ∧ s.reaches (s.whoIs m) (poolReg 12) 4 true = true ∧
     let l := s.pool; let h := BitVec.toNat v % 65536; let b := h % 2048; let g := h / 2048;
     let dest := BitVec.toNat v / 65536 % 4096; let owner := tget 1279 b l.owner; let gen := tget 0 b l.gen;
     let twice := owner = 1279 ∧ g = (gen + 31) % 32; let own := ¬twice ∧ g = gen ∧ owner = m; own ∧
     inOwnerTable dest = true) ∧
    (let i : Nat := 5; let p : Nat := 5; let tag : Nat := 9; let m : Nat := 5; let v : W32 := 0x0007_0805;
     let s : State := opens [5] S1;
     s.reaches (s.askerWho (AskBy.access i p tag) s.device) (poolReg 0) 4 false = true ∧
     s.reaches (s.whoIs m) (poolReg 8) 4 true = true ∧ s.reaches (s.whoIs m) (poolReg 12) 4 true = true ∧
     let l := s.pool; let h := BitVec.toNat v % 65536; let b := h % 2048; let g := h / 2048;
     let owner := tget 1279 b l.owner; let gen := tget 0 b l.gen; let twice := owner = 1279 ∧ g = (gen + 31) % 32;
     let own := ¬twice ∧ g = gen ∧ owner = m; ¬own) := by
  refine ⟨?_, ?_⟩ <;> decide +kernel

end DispRows

end Sys2Proof.Tests
end

