-- ==== Sys2Proof/Tests/WitnessTiles.lean ====
section
/-! SUPPORT. Witnesses: for the tile statements, concrete states and operands that meet the hypotheses of
each clause together. -/

set_option maxRecDepth 100000
set_option linter.unusedVariables false

namespace Sys2Proof.Tests
open Sys2Proof Sys2Proof.Machine Sys2Proof.Safety

set_option Elab.async false

namespace TileForms

/-- No guard prefix, narrow and wide. -/
def N : Pfx := ⟨none, false⟩
def Tl : Tile :=
  { run := .running, pc := 0x100, cntOn := true, pcnt := 7,
    d := Vector.ofFn fun i => BitVec.ofNat 8 (i.val * 17), p := Vector.replicate 8 0x2000 }
def at5 (o : Tile) : State := State.reset.setTile 5 o
def S : State := at5 Tl
def req (t : Nat) : SendReq := ⟨t, 0, 0, 0, 0, 0, false, 0, 0, none⟩
def CA : CustomArgs := ⟨3, 0, 4, 6, 1, 2, 0⟩
/-- A custom instruction's context at its start. -/
def K0 : UCtx := { m := Tl, n := Tl, t := Vector.replicate 4 0, due := none }

theorem test_witness_ArithmeticInstructions :
    (let p : Nat := 5; let x : Pfx := N; let d : Fin 16 := 15; let e : Fin 16 := 15; let s : State := S;
     (Executes s p 2 x ∧ evenIf x.wide [d, e]) ∧ (Executes s p 2 x ∧ evenIf x.wide [d]) ∧
     (Executes s p (2 + b2n x.wide) x ∧ evenIf x.wide [d]) ∧ Executes s p (3 + b2n x.wide) x ∧
     evenIf x.wide [d]) := by
  refine ⟨?_, ?_, ?_, ?_⟩ <;>
    decide +kernel

theorem test_witness_LogicInstructions :
    (let p : Nat := 5; let x : Pfx := N; let d : Fin 16 := 15; let e : Fin 16 := 15; let s : State := S;
     (Executes s p 2 x ∧ evenIf x.wide [d, e]) ∧ (Executes s p 2 x ∧ evenIf x.wide [d]) ∧
     (Executes s p (2 + b2n x.wide) x ∧ evenIf x.wide [d]) ∧ Executes s p (3 + b2n x.wide) x ∧
     evenIf x.wide [d]) := by
  refine ⟨?_, ?_, ?_, ?_⟩ <;>
    decide +kernel

theorem test_witness_MultiplyInstructions :
    (let p : Nat := 5; let x : Pfx := N; let d : Fin 16 := 14; let s : State := S; x.wide = false ∧
     (↑d : Nat) % 2 = 0 ∧ Executes s p 2 x) := by
  decide +kernel

theorem test_witness_ShiftInstructions :
    (let p : Nat := 5; let x : Pfx := N; let d : Fin 16 := 15; let c : Fin 16 := 7; let s : State := S;
     Executes s p 2 x ∧ evenIf x.wide [d] ∧ (x.wide = false → (↑c : Nat) < 8)) ∧
    (let p : Nat := 5; let x : Pfx := N; let d : Fin 16 := 15; let c : Fin 16 := 8; let s : State := S;
     Executes s p 2 x ∧ evenIf x.wide [d] ∧ x.wide = false ∧ 8 ≤ (↑c : Nat) ∧
     ¬((s.tile p).inh = true ∧ (s.tile p).evOn = false)) ∧
    (let p : Nat := 5; let x : Pfx := N; let d : Fin 16 := 15; let c : Fin 16 := 8;
     let s : State := S.setTile 5 { S.tile 5 with inh := true, evOn := false };
     Executes s p 2 x ∧ evenIf x.wide [d] ∧ x.wide = false ∧ 8 ≤ (↑c : Nat) ∧
     (s.tile p).inh = true ∧ (s.tile p).evOn = false) := by
  refine ⟨?_, ?_, ?_⟩ <;>
    decide +kernel

theorem test_witness_PointerInstructions :
    (let p : Nat := 5; let x : Pfx := N; let d : Fin 16 := 14; let s : State := S;
     (x.wide = false ∧ (↑d : Nat) % 2 = 0 ∧ Executes s p 2 x) ∧ (x.wide = false ∧ Executes s p 3 x) ∧
     Executes s p (3 + b2n x.wide) x) := by
  decide +kernel

theorem test_witness_MemoryInstructions :
    (let p : Nat := 5; let x : Pfx := N; let r : Fin 16 := 14; let b : Fin 8 := 0; let disp : W16 := 0xDFFF;
     let s : State := (at5 {Tl with mem := [⟨0xFFFF, 3⟩]}); Memory.wf 0 (s.tile p).mem = true ∧
     let o := s.tile p; let ea := o.p[b] + disp; let len := 3 + b2n x.wide;
     (Executes s p len x ∧ o.anyBad ea 1 = false) ∧
     (Executes s p len x ∧ o.anyBad ea 2 = false ∧ (↑r : Nat) % 2 = 0) ∧
     (Executes s p len x ∧ o.storeBad ea 1 = false) ∧ Executes s p len x ∧ o.storeBad ea 2 = false ∧
     (↑r : Nat) % 2 = 0) := by
  decide +kernel

theorem test_witness_ControlAndReturnStack :
    (let p : Nat := 5; let x : Pfx := N; let d : Fin 16 := 15;
     let s : State := (at5 {Tl with rsTrap := true, rsDepth := 7}); let o := s.tile p;
     let room := !(o.rsTrap && o.rsDepth == 8); let some_ := !(o.rsTrap && o.rsDepth == 0);
     (x.wide = false ∧ (Executes s p 3 x ∧ room = true) ∧ (Executes s p 2 x ∧ room = true) ∧ Executes s p 1 x ∧ some_ = true) ∧
     Executes s p (2 + b2n x.wide) x ∧ Executes s p 3 x ∧ evenIf x.wide [d]) ∧
    (let p : Nat := 5; let x : Pfx := N; let s : State := (at5 {Tl with rsTrap := true, rsDepth := 8});
     x.wide = false ∧ (s.tile p).rsTrap = true ∧ let o := s.tile p;
     (o.rsDepth = 8 ∧ Executes s p 3 x ∧ ¬(o.inh = true ∧ o.evOn = false)) ∧ o.rsDepth = 8 ∧
     Executes s p 2 x ∧ ¬(o.inh = true ∧ o.evOn = false)) ∧
    (let p : Nat := 5; let x : Pfx := N;
     let s : State := (at5 {Tl with rsTrap := true, rsDepth := 8, inh := true}); x.wide = false ∧
     (s.tile p).rsTrap = true ∧ let o := s.tile p;
     (o.rsDepth = 8 ∧ Executes s p 3 x ∧ o.inh = true ∧ o.evOn = false) ∧ o.rsDepth = 8 ∧ Executes s p 2 x ∧
     o.inh = true ∧ o.evOn = false) ∧
    (let p : Nat := 5; let x : Pfx := N; let s : State := (at5 {Tl with rsTrap := true}); x.wide = false ∧
     (s.tile p).rsTrap = true ∧ let o := s.tile p; o.rsDepth = 0 ∧ Executes s p 1 x ∧
     ¬(o.inh = true ∧ o.evOn = false)) ∧
    (let p : Nat := 5; let x : Pfx := N; let s : State := (at5 {Tl with rsTrap := true, inh := true});
     x.wide = false ∧ (s.tile p).rsTrap = true ∧ let o := s.tile p; o.rsDepth = 0 ∧ Executes s p 1 x ∧
     o.inh = true ∧ o.evOn = false) := by
  refine ⟨?_, ?_, ?_, ?_, ?_⟩ <;>
    decide +kernel

theorem test_witness_CompareAndBitInstructions :
    (let p : Nat := 5; let x : Pfx := N; let d : Fin 16 := 15; let e : Fin 16 := 15; let s : State := S;
     (Executes s p 3 x ∧ evenIf x.wide [d, e]) ∧ Executes s p (3 + b2n x.wide) x ∧ evenIf x.wide [d]) ∧
    (let p : Nat := 5; let x : Pfx := N; let s : State := S; x.wide = false ∧ Executes s p 2 x ∧
     Executes s p 3 x) := by
  refine ⟨?_, ?_⟩ <;>
    decide +kernel

theorem test_witness_DecimalInstructions :
    (let p : Nat := 5; let x : Pfx := N; let d : Fin 16 := 15; let e : Fin 16 := 15; let s : State := S;
     (Executes s p 2 x ∧ evenIf x.wide [d, e]) ∧ x.wide = false ∧ Executes s p 2 x) := by
  decide +kernel

theorem test_witness_SystemRegisters :
    (let p : Nat := 5; let x : Pfx := N; let d : Fin 16 := 15; let s : State := S; x.wide = false ∧
     Executes s p 3 x ∧ let o := s.tile p; let v := o.d[d]; BitVec.toNat v < 128 ∨ 143 < BitVec.toNat v) ∧
    (let p : Nat := 5; let x : Pfx := N; let d : Fin 16 := 8; let s : State := S; x.wide = false ∧
     Executes s p 3 x ∧ let o := s.tile p; let v := o.d[d]; 128 ≤ BitVec.toNat v ∧ BitVec.toNat v ≤ 143) := by
  refine ⟨?_, ?_⟩ <;>
    decide +kernel

theorem test_witness_ReturnTrapFenceSleep :
    (let p : Nat := 5; let x : Pfx := N; let s : State := (at5 {Tl with inh := true, pend := 0x2000});
     x.wide = false ∧ let o := s.tile p; let l := o.land; let up := fun m => m.pend &&& m.en ≠ 0;
     (Executes s p 1 x ∧ o.inh = true ∧ up l) ∧ Executes s p 2 x ∧ o.inh = true ∧ o.evOn = false) ∧
    (let p : Nat := 5; let x : Pfx := N; let s : State := (at5 {Tl with inh := true, evOn := true});
     x.wide = false ∧ let o := s.tile p; let l := o.land; let up := fun m => m.pend &&& m.en ≠ 0;
     (Executes s p 1 x ∧ o.inh = true ∧ ¬up l) ∧ Executes s p 2 x ∧ ¬(o.inh = true ∧ o.evOn = false)) ∧
    (let p : Nat := 5; let x : Pfx := N; let s : State := S; x.wide = false ∧ let o := s.tile p;
     Executes s p 1 x ∧ o.inh = false) := by
  refine ⟨?_, ?_, ?_⟩ <;>
    decide +kernel

theorem test_witness_SendInstruction :
    (let p : Nat := 5; let x : Pfx := N; let b : Fin 8 := 7;
     let s : State := (at5 {Tl with sends := (List.range 16).map req, mem := [⟨0x2002, 8⟩]}); x.wide = false ∧
     Executes s p 2 x ∧ let o := s.tile p; let a := o.p[b]; let bytes := o.bytes a 16; o.anyBad a 16 = false ∧
     descBad bytes = false ∧ 16 ≤ o.sends.length) ∧
    (let p : Nat := 5; let x : Pfx := N; let b : Fin 8 := 7;
     let s : State := (at5 {Tl with sends := (List.range 15).map req, mem := [⟨0x2002, 8⟩]}); x.wide = false ∧
     Executes s p 2 x ∧ let o := s.tile p; let a := o.p[b]; let bytes := o.bytes a 16;
     let op := leAt bytes 0 1 % 4; let len := leAt bytes 2 2; let loc := leAt bytes 10 2;
     o.anyBad a 16 = false ∧ descBad bytes = false ∧ o.sends.length < 16 ∧
     o.sends.length + o.resting.length < 256 ∧ s.silentTile p = false ∧ s.roleOf p = Role.single ∧
     (op ≠ 1 → o.anyBad (BitVec.ofNat 16 loc) len = false)) := by
  refine ⟨?_, ?_⟩ <;>
    decide +kernel

theorem test_witness_MicroOperations :
    (let u : W24 := 0x117f; let k : UCtx := K0; k.due = none ∧ uOp u = 0) ∧
    (let u : W24 := 0x8117f; let k : UCtx := K0; k.due = none ∧ uOp u = 1) ∧
    (let u : W24 := 0x10117f; let k : UCtx := K0; k.due = none ∧ uOp u = 2) ∧
    (let u : W24 := 0x18117f; let k : UCtx := K0; k.due = none ∧ uOp u = 3) ∧
    (let u : W24 := 0x20117f; let k : UCtx := K0; k.due = none ∧ uOp u = 4) ∧
    (let u : W24 := 0x28117f; let k : UCtx := K0; k.due = none ∧ uOp u = 5) ∧
    (let u : W24 := 0x30117f; let k : UCtx := K0; k.due = none ∧ uOp u = 6) ∧
    (let u : W24 := 0x38117f; let k : UCtx := K0; k.due = none ∧ uOp u = 7) ∧
    (let u : W24 := 0x68117f; let k : UCtx := K0; k.due = none ∧ uOp u = 13) ∧
    (let u : W24 := 0x70117f; let k : UCtx := K0; k.due = none ∧ uOp u = 14) ∧
    (let u : W24 := 0x88117f; let k : UCtx := K0; k.due = none ∧ uOp u = 17) ∧
    (let u : W24 := 0x90117f; let k : UCtx := K0; k.due = none ∧ uOp u = 18) := by
  refine ⟨?_, ?_, ?_, ?_, ?_, ?_, ?_, ?_, ?_, ?_, ?_, ?_⟩ <;>
    decide +kernel

theorem test_witness_CustomInstruction :
    (let p : Nat := 5; let x : Pfx := N; let c : CustomArgs := CA;
     let s : State := at5 {Tl with active := [(3, [0, 0])]}; x.wide = false ∧ ↑c.mode < 8 ∧ let o := s.tile p;
     let f := custFields c; let len := custLen ↑c.mode;
     let temps := Vector.ofFn fun i => Config.freeWord (s.free + ↑i); Executes s p len x ∧
     ∃ us, tfind? (↑c.entry) o.active = some us ∧ custOdd f us = false ∧
     ∃ k, uRun f us.length us { m := o, n := o.land, t := temps, due := none } = Except.ok k) ∧
    (let p : Nat := 5; let x : Pfx := N; let c : CustomArgs := CA;
     let mid : List (Nat × Msg) := [(1, { kind := .write, len := 1, srcId := 9, srcPhys := 9, srcDev := 0, tag := 0x21, cap := 1, chk := false, dev := 0, space := 0, addr := 5 * 65536 + 0x102, data := [7], badCrc := false })];
     let s : State := at5 {Tl with active := [(3, [0, 0])]}; x.wide = false ∧ ↑c.mode < 8 ∧ let o := s.tile p;
     let f := custFields c; let len := custLen ↑c.mode;
     let temps := Vector.ofFn fun i => Config.freeWord (s.free + ↑i); Executes s p len x ∧
     ∃ us, tfind? (↑c.entry) o.active = some us ∧ custOdd f us = false ∧ mid ≠ [] ∧
     ∃ v k, uRunMid f p mid us.length 0 us s { m := o, n := o.land, t := temps, due := none } = (v, Except.ok k)) ∧
    (let p : Nat := 5; let x : Pfx := N; let c : CustomArgs := CA; let s : State := S; x.wide = false ∧ ↑c.mode < 8 ∧
     let o := s.tile p; let len := custLen ↑c.mode; Executes s p len x ∧ tfind? (↑c.entry) o.active = none ∧
     (¬(o.inh = true ∧ o.evOn = false))) := by
  refine ⟨⟨?_, ?_, ?_, _, rfl, ?_, _, rfl⟩, ⟨?_, ?_, ?_, _, rfl, ?_, ?_, _, _, rfl⟩, ?_⟩ <;> decide +kernel

theorem test_witness_GateInstructions :
    (let p : Nat := 5; let x : Pfx := N; let d : Fin 16 := 8; let q : W16 := 3; let s : State := S; x.wide = false ∧
     s.silentTile p = false ∧ s.roleOf p = Role.single ∧ let clear := fun a => s.gateHolds p a Reply.good = false;
     BitVec.toNat q < 304 ∧ ↑d % 4 = 0 ∧ Executes s p 4 x ∧ clear (queueAddr (BitVec.toNat q))) ∧
    (let p : Nat := 5; let x : Pfx := N; let d : Fin 16 := 2; let q : W16 := 303;
     let s : State := (at5 {Tl with d := Vector.replicate 16 15, taskRun := true}); x.wide = false ∧
     s.silentTile p = false ∧ s.roleOf p = Role.single ∧ let clear := fun a => s.gateHolds p a Reply.good = false;
     BitVec.toNat q < 304 ∧ ↑d ≤ 11 ∧ Executes s p 4 x ∧ clear (queueAddr (BitVec.toNat q)) ∧ let o := s.tile p;
     let c := if o.dreg (d + 1) = 255 then s.ownerOf p / 64 else o.dreg (d + 1); ↑d % 2 = 0 ∧ Executes s p 2 x ∧
     c < 16 ∧ (o.dreg (d + 1) = 255 → (s.identOf p).isSome = true) ∧ clear (dispAddr c) ∧ Executes s p 1 x ∧
     o.taskRun = true ∧ s.ownerOf p / 64 < 16 ∧ clear (dispAddr (s.ownerOf p / 64)) ∧ p < 1088 ∧ s.ready p = true ∧
     o.fetchBad (pfxLen x + 4) = false ∧ (512 ≤ BitVec.toNat q ∨ ↑d % 4 ≠ 0)) ∧
    (let p : Nat := 5; let x : Pfx := N; let d : Fin 16 := 8; let q : W16 := 512; let s : State := S; x.wide = false ∧
     s.silentTile p = false ∧ s.roleOf p = Role.single ∧ let o := s.tile p; p < 1088 ∧ s.ready p = true ∧
     o.fetchBad (pfxLen x + 4) = false ∧ (512 ≤ BitVec.toNat q ∨ 11 < ↑d)) ∧
    (let p : Nat := 5; let x : Pfx := N; let d : Fin 16 := 8; let q : W16 := 304; let s : State := S; x.wide = false ∧
     s.silentTile p = false ∧ s.roleOf p = Role.single ∧ Executes s p 4 x ∧ 304 ≤ BitVec.toNat q ∧
     BitVec.toNat q < 512 ∧ ↑d % 4 = 0 ∧ ↑d ≤ 11) := by
  refine ⟨?_, ?_, ?_, ?_⟩ <;> decide +kernel

theorem test_witness_TileHappenings :
    (let p : Nat := 5; let s : State := (at5 {Tl with evOn := true, pend := 0x2000}); p < 1088 ∧
     s.dbgBlock.frost = false ∧ s.running = true ∧ let o := s.tile p; o.run = RunState.running ∧ o.wb = none ∧
     o.waiting = none ∧ ¬p ∈ s.dbgBlock.haltDue ∧ o.evOn = true ∧ o.pend &&& o.en ≠ 0) ∧
    (let p : Nat := 5; let s : State := (at5 {Tl with run := .sleeping, pend := 0x2000}); p < 1088 ∧
     s.dbgBlock.frost = false ∧ s.running = true ∧ let o := s.tile p; o.run = RunState.sleeping ∧ o.pend &&& o.en ≠ 0) ∧
    (let p : Nat := 5; let s : State := (at5 {Tl with pcHit := true}); p < 1088 ∧ s.dbgBlock.frost = false ∧
     s.running = true ∧ let o := s.tile p; o.pcHit = true) ∧
    (let p : Nat := 5; let bs : List Byte := [0xF1, 0xF2, 0x01, 0x23]; let code : Nat := 2; let s : State := S;
     p < 1088 ∧ s.dbgBlock.frost = false ∧ s.running = true ∧ let o := s.tile p; tileDecode p bs = TDec.trap code ∧
     s.ready p = true ∧ o.fetchBad (trapLen p bs) = false ∧ (¬(o.inh = true ∧ o.evOn = false))) := by
  refine ⟨?_, ?_, ?_, ?_⟩ <;> decide +kernel

theorem test_witness_TimeAndStim :
    let p : Nat := 5; let x : Pfx := N; let b : Fin 8 := 7; let fails : List ReqFail := []; let s : State := S;
     x.wide = false ∧ let o := s.tile p; Executes s p 2 x ∧ Memory.wf 0 o.mem = true ∧ o.storeBad o.p[b] 10 = false ∧
     let y : Reply := .found []; y ∈ [Reply.good, Reply.found fails] ∧ let d : Fin 16 := 15; let n : Fin 8 := 0;
     Executes s p 3 x ∧ (↑d : Nat) + (↑n : Nat) ≤ 15 := by
  decide +kernel

end TileForms

namespace Forms

def S0 : State :=
  { State.reset with now := 900000000000, boot := {State.reset.boot with bootRec := {device := 129}} }
def G (t : Tile) : State := S0.setTile 7 {t with run := .running}
def cu (m : Nat) : CustomArgs := ⟨3, Fin.ofNat 16 m, 0, 0, 0, 0, 0⟩

theorem test_witness_TrappingAndSkippedForms :
    (let p : Nat := 7; let x : Pfx := ⟨some (true, 3), false⟩; let d : Fin 16 := 13; let c : Fin 16 := 9;
     let v : W16 := 600; let u : CustomArgs := (cu 8); let s : State := (G {pc := 30}); p < 1088 ∧
     s.ready p = true ∧ let o := s.tile p; (∀ (len : Nat), len < 6 → o.fetchBad (pfxLen x + len) = false) ∧
     let isOdd := fun q => (↑q : Nat) % 2 = 1; ¬(o.inh = true ∧ o.evOn = false) ∧ (x.wide = false ∧ isOdd d) ∧
     (x.wide = false ∧ 8 ≤ (↑c : Nat)) ∧ (x.wide = false ∧ 512 ≤ BitVec.toNat v) ∧
     (x.wide = false ∧ (↑d : Nat) % 4 ≠ 0) ∧ (x.wide = false ∧ 11 < (↑d : Nat)) ∧ x.wide = false ∧
     8 ≤ (↑u.mode : Nat)) ∧
    (let p : Nat := 7; let x : Pfx := ⟨some (true, 3), false⟩; let d : Fin 16 := 4; let e : Fin 16 := 2;
     let u : CustomArgs := (cu 0); let s : State := (G {pc := 30}); p < 1088 ∧ s.ready p = true ∧
     let o := s.tile p; (∀ (len : Nat), len < 6 → o.fetchBad (pfxLen x + len) = false) ∧
     let isOdd := fun q => (↑q : Nat) % 2 = 1; o.guardMet x = false ∧ ¬isOdd d ∧ ¬isOdd e ∧ x.wide = false ∧
     (↑u.mode : Nat) = 0) ∧
    (let p : Nat := 7; let x : Pfx := ⟨some (true, 3), false⟩; let d : Fin 16 := 4; let e : Fin 16 := 2;
     let u : CustomArgs := (cu 7); let s : State := (G {pc := 30}); p < 1088 ∧ s.ready p = true ∧
     let o := s.tile p; (∀ (len : Nat), len < 6 → o.fetchBad (pfxLen x + len) = false) ∧
     let isOdd := fun q => (↑q : Nat) % 2 = 1; o.guardMet x = false ∧ ¬isOdd d ∧ ¬isOdd e ∧ x.wide = false ∧
     (↑u.mode : Nat) ∈ [1, 2, 5, 7]) ∧
    (let p : Nat := 7; let x : Pfx := ⟨some (true, 3), false⟩; let d : Fin 16 := 4; let e : Fin 16 := 2;
     let c : Fin 16 := 7; let v : W16 := 500; let u : CustomArgs := (cu 6); let s : State := (G {pc := 30});
     p < 1088 ∧ s.ready p = true ∧ let o := s.tile p;
     (∀ (len : Nat), len < 6 → o.fetchBad (pfxLen x + len) = false) ∧
     let isOdd := fun q => (↑q : Nat) % 2 = 1; o.guardMet x = false ∧ ¬isOdd d ∧ ¬isOdd e ∧
     (x.wide = true ∨ (↑c : Nat) < 8) ∧ x.wide = false ∧
     ((↑d : Nat) % 4 = 0 ∧ (↑d : Nat) ≤ 11 ∧ BitVec.toNat v < 512) ∧ (↑u.mode : Nat) ∈ [3, 4, 6]) ∧
    (let p : Nat := 7; let x : Pfx := ⟨none, true⟩; let d : Fin 16 := 3; let e : Fin 16 := 4;
     let s : State := (G {pc := 30}); p < 1088 ∧ s.ready p = true ∧ let o := s.tile p;
     (∀ (len : Nat), len < 6 → o.fetchBad (pfxLen x + len) = false) ∧
     let isOdd := fun q => (↑q : Nat) % 2 = 1; ¬(o.inh = true ∧ o.evOn = false) ∧
     (x.wide = true ∧ (isOdd d ∨ isOdd e)) ∧ x.wide = true ∧ isOdd d) := by
  refine ⟨?_, ?_, ?_, ?_, ?_⟩ <;>
    decide +kernel

end Forms

end Sys2Proof.Tests
end

section
/-! The values after a cold start (R11, R59, R165, R198, R267), and the invariants there. -/

namespace Sys2Proof.Machine
open Sys2Proof.Safety

/-- What holds of the Cold value and of every listed entry holds of every number's entry. -/
theorem tget_of_forall {α : Type} {P : α → Prop} {d : α} {m : Table α} (hd : P d) (hm : ∀ e ∈ m, P e.2) (k : Nat) :
    P (tget d k m) := by
  induction m with
  | nil => exact hd
  | cons e r ih =>
    obtain ⟨j, v⟩ := e
    unfold tget
    split
    · exact hm _ (List.mem_cons_self ..)
    · exact ih fun e he => hm e (List.mem_cons_of_mem _ he)

/-- After a cold start no source has fired or waits (R271). -/
theorem reset_src_quiet (n : Nat) :
    (State.reset.src n).pend = false ∧ (State.reset.src n).act = false ∧ (State.reset.src n).fires = 0 := by
  refine tget_of_forall (P := fun v : Src => v.pend = false ∧ v.act = false ∧ v.fires = 0) ⟨rfl, rfl, rfl⟩ ?_ n
  intro e he
  obtain ⟨x, -, rfl⟩ := List.mem_map.mp he
  exact ⟨rfl, rfl, rfl⟩

/-- The firmware's own sources keep their events until they are delivered to it (R267). -/
theorem reset_src_firmware : ∀ n < 32, (State.reset.src n).kind = 2 ∧ (State.reset.src n).owner = 0x400 := by decide

/-- The completion of mailboxes 0 and 1 goes to the host's vectors 0 and 1 (R267). -/
theorem reset_src_mailbox :
    ∀ m < 2, (State.reset.src (81 + 2 * m)).kind = 3 ∧ (State.reset.src (81 + 2 * m)).vector = m := by decide

/-- A tile at its Cold values is legal (R59). -/
theorem TileLegal_cold : TileLegal {} := ⟨rfl, Nat.zero_le _, rfl, rfl, .inl rfl⟩

theorem reset_memoriesCanonical : MemoriesCanonical State.reset :=
  ⟨fun _ => rfl, rfl, rfl, rfl, fun _ => ⟨rfl, rfl⟩, rfl, rfl, rfl, rfl, rfl, nofun⟩

theorem reset_poolSound : PoolSound State.reset.pool := ⟨nofun, nofun⟩

/-- Settles O56. -/
theorem resetValues : Obligations.ResetValues := by
  unfold Obligations.ResetValues
  intro s
  have htile : ∀ p, s.tile p = {} := fun _ => rfl
  refine ⟨fun p _ => ?_, fun l _ => ⟨rfl, rfl⟩, fun q _ => ⟨rfl, rfl, rfl, rfl⟩, rfl, rfl, rfl, rfl, rfl,
    fun b _ => ⟨rfl, rfl⟩, fun n _ => reset_src_quiet n, reset_src_firmware, reset_src_mailbox, rfl, rfl, rfl, rfl,
    fun k _ => ⟨rfl, rfl⟩, fun n _ => rfl, fun n _ => rfl, fun e _ => rfl, fun ch _ => rfl, fun k _ => rfl,
    fun m _ => rfl, rfl, rfl, rfl, rfl, rfl, rfl, rfl, rfl, rfl, fun _ => TileLegal_cold, reset_memoriesCanonical, reset_poolSound⟩
  rw [htile]
  exact ⟨rfl, rfl, rfl, rfl, rfl, rfl, rfl, rfl, rfl, rfl, rfl, rfl⟩
end Sys2Proof.Machine
end

section
/-! Frames of operations that every reset uses: what a firing, a carry and the boot touch, how the pins change together,
and reading bytes back from any memory. -/

namespace Sys2Proof.Machine
open Sys2Proof.Safety

/-! ### What a firing touches -/

/-- The state with another router, another power record and other requests for frost: all that a firing touches. -/
def State.withEvents (s : State) (r : Router) (p : Power) (w : List Bool) : State :=
  { s with router := r, power := p, dbgBlock := { s.dbgBlock with wantFrost := w } }

theorem State.askFrost_frame (s : State) (on : Bool) : ∃ w, s.askFrost on = s.withEvents s.router s.power w := by
  unfold State.askFrost
  dsimp only
  split <;> exact ⟨_, rfl⟩

theorem State.wakeNow_frame (s : State) (kind code : Nat) :
    ∃ p, s.wakeNow kind code = s.withEvents s.router p s.dbgBlock.wantFrost := by
  unfold State.wakeNow
  split <;> exact ⟨_, rfl⟩

/-- A firing touches only the router, the wake that it causes and the requests for frost (R257, R270, R486). -/
theorem State.fire_frame (s : State) (n : Nat) : ∃ r p w, s.fire n = s.withEvents r p w := by
  unfold State.fire
  split
  · exact ⟨_, _, _, rfl⟩
  · split
    · unfold State.fireRun
      dsimp only
      split
      · obtain ⟨w, h⟩ := (s.setSrc n (s.src n).fire).askFrost_frame true
        exact ⟨_, _, w, h⟩
      · exact ⟨_, _, _, rfl⟩
    · split
      · split
        · obtain ⟨p, h⟩ := State.wakeNow_frame _ 0 _
          exact ⟨_, p, _, h⟩
        · exact ⟨_, _, _, rfl⟩
      · exact ⟨_, _, _, rfl⟩

theorem State.fireIf_frame (s : State) (c : Bool) (n : Nat) : ∃ r p w, s.fireIf c n = s.withEvents r p w := by
  cases c
  · exact ⟨_, _, _, rfl⟩
  · exact s.fire_frame n

/-- Alarms that fire in a step of time change the alarms and what firings touch (R280). -/
theorem State.stepAlarms_frame (s : State) (old : Nat) (late : Bool) : ∃ a r p w,
    s.stepAlarms old late = { s with time := { s.time with alarms := a } }.withEvents r p w := by
  unfold State.stepAlarms
  refine List.foldlRecOn (motive := fun u => ∃ a r p w, u = State.withEvents { s with time := { s.time with alarms := a } } r p w)
    _ _ ⟨_, _, _, _, rfl⟩ ?_
  rintro u ⟨a, r, p, w, rfl⟩ k -
  dsimp only
  split
  · split
    · exact ⟨_, _, _, _, rfl⟩
    · unfold State.fireAlarm
      obtain ⟨r, p, w, h⟩ := State.fire_frame _ (64 + k)
      exact ⟨_, _, _, _, h⟩
  · exact ⟨_, _, _, _, rfl⟩

/-- After a carry the time says that it was carried (R283). -/
theorem State.carry_frame (s : State) : ∃ t r p w, t.carried = true ∧
    s.carry = { s with time := t }.withEvents r p w := by
  unfold State.carry
  dsimp only
  split
  · obtain ⟨r, p, w, h⟩ := State.fire_frame _ 74
    exact ⟨_, r, p, w, rfl, h⟩
  · generalize hu : (State.fire _ 74) = u
    obtain ⟨r, p, w, h⟩ := State.fire_frame _ 74
    rw [h] at hu
    subst hu
    obtain ⟨a, r, p, w, h⟩ := State.stepAlarms_frame _ _ true
    exact ⟨_, r, p, w, rfl, h⟩

/-! ### The boot -/

theorem Boot.plain_boot (b : Boot) (n : Nat) (fallback other : Bool) : (b.plain n fallback other).boot = b := by
  unfold Boot.plain
  split_ifs <;> rfl

/-- The boot ROM's choice programs marks in the journal and nothing else in flash (R420). -/
theorem Boot.choose_frame (b : Boot) (other : Bool) : ∃ j0 j1,
    (b.choose other).boot = { b with journal0 := j0, journal1 := j1 } := by
  unfold Boot.choose
  dsimp only
  split_ifs
  · exact ⟨_, _, Boot.plain_boot ..⟩
  · exact ⟨_, _, rfl⟩
  · exact ⟨_, _, Boot.plain_boot ..⟩
  · exact ⟨_, _, Boot.plain_boot ..⟩

/-- Out of test mode the boot sequence starts the firmware from the bank chosen, programs the journal's marks, and may
log which bank it took (R419 to R421). -/
theorem State.bootUp_frame (s : State) (other : Bool) (h : s.dbgBlock.testMode = false) : ∃ j0 j1 bank trial recovery log q,
    s.bootUp other = { s with
      boot := { s.boot with journal0 := j0, journal1 := j1, verified := false, trialPassed := false }
      mgmt := { s.mgmt with
        up := true, restarting := false, otherBank := false, bank := bank, trial := trial, recovery := recovery }
      aon := { s.aon with log := log, nextSeq := q } } := by
  obtain ⟨j0, j1, hb⟩ := s.boot.choose_frame other
  unfold State.bootUp
  rw [if_neg (by simp [h])]
  dsimp only
  rw [hb]
  split
  · exact ⟨_, _, _, _, _, _, _, rfl⟩
  · exact ⟨_, _, _, _, _, _, _, rfl⟩

theorem State.bootUp_testMode {s : State} (other : Bool) (h : s.dbgBlock.testMode = true) : s.bootUp other = s := by
  simp [State.bootUp, h]

/-! ### Pins -/

/-- Each of the 96 pins changes by the function, and no other (R292). -/
theorem tget_foldl_tput {α : Type} (d : α) (f : Nat → α → α) (m : Table α) (k n : Nat) :
    tget d n ((List.range k).foldl (fun m n => tput n (f n (tget d n m)) m) m) =
      if n < k then f n (tget d n m) else tget d n m := by
  induction k with
  | zero => simp
  | succ k ih =>
    rw [List.range_succ, List.foldl_append, List.foldl_cons, List.foldl_nil]
    by_cases hn : n = k
    · subst hn
      rw [tget_tput_self, ih]
      simp
    · rw [tget_tput_ne _ _ hn, ih]
      simp [show n < k + 1 ↔ n < k by omega]

theorem State.mapPins_pin (s : State) (f : Nat → Pin → Pin) {n : Nat} (h : n < 96) :
    (s.mapPins f).pin n = f n (s.pin n) := by
  simp [State.mapPins, State.pin, tget_foldl_tput, h]

theorem Pin.mem_hold (v : Pin) (c : SafeCause) : c ∈ (v.hold c).causes := by
  unfold Pin.hold
  split
  · next h => simpa using h
  · simp

/-! ### A byte written reads back, whatever the memory lists -/

theorem memGet_memPut_self {d v : Byte} (hv : v ≠ d) (a : Nat) (m : Mem) : memGet d a (memPut d a v m) = v := by
  induction m with
  | nil => simp [memPut, memGet, hv]
  | cons e r ih =>
    obtain ⟨b, w⟩ := e
    unfold memPut
    split_ifs with h1 h2 <;> simp [memGet, *]

theorem memGet_memPut_ne {d v : Byte} {a c : Nat} (h : c ≠ a) (m : Mem) : memGet d c (memPut d a v m) = memGet d c m := by
  induction m with
  | nil =>
    unfold memPut
    split_ifs <;> simp [memGet, Ne.symm h]
  | cons e r ih =>
    obtain ⟨b, w⟩ := e
    unfold memPut
    split_ifs with h1 h2 h3 h4
    · subst h1; simp [memGet, Ne.symm h]
    · subst h1; simp [memGet, Ne.symm h]
    · rfl
    · simp [memGet, Ne.symm h]
    · simp [memGet, ih]

end Sys2Proof.Machine
end

section
/-! Cold start, device restart and management restart (R13 to R15). -/

namespace Sys2Proof.Machine
open Sys2Proof.Safety

/-! ### Commands that a management restart ends (R398) -/

/-- The command of mailbox `b` has ended with a status (R390, R398). -/
def Mbx.EndedAs (b : Mbx) (status : Byte) : Prop := b.st = 3 ∧ memGet 0 4 b.resp = status

/-- What the end of a command may touch: the mailboxes, a join or route change, a model load, the service port's
response, and what a firing touches (R390, R397, R398, R472). -/
def State.CommandEnds (s t : State) : Prop := ∃ boxes hw f e v r p w,
  t = State.withEvents { s with
    mgmt := { s.mgmt with boxes := boxes, hwAborts := hw }, fabric := f, engine := e, service := v } r p w

theorem State.CommandEnds.refl (s : State) : s.CommandEnds s := ⟨_, _, _, _, _, _, _, _, rfl⟩

theorem State.CommandEnds.counted (s : State) (hw : Nat) :
    s.CommandEnds { s with mgmt := { s.mgmt with hwAborts := hw } } :=
  ⟨s.mgmt.boxes, hw, s.fabric, s.engine, s.service, s.router, s.power, s.dbgBlock.wantFrost, rfl⟩

theorem State.CommandEnds.trans {s t u : State} (h : s.CommandEnds t) (h' : t.CommandEnds u) : s.CommandEnds u := by
  obtain ⟨_, _, _, _, _, _, _, _, rfl⟩ := h
  obtain ⟨_, _, _, _, _, _, _, _, rfl⟩ := h'
  exact ⟨_, _, _, _, _, _, _, _, rfl⟩

/-- A response header gives its status at offset 4 (R390). -/
theorem memGet_respHeader (m : Mem) (code tag status len elapsed : Nat) (h : BitVec.ofNat 8 status ≠ 0) :
    memGet 0 4 (memWrite 0 m 0 (respHeader code tag status len elapsed)) = BitVec.ofNat 8 status := by
  simp [respHeader, leBytes, memWrite, memGet_memPut_ne]
  exact memGet_memPut_self h _ _

/-- A command that ends leaves its mailbox complete, with its status, and the other mailboxes as they are (R390). -/
theorem State.finishMbx_ends (s : State) (m : Nat) {status : Nat} (payload : List Byte) (h : BitVec.ofNat 8 status ≠ 0) :
    s.CommandEnds (s.finishMbx m status payload) ∧
      ((s.finishMbx m status payload).mbx m).EndedAs (BitVec.ofNat 8 status) ∧
      ∀ k ≠ m, (s.finishMbx m status payload).mbx k = s.mbx k := by
  have sent (u : State) (bs : List Byte) : ∃ v, (if m = 2 then u.sendUp bs else u) = { u with service := v } := by
    split <;> exact ⟨_, rfl⟩
  unfold State.finishMbx
  dsimp only
  generalize hb : (Mbx.mk ..) = b
  obtain ⟨v, hv⟩ := sent (s.setMbx m b) _
  obtain ⟨r, p, w, hf⟩ := State.fireIf_frame _ _ (81 + 2 * m)
  rw [hf, hv]
  refine ⟨⟨_, _, _, _, _, _, _, _, rfl⟩, ?_, fun k hk => State.setMbx_mbx_ne _ _ hk⟩
  change ((s.setMbx m b).mbx m).EndedAs _
  rw [State.setMbx_mbx, ← hb]
  refine ⟨rfl, ?_⟩
  dsimp only
  exact memGet_respHeader _ _ _ _ _ _ h

theorem State.endCommand_ends (s : State) (m : Nat) {status : Nat} (h : BitVec.ofNat 8 status ≠ 0) :
    s.CommandEnds (s.endCommand m status) ∧ ((s.endCommand m status).mbx m).EndedAs (BitVec.ofNat 8 status) ∧
      ∀ k ≠ m, (s.endCommand m status).mbx k = s.mbx k := by
  obtain ⟨f, e, hfe⟩ : ∃ f e, s.endCommand m status = { s with fabric := f, engine := e }.finishMbx m status [] :=
    ⟨_, _, rfl⟩
  rw [hfe]
  obtain ⟨hc, he, hk⟩ := State.finishMbx_ends { s with fabric := f, engine := e } m [] h
  exact ⟨.trans ⟨_, _, _, _, _, _, _, _, rfl⟩ hc, he, hk⟩

/-- A restart ends the command of a mailbox where one is queued or running (R398). -/
def State.abortMbx (s : State) (m : Nat) : State :=
  if (s.mbx m).st = 1 ∨ (s.mbx m).st = 2 then
    { s.endCommand m 0x0B with mgmt := { (s.endCommand m 0x0B).mgmt with hwAborts := inc16 s.mgmt.hwAborts } }
  else s

theorem State.abortAllMbx_eq (s : State) : s.abortAllMbx = (List.range 8).foldl State.abortMbx s := rfl

theorem State.abortMbx_ends (s : State) (m : Nat) : s.CommandEnds (s.abortMbx m) ∧
    (((s.mbx m).st = 1 ∨ (s.mbx m).st = 2) → ((s.abortMbx m).mbx m).EndedAs 0x0B) ∧
    ∀ k ≠ m, (s.abortMbx m).mbx k = s.mbx k := by
  unfold State.abortMbx
  split
  · next hst =>
    obtain ⟨hc, he, hk⟩ := s.endCommand_ends m (status := 0x0B) (by decide)
    exact ⟨hc.trans (.counted _ _), fun _ => he, hk⟩
  · next hst => exact ⟨.refl s, fun h => absurd h hst, fun _ _ => rfl⟩

/-- A management restart ends every command that is queued or running with HW_ABORTED (R398). -/
theorem State.abortAllMbx_ends (s : State) : s.CommandEnds s.abortAllMbx ∧
    ∀ m < 8, (s.mbx m).st = 1 ∨ (s.mbx m).st = 2 → (s.abortAllMbx.mbx m).EndedAs 0x0B := by
  have upTo (n : Nat) : s.CommandEnds ((List.range n).foldl State.abortMbx s) ∧
      (∀ m < n, (s.mbx m).st = 1 ∨ (s.mbx m).st = 2 → (((List.range n).foldl State.abortMbx s).mbx m).EndedAs 0x0B) ∧
      ∀ m ≥ n, ((List.range n).foldl State.abortMbx s).mbx m = s.mbx m := by
    induction n with
    | zero => exact ⟨.refl s, nofun, fun _ _ => rfl⟩
    | succ n ih =>
      obtain ⟨hc, hd, hk⟩ := ih
      rw [List.range_succ, List.foldl_append, List.foldl_cons, List.foldl_nil]
      obtain ⟨hc', hd', hk'⟩ := State.abortMbx_ends ((List.range n).foldl State.abortMbx s) n
      refine ⟨hc.trans hc', fun m hm hst => ?_, fun m hm => by rw [hk' m (by omega), hk m (by omega)]⟩
      by_cases hmn : m = n
      · subst hmn
        exact hd' (by rwa [hk m (Nat.le_refl m)])
      · rw [hk' m hmn]
        exact hd m (by omega) hst
  rw [State.abortAllMbx_eq]
  exact ⟨(upTo 8).1, (upTo 8).2.1⟩

/-! ### The restarts -/

/-- What a cold start leaves outside test mode, up to the boot's journal marks and its log record (R11, R13, R419). -/
theorem coldStart_outcome (s : State) (both : Bool) : ∃ t, exec (.coldStart ⟨false, both⟩) s = .next t ∧
    t.faults = { absorb := both } ∧ t.aon = { log := t.aon.log, nextSeq := t.aon.nextSeq } ∧
      t.tiles = [] ∧ t.queues = [] ∧ t.chans = [] ∧ t.flight = [] ∧ t.pool = {} ∧ t.bufMem = [] ∧
      t.mgmt.up = true ∧ t.gates = Gates.cold s.boot.retired ∧
      t.boot.bank0 = s.boot.bank0 ∧ t.boot.bank1 = s.boot.bank1 ∧ t.boot.bootRec = s.boot.record ∧
      t.pace.warned = false := by
  obtain ⟨u, hboot, htest, hfaults, haon, htiles, hqueues, hchans, hflight, hpool, hbuf, hgates, hb0, hb1, hrec, hwarned⟩ :
      ∃ u : State, s.coldStart false = u.bootUp false ∧ u.dbgBlock.testMode = false ∧ u.faults = {} ∧ u.aon = {} ∧
        u.tiles = [] ∧ u.queues = [] ∧ u.chans = [] ∧ u.flight = [] ∧ u.pool = {} ∧ u.bufMem = [] ∧
        u.gates = Gates.cold s.boot.retired ∧ u.boot.bank0 = s.boot.bank0 ∧ u.boot.bank1 = s.boot.bank1 ∧
        u.boot.bootRec = s.boot.record ∧ u.pace.warned = false :=
    ⟨_, rfl, rfl, rfl, rfl, rfl, rfl, rfl, rfl, rfl, rfl, rfl, rfl, rfl, rfl, rfl⟩
  obtain ⟨_, _, _, _, _, _, _, hu⟩ := u.bootUp_frame false htest
  rw [← hboot] at hu
  refine ⟨_, rfl, ?_⟩
  dsimp only
  rw [hu]
  dsimp only
  exact ⟨by rw [hfaults], by rw [haon], htiles, hqueues, hchans, hflight, hpool, hbuf, rfl, hgates, hb0, hb1, hrec, hwarned⟩

/-- In test mode a cold start leaves the firmware down (R493). -/
theorem coldStart_testMode (s : State) (both : Bool) : ∃ t, exec (.coldStart ⟨true, both⟩) s = .next t ∧
    t.dbgBlock.testMode = true ∧ t.mgmt.up = false := by
  refine ⟨_, rfl, ?_⟩
  unfold State.coldStart
  dsimp only
  rw [State.bootUp_testMode false rfl]
  exact ⟨rfl, rfl⟩

/-- A device restart restarts every pin and holds it safe until it is configured again (R299, R300). -/
theorem State.restartCore_pin (s : State) {n : Nat} (h : n < 96) : s.restartCore.pin n = (s.pin n).restart := by
  have hpins : s.restartCore.fio.pins = (s.mapPins fun _ v => v.restart).fio.pins := by simp only [State.restartCore]
  rw [← State.mapPins_pin s (fun _ v => v.restart) h]
  unfold State.pin
  rw [hpins]

/-- With no cause left that holds the device, a device restart completes at once (R13, R323). -/
theorem State.deviceRestart_of_held_nil {s : State} (h : s.faults.held = []) :
    s.deviceRestart none = s.restartCore.restartDone := by
  simp only [State.deviceRestart, Option.toList, List.filter_nil, List.append_nil, h, List.isEmpty_nil, if_true]
  rw [← h]

/-- A completed device restart has carried the time and booted the firmware; beyond that it leaves the boot's journal
marks and log record and what firings touch (R283, R419). -/
theorem State.restartDone_frame (s : State) (htest : s.dbgBlock.testMode = false) :
    ∃ (time : TimeUnit) (boot : Boot) (mgmt : Mgmt) (log : List FaultRec) (seq : Nat) (r : Router) (p : Power) (w : List Bool),
      time.carried = true ∧ boot.bootRec = s.boot.bootRec ∧ mgmt.up = true ∧
      s.restartDone = State.withEvents { s with
        faults := { s.faults with tripped := false }, time := time, boot := boot, mgmt := mgmt
        aon := { s.aon with log := log, nextSeq := seq } } r p w := by
  obtain ⟨time, r, p, w, hcarried, hcarry⟩ := State.carry_frame { s with faults := { s.faults with tripped := false } }
  obtain ⟨_, _, _, _, _, log, seq, hboot⟩ := State.bootUp_frame (State.withEvents { s with
    faults := { s.faults with tripped := false }, time := time } r p w) false htest
  unfold State.restartDone
  rw [hcarry, hboot]
  obtain ⟨r, p, w, hfire⟩ := State.fireIf_frame _ s.faults.tripped 24
  refine ⟨_, _, _, log, seq, r, p, w, hcarried, ?_, ?_, hfire⟩ <;> rfl

/-- A management restart that begins stops the firmware, clears its memory and ends the mailbox commands; the array,
the DMA channels, field I/O and the time go on (R13, R14, R398). -/
theorem State.mgmtRestart_begins (s : State) (other : Bool) (hup : s.mgmt.up = true) (hr : s.mgmt.restarting = false) :
    ∃ t, s.mgmtRestart other = t ∧ t.mgmt.restarting = true ∧ t.mgmt.up = false ∧ t.mgmt.mem = [] ∧
      t.mgmt.restartAt = s.now ∧ t.mgmt.otherBank = other ∧ t.tiles = s.tiles ∧ t.gates = s.gates ∧
      t.queues = s.queues ∧ t.chans = s.chans ∧ t.fio = s.fio ∧ t.time = s.time ∧
      ∀ m < 8, (s.mbx m).st = 1 ∨ (s.mbx m).st = 2 → (t.mbx m).EndedAs 0x0B := by
  obtain ⟨hends, hboxes⟩ := s.abortAllMbx_ends
  unfold State.mgmtRestart
  rw [if_neg (by simp [hr]), if_neg (by simp [hup])]
  generalize s.abortAllMbx = u at hends hboxes
  obtain ⟨_, _, _, _, _, _, _, _, rfl⟩ := hends
  exact ⟨_, rfl, rfl, rfl, rfl, rfl, rfl, rfl, rfl, rfl, rfl, rfl, rfl, hboxes⟩

/-- Settles O39. -/
theorem deviceResets : Obligations.DeviceResets := by
  unfold Obligations.DeviceResets
  intro c both s htest
  refine ⟨?_, coldStart_testMode s both, ?_, ?_, ?_, ?_, ?_⟩
  · obtain ⟨t, ht, hfaults, haon, htiles, hqueues, hchans, hflight, hpool, hbuf, hup, hgates, hrest⟩ :=
      coldStart_outcome s both
    exact ⟨t, ht, by rw [hfaults], by rw [haon], htiles, hqueues, hchans, hflight, hpool, hbuf, by rw [hfaults], hup,
      by rw [hgates]; rfl, by rw [hgates]; rfl, hrest⟩
  · intro hheld habsorb
    obtain ⟨_, _, _, _, _, _, _, _, hcarried, hrec, hup, hdone⟩ := s.restartCore.restartDone_frame htest
    refine ⟨s.deviceRestart none, by simp [exec, execDeviceRestart, ok, hheld, habsorb], ?_⟩
    rw [State.deviceRestart_of_held_nil hheld, hdone]
    refine ⟨rfl, rfl, rfl, rfl, rfl, hup, rfl, rfl, rfl, rfl, hrec, hcarried, rfl, rfl, fun n hn => ?_⟩
    change _ ∈ (s.restartCore.pin n).causes
    rw [State.restartCore_pin s hn]
    exact Pin.mem_hold _ _
  · intro hlive hup hrestarting
    obtain ⟨t, rfl, h⟩ := s.mgmtRestart_begins (c == .otherBank) hup hrestarting
    exact ⟨_, by simp [exec, execManagementRestart, ok, when_, hlive], h⟩
  · intro hlive hrestarting
    simp [exec, execManagementRestart, ok, when_, hlive, State.mgmtRestart, hrestarting]
  · intro habsorb
    simp [exec, execDeviceRestart, ok, habsorb]
  · simp [exec, execManagementRestart, ok, when_]
end Sys2Proof.Machine
end

section
/-! Restarts of tiles and courts (R13, R86, R170). -/

namespace Sys2Proof.Machine
open Sys2Proof.Safety

/-! ### A tile at its Cold registers -/

/-- The registers of R59 at their Cold values, where a tile restarts. -/
def Tile.ColdRegs (m : Tile) : Prop :=
  m.pc = 0 ∧ m.rsDepth = 0 ∧ m.en = 0x2000 ∧ m.act = 0 ∧ m.d = Vector.replicate 16 0 ∧
    m.p = Vector.replicate 8 0 ∧ m.fl = {}

/-- A decode-table entry that the firmware loads changes the shadow and the table alone (R137). -/
theorem Tile.loadEntry_frame (t : Tile) (e : Nat) (us : List W24) : ∃ sh ac v,
    t.loadEntry e us = { t with shadow := sh, active := ac, dtValid := v } := by
  unfold Tile.loadEntry Tile.commitEntry
  split <;> exact ⟨_, _, _, rfl⟩

theorem State.applyKept_frame (s : State) (l : Option Nat) (t : Tile) : ∃ sh ac v,
    s.applyKept l t = { t with shadow := sh, active := ac, dtValid := v } := by
  unfold State.applyKept
  split
  · exact ⟨_, _, _, rfl⟩
  · refine List.foldlRecOn (motive := fun m : Tile => ∃ sh ac v, m = { t with shadow := sh, active := ac, dtValid := v })
      _ _ ⟨_, _, _, rfl⟩ ?_
    rintro m ⟨sh, ac, v, rfl⟩ e -
    obtain ⟨_, _, _, h⟩ := Tile.loadEntry_frame _ e.1 e.2
    exact ⟨_, _, _, h⟩

/-- A restarted tile keeps its memory and has Cold registers; it runs again where it was started, once no management
restart holds its kept entries back (R13, R138). -/
theorem State.restartedTile_cold (s : State) (p : Nat) (started : Bool) :
    (s.restartedTile p started).mem = (s.tile p).mem ∧ (s.restartedTile p started).ColdRegs ∧
      (s.restartedTile p started).run =
        if started = false then .stopped else if s.mgmt.restarting = true then .resetWait else .running := by
  unfold State.restartedTile
  dsimp only
  split
  · next h => exact ⟨rfl, ⟨rfl, rfl, rfl, rfl, rfl, rfl, rfl⟩, by simp_all [Tile.cold]⟩
  · next h =>
    split
    · next hr => exact ⟨rfl, ⟨rfl, rfl, rfl, rfl, rfl, rfl, rfl⟩, by simp_all⟩
    · next hr =>
      obtain ⟨_, _, _, hk⟩ := s.applyKept_frame (s.identOf p) ((s.tile p).cold s.now)
      rw [hk]
      exact ⟨rfl, ⟨rfl, rfl, rfl, rfl, rfl, rfl, rfl⟩, by simp_all⟩

/-- What a restart makes of a tile depends on the tile, the time, the gates, the kept entries and whether the management
restarts. -/
theorem State.restartedTile_congr {s u : State} (p : Nat) (started : Bool) (ht : u.tile p = s.tile p)
    (hn : u.now = s.now) (hg : u.gates = s.gates) (hb : u.boot = s.boot) (hm : u.mgmt = s.mgmt) :
    u.restartedTile p started = s.restartedTile p started := by
  simp only [State.restartedTile, State.applyKept, State.identOf, State.logicalOf, State.duplexOf, ht, hn, hg, hb, hm]

/-! ### The task of a restarted tile -/

theorem State.dropTask_frame (s : State) (l : Nat) : ∃ d, s.dropTask l = { s with disps := d } := by
  unfold State.dropTask
  dsimp only
  split <;> exact ⟨_, rfl⟩

/-- A dispatcher at its Cold values runs no task that could end. -/
theorem State.dropTask_disp_cold {s : State} {c : Nat} (h : s.disp c = {}) (l : Nat) : (s.dropTask l).disp c = {} := by
  unfold State.dropTask
  dsimp only
  split
  · exact h
  · next n hn =>
    by_cases hc : c = l / 64
    · rw [← hc, h] at hn
      exact absurd hn nofun
    · rw [State.setDisp_disp_ne _ _ hc, h]

/-- A tile restart changes the tile, and the dispatcher that ran a task there. -/
theorem State.restartTile_frame (s : State) (p : Nat) : ∃ d,
    s.restartTile p = { s.setTile p (s.restartedTile p ((s.tile p).run != .stopped)) with disps := d } := by
  unfold State.restartTile
  dsimp only
  split
  · exact ⟨_, rfl⟩
  · exact State.dropTask_frame _ _

theorem State.restartTile_disp_cold {s : State} {c : Nat} (h : s.disp c = {}) (p : Nat) :
    (s.restartTile p).disp c = {} := by
  unfold State.restartTile
  dsimp only
  split
  · exact h
  · exact State.dropTask_disp_cold (s := s.setTile p _) h _

/-! ### The tiles of a court -/

/-- Restarting the first `n` tiles of court `c` restarts each of them and leaves the others; the court's dispatcher,
once Cold, stays so. -/
theorem State.restartTiles (s : State) (c : Nat) (hc : s.disp c = {}) (n : Nat) : ∃ tiles disps,
    (List.range n).foldl (fun u i => u.restartTile (64 * c + i)) s = { s with tiles := tiles, disps := disps } ∧
      (∀ i < n, tget {} (64 * c + i) tiles =
        s.restartedTile (64 * c + i) ((s.tile (64 * c + i)).run != .stopped)) ∧
      (∀ i ≥ n, tget {} (64 * c + i) tiles = s.tile (64 * c + i)) ∧ tget {} c disps = {} := by
  induction n with
  | zero => exact ⟨_, _, rfl, nofun, fun _ _ => rfl, hc⟩
  | succ n ih =>
    obtain ⟨tiles, disps, hfold, hdone, hrest, hcold⟩ := ih
    rw [List.range_succ, List.foldl_append, List.foldl_cons, List.foldl_nil, hfold]
    obtain ⟨d, hd⟩ := State.restartTile_frame { s with tiles := tiles, disps := disps } (64 * c + n)
    have hself : State.tile { s with tiles := tiles, disps := disps } (64 * c + n) = s.tile (64 * c + n) :=
      hrest n (Nat.le_refl n)
    rw [State.restartedTile_congr (s := s) _ _ hself rfl rfl rfl rfl, hself] at hd
    refine ⟨_, _, hd, fun i hi => ?_, fun i hi => ?_, ?_⟩
    · by_cases hin : i = n
      · subst hin
        exact tget_tput_self _ _ _ _
      · rw [← hdone i (by omega)]
        exact tget_tput_ne _ _ (by omega) _
    · rw [← hrest i (by omega)]
      exact tget_tput_ne _ _ (by omega) _
    · have h := State.restartTile_disp_cold (s := { s with tiles := tiles, disps := disps }) hcold (64 * c + n)
      rw [hd] at h
      exact h

theorem tget_tdel_self {α : Type} (d : α) (k : Nat) (m : Table α) : tget d k (tdel k m) = d := by
  induction m with
  | nil => rfl
  | cons e r ih =>
    obtain ⟨i, u⟩ := e
    by_cases h : i = k
    · simpa [tdel, h] using ih
    · simpa [tdel, h, tget] using ih
end Sys2Proof.Machine
end

section
/-! Substitution onto a spare, the promotion of a duplex partner and a court's move onto the bench (R326 to R337). -/

namespace Sys2Proof.Machine
open Sys2Proof.Safety

/-! ### What the bench count's reports leave alone (R332) -/

theorem State.report_power {s : State} (h : s.power.st = .run) (a b c d e : Nat) :
    (s.report a b c d e).power = s.power := by
  unfold State.report
  rw [State.fire_power (by exact h)]
  rfl

theorem State.report_src_ne {s : State} (h : s.power.st = .run) {a n : Nat} (hn : n ≠ a) (b c d e : Nat) :
    (s.report a b c d e).src n = s.src n := by
  unfold State.report
  rw [State.fire_src_ne (by exact h) hn]
  rfl

/-- Reporting that the free spares run out changes the fault log and what firings touch, and only source 22. -/
theorem State.noteBench_frame (s : State) (k : Nat) :
    (s.noteBench k).tiles = s.tiles ∧ (s.noteBench k).gates = s.gates ∧ (s.noteBench k).faults = s.faults ∧
      (s.noteBench k).mgmt = s.mgmt ∧ (s.power.st = .run → (s.noteBench k).power = s.power ∧
        ∀ n ≠ 22, (s.noteBench k).src n = s.src n) := by
  unfold State.noteBench
  dsimp only
  split_ifs <;> refine ⟨by simp, by simp, by simp, by simp, fun h => ⟨?_, fun n hn => ?_⟩⟩
  · rw [State.report_power (by rwa [State.report_power h]), State.report_power h]
  · rw [State.report_src_ne (by rwa [State.report_power h]) hn, State.report_src_ne h hn]
  · rw [State.report_power h]
  · rw [State.report_src_ne h hn]
  · rw [State.report_power h]
  · rw [State.report_src_ne h hn]
  · rfl
  · rfl

/-! ### The new map (R168) -/

theorem State.fence_isFenced (s : State) (p : Nat) : (s.fence p).isFenced p = true := by
  unfold State.fence
  split
  · assumption
  · simp [State.isFenced]

theorem State.fence_isFenced_mono (s : State) (p : Nat) {q : Nat} (h : s.isFenced q = true) :
    (s.fence p).isFenced q = true := by
  unfold State.fence
  split
  · exact h
  · simp_all [State.isFenced]

/-- A fence changes the fences and the send-off counts alone. -/
theorem State.fence_frame (s : State) (p : Nat) : ∃ f o,
    s.fence p = { s with gates := { s.gates with fenced := f, offCount := o } } := by
  unfold State.fence
  split <;> exact ⟨_, _, rfl⟩

/-- Between `s` and gates `g`, logical tile `l` has moved from `old` to `new`, and the other tiles' entries stand. -/
structure Gates.MovedIn (s : State) (g : Gates) (l old new : Nat) : Prop where
  map : g.map = tput l (some new) s.gates.map
  serves : g.serves = tput new (some l) (tput old none s.gates.serves)
  caps : g.caps = tput l (nextCap (s.capOf l)) s.gates.caps
  fencedOld : g.fenced.contains old = true
  fencedMono : ∀ q, s.isFenced q = true → g.fenced.contains q = true

theorem State.remap_movedIn (s : State) (l old new : Nat) : Gates.MovedIn s (s.remap l old new).gates l old new := by
  obtain ⟨f, o, hf⟩ := s.fence_frame old
  have hold := s.fence_isFenced old
  have hmono := fun q => s.fence_isFenced_mono old (q := q)
  unfold State.remap
  rw [hf] at hold hmono ⊢
  exact ⟨rfl, rfl, rfl, hold, hmono⟩

/-- The new map touches the gates alone. -/
theorem State.remap_frame (s : State) (l old new : Nat) : ∃ g, s.remap l old new = { s with gates := g } := by
  obtain ⟨f, o, hf⟩ := s.fence_frame old
  unfold State.remap
  rw [hf]
  exact ⟨_, rfl⟩

/-- What a move of logical tile `l` from `old` to `new` leaves alone. -/
structure State.ElseKept (s t : State) (l old new : Nat) : Prop where
  physOf : ∀ k ≠ l, t.physOf k = s.physOf k
  capOf : ∀ k ≠ l, t.capOf k = s.capOf k
  tile : ∀ q ≠ new, t.tile q = s.tile q
  logicalOf : ∀ q ≠ new, q ≠ old → t.logicalOf q = s.logicalOf q
  fenced : ∀ q, s.isFenced q = true → t.isFenced q = true
  faults : t.faults = s.faults
  mgmt : t.mgmt = s.mgmt

/-! ### Memory, registers and start of the new tile (R326) -/

/-- Restoring a tile whose memory can be copied: the new tile has Cold registers and the old one's memory, it is
started where the old one was, and source 16 fires. -/
theorem State.restoreTile_copies (s : State) {l old new action : Nat} (hphys : s.physOf l = some new)
    (hbad : (s.tile old).bad = []) :
    ∃ t, s.restoreTile ⟨l, old, false, action⟩ false = t ∧ t.gates = s.gates ∧ t.faults = s.faults ∧ t.mgmt = s.mgmt ∧
      (∀ q ≠ new, t.tile q = s.tile q) ∧ (t.tile new).mem = (s.tile old).mem ∧ (t.tile new).ColdRegs ∧
      (t.tile new).run = (if (s.tile old).run = .stopped then RunState.stopped else .running) ∧
      (s.power.st = .run → (t.src 16).fires = (s.src 16).fires + 1) := by
  have hmem : s.restoredMem l old false = some (s.tile old).mem := by simp [State.restoredMem, hbad]
  unfold State.restoreTile
  simp only [hphys, hmem]
  generalize hu : State.applyKept s (some l) _ = u
  obtain ⟨_, _, _, hk⟩ := s.applyKept_frame (some l) _
  rw [hk] at hu
  obtain ⟨d, hd⟩ := State.dropTask_frame (State.logAs (s.setTile new u) _ _ _ _ _ _ _ _) l
  rw [hd]
  refine ⟨_, rfl, State.fire_gates .., State.fire_faults .., State.fire_mgmt .., fun q hq => ?_, ?_, ?_, ?_, fun h => ?_⟩
  · rw [State.fire_tile]
    exact State.setTile_tile_ne _ _ hq
  · rw [State.fire_tile]
    change ((s.setTile new u).tile new).mem = _
    rw [State.setTile_tile, ← hu]
  · rw [State.fire_tile]
    change ((s.setTile new u).tile new).ColdRegs
    rw [State.setTile_tile, ← hu]
    exact ⟨rfl, rfl, rfl, rfl, rfl, rfl, rfl⟩
  · rw [State.fire_tile]
    change ((s.setTile new u).tile new).run = _
    rw [State.setTile_tile, ← hu]
    simp
  · rw [State.fire_src_self (by exact h) rfl]
    rfl

/-- A move that the gates have made and whose memory can be copied is a move of the tile. -/
theorem State.moved_of_movedIn {s v : State} {l old new : Nat} (action : Nat)
    (hg : Gates.MovedIn s v.gates l old new) (htiles : v.tiles = s.tiles) (hfaults : v.faults = s.faults)
    (hmgmt : v.mgmt = s.mgmt) (hr : s.mgmt.restarting = false) (hbad : (s.tile old).bad = [])
    (hport : old ∉ s.faults.deadPorts) :
    Moved s (v.restoreOrDefer ⟨l, old, false, action⟩) l old new ∧
      State.ElseKept s (v.restoreOrDefer ⟨l, old, false, action⟩) l old new ∧
      (v.power.st = .run → ((v.restoreOrDefer ⟨l, old, false, action⟩).src 16).fires = (v.src 16).fires + 1) := by
  have htile (q : Nat) : v.tile q = s.tile q := by simp only [State.tile, htiles]
  obtain ⟨hmap, hserves, hcaps, hold, hmono⟩ := hg
  have hphys : v.physOf l = some new := by rw [State.physOf, hmap, tget_tput_self]
  obtain ⟨t, ht, hgates, hf, hm, hother, hmem, ⟨hpc, -, -, -, hd, hp, -⟩, hrun, hfires⟩ :=
    v.restoreTile_copies (action := action) hphys (by rw [htile, hbad])
  have heq : v.restoreOrDefer ⟨l, old, false, action⟩ = t := by
    rw [← ht]
    simp [State.restoreOrDefer, hmgmt, hr, hfaults, hport]
  rw [heq]
  refine ⟨⟨?_, ?_, ?_, ?_, ?_, hpc, hd, hp, ?_⟩, ⟨fun k hk => ?_, fun k hk => ?_, fun q hq => ?_, fun q hq hq' => ?_,
    fun q hq => ?_, hf.trans hfaults, hm.trans hmgmt⟩, hfires⟩
  · rw [State.physOf, hgates, hmap, tget_tput_self]
  · rw [State.logicalOf, hgates, hserves, tget_tput_self]
  · rw [State.isFenced, hgates, hold]
  · rw [State.capOf, hgates, hcaps, tget_tput_self]
  · rw [hmem, htile]
  · rw [hrun, htile]
  · rw [State.physOf, hgates, hmap, tget_tput_ne _ _ hk, State.physOf]
  · rw [State.capOf, hgates, hcaps, tget_tput_ne _ _ hk, State.capOf]
  · rw [hother q hq, htile]
  · rw [State.logicalOf, hgates, hserves, tget_tput_ne _ _ hq, tget_tput_ne _ _ hq', State.logicalOf]
  · rw [State.isFenced, hgates, hmono q hq]

/-! ### A substitution onto the lowest free spare (R325, R326) -/

theorem State.substitute_moves (s : State) {l old new : Nat} (hphys : s.physOf l = some old)
    (hrun : s.power.st = .run) (hr : s.mgmt.restarting = false) (hbad : (s.tile old).bad = [])
    (hport : old ∉ s.faults.deadPorts) :
    Moved s (s.substitute l new false) l old new ∧
      ((s.substitute l new false).src 16).fires = (s.src 16).fires + 1 := by
  obtain ⟨g, hremap⟩ := s.remap_frame l old new
  have hg := s.remap_movedIn l old new
  obtain ⟨htiles, hgates, hfaults, hmgmt, hkept⟩ := (s.remap l old new).noteBench_frame s.freeSpares.length
  obtain ⟨hpower, hsrc⟩ := hkept (by rw [hremap]; exact hrun)
  obtain ⟨hmoved, -, hfires⟩ := State.moved_of_movedIn (v := (s.remap l old new).noteBench s.freeSpares.length) 4
    (by rwa [hgates]) (by rw [htiles, hremap]) (by rw [hfaults, hremap]) (by rw [hmgmt, hremap]) hr hbad hport
  have heq : s.substitute l new false =
      ((s.remap l old new).noteBench s.freeSpares.length).restoreOrDefer ⟨l, old, false, 4⟩ := by
    simp [State.substitute, hphys, State.withBench]
  rw [heq]
  refine ⟨hmoved, ?_⟩
  rw [hfires (by rw [hpower, hremap]; exact hrun), hsrc 16 (by decide), hremap]
  rfl

/-! ### The end of every claim (R332) -/

/-- What the release of claims leaves alone: the tiles and the gates. -/
def State.SameArray (s t : State) : Prop := t.tiles = s.tiles ∧ t.gates = s.gates

theorem State.SameArray.trans {s t u : State} (h : s.SameArray t) (h' : t.SameArray u) : s.SameArray u :=
  ⟨h'.1.trans h.1, h'.2.trans h.2⟩

theorem State.SameArray.foldl {α : Type} {f : State → α → State} (h : ∀ u a, State.SameArray u (f u a))
    (l : List α) (s : State) : s.SameArray (l.foldl f s) :=
  List.foldlRecOn (motive := s.SameArray) _ _ ⟨rfl, rfl⟩ fun u hu a _ => hu.trans (h u a)

theorem State.SameArray.ite {s t : State} {c : Prop} [Decidable c] (h : s.SameArray t) :
    s.SameArray (if c then t else s) := by
  split
  · exact h
  · exact ⟨rfl, rfl⟩

theorem State.unpreempt_sameArray (s : State) (ch : Nat) : s.SameArray (s.unpreempt ch) := by
  unfold State.unpreempt
  dsimp only
  refine .foldl (fun u k => ?_) _ _
  exact ⟨rfl, rfl⟩

theorem State.chanReset_sameArray (s : State) (ch : Nat) : s.SameArray (s.chanReset ch) := by
  have fireIf (u : State) (c : Bool) (n : Nat) : u.SameArray (u.fireIf c n) := ⟨by simp, by simp⟩
  unfold State.chanReset
  refine .trans (.trans ?_ (State.unpreempt_sameArray _ ch)) (fireIf _ _ _)
  exact ⟨rfl, rfl⟩

theorem State.safeRouted_sameArray (s : State) (func n : Nat) : s.SameArray (s.safeRouted func n) := by
  unfold State.safeRouted State.mapPins
  exact ⟨rfl, rfl⟩

theorem State.releaseTimer_sameArray (s : State) (n : Nat) : s.SameArray (s.releaseTimer n) := by
  have set (u : State) (v : Timer) (h : s.SameArray u) : s.SameArray (u.setTimer n v) := h
  exact set _ _ (s.safeRouted_sameArray 2 n)

theorem State.releaseSer_sameArray (s : State) (n : Nat) : s.SameArray (s.releaseSer n) := by
  have set (u : State) (v : Ser) (h : s.SameArray u) : s.SameArray (u.setSer n v) := h
  exact set _ _ (s.safeRouted_sameArray 3 n)

theorem State.releaseChan_sameArray (s : State) (n : Nat) : s.SameArray (s.releaseChan n) := by
  have set (u : State) (v : Chan) (h : s.SameArray u) : s.SameArray (u.setChan n v) := h
  exact set _ _ (s.chanReset_sameArray n)

/-- Releasing the claims of an owner leaves the tiles and the gates alone. -/
theorem State.releaseAll_sameArray (s : State) (o : Nat) : s.SameArray (s.releaseAll o) := by
  unfold State.releaseAll
  refine .trans (.trans (.trans (.foldl ?_ _ _) (.foldl ?_ _ _)) (.foldl ?_ _ _)) (.foldl ?_ _ _)
  · exact fun u n => .ite ⟨rfl, rfl⟩
  · exact fun u n => .ite (u.releaseTimer_sameArray n)
  · exact fun u n => .ite (u.releaseSer_sameArray n)
  · exact fun u n => .ite (u.releaseChan_sameArray n)

/-- Without a spare the tile stays fenced, and nothing else of the array changes (R332). -/
theorem State.noSpare_fences (s : State) (l p : Nat) :
    (s.noSpare l p).isFenced p = true ∧ (s.noSpare l p).gates.map = s.gates.map ∧ (s.noSpare l p).tiles = s.tiles := by
  have hfenced := s.fence_isFenced p
  obtain ⟨f, o, hf⟩ := s.fence_frame p
  obtain ⟨d, hd⟩ := (s.fence p).dropTask_frame l
  have hsame : State.SameArray (s.fence p) (s.noSpare l p) := by
    unfold State.noSpare State.releaseLogical
    rw [hd]
    split
    · exact ⟨rfl, rfl⟩
    · refine .trans ?_ (State.releaseAll_sameArray _ l)
      exact ⟨rfl, rfl⟩
  obtain ⟨htiles, hgates⟩ := hsame
  exact ⟨by rwa [State.isFenced, hgates], by rw [hgates, hf], by rw [htiles, hf]⟩

/-! ### Promotion (R337) -/

/-- The partner of a duplex tile takes over in its gate, and source 16 fires. -/
theorem State.promote_moves (s : State) (l : Nat) (d : Duplex) (hheld : d.held = []) (hauto : d.auto = false)
    (hrun : s.power.st = .run) :
    ∃ t, s.promote l d = t ∧ t.physOf l = some d.partner ∧ t.logicalOf d.partner = some l ∧
      t.isFenced d.primary = true ∧ t.capOf l = nextCap (s.capOf l) ∧ tfind? l t.gates.duplex = none ∧
      t.tiles = s.tiles ∧ (t.src 16).fires = (s.src 16).fires + 1 := by
  obtain ⟨hmap, hserves, hcaps, hold, -⟩ := s.remap_movedIn l d.primary d.partner
  obtain ⟨g, hremap⟩ := s.remap_frame l d.primary d.partner
  rw [hremap] at hmap hserves hcaps hold
  have hrePair (u : State) : u.rePair l false = u := by simp [State.rePair]
  unfold State.promote State.releaseHeld
  simp only [hheld, hauto, List.foldl_nil, hrePair, hremap]
  refine ⟨_, rfl, ?_, ?_, ?_, ?_, ?_, ?_, ?_⟩
  · rw [State.physOf, State.fire_gates]
    exact (congrArg (tget _ l) hmap).trans (tget_tput_self ..)
  · rw [State.logicalOf, State.fire_gates]
    exact (congrArg (tget _ d.partner) hserves).trans (tget_tput_self ..)
  · rw [State.isFenced, State.fire_gates]
    exact hold
  · rw [State.capOf, State.fire_gates]
    exact (congrArg (tget _ l) hcaps).trans (tget_tput_self ..)
  · rw [State.fire_gates]
    exact tfind?_tdel_self ..
  · rw [State.fire_tiles]
    rfl
  · rw [State.fire_src_self (by exact hrun) rfl]
    rfl

/-! ### A court moves onto the bench (R331) -/

theorem State.moveTile_moves (s : State) {c i : Nat} (hphys : s.physOf (64 * c + i) = some (64 * c + i))
    (hr : s.mgmt.restarting = false) (hbad : (s.tile (64 * c + i)).bad = []) (hport : 64 * c + i ∉ s.faults.deadPorts) :
    Moved s (s.moveTile c i) (64 * c + i) (64 * c + i) (1024 + i) ∧
      State.ElseKept s (s.moveTile c i) (64 * c + i) (64 * c + i) (1024 + i) := by
  obtain ⟨g, hremap⟩ := s.remap_frame (64 * c + i) (64 * c + i) (1024 + i)
  have hg := s.remap_movedIn (64 * c + i) (64 * c + i) (1024 + i)
  unfold State.moveTile
  simp only [hphys, hremap]
  rw [hremap] at hg
  obtain ⟨hmap, hserves, hcaps, hold, hmono⟩ := hg
  obtain ⟨hmoved, helse, -⟩ := State.moved_of_movedIn (s := s) (v := { s with
    gates := { g with duplex := tdel (64 * c + i) g.duplex } }) 6 ⟨hmap, hserves, hcaps, hold, hmono⟩
    rfl rfl rfl hr hbad hport
  exact ⟨hmoved, helse⟩

/-- A later move of another tile to another place leaves a move standing. -/
theorem moved_kept {s t u : State} {l old new l' old' new' : Nat} (h : Moved s t l old new)
    (hk : State.ElseKept t u l' old' new') (hl : l ≠ l') (hn : new ≠ new') (ho : new ≠ old') : Moved s u l old new := by
  obtain ⟨hphys, hlog, hfenced, hcap, hmem, hpc, hd, hp, hrun⟩ := h
  refine ⟨?_, ?_, hk.fenced _ hfenced, ?_, ?_⟩
  · rw [hk.physOf l hl, hphys]
  · rw [hk.logicalOf new hn ho, hlog]
  · rw [hk.capOf l hl, hcap]
  · rw [hk.tile new hn]
    exact ⟨hmem, hpc, hd, hp, hrun⟩

/-- A move counts from an earlier state where the tile and its cap were the same. -/
theorem moved_from {s t u : State} {l old new : Nat} (h : Moved t u l old new) (hc : t.capOf l = s.capOf l)
    (ht : t.tile old = s.tile old) : Moved s u l old new := by
  unfold Moved at *
  rwa [hc, ht] at h

/-- A move stands where the tiles and the gates are the same. -/
theorem moved_congr {s t u : State} {l old new : Nat} (h : Moved s t l old new) (hs : t.SameArray u) :
    Moved s u l old new := by
  obtain ⟨htiles, hgates⟩ := hs
  simpa only [Moved, State.physOf, State.logicalOf, State.isFenced, State.capOf, State.tile, htiles, hgates] using h

/-- After the first `n` moves of court `c`, its first `n` tiles have moved and the others are as they were. -/
theorem State.moveTiles (s : State) {c : Nat} (hc : c < 16) (hr : s.mgmt.restarting = false)
    (hall : ∀ j < 64, s.physOf (64 * c + j) = some (64 * c + j) ∧ (s.tile (64 * c + j)).bad = [] ∧
      64 * c + j ∉ s.faults.deadPorts) (n : Nat) (hn : n ≤ 64) :
    ∃ t, (List.range n).foldl (fun v i => v.moveTile c i) s = t ∧
      (∀ i < n, Moved s t (64 * c + i) (64 * c + i) (1024 + i)) ∧
      (∀ j ≥ n, j < 64 → t.physOf (64 * c + j) = s.physOf (64 * c + j) ∧ t.capOf (64 * c + j) = s.capOf (64 * c + j) ∧
        t.tile (64 * c + j) = s.tile (64 * c + j)) ∧
      t.faults = s.faults ∧ t.mgmt = s.mgmt := by
  induction n with
  | zero => exact ⟨s, rfl, nofun, fun _ _ _ => ⟨rfl, rfl, rfl⟩, rfl, rfl⟩
  | succ n ih =>
    obtain ⟨t, ht, hmoved, hrest, hfaults, hmgmt⟩ := ih (by omega)
    obtain ⟨hphys, hcap, htile⟩ := hrest n (Nat.le_refl n) (by omega)
    obtain ⟨hsphys, hsbad, hsport⟩ := hall n (by omega)
    obtain ⟨hm, hk⟩ := t.moveTile_moves (hphys.trans hsphys) (by rw [hmgmt, hr]) (by rw [htile, hsbad])
      (by rwa [hfaults])
    rw [List.range_succ, List.foldl_append, List.foldl_cons, List.foldl_nil, ht]
    refine ⟨_, rfl, fun i hi => ?_, fun j hj hj64 => ?_, hk.faults.trans hfaults, hk.mgmt.trans hmgmt⟩
    · by_cases hin : i = n
      · subst hin
        exact moved_from hm hcap htile
      · exact moved_kept (hmoved i (by omega)) hk (by omega) (by omega) (by omega)
    · obtain ⟨hphys', hcap', htile'⟩ := hrest j (by omega) hj64
      exact ⟨(hk.physOf _ (by omega)).trans hphys', (hk.capOf _ (by omega)).trans hcap',
        (hk.tile _ (by omega)).trans htile'⟩

end Sys2Proof.Machine
end

section
/-! Substitutions and restarts: the statement, from the moves and restarts before. -/

namespace Sys2Proof.Machine
open Sys2Proof.Safety

theorem State.running_iff {s : State} : s.running = true ↔ s.power.st = .run ∧ s.inHold = false := by
  simp [State.running]

theorem State.live_of_running {s : State} (h : s.running = true) : s.live = true := by
  obtain ⟨hrun, hhold⟩ := State.running_iff.mp h
  simp [State.live, hrun, hhold]

/-- A court restart: each of its tiles restarts, its dispatcher is Cold, and the requests that its tiles had accepted
draw ERROR 0x84 (R13, R170). -/
theorem State.courtRestart_restarts (s : State) (c : Nat) (accepted : List Msg)
    (hacc : ∀ m ∈ accepted, m ∈ s.flight ∧ s.toCourt c m = true) :
    ∃ t, s.courtRestart c accepted = t ∧
      (∀ i < 64, t.tile (64 * c + i) = s.restartedTile (64 * c + i) ((s.tile (64 * c + i)).run != .stopped)) ∧
      t.flight = s.flight.filter (fun m => !accepted.contains m) ∧
      t.replies = s.replies ++ (s.flight.filter fun m => accepted.contains m).map resetError ∧
      t.disp c = {} ∧ t.gates = s.gates := by
  have hto (m : Msg) : (accepted.contains m && s.toCourt c m) = accepted.contains m := by
    cases h : accepted.contains m
    · rfl
    · exact (hacc m (by simpa using h)).2
  unfold State.courtRestart State.endRequests
  simp only [hto]
  obtain ⟨tiles, disps, hfold, hdone, -, hcold⟩ := State.restartTiles { s with
    flight := s.flight.filter fun m => !accepted.contains m
    replies := s.replies ++ (s.flight.filter fun m => accepted.contains m).map resetError
    disps := tdel c s.disps } c (tget_tdel_self _ _ _) 64
  rw [hfold]
  exact ⟨_, rfl, hdone, rfl, rfl, hcold, rfl⟩

/-- ERROR 0x84, byte by byte; an answer to the event router carries the source (R170). -/
theorem resetError_eq (m : Msg) : resetError m =
    { kind := .error, dstPhys := m.srcPhys, dstId := m.srcId, tag := m.tag, cap := m.cap, status := 0x84
      data := if m.kind = .event ∧ m.srcPhys = 0x7FF ∧ m.srcId = 0x400 then sliceB m.data 2 2 else [0x84, 0, 0, 0]
      badCrc := false, hub := m.hub } := by
  have hrouter : fromRouter m = true ↔ m.kind = .event ∧ m.srcPhys = 0x7FF ∧ m.srcId = 0x400 := by
    simp only [fromRouter, Bool.and_eq_true, beq_iff_eq]
    tauto
  unfold resetError answerTo
  simp only [hrouter]
  split <;> rfl

/-- From `s` to `t` physical tile `q` has restarted: its memory stays, its registers are Cold, and it starts again where it
was started, once no management restart holds it (R13, R138). -/
def State.Restarted (s t : State) (q : Nat) : Prop :=
  (t.tile q).mem = (s.tile q).mem ∧ (t.tile q).pc = 0 ∧ (t.tile q).rsDepth = 0 ∧ (t.tile q).en = 0x2000 ∧
    (t.tile q).act = 0 ∧ (t.tile q).d = Vector.replicate 16 0 ∧ (t.tile q).fl = {} ∧
    ((s.tile q).run = .stopped → (t.tile q).run = .stopped) ∧
    ((s.tile q).run ≠ .stopped → s.mgmt.restarting = false → (t.tile q).run = .running) ∧
    ((s.tile q).run ≠ .stopped → s.mgmt.restarting = true → (t.tile q).run = .resetWait)

theorem State.Restarted.of_restartedTile {s t : State} {q : Nat}
    (h : t.tile q = s.restartedTile q ((s.tile q).run != .stopped)) : s.Restarted t q := by
  obtain ⟨hmem, ⟨hpc, hrs, hen, hact, hd, -, hfl⟩, hrun⟩ := s.restartedTile_cold q ((s.tile q).run != .stopped)
  rw [← h] at hmem hpc hrs hen hact hd hfl hrun
  refine ⟨hmem, hpc, hrs, hen, hact, hd, hfl, fun hs => ?_, fun hs hr => ?_, fun hs hr => ?_⟩
  · rw [hrun, if_pos (by simp [hs])]
  · rw [hrun, if_neg (by simp [hs]), if_neg (by simp [hr])]
  · rw [hrun, if_neg (by simp [hs]), if_pos hr]

/-- A tile restart restarts the tile, and leaves the gates and the other tiles (R13). -/
theorem State.restartTile_restarts (s : State) (p : Nat) :
    ∃ t, s.restartTile p = t ∧ s.Restarted t p ∧ t.gates = s.gates ∧ t.faults = s.faults ∧
      ∀ q ≠ p, t.tile q = s.tile q := by
  obtain ⟨d, hd⟩ := s.restartTile_frame p
  rw [hd]
  exact ⟨_, rfl, .of_restartedTile (s.setTile_tile p _), rfl, rfl, fun q hq => s.setTile_tile_ne _ hq⟩

/-- With the whole bench free, all tiles of a court move onto it (R331). -/
theorem State.moveCourt_moves (s : State) {c : Nat} (hc : c < 16) (hr : s.mgmt.restarting = false)
    (hall : ∀ j < 64, s.physOf (64 * c + j) = some (64 * c + j) ∧ (s.tile (64 * c + j)).bad = [] ∧
      64 * c + j ∉ s.faults.deadPorts) {i : Nat} (hi : i < 64) :
    Moved s (s.moveCourt c) (64 * c + i) (64 * c + i) (1024 + i) := by
  obtain ⟨t, ht, hmoved, -⟩ := s.moveTiles hc hr hall 64 (Nat.le_refl 64)
  unfold State.moveCourt State.withBench
  dsimp only
  rw [ht]
  obtain ⟨htiles, hgates, -⟩ := t.noteBench_frame s.freeSpares.length
  exact moved_congr (hmoved i hi) ⟨htiles, hgates⟩

theorem State.substituteLowest_of_spare {s : State} {q : Nat} (h : s.freeSpares.head? = some q) (l : Nat) (bad : Bool) :
    s.substituteLowest l bad = s.substitute l q bad := by
  unfold State.substituteLowest
  rw [h]

theorem State.substituteLowest_of_none {s : State} {l p : Nat} (h : s.freeSpares.head? = none)
    (hp : s.physOf l = some p) (bad : Bool) : s.substituteLowest l bad = s.noSpare l p := by
  unfold State.substituteLowest
  rw [h]
  dsimp only
  rw [hp]

/-! ### What each command does -/

theorem exec_tileSubstitution {s : State} {l : Nat} (hs : s.running = true) (hl : l < 1024)
    (hd : tfind? l s.gates.duplex = none) :
    exec (.tileSubstitution l false) s = .next (s.substituteLowest l false) := by
  simp [exec, execTileSubstitution, ok, when_, hl, hd, hs]

theorem exec_duplexPromotion {s : State} {l : Nat} {d : Duplex} (hs : s.running = true) (hl : l < 1024)
    (hd : tfind? l s.gates.duplex = some d) : exec (.duplexPromotion l) s = .next (s.promote l d) := by
  simp [exec, execDuplexPromotion, ok, when_, hl, hd, hs]

theorem exec_courtSubstitution {s : State} {c : Nat} (hs : s.running = true) (hc : c < 16) (hb : s.benchFree = true) :
    exec (.courtSubstitution c) s = .next (s.moveCourt c) := by
  simp [exec, execCourtSubstitution, ok, when_, State.courtFails, hc, hb, hs]

theorem exec_courtRestart {s : State} {c : Nat} (hs : s.live = true) (hc : c < 16) (accepted : List Msg) :
    exec (.courtRestart ⟨c, false, accepted⟩) s = .next (s.courtRestart c accepted) := by
  simp [exec, execCourtRestart, ok, when_, hs, show c < 17 by omega]

theorem exec_tileRestart {s : State} {p : Nat} (hs : s.live = true) (hp : p < 1088) (hh : (s.tile p).run ≠ .halted) :
    exec (.tileRestart ⟨p, false⟩) s = .next (s.restartTile p) := by
  simp [exec, execTileRestart, ok, when_, hs, hp, hh]

/-- The restart that follows a first double trap is remembered (R325). -/
theorem exec_tileRestart_halted {s : State} {p : Nat} (hs : s.live = true) (hp : p < 1088)
    (hh : (s.tile p).run = .halted) (hf : tfind? p s.faults.doubleAt = none) :
    exec (.tileRestart ⟨p, false⟩) s = .next (State.restartTile { s with
      faults := { s.faults with doubleAt := tput p s.wall s.faults.doubleAt } } p) := by
  simp [exec, execTileRestart, ok, when_, hs, hp, hh, hf]

/-- A tile whose double trap recurred fails, and its logical tile moves to a spare (R86, R325). -/
theorem exec_tileRestart_again {s : State} {p l t : Nat} (hs : s.live = true) (hp : p < 1088)
    (hh : (s.tile p).run = .halted) (ht : tfind? p s.faults.doubleAt = some t)
    (hagain : (s.tile p).dblAt < t + 200000000) (hd : s.duplexOf p = none) (hl : s.logicalOf p = some l) :
    exec (.tileRestart ⟨p, false⟩) s = .next (s.substituteLowest l false) := by
  have hrecurs : ((tfind? p s.faults.doubleAt).any fun t => decide ((s.tile p).dblAt < t + 200000000)) = true := by
    rw [ht, Option.any_some, decide_eq_true hagain]
  simp only [exec, execTileRestart, ok, when_, hs, hp, hh, hrecurs, State.tileFails, hd, hl, Bool.not_false,
    Bool.and_self, beq_self_eq_true, decide_true, if_true]

/-- Settles O38. -/
theorem substitutionsAndRestarts : Obligations.SubstitutionsAndRestarts := by
  unfold Obligations.SubstitutionsAndRestarts
  intro l p c accepted s hl hp hc hrunning _ _ _
  obtain ⟨hrun, -⟩ := State.running_iff.mp hrunning
  have hlive := State.live_of_running hrunning
  refine ⟨?_, ?_, ?_, ?_, ?_, ?_, ?_, ?_, ?_, ?_⟩
  · intro q hq hd hr old hphys hbad hport _
    refine ⟨s.substitute l q false, ?_, s.substitute_moves hphys hrun hr hbad hport⟩
    rw [exec_tileSubstitution hrunning hl hd, State.substituteLowest_of_spare hq]
  · intro hq hd old hphys
    obtain ⟨hfenced, hmap, htiles⟩ := s.noSpare_fences l old
    refine ⟨s.noSpare l old, ?_, hfenced, ?_, htiles⟩
    · rw [exec_tileSubstitution hrunning hl hd, State.substituteLowest_of_none hq hphys]
    · rw [← hphys, State.physOf, hmap, State.physOf]
  · intro d hd hheld _ hauto
    obtain ⟨t, rfl, h⟩ := s.promote_moves l d hheld hauto hrun
    exact ⟨_, exec_duplexPromotion hrunning hl hd, h⟩
  · intro hbench hr i hi _ hall
    exact ⟨_, exec_courtSubstitution hrunning hc hbench, s.moveCourt_moves hc hr hall hi⟩
  · intro hacc
    obtain ⟨t, rfl, htiles, hflight, hreplies, hdisp, hgates⟩ := s.courtRestart_restarts c accepted hacc
    rw [funext resetError_eq] at hreplies
    exact ⟨_, exec_courtRestart hlive hc accepted, fun i hi => State.Restarted.of_restartedTile (htiles i hi), hflight, hreplies,
      by rw [hdisp], by rw [hdisp], hgates⟩
  · intro hhalted
    obtain ⟨t, rfl, hrestarted, hgates, -, hothers⟩ := s.restartTile_restarts p
    exact ⟨_, exec_tileRestart hlive hp hhalted, hrestarted, hgates, hothers⟩
  · intro hhalted hfirst
    obtain ⟨t, ht, hrestarted, -, hfaults, -⟩ := State.restartTile_restarts { s with
      faults := { s.faults with doubleAt := tput p s.wall s.faults.doubleAt } } p
    refine ⟨t, by rw [exec_tileRestart_halted hlive hp hhalted hfirst, ht], hrestarted, ?_⟩
    rw [hfaults]
    exact tfind?_tput_self _ _ _
  · intro t0 hhalted ht0 hagain hd hlog hdl
    rw [exec_tileRestart_again hlive hp hhalted ht0 hagain hd hlog, exec_tileSubstitution hrunning hl hdl]
  · simp [exec, execCourtRestart, ok, when_, show c < 17 by omega]
  · simp [exec, execTileRestart, ok, when_, hp]
end Sys2Proof.Machine
end

section
/-! Register accesses: what a read and a write of a word does for a master that reaches it (R7, R21, R22, R26). -/

namespace Sys2Proof.Machine
open Sys2Proof.Safety

/-! ### Bytes and fields of a word -/

/-- A field of the lowest bits of a register. -/
theorem fld_zero (v : W32) (w : Nat) : fld v 0 w = v.toNat % 2 ^ w := by simp [fld, bitsOf]

theorem ofNat_fld_zero (v : W32) (w : Nat) : BitVec.ofNat w (fld v 0 w) = BitVec.ofNat w v.toNat := by
  rw [fld_zero]
  exact BitVec.eq_of_toNat_eq (by simp)

theorem leBytes_mod (n k : Nat) : leBytes (n % 256 ^ k) k = leBytes n k := by
  induction k generalizing n with
  | zero => rfl
  | succ k ih =>
    have hlow : BitVec.ofNat 8 (n % 256 ^ (k + 1)) = BitVec.ofNat 8 n := by
      apply BitVec.eq_of_toNat_eq
      simp
    rw [leBytes, leBytes, hlow, Nat.pow_succ', Nat.mod_mul_right_div_self, ih]

/-- The first bytes of a word are the word's. -/
theorem sliceB_self (bs : List Byte) : sliceB bs 0 bs.length = bs := by
  apply List.ext_getElem
  · simp [sliceB]
  · intro i h1 h2
    simp [sliceB, List.getElem?_eq_getElem h2]

/-! ### An aligned word that is read -/

/-- The addresses of the read actions: QUEUE_POP of a queue and POOL_TAKE (R181, R198). -/
def PlainRead (a : Nat) : Prop := a % 4 = 0 ∧ touchesPop a 4 = false ∧ touchesTake a 4 = false

theorem State.rdRegs_plain (s : State) (w : Who) (mute : Bool) {a : Nat} (h : PlainRead a) :
    s.rdRegs w mute a 4 = ((s.rdWord w mute a).1, leBytes (s.rdWord w mute a).2 4) := by
  obtain ⟨halign, hpop, htake⟩ := h
  have hne : (a == 0x100A0000) = false := by
    simp only [touchesTake, Bool.and_eq_false_iff, decide_eq_false_iff_not] at htake
    simp only [beq_eq_false_iff_ne]
    omega
  have hwords : (a + 4 + 3) / 4 - a / 4 = 1 := by omega
  have hbase : a / 4 * 4 = a := by omega
  have hbytes (n : Nat) : sliceB (leBytes n 4) 0 4 = leBytes n 4 := by
    have h := sliceB_self (leBytes n 4)
    rwa [leBytes_length] at h
  simp [State.rdRegs, hpop, htake, hne, hwords, hbase, hbytes]

/-- The number that a word's bytes spell gives the same bytes again. -/
theorem leBytes_leNum_leBytes (n : Nat) : leBytes (leNum (leBytes n 4)) 4 = leBytes n 4 := by
  rw [leNum_leBytes, leBytes_mod]

/-! ### What a master that reaches a word does there -/

/-- A master that reaches a plain word reads it, with whatever reading it clears (R7). -/
theorem exec_rcRead {s : State} {by_ : AskBy} {a : Nat} (hreg : isReg a = true) (hplain : PlainRead a)
    (h : s.reaches (s.askerWho by_ s.device) a 4 false = true) :
    exec (.rcRead by_ a) s = .next ((s.rdWord (s.askerWho by_ s.device) false a).1.answerRead by_
      (s.rdWord (s.askerWho by_ s.device) false a).2 4) := by
  simp only [exec, execRcRead, ok, when_, hreg, if_true, State.regRead_of_reaches h, State.rdRegs_plain _ _ _ hplain,
    State.answerRead, leBytes_leNum_leBytes]

/-- A master that reaches a word writes it as the word's register takes it (R7). -/
theorem exec_registerWrite {s : State} {r : RegBy} {a : Nat} (v : W32) (hreg : isReg a = true)
    (h : s.reaches { s.whoIs r.master with beaten := r.beaten } a 4 true = true) :
    exec (.registerWrite r a v) s = .next (s.wrWord { s.whoIs r.master with beaten := r.beaten } a v) := by
  simp only [exec, execRegisterWrite, ok, when_, hreg, if_true, State.regWrite_of_reaches h]

/-- An access at an address that is no aligned word of the register blocks names no register (log 17). -/
theorem exec_registerWrite_unaligned {s : State} {r : RegBy} {a : Nat} (v : W32) (h : isReg a = false) :
    exec (.registerWrite r a v) s = .next s := by
  simp [exec, execRegisterWrite, ok, when_, h]

theorem exec_rcRead_unaligned {s : State} {by_ : AskBy} {a : Nat} (h : isReg a = false) :
    exec (.rcRead by_ a) s = .next s := by
  simp [exec, execRcRead, ok, when_, h]

/-! ### A tile's reach (R21 to R28) -/

/-- A tile of this device, as the master of an access of its own. -/
structure State.TileMaster (s : State) (w : Who) : Prop where
  id : w.id < 0x400
  dev : w.dev = s.device
  user : w.user = none

theorem State.TileMaster.actsFor {s : State} {w : Who} (h : s.TileMaster w) : s.actsFor w = w.id := by
  obtain ⟨hid, -, huser⟩ := h
  simp [State.actsFor, State.userOf, huser, show ¬ 0x410 ≤ w.id by omega]

/-- A tile has no path of its own to registers: it reaches what its windows serve. -/
theorem State.TileMaster.mayReach {s : State} {w : Who} (h : s.TileMaster w) (a n : Nat) (write : Bool) :
    s.mayReach w a n write = (regOpen w.id a && s.reach w none a n write == 0) := by
  have hid := h.id
  have hpath : ownPath w.id a = false := by
    simp [ownPath, show w.id ≠ 0x420 by omega, show ¬ 0x430 ≤ w.id by omega, show w.id ≠ 0x402 by omega]
  have hhost : (w.id == 0x401) = false := beq_eq_false_iff_ne.mpr (by omega)
  simp only [State.mayReach, hpath, hhost, Bool.false_and, Bool.false_or]

/-- What a tile reaches of the unit map: what no window may cover stays closed, and of the rest what a standing window
or a granted one serves. -/
theorem State.TileMaster.reach_eq_zero {s : State} {w : Who} (h : s.TileMaster w) (a n : Nat) (write : Bool) :
    s.reach w none a n write = 0 ↔ inUnitMap a = true ∧ inUnitMap (a + n - 1) = true ∧ closedRange a n = false ∧
      benchQueues a n = false ∧ (s.standing w a n write = true ∨ s.granted w none a n write = true) := by
  have hid := h.id
  have hfw : (w.id == 0x400) = false := beq_eq_false_iff_ne.mpr (by omega)
  have hdbg : (w.id == 0x403) = false := beq_eq_false_iff_ne.mpr (by omega)
  simp only [State.reach, hfw, hdbg, Bool.false_and, Bool.false_eq_true, if_false]
  split_ifs with hmap hclosed hserved
  · rcases (by simpa using hmap : inUnitMap a = false ∨ inUnitMap (a + n - 1) = false) with h' | h' <;> simp [h']
  · rcases Bool.or_eq_true_iff.mp hclosed with h' | h' <;> simp [h']
  · simp_all
  · simp_all

/-- Outside its standing windows and without a window of its own, a tile reaches no register. -/
theorem State.TileMaster.mayReach_eq_false {s : State} {w : Who} (h : s.TileMaster w) {a : Nat} {write : Bool}
    (hlo : 0x10002000 ≤ a) (hstanding : a < 0x1001A000 ∨ 0x10020000 ≤ a)
    (hnone : ∀ x ∈ s.mgmt.windows, x.master ≠ w.id) : s.mayReach w a 4 write = false := by
  have hstand : s.standing w a 4 write = false := by
    simp only [State.standing, h.dev, if_true, inDoorbell, within]
    simp
    omega
  have hgrant : s.granted w none a 4 write = false := by
    simp only [State.granted, h.actsFor, List.any_eq_false]
    intro x hx
    simp [hnone x hx]
  have hreach : s.reach w none a 4 write ≠ 0 := fun h0 => by
    obtain ⟨-, -, -, -, hs | hg⟩ := (h.reach_eq_zero a 4 write).mp h0
    · rw [hstand] at hs; exact Bool.false_ne_true hs
    · rw [hgrant] at hg; exact Bool.false_ne_true hg
  rw [h.mayReach, beq_eq_false_iff_ne.mpr hreach, Bool.and_false]

/-- Where windows may lie, a window of its own that covers the word lets a tile reach it. -/
theorem State.TileMaster.mayReach_of_window {s : State} {w : Who} (h : s.TileMaster w) {a : Nat} {write : Bool}
    (halign : a % 4 = 0) (hlo : 0x10020000 ≤ a) (hhi : a < 0x100C0000) (hidle : a < 0x10040000 ∨ 0x10050000 ≤ a)
    (hbench : a < 0x10094000 ∨ 0x10094400 ≤ a) {x : Window} (hx : x ∈ s.mgmt.windows) (hmaster : x.master = w.id)
    (hdev : x.dev = s.device) (hrw : write = true → x.rw = true) (hopen : x.closing = false)
    (hbase : x.base ≤ s.device * 2 ^ 34 + 2 ^ 32 + a) (hsize : s.device * 2 ^ 34 + 2 ^ 32 + a + 4 ≤ x.base + x.size) :
    s.mayReach w a 4 write = true := by
  have hid := h.id
  have hregOpen : regOpen w.id a = true := by
    simp only [regOpen, benchQueues, touches]
    simp
    omega
  have hgrant : s.granted w none a 4 write = true := by
    simp only [State.granted, h.actsFor, List.any_eq_true]
    refine ⟨x, hx, ?_⟩
    have hrw' : (x.rw || !write) = true := by
      cases write
      · simp
      · simp [hrw rfl]
    simp only [hmaster, hdev, h.dev, hrw', hopen, within, beq_self_eq_true, Bool.true_and, Bool.not_false, Bool.true_or,
      Bool.and_true, Bool.and_eq_true, decide_eq_true_eq]
    exact ⟨hbase, hsize⟩
  have hreach : s.reach w none a 4 write = 0 := by
    refine (h.reach_eq_zero a 4 write).mpr ⟨?_, ?_, ?_, ?_, .inr hgrant⟩
    · simp [inUnitMap]; omega
    · simp [inUnitMap]; omega
    · simp [closedRange, forbiddenRanges, meets]; omega
    · simp [benchQueues, touches]; omega
  rw [h.mayReach, hregOpen, hreach]
  rfl

/-- A tile reaches neither the bench queues nor the debug block, whatever windows it holds (R177, R484). -/
theorem State.TileMaster.mayReach_closed {s : State} {w : Who} (h : s.TileMaster w) {a n : Nat} {write : Bool}
    (hclosed : regOpen w.id a = false) : s.mayReach w a n write = false := by
  rw [h.mayReach, hclosed, Bool.false_and]

end Sys2Proof.Machine
end

section
/-! Accesses of the debug master: by its level, into tiles and into unit space (R482, R483). -/

namespace Sys2Proof.Machine
open Sys2Proof.Safety

/-! ### The capability block does not depend on the debug master -/

/-- The state with another tag for the debug master's next access (R176). -/
def State.withDebugTag (s : State) (n : Nat) : State := { s with dbgBlock := { s.dbgBlock with nextTag := n } }

theorem State.withDebugTag_capBytes (s : State) (n a k : Nat) : (s.withDebugTag n).capBytes a k = s.capBytes a k := by
  have body (id : Nat) : (s.withDebugTag n).capBody id = s.capBody id := rfl
  have list (j : Nat) : ∀ id o, (s.withDebugTag n).capFrom id o j = s.capFrom id o j := by
    induction j with
    | zero => intro id o; simp only [State.capFrom, State.capFrom.capRec, body]
    | succ j ih => intro id o; simp only [State.capFrom, State.capFrom.capRec, body, ih]
  simp only [State.capBytes, State.capByte, State.capList, list]

/-! ### Update-DR (R483) -/

/-- The state after an access of the debug master: its outcome, and the next tag (R176, R483). -/
def State.accessEnded (s u : State) (status : Nat) (data : W32) : State :=
  { u with dbgBlock := { u.dbgBlock with
      accStatus := status, accData := data, nextTag := (s.dbgBlock.nextTag + 1) % 256 } }

/-- DBG_ACCESS is no test instruction: loading it again changes nothing (R492). -/
theorem State.loadIr_dbgAccess {s : State} (h : s.dbgBlock.ir = 0x10) : s.loadIr 0x10 = s := by
  have htest : s.testing = false := by simp [State.testing, testIr, h]
  simp only [State.loadIr, htest, Bool.false_and, Bool.false_eq_true, if_false]
  rw [← h]

theorem exec_dbgAccess {s : State} {addr : Nat} (op space : Fin 4) (v : W32) (hir : s.dbgBlock.ir = 0x10)
    (hrun : s.power.st = .run) (haddr : addr < 2 ^ 32) :
    exec (.dbgAccess op space addr v) s = .next (s.debugAccess op.val space.val addr v) := by
  simp only [exec, execDbgAccess, ok, State.loadIr_dbgAccess hir, when_, hrun, haddr, decide_true, beq_self_eq_true,
    Bool.true_or, Bool.and_self, if_true]

/-- The state in which the debug master's access is carried out: its tag has been used (R176). -/
def State.afterTag (s : State) : State := s.withDebugTag ((s.dbgBlock.nextTag + 1) % 256)

theorem exec_dbgAccess_tile {s : State} {addr : Nat} (write : Bool) (v : W32) (hir : s.dbgBlock.ir = 0x10)
    (hrun : s.power.st = .run) (haddr : addr < 2 ^ 32) (halign : addr % 4 = 0) :
    exec (.dbgAccess (if write then 2 else 1) 0 addr v) s = .next (s.afterTag.debugTile write addr v) := by
  rw [exec_dbgAccess _ _ v hir hrun haddr]
  cases write <;> simp [State.debugAccess, halign, State.afterTag, State.withDebugTag]

theorem exec_dbgAccess_unit {s : State} {addr : Nat} (write : Bool) (v : W32) (hir : s.dbgBlock.ir = 0x10)
    (hrun : s.power.st = .run) (haddr : addr < 2 ^ 32) (halign : addr % 4 = 0) :
    exec (.dbgAccess (if write then 2 else 1) 1 addr v) s = .next (s.afterTag.debugUnit write addr v) := by
  rw [exec_dbgAccess _ _ v hir hrun haddr]
  cases write <;> simp [State.debugAccess, halign, State.afterTag, State.withDebugTag]

/-- An address that is no aligned word starts no operation. -/
theorem exec_dbgAccess_unaligned {s : State} {addr : Nat} (op space : Fin 4) (v : W32) (hir : s.dbgBlock.ir = 0x10)
    (hrun : s.power.st = .run) (haddr : addr < 2 ^ 32) (h : addr % 4 ≠ 0) :
    exec (.dbgAccess op space addr v) s = .next s := by
  rw [exec_dbgAccess _ _ v hir hrun haddr]
  simp [State.debugAccess, h]

/-! ### Levels (R480 to R482) -/

theorem State.dbgMay_eq_false {s : State} (h : s.dbgBlock.dbg.jtag = false ∨ s.dbgBlock.dbg.level = 0) :
    s.dbgMay 1 = false := by
  rcases h with h | h <;> simp [State.dbgMay, h]

theorem State.dbgMay_of_level {s : State} {n : Nat} (hjtag : s.dbgBlock.dbg.jtag = true)
    (hlevel : n ≤ s.dbgBlock.dbg.level) : s.dbgMay n = true := by
  simp [State.dbgMay, hjtag, hlevel]

theorem State.dbgMay_above_level {s : State} {n : Nat} (hlevel : s.dbgBlock.dbg.level < n) : s.dbgMay n = false := by
  simp [State.dbgMay, hlevel]

/-- Without a level every access to a tile ends unauthorised. -/
theorem State.debugTile_unauthorised {s : State} (h : s.dbgMay 1 = false) (write : Bool) (addr : Nat) (v : W32) :
    s.afterTag.debugTile write addr v = s.accessEnded s 3 0 := by
  have h' : s.afterTag.dbgMay 1 = false := h
  simp only [State.debugTile, h', Bool.not_false, if_true]
  rfl

/-- A write of a tile needs more than observe level. -/
theorem State.debugTile_write_refused {s : State} (h : s.dbgMay 1 = true) (h2 : s.dbgMay 2 = false) (addr : Nat)
    (v : W32) : s.afterTag.debugTile true addr v = s.accessEnded s 2 0 := by
  have h' : s.afterTag.dbgMay 1 = true := h
  have h2' : s.afterTag.dbgMay 2 = false := h2
  simp only [State.debugTile, h', h2', Bool.not_true, Bool.not_false, Bool.and_self, Bool.false_eq_true,
    if_false, if_true]
  rfl

/-! ### The debug master at a tile (R21, R166, R482) -/

theorem State.wakeCourt_tile (s : State) (c p : Nat) : (s.wakeCourt c).tile p = s.tile p := by
  unfold State.wakeCourt
  dsimp only
  split_ifs <;> rfl

theorem State.wakeCourt_withDebugTag (s : State) (n c : Nat) :
    (s.withDebugTag n).wakeCourt c = (s.wakeCourt c).withDebugTag n := by
  have hcourt : (s.withDebugTag n).court c = s.court c := rfl
  unfold State.wakeCourt
  rw [hcourt]
  dsimp only
  split_ifs <;> rfl

/-- A plain access of a unit to an unfenced tile that is no duplex pair is served at the tile. -/
theorem State.serveTile_plain {s : State} {m : Msg} {p : Nat} (haddr : m.addr < 0x4000000) (hphys : m.phys = none)
    (hp : s.physOf (m.addr / 65536) = some p) (hunit : 0x400 ≤ m.srcId) (hfence : s.isFenced p = false)
    (hcrc : m.badCrc = false) (hkind : m.kind = .read ∨ m.kind = .write)
    (hd : tfind? (m.addr / 65536) s.gates.duplex = none) :
    s.serveTile m = ((s.serveAt { m with chk := true } p).1,
      { (s.serveAt { m with chk := true } p).2 with fromPhys := p }) := by
  have htile : m.addr / 65536 % 1024 = m.addr / 65536 := by omega
  have hstale : s.stale m = false := by simp [State.stale, show ¬ m.srcId < 0x400 by omega]
  rcases hkind with hkind | hkind <;>
    simp [State.serveTile, State.serveRouted, State.routedAt, show ¬ 67108864 ≤ m.addr by omega, htile,
      hphys, hp, hstale, hfence, hcrc, hkind, hd]

/-- The bytes of an aligned word of a tile's memory. -/
theorem Tile.bytes_word (t : Tile) {addr : Nat} (haddr : addr % 65536 < 0x9800) :
    t.bytes (BitVec.ofNat 16 addr) 4 = memRead 0 t.mem (addr % 65536) 4 := by
  unfold Tile.bytes memRead
  apply List.map_congr_left
  intro i hi
  have hi' := List.mem_range.mp hi
  have hoff : (BitVec.ofNat 16 addr + BitVec.ofNat 16 i).toNat = addr % 65536 + i := by
    simp only [BitVec.toNat_add, BitVec.toNat_ofNat]
    omega
  rw [Tile.byte, hoff]

/-- A plain read is answered with the bytes of the tile's memory; the court leaves lull (R44). -/
theorem State.serveTile_read {s : State} {m : Msg} {p : Nat} (haddr : m.addr < 0x4000000) (hphys : m.phys = none)
    (hp : s.physOf (m.addr / 65536) = some p) (hunit : 0x400 ≤ m.srcId) (hfence : s.isFenced p = false)
    (hcrc : m.badCrc = false) (hkind : m.kind = .read) (hd : tfind? (m.addr / 65536) s.gates.duplex = none)
    (hbad : (s.tile p).anyBad (BitVec.ofNat 16 m.addr) m.len = false) :
    (s.serveTile m).1 = s.wakeCourt (p / 64) ∧ (s.serveTile m).2.kind = .done ∧
      (s.serveTile m).2.data = (s.tile p).bytes (BitVec.ofNat 16 m.addr) m.len := by
  rw [State.serveTile_plain haddr hphys hp hunit hfence hcrc (.inl hkind) hd]
  simp [State.serveAt, hkind, State.wakeCourt_tile, hbad, mresp]

/-- The request that an access of the debug master to a tile is. -/
def State.debugRequest (s : State) (write : Bool) (addr : Nat) (data : W32) : Msg :=
  { kind := if write then .write else .read, len := 4, srcId := 0x403, srcPhys := 0x7FF, srcDev := s.device
    tag := 0, cap := 0, chk := false, dev := s.device, space := 0, addr := addr
    data := if write then leBytes data.toNat 4 else [], badCrc := false }

/-- An access that the debug master's level lets through is served as its request is. -/
theorem State.debugTile_served {s : State} {write : Bool} {addr : Nat} {v : W32} 
    (h : s.dbgMay 1 = true) (h2 : write = true → s.dbgMay 2 = true)
    (hdone : (s.serveTile (s.debugRequest write addr v)).2.kind = .done) :
    s.debugTile write addr v = (s.serveTile (s.debugRequest write addr v)).1.accDone 0
      (leNum (s.serveTile (s.debugRequest write addr v)).2.data) := by
  have hlevel : (write && !s.dbgMay 2) = false := by
    cases write
    · rfl
    · simp [h2 rfl]
  unfold State.debugTile
  rw [h, hlevel]
  exact if_pos hdone

/-- A read of a tile's word returns the memory's word; its court leaves lull (R44, R482). -/
theorem State.debugTile_read {s : State} {addr p : Nat} (h : s.dbgMay 1 = true) (haddr : addr < 0x4000000)
    (hoff : addr % 65536 < 0x9800) (hp : s.physOf (addr / 65536) = some p) (hfence : s.isFenced p = false)
    (hbad : (s.tile p).anyBad (BitVec.ofNat 16 addr) 4 = false) (hd : tfind? (addr / 65536) s.gates.duplex = none)
    (v : W32) : s.afterTag.debugTile false addr v = s.accessEnded (s.wakeCourt (p / 64)) 0
      (w32 (leNum (memRead 0 (s.tile p).mem (addr % 65536) 4))) := by
  obtain ⟨hstate, hdone, hdata⟩ := State.serveTile_read (s := s.afterTag) (m := s.afterTag.debugRequest false addr v)
    haddr rfl hp (Nat.le_add_right 0x400 3) hfence rfl rfl hd hbad
  rw [State.debugTile_served (s := s.afterTag) h (fun h => absurd h Bool.false_ne_true) hdone, hstate, hdata,
    ← Tile.bytes_word _ hoff, State.afterTag, State.wakeCourt_withDebugTag]
  rfl

/-- Bytes stored that do not run past the end of a tile's memory are written to it in order. -/
theorem Tile.storeBytes_mem (t : Tile) (a : W16) (bs : List Byte) (h : a.toNat + bs.length ≤ 65536) :
    (t.storeBytes a bs).mem = memWrite 0 t.mem a.toNat bs := by
  induction bs generalizing t a with
  | nil => rfl
  | cons b r ih =>
    cases r with
    | nil => rfl
    | cons b' r' =>
      have hnext : (a + 1).toNat = a.toNat + 1 := by
        simp only [List.length_cons] at h
        rw [BitVec.toNat_add, show (1 : W16).toNat = 1 from rfl, Nat.mod_eq_of_lt (by omega)]
      rw [Tile.storeBytes, ih _ _ (by simp only [hnext, List.length_cons] at h ⊢; omega), hnext]
      rfl

/-- A write of one flit into words without uncorrectable errors stores its bytes (R164). -/
theorem Tile.netWrite_flit (t : Tile) (a : W16) {bs : List Byte} (hlen : bs.length = 4) (hbad : t.anyBad a 4 = false) :
    (t.netWrite a bs).2 = true ∧ (t.netWrite a bs).1.mem = (t.storeBytes a bs).mem := by
  have hne : bs ≠ [] := by
    rintro rfl
    simp at hlen
  have hword (whole : List Nat) :
      ((List.range 4).any fun i => t.bad.contains (wordOf (a + BitVec.ofNat 16 i)) &&
        !whole.contains (wordOf (a + BitVec.ofNat 16 i))) = false := by
    simp only [Tile.anyBad, List.any_eq_false] at hbad ⊢
    intro i hi h
    exact hbad i hi (Bool.and_eq_true_iff.mp h).1
  have happly (whole : List Nat) : t.applyFlits whole 5 0 a bs = (t.storeBytes a bs, none) := by
    have htake : bs.take 4 = bs := List.take_of_length_le hlen.le
    have hdrop : bs.drop 4 = [] := List.drop_of_length_le hlen.le
    obtain ⟨b, r, rfl⟩ := List.exists_cons_of_ne_nil hne
    simp only [Tile.applyFlits, htake, hdrop, hlen, hword, Bool.false_eq_true, if_false]
  simp [Tile.netWrite, hlen, happly, Tile.freshen]

theorem leBytes_getElem? (n k j : Nat) :
    (leBytes n k)[j]? = if j < k then some (BitVec.ofNat 8 (n / 256 ^ j)) else none := by
  induction k generalizing n j with
  | zero => simp [leBytes]
  | succ k ih =>
    cases j with
    | zero => simp [leBytes]
    | succ j =>
      rw [leBytes, List.getElem?_cons_succ, ih]
      simp [Nat.pow_succ', Nat.div_div_eq_div_mul]

/-- A plain write of a word is stored in the tile's memory. -/
theorem State.serveTile_write {s : State} {m : Msg} {p : Nat} (haddr : m.addr < 0x4000000) (hphys : m.phys = none)
    (hp : s.physOf (m.addr / 65536) = some p) (hunit : 0x400 ≤ m.srcId) (hfence : s.isFenced p = false)
    (hcrc : m.badCrc = false) (hkind : m.kind = .write) (hd : tfind? (m.addr / 65536) s.gates.duplex = none)
    (hlen : m.data.length = 4) (hbad : (s.tile p).anyBad (BitVec.ofNat 16 m.addr) 4 = false) :
    (s.serveTile m).2.kind = .done ∧
      ((s.serveTile m).1.tile p).mem = ((s.tile p).storeBytes (BitVec.ofNat 16 m.addr) m.data).mem := by
  obtain ⟨hdone, hmem⟩ := Tile.netWrite_flit (s.tile p) (BitVec.ofNat 16 m.addr) hlen hbad
  rw [State.serveTile_plain haddr hphys hp hunit hfence hcrc (.inr hkind) hd]
  simp [State.serveAt, hkind, State.wakeCourt_tile, hdone, hmem, mok, mresp]

/-- A write of a tile's word by a master with more than observe level is stored (R482). -/
theorem State.debugTile_write {s : State} {addr p : Nat} (h : s.dbgMay 1 = true) (h2 : s.dbgMay 2 = true)
    (haddr : addr < 0x4000000) (hoff : addr % 65536 < 0x9800) (hp : s.physOf (addr / 65536) = some p)
    (hfence : s.isFenced p = false) (hbad : (s.tile p).anyBad (BitVec.ofNat 16 addr) 4 = false)
    (hd : tfind? (addr / 65536) s.gates.duplex = none) (v : W32) :
    (s.afterTag.debugTile true addr v).dbgBlock.accStatus = 0 ∧
    ((s.afterTag.debugTile true addr v).tile p).mem =
      memWrite 0 (s.tile p).mem (addr % 65536) (leBytes v.toNat 4) := by
  have hlen : (leBytes v.toNat 4).length = 4 := leBytes_length ..
  have hmod : (BitVec.ofNat 16 addr).toNat = addr % 65536 := by simp
  obtain ⟨hdone, hmem⟩ := State.serveTile_write (s := s.afterTag) (m := s.afterTag.debugRequest true addr v)
    haddr rfl hp (Nat.le_add_right 0x400 3) hfence rfl rfl hd hlen hbad
  rw [State.debugTile_served (s := s.afterTag) h (fun _ => h2) hdone]
  refine ⟨rfl, hmem.trans ?_⟩
  change ((s.tile p).storeBytes (BitVec.ofNat 16 addr) (leBytes v.toNat 4)).mem = _
  rw [Tile.storeBytes_mem _ _ _ (by omega), hmod]

/-- A byte of a tile's memory after a write of a word. -/
theorem memGet_memWrite_word {m : Mem} (hm : Memory.wf 0 m = true) (o a n : Nat) :
    memGet 0 a (memWrite 0 m o (leBytes n 4)) =
      if o ≤ a ∧ a < o + 4 then BitVec.ofNat 8 (n / 256 ^ (a - o)) else memGet 0 a m := by
  rw [memGet_memWrite hm, leBytes_getElem?]
  by_cases hlo : o ≤ a
  · by_cases hhi : a < o + 4
    · rw [if_pos (show a - o < 4 by omega), if_pos hlo, if_pos (show _ ∧ _ from ⟨hlo, hhi⟩), Option.getD_some]
    · rw [if_neg (show ¬ a - o < 4 by omega), if_pos hlo, if_neg (show ¬ (_ ∧ _) from fun h => hhi h.2),
        Option.getD_none]
  · rw [if_neg hlo, if_neg (show ¬ (_ ∧ _) from fun h => hlo h.1)]

/-! ### The debug master in unit space (R21, R480 to R482) -/

/-- The debug master's reach of an aligned word of the register blocks. -/
theorem State.reach_debugMaster {s : State} {w : Who} {addr : Nat} (hid : w.id = 0x403) (hdev : w.dev = s.device)
    (write : Bool) (hlo : 0x10000000 ≤ addr) (hhi : addr < 0x10160000) (halign : addr % 4 = 0) :
    s.reach w none addr 4 write = s.debugReach addr 4 write := by
  have hfirst : inUnitMap addr = true := by
    simp [inUnitMap]
    omega
  have hlast : inUnitMap (addr + 3) = true := by
    simp [inUnitMap]
    omega
  simp [State.reach, hfirst, hlast, hid, hdev]

/-- An aligned word that the debug master may not reach ends the access with the status of its refusal. -/
theorem State.debugUnit_refused {s : State} {addr st : Nat} (write : Bool) (v : W32) (hlo : 0x10000000 ≤ addr)
    (hhi : addr < 0x10160000) (halign : addr % 4 = 0) (h : s.debugReach addr 4 write = st) (hst : st ≠ 0) :
    s.debugUnit write addr v = s.accDone st 0 := by
  have hreach := State.reach_debugMaster (s := s) (w := s.debugWho) rfl rfl write hlo hhi halign
  unfold State.debugUnit
  dsimp only
  rw [hreach, h, if_pos hst]

theorem State.debugUnit_read {s : State} {addr : Nat} (v : W32) (hlo : 0x10000000 ≤ addr) (hhi : addr < 0x10160000)
    (halign : addr % 4 = 0) (h : s.debugReach addr 4 false = 0) (hdead : s.deadAt addr = false)
    (hruns : s.crossed addr = s) :
    s.debugUnit false addr v = (s.rdUnit s.debugWho addr 4).1.accDone (s.rdUnit s.debugWho addr 4).2.1
      (leNum (s.rdUnit s.debugWho addr 4).2.2) := by
  have hreach := State.reach_debugMaster (s := s) (w := s.debugWho) rfl rfl false hlo hhi halign
  unfold State.debugUnit
  simp only [hreach, h, hdead, hruns, ne_eq, not_true, if_false, Bool.false_eq_true]

/-- A block with no clock of its own is never crossed to, and its signal never fails. -/
theorem State.no_crossing (s : State) {addr : Nat} (hcap : addr / 0x10000 = 0x1000 ∨ addr / 0x10000 = 0x100A) :
    s.deadAt addr = false ∧ s.crossed addr = s := by
  have hlo : ¬ (0x2000000 ≤ addr ∧ addr < 0x2200000) := by omega
  have hdead : s.deadAt addr = false := by
    rcases hcap with h | h <;> simp [State.deadAt, h]
  have hisland : islandOf addr = none := by
    rcases hcap with h | h <;> simp [islandOf, h, hlo]
  exact ⟨hdead, by simp [State.crossed, State.islandRuns, hdead, hisland]⟩

/-- Without a level the capability block is still read (R480). -/
theorem State.debugUnit_capability {s : State} {addr : Nat} (halign : addr % 4 = 0)
    (hlo : 0x10000000 ≤ addr) (hhi : addr < 0x10000800) (v : W32) :
    s.afterTag.debugUnit false addr v = s.accessEnded s 0 (w32 (leNum (s.capBytes (addr - 0x10000000) 4))) := by
  obtain ⟨hdead, hruns⟩ := s.afterTag.no_crossing (addr := addr) (.inl (by omega))
  have hreach : s.afterTag.debugReach addr 4 false = 0 := by
    simp [State.debugReach, debugOpen, within]
    omega
  have hplain : PlainRead addr := by
    refine ⟨halign, ?_, ?_⟩
    · simp [touchesPop]
      omega
    · simp [touchesTake]
      omega
  have hblock : addr / 0x10000 = 0x1000 := by omega
  have hoff : addr % 0x10000 = addr - 0x10000000 := by omega
  have hread : s.afterTag.rdUnit s.afterTag.debugWho addr 4 =
      (s.afterTag, 0, leBytes (leNum (s.capBytes (addr - 0x10000000) 4)) 4) := by
    have hregs : ¬ addr < 0x8400000 := by omega
    unfold State.rdUnit
    rw [if_neg (by omega), if_neg (by omega), if_neg (by omega), if_neg hregs]
    dsimp only
    rw [State.rdRegs_plain _ _ _ hplain]
    simp only [State.rdWord, hblock, hoff, State.rdCap, show addr - 0x10000000 < 0x800 by omega, if_true,
      State.afterTag, State.withDebugTag_capBytes]
  rw [State.debugUnit_read v hlo (by omega) halign hreach hdead hruns, hread, leNum_leBytes]
  have hword (k : Nat) : w32 (k % 256 ^ 4) = w32 k := by
    apply BitVec.eq_of_toNat_eq
    simp [w32]
  simp only [State.accDone, hword]
  rfl

/-- Without a level every other register ends an access unauthorised (R480, R482). -/
theorem State.debugUnit_unauthorised {s : State} {addr : Nat} (h : s.dbgMay 1 = false) (halign : addr % 4 = 0)
    (hlo : 0x10020000 ≤ addr) (hhi : addr < 0x10090000) (write : Bool) (v : W32) :
    s.afterTag.debugUnit write addr v = s.accessEnded s 3 0 := by
  have h' : s.afterTag.dbgMay 1 = false := h
  have hreach : s.afterTag.debugReach addr 4 write = 3 := by
    simp [State.debugReach, h', debugOpen, within]
    omega
  rw [State.debugUnit_refused write v (by omega) (by omega) halign hreach (by decide)]
  rfl

/-- Below the level for actions a read of POOL_TAKE takes nothing and returns 0 (R482). -/
theorem State.debugUnit_muted_take {s : State} (h : s.dbgMay 1 = true) (h2 : s.dbgMay 2 = false) (v : W32) :
    s.afterTag.debugUnit false 0x100A0000 v = s.accessEnded s 0 0 := by
  have h' : s.afterTag.dbgMay 1 = true := h
  have h2' : s.afterTag.dbgMay 2 = false := h2
  obtain ⟨hdead, hruns⟩ := s.afterTag.no_crossing (addr := 0x100A0000) (.inr (by decide))
  have hreach : s.afterTag.debugReach 0x100A0000 4 false = 0 := by
    simp [State.debugReach, h', touches]
  have hread : s.afterTag.rdUnit s.afterTag.debugWho 0x100A0000 4 = (s.afterTag, 0, leBytes 0 4) := by
    simp [State.rdUnit, State.rdRegs, State.debugWho, h2', touchesTake]
  rw [State.debugUnit_read v (by decide) (by decide) (by decide) hreach hdead hruns, hread]
  rfl

end Sys2Proof.Machine
end

section
/-! Debug accesses and registers: the statement, from the accesses before. -/

namespace Sys2Proof.Machine
open Sys2Proof.Safety

/-! ### Masters of the device itself (R21, R26) -/

theorem State.genuine_unit (s : State) {id : Nat} (b : Bool) (hlo : 0x400 ≤ id) (hhi : id ≤ 0x404) :
    s.genuine { s.whoIs id with beaten := b } = true := by
  simp [State.genuine, State.whoIs, inOwnerTable, show ¬ id < 1024 by omega]
  omega

/-- The firmware reaches every aligned register outside the blocks of the debug master. -/
theorem State.firmware_mayReach (s : State) {a : Nat} (b write : Bool) (hreg : isReg a = true)
    (hdebug : debugOnly a 4 = false) : s.mayReach { s.whoIs 0x400 with beaten := b } a 4 write = true := by
  obtain ⟨halign, hlo, hhi⟩ : a % 4 = 0 ∧ 0x10000000 ≤ a ∧ a < 0x10160000 := by simpa [isReg] using hreg
  have hfirst : inUnitMap a = true := by
    simp [inUnitMap]
    omega
  have hlast : inUnitMap (a + 3) = true := by
    simp [inUnitMap]
    omega
  have hopen : regOpen 0x400 a = true := by
    simp only [debugOnly, Bool.or_eq_false_iff] at hdebug
    simp [regOpen, hdebug.2]
  have hreach : s.reach { s.whoIs 0x400 with beaten := b } none a 4 write = 0 := by
    simp [State.reach, hfirst, hlast, State.whoIs, hdebug]
  have hid : (s.whoIs 0x400).id = 0x400 := rfl
  rw [State.mayReach, hreach, hid, hopen]
  simp

/-- The firmware's write of a register: a stopped clock starts for it, and without a signal it fails (R51, R52). -/
theorem exec_registerWrite_firmware {s : State} {a : Nat} (b : Bool) (v : W32) (hlive : s.live = true)
    (hreg : isReg a = true) (hdebug : debugOnly a 4 = false) :
    exec (.registerWrite ⟨0x400, b⟩ a v) s = .next (
      if s.deadAt a then (s.crossFails a).writeFails { s.whoIs 0x400 with beaten := b }
      else (s.crossed a).wrWord { s.whoIs 0x400 with beaten := b } a v) := by
  have hgenuine := s.genuine_unit (id := 0x400) b (by decide) (by decide)
  have hreach := s.firmware_mayReach b true hreg hdebug
  simp only [exec, execRegisterWrite, ok, when_, hreg, if_true, State.regWrite, hlive, hgenuine, hreach, Bool.and_self,
    Bool.not_true, Bool.false_eq_true, if_false]

/-- A write that fails shows nothing to the firmware. -/
theorem State.writeFails_firmware (s : State) (w : Who) (hid : w.id = 0x400) (hphys : w.phys = 0x7FF) :
    s.writeFails w = s := by
  simp [State.writeFails, hid, hphys]

/-- Island 1 runs once it has been started, and a write of its pins starts it (R51). -/
theorem State.crossed_stopped {s : State} (h : 1 ∈ s.pace.stoppedIslands) :
    s.crossed 0x10050000 = s.startIsland 1 ∧ (s.startIsland 1).crossed 0x10050000 = s.startIsland 1 := by
  have hisland : islandOf 0x10050000 = some 1 := by decide
  constructor
  · simp [State.crossed, State.islandRuns, hisland, h]
  · apply State.crossed_of_runs
    simp [State.islandRuns, hisland, State.deadAt, State.startIsland]

/-- A write to a stopped island is the same write to the island started (R51). -/
theorem exec_registerWrite_stopped {s : State} (b : Bool) (v : W32) (hlive : s.live = true)
    (h : 1 ∈ s.pace.stoppedIslands) :
    exec (.registerWrite ⟨0x400, b⟩ 0x10050000 v) s =
      exec (.registerWrite ⟨0x400, b⟩ 0x10050000 v) (s.startIsland 1) := by
  obtain ⟨hstarts, hstarted⟩ := State.crossed_stopped h
  have hdead (t : State) : t.deadAt 0x10050000 = false := by simp [State.deadAt]
  have hlive' : (s.startIsland 1).live = true := hlive
  rw [exec_registerWrite_firmware b v hlive (by decide) (by decide),
    exec_registerWrite_firmware b v hlive' (by decide) (by decide), hdead, hdead, hstarts, hstarted]
  rfl

/-- A write into a feed port without a signal fails and is reported (R52); its ARG is the model's choice (log 51). -/
theorem exec_registerWrite_feed {s : State} {n : Nat} (b : Bool) (v : W32) (hlive : s.live = true) (hn : n < 4)
    (hdown : (s.feed n).up = false) :
    exec (.registerWrite ⟨0x400, b⟩ (0x100C0000 + 0x4000 * n) v) s = .next (s.report 2 0x8016 0xFFFF 0 10) := by
  have hreg : isReg (0x100C0000 + 0x4000 * n) = true := by
    simp [isReg]
    omega
  have hdebug : debugOnly (0x100C0000 + 0x4000 * n) 4 = false := by
    simp [debugOnly, touches]
    omega
  have hblock : (0x100C0000 + 0x4000 * n) / 0x10000 = 0x100C := by omega
  have hport : (0x100C0000 + 0x4000 * n) % 0x10000 / 0x4000 = n := by omega
  have hdead : s.deadAt (0x100C0000 + 0x4000 * n) = true := by
    simp only [State.deadAt, hblock, hport, hdown, if_true, Bool.not_false]
  have hisland : islandOf (0x100C0000 + 0x4000 * n) = some 5 := by
    rw [islandOf, if_neg (by omega), hblock]
    rfl
  rw [exec_registerWrite_firmware b v hlive hreg hdebug, if_pos hdead, State.crossFails, hisland,
    State.writeFails_firmware _ _ rfl rfl]
  rfl

/-- A debug master with control level reaches the debug block (R482, R484). -/
theorem exec_registerWrite_debug {s : State} {a : Nat} (b : Bool) (v : W32) (hlive : s.live = true)
    (h1 : s.dbgMay 1 = true) (h2 : s.dbgMay 2 = true) (halign : a % 4 = 0) (hlo : 0x10130000 ≤ a) (hhi : a < 0x10140000)
    (hruns : s.islandRuns a = true) :
    exec (.registerWrite ⟨0x403, b⟩ a v) s = .next (s.wrWord { s.whoIs 0x403 with beaten := b } a v) := by
  have hreg : isReg a = true := by
    simp [isReg]
    omega
  have hreach : s.mayReach { s.whoIs 0x403 with beaten := b } a 4 true = true := by
    have hopen : regOpen 0x403 a = true := by
      simp [regOpen, benchQueues, touches]
      omega
    have hlevel : s.debugReach a 4 true = 0 := by
      simp [State.debugReach, h1, h2, touches]
      omega
    have hreach := State.reach_debugMaster (s := s) (w := { s.whoIs 0x403 with beaten := b }) rfl rfl true
      (by omega) (by omega) halign
    have hid : (s.whoIs 0x403).id = 0x403 := rfl
    rw [State.mayReach, hreach, hlevel, hid, hopen]
    simp
  exact exec_registerWrite (r := ⟨0x403, b⟩) v hreg
    (State.reaches_iff.mpr ⟨hlive, s.genuine_unit (id := 0x403) b (by decide) (by decide), hreach, hruns⟩)

theorem State.whoIs_tileMaster (s : State) {i : Nat} (b : Bool) (hi : i < 1024) :
    s.TileMaster { s.whoIs i with beaten := b } := ⟨hi, rfl, rfl⟩

theorem State.askerWho_tileMaster (s : State) {i : Nat} (p tag : Nat) (hi : i < 1024) :
    s.TileMaster (s.askerWho (.access i p tag) s.device) := ⟨hi, rfl, rfl⟩

/-! ### Accesses of a tile that are refused, or that are no access of its own (R22, R157) -/

theorem exec_rcRead_refused {s : State} {by_ : AskBy} {a : Nat} (hlive : s.live = true) (hreg : isReg a = true)
    (hg : s.genuine (s.askerWho by_ s.device) = true) (hm : s.mayReach (s.askerWho by_ s.device) a 4 false = false) :
    exec (.rcRead by_ a) s = .next (s.failRead by_ 0x82) := by
  simp only [exec, execRcRead, ok, when_, hreg, if_true, State.regRead, hlive, hg, hm, Bool.and_self, Bool.not_true,
    Bool.not_false, Bool.false_eq_true, if_false]

theorem exec_rcRead_forged {s : State} {by_ : AskBy} {a : Nat} (hg : s.genuine (s.askerWho by_ s.device) = false) :
    exec (.rcRead by_ a) s = .next s := by
  simp only [exec, execRcRead, ok, when_, State.regRead, hg, Bool.and_false, Bool.not_false, if_true, ite_self]

theorem exec_registerWrite_refused {s : State} {r : RegBy} {a : Nat} (v : W32) (hlive : s.live = true)
    (hreg : isReg a = true) (hg : s.genuine { s.whoIs r.master with beaten := r.beaten } = true)
    (hm : s.mayReach { s.whoIs r.master with beaten := r.beaten } a 4 true = false) :
    exec (.registerWrite r a v) s = .next (s.writeFails { s.whoIs r.master with beaten := r.beaten }) := by
  simp only [exec, execRegisterWrite, ok, when_, hreg, if_true, State.regWrite, hlive, hg, hm, Bool.and_self,
    Bool.not_true, Bool.not_false, Bool.false_eq_true, if_false]

theorem exec_registerWrite_forged {s : State} {r : RegBy} {a : Nat} (v : W32)
    (hg : s.genuine { s.whoIs r.master with beaten := r.beaten } = false) :
    exec (.registerWrite r a v) s = .next s := by
  simp only [exec, execRegisterWrite, ok, when_, State.regWrite, hg, Bool.and_false, Bool.not_false, if_true, ite_self]

/-- A refused write of a tile sets line 12 of the physical tile that it came from. -/
theorem State.writeFails_tile {s : State} {i y : Nat} {b : Bool} (hi : i < 1024) (hy : s.physOf i = some y)
    (hg : s.genuine { s.whoIs i with beaten := b } = true) :
    s.writeFails { s.whoIs i with beaten := b } = s.setLine y 12 := by
  have hphys : (s.whoIs i).phys = y := by simp [State.whoIs, hi, hy]
  have hdev : (s.whoIs i).dev = s.device := rfl
  have hid : (s.whoIs i).id = i := rfl
  have hlt : y < 1088 := by
    simp only [State.genuine, hphys, hdev, hid, beq_self_eq_true, Bool.true_and, hi, decide_true, if_true,
      Bool.and_eq_true, decide_eq_true_eq] at hg
    obtain ⟨-, ⟨hlt, -⟩, -⟩ := hg
    exact hlt
  simp only [State.writeFails, hphys, hdev, hlt, ne_eq, not_true, if_false, if_true]

/-! ### Counters that clear when read, inside the blocks of queues and dispatchers (R7) -/

theorem State.rdWord_refCnt (s : State) (w : Who) {q : Nat} (hq : q < 256) :
    s.rdWord w false (0x10090028 + 0x40 * q) =
      (s.setQueue q { s.queue q with refCnt := 0 }, (s.queue q).refCnt) := by
  have hblock : (0x10090028 + 0x40 * q) / 0x10000 = 0x1009 := by omega
  have hoff : (0x10090028 + 0x40 * q) % 0x10000 = 0x28 + 0x40 * q := by omega
  have hindex : (0x28 + 0x40 * q) / 0x40 = q := by omega
  have hreg : (0x28 + 0x40 * q) % 0x40 = 0x28 := by omega
  unfold State.rdWord
  simp only [hblock, hoff]
  unfold State.rdQueue
  rw [if_pos (by omega)]
  simp only [hindex, hreg]

theorem State.rdWord_race (s : State) (w : Who) {n : Nat} (hn : n < 16) :
    s.rdWord w false (0x1012005C + 0x800 * n) = (s.setDisp n { s.disp n with race := 0 }, (s.disp n).race) := by
  have hblock : (0x1012005C + 0x800 * n) / 0x10000 = 0x1012 := by omega
  have hoff : (0x1012005C + 0x800 * n) % 0x10000 = 0x5C + 0x800 * n := by omega
  have hindex : (0x5C + 0x800 * n) / 0x800 = n := by omega
  have hreg : (0x5C + 0x800 * n) % 0x800 = 0x5C := by omega
  unfold State.rdWord
  simp only [hblock, hoff]
  rw [if_pos (by omega), hindex, hreg]
  rfl

/-! ### Words that clear when read, or where ones are written (R7) -/

theorem State.rdWord_lost (s : State) (w : Who) : s.rdWord w false 0x10020008 =
    ({ s with router := { s.router with lost := 0 } }, s.router.lost) := by
  simp [State.rdWord, State.rdEvr]

theorem State.rdWord_cntDouble (s : State) (w : Who) : s.rdWord w false 0x100A0024 =
    ({ s with pool := { s.pool with cntDouble := 0 } }, s.pool.cntDouble) := by
  simp [State.rdWord, State.rdPool]

theorem State.rdWord_noStream (s : State) (w : Who) : s.rdWord w false 0x100B0018 =
    (s.setEngine { s.engine with noStream := 0 }, s.engine.noStream) := by
  simp [State.rdWord, State.rdEngine]

theorem State.rdWord_reserved (s : State) (w : Who) : s.rdWord w false 0x10030040 = (s, 0) := by
  simp [State.rdWord, State.rdTime]

theorem State.wrWord_evrErr (s : State) (w : Who) (v : W32) : s.wrWord w 0x10020000 v =
    { s with router := { s.router with err := s.router.err &&& ~~~ BitVec.ofNat 4 v.toNat } } := by
  simp [State.wrWord, State.wrEvr, ofNat_fld_zero]

theorem State.wrWord_timeErr (s : State) (w : Who) (v : W32) : s.wrWord w 0x10030014 v =
    { s with time := { s.time with err := s.time.err &&& ~~~ BitVec.ofNat 3 v.toNat } } := by
  simp [State.wrWord, State.wrTime, ofNat_fld_zero]

theorem State.wrWord_pinsErr (s : State) (w : Who) (v : W32) : s.wrWord w 0x10050000 v =
    { s with fio := { s.fio with err := s.fio.err &&& ~~~ BitVec.ofNat 3 v.toNat } } := by
  simp [State.wrWord, State.wrPins, ofNat_fld_zero]

theorem State.wrWord_poolErr (s : State) (w : Who) (v : W32) : s.wrWord w 0x100A001C v =
    { s with pool := { s.pool with err := s.pool.err &&& ~~~ BitVec.ofNat 5 v.toNat } } := by
  simp [State.wrWord, State.wrPool, ofNat_fld_zero]

theorem State.wrWord_engineErr (s : State) (w : Who) (v : W32) : s.wrWord w 0x100B0008 v =
    s.setEngine { s.engine with err := s.engine.err &&& ~~~ BitVec.ofNat 8 v.toNat } := by
  simp [State.wrWord, State.wrEngine, ofNat_fld_zero]

theorem State.wrWord_poolLow (s : State) (w : Who) (v : W32) : s.wrWord w 0x100A0018 v =
    { s with pool := { s.pool with low := v.toNat % 4096 } } := by
  simp [State.wrWord, State.wrPool, fld_zero]

/-- TIME_UNC is read-only, and the word after the last register of the time unit is reserved (R7). -/
theorem State.wrWord_timeReadOnly (s : State) (w : Who) (v : W32) :
    s.wrWord w 0x10030010 v = s ∧ s.wrWord w 0x10030040 v = s := by
  constructor <;> simp [State.wrWord, State.wrTime]

/-- Setting the time's pieces is its owner's; another master's write is flagged (R273). -/
theorem State.wrWord_newNs {s : State} {w : Who} (v : W32) (hdev : w.dev = s.device) (h : s.time.owner ≠ w.id) :
    s.wrWord w 0x10030020 v = { s with time := { s.time with err := s.time.err ||| 1 } } := by
  simp [State.wrWord, State.wrTime, State.timeOwned, State.ownId, hdev, h]

theorem State.wrWord_wakeCfg {s : State} {w : Who} (v : W32) (hdev : w.dev = s.device) (h : w.id = 0x400) :
    s.wrWord w 0x10020010 v = { s with router := { s.router with wakeCfg := v &&& 0x1FFFFF } } := by
  simp [State.wrWord, State.wrEvr, State.ownId, hdev, h]

theorem State.wrWord_traceCtl {s : State} (w : Who) (v : W32) (h : s.dbgMay 2 = true) :
    s.wrWord w 0x10130014 v = { s with dbgBlock := { s.dbgBlock with traceCtl := BitVec.ofNat 3 v.toNat } } := by
  simp [State.wrWord, State.wrDebug, h, ofNat_fld_zero]

/-- Outside the blocks of the read actions every aligned word is a plain one. -/
theorem PlainRead.of_block {a : Nat} (halign : a % 4 = 0) (h : a < 0x10090000 ∨ 0x100A0004 ≤ a) : PlainRead a := by
  refine ⟨halign, ?_, ?_⟩
  · simp only [touchesPop, List.any_eq_false, List.mem_range]
    intro i hi
    simp
    omega
  · simp [touchesTake]
    omega

/-- Of a queue's block, only the words of QUEUE_POP are read actions. -/
theorem PlainRead.of_refCnt (q : Nat) (hq : q < 256) : PlainRead (0x10090028 + 0x40 * q) := by
  refine ⟨by omega, ?_, ?_⟩
  · simp only [touchesPop, List.any_eq_false, List.mem_range]
    intro i hi
    simp
    omega
  · simp [touchesTake]
    omega

/-! ### The statement -/

/-- Settles O54. -/
theorem debugAccessAndRegisters : Obligations.DebugAccessAndRegisters := by
  unfold Obligations.DebugAccessAndRegisters
  intro n q p tag i addr b v s hrunning hi d ended window tile rd wr asker me reads
    writes reading writing answer answered low
  obtain ⟨hrun, -⟩ := State.running_iff.mp hrunning
  have hlive := State.live_of_running hrunning
  have hme : s.TileMaster me := s.whoIs_tileMaster b hi
  have hasker : s.TileMaster asker := s.askerWho_tileMaster p tag hi
  have hwrite {a : Nat} (hreg : isReg a = true) (h : writes a) : exec (writing a) s = .next (s.wrWord me a v) :=
    exec_registerWrite v hreg h
  have hread {a : Nat} {t : State} {w : Nat} (hreg : isReg a = true) (hplain : PlainRead a)
      (hword : s.rdWord asker false a = (t, w)) (hgates : t.gates = s.gates) (h : reads a) :
      exec (reading a) s = .next (answered t w) := by
    have hcap : t.capOf i = s.capOf i := by rw [State.capOf, State.capOf, hgates]
    rw [exec_rcRead hreg hplain h, hword, State.answerRead, State.readerOf, hcap]
  refine ⟨?_, ?_, ?_, ?_, ?_, ?_, ?_, ?_, ?_, ?_, ?_, ?_, ?_, ?_, ?_, ?_, ?_, ?_, ?_, ?_, ?_, ?_, ?_, ?_⟩
  · intro hir
    refine ⟨?_, ?_, ?_, ?_⟩
    · intro hnone haddr halign
      have hmay := State.dbgMay_eq_false hnone
      have htile (write : Bool) := (exec_dbgAccess_tile write v hir hrun haddr halign).trans
        (congrArg _ (State.debugTile_unauthorised hmay write addr v))
      refine ⟨htile false, htile true, fun hlo hhi => ?_, fun hlo hhi => ?_⟩
      · exact (exec_dbgAccess_unit false v hir hrun haddr halign).trans
          (congrArg _ (State.debugUnit_capability halign hlo hhi v))
      · have hunit (write : Bool) := (exec_dbgAccess_unit write v hir hrun haddr halign).trans
          (congrArg _ (State.debugUnit_unauthorised hmay halign hlo hhi write v))
        exact ⟨hunit false, hunit true⟩
    · intro hjtag hlevel haddr halign hoff hserves hfence hbad hduplex
      obtain ⟨y, hy⟩ := Option.isSome_iff_exists.mp hserves
      have htile : tile addr = s.tile y := congrArg (fun o => s.tile (o.getD 0)) hy
      rw [htile] at hbad ⊢
      rw [hy, Option.getD_some] at hfence ⊢
      have hobserve : s.dbgMay 1 = true := State.dbgMay_of_level hjtag hlevel
      have hexec (write : Bool) := exec_dbgAccess_tile (addr := addr) write v hir hrun (by omega) halign
      refine ⟨fun hone => ?_, ?_, fun htwo hwf => ?_⟩
      · have hbelow : s.dbgMay 2 = false := State.dbgMay_above_level (hone.trans_lt Nat.one_lt_two)
        exact (hexec true).trans (congrArg _ (State.debugTile_write_refused hobserve hbelow addr v))
      · exact (hexec false).trans (congrArg _ (State.debugTile_read hobserve haddr hoff hy hfence hbad hduplex v))
      · obtain ⟨hstatus, hmem⟩ := State.debugTile_write hobserve (State.dbgMay_of_level hjtag htwo) haddr hoff hy hfence
          hbad hduplex v
        refine ⟨_, hexec true, hstatus, fun a _ => ?_⟩
        rw [hmem, memGet_memWrite_word hwf]
    · intro hjtag hlevel
      have hbelow : s.dbgMay 2 = false := State.dbgMay_above_level (hlevel.trans_lt Nat.one_lt_two)
      exact (exec_dbgAccess_unit false v hir hrun (by decide) (by decide)).trans
        (congrArg _ (State.debugUnit_muted_take (State.dbgMay_of_level hjtag hlevel.ge) hbelow v))
    · exact exec_dbgAccess_unaligned 1 0 v hir hrun
  · intro hlo hhi halign hidle hbench hruns
    constructor
    · rintro hg ⟨x, hx, hmaster, hdev, hrw, hopen, hbase, hsize⟩
      exact State.reaches_iff.mpr ⟨hlive, hg, hasker.mayReach_of_window halign hlo hhi hidle hbench hx hmaster hdev hrw
        hopen hbase hsize, hruns⟩
    · rintro hg ⟨x, hx, hmaster, hdev, hrw, hopen, hbase, hsize⟩
      exact State.reaches_iff.mpr ⟨hlive, hg, hme.mayReach_of_window halign hlo hhi hidle hbench hx hmaster hdev hrw
        hopen hbase hsize, hruns⟩
  · intro hlo hhi halign hnone hstanding
    have hreg : isReg addr = true := by
      simp [isReg]
      omega
    refine ⟨fun hg => ?_, fun y hy hg => ?_, fun hg => ?_, fun hg => ?_⟩
    · exact exec_rcRead_refused hlive hreg hg (hasker.mayReach_eq_false hlo hstanding hnone)
    · rw [exec_registerWrite_refused v hlive hreg hg (hme.mayReach_eq_false hlo hstanding hnone),
        State.writeFails_tile hi hy hg]
    · exact exec_rcRead_forged hg
    · exact exec_registerWrite_forged v hg
  · exact exec_registerWrite_stopped b v hlive
  · exact exec_registerWrite_feed b v hlive
  · intro hq
    exact hread (by simp [isReg]; omega) (PlainRead.of_refCnt q hq) (s.rdWord_refCnt asker hq) rfl
  · exact hread (by decide) (PlainRead.of_block (by decide) (by decide)) (s.rdWord_lost asker) rfl
  · exact hread (by decide) (PlainRead.of_block (by decide) (by decide)) (s.rdWord_cntDouble asker) rfl
  · intro hn
    exact hread (by simp [isReg]; omega) (PlainRead.of_block (by omega) (by omega)) (s.rdWord_race asker hn) rfl
  · exact hread (by decide) (PlainRead.of_block (by decide) (by decide)) (s.rdWord_noStream asker) rfl
  · exact hread (by decide) (PlainRead.of_block (by decide) (by decide)) (s.rdWord_reserved asker) rfl
  · intro h
    rw [hwrite (by decide) h, State.wrWord_evrErr]
  · intro h
    rw [hwrite (by decide) h, State.wrWord_timeErr]
  · intro h
    rw [hwrite (by decide) h, State.wrWord_pinsErr]
  · intro h
    rw [hwrite (by decide) h, State.wrWord_poolErr]
  · intro h
    rw [hwrite (by decide) h, State.wrWord_engineErr]
  · intro h
    rw [hwrite (by decide) h, State.wrWord_poolLow]
  · intro h
    rw [hwrite (by decide) h, (s.wrWord_timeReadOnly me v).1]
  · intro h
    rw [hwrite (by decide) h, (s.wrWord_timeReadOnly me v).2]
  · have hshut {a : Nat} (hclosed : regOpen i a = false) : ¬ writes a := fun h => by
      obtain ⟨-, -, hmay, -⟩ := State.reaches_iff.mp h
      rw [hme.mayReach_closed hclosed] at hmay
      exact Bool.false_ne_true hmay
    have hfirmware : i ≠ 0x400 := by omega
    have hdebug : i ≠ 0x403 := by omega
    exact ⟨hshut (by simp [regOpen, hfirmware, benchQueues, touches]), hshut (by simp [regOpen, hdebug, touches])⟩
  · intro halign
    have hreg : isReg addr = false := by simp [isReg, halign]
    exact ⟨exec_registerWrite_unaligned v hreg, exec_rcRead_unaligned hreg⟩
  · intro h howner
    rw [hwrite (by decide) h, State.wrWord_newNs v hme.dev howner]
  · have hdead : s.deadAt 0x10020010 = false := by simp [State.deadAt]
    have hisland : islandOf 0x10020010 = none := by decide
    have hcrossed : s.crossed 0x10020010 = s := by simp [State.crossed, hisland]
    rw [exec_registerWrite_firmware b v hlive (by decide) (by decide), hdead, if_neg Bool.false_ne_true, hcrossed,
      State.wrWord_wakeCfg v rfl rfl]
  · intro hjtag hlevel hruns
    have h2 : s.dbgMay 2 = true := State.dbgMay_of_level hjtag hlevel
    have h1 : s.dbgMay 1 = true := State.dbgMay_of_level hjtag (Nat.le_of_succ_le hlevel)
    rw [exec_registerWrite_debug b v hlive h1 h2 (by decide) (by decide) (by decide) hruns,
      State.wrWord_traceCtl _ _ h2]

end Sys2Proof.Machine
end

section
/-! Requests in unit space: what the windows let through, what they refuse, and the stale ones (R21 to R24, R30, R167). -/

namespace Sys2Proof.Machine
open Sys2Proof.Safety

/-! ### A request that arrives at its own device -/

/-- The state once request `m` has left the network. -/
def State.taken (s : State) (m : Msg) : State := { s with flight := s.flight.erase (msgSent m) }

/-- The state with the response `a` to request `m` on its way. -/
def State.answering (s : State) (m : Msg) (a : Resp) : State := { s with replies := s.replies ++ [answerTo m a] }

/-- A response carries its request's data back only to the event router, which finds its source there (log 36). -/
theorem answerTo_mresp (m : Msg) (k : RespKind) (st : Nat) (d : List Byte) :
    answerTo m (mresp m k st d) = mresp m k st
      (if m.kind = .event ∧ m.srcPhys = 0x7FF ∧ m.srcId = 0x400 then sliceB m.data 2 2 else d) := by
  have hrouter : fromRouter m = true ↔ m.kind = .event ∧ m.srcPhys = 0x7FF ∧ m.srcId = 0x400 := by
    simp [fromRouter]
    tauto
  unfold answerTo
  rw [apply_ite (mresp m k st), if_congr hrouter rfl rfl]
  rfl

/-- A request that is next of its sender and need not wait at a crossing is delivered (R51, R154). -/
theorem State.arrive_next {s : State} {m : Msg} {kind : MsgKind} (hkind : m.kind = kind)
    (hnext : s.nextOf (msgSent m) = true) (hrun : s.running = true) (hcut : m.cut = false)
    (hisland : s.islandRuns m.addr = true) : s.arrive m kind = s.deliver m := by
  obtain ⟨hrun, hhold⟩ : (s.power.st == .run) = true ∧ (!s.inHold) = true := Bool.and_eq_true_iff.mp hrun
  simp [State.arrive, State.present, State.passes, hkind, hnext, hcut, hrun, hhold, hisland]

/-- A request of unit space is served on its own device, and its response goes out. -/
theorem State.deliver_unit {s : State} {m : Msg} (hdev : m.dev = s.device) (hspace : m.space = 1) :
    s.deliver m = (((s.taken m).serveUnit m).1.answering m ((s.taken m).serveUnit m).2).keepAction m
      (answerTo m ((s.taken m).serveUnit m).2) := by
  unfold State.deliver State.serve
  rw [if_neg (not_not_intro hdev)]
  simp only [hspace, one_ne_zero, if_false, if_true]
  rfl

/-! ### Action reads (R176, R335) -/

theorem isAction_eq_false_of_kind {m : Msg} (h : m.kind ≠ .read) : isAction m = false := by
  simp [isAction, ReqSig.isAction, sigOf, h]

/-- Every action register lies above the memories of the unit map. -/
theorem isAction_eq_false_of_addr {m : Msg} (h : m.addr < 0x10000000) : isAction m = false := by
  have hlow : ¬ 0x10090000 ≤ m.addr ∧ m.addr ≠ 0x100A0000 ∧ ¬ 0x10070000 ≤ m.addr ∧ ¬ 0x10000800 ≤ m.addr := by omega
  simp [isAction, ReqSig.isAction, sigOf, hlow]

theorem State.keepAction_of_not_isAction (s : State) {m : Msg} (a : Resp) (h : isAction m = false) :
    s.keepAction m a = s := by
  simp [State.keepAction, h]

/-- The gate of a tile keeps the status of its action read that failed (R335). -/
theorem State.keepAction_error (s : State) {m : Msg} {a : Resp} (h : a.kind = .error) :
    s.keepAction m a = if isAction m = true ∧ m.srcPhys < 1088 then s.noteOutcome m.srcPhys m.tag (a.status, []) else s := by
  simp [State.keepAction, h]

/-! ### Service in unit space -/

/-- A stale request is dropped and counted at the gate that holds its unit (R167). -/
theorem State.serveUnit_stale {s : State} {m : Msg} (h : s.stale m = true) :
    s.serveUnit m = (s.staleDrop m (unitGate m), merr m 0x87) := by
  unfold State.serveUnit
  rw [if_pos h]

/-- A dropped request changes the drop counter of its court, the fault log and what a firing touches (R167, R324). -/
theorem State.staleDrop_frame (s : State) (m : Msg) (c : Nat) : ∃ r p w log q,
    s.staleDrop m c = State.withEvents { s with
      gates := { s.gates with drops := tput c (tget 0 c s.gates.drops + 1) s.gates.drops }
      aon := { s.aon with log := log, nextSeq := q } } r p w := by
  unfold State.staleDrop State.report
  dsimp only
  obtain ⟨r, p, w, h⟩ := State.fire_frame (State.logFault _ 3 m.srcPhys m.srcId 0 0 0 c) 3
  exact ⟨r, p, w, _, _, h⟩

/-- A read of port-buffer memory without errors returns its bytes (R22). -/
theorem State.serveUnit_read_buffer {s : State} {m : Msg} (hfresh : s.stale m = false) (hkind : m.kind = .read)
    (hcrc : m.badCrc = false) (hreach : s.reach (whoOf m) (some m) m.addr m.len false = 0) (hlo : 0x1000000 ≤ m.addr)
    (hhi : m.addr < 0x1400000) (hgood : s.faults.badBuf = []) :
    s.serveUnit m = (s, mresp m .done 0 (memRead 0 s.bufMem (m.addr - 0x1000000) m.len)) := by
  have hread : s.rdUnit (whoOf m) m.addr m.len = (s, 0, memRead 0 s.bufMem (m.addr - 0x1000000) m.len) := by
    unfold State.rdUnit
    rw [if_neg (by omega), if_pos hhi, hgood]
    rfl
  simp [State.serveUnit, hfresh, hkind, hreach, hcrc, hread]

/-- A write of port-buffer memory stores its bytes (R22). -/
theorem State.serveUnit_write_buffer {s : State} {m : Msg} (hfresh : s.stale m = false) (hkind : m.kind = .write)
    (hcrc : m.badCrc = false) (hreach : s.reach (whoOf m) (some m) m.addr m.data.length true = 0)
    (hlo : 0x1000000 ≤ m.addr) (hhi : m.addr < 0x1400000) (hgood : s.faults.badBuf = []) :
    s.serveUnit m = ({ s with bufMem := memWrite 0 s.bufMem (m.addr - 0x1000000) m.data }, mok m) := by
  have hwrite : s.wrUnit (whoOf m) m.addr m.data =
      ({ s with bufMem := memWrite 0 s.bufMem (m.addr - 0x1000000) m.data }, 0) := by
    have hfaults : { s.faults with badBuf := [] } = s.faults := by rw [← hgood]
    unfold State.wrUnit State.writeBuf
    rw [if_neg (by omega), if_pos hhi, hgood]
    exact congrArg (fun f => ({ s with bufMem := memWrite 0 s.bufMem (m.addr - 0x1000000) m.data, faults := f }, 0)) hfaults
  simp [State.serveUnit, hfresh, hkind, hreach, hcrc, hwrite]

/-- A read that no window allows is answered with the status of its refusal (R27, R157). -/
theorem State.serveUnit_read_refused {s : State} {m : Msg} (hfresh : s.stale m = false) (hkind : m.kind = .read)
    (h : s.reach (whoOf m) (some m) m.addr m.len false ≠ 0) :
    s.serveUnit m = (s, merr m (s.reach (whoOf m) (some m) m.addr m.len false)) := by
  simp [State.serveUnit, hfresh, hkind, h]

/-- A write that no window allows is answered with the status of its refusal (R27, R157). -/
theorem State.serveUnit_write_refused {s : State} {m : Msg} (hfresh : s.stale m = false) (hkind : m.kind = .write)
    (h : s.reach (whoOf m) (some m) m.addr m.data.length true ≠ 0) :
    s.serveUnit m = (s, merr m (s.reach (whoOf m) (some m) m.addr m.data.length true)) := by
  simp [State.serveUnit, hfresh, hkind, h]

/-- Unit space takes no messages and no events (R147). -/
theorem State.serveUnit_msg {s : State} {m : Msg} (hfresh : s.stale m = false) (hkind : m.kind = .msg)
    (hcrc : m.badCrc = false) : s.serveUnit m = (s, merr m 0x81) := by
  simp [State.serveUnit, hfresh, hkind, hcrc]

theorem State.serveUnit_event {s : State} {m : Msg} (hfresh : s.stale m = false) (hkind : m.kind = .event)
    (hcrc : m.badCrc = false) : s.serveUnit m = (s, merr m 0x81) := by
  simp [State.serveUnit, hfresh, hkind, hcrc]

/-! ### The statement -/

/-- Past the last byte of port-buffer memory the unit map has a gap, where nothing is reached (R22). -/
theorem State.reach_past_buffer (s : State) (w : Who) (m : Option Msg) (n : Nat) (write : Bool) :
    s.reach w m 0x1400000 n write = 0x81 := by
  have hmap : inUnitMap 0x1400000 = false := by decide
  simp [State.reach, hmap]

/-- Settles O24. -/
theorem unitRequests : Obligations.UnitRequests := by
  unfold Obligations.UnitRequests
  intro m s hnext hrun hdev hspace hcrc hcut hisland n answered refused buffer
  have hanswer (u : State) (k : RespKind) (st : Nat) (d : List Byte) :
      State.answering { u with flight := s.flight.erase (msgSent m), replies := s.replies } m (mresp m k st d) =
        answered u k st d := by
    rw [State.answering, answerTo_mresp]
    rfl
  have hserved {kind : MsgKind} {u : State} {a : Resp} (hkind : m.kind = kind)
      (hserve : (s.taken m).serveUnit m = (u, a)) :
      ok true (s.arrive m kind) = .next ((u.answering m a).keepAction m (answerTo m a)) := by
    rw [State.arrive_next hkind hnext hrun hcut hisland, State.deliver_unit hdev hspace, hserve]
    rfl
  have hplain {kind : MsgKind} {u : State} {a : Resp} (hkind : m.kind = kind) (haction : isAction m = false)
      (hserve : (s.taken m).serveUnit m = (u, a)) : ok true (s.arrive m kind) = .next (u.answering m a) := by
    rw [hserved hkind hserve, State.keepAction_of_not_isAction _ _ haction]
  have hrefused {kind : MsgKind} {st : Nat} (hkind : m.kind = kind) (haction : isAction m = false)
      (hserve : (s.taken m).serveUnit m = (s.taken m, merr m st)) : ok true (s.arrive m kind) = .next (refused st) :=
    (hplain hkind haction hserve).trans (congrArg _ (hanswer s _ _ _))
  have hinside {write : Bool} (hb : buffer) (hr : s.reach (whoOf m) (some m) m.addr n write = 0) : m.addr < 0x1400000 := by
    refine Nat.lt_of_le_of_ne (by omega) fun heq => ?_
    rw [heq, State.reach_past_buffer] at hr
    exact absurd hr (by decide)
  have hread (hkind : m.kind = .read) : n = m.len := if_pos hkind
  have hwrite (hkind : m.kind = .write) : n = m.data.length ∧ isAction m = false :=
    ⟨if_neg (by simp [hkind]), isAction_eq_false_of_kind (by simp [hkind])⟩
  refine ⟨?_, fun hfresh => ⟨?_, ?_, ?_, ?_, ?_, ?_⟩⟩
  · intro hkind hstale
    obtain ⟨r, p, w, log, q, hdrop⟩ := (s.taken m).staleDrop_frame m (unitGate m)
    refine ⟨_, hplain hkind (hwrite hkind).2 (State.serveUnit_stale hstale), ?_⟩
    have hreplies := congrArg State.replies (hanswer s .error 0x87 [BitVec.ofNat 8 0x87, 0, 0, 0])
    rw [hdrop]
    exact ⟨hreplies, rfl, tget_tput_self ..⟩
  · intro hkind hr hb hgood
    have hhi := hinside hb hr
    rw [hread hkind] at hr
    exact (hplain hkind (isAction_eq_false_of_addr (by omega)) (State.serveUnit_read_buffer (s := s.taken m) hfresh hkind
      hcrc hr hb.1 hhi hgood)).trans (congrArg _ (hanswer s _ _ _))
  · intro hkind hr hb hgood
    have hhi := hinside hb hr
    rw [(hwrite hkind).1] at hr
    exact (hplain hkind (hwrite hkind).2 (State.serveUnit_write_buffer (s := s.taken m) hfresh hkind hcrc hr hb.1 hhi
      hgood)).trans (congrArg _ (hanswer { s with bufMem := memWrite 0 s.bufMem (m.addr - 0x1000000) m.data } _ _ _))
  · intro hkind st hst
    have hserve : (s.taken m).serveUnit m = (s.taken m, merr m st) := by
      simp only [st, hread hkind] at hst ⊢
      exact State.serveUnit_read_refused hfresh hkind hst
    have hkept : answerTo m (merr m st) = merr m st := by
      simp [merr, answerTo_mresp, hkind]
    have hanswered : (s.taken m).answering m (merr m st) = refused st := hanswer s _ _ _
    refine (hserved hkind hserve).trans ?_
    rw [hkept, State.keepAction_error _ rfl, hanswered]
    rfl
  · intro hkind hst
    rw [(hwrite hkind).1] at hst ⊢
    exact hrefused hkind (hwrite hkind).2 (State.serveUnit_write_refused (s := s.taken m) hfresh hkind hst)
  · intro hkind
    exact hrefused hkind (isAction_eq_false_of_kind (by simp [hkind]))
      (State.serveUnit_msg (s := s.taken m) hfresh hkind hcrc)
  · intro hkind
    exact hrefused hkind (isAction_eq_false_of_kind (by simp [hkind]))
      (State.serveUnit_event (s := s.taken m) hfresh hkind hcrc)

end Sys2Proof.Machine
end

section
/-! Accesses of the host through its BARs (R27, R384, R406, R464 to R466). -/

namespace Sys2Proof.Machine
open Sys2Proof.Safety

/-! ### Bytes of words -/

/-- The bytes of the number that bytes spell are those bytes (R5). -/
theorem leBytes_leNum (bs : List Byte) : leBytes (leNum bs) bs.length = bs := by
  induction bs with
  | nil => rfl
  | cons b r ih =>
    have hlow : BitVec.ofNat 8 (b.toNat + 256 * leNum r) = b := by
      apply BitVec.eq_of_toNat_eq
      simp [b.isLt]
    have hrest : (b.toNat + 256 * leNum r) / 256 = leNum r := by
      have := b.isLt
      omega
    rw [List.length_cons, leNum, leBytes, hlow, hrest, ih]

theorem leBytes_zero (k : Nat) : leBytes 0 k = List.replicate k 0 := by
  induction k with
  | zero => rfl
  | succ k ih => rw [leBytes, ih, List.replicate_succ]; rfl

/-- Bytes cut out of zeros are zeros. -/
theorem sliceB_zero {bs : List Byte} (h : ∀ b ∈ bs, b = 0) (a n : Nat) : sliceB bs a n = leBytes 0 n := by
  rw [leBytes_zero, List.eq_replicate_iff]
  refine ⟨by simp [sliceB], fun b hb => ?_⟩
  obtain ⟨i, -, rfl⟩ := List.mem_map.mp hb
  cases hget : bs[a + i]? with
  | none => rfl
  | some c => exact h c (List.mem_of_getElem? hget)

theorem leNum_mod_two (b : Byte) (r : List Byte) : leNum (b :: r) % 2 = 1 ↔ b.getLsbD 0 = true := by
  rw [leNum, BitVec.getLsbD, Nat.testBit_zero]
  simp
  omega

/-! ### When an access acts (R466) -/

/-- The host may have another read outstanding (R466). -/
def HostPort.readRoom (h : HostPort) : Prop := (h.outs.filter fun q => q.msg.kind == .read).length < 32

theorem State.hostUp_of_run {s : State} (hup : s.host.linkUp = true) (hrun : s.power.st = .run) : s.hostUp = true := by
  simp [State.hostUp, hup, hrun]

theorem hostAccValid_read {bar o size tag : Nat} (h : 1 ≤ size ∧ size ≤ 512) (hbar : o + size ≤ barSize bar) :
    hostAccValid ⟨bar, o, size, none, tag⟩ = true := by
  simp [hostAccValid, h, hbar]

theorem hostAccValid_write {bar o tag : Nat} {bs : List Byte} (h : 1 ≤ bs.length ∧ bs.length ≤ 256)
    (hbar : o + bs.length ≤ barSize bar) : hostAccValid ⟨bar, o, 0, some bs, tag⟩ = true := by
  simp [hostAccValid, h, hbar]

/-- Where the link is up and the function awake, a valid access goes to its BAR. -/
theorem exec_hostAccess {s : State} {a : HostAcc} (hup : s.hostUp = true) (hd3 : s.host.d3hot = false)
    (hvalid : hostAccValid a = true) (hroom : a.write = none → s.host.readRoom) :
    exec (.hostAccess a) s =
      .next (if a.bar = 0 then s.bar0 a else if a.bar = 2 then s.bar2 a else s.bar4 a) := by
  have hroom' : (a.write.isSome || decide ((s.host.outs.filter fun q => q.msg.kind == .read).length < 32)) = true := by
    cases hw : a.write with
    | none => simpa [HostPort.readRoom] using hroom hw
    | some bs => rfl
  simp only [exec, execHostAccess, ok, when_, hup, hvalid, hroom', hd3, Bool.and_self, if_true, Bool.false_eq_true, if_false]

/-- In D3hot a valid memory request is an Unsupported Request (R469, log 142). -/
theorem exec_hostAccess_d3hot {s : State} {a : HostAcc} (hup : s.hostUp = true) (hd3 : s.host.d3hot = true)
    (hvalid : hostAccValid a = true) (hroom : a.write = none → s.host.readRoom) :
    exec (.hostAccess a) s = .next (s.unsupported a) := by
  have hroom' : (a.write.isSome || decide ((s.host.outs.filter fun q => q.msg.kind == .read).length < 32)) = true := by
    cases hw : a.write with
    | none => simpa [HostPort.readRoom] using hroom hw
    | some bs => rfl
  simp only [exec, execHostAccess, ok, when_, hup, hvalid, hroom', hd3, Bool.and_self, if_true]

/-- With 32 reads outstanding another read waits (R466, log 2). -/
theorem exec_hostAccess_waits {s : State} {bar o size tag : Nat} (h : ¬ s.host.readRoom) :
    exec (.hostAccess ⟨bar, o, size, none, tag⟩) s = .next s := by
  have hroom : decide ((s.host.outs.filter fun q => q.msg.kind == .read).length < 32) = false := decide_eq_false h
  simp only [exec, execHostAccess, ok, when_, hroom, Option.isSome_none, Bool.or_false, Bool.and_false, if_true,
    Bool.false_eq_true, if_false]

theorem exec_hostAccess_linkDown {s : State} (a : HostAcc) (h : s.host.linkUp = false) :
    exec (.hostAccess a) s = .next s := by
  simp [exec, execHostAccess, ok, when_, State.hostUp, h]

/-! ### BAR0 (R384) -/

theorem bar0At_low {o : Nat} (h : o < 0xA00) : bar0At o = some (0x10000000 + o) := if_pos h

theorem bar0At_mailbox {o : Nat} (hlo : 0x2000 ≤ o) (hhi : o < 0x6000) : bar0At o = some (0x10010000 + (o - 0x2000)) := by
  rw [bar0At, if_neg (by omega), if_pos ⟨hlo, hhi⟩]

theorem bar0At_hole {o : Nat} (hlo : 0xA00 ≤ o) (h : o < 0x2000 ∨ 0x6000 ≤ o) : bar0At o = none := by
  rw [bar0At, if_neg (by omega), if_neg (by omega)]

theorem State.bar0Word_hole (s : State) (w : Who) {o : Nat} (h : bar0At o = none) : s.bar0Word w o = (s, 0) := by
  rw [State.bar0Word, h]

theorem State.bar0Word_capability (s : State) (w : Who) {o : Nat} (h : o < 0x800) :
    s.bar0Word w o = (s, leNum (s.capBytes o 4)) := by
  have hblock : (0x10000000 + o) / 0x10000 = 0x1000 := by omega
  have hoff : (0x10000000 + o) % 0x10000 = o := by omega
  rw [State.bar0Word, bar0At_low (by omega)]
  simp only [State.rdWord, hblock, hoff, State.rdCap, h, if_true]

theorem State.bar0Word_mailbox (s : State) (w : Who) {o : Nat} (hlo : 0x2000 ≤ o) (hhi : o < 0x6000) :
    s.bar0Word w o = (s, leNum ((List.range 4).map fun i => s.mbxByte (o - 0x2000 + i))) := by
  have hblock : (0x10010000 + (o - 0x2000)) / 0x10000 = 0x1001 := by omega
  have hoff : (0x10010000 + (o - 0x2000)) % 0x10000 = o - 0x2000 := by omega
  rw [State.bar0Word, bar0At_mailbox hlo hhi]
  simp only [State.rdWord, hblock, hoff]

/-- Words of BAR0 that reading leaves alone are read one after the other. -/
theorem State.bar0Read_eq {s : State} {w : Who} {o : Nat} {v : Nat → Nat} (k : Nat)
    (h : ∀ i < k, s.bar0Word w (o + 4 * i) = (s, v i)) :
    s.bar0Read w o k = (s, (List.range k).flatMap fun i => leBytes (v i) 4) := by
  induction k with
  | zero => rfl
  | succ k ih =>
    have hk := ih fun i hi => h i (by omega)
    unfold State.bar0Read at hk ⊢
    rw [List.range_succ, List.foldl_append, hk, List.flatMap_append]
    simp [h k (Nat.lt_succ_self k)]

/-- A read through BAR0 of words that reading leaves alone completes with their bytes (R384, R466). -/
theorem State.bar0_read {s : State} {o size tag : Nat} {v : Nat → Nat}
    (h : ∀ i < (o % 4 + size + 3) / 4, s.bar0Word s.hostWho (o / 4 * 4 + 4 * i) = (s, v i)) :
    s.bar0 ⟨0, o, size, none, tag⟩ = (s.usedTag s.hostWho.tag).hostData tag o
      (sliceB ((List.range ((o % 4 + size + 3) / 4)).flatMap fun i => leBytes (v i) 4) (o % 4) size) := by
  simp only [State.bar0, State.bar0Read_eq _ h]

/-- A read of an aligned word of the capability block. -/
theorem State.bar0_read_capability (s : State) {o : Nat} (tag : Nat) (h : o < 0x800) (halign : o % 4 = 0) :
    s.bar0 ⟨0, o, 4, none, tag⟩ =
      (s.usedTag s.hostWho.tag).hostData tag o (leBytes (leNum (s.capBytes o 4)) 4) := by
  have hword : ∀ i < (o % 4 + 4 + 3) / 4, s.bar0Word s.hostWho (o / 4 * 4 + 4 * i) = (s, leNum (s.capBytes o 4)) := by
    intro i hi
    rw [show o / 4 * 4 + 4 * i = o by omega]
    exact s.bar0Word_capability _ h
  have hslice := sliceB_self (leBytes (leNum (s.capBytes o 4)) 4)
  rw [leBytes_length] at hslice
  rw [State.bar0_read hword, halign]
  simp [hslice]

/-- A read of one byte of mailbox 0's command area (R385). -/
theorem State.bar0_read_command (s : State) {o : Nat} (tag : Nat) (h : o < 0x1000) :
    s.bar0 ⟨0, 0x2000 + o, 1, none, tag⟩ =
      (s.usedTag s.hostWho.tag).hostData tag (0x2000 + o) [memGet 0 o (s.mbx 0).cmd] := by
  have hbyte : s.mbxByte (o / 4 * 4 + o % 4) = memGet 0 o (s.mbx 0).cmd := by
    rw [show o / 4 * 4 + o % 4 = o by omega]
    simp [State.mbxByte, show o / 0x2000 = 0 by omega, show o % 0x2000 < 0x1000 by omega, Nat.mod_eq_of_lt h]
  have hword : ∀ i < ((0x2000 + o) % 4 + 1 + 3) / 4, s.bar0Word s.hostWho ((0x2000 + o) / 4 * 4 + 4 * i) =
      (s, leNum ((List.range 4).map fun j => s.mbxByte (o / 4 * 4 + j))) := by
    intro i hi
    rw [s.bar0Word_mailbox _ (by omega) (by omega), show (0x2000 + o) / 4 * 4 + 4 * i - 0x2000 = o / 4 * 4 by omega]
  have hcount : ((0x2000 + o) % 4 + 1 + 3) / 4 = 1 := by omega
  have hoff : (0x2000 + o) % 4 = o % 4 := by omega
  have hbytes := leBytes_leNum ((List.range 4).map fun j => s.mbxByte (o / 4 * 4 + j))
  rw [List.length_map, List.length_range] at hbytes
  rw [State.bar0_read hword, hcount, hoff, List.range_one, List.flatMap_singleton, hbytes]
  have hlt : o % 4 < 4 := by omega
  simp [sliceB, hlt, hbyte]

/-- A read that runs past the mailboxes' areas: mailbox 1's last response word, then zeros (R10, R384). -/
theorem State.bar0_read_lastResponse (s : State) (tag : Nat) :
    s.bar0 ⟨0, 0x5FFC, 8, none, tag⟩ = (s.usedTag s.hostWho.tag).hostData tag 0x5FFC
      (memRead 0 (s.mbx 1).resp 0xFFC 4 ++ [0, 0, 0, 0]) := by
  have hbytes := leBytes_leNum (memRead 0 (s.mbx 1).resp 0xFFC 4)
  rw [memRead, List.length_map, List.length_range, ← memRead] at hbytes
  have hresp : ((List.range 4).map fun j => s.mbxByte (0x3FFC + j)) = memRead 0 (s.mbx 1).resp 0xFFC 4 := rfl
  have hword : ∀ i < (0x5FFC % 4 + 8 + 3) / 4, s.bar0Word s.hostWho (0x5FFC / 4 * 4 + 4 * i) =
      (s, if i = 0 then leNum (memRead 0 (s.mbx 1).resp 0xFFC 4) else 0) := by
    intro i hi
    obtain rfl | rfl : i = 0 ∨ i = 1 := by omega
    · rw [s.bar0Word_mailbox _ (by decide) (by decide), if_pos rfl, ← hresp]
    · exact s.bar0Word_hole _ (bar0At_hole (by decide) (.inr (by decide)))
  have hslice := sliceB_self (memRead 0 (s.mbx 1).resp 0xFFC 4 ++ leBytes 0 4)
  have hlen : (memRead 0 (s.mbx 1).resp 0xFFC 4 ++ leBytes 0 4).length = 8 := by simp [memRead]
  rw [hlen] at hslice
  rw [State.bar0_read hword]
  simp only [show (0x5FFC % 4 + 8 + 3) / 4 = 2 from rfl, show 0x5FFC % 4 = 0 from rfl, List.range_succ, List.range_zero,
    List.nil_append, List.cons_append, List.flatMap_cons, List.flatMap_nil, List.append_nil, if_true, one_ne_zero,
    if_false, hbytes, hslice]
  rfl

/-- Offsets that R384 does not list read zero (R10). -/
theorem State.bar0_read_hole (s : State) {o size : Nat} (tag : Nat) (hlo : 0xA00 ≤ o)
    (h : o + size ≤ 0x2000 ∨ 0x6000 ≤ o) :
    s.bar0 ⟨0, o, size, none, tag⟩ = (s.usedTag s.hostWho.tag).hostData tag o (leBytes 0 size) := by
  have hword : ∀ i < (o % 4 + size + 3) / 4, s.bar0Word s.hostWho (o / 4 * 4 + 4 * i) = (s, 0) := fun i hi =>
    s.bar0Word_hole _ (bar0At_hole (by omega) (by omega))
  rw [State.bar0_read hword, sliceB_zero]
  intro b hb
  obtain ⟨i, -, hi⟩ := List.mem_flatMap.mp hb
  rw [leBytes_zero] at hi
  exact List.eq_of_mem_replicate hi

/-- Offsets that R384 does not list ignore writes (R10). -/
theorem State.bar0Write_hole (s : State) (w : Who) {o : Nat} {bs : List Byte} (k : Nat)
    (h : ∀ x, o ≤ x → x < o + bs.length → bar0At x = none) : s.bar0Write w k o bs = s := by
  induction k generalizing o bs with
  | zero => rfl
  | succ k ih =>
    unfold State.bar0Write
    dsimp only
    split
    · rfl
    · next hne =>
      have hpos : 0 < bs.length := List.length_pos_iff.mpr fun hnil => hne (by rw [hnil]; rfl)
      rw [State.bar0Flit, h o (Nat.le_refl o) (by omega)]
      refine ih fun x hx hx' => h x (by omega) ?_
      rw [List.length_drop] at hx'
      omega

theorem State.bar0_write_hole (s : State) {o : Nat} {bs : List Byte} (tag : Nat) (hlo : 0xA00 ≤ o)
    (h : o + bs.length ≤ 0x2000 ∨ 0x6000 ≤ o) : s.bar0 ⟨0, o, 0, some bs, tag⟩ = s.usedTag s.hostWho.tag := by
  rw [State.bar0]
  dsimp only
  rw [s.bar0Write_hole _ _ fun x hx hx' => bar0At_hole (by omega) (by omega)]

/-- A word written to MBX_DOORBELL of mailbox 0 or 1 rings it (R384, R387). -/
theorem State.bar0_write_doorbell (s : State) {m : Nat} {bs : List Byte} (tag : Nat) (hm : m < 2) (hlen : bs.length = 4) :
    s.bar0 ⟨0, 0x800 + 0x20 * m, 0, some bs, tag⟩ =
      (s.doorbell m s.device 0x401 (w32 (leNum bs))).usedTag s.hostWho.tag := by
  have hflit : s.bar0Flit s.hostWho (0x800 + 0x20 * m) bs = s.doorbell m s.device 0x401 (w32 (leNum bs)) := by
    have hblock : (0x10000000 + (0x800 + 0x20 * m)) / 0x10000 = 0x1000 := by omega
    have halign : (0x10000000 + (0x800 + 0x20 * m)) % 4 = 0 := by omega
    have hoff : (0x10000000 + (0x800 + 0x20 * m)) % 0x10000 = 0x800 + 0x20 * m := by omega
    have hbell : ¬ (0x800 + 0x20 * m < 0x800 ∨ 0x900 ≤ 0x800 + 0x20 * m) := by omega
    have hbox : (0x800 + 0x20 * m - 0x800) / 0x20 = m := by omega
    have hreg : (0x800 + 0x20 * m) % 0x20 = 0 := by omega
    rw [State.bar0Flit, bar0At_low (by omega)]
    simp only [State.wrFlit, hblock, halign, hlen, and_self, if_true, State.wrWord, hoff, State.wrDoorbell, if_neg hbell,
      hbox, hreg]
    rfl
  have htake : bs.take (4 - (0x800 + 0x20 * m) % 4) = bs := List.take_of_length_le (by omega)
  have hdrop : bs.drop (4 - (0x800 + 0x20 * m) % 4) = [] := List.drop_of_length_le (by omega)
  have hne : bs.isEmpty = false := by
    rw [List.isEmpty_eq_false_iff]
    rintro rfl
    exact absurd hlen (by decide)
  simp only [State.bar0, hlen, State.bar0Write, hne, htake, hdrop, hflit, List.isEmpty_nil, if_true, Bool.false_eq_true,
    if_false]

/-! ### BAR2 (R27, R405, R406) -/

/-- The host's window that serves an access through BAR2. -/
def State.bar2Window (s : State) (o n : Nat) (write : Bool) : Option Window :=
  s.mgmt.windows.find? fun x =>
    x.master == 0x401 && x.dev == s.device && x.slot == o / 0x800000 && !x.closing &&
      decide (o % 0x800000 + n ≤ x.size) && (x.rw || !write)

/-- A read through BAR2 that no window serves returns all ones (R27). -/
theorem State.bar2_read_refused {s : State} {o size : Nat} (tag : Nat) (h : s.bar2Window o size false = none) :
    s.bar2 ⟨2, o, size, none, tag⟩ = s.hostError.hostData tag o (List.replicate size 0xFF) := by
  unfold State.bar2Window at h
  simp only [State.bar2, Option.isNone_none]
  simp only [Bool.not_false] at h
  rw [h]
  rfl

theorem State.bar2_write_refused {s : State} {o : Nat} {bs : List Byte} (tag : Nat)
    (h : s.bar2Window o bs.length true = none) : s.bar2 ⟨2, o, 0, some bs, tag⟩ = s.hostError := by
  unfold State.bar2Window at h
  simp only [State.bar2, Option.isNone_some]
  simp only [Bool.not_true] at h
  rw [h]
  rfl

/-- The request that the host port sends for an access in window `x` at offset `o` (R405, R466). -/
def State.hostRequest (s : State) (x : Window) (o n t : Nat) (kind : MsgKind) (d : List Byte) : Msg :=
  { kind := kind, len := n, srcId := 0x401, srcPhys := 0x7FF, srcDev := s.device, tag := t, cap := 0, chk := false
    dev := (x.base + o) / 2 ^ 34, space := (x.base + o) / 2 ^ 32 % 4, addr := (x.base + o) % 2 ^ 32, data := d
    badCrc := false }

/-- The host port sends a request for an access at `o` of a BAR. -/
def State.hostSends (s : State) (q : Msg) (tag o n t : Nat) : State :=
  { s with
    flight := s.flight ++ [q]
    host := { s.host with
      outs := s.host.outs ++ [{ msg := q, pcie := tag, off := o, size := n, resends := 0, since := s.now }]
      nextTag := (t + 1) % 256 } }

theorem State.bar2_read_sent {s : State} {o size t : Nat} {x : Window} (tag : Nat)
    (h : s.bar2Window o size false = some x) (ht : s.host.newTag = some t) :
    s.bar2 ⟨2, o, size, none, tag⟩ =
      s.hostSends (s.hostRequest x (o % 0x800000) size t .read []) tag o size t := by
  unfold State.bar2Window at h
  simp only [State.bar2, Option.isNone_none]
  simp only [Bool.not_false] at h
  rw [h]
  dsimp only
  rw [ht]
  rfl

theorem State.bar2_write_sent {s : State} {o t : Nat} {bs : List Byte} {x : Window} (tag : Nat)
    (h : s.bar2Window o bs.length true = some x) (ht : s.host.newTag = some t) :
    s.bar2 ⟨2, o, 0, some bs, tag⟩ =
      s.hostSends (s.hostRequest x (o % 0x800000) bs.length t .write bs) tag o bs.length t := by
  unfold State.bar2Window at h
  simp only [State.bar2, Option.isNone_some]
  simp only [Bool.not_true] at h
  rw [h]
  dsimp only
  rw [ht]
  rfl

/-- The first window serves an access in its slot that it covers (R405). -/
theorem State.bar2Window_head {s : State} {x : Window} {n o size : Nat} {write : Bool}
    (hx : s.mgmt.windows.head? = some x) (hmaster : x.master = 0x401) (hdev : x.dev = s.device)
    (hopen : x.closing = false) (hslot : x.slot = n) (ho : o < 0x800000) (hsize : o + size ≤ x.size)
    (hrw : write = true → x.rw = true) : s.bar2Window (0x800000 * n + o) size write = some x := by
  obtain ⟨r, hr⟩ := List.head?_eq_some_iff.mp hx
  have hslot' : (0x800000 * n + o) / 0x800000 = n := by omega
  have hoff : (0x800000 * n + o) % 0x800000 = o := by omega
  have hmode : (x.rw || !write) = true := by
    cases write
    · simp
    · simp [hrw rfl]
  unfold State.bar2Window
  rw [hr, List.find?_cons_of_pos]
  simp [hmaster, hdev, hopen, hslot, hslot', hoff, hsize, hmode]

/-- No window serves a write in a slot whose windows are for reading (R405). -/
theorem State.bar2Window_readOnly {s : State} {n o size : Nat} (ho : o < 0x800000)
    (h : ∀ y ∈ s.mgmt.windows, y.slot = n → y.rw = false) : s.bar2Window (0x800000 * n + o) size true = none := by
  have hslot : (0x800000 * n + o) / 0x800000 = n := by omega
  refine List.find?_eq_none.mpr fun y hy hserves => ?_
  simp only [hslot, Bool.and_eq_true, beq_iff_eq, Bool.not_true, Bool.or_false] at hserves
  obtain ⟨⟨⟨⟨-, hy'⟩, -⟩, -⟩, hrw⟩ := hserves
  rw [h y hy hy'] at hrw
  exact Bool.false_ne_true hrw

/-! ### BAR4 (R465, R467) -/

/-- A word written to BAR4 is taken byte by byte. -/
theorem State.bar4_write_word (s : State) (o tag : Nat) (b0 b1 b2 b3 : Byte) :
    s.bar4 ⟨4, o, 0, some [b0, b1, b2, b3], tag⟩ =
      (((s.bar4Byte o b0).bar4Byte (o + 1) b1).bar4Byte (o + 2) b2).bar4Byte (o + 3) b3 := rfl

/-- Byte 12 of an entry masks or unmasks its vector. -/
theorem State.bar4Byte_mask (s : State) {v : Nat} (b : Byte) (hv : v < 64) :
    s.bar4Byte (16 * v + 12) b = s.configWrite (.vectorMask v (b.getLsbD 0)) := by
  rw [State.bar4Byte, if_neg (by omega), if_pos (by omega), show (16 * v + 12) / 16 = v by omega]

/-- The last three bytes of an entry are held at zero. -/
theorem State.bar4Byte_reserved (s : State) {v j : Nat} (b : Byte) (hv : v < 64) (hlo : 12 < j) (hhi : j < 16) :
    s.bar4Byte (16 * v + j) b = s := by
  rw [State.bar4Byte, if_neg (by omega), if_neg (by omega), if_neg (by omega)]

/-- The table with other bytes. -/
def State.withMsixTable (s : State) (m : Mem) : State := { s with host := { s.host with table := m } }

theorem State.withMsixTable_twice (s : State) (m k : Mem) : (s.withMsixTable m).withMsixTable k = s.withMsixTable k := rfl

theorem State.withMsixTable_table (s : State) (m : Mem) : (s.withMsixTable m).host.table = m := rfl

theorem State.bar4Byte_table (s : State) {v j : Nat} (b : Byte) (hv : v < 64) (hj : j < 12) :
    s.bar4Byte (16 * v + j) b = s.withMsixTable (memWrite 0 s.host.table (16 * v + j) [b]) := by
  rw [State.bar4Byte, if_neg (by omega), if_neg (by omega), if_pos (by omega)]
  rfl

/-- A word of an entry's address or data is stored (R465). -/
theorem State.bar4_write_table (s : State) {v j : Nat} {bs : List Byte} (tag : Nat) (hv : v < 64) (hj : j < 3)
    (hlen : bs.length = 4) : s.bar4 ⟨4, 16 * v + 4 * j, 0, some bs, tag⟩ =
      s.withMsixTable (memWrite 0 s.host.table (16 * v + 4 * j) bs) := by
  match bs, hlen with
  | [b0, b1, b2, b3], _ =>
    simp only [State.bar4_write_word, Nat.add_assoc]
    rw [s.bar4Byte_table _ hv (by omega), State.bar4Byte_table _ _ hv (by omega), State.bar4Byte_table _ _ hv (by omega),
      State.bar4Byte_table _ _ hv (by omega)]
    simp only [State.withMsixTable_twice, State.withMsixTable_table, memWrite, Nat.add_assoc]

/-- A word of vector control masks or unmasks the entry by its lowest bit (R467). -/
theorem State.bar4_write_mask (s : State) {v : Nat} {bs : List Byte} (tag : Nat) (hv : v < 64) (hlen : bs.length = 4) :
    s.bar4 ⟨4, 16 * v + 12, 0, some bs, tag⟩ = s.configWrite (.vectorMask v (decide (leNum bs % 2 = 1))) := by
  match bs, hlen with
  | [b0, b1, b2, b3], _ =>
    have hbit : decide (leNum [b0, b1, b2, b3] % 2 = 1) = b0.getLsbD 0 := by
      simp only [leNum_mod_two, Bool.decide_eq_true]
    simp only [State.bar4_write_word, Nat.add_assoc]
    rw [s.bar4Byte_mask _ hv, State.bar4Byte_reserved _ _ hv (by omega) (by omega),
      State.bar4Byte_reserved _ _ hv (by omega) (by omega), State.bar4Byte_reserved _ _ hv (by omega) (by omega), hbit]

/-- An aligned word of BAR4 is read. -/
theorem State.bar4_read_word (s : State) {o : Nat} (tag : Nat) (halign : o % 4 = 0) :
    s.bar4 ⟨4, o, 4, none, tag⟩ = s.hostData tag o (leBytes (s.host.bar4Word o) 4) := by
  have hslice := sliceB_self (leBytes (s.host.bar4Word o) 4)
  rw [leBytes_length] at hslice
  have hbase : o / 4 * 4 = o := by omega
  simp [State.bar4, halign, hbase, hslice]

theorem HostPort.bar4Word_mask (h : HostPort) {v : Nat} (hv : v < 64) :
    h.bar4Word (16 * v + 12) = if v ∈ h.unmasked then 0 else 1 := by
  rw [HostPort.bar4Word, if_pos (by omega), if_pos (by omega), show (16 * v + 12) / 16 = v by omega]
  by_cases hm : v ∈ h.unmasked <;> simp [hm, b2n]

theorem HostPort.bar4Word_table (h : HostPort) {v j : Nat} (hv : v < 64) (hj : j < 3) :
    h.bar4Word (16 * v + 4 * j) = leNum (memRead 0 h.table (16 * v + 4 * j) 4) := by
  rw [HostPort.bar4Word, if_pos (by omega), if_neg (by omega)]

end Sys2Proof.Machine
end

section
/-! The host function's resets, its configuration space and the requests of the service port (R407, R464 to R474). -/

namespace Sys2Proof.Machine
open Sys2Proof.Safety

/-! ### What a firing in Run counts (R257) -/

theorem State.fires_fire {s : State} (hrun : s.power.st = .run) {n : Nat} (hn : reservedSource n = false) :
    ((s.fire n).src n).fires = (s.src n).fires + 1 := by
  rw [State.fire_src_self hrun hn]
  rfl

/-- A later firing of another source does not count. -/
theorem State.fireIf_src_ne {s : State} (hrun : s.power.st = .run) (c : Bool) {n m : Nat} (h : m ≠ n) :
    (s.fireIf c n).src m = s.src m := by
  cases c
  · rfl
  · exact State.fire_src_ne hrun h

theorem State.fires_fireIf {s : State} (hrun : s.power.st = .run) {c : Bool} {n : Nat} (hc : c = true)
    (hn : reservedSource n = false) : ((s.fireIf c n).src n).fires = (s.src n).fires + 1 := by
  rw [hc]
  exact State.fires_fire hrun hn

/-- A firing leaves where a source's deliveries go (R257). -/
theorem State.fireIf_target {s : State} (hrun : s.power.st = .run) (c : Bool) (n i : Nat) :
    ((s.fireIf c n).src i).kind = (s.src i).kind ∧ ((s.fireIf c n).src i).vector = (s.src i).vector := by
  by_cases hi : i = n
  · subst hi
    cases c
    · exact ⟨rfl, rfl⟩
    · cases hr : reservedSource i
      · rw [State.fireIf, if_pos rfl, State.fire_src_self hrun hr]
        exact ⟨rfl, rfl⟩
      · rw [State.fireIf, if_pos rfl, State.fire_reserved _ hr]
        exact ⟨rfl, rfl⟩
  · rw [State.fireIf_src_ne hrun c hi]
    exact ⟨rfl, rfl⟩

theorem State.fireIf_power {s : State} (hrun : s.power.st = .run) (c : Bool) (n : Nat) : (s.fireIf c n).power = s.power := by
  cases c
  · rfl
  · exact State.fire_power hrun n

/-! ### Requests to abort (R397, R407, R472) -/

theorem State.requestAbort_frame (s : State) (m status : Nat) : ∃ b,
    s.requestAbort m status = { s with mgmt := { s.mgmt with boxes := b } } := by
  unfold State.requestAbort
  dsimp only
  split <;> exact ⟨_, rfl⟩

theorem State.requestAbort_mbx_ne (s : State) {m k : Nat} (status : Nat) (h : k ≠ m) :
    (s.requestAbort m status).mbx k = s.mbx k := by
  unfold State.requestAbort
  dsimp only
  split
  · exact State.setMbx_mbx_ne _ _ h
  · rfl

/-- An outstanding command is marked once to be aborted. -/
theorem State.requestAbort_aborting {s : State} {m : Nat} (status : Nat) (hbusy : (s.mbx m).busy = true)
    (hfirst : (s.mbx m).aborting = false) : ((s.requestAbort m status).mbx m).aborting = true := by
  simp [State.requestAbort, hbusy, hfirst]

theorem State.requestAbort_st (s : State) (m status : Nat) : ((s.requestAbort m status).mbx m).st = (s.mbx m).st := by
  unfold State.requestAbort
  dsimp only
  split
  · rw [State.setMbx_mbx]
  · rfl

/-! ### Function resets (R407, R468) -/

/-- The host's windows after a reset are closing and wait for accesses that they had accepted (R28, R407). -/
theorem State.closeHostWindows_frame (s : State) : ∃ windows,
    s.closeHostWindows = { s with mgmt := { s.mgmt with windows := windows } } ∧
      ∀ w ∈ windows, w.master = 0x401 → w.dev = s.device → w.closing = true ∧ w.accepted ≠ [] := by
  refine ⟨_, rfl, fun w hw hmaster hdev => ?_⟩
  obtain ⟨hmem, hkept⟩ := List.mem_filter.mp hw
  obtain ⟨x, -, hx⟩ := List.mem_map.mp hmem
  split at hx
  · subst hx
    simp_all
  · subst hx
    simp_all

theorem State.endReached_frame (s : State) (p : Msg → Bool) : ∃ flight replies free,
    s.endReached p = { s with flight := flight, replies := replies, free := free } := ⟨_, _, _, rfl⟩

/-- The aborts of mailboxes 0 and 1 (R407). -/
theorem State.hostAborts_frame (s : State) : ∃ boxes,
    (s.requestAbort 0 2).requestAbort 1 2 = { s with mgmt := { s.mgmt with boxes := boxes } } ∧
      ∀ m < 2, (s.mbx m).busy = true → (s.mbx m).aborting = false → (tget {} m boxes).aborting = true := by
  obtain ⟨b, hb⟩ := s.requestAbort_frame 0 2
  obtain ⟨b', hb'⟩ := (s.requestAbort 0 2).requestAbort_frame 1 2
  refine ⟨b', by rw [hb', hb], fun m hm hbusy hfirst => ?_⟩
  have hbox : tget {} m b' = ((s.requestAbort 0 2).requestAbort 1 2).mbx m := by
    rw [hb']
    rfl
  rw [hbox]
  obtain rfl | rfl : m = 0 ∨ m = 1 := by omega
  · rw [State.requestAbort_mbx_ne _ _ (by decide)]
    exact State.requestAbort_aborting 2 hbusy hfirst
  · have hother := s.requestAbort_mbx_ne (m := 0) (k := 1) 2 (by decide)
    exact State.requestAbort_aborting 2 (by rwa [hother]) (by rwa [hother])

/-- The host port after a reset of the function; a link that went down is down (R468). -/
def State.hostAfter (s : State) (c : FlrCause) : HostPort :=
  if c = .linkDown then { s.host.reset s.now with linkUp := false, gen := 0, width := 0 } else s.host.reset s.now

/-- A reset aborts the commands of mailboxes 0 and 1, closes the host's windows, ends the transfers that the port's
island had accepted, and returns the function to its reset values; beyond that it only fires (R407, R468). -/
theorem State.hostReset_frame (s : State) (c : FlrCause) : ∃ boxes windows flight replies free,
    s.hostReset c = (State.fire { s with
      mgmt := { s.mgmt with boxes := boxes, windows := windows }, flight := flight, replies := replies, free := free
      host := s.hostAfter c } (if c = .linkDown then 288 else 290)).fireIf s.host.d3hot 291 ∧
    (∀ m < 2, (s.mbx m).busy = true → (s.mbx m).aborting = false → (tget {} m boxes).aborting = true) ∧
    ∀ w ∈ windows, w.master = 0x401 → w.dev = s.device → w.closing = true ∧ w.accepted ≠ [] := by
  obtain ⟨boxes, habort, hboxes⟩ := s.hostAborts_frame
  obtain ⟨windows, hclose, hwindows⟩ := State.closeHostWindows_frame { s with mgmt := { s.mgmt with boxes := boxes } }
  obtain ⟨flight, replies, free, hend⟩ := State.endReached_frame
    { s with mgmt := { s.mgmt with boxes := boxes, windows := windows } } (s.intoIsland 6)
  refine ⟨boxes, windows, flight, replies, free, ?_, hboxes, hwindows⟩
  unfold State.hostReset
  rw [habort, hclose, hend]
  rfl

/-! ### Vectors (R465, R467) -/

theorem HostPort.maySend_eq_false {h : HostPort} {v : Nat}
    (hgated : h.msix = false ∨ h.fmask = true ∨ h.bme = false ∨ v ∉ h.unmasked) : h.maySend v = false := by
  rcases hgated with h' | h' | h' | h' <;> simp [HostPort.maySend, h']

/-! ### The service port (R470 to R474) -/

theorem State.serviceUp_of_run {s : State} (hrun : s.power.st = .run) (hvbus : s.service.vbus = true)
    (hheld : s.faults.held = []) : s.serviceUp = true := by
  simp [State.serviceUp, State.inHold, hrun, hvbus, hheld]

theorem State.serviceUp_eq_false {s : State} (h : s.service.vbus = false ∨ s.faults.held ≠ []) : s.serviceUp = false := by
  rcases h with h | h <;> simp [State.serviceUp, State.inHold, h]

/-- The service path as it is once its level is lost: its challenge and its misses stay (R473, R480, log 82). -/
def DbgPath.dropped (d : DbgPath) : DbgPath := { d with granted := 0, level := 0, jtag := false, trace := false }

/-- A firing changes nothing of the debug block but what it asks frost. -/
theorem State.fireIf_svc (s : State) (c : Bool) (n : Nat) : (s.fireIf c n).dbgBlock.svc = s.dbgBlock.svc := by
  obtain ⟨r, p, w, h⟩ := s.fireIf_frame c n
  rw [h]
  rfl

/-- The service port with the values of a reset of the bus. -/
def Service.busReset (v : Service) (r : BusReset) : Service :=
  { v with vbus := !r.vbusFell, configured := false, suspended := false, high := !r.vbusFell && r.high }

/-- The state that a reset of the bus leaves, up to what it fires. -/
def State.withBusReset (s : State) (r : BusReset) : State :=
  { s with service := s.service.busReset r, dbgBlock := { s.dbgBlock with svc := s.dbgBlock.svc.dropped } }

theorem exec_busReset_eq {s : State} {r : BusReset}
    (hacts : (if r.vbusFell then s.service.vbus else s.serviceUp) = true) :
    exec (.busReset r) s = .next (((s.withBusReset r).fireIf
      (s.dbgBlock.svc.granted != 0 || s.dbgBlock.svc.level != 0) 511).fireIf s.serviceUp 296) := by
  simp only [exec, execBusReset, ok, when_, hacts, if_true]
  rfl

/-- A reset of the bus: the port loses its configuration and the service path its level (R473, R474, R480). -/
theorem exec_busReset {s : State} (hrun : s.power.st = .run) {r : BusReset}
    (hacts : (if r.vbusFell then s.service.vbus else s.serviceUp) = true) :
    ∃ t, exec (.busReset r) s = .next t ∧ t.service = s.service.busReset r ∧
      t.dbgBlock.svc = s.dbgBlock.svc.dropped ∧ t.mgmt = s.mgmt ∧
      (s.serviceUp = true → (t.src 296).fires = (s.src 296).fires + 1) ∧
      (0 < s.dbgBlock.svc.granted → (t.src 511).fires = (s.src 511).fires + 1) := by
  have hrun' : (s.withBusReset r).power.st = .run := hrun
  have hsrc (n : Nat) : (s.withBusReset r).src n = s.src n := rfl
  have hfired (c : Bool) (n : Nat) : ((s.withBusReset r).fireIf c n).power.st = .run := by
    rw [State.fireIf_power hrun']
    exact hrun'
  refine ⟨_, exec_busReset_eq hacts, ?_, ?_, ?_, fun hup => ?_, fun hgranted => ?_⟩
  · rw [State.fireIf_service, State.fireIf_service]
    rfl
  · rw [State.fireIf_svc, State.fireIf_svc]
    rfl
  · rw [State.fireIf_mgmt, State.fireIf_mgmt]
    rfl
  · rw [State.fires_fireIf (hfired _ _) hup (by decide), State.fireIf_src_ne hrun' _ (by decide), hsrc]
  · have hheld : (s.dbgBlock.svc.granted != 0 || s.dbgBlock.svc.level != 0) = true := by
      simp [Nat.pos_iff_ne_zero.mp hgranted]
    rw [State.fireIf_src_ne (hfired _ _) _ (by decide), State.fires_fireIf hrun' hheld (by decide), hsrc]

/-- The submitter's doorbell queues the command that the area holds (R387, R392). -/
theorem State.doorbell_rings {s : State} {m dev master : Nat} {v : W32} (hours : s.submits m dev master = true)
    (hbit : bitq v 0 = true) (hfree : (s.mbx m).busy = false) : ∃ b : Mbx,
      s.doorbell m dev master v = (s.setMbx m b).fire (80 + 2 * m) ∧ b.st = 1 ∧ b.tag = (s.mbx m).head 2 2 ∧
        b.cmd = (s.mbx m).cmd := by
  refine ⟨{ s.mbx m with st := 1, tag := (s.mbx m).head 2 2, bellAt := s.now, aborting := false, endAs := none },
    ?_, rfl, rfl, rfl⟩
  simp [State.doorbell, hours, hbit, hfree]

/-- The state in which a bulk transfer stands in mailbox 2's command area, and no response is kept (R472). -/
def State.withBulk (s : State) (bytes : List Byte) : State :=
  { s.setMbx 2 { s.mbx 2 with cmd := memWrite 0 (s.mbx 2).cmd 0 bytes } with service := { s.service with kept := [] } }

theorem State.withBulk_mbx (s : State) (bytes : List Byte) :
    (s.withBulk bytes).mbx 2 = { s.mbx 2 with cmd := memWrite 0 (s.mbx 2).cmd 0 bytes } :=
  State.setMbx_mbx ..

theorem State.bulkCommand_eq {s : State} {bytes : List Byte} (hlong : 16 ≤ bytes.length)
    (hlen : bytes.length = 16 + leAt bytes 4 2) (hfits : bytes.length ≤ 4096) :
    s.bulkCommand bytes = (s.withBulk bytes).doorbell 2 s.device 0x402 1 := by
  rw [State.bulkCommand, if_neg (by omega), List.take_of_length_le hfits]
  rfl

/-- Bytes within a list, as a slice. -/
theorem sliceB_eq_take_drop {bs : List Byte} {o n : Nat} (h : o + n ≤ bs.length) : sliceB bs o n = (bs.drop o).take n := by
  apply List.ext_getElem
  · simp [sliceB]
    omega
  · intro i h1 h2
    have hi : i < n := by simpa [sliceB] using h1
    simp [sliceB, List.getElem?_eq_getElem (show o + i < bs.length by omega)]

/-- A transfer of the length that its header gives goes into mailbox 2's command area and rings it (R472). -/
theorem State.bulkCommand_rings {s : State} (hrun : s.power.st = .run) {bytes : List Byte} (hlong : 16 ≤ bytes.length)
    (hlen : bytes.length = 16 + leAt bytes 4 2) (hfits : bytes.length ≤ 4096) (hfree : (s.mbx 2).busy = false)
    (hwf : Memory.wf 0 (s.mbx 2).cmd = true) :
    ((s.bulkCommand bytes).mbx 2).st = 1 ∧ ((s.bulkCommand bytes).mbx 2).tag = leAt bytes 2 2 ∧
      memRead 0 ((s.bulkCommand bytes).mbx 2).cmd 0 bytes.length = bytes ∧
      ((s.bulkCommand bytes).src 84).fires = (s.src 84).fires + 1 := by
  have hours : (s.withBulk bytes).submits 2 s.device 0x402 = true := by
    have hdev : (s.withBulk bytes).device = s.device := rfl
    simp [State.submits, sharedMbx, hdev]
  have hread {o n : Nat} (h : o + n ≤ bytes.length) :
      memRead 0 (memWrite 0 (s.mbx 2).cmd 0 bytes) o n = (bytes.drop o).take n := by
    have := memRead_memWrite (a := 0) hwf h
    rwa [Nat.zero_add] at this
  obtain ⟨b, hrings, hst, htag, hcmd⟩ :=
    State.doorbell_rings hours (v := 1) (by decide) (by rw [State.withBulk_mbx]; exact hfree)
  have hbell : s.bulkCommand bytes = ((s.withBulk bytes).setMbx 2 b).fire 84 :=
    (State.bulkCommand_eq hlong hlen hfits).trans hrings
  rw [State.withBulk_mbx] at htag hcmd
  rw [hbell, State.fires_fire (s := (s.withBulk bytes).setMbx 2 b) hrun (by decide), State.fire_mbx, State.setMbx_mbx,
    htag, hcmd]
  refine ⟨hst, ?_, ?_, rfl⟩
  · simp only [Mbx.head, leAt]
    rw [hread (by omega), sliceB_eq_take_drop (by omega)]
  · rw [hread (by omega)]
    simp

end Sys2Proof.Machine
end

section
/-! Host and service ports: the statement, from the accesses and resets before. -/

namespace Sys2Proof.Machine
open Sys2Proof.Safety

/-! ### What each command does -/

theorem State.hostError_eq (s : State) : s.hostError =
    State.fire { s with mgmt := { s.mgmt with hostErrors := min 0xFFFFFFFF (s.mgmt.hostErrors + 1) } } 289 := by
  have hcount : inc32 s.mgmt.hostErrors = min 0xFFFFFFFF (s.mgmt.hostErrors + 1) := by
    rw [inc32, satInc]
    split <;> omega
  rw [State.hostError, hcount]

theorem State.live_of_run {s : State} (hrun : s.power.st = .run) (hheld : s.faults.held = []) : s.live = true := by
  simp [State.live, State.inHold, hrun, hheld]

theorem exec_msixSend {s : State} {v : Nat} (hv : v < 64) (hpending : v ∈ s.host.pba) (hmay : s.host.maySend v = true)
    (hlive : s.live = true) : exec (.msixSend v) s = .next { s with host := s.host.send v } := by
  simp [exec, execMsixSend, ok, when_, hv, hpending, hmay, hlive]

theorem exec_msixSend_gated {s : State} {v : Nat} (hv : v < 64) (h : v ∉ s.host.pba ∨ s.host.maySend v = false) :
    exec (.msixSend v) s = .next s := by
  rcases h with h | h <;> simp [exec, execMsixSend, ok, when_, hv, h]

theorem exec_functionLevelReset {s : State} (c : FlrCause) (hup : s.hostUp = true) :
    exec (.functionLevelReset c) s = .next (s.hostReset c) := by
  simp [exec, execFunctionLevelReset, ok, when_, hup]

theorem exec_configurationSpaceWrite {s : State} {w : CfgWrite} (hup : s.hostUp = true)
    (hw : ∀ v on, w ≠ .vectorMask v on) : exec (.configurationSpaceWrite w) s = .next (s.configWrite w) := by
  cases w with
  | vectorMask v on => exact absurd rfl (hw v on)
  | _ => simp [exec, execConfigurationSpaceWrite, ok, when_, hup]

theorem exec_configurationSpaceWrite_vectorMask {s : State} {v : Nat} (on : Bool) (hup : s.hostUp = true) (hv : v < 64) :
    exec (.configurationSpaceWrite (.vectorMask v on)) s = .next (s.configWrite (.vectorMask v on)) := by
  simp [exec, execConfigurationSpaceWrite, ok, when_, hup, hv]

/-- Masking a vector touches no other (R467). -/
theorem mem_unmasked (l : List Nat) (v : Nat) (on : Bool) (i : Nat) :
    i ∈ (if on then l.filter (· != v) else v :: l.filter (· != v)) ↔ if i = v then on = false else i ∈ l := by
  cases on <;> by_cases h : i = v <;> simp [h]

theorem exec_serviceBulkCommand {s : State} {bytes : List Byte} (hup : s.serviceUp = true)
    (hconf : s.service.configured = true) (hawake : s.service.suspended = false) (hfree : (s.mbx 2).busy = false) :
    exec (.serviceBulkCommand bytes) s = .next (s.bulkCommand bytes) := by
  simp [exec, execServiceBulkCommand, ok, when_, hup, hconf, hawake, hfree]

/-- The service port's abort is the submitter's of mailbox 2 (R472). -/
theorem exec_vendorAbort {s : State} (hup : s.serviceUp = true) : exec .vendorAbort s = .next (s.requestAbort 2 2) := by
  have hours : s.submits 2 s.device 0x402 = true := by simp [State.submits, sharedMbx]
  have hbit : bitq 1#32 0 = true := by decide
  simp [exec, execVendorAbort, ok, when_, hup, State.writeAbort, hours, hbit]

/-- What a function reset does, cause by cause (R407, R468). -/
theorem exec_functionLevelReset_outcome {s : State} (c : FlrCause) (hup : s.hostUp = true) (hrun : s.power.st = .run) :
    ∃ t, exec (.functionLevelReset c) s = .next t ∧ t.host = s.hostAfter c ∧
      (t.src (if c = .linkDown then 288 else 290)).fires = (s.src (if c = .linkDown then 288 else 290)).fires + 1 ∧
      (s.host.d3hot = true → (t.src 291).fires = (s.src 291).fires + 1) ∧
      (∀ m < 2, (s.mbx m).busy = true → (s.mbx m).aborting = false → (t.mbx m).aborting = true) ∧
      t.tiles = s.tiles ∧ t.queues = s.queues ∧
      (∀ w ∈ t.mgmt.windows, w.master = 0x401 → w.dev = s.device → w.closing = true ∧ w.accepted ≠ []) ∧
      ∀ i, (t.src i).kind = (s.src i).kind ∧ (t.src i).vector = (s.src i).vector := by
  obtain ⟨boxes, windows, flight, replies, free, ht, hboxes, hwindows⟩ := s.hostReset_frame c
  generalize hu : ({ s with
    mgmt := { s.mgmt with boxes := boxes, windows := windows }, flight := flight, replies := replies, free := free
    host := s.hostAfter c } : State) = u at ht
  have hurun : u.power.st = .run := by rw [← hu]; exact hrun
  have hsrc (n : Nat) : u.src n = s.src n := by rw [← hu]; rfl
  have hmgmt : u.mgmt = { s.mgmt with boxes := boxes, windows := windows } := by rw [← hu]
  have hreset : reservedSource (if c = .linkDown then 288 else 290) = false := by split <;> decide
  have hother : (if c = .linkDown then 288 else 290) ≠ 291 := by split <;> decide
  generalize (if c = .linkDown then 288 else 290) = k at ht hreset hother
  have hfired : (u.fire k).power.st = .run := by rw [State.fire_power hurun]; exact hurun
  refine ⟨_, exec_functionLevelReset c hup, ?_⟩
  rw [ht]
  refine ⟨?_, ?_, fun hd3 => ?_, ?_, ?_, ?_, ?_, fun i => ?_⟩
  · rw [State.fireIf_host, State.fire_host, ← hu]
  · rw [State.fireIf_src_ne hfired _ hother, State.fires_fire hurun hreset, hsrc]
  · rw [State.fires_fireIf hfired hd3 (by decide), State.fire_src_ne hurun hother.symm, hsrc]
  · intro m hm hbusy hfirst
    rw [State.mbx, State.fireIf_mgmt, State.fire_mgmt, hmgmt]
    exact hboxes m hm hbusy hfirst
  · rw [State.fireIf_tiles, State.fire_tiles, ← hu]
  · rw [State.fireIf_queues, State.fire_queues, ← hu]
  · rw [State.fireIf_mgmt, State.fire_mgmt, hmgmt]
    exact hwindows
  · obtain ⟨hkind, hvector⟩ := State.fireIf_target hfired s.host.d3hot 291 i
    obtain ⟨hkind', hvector'⟩ := State.fireIf_target hurun true k i
    rw [hkind, hvector, ← hsrc]
    exact ⟨hkind', hvector'⟩

/-! ### The statement -/

/-- Settles O52. -/
theorem hostAndServicePorts : Obligations.HostAndServicePorts := by
  unfold Obligations.HostAndServicePorts
  intro n gen width tag off on c bytes s hrun _ h v fired t0 used data room resting rd wr refused aborts
  have hrefused : s.hostError = refused := s.hostError_eq
  refine ⟨fun hlink hd3 => ?_, fun hlink hd3 hlo hhi hbar => ?_, fun hlink => ?_, fun hn => ?_, fun hlink hc => ?_,
    fun hlink => ?_, fun hlo hhi hwidth => ?_, fun hlink => ?_, fun hvbus hheld => ?_, fun hvbus hheld => ?_,
    fun hvbus => ?_⟩
  · have hup := State.hostUp_of_run hlink hrun
    have hread {bar o size : Nat} (hroom : room) (hlo : 1 ≤ size) (hhi : size ≤ 512) (hbar : o + size ≤ barSize bar) :=
      exec_hostAccess (a := ⟨bar, o, size, none, tag⟩) hup hd3 (hostAccValid_read ⟨hlo, hhi⟩ hbar) fun _ => hroom
    have hwrite {bar o : Nat} {bs : List Byte} (hlo : 1 ≤ bs.length) (hhi : bs.length ≤ 256)
        (hbar : o + bs.length ≤ barSize bar) :=
      exec_hostAccess (a := ⟨bar, o, 0, some bs, tag⟩) hup hd3 (hostAccValid_write ⟨hlo, hhi⟩ hbar) nofun
    refine ⟨fun hroom ho halign => ?_, fun hroom ho => ?_, fun hn hlen => ?_, fun hlo hout hpos hsize hbar => ?_,
      fun hroom => ?_, fun hroom => ?_, fun hnone hpos hsize hbar => ?_,
      fun w hw hmaster hdev hopen hslot hin hwin hn hpos hsize => ?_, fun hn hlen => ?_, fun hroom hn => ?_,
      fun hn hgen hlen hwf => ?_⟩
    · exact (hread (bar := 0) hroom (by decide) (by decide) (by simp [barSize]; omega)).trans
        (congrArg _ (s.bar0_read_capability tag ho halign))
    · exact (hread (bar := 0) hroom (by decide) (by decide) (by simp [barSize]; omega)).trans
        (congrArg _ (s.bar0_read_command tag ho))
    · exact (hwrite (bar := 0) (by omega) (by omega) (by simp [barSize]; omega)).trans
        (congrArg _ (s.bar0_write_doorbell tag hn hlen))
    · constructor
      · intro hroom
        exact (hread (bar := 0) hroom hpos hsize (by simpa [barSize] using hbar)).trans
          (congrArg _ (s.bar0_read_hole tag hlo hout))
      · intro hsize' hlen
        exact (hwrite (bar := 0) (by omega) (by omega) (by simp [barSize]; omega)).trans
          (congrArg _ (s.bar0_write_hole tag hlo (by rwa [hlen])))
    · exact (hread (bar := 0) hroom (by decide) (by decide) (by decide)).trans
        (congrArg _ (s.bar0_read_lastResponse tag))
    · exact ⟨exec_hostAccess_waits hroom, exec_hostAccess_waits hroom, exec_hostAccess_waits hroom⟩
    · have hnothing (o size : Nat) (write : Bool) : s.bar2Window o size write = none := by
        rw [State.bar2Window, hnone]
        rfl
      refine ⟨fun hroom => ?_, fun hpos hlen hbar => ?_⟩
      · rw [← hrefused]
        exact (hread (bar := 2) hroom hpos hsize (by simpa [barSize] using hbar)).trans
          (congrArg _ (State.bar2_read_refused tag (hnothing _ _ _)))
      · rw [← hrefused]
        exact (hwrite (bar := 2) hpos hlen (by simpa [barSize] using hbar)).trans
          (congrArg _ (State.bar2_write_refused tag (hnothing _ _ _)))
    · intro msg sent
      have hserves {o : Nat} {write : Bool} (ho : o < 0x800000) (hin : o + gen ≤ w.size)
          (hrw : write = true → w.rw = true) : s.bar2Window (0x800000 * n + o) gen write = some w :=
        State.bar2Window_head hw hmaster hdev hopen hslot ho hin hrw
      have htag (hnew : h.newTag ≠ none) : s.host.newTag = some t0 := by
        obtain ⟨t, ht⟩ := Option.ne_none_iff_exists'.mp hnew
        simp only [t0, ht, Option.getD_some]
        exact ht
      have hmod (ho : off < 0x800000) : (0x800000 * n + off) % 0x800000 = off := by omega
      refine ⟨fun hroom ho hnew => ?_, fun ho hlen hrw hnew => ?_, fun ho hlen hro hall => ?_⟩
      · have hsent := State.bar2_read_sent tag (hserves ho hin nofun) (htag hnew)
        rw [hmod ho] at hsent
        exact (hread (bar := 2) hroom hpos (by omega) (by simp [barSize]; omega)).trans (congrArg _ hsent)
      · have hsent := State.bar2_write_sent (bs := bytes) tag (hlen ▸ hserves ho hin fun _ => hrw) (htag hnew)
        rw [hmod ho, hlen] at hsent
        exact (hwrite (bar := 2) (by omega) (by omega) (by simp [barSize]; omega)).trans (congrArg _ hsent)
      · have hclosed : s.bar2Window (0x800000 * n + off) bytes.length true = none :=
          State.bar2Window_readOnly ho fun y hy hy' => by rw [hall y hy hy', hro]
        rw [← hrefused]
        exact (hwrite (bar := 2) (by omega) (by omega) (by simp [barSize]; omega)).trans
          (congrArg _ (State.bar2_write_refused tag hclosed))
    · intro others
      refine (hwrite (bar := 4) (by omega) (by omega) (by simp [barSize]; omega)).trans
        (congrArg _ ((s.bar4_write_mask tag hn hlen).trans ?_))
      simp only [State.configWrite, decide_eq_true_eq]
      rfl
    · have hword := s.bar4_read_word (o := 16 * n + 12) tag (by omega)
      rw [HostPort.bar4Word_mask _ hn] at hword
      exact (hread (bar := 4) hroom (by decide) (by decide) (by simp [barSize]; omega)).trans (congrArg _ hword)
    · constructor
      · refine ⟨_, (hwrite (bar := 4) (by omega) (by omega) (by simp [barSize]; omega)).trans
          (congrArg _ (s.bar4_write_table tag hn hgen hlen)), ?_, rfl, rfl⟩
        have hback := memRead_memWrite (a := 16 * n + 4 * gen) (o := 0) (n := 4) (bs := bytes) hwf (by omega)
        rwa [Nat.add_zero, List.drop_zero, List.take_of_length_le (by omega)] at hback
      · intro hroom
        have hword := s.bar4_read_word (o := 16 * n + 4 * gen) tag (by omega)
        rw [HostPort.bar4Word_table _ hn hgen] at hword
        exact (hread (bar := 4) hroom (by decide) (by decide) (by simp [barSize]; omega)).trans (congrArg _ hword)
  · have hup := State.hostUp_of_run hlink hrun
    constructor
    · intro hroom
      exact exec_hostAccess_d3hot hup hd3 (hostAccValid_read ⟨hlo, hhi⟩ (by simpa [barSize] using hbar)) fun _ => hroom
    · intro hlen hsize
      rw [exec_hostAccess_d3hot hup hd3 (hostAccValid_write ⟨by omega, by omega⟩ (by simp [barSize]; omega)) nofun]
      simp only [State.unsupported, Option.isNone_some, Bool.false_eq_true, if_false, List.append_nil]
      rfl
  · exact ⟨exec_hostAccess_linkDown _ hlink, exec_hostAccess_linkDown _ hlink⟩
  · constructor
    · intro hpending hmsix hfmask hbme hunmasked hheld
      exact exec_msixSend hn hpending (by simp_all [HostPort.maySend, h]) (State.live_of_run hrun hheld)
    · rintro (hclear | hgated)
      · exact exec_msixSend_gated hn (.inl hclear)
      · exact exec_msixSend_gated hn (.inr (HostPort.maySend_eq_false hgated))
  · obtain ⟨t, ht, hhost, hfires, hd3, hboxes, htiles, hqueues, hwindows, hsrc⟩ :=
      exec_functionLevelReset_outcome c (State.hostUp_of_run hlink hrun) hrun
    rw [if_neg hc] at hfires
    refine ⟨t, ht, ?_, hfires, hd3, hboxes 0 (by decide), hboxes 1 (by decide), htiles, hqueues, hwindows, fun i _ => hsrc i⟩
    rw [hhost, State.hostAfter, if_neg hc, HostPort.reset, hlink]
  · obtain ⟨t, ht, hhost, hfires, -, hboxes, -⟩ :=
      exec_functionLevelReset_outcome .linkDown (State.hostUp_of_run hlink hrun) hrun
    exact ⟨t, ht, hhost, hfires, hboxes 0 (by decide)⟩
  · have hwidth' : (width == 1 || width == 2 || width == 4) = true := by simpa [or_assoc] using hwidth
    constructor
    · intro hlink hgen hsame
      simp_all [exec, execHostLinkUp, ok, when_, h]
    · intro hheld hnew
      have hnew' : (s.host.linkUp && s.host.gen == gen && s.host.width == width) = false := by
        rcases hnew with hnew | hnew | hnew <;> simp [h] at hnew <;> simp [hnew]
      simp only [exec, execHostLinkUp, ok, when_, hwidth', hnew', State.inHold, hheld, hrun]
      simp [hlo, hhi, h]
  · have hup := State.hostUp_of_run hlink hrun
    have hwrite {w : CfgWrite} (hw : ∀ v on, w ≠ .vectorMask v on) := exec_configurationSpaceWrite hup hw
    refine ⟨fun hd3 => ?_, hwrite (by simp), hwrite (by simp), hwrite (by simp), hwrite (by simp),
      fun x => hwrite (by simp), fun hn => ?_⟩
    · have hchanges : (s.host.d3hot != on) = true := by simpa using hd3
      rw [hwrite (by simp), State.configWrite]
      simp only [hchanges, State.fireIf, if_true]
      rfl
    refine ⟨_, exec_configurationSpaceWrite_vectorMask on hup hn, rfl, ?_, fun i _ hi => ?_⟩
    · exact (mem_unmasked h.unmasked n on n).trans (by simp)
    · exact (mem_unmasked h.unmasked n on i).trans (by simp [hi])
  · have hup := State.serviceUp_of_run hrun hvbus hheld
    refine ⟨fun hconf hawake hfree => ?_, fun hbusy => ?_, ?_, ?_, fun high => ?_, ?_, fun hsusp => ?_, fun hsusp => ?_⟩
    · have hbulk := exec_serviceBulkCommand (bytes := bytes) hup hconf hawake hfree
      refine ⟨fun hbad => ?_, fun hlong hlen hfits hwf => ⟨_, hbulk, State.bulkCommand_rings hrun hlong hlen hfits hfree hwf⟩⟩
      rw [hbulk, State.bulkCommand, if_pos hbad]
    · simp [exec, execServiceBulkCommand, ok, when_, hbusy]
    · exact ⟨_, exec_vendorAbort hup, State.requestAbort_aborting 2, s.requestAbort_st 2 2⟩
    · intro stReg
      have hreg : (s.mbx 2).stateReg = stReg := by simp [Mbx.stateReg, stReg, b2n]
      simp only [exec, execVendorState, ok, when_, hup, if_true, hreg]
      rfl
    · obtain ⟨t, ht, hservice, hsvc, hmgmt, hreset, hlevel⟩ :=
        exec_busReset (r := ⟨on, high⟩) hrun (by cases on; exacts [hup, hvbus])
      exact ⟨t, ht, hreset hup, hservice, hsvc, hlevel, by rw [State.mbx, hmgmt, ← State.mbx]⟩
    · simp only [exec, execSetConfiguration, ok, when_, hup, if_true, List.isEmpty_iff]
      rfl
    · simp [exec, execSuspend, ok, when_, hup, hsusp, v]
    · simp [exec, execSuspend, ok, when_, hsusp, v]
  · obtain ⟨t, ht, hservice, hsvc, -⟩ := exec_busReset (s := s) (r := ⟨true, on⟩) hrun hvbus
    exact ⟨t, ht, by rw [hservice]; rfl, by rw [hsvc]; rfl, by rw [hsvc]; rfl⟩
  · refine ⟨fun hheld => ?_, fun hheld => ?_, ?_⟩
    · simp [exec, execVbusRise, ok, when_, hrun, hvbus, State.inHold, hheld, State.fireIf, v]
    · simp [exec, execVbusRise, ok, when_, hrun, hvbus, State.inHold, hheld, State.fireIf, v]
    · simp [exec, execSetConfiguration, ok, when_, State.serviceUp_eq_false (s := s) (.inl hvbus)]

end Sys2Proof.Machine
end

section
/-! A command of a mailbox: the fields of its payload, its response, and what its end leaves alone (R389 to R392). -/

namespace Sys2Proof.Machine
open Sys2Proof.Safety

/-! ### Fields of a payload (R5, R389) -/

theorem leNum_append (a b : List Byte) : leNum (a ++ b) = leNum a + 256 ^ a.length * leNum b := by
  induction a with
  | nil => simp [leNum]
  | cons x r ih =>
    rw [List.cons_append, leNum, ih, leNum, List.length_cons, Nat.pow_succ']
    ring

/-- A field is its low bytes and, above them, the rest. -/
theorem leAt_add (p : List Byte) (o m n : Nat) : leAt p o (m + n) = leAt p o m + 256 ^ m * leAt p (o + m) n := by
  have hslice : sliceB p o (m + n) = sliceB p o m ++ sliceB p (o + m) n := by
    simp only [sliceB, List.range_add, List.map_append, List.map_map]
    congr 2
    funext i
    simp [Nat.add_assoc]
  rw [leAt, hslice, leNum_append]
  simp [leAt, sliceB]

theorem leAt_one (p : List Byte) (o : Nat) : leAt p o 1 = (p.getD o 0).toNat := by
  simp [leAt, sliceB, leNum]

theorem leAt_two (p : List Byte) (o : Nat) : leAt p o 2 = (p.getD o 0).toNat + 256 * (p.getD (o + 1) 0).toNat := by
  rw [leAt_add p o 1 1, leAt_one, leAt_one, Nat.pow_one]

theorem leAt_three (p : List Byte) (o : Nat) : leAt p o 3 = leAt p o 2 + 65536 * (p.getD (o + 2) 0).toNat := by
  rw [leAt_add p o 2 1, leAt_one, show 256 ^ 2 = 65536 from rfl]

theorem leAt_four (p : List Byte) (o : Nat) : leAt p o 4 = leAt p o 2 + 65536 * leAt p (o + 2) 2 := leAt_add p o 2 2

theorem leAt_six (p : List Byte) (o : Nat) : leAt p o 6 = leAt p o 4 + 2 ^ 32 * leAt p (o + 4) 2 := leAt_add p o 4 2

/-! ### Running a command (R392) -/

/-- The firmware runs the command of a mailbox that it serves. -/
theorem command_eq {s : State} {m code : Nat} {p : List Byte} (h : Serving s m code p) {sel : List Byte → Bool}
    (hsel : sel p = true) (body : List Byte → CmdRes) : command s m code sel body = .next ((body p).finish m) := by
  obtain ⟨hm, hup, hrestarting, hrun, hst, hcode, hp⟩ := h
  have hpayload : s.payload m = p := hp
  have hcode' : (s.mbx m).head 0 2 = code := hcode
  have hruns : s.runs m code = true := by
    simp [State.runs, State.fwRuns, Mgmt.serving, hst, hcode', hup, hrestarting, hrun]
  simp only [command, ok, hm, decide_true, if_true, hruns, hpayload, hsel, Bool.and_self]

/-! ### The end of a command (R390) -/

/-- The end of a command writes its mailbox and the service port's response, and fires. -/
theorem State.finishMbx_frame (s : State) (m status : Nat) (payload : List Byte) : ∃ b v r p w,
    s.finishMbx m status payload = State.withEvents { s with
      mgmt := { s.mgmt with boxes := tput m b s.mgmt.boxes }, service := v } r p w := by
  have sent (u : State) (bs : List Byte) : ∃ v, (if m = 2 then u.sendUp bs else u) = { u with service := v } := by
    split <;> exact ⟨_, rfl⟩
  unfold State.finishMbx
  dsimp only
  generalize (Mbx.mk ..) = b
  obtain ⟨v, hv⟩ := sent (s.setMbx m b) _
  obtain ⟨r, p, w, hf⟩ := State.fireIf_frame _ _ (81 + 2 * m)
  rw [hf, hv]
  exact ⟨b, v, r, p, w, rfl⟩

section
variable (s : State) (m status : Nat) (payload : List Byte)

@[simp] theorem State.finishMbx_tiles : (s.finishMbx m status payload).tiles = s.tiles := by
  obtain ⟨_, _, _, _, _, h⟩ := s.finishMbx_frame m status payload
  rw [h]; rfl

@[simp] theorem State.finishMbx_gates : (s.finishMbx m status payload).gates = s.gates := by
  obtain ⟨_, _, _, _, _, h⟩ := s.finishMbx_frame m status payload
  rw [h]; rfl

@[simp] theorem State.finishMbx_boot : (s.finishMbx m status payload).boot = s.boot := by
  obtain ⟨_, _, _, _, _, h⟩ := s.finishMbx_frame m status payload
  rw [h]; rfl

@[simp] theorem State.finishMbx_aon : (s.finishMbx m status payload).aon = s.aon := by
  obtain ⟨_, _, _, _, _, h⟩ := s.finishMbx_frame m status payload
  rw [h]; rfl

@[simp] theorem State.finishMbx_tile (q : Nat) : (s.finishMbx m status payload).tile q = s.tile q := by
  simp [State.tile]

@[simp] theorem State.finishMbx_isFenced (q : Nat) : (s.finishMbx m status payload).isFenced q = s.isFenced q := by
  simp [State.isFenced]

end

/-- The end of a command fires only the completion source of its mailbox. -/
theorem State.finishMbx_src_ne {s : State} (hrun : s.power.st = .run) {m n : Nat} (hn : n ≠ 81 + 2 * m) (status : Nat)
    (payload : List Byte) : (s.finishMbx m status payload).src n = s.src n := by
  have sent (u : State) (bs : List Byte) : ∃ v, (if m = 2 then u.sendUp bs else u) = { u with service := v } := by
    split <;> exact ⟨_, rfl⟩
  unfold State.finishMbx
  dsimp only
  generalize (Mbx.mk ..) = b
  obtain ⟨v, hv⟩ := sent (s.setMbx m b) _
  rw [hv]
  generalize (!bitAt _ 0) = c
  cases c
  · rfl
  · exact State.fire_src_ne (s := { s.setMbx m b with service := v }) hrun hn

/-- The response of a completed command has a status and a payload (R390). -/
def State.Answered (t : State) (m status : Nat) (payload : List Byte) : Prop :=
  (t.mbx m).st = 3 ∧ memGet 0 4 (t.mbx m).resp = BitVec.ofNat 8 status ∧
    memRead 0 (t.mbx m).resp 16 payload.length = payload

/-- A response as it is written into memory gives back its status and its payload (R390). -/
theorem response_reads {r : Mem} (hwf : Memory.wf 0 r = true) (code tag status elapsed : Nat) (payload : List Byte) :
    let out := memWrite 0 (memWrite 0 r 16 payload) 0 (respHeader code tag status payload.length elapsed)
    memGet 0 4 out = BitVec.ofNat 8 status ∧ memRead 0 out 16 payload.length = payload := by
  intro out
  have hlen : (respHeader code tag status payload.length elapsed).length = 16 := by simp [respHeader]
  have hstatus : (respHeader code tag status payload.length elapsed)[4]? = some (BitVec.ofNat 8 status) := by
    simp [respHeader, leBytes]
  have hpast (i : Nat) : memGet 0 (16 + i) out = memGet 0 (16 + i) (memWrite 0 r 16 payload) := by
    rw [memGet_memWrite (memWrite_wf hwf), if_pos (Nat.zero_le _), List.getElem?_eq_none (by omega), Option.getD_none]
  constructor
  · rw [memGet_memWrite (memWrite_wf hwf), if_pos (Nat.zero_le _), Nat.sub_zero, hstatus, Option.getD_some]
  · have hback := memRead_memWrite (a := 16) (o := 0) (n := payload.length) (bs := payload) hwf (by omega)
    rw [Nat.add_zero, List.drop_zero, List.take_length] at hback
    refine Eq.trans ?_ hback
    exact List.map_congr_left fun i _ => hpast i

theorem State.finishMbx_answers {s : State} {m : Nat} (hwf : Memory.wf 0 (s.mbx m).resp = true) (status : Nat)
    (payload : List Byte) : (s.finishMbx m status payload).Answered m status payload := by
  have sent (u : State) (bs : List Byte) : (if m = 2 then u.sendUp bs else u).mbx m = u.mbx m := by
    split <;> rfl
  have hreads := response_reads hwf (leNum (memRead 0 (s.mbx m).cmd 0 2)) (s.mbx m).tag status
    (min 0xFFFFFFFF (s.usSince (s.mbx m).bellAt)) payload
  unfold State.Answered State.finishMbx
  dsimp only
  rw [State.fireIf_mbx, sent, State.setMbx_mbx]
  exact ⟨rfl, hreads⟩

end Sys2Proof.Machine
end

section
/-! Loading, starting and stopping tiles, and loading their decode tables (R63, R137, R403, R412). -/

namespace Sys2Proof.Machine
open Sys2Proof.Safety

/-! ### The tile of a logical tile without a partner -/

theorem State.copiesOf_single {s : State} {l q : Nat} (hd : tfind? l s.gates.duplex = none) (hq : s.physOf l = some q) :
    s.copiesOf l = [q] := by
  simp [State.copiesOf, hd, hq]

theorem State.started_single {s : State} {l q : Nat} (hd : tfind? l s.gates.duplex = none) (hq : s.physOf l = some q) :
    s.started l = ((s.tile q).run != .stopped) := by
  simp [State.started, State.copiesOf_single hd hq]

theorem State.mapCopies_single {s : State} {l q : Nat} (hd : tfind? l s.gates.duplex = none) (hq : s.physOf l = some q)
    (f : Tile → Tile) : s.mapCopies l f = s.setTile q (f (s.tile q)) := by
  simp [State.mapCopies, State.copiesOf_single hd hq]

/-! ### An image (R403, R412) -/

theorem Tile.storeBytes_frame (t : Tile) (a : W16) (bs : List Byte) :
    ∃ mem, t.storeBytes a bs = { t with mem := mem } := by
  induction bs generalizing t a with
  | nil => exact ⟨_, rfl⟩
  | cons b r ih =>
    obtain ⟨mem, h⟩ := ih (t.store a b) (a + 1)
    exact ⟨mem, h⟩

/-- Bytes stored from an offset run on from the end of a tile's memory to its beginning (R62). -/
theorem Tile.memGet_storeBytes {t : Tile} (hwf : Memory.wf 0 t.mem = true) (a : W16) {bs : List Byte}
    (hlen : bs.length ≤ 65536) {x : Nat} (hx : x < 65536) :
    memGet 0 x (t.storeBytes a bs).mem = (bs[(x + 65536 - a.toNat) % 65536]?).getD (memGet 0 x t.mem) := by
  induction bs generalizing t a with
  | nil => rfl
  | cons b r ih =>
    have ha := a.isLt
    have hnext : (a + 1).toNat = (a.toNat + 1) % 65536 := by simp
    have hlen' : r.length < 65536 := by simpa using hlen
    rw [Tile.storeBytes, ih (t := t.store a b) (memPut_wf hwf) (a + 1) hlen'.le, hnext]
    by_cases hself : x = a.toNat
    · have hlast : (x + 65536 - (a.toNat + 1) % 65536) % 65536 = 65535 := by omega
      have hfirst : (x + 65536 - a.toNat) % 65536 = 0 := by omega
      rw [hlast, hfirst, List.getElem?_eq_none (by omega), Option.getD_none, Tile.store, memGet_memPut hwf,
        if_pos hself]
      rfl
    · have hstep : (x + 65536 - a.toNat) % 65536 = (x + 65536 - (a.toNat + 1) % 65536) % 65536 + 1 := by omega
      rw [hstep, List.getElem?_cons_succ, Tile.store, memGet_memPut hwf, if_neg hself]

/-- A tile with an image in its memory, whose whole words take fresh ECC (R64, R403). -/
def Tile.withImage (t : Tile) (a : W16) (bs : List Byte) : Tile := (t.storeBytes a bs).freshen a bs.length

/-- An image changes the memory of the tile, and which of its words hold errors. -/
theorem Tile.withImage_frame (t : Tile) (a : W16) (bs : List Byte) : ∃ bad,
    t.withImage a bs = { t with mem := (t.storeBytes a bs).mem, bad := bad } := by
  obtain ⟨mem, h⟩ := t.storeBytes_frame a bs
  rw [Tile.withImage, h]
  exact ⟨_, rfl⟩

/-- The record just written rules, where both devices can be read (R411). -/
theorem Boot.ruled_put {α : Type} {b : Boot} (habsent : b.absent = []) (x y : Option (Nat × α)) (v : α) :
    (b.ruled (b.put x y v).1 (b.put x y v).2).map (·.2) = some v := by
  simp only [Boot.put, Boot.ruled, Boot.seen, habsent, List.contains_nil, Bool.false_eq_true, if_false]
  split <;> rfl

/-- An image just persisted is the tile's image (R412). -/
theorem Boot.image_persist {b : Boot} (habsent : b.absent = []) (l : Nat) (mem : Mem) :
    (b.persist l mem).image l = some mem := by
  have hruled (n : Nat) := Boot.ruled_put habsent b.dir0 b.dir1
    (tput l n (((b.ruled b.dir0 b.dir1).map (·.2)).getD []))
  simp only [Boot.ruled, Boot.seen, habsent, List.contains_nil, Bool.false_eq_true, if_false] at hruled
  simp only [Boot.persist, Boot.image, Boot.slotOf, Boot.ruled, Boot.seen, habsent, List.contains_nil,
    Bool.false_eq_true, if_false, hruled, Option.bind_some, tfind?_tput_self]

/-- A payload of LOAD_TILE_IMAGE that R403 allows. -/
structure ImagePayload (p : List Byte) : Prop where
  tile : leAt p 0 2 < 1024
  persist : leAt p 2 1 < 2
  reserved : leAt p 3 1 = 0
  nonempty : leAt p 6 2 ≠ 0
  fits : leAt p 6 2 ≤ 4072
  length : p.length = 8 + leAt p 6 2

theorem loadTileImage_started {s : State} {m : Nat} {p : List Byte} (h : Serving s m 0x0101 p) (hp : ImagePayload p)
    (hs : s.started (leAt p 0 2) = true) : Ends (.loadTileImage m) s s m 10 [] := by
  obtain ⟨htile, hpersist, hreserved, hne, hfits, hlen⟩ := hp
  have hok : ¬ (p.length < 8 ∨ 1024 ≤ leAt p 0 2 ∨ 2 ≤ leAt p 2 1 ∨ leAt p 3 1 ≠ 0 ∨ leAt p 6 2 = 0 ∨
      4072 < leAt p 6 2 ∨ p.length ≠ 8 + leAt p 6 2) := by omega
  show execLoadTileImage m s = _
  rw [execLoadTileImage, command_eq h rfl]
  dsimp only
  rw [if_neg hok, if_pos hs]
  rfl

/-- The image of a stopped tile is stored, and persisted where the payload asks for it (R403, R412). -/
theorem loadTileImage_stores {s : State} {m q : Nat} {p : List Byte} (h : Serving s m 0x0101 p) (hp : ImagePayload p)
    (hd : tfind? (leAt p 0 2) s.gates.duplex = none) (hq : s.physOf (leAt p 0 2) = some q)
    (hs : (s.tile q).run = .stopped) :
    let v := (s.tile q).withImage (BitVec.ofNat 16 (leAt p 4 2)) (sliceB p 8 (leAt p 6 2))
    Ends (.loadTileImage m) s { s.setTile q v with
      boot := if leAt p 2 1 = 1 then s.boot.persist (leAt p 0 2) v.mem else s.boot } m 0 [] := by
  intro v
  obtain ⟨htile, hpersist, hreserved, hne, hfits, hlen⟩ := hp
  have hok : ¬ (p.length < 8 ∨ 1024 ≤ leAt p 0 2 ∨ 2 ≤ leAt p 2 1 ∨ leAt p 3 1 ≠ 0 ∨ leAt p 6 2 = 0 ∨
      4072 < leAt p 6 2 ∨ p.length ≠ 8 + leAt p 6 2) := by omega
  have hstopped : s.started (leAt p 0 2) = false := by simp [State.started_single hd hq, hs]
  have hv : ((s.tile q).storeBytes (BitVec.ofNat 16 (leAt p 4 2)) (sliceB p 8 (leAt p 6 2))).freshen
      (BitVec.ofNat 16 (leAt p 4 2)) (leAt p 6 2) = v := by
    simp [v, Tile.withImage, sliceB]
  have hq' : (s.setTile q v).physOf (leAt p 0 2) = some q := hq
  show execLoadTileImage m s = _
  rw [execLoadTileImage, command_eq h rfl]
  dsimp only
  rw [if_neg hok, hstopped, if_neg Bool.false_ne_true, State.mapCopies_single hd hq, hv]
  by_cases hkeep : leAt p 2 1 = 1
  · rw [if_pos hkeep, if_pos hkeep, State.persist, hq']
    dsimp only
    rw [State.setTile_tile]
    rfl
  · rw [if_neg hkeep, if_neg hkeep]
    rfl

/-! ### Starting (R63) -/

/-- What START_TILE makes of a tile at time `now`: a stopped one starts at 0 with Cold values but for its memory and
decode table; a started one stays as it is (R63). -/
def Tile.startedAt (t : Tile) (now : Nat) : Tile :=
  if t.run = .stopped then { t.cold now with active := t.active, dtValid := t.dtValid, run := .running } else t

theorem Tile.startedAt_run (t : Tile) (now : Nat) : (t.startedAt now).run ≠ .stopped := by
  unfold Tile.startedAt
  split
  · exact nofun
  · next h => exact h

theorem Tile.startedAt_twice (t : Tile) (now : Nat) : (t.startedAt now).startedAt now = t.startedAt now := by
  rw [Tile.startedAt, if_neg (t.startedAt_run now)]

/-- Starting a physical tile changes the tile, the dispatcher of a task that it ran, and its court's pace (R44,
R196). -/
theorem State.startPhys_frame (s : State) (p : Nat) : ∃ disps pace,
    s.startPhys p = { s.setTile p ((s.tile p).startedAt s.now) with disps := disps, pace := pace } ∨
      s.startPhys p = s ∧ (s.tile p).startedAt s.now = s.tile p := by
  unfold State.startPhys
  dsimp only
  by_cases hrun : (s.tile p).run = .stopped
  · obtain ⟨pace, hpace⟩ : ∃ pace, ∀ u : Tile,
        (s.setTile p u).wakeCourt (p / 64) = { s.setTile p u with pace := pace } := by
      refine ⟨(s.wakeCourt (p / 64)).pace, fun u => ?_⟩
      have hcourt : (s.setTile p u).court (p / 64) = s.court (p / 64) := rfl
      unfold State.wakeCourt
      rw [hcourt]
      dsimp only
      split_ifs <;> rfl
    rw [if_neg (by simp [hrun]), hpace, Tile.startedAt, if_pos hrun]
    split
    · exact ⟨_, pace, .inl rfl⟩
    · obtain ⟨d, hd⟩ := State.dropTask_frame { s.setTile p { (s.tile p).cold s.now with
        active := (s.tile p).active, dtValid := (s.tile p).dtValid, run := .running } with pace := pace } _
      exact ⟨d, pace, .inl hd⟩
  · refine ⟨s.disps, s.pace, .inr ⟨?_, ?_⟩⟩
    · rw [if_pos (by simpa using hrun)]
    · rw [Tile.startedAt, if_neg hrun]

theorem State.startPhys_tile (s : State) (p : Nat) : (s.startPhys p).tile p = (s.tile p).startedAt s.now := by
  obtain ⟨d, x, h | ⟨h, heq⟩⟩ := s.startPhys_frame p
  · rw [h]
    exact s.setTile_tile p _
  · rw [h, heq]

theorem State.startPhys_tile_ne (s : State) {p q : Nat} (hq : q ≠ p) : (s.startPhys p).tile q = s.tile q := by
  obtain ⟨d, x, h | ⟨h, -⟩⟩ := s.startPhys_frame p
  · rw [h]
    exact s.setTile_tile_ne _ hq
  · rw [h]

/-- What starting tiles leaves alone: the gates, the time and the firmware's side. -/
def State.StartKept (s t : State) : Prop := t.gates = s.gates ∧ t.now = s.now ∧ t.mgmt = s.mgmt

theorem State.startLogical_kept (s : State) (l : Nat) : s.StartKept (s.startLogical l) := by
  have phys (u : State) (p : Nat) : u.StartKept (u.startPhys p) := by
    obtain ⟨d, x, h | ⟨h, -⟩⟩ := u.startPhys_frame p <;> rw [h] <;> exact ⟨rfl, rfl, rfl⟩
  unfold State.startLogical
  split
  · exact ⟨rfl, rfl, rfl⟩
  · next p _ =>
    split
    · next d _ =>
      obtain ⟨hg, hn, hm⟩ := phys s p
      obtain ⟨hg', hn', hm'⟩ := phys (s.startPhys p) d.partner
      exact ⟨hg'.trans hg, hn'.trans hn, hm'.trans hm⟩
    · exact phys s p

theorem State.startLogicals_kept (s : State) (ls : List Nat) : s.StartKept (ls.foldl State.startLogical s) := by
  refine List.foldlRecOn (motive := s.StartKept) _ _ ⟨rfl, rfl, rfl⟩ ?_
  rintro u ⟨hg, hn, hm⟩ l -
  obtain ⟨hg', hn', hm'⟩ := u.startLogical_kept l
  exact ⟨hg'.trans hg, hn'.trans hn, hm'.trans hm⟩

/-- Without duplex pairs, starting a list of logical tiles starts the physical tile that one of them alone has. -/
theorem State.startLogicals_tile {s : State} (hd : s.gates.duplex = []) {j q : Nat} (hj : s.physOf j = some q)
    {ls : List Nat} (hother : ∀ i ∈ ls, i ≠ j → s.physOf i ≠ some q) :
    (ls.foldl State.startLogical s).tile q = if j ∈ ls then (s.tile q).startedAt s.now else s.tile q := by
  induction ls generalizing s with
  | nil => rfl
  | cons l ls ih =>
    obtain ⟨hg, hn, -⟩ := s.startLogical_kept l
    have hphys (i : Nat) : (s.startLogical l).physOf i = s.physOf i := by rw [State.physOf, hg, State.physOf]
    have hone : (s.startLogical l).tile q = if j = l then (s.tile q).startedAt s.now else s.tile q := by
      unfold State.startLogical
      split
      · next hnone =>
        rw [if_neg (by rintro rfl; simp [hj] at hnone)]
      · next p hp =>
        rw [hd]
        by_cases hjl : j = l
        · subst hjl
          obtain rfl : q = p := Option.some.inj (hj.symm.trans hp)
          rw [if_pos rfl]
          exact s.startPhys_tile q
        · rw [if_neg hjl]
          refine s.startPhys_tile_ne ?_
          rintro rfl
          exact hother l (List.mem_cons_self ..) (Ne.symm hjl) hp
    rw [List.foldl_cons, ih (by rw [hg, hd]) (by rw [hphys, hj])
      (fun i hi hne => by rw [hphys]; exact hother i (List.mem_cons_of_mem _ hi) hne), hone, hn]
    by_cases hjl : j = l
    · simp [hjl, Tile.startedAt_twice]
    · simp [hjl]

/-- The range of START_TILE and STOP_TILE. -/
def rangeOf (p : List Byte) : List Nat := (List.range (leAt p 2 2)).map (leAt p 0 2 + ·)

theorem tileRange_eq {p : List Byte} (hlen : p.length = 4) (hpos : 1 ≤ leAt p 2 2)
    (hmax : leAt p 0 2 + leAt p 2 2 ≤ 1024) : tileRange p = some (leAt p 0 2, leAt p 2 2) := by
  rw [tileRange, if_neg (by omega)]

theorem mem_rangeOf {p : List Byte} {j : Nat} (hmax : leAt p 0 2 + leAt p 2 2 ≤ 1024)
    (hj : j ∈ rangeOf p) : j < 1024 := by
  obtain ⟨i, hi, rfl⟩ := List.mem_map.mp hj
  have := List.mem_range.mp hi
  omega

/-- The logical tiles of a range that START_TILE starts. -/
def State.toStart (s : State) (p : List Byte) : List Nat :=
  (rangeOf p).filter fun t => (s.physOf t).isSome && !s.started t

theorem startTile_starts {s : State} {m : Nat} {p : List Byte} (h : Serving s m 0x0102 p)
    (hrange : tileRange p = some (leAt p 0 2, leAt p 2 2)) :
    Ends (.startTile m) s ((s.toStart p).foldl State.startLogical s) m 0 (leBytes (s.toStart p).length 2) := by
  show execStartTile m s = _
  rw [execStartTile, command_eq h rfl]
  rw [hrange]
  rfl

end Sys2Proof.Machine
end

section
/-! Stopping tiles, and loading their decode tables (R63, R137, R403). -/

namespace Sys2Proof.Machine
open Sys2Proof.Safety

/-! ### Stopping (R63) -/

/-- What STOP_TILE makes of a tile: it stops with all of its state, unless it runs and is not at an instruction
boundary. -/
def Tile.stopped (t : Tile) : Tile := if t.run == .running && !t.atBoundary then t else { t with run := .stopped }

theorem Tile.stopped_of_mayStop {t : Tile} (h : t.run = .running → t.atBoundary = true) :
    t.stopped = { t with run := .stopped } := by
  by_cases hrun : t.run = .running <;> simp_all [Tile.stopped]

theorem Tile.stopped_of_mustGoOn {t : Tile} (hrun : t.run = .running) (hmid : t.atBoundary = false) :
    t.stopped = t := by
  simp [Tile.stopped, hrun, hmid]

theorem Tile.stopped_twice (t : Tile) : t.stopped.stopped = t.stopped := by
  by_cases h : (t.run == .running && !t.atBoundary) = true
  · have hgoes : t.stopped = t := if_pos h
    rw [hgoes, hgoes]
  · have hstops : t.stopped = { t with run := .stopped } := if_neg h
    rw [hstops]
    rfl

theorem State.stopAt_frame (s : State) (p : Nat) : ∃ tiles, s.stopAt p = { s with tiles := tiles } := by
  unfold State.stopAt
  dsimp only
  split <;> exact ⟨_, rfl⟩

theorem State.stopAt_tile (s : State) (p q : Nat) :
    (s.stopAt p).tile q = if q = p then (s.tile p).stopped else s.tile q := by
  unfold State.stopAt Tile.stopped
  dsimp only
  by_cases hq : q = p
  · subst hq
    rw [if_pos rfl]
    split
    · rfl
    · rw [State.setTile_tile]
  · rw [if_neg hq]
    split
    · rfl
    · rw [State.setTile_tile_ne _ _ hq]

/-- Stopping a list of physical tiles stops each of them once, and changes tiles only. -/
theorem State.stopAts_tile (s : State) (ps : List Nat) (q : Nat) :
    (ps.foldl State.stopAt s).tile q = if q ∈ ps then (s.tile q).stopped else s.tile q := by
  induction ps generalizing s with
  | nil => rfl
  | cons p ps ih =>
    rw [List.foldl_cons, ih, State.stopAt_tile]
    by_cases hq : q = p
    · simp [hq, Tile.stopped_twice]
    · simp [hq]

theorem State.stopAts_frame (s : State) (ps : List Nat) :
    ∃ tiles, ps.foldl State.stopAt s = { s with tiles := tiles } := by
  refine List.foldlRecOn (motive := fun u : State => ∃ tiles, u = { s with tiles := tiles }) _ _ ⟨_, rfl⟩ ?_
  rintro u ⟨tiles, rfl⟩ p -
  obtain ⟨tiles', h⟩ := State.stopAt_frame { s with tiles := tiles } p
  exact ⟨tiles', h⟩

/-- Without duplex pairs, a logical tile is started where its physical tile is. -/
theorem State.started_eq {s : State} (hd : s.gates.duplex = []) (j : Nat) :
    s.started j = (s.physOf j).any fun q => (s.tile q).run != .stopped := by
  unfold State.started State.copiesOf
  rw [hd]
  cases s.physOf j <;> simp [tfind?]

/-- The physical tiles that STOP_TILE stops. -/
def State.toStop (s : State) (p : List Byte) : List Nat := ((rangeOf p).filter s.started).flatMap s.copiesOf

theorem State.mem_toStop {s : State} {p : List Byte} (hd : s.gates.duplex = []) {j q : Nat} (hj : j ∈ rangeOf p)
    (hq : s.physOf j = some q) (hrun : (s.tile q).run ≠ .stopped) : q ∈ s.toStop p := by
  have hsingle : tfind? j s.gates.duplex = none := by rw [hd]; rfl
  refine List.mem_flatMap.mpr ⟨j, List.mem_filter.mpr ⟨hj, ?_⟩, ?_⟩
  · rw [State.started_single hsingle hq]
    exact bne_iff_ne.mpr hrun
  · rw [State.copiesOf_single hsingle hq]
    exact List.mem_singleton_self q

theorem stopTile_eq {s : State} {m : Nat} {p : List Byte} (h : Serving s m 0x0103 p)
    (hrange : tileRange p = some (leAt p 0 2, leAt p 2 2)) :
    let t := (s.toStop p).foldl State.stopAt s
    let ts := (rangeOf p).filter s.started
    let left := (ts.filter t.started).length
    let count := (s.mbx m).stops + (ts.length - left)
    exec (.stopTile m) s = .next (if left = 0 then t.finishMbx m 0 (leBytes count 2)
      else t.setMbx m { t.mbx m with stops := count }) := by
  intro t ts left count
  have hcount : count = (t.mbx m).stops + (ts.length - left) := by
    obtain ⟨tiles, ht⟩ := s.stopAts_frame (s.toStop p)
    simp only [count, t, ht]
    rfl
  show execStopTile m s = _
  rw [execStopTile, command_eq h rfl, hrange, hcount]
  by_cases hleft : left = 0
  · rw [if_pos hleft]
    exact congrArg (fun r => Host.Outcome.next (CmdRes.finish m r)) (if_pos hleft)
  · rw [if_neg hleft]
    exact congrArg (fun r => Host.Outcome.next (CmdRes.finish m r)) (if_neg hleft)

/-- Where each tile of the range may stop, each does, and the command ends (R63). -/
theorem stopTile_stops {s : State} {m : Nat} {p : List Byte} (h : Serving s m 0x0103 p)
    (hrange : tileRange p = some (leAt p 0 2, leAt p 2 2)) (hd : s.gates.duplex = [])
    (hmay : ∀ j ∈ rangeOf p, ∀ q, s.physOf j = some q → (s.tile q).run = .running → (s.tile q).atBoundary = true) :
    let t := (s.toStop p).foldl State.stopAt s
    Ends (.stopTile m) s t m 0 (leBytes ((s.mbx m).stops + ((rangeOf p).filter s.started).length) 2) ∧
      ∀ j ∈ rangeOf p, ∀ q, s.physOf j = some q → t.tile q = { s.tile q with run := .stopped } := by
  intro t
  have htile : ∀ j ∈ rangeOf p, ∀ q, s.physOf j = some q → t.tile q = { s.tile q with run := .stopped } := by
    intro j hj q hq
    rw [State.stopAts_tile]
    split
    · exact Tile.stopped_of_mayStop (hmay j hj q hq)
    · next hout =>
      have hrun : (s.tile q).run = .stopped := by
        by_contra hrun
        exact hout (State.mem_toStop hd hj hq hrun)
      rw [← hrun]
  have hleft : (((rangeOf p).filter s.started).filter t.started) = [] := by
    refine List.filter_eq_nil_iff.mpr fun j hj => ?_
    have hj' := (List.mem_filter.mp hj).1
    obtain ⟨tiles, ht⟩ := s.stopAts_frame (s.toStop p)
    have hduplex : t.gates.duplex = [] := by rw [← hd]; exact congrArg (fun u => u.gates.duplex) ht
    have hphys : t.physOf j = s.physOf j := congrArg (fun u => u.physOf j) ht
    rw [State.started_eq hduplex, hphys]
    cases hq : s.physOf j with
    | none => simp
    | some q => simp [htile j hj' q hq]
  refine ⟨?_, htile⟩
  have hstop := stopTile_eq h hrange
  dsimp only at hstop
  rw [hleft] at hstop
  exact hstop

/-- A tile that runs and is not at an instruction boundary goes on, and the command still runs (R63). -/
theorem stopTile_waits {s : State} {m : Nat} {p : List Byte} (h : Serving s m 0x0103 p)
    (hrange : tileRange p = some (leAt p 0 2, leAt p 2 2)) (hd : s.gates.duplex = []) {j q : Nat} (hj : j ∈ rangeOf p)
    (hq : s.physOf j = some q) (hrun : (s.tile q).run = .running) (hmid : (s.tile q).atBoundary = false) :
    ∃ t, exec (.stopTile m) s = .next t ∧ t.tile q = s.tile q ∧ (t.mbx m).st = 2 := by
  have htile : ((s.toStop p).foldl State.stopAt s).tile q = s.tile q := by
    rw [State.stopAts_tile, Tile.stopped_of_mustGoOn hrun hmid, ite_self]
  obtain ⟨tiles, ht⟩ := s.stopAts_frame (s.toStop p)
  have hduplex : ((s.toStop p).foldl State.stopAt s).gates.duplex = [] := by rw [ht]; exact hd
  have hphys : ((s.toStop p).foldl State.stopAt s).physOf j = some q := by rw [ht]; exact hq
  have hstill : j ∈ ((rangeOf p).filter s.started).filter ((s.toStop p).foldl State.stopAt s).started := by
    refine List.mem_filter.mpr ⟨List.mem_filter.mpr ⟨hj, ?_⟩, ?_⟩
    · rw [State.started_eq hd, hq]
      simp [hrun]
    · rw [State.started_eq hduplex, hphys]
      simp [htile, hrun]
  have hstop := stopTile_eq h hrange
  dsimp only at hstop
  rw [if_neg (List.ne_nil_of_mem hstill ∘ List.eq_nil_of_length_eq_zero)] at hstop
  refine ⟨_, hstop, htile, ?_⟩
  rw [State.setMbx_mbx, ht]
  obtain ⟨-, -, -, -, hst, -⟩ := h
  exact hst

/-! ### Decode tables (R135, R137, R138) -/

theorem tget_foldl_tput_add {α : Type} (d : α) (f : Nat → α) (a n : Nat) (m : Table α) {i : Nat} (hi : i < n) :
    tget d (a + i) ((List.range n).foldl (fun m i => tput (a + i) (f i) m) m) = f i := by
  induction n with
  | zero => omega
  | succ n ih =>
    rw [List.range_succ, List.foldl_append, List.foldl_cons, List.foldl_nil]
    by_cases hn : i = n
    · rw [hn, tget_tput_self]
    · rw [tget_tput_ne _ _ (by omega), ih (by omega)]

/-- A loaded entry runs the micro-ops to its END where they check, and is invalid where they do not (R135, R137). -/
theorem Tile.loadEntry_active (t : Tile) (e : Nat) {us : List W24} (hlen : us.length = 16) (x : Nat) :
    tfind? x (t.loadEntry e us).active = if x = e then checkEntry us else tfind? x t.active := by
  have hshadow : Tile.shadowOf { t with
      shadow := (List.range 16).foldl (fun m i => tput (16 * e + i) ((us[i]?).getD 0) m) t.shadow } e = us := by
    unfold Tile.shadowOf
    refine List.ext_getElem (by simp [hlen]) fun i hi _ => ?_
    have hi' : i < 16 := by simpa using hi
    rw [List.getElem_map, List.getElem_range, tget_foldl_tput_add _ _ _ _ _ hi', List.getElem?_eq_getElem (by omega)]
    rfl
  unfold Tile.loadEntry Tile.commitEntry
  rw [hshadow]
  by_cases hx : x = e
  · subst hx
    rw [if_pos rfl]
    cases checkEntry us with
    | none => exact tfind?_tdel_self x t.active
    | some v => exact tfind?_tput_self x v t.active
  · rw [if_neg hx]
    cases checkEntry us with
    | none => exact tfind?_tdel_ne hx t.active
    | some v => exact tfind?_tput_ne v hx t.active

/-- The tile with a list of entries loaded. -/
def Tile.loadEntries (t : Tile) (es : List (Nat × List W24)) : Tile := es.foldl (fun y e => y.loadEntry e.1 e.2) t

theorem Tile.loadEntries_frame (t : Tile) (es : List (Nat × List W24)) : ∃ sh ac v,
    t.loadEntries es = { t with shadow := sh, active := ac, dtValid := v } := by
  refine List.foldlRecOn (motive := fun m : Tile => ∃ sh ac v, m = { t with shadow := sh, active := ac, dtValid := v })
    _ _ ⟨_, _, _, rfl⟩ ?_
  rintro m ⟨sh, ac, v, rfl⟩ e -
  obtain ⟨_, _, _, h⟩ := Tile.loadEntry_frame _ e.1 e.2
  exact ⟨_, _, _, h⟩

theorem Tile.loadEntries_active (t : Tile) (ops : Nat → List W24) (hlen : ∀ e, (ops e).length = 16) (es : List Nat)
    (x : Nat) : tfind? x (t.loadEntries (es.map fun e => (e, ops e))).active =
      if x ∈ es then checkEntry (ops x) else tfind? x t.active := by
  induction es generalizing t with
  | nil => rfl
  | cons e es ih =>
    have hrest := ih (t.loadEntry e (ops e))
    rw [List.map_cons, Tile.loadEntries, List.foldl_cons]
    refine hrest.trans ?_
    rw [Tile.loadEntry_active t e (hlen e)]
    by_cases hx : x = e
    · simp [hx]
    · simp [hx]

/-- The entries that a mask names. -/
def namedEntries (mask : Nat) : List Nat := (List.range 16).filter fun e => bitAt mask e

/-- The micro-ops that a payload of LOAD_DECODE_TABLE gives entry `e`: those of its rank among the named. -/
def entryOps (mask : Nat) (p : List Byte) (e : Nat) : List W24 :=
  (List.range 16).map fun i =>
    BitVec.ofNat 24 (leAt p (4 + 48 * ((List.range e).filter fun i => bitAt mask i).length + 3 * i) 3)

/-- In a rising list of the numbers that a test picks, a number's place is how many picked ones are below it. -/
theorem zip_filter_range (f : Nat → Bool) (n : Nat) :
    (List.range ((List.range n).filter f).length).zip ((List.range n).filter f) =
      ((List.range n).filter f).map fun e => (((List.range e).filter f).length, e) := by
  induction n with
  | zero => rfl
  | succ n ih =>
    rw [List.range_succ, List.filter_append]
    by_cases hn : f n = true
    · rw [List.filter_cons_of_pos hn, List.filter_nil, List.length_append, List.length_singleton, List.range_succ,
        List.zip_append (by simp), ih, List.map_append]
      rfl
    · rw [List.filter_cons_of_neg hn, List.filter_nil, List.append_nil, ih]

theorem entriesOf_eq (mask : Nat) (p : List Byte) :
    entriesOf mask p = (namedEntries mask).map fun e => (e, entryOps mask p e) := by
  unfold entriesOf
  dsimp only
  rw [zip_filter_range, List.map_map]
  rfl

/-- The named entries whose micro-ops do not check. -/
def illEntries (mask : Nat) (p : List Byte) : List Nat :=
  (namedEntries mask).filter fun e => (checkEntry (entryOps mask p e)).isNone

theorem illEntries_eq (mask : Nat) (p : List Byte) :
    ((entriesOf mask p).filter fun e => (checkEntry e.2).isNone) =
      (illEntries mask p).map fun e => (e, entryOps mask p e) := by
  rw [entriesOf_eq, List.filter_map]
  rfl

/-- A payload of LOAD_DECODE_TABLE that R403 allows. -/
structure TablePayload (p : List Byte) : Prop where
  tile : leAt p 0 2 < 1024
  length : p.length = 4 + 48 * (namedEntries (leAt p 2 2)).length

theorem loadDecodeTable_refuses {s : State} {m : Nat} {p : List Byte} (h : Serving s m 0x0106 p) (hp : TablePayload p)
    (hill : illEntries (leAt p 2 2) p ≠ []) : Ends (.loadDecodeTable m) s s m 4
      (leBytes (((illEntries (leAt p 2 2) p).map fun e => 2 ^ e).foldl (· + ·) 0) 2) := by
  obtain ⟨htile, hlen⟩ := hp
  have hok : ¬ (p.length < 4 ∨ 1024 ≤ leAt p 0 2 ∨ p.length ≠ 4 + 48 * (namedEntries (leAt p 2 2)).length) := by omega
  show execLoadDecodeTable m s = _
  rw [execLoadDecodeTable, command_eq h rfl]
  dsimp only
  rw [illEntries_eq, entriesOf_eq, List.length_map, if_neg hok, if_pos (by simpa using hill), List.map_map]
  rfl

theorem loadDecodeTable_loads {s : State} {m q : Nat} {p : List Byte} (h : Serving s m 0x0106 p) (hp : TablePayload p)
    (hill : illEntries (leAt p 2 2) p = []) (hd : tfind? (leAt p 0 2) s.gates.duplex = none)
    (hq : s.physOf (leAt p 0 2) = some q) : ∃ kept, Ends (.loadDecodeTable m) s
      ({ s with boot := { s.boot with keptEntries := kept } }.setTile q ((s.tile q).loadEntries
        ((namedEntries (leAt p 2 2)).map fun e => (e, entryOps (leAt p 2 2) p e)))) m 0 (leBytes (leAt p 2 2) 2) := by
  obtain ⟨htile, hlen⟩ := hp
  have hok : ¬ (p.length < 4 ∨ 1024 ≤ leAt p 0 2 ∨ p.length ≠ 4 + 48 * (namedEntries (leAt p 2 2)).length) := by omega
  have hcopies (k : Table (List (Nat × List W24))) (f : Tile → Tile) :
      State.mapCopies { s with boot := { s.boot with keptEntries := k } } (leAt p 0 2) f =
        { s with boot := { s.boot with keptEntries := k } }.setTile q (f (s.tile q)) :=
    State.mapCopies_single (s := { s with boot := { s.boot with keptEntries := k } }) hd hq f
  refine ⟨tput (leAt p 0 2) ((entriesOf (leAt p 2 2) p).foldl (fun k e => tput e.1 e.2 k)
    (tget [] (leAt p 0 2) s.boot.keptEntries)) s.boot.keptEntries, ?_⟩
  show execLoadDecodeTable m s = _
  rw [execLoadDecodeTable, command_eq h rfl]
  dsimp only
  rw [illEntries_eq, hill, entriesOf_eq, List.length_map, if_neg hok, List.map_nil, List.isEmpty_nil, Bool.not_true,
    if_neg Bool.false_ne_true, hcopies]
  rfl

end Sys2Proof.Machine
end

section
/-! Opening and closing windows (R28, R404, R405). -/

namespace Sys2Proof.Machine
open Sys2Proof.Safety

/-- The state with these windows. -/
def State.withWindows (s : State) (ws : List Window) : State := { s with mgmt := { s.mgmt with windows := ws } }

/-! ### Opening -/

theorem windowRanges_apart : ∀ r ∈ windowRanges, ∀ f ∈ forbiddenRanges, f.1 + f.2 ≤ r.1 ∨ r.1 + r.2 ≤ f.1 := by
  decide

/-- A window inside one of the ranges that R405 allows, in the device's own unit space, has a base that R405 allows. -/
theorem State.windowBase_of_usable {s : State} {base size : Nat} (master dev : Nat)
    (hspace : base / 2 ^ 32 = 4 * s.device + 1) (hsize : 0 < size) {r : Nat × Nat} (hr : r ∈ windowRanges)
    (hlo : r.1 ≤ base % 2 ^ 32)
    (hhi : base % 2 ^ 32 + size ≤ r.1 + r.2) : s.windowBase master dev base size = true := by
  have hown : base / 2 ^ 34 = s.device := by omega
  have hunit : base / 2 ^ 32 % 4 = 1 := by omega
  have hmeets : windowRanges.any (fun r => meets (base % 2 ^ 32, size) r) = true := by
    refine List.any_eq_true.mpr ⟨r, hr, ?_⟩
    simp only [meets, Bool.and_eq_true, decide_eq_true_eq]
    omega
  have hapart : forbiddenRanges.any (fun f => meets (base % 2 ^ 32, size) f) = false := by
    refine List.any_eq_false.mpr fun f hf => ?_
    have hdisjoint := windowRanges_apart r hr f hf
    simp only [meets, Bool.and_eq_true, decide_eq_true_eq]
    omega
  simp only [State.windowBase, hown, hunit, hmeets, hapart, BEq.rfl, Bool.and_self, if_true, Bool.not_false]

/-- A payload of GRANT_WINDOW that R404 and R405 allow for a tile's window on its own device. -/
structure WindowPayload (s : State) (p : List Byte) : Prop where
  length : p.length = 22
  action : leAt p 0 1 = 1
  access : leAt p 1 1 < 2
  reserved : leAt p 7 1 = 0 ∧ leAt p 14 2 = 0 ∧ leAt p 20 2 = 0
  master : leAt p 2 2 < 0x400
  dev : leAt p 4 2 = s.device ∧ leAt p 4 2 < 2 ^ 14
  slot : leAt p 6 1 = 0xFF
  size : windowSize (leAt p 16 4) = true
  aligned : leAt p 8 6 % leAt p 16 4 = 0
  base : s.windowBase (leAt p 2 2) (leAt p 4 2) (leAt p 8 6) (leAt p 16 4) = true

theorem windowSize_pos {n : Nat} (h : windowSize n = true) : 0 < n := by
  obtain ⟨k, -, hk⟩ := List.any_eq_true.mp h
  rw [eq_of_beq hk]
  positivity

/-- The window that such a payload asks for. -/
def windowOf (p : List Byte) (n : Nat) : Window :=
  { num := n, master := leAt p 2 2, dev := leAt p 4 2, rw := leAt p 1 1 == 1, slot := 0xFF, base := leAt p 8 6
    size := leAt p 16 4, closing := false }

section
variable {s : State} {m : Nat} {p : List Byte} (h : Serving s m 0x0204 p) (hp : WindowPayload s p)
include h hp

/-- The payload is right, so the answer hangs on how many windows there are (R404). -/
theorem grantWindowOpen_eq : exec (.grantWindowOpen m) s = .next (CmdRes.finish m
    (if 8 ≤ (s.mgmt.windows.filter fun w => w.master == leAt p 2 2).length then .no s 7
    else match s.freeWindow with
      | none => .no s 7
      | some n => .done (s.withWindows (s.mgmt.windows ++ [windowOf p n])) 0
          (leBytes n 2 ++ [0xFF, 0]))) := by
  obtain ⟨hlen, haction, haccess, ⟨h7, h14, h20⟩, hmaster, ⟨hdev, hdev14⟩, hslot, hsize, haligned, hbase⟩ := hp
  have hpos := windowSize_pos hsize
  have hhost : (leAt p 2 2 == 0x401) = false := by simp only [beq_eq_false_iff_ne]; omega
  have hmax : max 1 (leAt p 16 4) = leAt p 16 4 := by omega
  have hsel : (leAt p 0 1 != 2) = true := by rw [haction]; rfl
  show execGrantWindowOpen m s = _
  rw [execGrantWindowOpen, command_eq h hsel]
  simp only [hlen, haction, h7, h14, h20, hslot, hsize, hmax, haligned, hhost, hmaster, ← hdev, hbase, hdev14.not_ge,
    haccess.not_ge, ne_eq, not_true_eq_false, decide_true, Bool.true_or, Bool.not_true, Bool.false_and, Bool.not_false,
    Bool.false_eq_true, false_and, and_false, or_false, if_false, true_and]
  cases s.freeWindow <;> rfl

theorem grantWindowOpen_opens (hfew : (s.mgmt.windows.filter fun w => w.master == leAt p 2 2).length < 8) {n : Nat}
    (hn : s.freeWindow = some n) : Ends (.grantWindowOpen m) s
      (s.withWindows (s.mgmt.windows ++ [windowOf p n])) m 0 (leBytes n 2 ++ [0xFF, 0]) := by
  rw [Ends, grantWindowOpen_eq h hp, if_neg (by omega), hn]
  rfl

theorem grantWindowOpen_full (hmany : 8 ≤ (s.mgmt.windows.filter fun w => w.master == leAt p 2 2).length) :
    Ends (.grantWindowOpen m) s s m 7 [] := by
  rw [Ends, grantWindowOpen_eq h hp, if_pos hmany]
  rfl

end

/-! ### Closing -/

section
variable {s : State} {m : Nat} {p : List Byte} (h : Serving s m 0x0204 p) (haction : leAt p 0 1 = 2)
include h haction

theorem grantWindowClose_unknown (hnone : ∀ w ∈ s.mgmt.windows, w.num ≠ leAt p 20 2) :
    Ends (.grantWindowClose m) s s m 4 [] := by
  have hfind : (s.mgmt.windows.find? fun w => w.num == leAt p 20 2) = none := by simpa using hnone
  show execGrantWindowClose m s = _
  rw [execGrantWindowClose, command_eq h (by rw [haction]; rfl)]
  dsimp only
  rw [hfind]
  rfl

/-- A payload that is right closes the window that it names: at once where nothing uses it any more, else once all that
it has accepted has completed (R28). -/
theorem grantWindowClose_eq (hlen : p.length = 22) (h7 : leAt p 7 1 = 0) (h14 : leAt p 14 2 = 0) {w : Window}
    (hw : (s.mgmt.windows.find? fun w => w.num == leAt p 20 2) = some w) :
    let users := if w.closing then w.accepted.filter s.inProgress else s.acceptedBy w
    exec (.grantWindowClose m) s = .next (if users.isEmpty then
        (s.withWindows (s.mgmt.windows.filter fun x => x.num != leAt p 20 2)).finishMbx
          m 0 (leBytes w.num 2 ++ leBytes w.slot 1 ++ [0])
      else s.withWindows (s.mgmt.windows.map fun x =>
          if x.num = leAt p 20 2 then { x with closing := true, accepted := users } else x)) := by
  intro users
  have hok : ¬ (p.length ≠ 22 ∨ leAt p 7 1 ≠ 0 ∨ leAt p 14 2 ≠ 0) := by omega
  show execGrantWindowClose m s = _
  rw [execGrantWindowClose, command_eq h (by rw [haction]; rfl)]
  dsimp only
  rw [hw]
  dsimp only
  rw [if_neg hok]
  by_cases hempty : users.isEmpty = true
  · rw [if_pos hempty, if_pos hempty]
    rfl
  · rw [if_neg hempty, if_neg hempty]
    rfl

theorem grantWindowClose_waits (hlen : p.length = 22) (h7 : leAt p 7 1 = 0) (h14 : leAt p 14 2 = 0) {w : Window}
    (hw : (s.mgmt.windows.find? fun w => w.num == leAt p 20 2) = some w) (hopen : w.closing = false)
    (huse : (∃ r ∈ s.flight, s.windowUse w r = true) ∨ (∃ r ∈ s.replies, s.replyUse w r = true)) :
    ∃ t, exec (.grantWindowClose m) s = .next t ∧ (t.mbx m).st = 2 ∧
      ∃ x ∈ t.mgmt.windows, x.num = leAt p 20 2 ∧ x.closing = true := by
  have husers : s.acceptedBy w ≠ [] := by
    unfold State.acceptedBy
    obtain ⟨r, hr, hru⟩ | ⟨r, hr, hru⟩ := huse
    · have hmem := List.mem_map_of_mem (f := keyOf) (List.mem_filter.mpr ⟨hr, hru⟩)
      exact List.ne_nil_of_mem (List.mem_append_left _ (List.mem_append_left _ hmem))
    · have hmem := List.mem_map_of_mem (f := fun r : Resp => (⟨r.dstId, r.dstPhys, s.device, r.tag⟩ : ReqKey))
        (List.mem_filter.mpr ⟨hr, hru⟩)
      exact List.ne_nil_of_mem (List.mem_append_right _ hmem)
  have heq := grantWindowClose_eq h haction hlen h7 h14 hw
  simp only [hopen, Bool.false_eq_true, if_false, List.isEmpty_iff, husers] at heq
  have hnum : w.num = leAt p 20 2 := by simpa using List.find?_some hw
  obtain ⟨-, -, -, -, hst, -⟩ := h
  refine ⟨_, heq, hst, _, List.mem_map_of_mem (List.mem_of_find?_eq_some hw), ?_⟩
  rw [if_pos hnum]
  exact ⟨hnum, rfl⟩

theorem grantWindowClose_closes (hlen : p.length = 22) (h7 : leAt p 7 1 = 0) (h14 : leAt p 14 2 = 0) {w : Window}
    (hw : (s.mgmt.windows.find? fun w => w.num == leAt p 20 2) = some w) (hflight : s.flight = [])
    (hreplies : s.replies = []) (hremotes : s.fabric.remotes = []) : Ends (.grantWindowClose m) s
      (s.withWindows (s.mgmt.windows.filter fun x => x.num != leAt p 20 2)) m 0
      (leBytes (leAt p 20 2) 2 ++ leBytes w.slot 1 ++ [0]) := by
  have hprogress : s.inProgress = fun _ => false := by
    funext k
    simp [State.inProgress, hflight, hreplies, hremotes]
  have haccepted : s.acceptedBy w = [] := by simp [State.acceptedBy, hflight, hreplies, hremotes]
  have hnum : w.num = leAt p 20 2 := by simpa using List.find?_some hw
  have heq := grantWindowClose_eq h haction hlen h7 h14 hw
  simp only [hprogress, haccepted, List.filter_false, ite_self, List.isEmpty_nil, if_true, hnum] at heq
  exact heq

end

end Sys2Proof.Machine
end

section
/-! Substitution, readmission, pairs and sending off (R322, R325 to R333). -/

namespace Sys2Proof.Machine
open Sys2Proof.Safety

/-! ### Substitution (R325 to R328) -/

/-- Restoring a tile changes nothing of the firmware's own, nor the state of the device's power. -/
theorem State.restoreOrDefer_mgmt_power {s : State} (hrun : s.power.st = .run) (d : Deferred) :
    (s.restoreOrDefer d).mgmt = s.mgmt ∧ (s.restoreOrDefer d).power = s.power := by
  have hdrop (u : State) (l : Nat) : (u.dropTask l).mgmt = u.mgmt ∧ (u.dropTask l).power = u.power := by
    obtain ⟨disps, h⟩ := u.dropTask_frame l
    rw [h]
    exact ⟨rfl, rfl⟩
  unfold State.restoreOrDefer State.restoreTile
  dsimp only
  split
  · exact ⟨rfl, rfl⟩
  split
  · exact ⟨rfl, rfl⟩
  split
  · exact hdrop _ _
  · next new _ _ mem _ =>
    refine ⟨(State.fire_mgmt ..).trans (hdrop _ _).1, ?_⟩
    rw [State.fire_power (by rw [(hdrop _ _).2]; exact hrun), (hdrop _ _).2]
    rfl

theorem State.substitute_mgmt_power {s : State} (hrun : s.power.st = .run) (l new : Nat) (copyBad : Bool) :
    (s.substitute l new copyBad).mgmt = s.mgmt ∧ (s.substitute l new copyBad).power = s.power := by
  unfold State.substitute
  split
  · exact ⟨rfl, rfl⟩
  · next old _ =>
    obtain ⟨g, hremap⟩ := s.remap_frame l old new
    obtain ⟨-, -, -, hmgmt, hkept⟩ := (s.remap l old new).noteBench_frame s.freeSpares.length
    obtain ⟨hpower, -⟩ := hkept (by rw [hremap]; exact hrun)
    rw [State.withBench]
    obtain ⟨hmgmt', hpower'⟩ :=
      State.restoreOrDefer_mgmt_power (by rw [hpower, hremap]; exact hrun) ⟨l, old, copyBad, 4⟩
    exact ⟨hmgmt'.trans (hmgmt.trans (by rw [hremap])), hpower'.trans (hpower.trans (by rw [hremap]))⟩

theorem State.mbx_congr {s t : State} (h : t.mgmt = s.mgmt) (m : Nat) : t.mbx m = s.mbx m := by
  simp only [State.mbx, h]

section
variable {s : State} {m : Nat} {p : List Byte} (h : Serving s m 0x0502 p) (hlen : p.length = 4)
  (hl : leAt p 0 2 < 1024) (hd : tfind? (leAt p 0 2) s.gates.duplex = none) {old : Nat}
  (hold : s.physOf (leAt p 0 2) = some old)
include h hlen hl hd hold

theorem substituteTile_noSpare (hq : leAt p 2 2 = 0xFFFF) (hnone : s.freeSpares = []) :
    Ends (.substituteTile m false) s s m 7 [] := by
  show execSubstituteTile m false s = _
  rw [execSubstituteTile, command_eq h rfl]
  simp only [hlen, hq, hd, hold, hnone, show ¬ 0x8000 ≤ leAt p 0 2 by omega, hl.not_ge, ne_eq, not_true_eq_false,
    if_false, false_or, and_false, Option.isNone_some, Bool.false_eq_true, if_true, List.head?_nil]
  rfl

theorem substituteTile_substitutes (hq : leAt p 2 2 < 1088) (hfree : s.isFreeSpare (leAt p 2 2) = true) :
    Ends (.substituteTile m false) s (s.substitute (leAt p 0 2) (leAt p 2 2) false) m 0 (leBytes (leAt p 2 2) 2) := by
  show execSubstituteTile m false s = _
  rw [execSubstituteTile, command_eq h rfl]
  simp only [hlen, hd, hold, hfree, show ¬ 0x8000 ≤ leAt p 0 2 by omega, hl.not_ge, hq.not_ge,
    show leAt p 2 2 ≠ 0xFFFF by omega, ne_eq, not_true_eq_false, if_false, false_or, false_and, Option.isNone_some,
    Bool.false_eq_true, if_true]
  rfl

end

/-! ### Readmission and retirement (R329, R330) -/

/-- The newest record of the fault log is the one just appended, however full the log is (R324). -/
theorem State.logFault_logged (s : State) (source unit logical action arg : Nat) :
    Logged (s.logFault source unit logical 0 0 action arg) source unit logical action arg := by
  unfold State.logFault State.logAs Logged
  dsimp only
  split
  · next hfull =>
    have hone : 1 ≤ s.aon.log.length := by simp at hfull; omega
    rw [List.drop_append_of_le_length hone, List.getLast?_concat]
    exact ⟨_, rfl, rfl, rfl, rfl, rfl, rfl⟩
  · rw [List.getLast?_concat]
    exact ⟨_, rfl, rfl, rfl, rfl, rfl, rfl⟩

theorem logged_congr {s t : State} {source unit logical action arg : Nat} (h : Logged s source unit logical action arg)
    (haon : t.aon = s.aon) : Logged t source unit logical action arg := by
  rwa [Logged, haon]

theorem State.report_logged (s : State) (source unit logical action arg : Nat) :
    Logged (s.report source unit logical action arg) source unit logical action arg :=
  logged_congr (s.logFault_logged source unit logical action arg) (State.fire_aon ..)

theorem State.report_fires {s : State} (hrun : s.power.st = .run) {source : Nat} (hs : reservedSource source = false)
    (unit logical action arg : Nat) :
    ((s.report source unit logical action arg).src source).fires = (s.src source).fires + 1 := by
  unfold State.report
  rw [State.fire_src_self (by exact hrun) hs]
  rfl

/-- What READMIT_TILE does and reports: source 25 fires, with a record that names the tile (R330). -/
def State.Verdict (s t : State) (q action : Nat) : Prop :=
  (t.src 25).fires = (s.src 25).fires + 1 ∧ Logged t 25 q 0xFFFF action 0

theorem State.report_verdict {s : State} (hrun : s.power.st = .run) (q action : Nat) :
    s.Verdict (s.report 25 q 0xFFFF action 0) q action :=
  ⟨State.report_fires hrun rfl .., s.report_logged ..⟩

theorem State.Verdict.finish {s t : State} {q action : Nat} (h : s.Verdict t q action) (hrun : t.power.st = .run)
    (m status : Nat) (payload : List Byte) : s.Verdict (t.finishMbx m status payload) q action := by
  obtain ⟨hfires, hlogged⟩ := h
  refine ⟨?_, logged_congr hlogged (State.finishMbx_aon ..)⟩
  rw [State.finishMbx_src_ne hrun (by omega)]
  exact hfires

/-- A tile that is readmitted is no longer fenced. -/
theorem State.readmit_isFenced (s : State) (q : Nat) : (s.readmit q).isFenced q = false := by
  simp [State.readmit, State.isFenced]

theorem State.readmit_mgmt (s : State) (q : Nat) : (s.readmit q).mgmt = s.mgmt := by
  simp [State.readmit]

theorem State.readmit_verdict {s : State} (hrun : s.power.st = .run) (q : Nat) :
    s.Verdict (s.readmit q) q 11 ∧ (s.readmit q).power.st = .run := by
  refine ⟨State.report_verdict (s := { s.setTile q {} with
    gates := { s.gates with fenced := s.gates.fenced.filter (· != q) }
    faults := { s.faults with deadPorts := s.faults.deadPorts.filter (· != q) } }) hrun q 11, ?_⟩
  unfold State.readmit
  dsimp only
  rw [State.report_power (by exact hrun)]
  exact hrun

/-- The fence and the retired list of a tile that is retired (R330). -/
def State.takeOut (s : State) (q : Nat) : State :=
  let g := (s.fence q).gates
  let l := if g.retired.contains q then g.retired else g.retired ++ [q]
  { s.fence q with gates := { g with retired := l }, boot := (s.fence q).boot.writeRetired l }

theorem State.retire_eq (s : State) (q : Nat) : s.retire q = (s.withBench (·.takeOut q)).report 25 q 0xFFFF 12 0 := rfl

theorem State.takeOut_frame (s : State) (q : Nat) : ∃ g b, s.takeOut q = { s with gates := g, boot := b } ∧
    q ∈ g.retired ∧ g.fenced.contains q = true := by
  obtain ⟨f, o, hfence⟩ := s.fence_frame q
  have hfenced := s.fence_isFenced q
  unfold State.takeOut
  rw [hfence] at hfenced ⊢
  refine ⟨_, _, rfl, ?_, hfenced⟩
  dsimp only
  split
  · next hin => simpa using hin
  · exact List.mem_append_right _ (List.mem_singleton_self q)

/-- A retired tile is on the list and fenced; source 25 reports it (R330). -/
theorem State.retire_retires {s : State} (hrun : s.power.st = .run) (q : Nat) :
    q ∈ (s.retire q).gates.retired ∧ (s.retire q).isFenced q = true ∧ (s.retire q).mgmt = s.mgmt ∧
      s.Verdict (s.retire q) q 12 ∧ (s.retire q).power.st = .run := by
  obtain ⟨g, b, hout, hretired, hfenced⟩ := s.takeOut_frame q
  obtain ⟨-, hgates, -, hmgmt, hkept⟩ := (s.takeOut q).noteBench_frame s.freeSpares.length
  have hrunOut : (s.takeOut q).power.st = .run := by rw [hout]; exact hrun
  obtain ⟨hpower, hsrc⟩ := hkept hrunOut
  have hrunBench : (s.withBench (·.takeOut q)).power.st = .run := by
    rw [State.withBench, hpower]
    exact hrunOut
  have hgates' : (s.retire q).gates = g := by
    rw [State.retire_eq, State.report_gates, State.withBench, hgates, hout]
  refine ⟨by rw [hgates']; exact hretired, by rw [State.isFenced, hgates']; exact hfenced, ?_, ?_, ?_⟩
  · rw [State.retire_eq, State.report_mgmt, State.withBench, hmgmt, hout]
  · obtain ⟨hfires, hlogged⟩ := State.report_verdict hrunBench q 12
    refine ⟨?_, hlogged⟩
    rw [State.retire_eq, hfires, State.withBench, hsrc 25 (by decide), hout]
    rfl
  · rw [State.retire_eq, State.report_power hrunBench]
    exact hrunBench

section
variable {s : State} {m : Nat} {p : List Byte} (h : Serving s m 0x0503 p) (hlen : p.length = 2)
  (hl : leAt p 0 2 < 1088)
include h hlen hl

theorem readmitTile_inUse (hserves : s.logicalOf (leAt p 0 2) ≠ none) (pass : Bool) :
    Ends (.readmitTile m pass) s s m 10 [] := by
  have hsome : (s.logicalOf (leAt p 0 2)).isSome = true := Option.isSome_iff_ne_none.mpr hserves
  show execReadmitTile m pass s = _
  rw [execReadmitTile, command_eq h rfl]
  dsimp only
  rw [if_neg (by omega), hsome, Bool.true_or, if_pos rfl]
  rfl

/-- A tile that serves nothing is readmitted where it passed, was not sent off three times and is not retired, and is
retired otherwise (R330). -/
theorem readmitTile_eq (hserves : s.logicalOf (leAt p 0 2) = none) (hd : s.duplexOf (leAt p 0 2) = none) (pass : Bool) :
    exec (.readmitTile m pass) s = .next
      (if pass && decide (tget 0 (leAt p 0 2) s.gates.offCount < 3) && !s.gates.retired.contains (leAt p 0 2) then
        (s.readmit (leAt p 0 2)).finishMbx m 0 [0]
      else (s.retire (leAt p 0 2)).finishMbx m 0 [1]) := by
  show execReadmitTile m pass s = _
  rw [execReadmitTile, command_eq h rfl]
  dsimp only
  rw [if_neg (by omega), hserves, hd, Option.isSome_none, Option.isSome_none, Bool.or_self, if_neg Bool.false_ne_true]
  split <;> rfl

end

/-! ### Pairs (R333) -/

section
variable {s : State} {m : Nat} {p : List Byte} (h : Serving s m 0x0504 p) (hlen : p.length = 5)
  (hl : leAt p 0 2 < 1024)
include h hlen hl

/-- A named spare becomes the partner once the primary is at an instruction boundary; until then the command runs on. -/
theorem setDuplex_pair (hflags : leAt p 4 1 ≤ 1) (hd : tfind? (leAt p 0 2) s.gates.duplex = none) {q : Nat}
    (hphys : s.physOf (leAt p 0 2) = some q) (hspare : leAt p 2 2 < 1088) (hfree : s.isFreeSpare (leAt p 2 2) = true) :
    exec (.setDuplex m) s = .next (if s.mayPair (leAt p 0 2) then
        (s.withBench fun v => v.pair (leAt p 0 2) (leAt p 2 2) (bitAt (leAt p 4 1) 0)).finishMbx m 0
          (leBytes (leAt p 2 2) 2)
      else s) := by
  have hend : bitAt (leAt p 4 1) 1 = false := by
    simp only [bitAt, beq_eq_false_iff_ne]
    omega
  show execSetDuplex m s = _
  rw [execSetDuplex, command_eq h rfl]
  simp only [hlen, hl.not_ge, show ¬ 4 ≤ leAt p 4 1 by omega, hend, hd, hphys, show leAt p 2 2 ≠ 0xFFFF by omega,
    show ¬ 0x8000 ≤ leAt p 2 2 by omega, hspare.not_ge, hfree, ne_eq, not_true_eq_false, or_self, if_false, if_true,
    Bool.false_eq_true, Option.isSome_none, Option.isNone_some, Bool.or_self]
  split <;> rfl

theorem setDuplex_ends (hflags : leAt p 4 1 = 2) {d : Duplex} (hd : tfind? (leAt p 0 2) s.gates.duplex = some d) :
    Ends (.setDuplex m) s (s.unpair (leAt p 0 2) d) m 0 (leBytes d.partner 2) := by
  show execSetDuplex m s = _
  rw [execSetDuplex, command_eq h rfl]
  simp only [hlen, hl.not_ge, hflags, hd, show bitAt 2 1 = true from rfl, show ¬ 4 ≤ 2 by decide, ne_eq,
    not_true_eq_false, or_self, if_false, if_true]
  rfl

end

/-- A pair's partner has the primary's state, without its sends and with words free of errors (R333). -/
theorem State.withBench_pair (s : State) {l q : Nat} (hphys : s.physOf l = some q) (r : Nat) (auto : Bool) :
    let t := s.withBench fun v => v.pair l r auto
    t.mgmt = s.mgmt ∧
      t.tile r = { s.tile q with sends := [], resting := [], strayResp := 0, bad := [], fixes := (s.tile r).fixes } ∧
      ∃ d, tfind? l t.gates.duplex = some d ∧ d.primary = q ∧ d.partner = r ∧ d.auto = auto := by
  intro t
  obtain ⟨htiles, hgates, -, hmgmt, -⟩ := (s.pair l r auto).noteBench_frame s.freeSpares.length
  have hpair : s.pair l r auto = { (s.setTile r { s.tile q with
      sends := [], resting := [], strayResp := 0, bad := [], fixes := (s.tile r).fixes }) with
    gates := { s.gates with
      serves := tput r none s.gates.serves
      duplex := tput l ⟨q, r, auto, 0, 0, [], [], [], [], 0⟩ s.gates.duplex } } := by
    rw [State.pair, hphys]
    rfl
  have ht : t = (s.pair l r auto).noteBench s.freeSpares.length := rfl
  refine ⟨by rw [ht, hmgmt, hpair]; rfl, ?_, ?_⟩
  · have htile : t.tile r = (s.pair l r auto).tile r := by rw [State.tile, State.tile, ht, htiles]
    rw [htile, hpair]
    exact s.setTile_tile r _
  · refine ⟨⟨q, r, auto, 0, 0, [], [], [], [], 0⟩, ?_, rfl, rfl, rfl⟩
    have hduplex : t.gates.duplex = (s.pair l r auto).gates.duplex := by rw [ht, hgates]
    rw [hduplex, hpair]
    exact tfind?_tput_self ..

/-! ### Sending off (R322, R325) -/

theorem Pin.mem_hold_of_mem {v : Pin} {c : SafeCause} (h : c ∈ v.causes) (d : SafeCause) : c ∈ (v.hold d).causes := by
  unfold Pin.hold
  split
  · exact h
  · exact List.mem_append_left _ h

/-- A device restart leaves a pin safe for a send-off, which ends at a cold start only (R300, R322). -/
theorem Pin.sendOff_mem_restart {v : Pin} (h : SafeCause.sendOff ∈ v.causes) :
    SafeCause.sendOff ∈ v.restart.causes := by
  unfold Pin.restart
  exact Pin.mem_hold_of_mem (List.mem_filter.mpr ⟨h, rfl⟩) _

/-- A send-off of the device holds it in a device restart with every pin in its safe state (R322). -/
theorem State.selfSendOff_holds (s : State) (source : Nat) :
    HeldRestart.sendOff ∈ (s.selfSendOff source).faults.held ∧ (s.selfSendOff source).mgmt.up = false ∧
      ∀ n < 96, SafeCause.sendOff ∈ ((s.selfSendOff source).pin n).causes := by
  unfold State.selfSendOff
  generalize hu : ((s.logFault source 0xFFFF 0xFFFF 0 0 10 source).safeAll .sendOff).announceOff = u
  have hpins : ∀ n < 96, SafeCause.sendOff ∈ (u.pin n).causes := by
    intro n hn
    have hpin : u.pin n = ((s.logFault source 0xFFFF 0xFFFF 0 0 10 source).pin n).hold .sendOff := by
      have hannounce (v : State) : v.announceOff.pin n = v.pin n := rfl
      rw [← hu, hannounce, State.safeAll, State.mapPins_pin _ _ hn]
    rw [hpin]
    exact Pin.mem_hold _ _
  have hheld : HeldRestart.sendOff ∈
      u.faults.held ++ (some HeldRestart.sendOff).toList.filter fun w => !u.faults.held.contains w := by
    by_cases hin : HeldRestart.sendOff ∈ u.faults.held <;> simp [hin]
  unfold State.deviceRestart
  dsimp only
  rw [if_neg (by simp only [List.isEmpty_iff]; exact List.ne_nil_of_mem hheld)]
  refine ⟨hheld, rfl, fun n hn => ?_⟩
  rw [State.restartCore_pin _ hn]
  exact Pin.sendOff_mem_restart (hpins n hn)

section
variable {s : State} {m : Nat} {p : List Byte} (h : Serving s m 0x0505 p) (hlen : p.length = 2)
include h hlen

theorem sendOff_device (hl : leAt p 0 2 = 0xFFFF) :
    exec (.sendOff m) s = .next ((s.finishMbx m 0 []).selfSendOff 9) := by
  show execSendOff m s = _
  rw [execSendOff, command_eq h rfl]
  dsimp only
  rw [if_neg (by omega), if_pos hl]
  rfl

theorem sendOff_tile (hl : leAt p 0 2 < 1088) : Ends (.sendOff m) s (s.tileFails (leAt p 0 2)) m 0 [] := by
  show execSendOff m s = _
  rw [execSendOff, command_eq h rfl]
  dsimp only
  rw [if_neg (by omega), if_neg (by omega)]
  rfl

end

/-- A tile that serves nothing is fenced, and nothing else of the array changes (R325). -/
theorem State.tileFails_spare (s : State) {q : Nat} (hserves : s.logicalOf q = none) (hd : s.duplexOf q = none) :
    (s.tileFails q).isFenced q = true ∧ (s.tileFails q).tiles = s.tiles ∧ (s.tileFails q).mgmt = s.mgmt := by
  have heq : s.tileFails q = (s.fence q).noteBench s.freeSpares.length := by
    rw [State.tileFails, hd, hserves]
    rfl
  obtain ⟨htiles, hgates, -, hmgmt, -⟩ := (s.fence q).noteBench_frame s.freeSpares.length
  obtain ⟨f, o, hfence⟩ := s.fence_frame q
  rw [heq]
  refine ⟨?_, htiles.trans (by rw [hfence]), hmgmt.trans (by rw [hfence])⟩
  rw [State.isFenced, hgates]
  exact s.fence_isFenced q

/-- A tile that serves a logical one is replaced by the lowest free spare (R325). -/
theorem State.tileFails_mapped (s : State) {q j new : Nat} (hd : s.duplexOf q = none) (hserves : s.logicalOf q = some j)
    (hnew : s.freeSpares.head? = some new) : s.tileFails q = s.substitute j new false := by
  rw [State.tileFails, hd]
  dsimp only
  rw [hserves, ← State.substituteLowest_of_spare hnew]

end Sys2Proof.Machine
end

section
/-! What the commands of tiles come to. -/

namespace Sys2Proof.Machine
open Sys2Proof.Safety

theorem leAt_two_lt (p : List Byte) (o : Nat) : leAt p o 2 < 65536 := by
  have h0 := (p.getD o 0).isLt
  have h1 := (p.getD (o + 1) 0).isLt
  rw [leAt_two]
  omega

/-- The firmware serves a command in Run only (R392, R433). -/
theorem serving_run {s : State} {m code : Nat} {p : List Byte} (h : Serving s m code p) : s.power.st = .run := by
  obtain ⟨-, -, -, hrunning, -⟩ := h
  exact (State.running_iff.mp hrunning).1

/-! ### Images (R403, R412) -/

theorem sliceB_getElem? (p : List Byte) (o n i : Nat) :
    (sliceB p o n)[i]? = if i < n then some (p.getD (o + i) 0) else none := by
  unfold sliceB
  by_cases hi : i < n <;> simp [hi]

/-- The image lands in memory from its offset, in a circle; no other byte changes (R62, R403). -/
theorem Tile.memGet_withImage {t : Tile} (hwf : Memory.wf 0 t.mem = true) (p : List Byte) {n : Nat}
    (hn : n ≤ 65536) (o : Nat) {a : Nat} (ha : a < 65536) :
    memGet 0 a (t.withImage (BitVec.ofNat 16 (leAt p o 2)) (sliceB p 8 n)).mem =
      if (a + 65536 - leAt p o 2) % 65536 < n then p.getD (8 + (a + 65536 - leAt p o 2) % 65536) 0
      else memGet 0 a t.mem := by
  have hoffset : (BitVec.ofNat 16 (leAt p o 2)).toNat = leAt p o 2 := by
    rw [BitVec.toNat_ofNat]
    exact Nat.mod_eq_of_lt (leAt_two_lt p o)
  obtain ⟨bad, hframe⟩ := t.withImage_frame (BitVec.ofNat 16 (leAt p o 2)) (sliceB p 8 n)
  rw [hframe]
  dsimp only
  rw [Tile.memGet_storeBytes hwf _ (by simpa [sliceB] using hn) ha, hoffset, sliceB_getElem?]
  split <;> rfl

theorem loadTileImage_outcome {s : State} {m q : Nat} {p : List Byte} (hwf : Memory.wf 0 (s.mbx m).resp = true)
    (h : Serving s m 0x0101 p) (hp : ImagePayload p) (hd : tfind? (leAt p 0 2) s.gates.duplex = none)
    (hq : s.physOf (leAt p 0 2) = some q) (hmem : Memory.wf 0 (s.tile q).mem = true) (hs : (s.tile q).run = .stopped) :
    ∃ t, exec (.loadTileImage m) s = .next t ∧ t.Answered m 0 [] ∧ (t.tile q).run = .stopped ∧
      (∀ a < 65536, memGet 0 a (t.tile q).mem =
        if (a + 65536 - leAt p 4 2) % 65536 < leAt p 6 2 then p.getD (8 + (a + 65536 - leAt p 4 2) % 65536) 0
        else memGet 0 a (s.tile q).mem) ∧
      (leAt p 2 1 = 1 → s.boot.absent = [] → t.boot.image (leAt p 0 2) = some (t.tile q).mem) ∧
      (leAt p 2 1 = 0 → t.boot = s.boot) := by
  have hends := loadTileImage_stores h hp hd hq hs
  dsimp only at hends
  generalize hv : (s.tile q).withImage (BitVec.ofNat 16 (leAt p 4 2)) (sliceB p 8 (leAt p 6 2)) = v at hends
  have htile (b : Boot) : State.tile { s.setTile q v with boot := b } q = v := s.setTile_tile q v
  refine ⟨_, hends, State.finishMbx_answers (by exact hwf) _ _, ?_, fun a ha => ?_,
    fun hkeep habsent => ?_, fun hkeep => ?_⟩
  · obtain ⟨bad, hframe⟩ := (s.tile q).withImage_frame (BitVec.ofNat 16 (leAt p 4 2)) (sliceB p 8 (leAt p 6 2))
    rw [State.finishMbx_tile, htile, ← hv, hframe]
    exact hs
  · rw [State.finishMbx_tile, htile, ← hv]
    exact Tile.memGet_withImage hmem p (leAt_two_lt p 6).le 4 ha
  · rw [State.finishMbx_tile, htile, State.finishMbx_boot]
    dsimp only
    rw [if_pos hkeep]
    exact Boot.image_persist habsent _ _
  · rw [State.finishMbx_boot]
    dsimp only
    rw [if_neg (by omega)]

/-! ### Starting and stopping (R63) -/

/-- A logical tile that has its physical tile to itself. -/
def State.Alone (s : State) (j q : Nat) : Prop := s.physOf j = some q ∧ ∀ i < 1024, i ≠ j → s.physOf i ≠ some q

theorem Tile.startedAt_of_stopped {t : Tile} (h : t.run = .stopped) (now : Nat) :
    (t.startedAt now).run = .running ∧ (t.startedAt now).pc = 0 ∧ (t.startedAt now).d = Vector.replicate 16 0 ∧
      (t.startedAt now).active = t.active := by
  rw [Tile.startedAt, if_pos h]
  exact ⟨rfl, rfl, rfl, rfl⟩

theorem Tile.startedAt_of_started {t : Tile} (h : t.run ≠ .stopped) (now : Nat) : t.startedAt now = t := if_neg h

theorem Tile.startedAt_mem (t : Tile) (now : Nat) : (t.startedAt now).mem = t.mem := by
  unfold Tile.startedAt
  split <;> rfl

theorem State.toStart_eq {s : State} (hd : s.gates.duplex = []) (p : List Byte) :
    s.toStart p = (rangeOf p).filter fun j => (s.physOf j).any fun q => (s.tile q).run == .stopped := by
  unfold State.toStart
  congr 1
  funext j
  rw [State.started_eq hd]
  cases s.physOf j <;> simp [bne]

theorem startTile_outcome {s : State} {m : Nat} {p : List Byte} (hwf : Memory.wf 0 (s.mbx m).resp = true)
    (h : Serving s m 0x0102 p) (hrange : tileRange p = some (leAt p 0 2, leAt p 2 2))
    (hmax : leAt p 0 2 + leAt p 2 2 ≤ 1024) (hd : s.gates.duplex = []) :
    ∃ t, exec (.startTile m) s = .next t ∧ t.Answered m 0 (leBytes (s.toStart p).length 2) ∧
      ∀ j ∈ rangeOf p, ∀ q, s.Alone j q → t.tile q = (s.tile q).startedAt s.now := by
  obtain ⟨-, -, hmgmt⟩ := s.startLogicals_kept (s.toStart p)
  refine ⟨_, startTile_starts h hrange, State.finishMbx_answers (by rwa [State.mbx_congr hmgmt]) _ _, ?_⟩
  rintro j hj q ⟨hphys, halone⟩
  have hother : ∀ i ∈ s.toStart p, i ≠ j → s.physOf i ≠ some q := fun i hi =>
    halone i (mem_rangeOf hmax (List.mem_filter.mp hi).1)
  rw [State.finishMbx_tile, State.startLogicals_tile hd hphys hother]
  split
  · rfl
  · next hout =>
    have hrun : (s.tile q).run ≠ .stopped := by
      intro hrun
      refine hout ?_
      rw [State.toStart_eq hd]
      exact List.mem_filter.mpr ⟨hj, by simp [hphys, hrun]⟩
    rw [Tile.startedAt_of_started hrun]

theorem stopTile_outcome {s : State} {m : Nat} {p : List Byte} (hwf : Memory.wf 0 (s.mbx m).resp = true)
    (h : Serving s m 0x0103 p) (hrange : tileRange p = some (leAt p 0 2, leAt p 2 2)) (hd : s.gates.duplex = [])
    (hmay : ∀ j ∈ rangeOf p, ∀ q, s.physOf j = some q → (s.tile q).run = .running → (s.tile q).atBoundary = true) :
    ∃ t, exec (.stopTile m) s = .next t ∧
      t.Answered m 0 (leBytes ((s.mbx m).stops + ((rangeOf p).filter s.started).length) 2) ∧
      ∀ j ∈ rangeOf p, ∀ q, s.physOf j = some q → t.tile q = { s.tile q with run := .stopped } := by
  obtain ⟨hends, htile⟩ := stopTile_stops h hrange hd hmay
  obtain ⟨tiles, hframe⟩ := s.stopAts_frame (s.toStop p)
  refine ⟨_, hends, State.finishMbx_answers (by rw [hframe]; exact hwf) _ _, fun j hj q hq => ?_⟩
  rw [State.finishMbx_tile]
  exact htile j hj q hq

/-! ### Decode tables (R137) -/

theorem loadDecodeTable_outcome {s : State} {m q : Nat} {p : List Byte} (hwf : Memory.wf 0 (s.mbx m).resp = true)
    (h : Serving s m 0x0106 p) (hp : TablePayload p) (hill : illEntries (leAt p 2 2) p = [])
    (hd : tfind? (leAt p 0 2) s.gates.duplex = none) (hq : s.physOf (leAt p 0 2) = some q) :
    ∃ t, exec (.loadDecodeTable m) s = .next t ∧ t.Answered m 0 (leBytes (leAt p 2 2) 2) ∧
      (t.tile q).dtsel = (s.tile q).dtsel ∧ (t.tile q).pc = (s.tile q).pc ∧
      ∀ e < 16, tfind? e (t.tile q).active =
        if bitAt (leAt p 2 2) e then checkEntry (entryOps (leAt p 2 2) p e) else tfind? e (s.tile q).active := by
  obtain ⟨kept, hends⟩ := loadDecodeTable_loads h hp hill hd hq
  obtain ⟨sh, ac, v, hframe⟩ := (s.tile q).loadEntries_frame
    ((namedEntries (leAt p 2 2)).map fun e => (e, entryOps (leAt p 2 2) p e))
  refine ⟨_, hends, State.finishMbx_answers (by exact hwf) _ _, ?_, ?_, fun e he => ?_⟩ <;>
    rw [State.finishMbx_tile, State.setTile_tile]
  · rw [hframe]
  · rw [hframe]
  · rw [Tile.loadEntries_active _ _ (fun e => by simp [entryOps])]
    simp [namedEntries, he]

/-! ### Substitution, readmission, pairs and send-offs (R322, R325 to R333) -/

/-- The end of a substitution's command leaves the move and the firing of source 16 as they are. -/
theorem substitute_outcome {s : State} {c : Instr} {m l old new status : Nat} {payload : List Byte}
    (hwf : Memory.wf 0 (s.mbx m).resp = true) (hends : Ends c s (s.substitute l new false) m status payload)
    (hphys : s.physOf l = some old) (hrun : s.power.st = .run) (hr : s.mgmt.restarting = false)
    (hbad : (s.tile old).bad = []) (hport : old ∉ s.faults.deadPorts) :
    ∃ t, exec c s = .next t ∧ Moved s t l old new ∧ t.Answered m status payload ∧
      (t.src 16).fires = (s.src 16).fires + 1 := by
  obtain ⟨hmoved, hfires⟩ := s.substitute_moves (new := new) hphys hrun hr hbad hport
  obtain ⟨hmgmt, hpower⟩ := State.substitute_mgmt_power hrun l new false
  refine ⟨_, hends, moved_congr hmoved ⟨State.finishMbx_tiles .., State.finishMbx_gates ..⟩,
    State.finishMbx_answers (by rwa [State.mbx_congr hmgmt]) _ _, ?_⟩
  rw [State.finishMbx_src_ne (by rw [hpower]; exact hrun) (by omega), hfires]

section
variable {s : State} {m : Nat} {p : List Byte} (hwf : Memory.wf 0 (s.mbx m).resp = true) (h : Serving s m 0x0503 p)
  (hlen : p.length = 2) (hl : leAt p 0 2 < 1088) (hserves : s.logicalOf (leAt p 0 2) = none)
  (hd : s.duplexOf (leAt p 0 2) = none)
include hwf h hlen hl hserves hd

theorem readmitTile_passes (hoff : tget 0 (leAt p 0 2) s.gates.offCount < 3) (hlisted : leAt p 0 2 ∉ s.gates.retired) :
    ∃ t, exec (.readmitTile m true) s = .next t ∧ t.isFenced (leAt p 0 2) = false ∧ t.Answered m 0 [0] ∧
      s.Verdict t (leAt p 0 2) 11 := by
  obtain ⟨hverdict, hrun⟩ := State.readmit_verdict (serving_run h) (leAt p 0 2)
  have heq := readmitTile_eq h hlen hl hserves hd true
  rw [if_pos (by simp [hoff, hlisted])] at heq
  refine ⟨_, heq, ?_, State.finishMbx_answers (by rwa [State.mbx_congr (s.readmit_mgmt (leAt p 0 2))]) _ _,
    hverdict.finish hrun m 0 _⟩
  rw [State.finishMbx_isFenced, State.readmit_isFenced]

theorem readmitTile_fails : ∃ t, exec (.readmitTile m false) s = .next t ∧ leAt p 0 2 ∈ t.gates.retired ∧
    t.isFenced (leAt p 0 2) = true ∧ t.Answered m 0 [1] ∧ s.Verdict t (leAt p 0 2) 12 := by
  obtain ⟨hretired, hfenced, hmgmt, hverdict, hrun⟩ := State.retire_retires (serving_run h) (leAt p 0 2)
  have heq := readmitTile_eq h hlen hl hserves hd false
  rw [Bool.false_and, Bool.false_and, if_neg Bool.false_ne_true] at heq
  have hresp : Memory.wf 0 ((s.retire (leAt p 0 2)).mbx m).resp = true := by
    rw [State.mbx_congr hmgmt]
    exact hwf
  refine ⟨_, heq, ?_, ?_, State.finishMbx_answers hresp _ _, hverdict.finish hrun m 0 _⟩
  · rw [State.finishMbx_gates]
    exact hretired
  · rw [State.finishMbx_isFenced]
    exact hfenced

end

end Sys2Proof.Machine
end

section
/-! The commands of tiles (R28, R63, R137, R325 to R333, R403 to R405). -/

namespace Sys2Proof.Machine
open Sys2Proof.Safety

section
variable {s : State} {m : Nat} {p : List Byte} (hwf : Memory.wf 0 (s.mbx m).resp = true) (h : Serving s m 0x0504 p)
  (hlen : p.length = 5) (hl : leAt p 0 2 < 1024)
include h hlen hl

section
variable (hflags : leAt p 4 1 ≤ 1) (hd : tfind? (leAt p 0 2) s.gates.duplex = none) (hspare : leAt p 2 2 < 1088)
  (hfree : s.isFreeSpare (leAt p 2 2) = true) {q : Nat} (hphys : s.physOf (leAt p 0 2) = some q)
include hflags hd hspare hfree hphys

theorem setDuplex_waits (hrun : (s.tile q).run = .running) (hmid : (s.tile q).atBoundary = false) :
    exec (.setDuplex m) s = .next s := by
  have hnot : s.mayPair (leAt p 0 2) = false := by simp [State.mayPair, hphys, hrun, hmid]
  rw [setDuplex_pair h hlen hl hflags hd hphys hspare hfree, hnot, if_neg Bool.false_ne_true]

include hwf in
theorem setDuplex_pairs (hidle : (s.tile q).run = .running → (s.tile q).wb = none ∧ (s.tile q).waiting = none)
    (hcatch : tfind? q s.gates.catchUp = none) :
    ∃ t, exec (.setDuplex m) s = .next t ∧ t.Answered m 0 (leBytes (leAt p 2 2) 2) ∧
      t.tile (leAt p 2 2) = { s.tile q with
        sends := [], resting := [], strayResp := 0, bad := [], fixes := (s.tile (leAt p 2 2)).fixes } ∧
      ∃ d, tfind? (leAt p 0 2) t.gates.duplex = some d ∧ d.primary = q ∧ d.partner = leAt p 2 2 ∧
        d.auto = bitAt (leAt p 4 1) 0 := by
  have hmay : s.mayPair (leAt p 0 2) = true := by
    by_cases hrun : (s.tile q).run = .running
    · obtain ⟨hwb, hwaiting⟩ := hidle hrun
      simp [State.mayPair, hphys, hcatch, Tile.atBoundary, hwb, hwaiting]
    · simp [State.mayPair, hphys, hcatch, hrun]
  have heq := setDuplex_pair h hlen hl hflags hd hphys hspare hfree
  rw [if_pos hmay] at heq
  obtain ⟨hmgmt, htile, hpair⟩ := s.withBench_pair hphys (leAt p 2 2) (bitAt (leAt p 4 1) 0)
  refine ⟨_, heq, State.finishMbx_answers (by rw [State.mbx_congr hmgmt]; exact hwf) _ _, ?_, ?_⟩
  · rw [State.finishMbx_tile, htile]
  · rw [State.finishMbx_gates]
    exact hpair

end

include hwf in
theorem setDuplex_unpairs (hflags : leAt p 4 1 = 2) {d : Duplex} (hd : tfind? (leAt p 0 2) s.gates.duplex = some d) :
    ∃ t, exec (.setDuplex m) s = .next t ∧ t.Answered m 0 (leBytes d.partner 2) ∧
      tfind? (leAt p 0 2) t.gates.duplex = none ∧ (t.tile d.partner).run = .stopped := by
  refine ⟨_, setDuplex_ends h hlen hl hflags hd, State.finishMbx_answers (by exact hwf) _ _, ?_, ?_⟩
  · rw [State.finishMbx_gates]
    exact tfind?_tdel_self ..
  · have hcold : (s.unpair (leAt p 0 2) d).tile d.partner = (s.tile d.partner).cold s.now := s.setTile_tile _ _
    rw [State.finishMbx_tile, hcold]
    rfl

end

section
variable {s : State} {m : Nat} {p : List Byte} (hwf : Memory.wf 0 (s.mbx m).resp = true) (h : Serving s m 0x0505 p)
  (hlen : p.length = 2) (hl : leAt p 0 2 < 1088) (hd : s.duplexOf (leAt p 0 2) = none)
include hwf h hlen hl hd

theorem sendOff_spare (hserves : s.logicalOf (leAt p 0 2) = none) : ∃ t, exec (.sendOff m) s = .next t ∧
    t.isFenced (leAt p 0 2) = true ∧ t.Answered m 0 [] ∧ t.tiles = s.tiles := by
  obtain ⟨hfenced, htiles, hmgmt⟩ := s.tileFails_spare hserves hd
  refine ⟨_, sendOff_tile h hlen hl, ?_, State.finishMbx_answers (by rw [State.mbx_congr hmgmt]; exact hwf) _ _, ?_⟩
  · rw [State.finishMbx_isFenced, hfenced]
  · rw [State.finishMbx_tiles, htiles]

theorem sendOff_mapped {j new : Nat} (hserves : s.logicalOf (leAt p 0 2) = some j)
    (hphys : s.physOf j = some (leAt p 0 2)) (hnew : s.freeSpares.head? = some new)
    (hbad : (s.tile (leAt p 0 2)).bad = []) (hport : leAt p 0 2 ∉ s.faults.deadPorts) :
    ∃ t, exec (.sendOff m) s = .next t ∧ Moved s t j (leAt p 0 2) new := by
  have hends := sendOff_tile h hlen hl
  rw [State.tileFails_mapped s hd hserves hnew] at hends
  have hrun := serving_run h
  obtain ⟨-, -, hrestarting, -⟩ := h
  obtain ⟨t, heq, hmoved, -⟩ := substitute_outcome hwf hends hphys hrun hrestarting hbad hport
  exact ⟨t, heq, hmoved⟩

end

/-- The micro-ops of an entry, by the bytes that hold them. -/
theorem entryOps_eq (mask : Nat) (p : List Byte) (e : Nat) :
    let rank := ((List.range e).filter fun i => bitAt mask i).length
    entryOps mask p e = (List.range 16).map fun i =>
      BitVec.ofNat 24 (leAt p (4 + 48 * rank + 3 * i) 2 + 65536 * (p.getD (6 + 48 * rank + 3 * i) 0).toNat) := by
  intro rank
  refine List.map_congr_left fun i _ => ?_
  rw [leAt_three, show 4 + 48 * rank + 3 * i + 2 = 6 + 48 * rank + 3 * i by omega]

/-- Settles O46. -/
theorem tileCommands : Obligations.TileCommands := by
  unfold Obligations.TileCommands
  intro m p s hwf _ byte two four answer fired l alone range stoppedAt startedAt rank named ops ill base addr size
    usable opens
  have hbyte : byte = fun o => leAt p o 1 := funext fun o => (leAt_one p o).symm
  have htwo : two = fun o => leAt p o 2 := funext fun o => (leAt_two p o).symm
  have hfour : four = fun o => leAt p o 4 := by
    funext o
    rw [leAt_four, ← congrFun htwo, ← congrFun htwo]
  have hbase : base = leAt p 8 6 := by
    rw [leAt_six, ← congrFun htwo, ← congrFun hfour]
  have hops : ops = entryOps (leAt p 2 2) p := by
    funext e
    rw [entryOps_eq]
    simp only [ops, rank, htwo]
    rfl
  have hnamed : named = fun e => bitAt (leAt p 2 2) e := by
    funext e
    rw [← congrFun htwo]
    rfl
  have hill : ill = illEntries (leAt p 2 2) p := by
    simp only [ill, hnamed, hops, illEntries, namedEntries, List.filter_filter, Bool.and_comm]
  have hrange : range = rangeOf p := by
    simp only [range, htwo]
    rfl
  have hstart (hd : s.gates.duplex = []) : (rangeOf p).filter stoppedAt = s.toStart p := (State.toStart_eq hd p).symm
  have hstop (hd : s.gates.duplex = []) : startedAt = s.started := (funext (State.started_eq hd)).symm
  have hopens : opens → WindowPayload s p := by
    simp only [opens, usable, addr, size, hbase, hbyte, htwo, hfour]
    rintro ⟨hlen, haction, haccess, h7, h14, h20, hmaster, hdev, hdev14, hslot, hsize, haligned, hspace, husable⟩
    obtain ⟨k, hk, hsize⟩ := List.mem_map.mp hsize
    obtain ⟨r, hr, hinside⟩ := List.any_eq_true.mp husable
    rw [Bool.and_eq_true, decide_eq_true_eq, decide_eq_true_eq] at hinside
    have hwindow : windowSize (leAt p 16 4) = true := List.any_eq_true.mpr ⟨k, hk, by simp [← hsize]⟩
    exact ⟨hlen, haction, by omega, ⟨h7, h14, h20⟩, hmaster, ⟨hdev, hdev14⟩, hslot, hwindow, haligned,
      State.windowBase_of_usable _ _ hspace (windowSize_pos hwindow) hr hinside.1 hinside.2⟩
  simp only [hrange, l, size, hill, hnamed, hops, hbase, hbyte, htwo, hfour]
  refine ⟨?_, fun hlen hpos hmax hd => ⟨?_, ?_, ?_⟩, ?_, ?_, ?_, ?_, ?_, ?_, ?_, ?_⟩
  · intro h hlong htile hkeep hzero hfits hlen hd q hq hmem
    have hp : ImagePayload p := ⟨htile, by omega, hzero, by omega, hfits, hlen⟩
    refine ⟨fun hs => loadTileImage_outcome hwf h hp hd hq hmem hs, fun hs => loadTileImage_started h hp ?_⟩
    rw [State.started_single hd hq]
    exact bne_iff_ne.mpr hs
  · intro h
    obtain ⟨t, heq, hanswer, htile⟩ := startTile_outcome hwf h (tileRange_eq hlen hpos hmax) hmax hd
    rw [hstart hd]
    refine ⟨t, heq, hanswer, fun j hj q _ halone => ?_⟩
    rw [htile j hj q halone]
    exact ⟨Tile.startedAt_mem _ _, fun hs => Tile.startedAt_of_stopped hs _, fun hs => Tile.startedAt_of_started hs _⟩
  · intro h hmay
    rw [hstop hd]
    exact stopTile_outcome hwf h (tileRange_eq hlen hpos hmax) hd hmay
  · intro h j hj q hq hrun hmid
    exact stopTile_waits h (tileRange_eq hlen hpos hmax) hd hj hq hrun hmid
  · intro h _ htile hlen hd
    exact ⟨fun hill q hq => loadDecodeTable_outcome hwf h ⟨htile, hlen⟩ hill hd hq,
      fun hill => loadDecodeTable_refuses h ⟨htile, hlen⟩ hill⟩
  · intro h ho
    exact ⟨fun hfew n hn => grantWindowOpen_opens h (hopens ho) hfew hn, grantWindowOpen_full h (hopens ho)⟩
  · intro h hlen haction
    exact ⟨grantWindowClose_unknown h haction,
      fun h7 h14 w hw hopen huse => grantWindowClose_waits h haction hlen h7 h14 hw hopen huse,
      fun h7 h14 w hw hflight hreplies hremotes =>
        grantWindowClose_closes h haction hlen h7 h14 hw hflight hreplies hremotes⟩
  · intro h hlen htile hd old hold
    refine ⟨substituteTile_noSpare h hlen htile hd hold, fun hq hfree _ hbad hport => ?_⟩
    have hends := substituteTile_substitutes h hlen htile hd hold hq hfree
    have hrun := serving_run h
    obtain ⟨-, -, hrestarting, -⟩ := h
    exact substitute_outcome hwf hends hold hrun hrestarting hbad hport
  · intro h hlen htile
    refine ⟨fun hserves pass => readmitTile_inUse h hlen htile hserves pass,
      fun hserves hd => ⟨fun hoff hlisted => ?_, ?_⟩⟩
    · exact readmitTile_passes hwf h hlen htile hserves hd hoff hlisted
    · exact readmitTile_fails hwf h hlen htile hserves hd
  · intro h hlen htile hflags hd hspare hfree q hphys
    refine ⟨setDuplex_waits h hlen htile hflags hd hspare hfree hphys, fun hidle hcatch => ?_⟩
    obtain ⟨t, heq, hanswer, hpartner, d, hpair, hprimary, hsecond, hauto⟩ :=
      setDuplex_pairs hwf h hlen htile hflags hd hspare hfree hphys hidle hcatch
    refine ⟨t, heq, hanswer, hpartner, d, hpair, hprimary, hsecond, hauto.trans ?_⟩
    rw [bitAt, Nat.pow_zero, Nat.div_one]
    rfl
  · intro h hlen htile hflags d hd
    exact setDuplex_unpairs hwf h hlen htile hflags hd
  · intro h hlen
    refine ⟨fun hl _ => ⟨_, sendOff_device h hlen hl, State.selfSendOff_holds _ _⟩, ?_, ?_⟩
    · intro htile hserves hd
      exact sendOff_spare hwf h hlen htile hd hserves
    · intro htile hd j hserves hphys _ q hq _ hbad hport
      exact sendOff_mapped hwf h hlen htile hd hserves hphys hq hbad hport

end Sys2Proof.Machine
end

section
/-! What a fault report leaves to read: the source that fired and the newest record, and how a fence changes the free
spares (R257, R314, R324, R332). -/

namespace Sys2Proof.Machine
open Sys2Proof.Safety

/-! ### The source that fired -/

/-- A firing counts, marks the source as fired, and is pending where the source has a target (R257, R258). -/
theorem Src.eq_fire {v w : Src} (h : w = v.fire) :
    w.fires = v.fires + 1 ∧ w.fired = true ∧ w.pend = (v.pend || decide (v.kind ≠ 0)) := by
  subst h
  refine ⟨rfl, rfl, ?_⟩
  by_cases hk : v.kind = 0 <;> simp [Src.fire, hk]

theorem State.report_src_self {s : State} (hrun : s.power.st = .run) {source : Nat}
    (hs : reservedSource source = false) (unit logical action arg : Nat) :
    (s.report source unit logical action arg).src source = (s.src source).fire := by
  unfold State.report
  rw [State.fire_src_self (by exact hrun) hs, State.logFault_src]

/-! ### The newest record -/

/-- The newest record of the fault log is the one just appended, whatever caps it names (R324). -/
theorem State.logAs_logged (s : State) (late : Bool) (source unit logical oldCap newCap action arg : Nat) :
    Logged (s.logAs late source unit logical oldCap newCap action arg) source unit logical action arg := by
  unfold State.logAs Logged
  dsimp only
  split
  · next hfull =>
    have hone : 1 ≤ s.aon.log.length := by simp at hfull; omega
    rw [List.drop_append_of_le_length hone, List.getLast?_concat]
    exact ⟨_, rfl, rfl, rfl, rfl, rfl, rfl⟩
  · rw [List.getLast?_concat]
    exact ⟨_, rfl, rfl, rfl, rfl, rfl, rfl⟩

/-! ### The bench -/

/-- Where the free spares neither fall to 4 nor run out, nothing is reported (R332). -/
theorem State.noteBench_quiet {s : State} {n : Nat} (hlow : ¬ (4 < n ∧ s.freeSpares.length ≤ 4))
    (hnone : ¬ (0 < n ∧ s.freeSpares.length = 0)) : s.noteBench n = s := by
  unfold State.noteBench
  dsimp only
  rw [if_neg hlow, if_neg hnone]

theorem State.fence_isFreeSpare (s : State) (p q : Nat) : (s.fence p).isFreeSpare q = (q != p && s.isFreeSpare q) := by
  unfold State.fence
  split
  · next hfenced =>
    by_cases hq : q = p
    · subst hq
      simp [State.isFreeSpare, hfenced]
    · simp [hq]
  · by_cases hq : q = p <;>
      simp [State.isFreeSpare, State.isFenced, State.logicalOf, State.duplexOf, hq, Bool.and_comm, Bool.and_left_comm]

/-- A fence takes its tile from the free spares, and no other. -/
theorem State.fence_freeSpares (s : State) (p : Nat) : (s.fence p).freeSpares = s.freeSpares.erase p := by
  have hnodup : s.freeSpares.Nodup := List.nodup_range.filter _
  rw [hnodup.erase_eq_filter, State.freeSpares, State.freeSpares, List.filter_filter]
  exact List.filter_congr fun q _ => s.fence_isFreeSpare p q

/-- The fence of a tile that is no free spare, or one of more than five, is not reported as a shortage (R332). -/
theorem State.withBench_fence_quiet (s : State) {p : Nat} (h : s.isFreeSpare p = false ∨ 5 < s.freeSpares.length) :
    s.withBench (·.fence p) = s.fence p := by
  have hlen : (s.fence p).freeSpares.length = if p ∈ s.freeSpares then s.freeSpares.length - 1 else s.freeSpares.length := by
    rw [State.fence_freeSpares, List.length_erase]
  have hbound : (s.fence p).freeSpares.length = s.freeSpares.length ∨
      5 < s.freeSpares.length ∧ (s.fence p).freeSpares.length = s.freeSpares.length - 1 := by
    split at hlen
    · next hmem =>
      have hfree : s.isFreeSpare p = true := (List.mem_filter.mp hmem).2
      exact .inr ⟨h.resolve_left (by simp [hfree]), hlen⟩
    · exact .inl hlen
  change (s.fence p).noteBench s.freeSpares.length = s.fence p
  exact State.noteBench_quiet (by omega) (by omega)

end Sys2Proof.Machine
end

section
/-! What a stall or an invalid code leads to at a tile, a DMA mover and a crossing (R52, R315 to R318). -/

namespace Sys2Proof.Machine
open Sys2Proof.Safety

/-! ### A tile that serves nothing -/

theorem State.planFor_spare {s : State} {p : Nat} (hd : s.duplexOf p = none) (hl : s.logicalOf p = none) :
    s.planFor p = (0, 0, 0) := by
  rw [State.planFor, hd]
  dsimp only
  rw [hl]

theorem State.identOf_single {s : State} {p : Nat} (hd : s.duplexOf p = none) : s.identOf p = s.logicalOf p := by
  unfold State.identOf
  rw [hd]
  cases s.logicalOf p <;> rfl

/-- The report of a fault of a tile that serves nothing: no action follows but the fence (R324, R325). -/
theorem State.reportTile_spare (s : State) {p : Nat} (hrun : s.power.st = .run) (hd : s.duplexOf p = none)
    (hl : s.logicalOf p = none) {source : Nat} (hs : reservedSource source = false) (arg : Nat) :
    ∃ t, s.reportTile source p arg = t ∧ t.gates = s.gates ∧ t.power = s.power ∧
      t.src source = (s.src source).fire ∧ Logged t source p 0xFFFF 0 arg := by
  unfold State.reportTile
  dsimp only
  rw [State.planFor_spare hd hl, State.identOf_single hd, hl]
  refine ⟨_, rfl, State.fire_gates .., State.fire_power (by exact hrun) _, ?_, ?_⟩
  · rw [State.fire_src_self (by exact hrun) hs]
    rfl
  · exact logged_congr (s.logAs_logged ..) (State.fire_aon ..)

theorem State.portDies_frame (s : State) (p : Nat) (dead : Bool) : ∃ f, s.portDies p dead = { s with faults := f } := by
  unfold State.portDies
  split <;> exact ⟨_, rfl⟩

theorem State.tileFails_spare_eq {s : State} {p : Nat} (hd : s.duplexOf p = none) (hl : s.logicalOf p = none) :
    s.tileFails p = s.withBench (·.fence p) := by
  rw [State.tileFails, hd]
  dsimp only
  rw [hl]

/-- A stall or an invalid code fences a tile that serves nothing, and source 1 reports it (R315, R318). -/
theorem State.unitFails_tile (s : State) {p : Nat} (port : Bool) (arg : Nat) (hrun : s.power.st = .run)
    (hd : s.duplexOf p = none) (hl : s.logicalOf p = none) :
    ∃ t, s.unitFails (.tile p port) arg = t ∧ t.isFenced p = true ∧ t.src 1 = (s.src 1).fire ∧
      (s.isFreeSpare p = false ∨ 5 < s.freeSpares.length → Logged t 1 p 0xFFFF 0 arg) := by
  obtain ⟨f, hport⟩ := s.portDies_frame p port
  obtain ⟨u, hu, hgates, hpower, hsrc, hlogged⟩ :=
    State.reportTile_spare { s with faults := f } hrun hd hl (source := 1) rfl arg
  have hfree : u.isFreeSpare = s.isFreeSpare := by
    funext q
    simp only [State.isFreeSpare, State.logicalOf, State.isFenced, State.duplexOf, hgates]
  have hspares : u.freeSpares = s.freeSpares := by rw [State.freeSpares, hfree, State.freeSpares]
  have hdu : u.duplexOf p = none := by rw [State.duplexOf, hgates]; exact hd
  have hlu : u.logicalOf p = none := by rw [State.logicalOf, hgates]; exact hl
  obtain ⟨k, o, hfence⟩ := u.fence_frame p
  have heq : s.unitFails (.tile p port) arg = (u.fence p).noteBench u.freeSpares.length := by
    change ((s.portDies p port).reportTile 1 p arg).tileFails p = _
    rw [hport, hu, State.tileFails_spare_eq hdu hlu]
    rfl
  obtain ⟨-, hgates', -, -, hkept⟩ := (u.fence p).noteBench_frame u.freeSpares.length
  obtain ⟨-, hsrc'⟩ := hkept (by rw [hfence]; exact (congrArg Power.st hpower).trans hrun)
  refine ⟨_, heq, ?_, ?_, fun hbench => ?_⟩
  · rw [State.isFenced, hgates']
    exact u.fence_isFenced p
  · rw [hsrc' 1 (by decide), hfence]
    exact hsrc
  · have hquiet : (u.fence p).noteBench u.freeSpares.length = u.fence p :=
      u.withBench_fence_quiet (by rwa [hfree, hspares])
    rw [hquiet]
    exact logged_congr hlogged (by rw [hfence])

/-! ### A DMA mover -/

/-- Of a channel, serving another one no longer changes only whether it stands pre-empted (R251). -/
theorem State.unpreempt_chan (s : State) (ch k : Nat) :
    ∃ b, (s.unpreempt ch).chan k = { s.chan k with preempted := b } := by
  unfold State.unpreempt
  refine List.foldlRecOn (motive := fun u => ∃ b, State.chan u k = { s.chan k with preempted := b }) _ _ ⟨_, rfl⟩ ?_
  rintro u ⟨b, hb⟩ j -
  dsimp only
  by_cases hk : k = ch / 8 * 8 + j
  · subst hk
    rw [State.setChan_chan, hb]
    exact ⟨_, rfl⟩
  · rw [State.setChan_chan_ne _ _ hk, hb]
    exact ⟨_, rfl⟩

/-- A channel that has been reset (R253). -/
def Chan.WasReset (c : Chan) : Prop := c.busy = false ∧ c.last = 0x92

/-- A channel reset resets its channel, and leaves a channel that has been reset so (R253). -/
theorem State.chanReset_wasReset (s : State) (ch k : Nat) (h : k = ch ∨ (s.chan k).WasReset) :
    ((s.chanReset ch).chan k).WasReset := by
  unfold State.chanReset
  dsimp only
  rw [State.fireIf_chan]
  obtain ⟨b, hb⟩ := State.unpreempt_chan (State.setDmaE _ _ _) ch k
  rw [hb, State.setDmaE_chan]
  by_cases hk : k = ch
  · subst hk
    rw [State.setChan_chan]
    exact ⟨rfl, rfl⟩
  · rw [State.setChan_chan_ne _ _ hk]
    exact h.resolve_left hk

/-- The fence of a DMA engine: its channels are reset (R318). -/
theorem State.fenceMover_fences (s : State) (e : Nat) :
    ((s.fenceMover e).dmaE e).fenced = true ∧ ∀ c < 8, ((s.fenceMover e).chan (8 * e + c)).WasReset := by
  have upTo (n : Nat) : ∀ c < n, (((List.range n).foldl (fun v k => v.chanReset (8 * e + k)) s).chan (8 * e + c)).WasReset := by
    induction n with
    | zero => nofun
    | succ n ih =>
      intro c hc
      rw [List.range_succ, List.foldl_append, List.foldl_cons, List.foldl_nil]
      refine State.chanReset_wasReset _ _ _ ?_
      by_cases hcn : c = n
      · exact .inl (by rw [hcn])
      · exact .inr (ih c (by omega))
  unfold State.fenceMover
  dsimp only
  refine ⟨by rw [State.setDmaE_dmaE], fun c hc => ?_⟩
  rw [State.setDmaE_chan]
  exact upTo 8 c hc

/-- Outside a management restart a mover that stalls has its engine fenced at once (R318). -/
theorem State.unitFails_mover {s : State} (hr : s.mgmt.restarting = false) (e arg : Nat) :
    s.unitFails (.dmaMover e) arg = ((s.logAs false 2 (0x8000 + 18) 0xFFFF 0 0 0 arg).fire 2).fenceMover e := by
  simp only [State.unitFails, hr, Bool.false_eq_true, if_false]

/-! ### A crossing -/

/-- What a report touches tells no request that waits at a crossing from another. -/
theorem State.report_forIsland (s : State) (a b c d e i : Nat) : (s.report a b c d e).forIsland i = s.forIsland i := by
  funext m
  simp [State.forIsland, State.intoIsland, State.islandRuns, State.deadAt, State.device]

/-- The accesses that wait at a crossing that stalls end with ERROR 0x85, and nothing of the array changes (R52). -/
theorem State.unitFails_crossing (s : State) (i arg : Nat) (hrun : s.power.st = .run) :
    ∃ t, s.unitFails (.crossing i) arg = t ∧ t.src 2 = (s.src 2).fire ∧
      Logged t 2 0x8016 0xFFFF 0 (arg + 2 * i) ∧ t.tiles = s.tiles ∧ t.gates = s.gates ∧
      t.flight = s.flight.filter (fun m => !s.forIsland i m) ∧
      t.replies = s.replies ++ (s.flight.filter (s.forIsland i)).map fun m => merr m 0x85 := by
  change ∃ t, (s.report 2 crossUnit 0xFFFF 0 (arg + 2 * i)).abortCrossing i = t ∧ _
  unfold State.abortCrossing
  rw [State.report_forIsland]
  refine ⟨_, rfl, ?_, ?_, State.report_tiles .., State.report_gates .., ?_, ?_⟩
  · exact State.report_src_self hrun rfl ..
  · exact s.report_logged ..
  · dsimp only
    rw [State.report_flight]
  · dsimp only
    rw [State.report_flight, State.report_replies]

/-! ### The commands -/

theorem State.inHold_eq_false {s : State} (h : s.faults.held = []) : s.inHold = false := by
  rw [State.inHold, h]
  rfl

theorem State.mayStall_tile {s : State} (hrun : s.power.st = .run) (hhold : s.inHold = false) {p : Nat} (port : Bool)
    (ht : (s.tile p).run = .running) (hfrost : s.dbgBlock.frost = false) : s.mayStall (.tile p port) = true := by
  simp [State.mayStall, hrun, hhold, ht, hfrost]

theorem exec_lineJudgeStall {s : State} {u : StallUnit} (hu : stallExists u = true) (hmay : s.mayStall u = true) :
    exec (.lineJudgeStall u) s = .next (s.unitFails u 0) := by
  change execLineJudgeStall u s = _
  rw [execLineJudgeStall, hu, hmay]
  rfl

theorem exec_invalidCode {s : State} {u : StallUnit} (hu : stallExists u = true) (hmay : s.mayStall u = true) :
    exec (.invalidCode u) s = .next (s.unitFails u 1) := by
  change execInvalidCode u s = _
  rw [execInvalidCode, hu, hmay]
  rfl

end Sys2Proof.Machine
end

section
/-! The response limits: a request that has no response in time ends with 0x85 at its requester (R157, R170, R317, R318). -/

namespace Sys2Proof.Machine
open Sys2Proof.Safety

/-! ### The report of the target -/

/-- The source that reports a target without a response: 1 for a tile of this device, 2 for any other unit (R318). -/
def State.lateSource (s : State) (target : Nat) : Nat :=
  if target / 2 ^ 34 = s.device ∧ target / 2 ^ 32 % 4 = 0 then 1 else 2

theorem State.targetOf_source (s : State) (target : Nat) : (s.targetOf target).1 = s.lateSource target := by
  unfold State.targetOf State.lateSource
  split_ifs <;> first | rfl | omega

/-- The report of a late target fires its source (R318). -/
theorem State.reportLate_src {s : State} (hrun : s.power.st = .run) (target tag : Nat) :
    (s.reportLate target tag).src (s.lateSource target) = (s.src (s.lateSource target)).fire := by
  unfold State.reportLate
  rw [← State.targetOf_source]
  refine State.report_src_self hrun ?_ ..
  rw [State.targetOf_source, State.lateSource]
  split <;> rfl

theorem State.late_eq {s : State} {target since : Nat}
    (h : (if target / 2 ^ 34 = s.device then s.boot.bootRec.stallResp else 10000) ≤ (s.now - since) / 200) :
    s.late target since = true := decide_eq_true h

theorem State.dropRemote_frame (s : State) (srcId srcPhys tag : Nat) :
    ∃ f, s.dropRemote srcId srcPhys tag = s.setFabric f := ⟨_, rfl⟩

/-! ### A tile -/

theorem State.roleOf_of_duplexOf_none {s : State} {p : Nat} (hd : s.duplexOf p = none) :
    s.roleOf p = .single ∨ ∃ d, s.roleOf p = .catchUp d := by
  rw [State.roleOf, hd]
  dsimp only
  split
  · exact .inr ⟨_, rfl⟩
  · exact .inl rfl

/-- Outside a pair no gate takes note of a request that ends (R335, R337). -/
theorem State.finishAt_single {s : State} {p : Nat} (hd : s.duplexOf p = none) (tag status : Nat) :
    s.finishAt p tag status = s.setTile p ((s.tile p).finish tag status) := by
  have hrole := State.roleOf_of_duplexOf_none (s := s.setTile p ((s.tile p).finish tag status)) hd
  have hfailure : (s.setTile p ((s.tile p).finish tag status)).noteFailure p tag status =
      s.setTile p ((s.tile p).finish tag status) := by
    unfold State.noteFailure
    rcases hrole with h | ⟨_, h⟩ <;> rw [h]
  rw [State.finishAt, hfailure, State.noteDone]
  rcases hrole with h | ⟨_, h⟩ <;> rw [h]

theorem State.tileLate_ends {s : State} {p tag : Nat} {r : SendReq} (hrun : s.power.st = .run)
    (hr : (s.tile p).outstanding tag = some r) (hd : s.duplexOf p = none) (hlate : s.late r.target r.since = true) :
    ∃ t, s.tileLate p tag = t ∧ t.tile p = (s.tile p).finish tag 0x85 ∧
      t.src (s.lateSource r.target) = (s.src (s.lateSource r.target)).fire := by
  obtain ⟨f, hdrop⟩ := s.dropRemote_frame (s.ownerOf p) p tag
  have hfinish : (s.setFabric f).finishAt p tag 0x85 = (s.setFabric f).setTile p ((s.tile p).finish tag 0x85) :=
    State.finishAt_single (s := s.setFabric f) hd tag 0x85
  unfold State.tileLate
  rw [hr]
  dsimp only
  rw [if_pos hlate, hdrop, hfinish]
  refine ⟨_, rfl, ?_, ?_⟩
  · rw [State.reportLate, State.report_tile]
    exact State.setTile_tile ..
  · exact State.reportLate_src (s := (s.setFabric f).setTile p _) hrun r.target tag

/-! ### A DMA channel -/

/-- A request that ends in error is no longer open, and the descriptor is to end with its status where nothing else has
ended it (R249). -/
theorem State.dmaErrored_ends (s : State) (ch tag status : Nat) :
    ∃ c, s.dmaErrored ch tag status = s.setChan ch c ∧ c.openReq tag = none ∧
      ((s.chan ch).phase ≠ .fetch → (s.chan ch).endSt = none → c.endSt = some status) := by
  have hnone (l : List DmaReq) : (l.filter fun u => u.msg.tag != tag).find? (fun u => u.msg.tag == tag) = none := by
    simp
  unfold State.dmaErrored State.dmaFail
  dsimp only
  rw [State.setChan_chan, State.setChan_setChan]
  refine ⟨_, rfl, ?_, fun hphase hend => ?_⟩
  · unfold Chan.openReq
    dsimp only
    cases hrd : (s.chan ch).rd with
    | none => exact hnone _
    | some u =>
      by_cases hu : u.msg.tag = tag
      · simp only [hu, Option.any_some, beq_self_eq_true, if_true]
        exact hnone _
      · simp only [hu, Option.any_some, beq_iff_eq, if_false]
        exact hnone _
  · dsimp only
    rw [if_neg hphase, hend]
    rfl

theorem State.dmaLate_ends {s : State} {e tag : Nat} {u : DmaReq} (hrun : s.power.st = .run)
    (hu : (s.chan (8 * e + tag % 8)).openReq tag = some u) (hlate : s.late (fullAddr u.msg) u.since = true) :
    ∃ t, s.dmaLate e tag = t ∧ (t.chan (8 * e + tag % 8)).openReq tag = none ∧
      (t.dmaE e).resting = (s.dmaE e).resting ++ [(tag, s.now)] ∧
      t.src (s.lateSource (fullAddr u.msg)) = (s.src (s.lateSource (fullAddr u.msg))).fire ∧
      ((s.chan (8 * e + tag % 8)).phase ≠ .fetch → (s.chan (8 * e + tag % 8)).endSt = none →
        (t.chan (8 * e + tag % 8)).endSt = some 0x85) := by
  obtain ⟨f, hdrop⟩ := s.dropRemote_frame u.msg.srcId 0x7FF tag
  obtain ⟨c, herr, hopen, hend⟩ := (s.setFabric f).dmaErrored_ends (8 * e + tag % 8) tag 0x85
  unfold State.dmaLate
  rw [hu]
  dsimp only
  rw [if_pos hlate, hdrop, herr]
  refine ⟨_, rfl, ?_, ?_, ?_, fun hphase hnone => ?_⟩
  · rw [State.reportLate, State.report_chan, State.setDmaE_chan, State.setChan_chan]
    exact hopen
  · rw [State.reportLate, State.report_dmaE, State.setDmaE_dmaE]
    rfl
  · refine State.reportLate_src (s := State.setDmaE _ _ _) ?_ _ _
    exact hrun
  · rw [State.reportLate, State.report_chan, State.setDmaE_chan, State.setChan_chan]
    exact hend hphase hnone

/-! ### The host port -/

/-- An error of the host port fires source 289, and a read is completed with ones (R27, R466). -/
theorem State.hostFails_ends (s : State) (q : HostReq) (hrun : s.power.st = .run) :
    ∃ t, s.hostFails q = t ∧ t.power = s.power ∧ t.boot = s.boot ∧ t.src 289 = (s.src 289).fire ∧
      (∀ n ≠ 289, t.src n = s.src n) ∧ t.host = { s.host with
        done := s.host.done ++
          (if q.msg.kind = .read then completions q.pcie q.off (List.replicate q.size 0xFF) else []) } := by
  obtain ⟨u, hu, hhost, hpower, hboot, hsrc, hother⟩ : ∃ u : State, s.hostError = u ∧ u.host = s.host ∧ u.power = s.power ∧
      u.boot = s.boot ∧ u.src 289 = (s.src 289).fire ∧ ∀ n ≠ 289, u.src n = s.src n :=
    ⟨_, rfl, State.fire_host .., State.fire_power (by exact hrun) _, State.fire_boot ..,
      State.fire_src_self (by exact hrun) rfl, fun n hn => State.fire_src_ne (by exact hrun) hn⟩
  unfold State.hostFails
  rw [hu]
  dsimp only
  split
  · exact ⟨_, rfl, hpower, hboot, hsrc, hother, by rw [State.hostData, hhost]⟩
  · exact ⟨_, rfl, hpower, hboot, hsrc, hother, by rw [hhost, List.append_nil]⟩

/-- The host port without the request that a tag names, whose tag rests (R170). -/
def State.hostForgets (s : State) (tag : Nat) : State :=
  { s with host := { s.host with
      outs := s.host.outs.filter fun x => x.msg.tag != tag, resting := s.host.resting ++ [(tag, s.now)] } }

theorem State.hostLate_eq {s : State} {tag : Nat} {q : HostReq}
    (hq : s.host.outs.find? (fun x => x.msg.tag == tag) = some q) (hlate : s.late (fullAddr q.msg) q.since = true) :
    s.hostLate tag =
      (((s.hostForgets tag).dropRemote 0x401 0x7FF tag).hostFails q).reportLate (fullAddr q.msg) tag := by
  unfold State.hostLate
  dsimp only
  rw [hq]
  exact if_pos hlate

theorem State.hostLate_ends {s : State} {tag : Nat} {q : HostReq} (hrun : s.power.st = .run)
    (hq : s.host.outs.find? (fun x => x.msg.tag == tag) = some q) (hlate : s.late (fullAddr q.msg) q.since = true) :
    ∃ t, s.hostLate tag = t ∧ t.src 289 = (s.src 289).fire ∧
      t.src (s.lateSource (fullAddr q.msg)) = (s.src (s.lateSource (fullAddr q.msg))).fire ∧
      t.host.outs = s.host.outs.filter (fun x => x.msg.tag != tag) ∧
      t.host.resting = s.host.resting ++ [(tag, s.now)] ∧
      t.host.done = s.host.done ++
        (if q.msg.kind = .read then completions q.pcie q.off (List.replicate q.size 0xFF) else []) := by
  have hsource : s.lateSource (fullAddr q.msg) ≠ 289 := by
    unfold State.lateSource
    split <;> decide
  obtain ⟨f, hdrop⟩ := (s.hostForgets tag).dropRemote_frame 0x401 0x7FF tag
  obtain ⟨u, hu, hpower, hboot, h289, hother, hhost⟩ := ((s.hostForgets tag).setFabric f).hostFails_ends q hrun
  have hrun' : u.power.st = .run := (congrArg Power.st hpower).trans hrun
  have hsame : u.lateSource (fullAddr q.msg) = s.lateSource (fullAddr q.msg) := by
    rw [State.lateSource, State.device, hboot]
    rfl
  have hreport := u.reportLate_src hrun' (fullAddr q.msg) tag
  rw [hsame] at hreport
  rw [State.hostLate_eq hq hlate, hdrop, hu]
  refine ⟨_, rfl, ?_, ?_, ?_, ?_, ?_⟩
  · rw [State.reportLate, State.report_src_ne hrun' (by rw [State.targetOf_source, hsame]; exact hsource.symm)]
    exact h289
  · rw [hreport, hother _ hsource]
    rfl
  all_goals
    rw [State.reportLate, State.report_host, hhost]
    rfl

/-! ### The link hub -/

/-- A packet that leaves changes its port and what has been sent (R347, R350). -/
theorem State.routeOut_frame (s : State) (inP : Option Nat) (k : Packet) : ∃ ports sent,
    (s.routeOut inP k).1 = { s with fabric := { s.fabric with ports := ports, sent := sent } } := by
  unfold State.routeOut
  dsimp only
  split
  · exact ⟨_, _, rfl⟩
  · exact ⟨_, _, rfl⟩

theorem State.hubLate_ends {s : State} {tag : Nat} {x : HubServe}
    (hx : s.fabric.serving.find? (fun y => y.tag == tag) = some x)
    (hlate : s.late (fullAddr (s.hubMsg x.packet tag ((s.localAddr x.packet).getD 0))) x.since = true) :
    ∃ t, s.hubLate tag = t ∧ t.fabric.hubResting = s.fabric.hubResting ++ [(tag, s.now)] ∧
      t.fabric.serving = s.fabric.serving.filter fun y => y.tag != x.tag := by
  obtain ⟨ports, sent, hroute⟩ := State.routeOut_frame
    (s.setFabric { s.fabric with serving := s.fabric.serving.filter fun y => y.tag != x.tag }) none
    ((s.setFabric { s.fabric with serving := s.fabric.serving.filter fun y => y.tag != x.tag }).rspPacket x.packet 0xA 0x85 [])
  have hanswer : s.hubAnswer x 0x85 [] = { s with fabric := { s.fabric with
      serving := s.fabric.serving.filter fun y => y.tag != x.tag, ports := ports, sent := sent } } := hroute
  unfold State.hubLate
  rw [hx]
  dsimp only
  rw [if_pos hlate, hanswer]
  refine ⟨_, rfl, ?_, ?_⟩
  · rw [State.reportLate, State.report_fabric]
    rfl
  · rw [State.reportLate, State.report_fabric]
    rfl

/-! ### The event router -/

/-- A report leaves whether a delivery of a source is under way, and whether it is due to be sent again. -/
theorem State.report_retry_act {s : State} (hrun : s.power.st = .run) (n a b c d e : Nat) :
    ((s.report a b c d e).src n).retry = (s.src n).retry ∧ ((s.report a b c d e).src n).act = (s.src n).act := by
  by_cases hn : n = a
  · subst hn
    cases hres : reservedSource n
    · rw [State.report_src_self hrun hres]
      exact ⟨rfl, rfl⟩
    · rw [State.report, State.fire_reserved _ hres, State.logFault_src]
      exact ⟨rfl, rfl⟩
  · rw [State.report_src_ne hrun hn]
    exact ⟨rfl, rfl⟩

/-- An EVENT without a response is due to be sent again (R261). -/
theorem State.routerLate_resends {s : State} {n : Nat} (hrun : s.power.st = .run) (hact : (s.src n).act = true)
    (hkind : (s.src n).sentKind = 1) (hretry : (s.src n).retry = false)
    (hlate : s.late (s.device * 2 ^ 34 + (s.src n).sentTile * 65536) (s.src n).resentAt = true) :
    ∃ t, s.routerLate n = t ∧ (t.src n).retry = true ∧ (t.src n).act = true := by
  have hresend : s.deliveryError n 0x85 = s.setSrc n { s.src n with retry := true } := by
    simp [State.deliveryError, hact]
  have hdue : ((s.src n).act && (s.src n).sentKind == 1 && !(s.src n).retry &&
      s.late (s.device * 2 ^ 34 + (s.src n).sentTile * 65536) (s.src n).resentAt) = true := by
    rw [hact, hkind, hretry, hlate]
    rfl
  unfold State.routerLate
  dsimp only
  rw [if_pos hdue, hresend, State.reportLate]
  obtain ⟨hr, ha⟩ := State.report_retry_act (s := s.setSrc n { s.src n with retry := true }) hrun n _ _ _ _ _
  refine ⟨_, rfl, hr.trans ?_, ha.trans ?_⟩
  · rw [State.setSrc_src]
  · rw [State.setSrc_src]
    exact hact

/-! ### The command -/

section
variable {s : State} (hrun : s.power.st = .run) (hhold : s.inHold = false) (tag : Nat)
include hrun hhold

theorem exec_responseTimeout_tile {p : Nat} (hp : p < 1088) :
    exec (.responseTimeout (.tile p) tag) s = .next (s.tileLate p tag) := by
  simp [exec, execResponseTimeout, ok, when_, hrun, hhold, hp]

theorem exec_responseTimeout_dma {e : Nat} (he : e < 16) :
    exec (.responseTimeout (.dma e) tag) s = .next (s.dmaLate e tag) := by
  simp [exec, execResponseTimeout, ok, when_, hrun, hhold, he]

theorem exec_responseTimeout_host : exec (.responseTimeout .host tag) s = .next (s.hostLate tag) := by
  simp [exec, execResponseTimeout, ok, when_, hrun, hhold]

theorem exec_responseTimeout_hub : exec (.responseTimeout .hub tag) s = .next (s.hubLate tag) := by
  simp [exec, execResponseTimeout, ok, when_, hrun, hhold]

theorem exec_responseTimeout_router : exec (.responseTimeout .router tag) s = .next (s.routerLate tag) := by
  simp [exec, execResponseTimeout, ok, when_, hrun, hhold]

end

end Sys2Proof.Machine
end

section
/-! The scrubber, the referee and the lockstep pair (R319 to R321), and the statement on fault reports. -/

namespace Sys2Proof.Machine
open Sys2Proof.Safety

/-! ### The scrubber (R319) -/

/-- The corrections of a word that still count (R319). -/
def State.nearFixes (s : State) (l : List Nat) : List Nat := l.filter fun t => decide (s.wall < t + 120000000000)

theorem State.length_fixTimes (s : State) (l : List Nat) :
    (fixTimes s.wall l).length = (s.nearFixes l).length + 1 := List.length_cons

/-- Up to two corrections of a word within ten minutes are only counted (R319). -/
theorem State.scrubFix_counts {s : State} {p word : Nat}
    (hfew : (s.nearFixes (tget [] word (s.tile p).fixes)).length < 2) :
    s.scrubFix (.tile p) word = s.setTile p { s.tile p with
      fixes := tput word (s.wall :: s.nearFixes (tget [] word (s.tile p).fixes)) (s.tile p).fixes } := by
  have hlen : ¬ 3 ≤ (fixTimes s.wall (tget [] word (s.tile p).fixes)).length := by
    rw [State.length_fixTimes]
    omega
  simp only [State.scrubFix, if_neg hlen]
  rfl

/-- A third correction within ten minutes is a hard bit, reported for a tile that serves nothing (R319). -/
theorem State.scrubFix_reports {s : State} {p word : Nat} (hrun : s.power.st = .run)
    (hmany : 2 ≤ (s.nearFixes (tget [] word (s.tile p).fixes)).length) (hd : s.duplexOf p = none)
    (hl : s.logicalOf p = none) :
    ∃ t, s.scrubFix (.tile p) word = t ∧ t.src 5 = (s.src 5).fire ∧ Logged t 5 p 0xFFFF 1 (4 * word) := by
  have hlen : 3 ≤ (fixTimes s.wall (tget [] word (s.tile p).fixes)).length := by
    rw [State.length_fixTimes]
    omega
  simp only [State.scrubFix, if_pos hlen, State.planFor_spare hd hl, State.identOf_single hd, hl, if_true]
  generalize hv : State.fire _ 5 = v
  have hgates : v.gates = s.gates := by
    rw [← hv]
    exact State.fire_gates ..
  rw [show v.duplexOf p = none by rw [State.duplexOf, hgates]; exact hd]
  dsimp only
  rw [show v.logicalOf p = none by rw [State.logicalOf, hgates]; exact hl]
  refine ⟨v, rfl, ?_, ?_⟩ <;> rw [← hv]
  · rw [State.fire_src_self (by exact hrun) rfl]
    rfl
  · exact logged_congr (State.logAs_logged ..) (State.fire_aon ..)

/-- An uncorrectable word of a tile outside a pair is kept as bad and reported (R319). -/
theorem State.scrubBad_tile {s : State} {p : Nat} (word : Nat) (hrun : s.power.st = .run) (hd : s.duplexOf p = none) :
    ∃ t, s.scrubBad (.tile p) word = t ∧ t.src 6 = (s.src 6).fire ∧ word ∈ (t.tile p).bad ∧
      Logged t 6 p ((s.logicalOf p).getD 0xFFFF) 0 (4 * word) ∧ (t.tile p).mem = (s.tile p).mem ∧ t.gates = s.gates := by
  unfold State.scrubBad
  dsimp only
  rw [hd, State.identOf_single hd]
  refine ⟨_, rfl, State.report_src_self (by exact hrun) rfl .., ?_, State.report_logged .., ?_, State.report_gates ..⟩
  · rw [State.report_tile, State.setTile_tile]
    dsimp only
    split
    · next h => simpa using h
    · exact List.mem_cons_self
  · rw [State.report_tile, State.setTile_tile]

/-- An uncorrectable word of model memory is kept as bad, and source 8 reports it (R234, R319). -/
theorem State.scrubBad_model {s : State} (word : Nat) (hrun : s.power.st = .run) :
    ∃ t, s.scrubBad .model word = t ∧ t.src 8 = (s.src 8).fire ∧ word ∈ t.engine.bad ∧
      t.engine.eccAddr = 4 * word ∧ t.engine.err = s.engine.err ||| 0x20 := by
  unfold State.scrubBad
  dsimp only
  refine ⟨_, rfl, State.report_src_self (by exact hrun) rfl .., ?_, ?_, ?_⟩ <;> rw [State.report_engine]
  · change word ∈ if s.engine.bad.contains word then s.engine.bad else word :: s.engine.bad
    split
    · next h => simpa using h
    · exact List.mem_cons_self
  · rfl
  · rfl

theorem exec_scrubVisit {s : State} {m : ScrubMem} {word : Nat} (hm : scrubExists m word = true)
    (hs : s.running = true) (single : Bool) :
    exec (.scrubVisit m word single) s = .next (if single then s.scrubFix m word else s.scrubBad m word) := by
  change execScrubVisit m word single s = _
  rw [execScrubVisit, hm, hs]
  rfl

/-! ### The referee (R320) -/

/-- A copy that is outvoted is reported; the third time within an hour it is disabled (R320). -/
theorem refereeOutvote_reports {s : State} (k : Fin 3) (hrun : s.power.st = .run) (hlive : s.live = true)
    (hd : s.faults.disabled = []) :
    ∃ t, exec (.refereeOutvote k) s = .next t ∧ t.src 0 = (s.src 0).fire ∧ Logged t 0 0xFFFF 0xFFFF 1 k.val ∧
      (t.faults.disabled = [k.val] ↔
        2 ≤ ((tget [] k.val s.faults.outvoted).filter fun t0 => decide (s.wall < t0 + 720000000000)).length) := by
  change ∃ t, execRefereeOutvote k s = .next t ∧ _
  simp only [execRefereeOutvote, ok, when_, hd, hlive, List.isEmpty_nil, Bool.and_self, if_true]
  refine ⟨_, rfl, State.report_src_self (by exact hrun) rfl .., State.report_logged .., ?_⟩
  rw [State.report_faults]
  simp only [List.length_cons, decide_eq_true_eq]
  split
  · next h => exact iff_of_true rfl (by omega)
  · next h => exact iff_of_false nofun (by omega)

/-! ### The lockstep pair (R321) -/

/-- A management restart, whether it begins or is absorbed, leaves when the last mismatch came. -/
theorem State.mgmtRestart_lastMismatch (s : State) (other : Bool) :
    (s.mgmtRestart other).faults.lastMismatch = s.faults.lastMismatch := by
  obtain ⟨hends, -⟩ := s.abortAllMbx_ends
  unfold State.mgmtRestart
  split
  · rfl
  · split
    · rfl
    · generalize s.abortAllMbx = u at hends
      obtain ⟨_, _, _, _, _, _, _, _, rfl⟩ := hends
      rfl

/-- A mismatch is remembered, and restarts the firmware, from the other bank where the last one came within 60 s
(R321). -/
theorem lockstepMismatch_restarts {s : State} (hrun : s.power.st = .run) (hlive : s.live = true) :
    ∃ t, exec .lockstepMismatch s = .next t ∧ t.faults.lastMismatch = some s.wall ∧
      (s.mgmt.up = true → s.mgmt.restarting = false →
        t.mgmt.up = false ∧ t.mgmt.restarting = true ∧ t.mgmt.mem = [] ∧ t.mgmt.restartAt = s.now ∧
        t.mgmt.otherBank = (s.faults.lastMismatch.any fun t0 => decide (s.wall < t0 + 12000000000)) ∧
        t.tiles = s.tiles ∧ t.fio = s.fio) := by
  obtain ⟨other, hother⟩ : ∃ b, b = s.faults.lastMismatch.any fun t0 => decide (s.wall < t0 + 12000000000) := ⟨_, rfl⟩
  obtain ⟨u, hu, hmgmt, hnow, htiles, hfio, hlast⟩ : ∃ u : State,
      exec .lockstepMismatch s = .next (u.mgmtRestart other) ∧ u.mgmt = s.mgmt ∧ u.now = s.now ∧ u.tiles = s.tiles ∧
        u.fio = s.fio ∧ u.faults.lastMismatch = some s.wall := by
    refine ⟨State.report { s with faults := { s.faults with lastMismatch := some s.wall } } 9 0xFFFF 0xFFFF
      (if other then 8 else 7) 0, ?_, State.report_mgmt .., State.report_now .., State.report_tiles ..,
      State.report_fio .., ?_⟩
    · change execLockstepMismatch s = _
      simp only [execLockstepMismatch, ok, when_, hlive, hrun, beq_self_eq_true, Bool.and_self, if_true, hother]
    · rw [State.report_faults]
  refine ⟨_, hu, (u.mgmtRestart_lastMismatch other).trans hlast, fun hup hrestarting => ?_⟩
  obtain ⟨t, rfl, hr, hdown, hmem, hat, hbank, ht, -, -, -, hf, -⟩ :=
    u.mgmtRestart_begins other (by rw [hmgmt, hup]) (by rw [hmgmt, hrestarting])
  exact ⟨hdown, hr, hmem, hat.trans hnow, hbank.trans hother, ht.trans htiles, hf.trans hfio⟩

/-! ### The statement -/

/-- Settles O36. -/
theorem faultReports : Obligations.FaultReports := by
  unfold Obligations.FaultReports
  intro p e i tag word port k s hp he hi hword hrun _ hheld m fired near bench late source full ch waits
  have hhold := State.inHold_eq_false hheld
  have hrunning : s.running = true := State.running_iff.mpr ⟨hrun, hhold⟩
  have hlive := State.live_of_running hrunning
  have hscrub : scrubExists (.tile p) word = true := by simp [scrubExists, hp, hword]
  refine ⟨?_, ?_, ?_, ?_, ?_, ?_, ?_, ?_, ?_, ?_, ?_, ?_, ?_, lockstepMismatch_restarts hrun hlive⟩
  · intro ht hfrost hd hl
    have hmay := State.mayStall_tile hrun hhold port ht hfrost
    have hexists : stallExists (.tile p port) = true := decide_eq_true hp
    refine ⟨?_, ?_⟩
    · obtain ⟨t, rfl, hfenced, hsrc, hlogged⟩ := s.unitFails_tile port 0 hrun hd hl
      exact ⟨_, exec_lineJudgeStall hexists hmay, hfenced, Src.eq_fire hsrc, hlogged⟩
    · obtain ⟨t, rfl, hfenced, hsrc, hlogged⟩ := s.unitFails_tile port 1 hrun hd hl
      exact ⟨_, exec_invalidCode hexists hmay, hfenced, Src.eq_fire hsrc, hlogged⟩
  · intro hrestarting
    refine ⟨_, exec_lineJudgeStall (decide_eq_true he) (by simp [State.mayStall, hrun, hhold]), ?_⟩
    rw [State.unitFails_mover hrestarting]
    exact State.fenceMover_fences _ e
  · obtain ⟨t, rfl, hsrc, hlogged, htiles, hgates, hflight, hreplies⟩ := s.unitFails_crossing i 0 hrun
    rw [Nat.zero_add] at hlogged
    exact ⟨_, exec_lineJudgeStall (decide_eq_true hi) (by simp [State.mayStall, hrun, hhold]), Src.eq_fire hsrc,
      hlogged, htiles, hgates, hflight, hreplies⟩
  · intro r hr hd hlate
    obtain ⟨t, rfl, htile, hsrc⟩ := State.tileLate_ends hrun hr hd (State.late_eq hlate)
    exact ⟨_, exec_responseTimeout_tile hrun hhold tag hp, htile, Src.eq_fire hsrc⟩
  · intro u hu hlate
    obtain ⟨t, rfl, hopen, hresting, hsrc, hend⟩ := State.dmaLate_ends hrun hu (State.late_eq hlate)
    exact ⟨_, exec_responseTimeout_dma hrun hhold tag he, hopen, hresting, Src.eq_fire hsrc, hend⟩
  · intro q hq hlate
    obtain ⟨t, rfl, h289, hsrc, hhost⟩ := State.hostLate_ends hrun hq (State.late_eq hlate)
    exact ⟨_, exec_responseTimeout_host hrun hhold tag, Src.eq_fire h289, Src.eq_fire hsrc, hhost⟩
  · intro x hx hlate
    obtain ⟨t, rfl, hhub⟩ := State.hubLate_ends hx (State.late_eq hlate)
    exact ⟨_, exec_responseTimeout_hub hrun hhold tag, hhub⟩
  · intro hact hkind hretry hlate
    obtain ⟨t, rfl, hresend⟩ := State.routerLate_resends hrun hact hkind hretry (State.late_eq hlate)
    exact ⟨_, exec_responseTimeout_router hrun hhold tag, hresend⟩
  · intro _ hfew
    rw [exec_scrubVisit hscrub hrunning, if_pos rfl, State.scrubFix_counts hfew]
    rfl
  · intro hd hmany hl
    obtain ⟨t, rfl, hsrc, hlogged⟩ := State.scrubFix_reports hrun hmany hd hl
    exact ⟨_, exec_scrubVisit hscrub hrunning true, Src.eq_fire hsrc, hlogged⟩
  · intro hd
    obtain ⟨t, rfl, hsrc, hkept⟩ := State.scrubBad_tile word hrun hd
    exact ⟨_, exec_scrubVisit hscrub hrunning false, Src.eq_fire hsrc, hkept⟩
  · obtain ⟨t, rfl, hsrc, hkept⟩ := State.scrubBad_model word hrun
    exact ⟨_, exec_scrubVisit (m := .model) (decide_eq_true (by omega)) hrunning false, Src.eq_fire hsrc, hkept⟩
  · intro hd
    obtain ⟨t, ht, hsrc, hvotes⟩ := refereeOutvote_reports k hrun hlive hd
    exact ⟨t, ht, Src.eq_fire hsrc, hvotes⟩

end Sys2Proof.Machine
end

section
/-! Causes that hold the device in its restart, and the end of the last one (R46, R322, R323). -/

namespace Sys2Proof.Machine
open Sys2Proof.Safety

/-! ### Going down -/

/-- The causes that hold the device once `x` is one of them. -/
def heldWith (held : List HeldRestart) (x : HeldRestart) : List HeldRestart := if x ∈ held then held else held ++ [x]

theorem heldWith_ne_nil (held : List HeldRestart) (x : HeldRestart) : heldWith held x ≠ [] := by
  unfold heldWith
  split
  · next h => exact List.ne_nil_of_mem h
  · simp

theorem heldWith_eq (held : List HeldRestart) (x : HeldRestart) :
    (held ++ (some x).toList.filter fun w => !held.contains w) = heldWith held x := by
  unfold heldWith
  split
  · next h => simp [h]
  · next h => simp [h]

/-- A device restart that a cause holds: everything outside the always-on domain is Cold, and the firmware is down
(R11, R13, R323). -/
theorem State.deviceRestart_held (s : State) (x : HeldRestart) :
    s.deviceRestart (some x) = { s with faults := { s.faults with held := heldWith s.faults.held x } }.restartCore := by
  unfold State.deviceRestart
  dsimp only
  rw [heldWith_eq, if_neg (by simpa only [List.isEmpty_iff] using heldWith_ne_nil _ _)]

/-- What a device restart clears, and what it keeps outside the pins (R11, R13). -/
theorem State.restartCore_clears (s : State) :
    s.restartCore.faults.held = s.faults.held ∧ s.restartCore.aon = { s.aon with snapHi := 0 } ∧
      (s.restartCore.tiles = [] ∧ s.restartCore.mgmt.up = false ∧ s.restartCore.queues = [] ∧
        s.restartCore.flight = [] ∧ s.restartCore.pool = {}) ∧
      s.restartCore.fabric.beats = s.fabric.beats :=
  ⟨rfl, rfl, ⟨rfl, rfl, rfl, rfl, rfl⟩, rfl⟩

/-- Every up link port announces the send-off three times, 10 µs apart; nothing else but the mark of the send-off changes
(R363). -/
theorem State.announceOff_frame (s : State) : ∃ (beat : Nat → List Byte) (f : Faults), f.held = s.faults.held ∧
    s.announceOff = { s with
      faults := f
      fabric := { s.fabric with beats := s.fabric.beats ++ ([0, 2000, 4000].flatMap fun u =>
        s.fabric.upPorts.map fun q => (s.now + u, q, beat q)) } } :=
  ⟨_, { s.faults with sentSelfOff := true }, rfl, rfl⟩

theorem State.safeAll_frame (s : State) (c : SafeCause) : ∃ io, s.safeAll c = { s with fio := io } := ⟨_, rfl⟩

/-- Safe pins, the announcement and the device restart that `x` holds, which a loss of the majority, a supply fault and a
thermal trip have in common (R46, R322, R323). -/
def State.trip (s : State) (c : SafeCause) (x : HeldRestart) : State :=
  ((s.safeAll c).announceOff).deviceRestart (some x)

/-- A pin that a trip made safe stays so through the restart (R299, R300). -/
theorem Pin.mem_restart_hold (v : Pin) {c : SafeCause} (hc : c = .restart ∨ c = .thermal ∨ c = .sendOff) :
    c ∈ (v.hold c).restart.causes := by
  unfold Pin.restart
  rcases hc with rfl | rfl | rfl
  · exact Pin.mem_hold _ _
  · exact Pin.mem_hold_of_mem (List.mem_filter.mpr ⟨v.mem_hold _, rfl⟩) _
  · exact Pin.mem_hold_of_mem (List.mem_filter.mpr ⟨v.mem_hold _, rfl⟩) _

/-- What a trip leaves: the new cause, safe pins, the always-on domain, and three heartbeats on each link port (R363). -/
theorem State.trip_goesDown (s : State) {c : SafeCause} (x : HeldRestart)
    (hc : c = .restart ∨ c = .thermal ∨ c = .sendOff) :
    ∃ t, s.trip c x = t ∧ t.faults.held = heldWith s.faults.held x ∧ (∀ n < 96, c ∈ (t.pin n).causes) ∧
      t.aon = { s.aon with snapHi := 0 } ∧
      (t.tiles = [] ∧ t.mgmt.up = false ∧ t.queues = [] ∧ t.flight = [] ∧ t.pool = {}) ∧
      (t.fabric.beats.drop s.fabric.beats.length).map (fun b => (b.1, b.2.1)) =
        [0, 2000, 4000].flatMap fun u => s.fabric.upPorts.map fun q => (s.now + u, q) := by
  have hpins : ∀ n < 96, (s.safeAll c).pin n = (s.pin n).hold c := fun n hn => State.mapPins_pin _ _ hn
  obtain ⟨io, hsafe⟩ := s.safeAll_frame c
  rw [hsafe] at hpins
  obtain ⟨beat, f, hheld, hannounce⟩ := State.announceOff_frame { s with fio := io }
  unfold State.trip
  rw [hsafe, hannounce, State.deviceRestart_held]
  dsimp only
  rw [hheld]
  generalize hu : (State.mk ..) = u
  obtain ⟨hheldu, haon, hcleared, hbeats⟩ := u.restartCore_clears
  refine ⟨_, rfl, hheldu.trans (by rw [← hu]), fun n hn => ?_, haon.trans (by rw [← hu]), hcleared, ?_⟩
  · have hpin : u.pin n = (s.pin n).hold c := by
      rw [← hu]
      exact hpins n hn
    rw [State.restartCore_pin _ hn, hpin]
    exact Pin.mem_restart_hold _ hc
  · rw [hbeats, ← hu]
    dsimp only
    rw [List.drop_left, List.map_flatMap]
    simp only [List.map_map]
    rfl

/-! ### The causes -/

theorem logged_of_aon {s t : State} {source unit logical action arg n : Nat}
    (h : Logged s source unit logical action arg) (ht : t.aon = { s.aon with snapHi := n }) :
    Logged t source unit logical action arg := by
  unfold Logged
  rw [ht]
  exact h

/-- The loss of the referee's majority sends the device off (R322). -/
theorem refereeMajorityLoss_trips (s : State) :
    exec .refereeMajorityLoss s = .next ((s.logFault 0 0xFFFF 0xFFFF 0 0 10 0).trip .sendOff .sendOff) := rfl

/-- A supply out of range holds the device in its restart (R323). -/
theorem supplyOutOfRange_trips (s : State) (r : Rail) :
    exec (.supplyOutOfRange r) s = .next ((s.report 10 0xFFFF 0xFFFF 9 0).trip .restart (.supply r)) := rfl

/-- The thermal trip, which also has source 24 fire at the end of the restart (R46). -/
theorem State.thermalTrip_trips (s : State) : s.thermalTrip =
    State.trip { s.logFault 24 0xFFFF 0xFFFF 0 0 9 0 with faults := { s.faults with tripped := true } } .thermal .thermal :=
  rfl

/-! ### The end of a cause -/

/-- The causes that hold the device without `x`. -/
def heldWithout (held : List HeldRestart) (x : HeldRestart) : List HeldRestart := held.filter fun y => y != x

/-- A cause that ends while others hold the device changes nothing else (R323). -/
theorem State.letGo_waits {s : State} {x : HeldRestart} (h : heldWithout s.faults.held x ≠ []) :
    s.letGo x = { s with faults := { s.faults with held := heldWithout s.faults.held x } } := by
  unfold State.letGo
  dsimp only
  exact if_neg fun hnil => h (List.isEmpty_iff.mp hnil)

theorem State.letGo_completes {s : State} {x : HeldRestart} (h : heldWithout s.faults.held x = []) :
    s.letGo x = { s with faults := { s.faults with held := [] } }.restartDone := by
  unfold heldWithout at h
  unfold State.letGo
  dsimp only
  rw [h]
  rfl

/-- Once a cause has ended it holds the device no more, and with the last one the restart completes (R46, R323). -/
theorem State.letGo_ends (s : State) (x : HeldRestart) (htest : s.dbgBlock.testMode = false) :
    (s.letGo x).faults.held = heldWithout s.faults.held x ∧
      (heldWithout s.faults.held x = [] → (s.letGo x).mgmt.up = true) ∧
      (heldWithout s.faults.held x ≠ [] → (s.letGo x).mgmt = s.mgmt) := by
  by_cases h : heldWithout s.faults.held x = []
  · obtain ⟨_, _, _, _, _, _, _, _, -, -, hup, hdone⟩ :=
      State.restartDone_frame { s with faults := { s.faults with held := [] } } htest
    rw [State.letGo_completes h, hdone, h]
    exact ⟨rfl, fun _ => hup, fun hne => absurd rfl hne⟩
  · rw [State.letGo_waits h]
    exact ⟨rfl, fun hnil => absurd hnil h, fun _ => rfl⟩

/-! ### Source 24 at the end of a thermal trip (R46, R316) -/

/-- In Run, source 24 has not fired since `s`. -/
def State.NoThermalEnd (s t : State) : Prop := t.power = s.power ∧ t.src 24 = s.src 24

theorem State.fire_noThermalEnd {s t : State} (h : s.NoThermalEnd t) (hrun : s.power.st = .run) {n : Nat} (hn : 24 ≠ n) :
    s.NoThermalEnd (t.fire n) := by
  obtain ⟨hpower, hsrc⟩ := h
  have hrun' : t.power.st = .run := (congrArg Power.st hpower).trans hrun
  exact ⟨(State.fire_power hrun' n).trans hpower, (State.fire_src_ne hrun' hn).trans hsrc⟩

/-- Alarms that fire in a step of time fire sources 64 to 71 (R280). -/
theorem State.stepAlarms_noThermalEnd {s t : State} (h : s.NoThermalEnd t) (hrun : s.power.st = .run) (old : Nat)
    (late : Bool) : s.NoThermalEnd (t.stepAlarms old late) := by
  unfold State.stepAlarms
  refine List.foldlRecOn (motive := s.NoThermalEnd) _ _ h ?_
  intro u hu k _
  dsimp only
  split
  · split
    · exact hu
    · exact State.fire_noThermalEnd (t := u.setAlarm k _) hu hrun (n := 64 + k) (by omega)
  · exact hu

/-- A carry fires source 74 and those of alarms (R280, R283). -/
theorem State.carry_noThermalEnd {s : State} (hrun : s.power.st = .run) : s.NoThermalEnd s.carry := by
  have carried (u : TimeUnit) : s.NoThermalEnd (State.fire { s with time := u } 74) :=
    State.fire_noThermalEnd (t := { s with time := u }) ⟨rfl, rfl⟩ hrun (by decide)
  unfold State.carry
  dsimp only
  split
  · exact carried _
  · exact State.stepAlarms_noThermalEnd (carried _) hrun _ _

theorem State.bootUp_noThermalEnd (s : State) (other : Bool) (htest : s.dbgBlock.testMode = false) :
    s.NoThermalEnd (s.bootUp other) := by
  obtain ⟨_, _, _, _, _, _, _, hboot⟩ := s.bootUp_frame other htest
  rw [hboot]
  exact ⟨rfl, rfl⟩

/-- A restart that ends after a thermal trip fires source 24 (R46). -/
theorem State.restartDone_thermal {s : State} (hrun : s.power.st = .run) (htest : s.dbgBlock.testMode = false)
    (htripped : s.faults.tripped = true) : s.restartDone.src 24 = (s.src 24).fire := by
  obtain ⟨_, _, _, _, _, hcarry⟩ := State.carry_frame { s with faults := { s.faults with tripped := false } }
  obtain ⟨hpower, hsrc⟩ := State.carry_noThermalEnd (s := { s with faults := { s.faults with tripped := false } }) hrun
  obtain ⟨hpower', hsrc'⟩ := State.bootUp_noThermalEnd
    (State.carry { s with faults := { s.faults with tripped := false } }) false (by rw [hcarry]; exact htest)
  unfold State.restartDone
  rw [htripped, State.fireIf, if_pos rfl,
    State.fire_src_self ((congrArg Power.st (hpower'.trans hpower)).trans hrun) rfl]
  exact congrArg Src.fire (hsrc'.trans hsrc)

end Sys2Proof.Machine
end

section
/-! Temperatures and the loss of the reference clock (R46, R323), and the statement on supplies and trips. -/

namespace Sys2Proof.Machine
open Sys2Proof.Safety

/-! ### Temperatures (R46, R433) -/

/-- Some sensor has reached 155 °C. -/
def hotAmong (temps : List Int) : Bool := temps.any fun x => decide (1550 ≤ x)

/-- The warning stands at these temperatures: it comes at 155 °C, and goes once every sensor is below 150 °C. -/
def State.warnsAt (s : State) (temps : List Int) : Bool :=
  hotAmong temps || (s.pace.warned && !temps.all fun x => decide (x < 1500))

/-- The temperatures and the warning, before any trip. -/
def State.sensed (s : State) (temps : List Int) : State :=
  State.fireIf { s with pace := { s.pace with
    temps := (List.range 21).map fun i => (temps[i]?).getD 0 + s.delta 1 i
    warned := s.warnsAt temps } } (hotAmong temps && !s.pace.warned) 52

theorem State.warnsAt_iff (s : State) (temps : List Int) : s.warnsAt temps = true ↔
    temps.any (fun x => decide (1550 ≤ x)) = true ∨
      (s.pace.warned = true ∧ temps.any (fun x => decide (1500 ≤ x)) = true) := by
  have hall : (!temps.all fun x => decide (x < 1500)) = temps.any fun x => decide (1500 ≤ x) := by
    rw [List.not_all_eq_any_not]
    congr 1
    funext x
    rw [← decide_not]
    simp only [not_lt]
  rw [State.warnsAt, hall, Bool.or_eq_true, Bool.and_eq_true]
  rfl

/-- What the readings change: the pace controller's temperatures and warning, and what firings touch. -/
theorem State.sensed_frame (s : State) (temps : List Int) : ∃ r p w, s.sensed temps = State.withEvents { s with
    pace := { s.pace with
      temps := (List.range 21).map fun i => (temps[i]?).getD 0 + s.delta 1 i
      warned := s.warnsAt temps } } r p w := State.fireIf_frame ..

theorem State.sensed_src_ne {s : State} (hrun : s.power.st = .run) (temps : List Int) {n : Nat} (hn : n ≠ 52) :
    (s.sensed temps).src n = s.src n := State.fireIf_src_ne (by exact hrun) _ hn

theorem State.sensed_power {s : State} (hrun : s.power.st = .run) (temps : List Int) :
    (s.sensed temps).power = s.power := State.fireIf_power (by exact hrun) ..

/-- Source 52 fires where the warning comes. -/
theorem State.sensed_fires {s : State} (hrun : s.power.st = .run) (temps : List Int) :
    ((s.sensed temps).src 52).fires = (s.src 52).fires +
      (if s.pace.warned = false ∧ temps.any (fun x => decide (1550 ≤ x)) = true then 1 else 0) := by
  have hwarn : (hotAmong temps && !s.pace.warned) = true ↔
      s.pace.warned = false ∧ temps.any (fun x => decide (1550 ≤ x)) = true := by
    rw [Bool.and_eq_true, Bool.not_eq_true', and_comm]
    rfl
  by_cases h : (hotAmong temps && !s.pace.warned) = true
  · rw [if_pos (hwarn.mp h)]
    exact State.fires_fireIf (by exact hrun) h rfl
  · rw [if_neg (mt hwarn.mpr h), State.sensed, State.fireIf, if_neg h]
    exact (BitVec.add_zero _).symm

/-- What the readings of 21 sensors do: beyond the warning, a tripped device is let go below 140 °C, and another one trips
at 165 °C (R46). -/
theorem exec_temperatureRead {s : State} {temps : List Int} (hlen : temps.length = 21) :
    exec (.temperatureRead temps) s = .next (if s.faults.held.contains .thermal then
        if temps.all fun x => decide (x < 1400) then (s.sensed temps).letGo .thermal else s.sensed temps
      else if temps.any fun x => decide (1650 ≤ x) then (s.sensed temps).thermalTrip
      else s.sensed temps) := by
  have hheld : (s.sensed temps).faults.held = s.faults.held := by
    obtain ⟨_, _, _, h⟩ := s.sensed_frame temps
    rw [h]
    rfl
  rw [← hheld]
  have hsensors : (temps.length == 21) = true := beq_iff_eq.mpr hlen
  change execTemperatureRead temps s = _
  unfold execTemperatureRead
  rw [hsensors]
  rfl

/-! ### The reference clock (R286, R323) -/

/-- Feed port `f` loses its link where it is up (R453). -/
def State.feedDrops (u : State) (f : Nat) : State :=
  if (u.feed f).up then (u.setFeed f ((u.feed f).linkDown u.now)).fire (256 + 4 * f) else u

/-- Link port `p` goes down and retrains where it is up (R351). -/
def State.linkDrops (u : State) (p : Nat) : State :=
  if (u.port p).up then (u.setPort p (u.port p).retrain).fire (272 + 4 * p) else u

theorem exec_referenceClockLoss (s : State) : exec .referenceClockLoss s = .next
    ((List.range 4).foldl State.linkDrops ((List.range 4).foldl State.feedDrops
      { s.report 11 0xFFFF 0xFFFF 0 0 with
        time := { (s.report 11 0xFFFF 0xFFFF 0 0).time with holdover := true }
        faults := { (s.report 11 0xFFFF 0xFFFF 0 0).faults with backupOsc := true } })) := rfl

/-- In Run, what ports that go down leave alone. -/
structure State.LinksLost (s t : State) : Prop where
  run : t.power.st = .run
  src : t.src 11 = s.src 11
  aon : t.aon = s.aon
  tiles : t.tiles = s.tiles
  time : t.time = s.time
  faults : t.faults = s.faults

theorem State.LinksLost.trans {s t u : State} (h : s.LinksLost t) (h' : t.LinksLost u) : s.LinksLost u :=
  ⟨h'.run, h'.src.trans h.src, h'.aon.trans h.aon, h'.tiles.trans h.tiles, h'.time.trans h.time, h'.faults.trans h.faults⟩

theorem State.LinksLost.fire {s t : State} (h : s.LinksLost t) {n : Nat} (hn : 11 ≠ n) : s.LinksLost (t.fire n) :=
  ⟨(congrArg Power.st (State.fire_power h.run n)).trans h.run, (State.fire_src_ne h.run hn).trans h.src,
    (State.fire_aon ..).trans h.aon, (State.fire_tiles ..).trans h.tiles, (State.fire_time ..).trans h.time,
    (State.fire_faults ..).trans h.faults⟩

theorem State.feedDrops_linksLost {u : State} (hrun : u.power.st = .run) (f : Nat) : u.LinksLost (u.feedDrops f) := by
  unfold State.feedDrops
  split
  · have set (v : Feed) : u.LinksLost (u.setFeed f v) := ⟨hrun, rfl, rfl, rfl, rfl, rfl⟩
    exact (set _).fire (by omega)
  · exact ⟨hrun, rfl, rfl, rfl, rfl, rfl⟩

theorem State.linkDrops_linksLost {u : State} (hrun : u.power.st = .run) (p : Nat) : u.LinksLost (u.linkDrops p) := by
  unfold State.linkDrops
  split
  · have set (v : LinkPort) : u.LinksLost (u.setPort p v) := ⟨hrun, rfl, rfl, rfl, rfl, rfl⟩
    exact (set _).fire (by omega)
  · exact ⟨hrun, rfl, rfl, rfl, rfl, rfl⟩

/-- A feed port that drops is down, and one that was down stays down. -/
theorem State.feedDrops_down (u : State) (f k : Nat) (h : k = f ∨ (u.feed k).up = false) :
    ((u.feedDrops f).feed k).up = false := by
  unfold State.feedDrops
  split
  · rw [State.fire_feed]
    by_cases hk : k = f
    · subst hk
      rw [State.setFeed_feed]
      rfl
    · rw [State.setFeed_feed_ne _ _ hk]
      exact h.resolve_left hk
  · next hup =>
    rcases h with rfl | h
    · simpa using hup
    · exact h

/-- A link port that drops is down, and one that was down stays down. -/
theorem State.linkDrops_down (u : State) (p k : Nat) (h : k = p ∨ (u.port k).up = false) :
    ((u.linkDrops p).port k).up = false := by
  unfold State.linkDrops
  split
  · rw [State.fire_port]
    by_cases hk : k = p
    · subst hk
      rw [State.setPort_port]
      rfl
    · rw [State.setPort_port_ne _ _ hk]
      exact h.resolve_left hk
  · next hup =>
    rcases h with rfl | h
    · simpa using hup
    · exact h

theorem State.linkDrops_feed (u : State) (p f : Nat) : (u.linkDrops p).feed f = u.feed f := by
  unfold State.linkDrops
  split
  · rw [State.fire_feed, State.setPort_feed]
  · rfl

/-- After the first `n` ports have dropped they are all down, whichever kind they are. -/
theorem State.foldl_drops {g : State → Nat → State} {down : State → Nat → Prop}
    (hkept : ∀ (u : State) f, u.power.st = .run → u.LinksLost (g u f)) (hdown : ∀ u f k, k = f ∨ down u k → down (g u f) k)
    {s : State} (hrun : s.power.st = .run) (n : Nat) :
    s.LinksLost ((List.range n).foldl g s) ∧ ∀ k < n, down ((List.range n).foldl g s) k := by
  induction n with
  | zero => exact ⟨⟨hrun, rfl, rfl, rfl, rfl, rfl⟩, nofun⟩
  | succ n ih =>
    obtain ⟨hk, hd⟩ := ih
    rw [List.range_succ, List.foldl_append, List.foldl_cons, List.foldl_nil]
    refine ⟨hk.trans (hkept _ n hk.run), fun k hkn => hdown _ n k ?_⟩
    by_cases h : k = n
    · exact .inl h
    · exact .inr (hd k (by omega))

/-- A loss of the reference clock: the time unit is in holdover on the backup oscillator, and every feed and link port
is down (R286, R323). -/
theorem referenceClockLoss_drops {s : State} (hrun : s.power.st = .run) :
    ∃ t, exec .referenceClockLoss s = .next t ∧ t.time.holdover = true ∧ t.faults.backupOsc = true ∧
      Logged t 11 0xFFFF 0xFFFF 0 0 ∧ t.src 11 = (s.src 11).fire ∧ (∀ f < 4, (t.feed f).up = false) ∧
      (∀ p < 4, (t.port p).up = false) ∧ t.tiles = s.tiles := by
  obtain ⟨u, hu, hurun, hsrc, hlogged, htiles, hholdover, hbackup⟩ : ∃ u : State,
      exec .referenceClockLoss s = .next
        ((List.range 4).foldl State.linkDrops ((List.range 4).foldl State.feedDrops u)) ∧
      u.power.st = .run ∧ u.src 11 = (s.src 11).fire ∧ Logged u 11 0xFFFF 0xFFFF 0 0 ∧ u.tiles = s.tiles ∧
      u.time.holdover = true ∧ u.faults.backupOsc = true :=
    ⟨_, exec_referenceClockLoss s, (congrArg Power.st (State.report_power hrun ..)).trans hrun,
      State.report_src_self hrun rfl .., s.report_logged .., State.report_tiles .., rfl, rfl⟩
  obtain ⟨hf, hfeeds⟩ := State.foldl_drops (g := State.feedDrops) (down := fun v k => (v.feed k).up = false)
    (fun v f h => State.feedDrops_linksLost h f) State.feedDrops_down hurun 4
  obtain ⟨hp, hports⟩ := State.foldl_drops (g := State.linkDrops) (down := fun v k => (v.port k).up = false)
    (fun v p h => State.linkDrops_linksLost h p) State.linkDrops_down hf.run 4
  have hfeed (v : State) (f : Nat) : ((List.range 4).foldl State.linkDrops v).feed f = v.feed f :=
    List.foldlRecOn (motive := fun w => State.feed w f = v.feed f) _ _ rfl fun w hw p _ =>
      (w.linkDrops_feed p f).trans hw
  have hall := hf.trans hp
  refine ⟨_, hu, by rw [hall.time, hholdover], by rw [hall.faults, hbackup], logged_congr hlogged hall.aon,
    hall.src.trans hsrc, fun f hf4 => ?_, hports, hall.tiles.trans htiles⟩
  rw [hfeed]
  exact hfeeds f hf4

/-! ### The statement -/

theorem exec_supplyRestored {s : State} (r : Rail) : exec (.supplyRestored r) s = .next
    (if s.faults.held.contains (.supply r) then s.letGo (.supply r) else s) := rfl

/-- Settles O37. -/
theorem suppliesAndTrips : Obligations.SuppliesAndTrips := by
  unfold Obligations.SuppliesAndTrips
  intro r temps s hrun _ htest fired safe shut held rest
  obtain ⟨_, _, _, hframe⟩ := s.sensed_frame temps
  refine ⟨?_, ?_, ?_, ?_, ?_, ?_, ?_, ?_⟩
  · obtain ⟨t, rfl, hheld, hsafe, haon, hcleared, hbeats⟩ :=
      (s.logFault 0 0xFFFF 0xFFFF 0 0 10 0).trip_goesDown (c := .sendOff) .sendOff (.inr (.inr rfl))
    obtain ⟨htiles, hup, hqueues, hflight, hpool⟩ := hcleared
    refine ⟨_, refereeMajorityLoss_trips s, hheld, hsafe, logged_of_aon (s.logFault_logged ..) haon, ?_, hbeats⟩
    exact ⟨htiles, hup, hqueues, hflight, hpool, by rw [haon]; rfl, by rw [haon]; rfl, by rw [haon]; rfl⟩
  · obtain ⟨t, rfl, hheld, hsafe, haon, hcleared, -⟩ :=
      (s.report 10 0xFFFF 0xFFFF 9 0).trip_goesDown (c := .restart) (.supply r) (.inl rfl)
    obtain ⟨htiles, hup, hqueues, hflight, hpool⟩ := hcleared
    have haonSame : (s.report 10 0xFFFF 0xFFFF 9 0).aon = (s.logFault 10 0xFFFF 0xFFFF 0 0 9 0).aon := State.fire_aon ..
    refine ⟨_, supplyOutOfRange_trips s r, hheld.trans (by rw [State.report_faults]; rfl), hsafe,
      logged_of_aon (s.report_logged ..) haon, ?_⟩
    exact ⟨htiles, hup, hqueues, hflight, hpool, by rw [haon, haonSame]; rfl, by rw [haon, haonSame]; rfl,
      by rw [haon, haonSame]; rfl⟩
  · intro hnot hlen hhot
    obtain ⟨t, ht, hheld, hsafe, haon, hcleared, -⟩ := State.trip_goesDown
      { (s.sensed temps).logFault 24 0xFFFF 0xFFFF 0 0 9 0 with faults := { (s.sensed temps).faults with tripped := true } }
      (c := .thermal) .thermal (.inr (.inl rfl))
    obtain ⟨htiles, hup, hqueues, hflight, hpool⟩ := hcleared
    rw [← State.thermalTrip_trips] at ht
    refine ⟨t, ?_, hheld.trans (by rw [hframe]; rfl), hsafe, logged_of_aon (State.logFault_logged ..) haon, ?_⟩
    · have htrips : temps.any (fun x => decide (1650 ≤ x)) = true := by simpa using hhot
      rw [exec_temperatureRead hlen, if_neg (by simpa using hnot), if_pos htrips, ht]
    · exact ⟨htiles, hup, hqueues, hflight, hpool, by rw [haon, hframe]; rfl, by rw [haon, hframe]; rfl,
        by rw [haon, hframe]; rfl⟩
  · intro hin
    refine ⟨s.letGo (.supply r), ?_, s.letGo_ends _ htest⟩
    rw [exec_supplyRestored, if_pos (by simpa using hin)]
  · intro hnot
    rw [exec_supplyRestored, if_neg (by simpa using hnot)]
  · intro hin hlen hcool
    have hheld : (s.sensed temps).faults = s.faults := by rw [hframe]; rfl
    have hmgmt : (s.sensed temps).mgmt = s.mgmt := by rw [hframe]; rfl
    have htest' : (s.sensed temps).dbgBlock.testMode = false := by rw [hframe]; exact htest
    have hbelow : temps.all (fun x => decide (x < 1400)) = true := by simpa using hcool
    obtain ⟨hheld', hup, hkept⟩ := (s.sensed temps).letGo_ends .thermal htest'
    rw [hheld] at hheld' hup hkept
    refine ⟨_, ?_, hheld', fun hnil => ⟨hup hnil, fun htripped => ?_⟩, fun hne => (hkept hne).trans hmgmt⟩
    · rw [exec_temperatureRead hlen, if_pos (by simpa using hin), if_pos hbelow]
    · have hsrc : ((s.sensed temps).letGo .thermal).src 24 = ((s.sensed temps).src 24).fire := by
        rw [State.letGo_completes (by rw [hheld]; exact hnil)]
        exact State.restartDone_thermal (s := { s.sensed temps with faults := { (s.sensed temps).faults with held := [] } })
          ((congrArg Power.st (State.sensed_power hrun temps)).trans hrun) htest' (by rw [hheld]; exact htripped)
      obtain ⟨hfires, hfired, -⟩ := Src.eq_fire hsrc
      rw [State.sensed_src_ne hrun temps (by decide)] at hfires
      exact ⟨hfires, hfired⟩
  · intro hnot hlen hcool
    have hnone : temps.any (fun x => decide (1650 ≤ x)) = false := by simpa using hcool
    refine ⟨s.sensed temps, ?_, ?_, State.sensed_fires hrun temps, ?_, ?_, ?_, ?_⟩
    · rw [exec_temperatureRead hlen, if_neg (by simpa using hnot), hnone]
      rfl
    · rw [hframe]
      simp only [State.withEvents, List.getD_eq_getElem?_getD]
    · rw [hframe]
      exact s.warnsAt_iff temps
    · rw [hframe]; rfl
    · rw [hframe]; rfl
    · rw [hframe]; rfl
  · obtain ⟨t, ht, hholdover, hbackup, hlogged, hsrc, hports⟩ := referenceClockLoss_drops hrun
    obtain ⟨hfires, hfired, -⟩ := Src.eq_fire hsrc
    exact ⟨t, ht, hholdover, hbackup, hlogged, ⟨hfires, hfired⟩, hports⟩

end Sys2Proof.Machine
end

section
/-! One period of the pace loop, the alarm, parking and the power cap (R35 to R38, R41, R42, R44, R45). -/

namespace Sys2Proof.Machine
open Sys2Proof.Safety

/-! ### Changes of every court -/

/-- The state with other pace records of the courts. -/
def State.withCourts (s : State) (cs : Table Court) : State := { s with pace := { s.pace with courts := cs } }

/-- A pass over the first `n` courts that changes each by a function of itself changes those courts and nothing else. -/
theorem State.foldl_courts {s : State} {g : State → Nat → State} {f : Nat → Court → Court}
    (hg : ∀ cs c, g (s.withCourts cs) c = (s.withCourts cs).setCourt c (f c ((s.withCourts cs).court c))) (n : Nat) :
    ∃ cs, (List.range n).foldl g s = s.withCourts cs ∧
      ∀ k, (s.withCourts cs).court k = if k < n then f k (s.court k) else s.court k := by
  induction n with
  | zero => exact ⟨s.pace.courts, rfl, fun k => (if_neg (Nat.not_lt_zero k)).symm⟩
  | succ n ih =>
    obtain ⟨cs, hfold, hcourt⟩ := ih
    rw [List.range_succ, List.foldl_append, List.foldl_cons, List.foldl_nil, hfold, hg]
    refine ⟨_, rfl, fun k => ?_⟩
    change ((s.withCourts cs).setCourt n _).court k = _
    by_cases hk : k = n
    · subst hk
      rw [State.setCourt_court, hcourt, if_neg (Nat.lt_irrefl k), if_pos (Nat.lt_succ_self k)]
    · rw [State.setCourt_court_ne _ _ hk, hcourt]
      simp only [show k < n + 1 ↔ k < n by omega]

/-! ### One court in the loop (R35, R41, R42) -/

theorem Court.alarmTimes_frame (v : Court) (now : Nat) : ∃ b o a,
    v.alarmTimes now = { v with belowSince := b, okSince := o, alarmed := a } := by
  unfold Court.alarmTimes
  split
  · exact ⟨_, _, _, rfl⟩
  · split <;> exact ⟨_, _, _, rfl⟩

/-- A correction is at least one step of the regulators and at most what a rail may move (R35). -/
theorem Court.correction_bounds (v : Court) : 5 ≤ v.correction ∧ v.correction ≤ 50 := by
  unfold Court.correction
  dsimp only
  omega

theorem Court.asked_of_within {v : Court} (hlow : 99 * v.eff ≤ 100 * v.slowest) (hhigh : 100 * v.slowest ≤ 104 * v.eff) :
    v.asked = v.rail := by
  have hb : v.below = false := decide_eq_false (by omega)
  have ha : v.above = false := decide_eq_false (by omega)
  rw [Court.asked, hb, ha]
  rfl

theorem Court.asked_of_below {v : Court} (h : 100 * v.slowest < 99 * v.eff) :
    v.asked = min 1000 (v.rail + v.correction) := by
  have hb : v.below = true := decide_eq_true h
  rw [Court.asked, hb]
  rfl

theorem Court.asked_of_above {v : Court} (h : 104 * v.eff < 100 * v.slowest) :
    v.asked = max 400 (v.rail - v.correction) := by
  have hb : v.below = false := decide_eq_false (by omega)
  have ha : v.above = true := decide_eq_true h
  rw [Court.asked, hb, ha]
  rfl

theorem Court.slowest_eq_min? (v : Court) : v.slowest = v.meters.min?.getD 0 := by
  unfold Court.slowest
  cases v.meters <;> rfl

/-- The loop leaves the targets. -/
theorem Court.loop_targets (v : Court) (c : Nat) (p : Pace) (now : Nat) (meters : List Nat) :
    (v.loop c p now meters).eff = v.eff ∧ (v.loop c p now meters).target = v.target := by
  obtain ⟨b, o, a, h⟩ := Court.alarmTimes_frame { v with meters := meters } now
  unfold Court.loop
  dsimp only
  rw [h]
  split <;> exact ⟨rfl, rfl⟩

/-- A parked rail, and one on its way, are not the loop's (R44). -/
theorem Court.loop_of_not_free {v : Court} (h : ¬ (v.parked = false ∧ v.ramp = none)) (c : Nat) (p : Pace) (now : Nat)
    (meters : List Nat) : (v.loop c p now meters).rail = v.rail ∧ (v.loop c p now meters).need = v.need := by
  obtain ⟨b, o, a, ht⟩ := Court.alarmTimes_frame { v with meters := meters } now
  have hbusy : (v.parked || v.ramp.isSome) = true := by
    cases hp : v.parked
    · rw [Bool.false_or, Option.isSome_iff_ne_none]
      exact fun hr => h ⟨hp, hr⟩
    · rfl
  unfold Court.loop
  dsimp only
  rw [ht]
  dsimp only
  rw [if_pos hbusy]
  exact ⟨rfl, rfl⟩

/-- The highest rail that the loop may give to a rail that asks for `want`: VDD_CIN counts once the regulator has reported
it, where the rail is to rise (R36, R37). -/
def Pace.allows (p : Pace) (rail want : Nat) : Nat := if rail < want then max rail p.ceiling else p.vddCin - 50

/-- With the regulator heard, a rail of the loop goes where its meters ask, as far as VDD_CIN allows (R36, R38, R41). -/
theorem Court.loop_of_free {v : Court} {p : Pace} (hfree : v.parked = false ∧ v.ramp = none) (hsilent : p.silent = false)
    (c now : Nat) (meters : List Nat) :
    ∃ w want, v.loop c p now meters = w ∧ want = ({ v with meters := meters } : Court).asked ∧ w.need = want ∧
      w.rail = min want (p.allows v.rail want) ∧ w.bias = if c ≠ 17 ∧ w.rail < 550 then 200 else 0 := by
  obtain ⟨hparked, hramp⟩ := hfree
  obtain ⟨b, o, a, ht⟩ := Court.alarmTimes_frame { v with meters := meters } now
  refine ⟨_, _, rfl, rfl, ?_⟩
  have hloop : v.loop c p now meters = Court.at { v with
      meters := meters, belowSince := b, okSince := o, alarmed := a, need := ({ v with meters := meters } : Court).asked }
      c (min ({ v with meters := meters } : Court).asked
        (p.allows v.rail ({ v with meters := meters } : Court).asked)) := by
    unfold Court.loop
    dsimp only
    rw [ht]
    dsimp only
    rw [hparked, hramp, hsilent]
    rfl
  rw [hloop]
  exact ⟨rfl, rfl, rfl⟩

/-! ### One period of the loop (R36, R41) -/

/-- The state at the boundary of a period, where the units take the overlay in force (R431, R432). -/
def State.atBoundary (s : State) : State := { s with boot := { s.boot with eff := s.boot.inForce } }

/-- VDD_CIN is set, and told to the regulator where it changes (R36, R39). -/
theorem State.setVdd_frame (s : State) (mv : Nat) : ∃ okVdd sent,
    s.setVdd mv = { s with pace := { s.pace with vddCin := mv, okVdd := okVdd, pmbSent := sent } } := by
  unfold State.setVdd
  split
  · next h =>
    subst h
    exact ⟨_, _, rfl⟩
  · exact ⟨_, _, rfl⟩

/-- A court's turn in a period that began in state `s`. -/
def State.loopCourt (s : State) (readings : List Nat) (u : State) (c : Nat) : State :=
  u.setCourt c { (u.court c).loop c s.pace s.now (u.metersOf readings c) with trim := u.delta 3 c }

theorem State.paceLoop_eq (s : State) (readings : List Nat) : s.paceLoop readings =
    if s.pace.silent then (List.range 18).foldl (s.loopCourt readings) s.atBoundary
    else ((List.range 18).foldl (s.loopCourt readings) s.atBoundary).setVdd
      (vddFor ((List.range 18).foldl (s.loopCourt readings) s.atBoundary).topNeed) := rfl

/-- A period of the loop takes every court and the engine through it, and sets VDD_CIN for the highest need (R36, R41). -/
theorem State.paceLoop_outcome {s : State} (hsilent : s.pace.silent = false) (readings : List Nat) :
    ∃ t, s.paceLoop readings = t ∧
      t.pace.vddCin = max 500 (min 1100 ((List.range 18).foldl (fun m c => max m (t.court c).need) 0 + 50)) ∧
      t.tiles = s.tiles ∧ t.router = s.router ∧
      ∀ c < 18, t.court c = { (s.court c).loop c s.pace s.now (s.atBoundary.metersOf readings c) with
        trim := s.atBoundary.delta 3 c } := by
  obtain ⟨cs, hfold, hcourt⟩ := State.foldl_courts (s := s.atBoundary) (g := s.loopCourt readings)
    (f := fun c v => { v.loop c s.pace s.now (s.atBoundary.metersOf readings c) with trim := s.atBoundary.delta 3 c })
    (fun _ _ => rfl) 18
  obtain ⟨mv, hmv, heq⟩ : ∃ mv, mv = vddFor (s.atBoundary.withCourts cs).topNeed ∧
      s.paceLoop readings = (s.atBoundary.withCourts cs).setVdd mv := by
    refine ⟨_, rfl, ?_⟩
    rw [State.paceLoop_eq, hsilent, if_neg Bool.false_ne_true, hfold]
  obtain ⟨okVdd, sent, hvdd⟩ := (s.atBoundary.withCourts cs).setVdd_frame mv
  have hsame (c : Nat) : (s.paceLoop readings).court c = (s.atBoundary.withCourts cs).court c := by
    rw [heq, hvdd]
    rfl
  refine ⟨_, rfl, ?_, ?_, ?_, fun c hc => ?_⟩
  · simp only [hsame]
    rw [heq, hvdd]
    exact hmv
  · rw [heq, hvdd]
    rfl
  · rw [heq, hvdd]
    rfl
  · rw [hsame, hcourt, if_pos hc]
    rfl

theorem exec_paceLoop {s : State} (hs : s.running = true) {readings : List Nat} (hlen : readings.length = 70) :
    exec (.paceLoop readings) s = .next (s.paceLoop readings) := by
  simp [exec, execPaceLoop, ok, when_, hs, hlen]

/-! ### The alarm and parking (R42, R44) -/

theorem exec_paceAlarm {s : State} (hs : s.running = true) {c : Nat} (hc : c < 18) (halarmed : (s.court c).alarmed = false)
    (hparked : (s.court c).parked = false) {t0 : Nat} (hbelow : (s.court c).belowSince = some t0) :
    exec (.paceAlarm c) s = .next (if t0 + 200000 ≤ s.now then
      (s.setCourt c { s.court c with alarmed := true }).fire (if c = 17 then 54 else 32 + c) else s) := by
  have hdue : ((!(s.court c).alarmed && !(s.court c).parked &&
      (s.court c).belowSince.any fun t => decide (t + 200000 ≤ s.now)) && s.running) = decide (t0 + 200000 ≤ s.now) := by
    rw [halarmed, hparked, hbelow, hs, Bool.and_true, Option.any_some, Bool.not_false, Bool.true_and, Bool.true_and]
  change execPaceAlarm c s = _
  unfold execPaceAlarm ok when_
  dsimp only
  rw [hdue, decide_eq_true hc, if_pos rfl]
  simp only [decide_eq_true_eq]

theorem exec_courtPark {s : State} (hs : s.running = true) {c : Nat} (hc : c < 17) (hparked : (s.court c).parked = false)
    (hdelay : (s.court c).parkUs ≠ 0) (hlull : s.lulls c = true) {t0 : Nat} (hsince : (s.court c).lullSince = some t0)
    (hlong : (s.court c).parkUs < (s.now - t0) / 200) :
    exec (.courtPark c) s = .next (s.setCourt c { s.court c with
      parked := true, ramp := some (min (s.court c).rail ((s.court c).parkMv / 5 * 5)) }) := by
  have hlong' : (s.court c).parkUs < s.usSince t0 := hlong
  simp [exec, execCourtPark, ok, when_, hs, hc, hparked, hdelay, hlull, hsince, hlong', onGrid]

/-! ### The power cap (R45) -/

theorem exec_powerEstimate {s : State} (hs : s.running = true) (mw : Nat) :
    exec (.powerEstimate mw) s = .next (s.powerEstimate mw) := by
  simp [exec, execPowerEstimate, ok, when_, hs]

/-- The state with a power estimate and with cap action. -/
def State.capped (s : State) (mw : Nat) : State := { s with pace := { s.pace with estimate := mw, capping := true } }

theorem State.powerEstimate_above {s : State} {mw : Nat} (h : s.pace.capTenths * 100 < mw) :
    s.powerEstimate mw = ((s.capped mw).capDown).fireIf (!s.pace.capping) 49 := by
  unfold State.powerEstimate
  dsimp only
  rw [if_pos h]
  rfl

/-- Above the cap the targets of all courts fall by 2 %, not below the floor, as long as one of them can (R45). -/
theorem State.powerEstimate_lowersCourts {s : State} (hrun : s.power.st = .run) {mw : Nat}
    (hcap : s.pace.capTenths * 100 < mw) (habove : ∃ c, c < 17 ∧ s.pace.floorM * 1000 < (s.court c).eff) :
    ∃ t, s.powerEstimate mw = t ∧ t.pace.estimate = mw ∧ t.pace.capping = true ∧
      (s.pace.capping = false → (t.src 49).fires = (s.src 49).fires + 1) ∧ t.court 17 = s.court 17 ∧
      ∀ c < 17, t.court c = { s.court c with eff := lower2 (s.pace.floorM * 1000) (s.court c).eff } := by
  obtain ⟨cs, hfold, hcourt⟩ := State.foldl_courts (s := s.capped mw)
    (g := fun u c => let v := u.court c; u.setCourt c { v with eff := lower2 (s.pace.floorM * 1000) v.eff })
    (f := fun _ v => { v with eff := lower2 (s.pace.floorM * 1000) v.eff }) (fun _ _ => rfl) 17
  have hdown : (s.capped mw).capDown = (s.capped mw).withCourts cs := by
    rw [← hfold]
    unfold State.capDown
    refine if_neg ?_
    obtain ⟨c, hc, hfloor⟩ := habove
    simp only [List.all_eq_true, List.mem_range, decide_eq_true_eq, not_forall]
    exact ⟨c, hc, hfloor.not_ge⟩
  rw [State.powerEstimate_above hcap, hdown]
  refine ⟨_, rfl, ?_, ?_, fun hfirst => ?_, ?_, fun c hc => ?_⟩
  · rw [State.fireIf_pace]
    rfl
  · rw [State.fireIf_pace]
    rfl
  · rw [State.fires_fireIf (s := (s.capped mw).withCourts cs) hrun (by rw [hfirst]; rfl) rfl]
    rfl
  · rw [State.fireIf_court, hcourt]
    rfl
  · rw [State.fireIf_court, hcourt, if_pos hc]
    rfl

/-- With every court at the floor the engine's target falls (R45). -/
theorem State.powerEstimate_lowersEngine {s : State} {mw : Nat} (hcap : s.pace.capTenths * 100 < mw)
    (hfloor : ∀ c < 17, (s.court c).eff ≤ s.pace.floorM * 1000) :
    ∃ t, s.powerEstimate mw = t ∧ (∀ c < 17, t.court c = s.court c) ∧
      t.court 17 = { s.court 17 with eff := lower2 0 (s.court 17).eff } := by
  have hdown : (s.capped mw).capDown =
      (s.capped mw).setCourt 17 { s.court 17 with eff := lower2 0 (s.court 17).eff } := by
    unfold State.capDown
    refine if_pos ?_
    simp only [List.all_eq_true, List.mem_range, decide_eq_true_eq]
    exact hfloor
  rw [State.powerEstimate_above hcap, hdown]
  refine ⟨_, rfl, fun c hc => ?_, ?_⟩
  · rw [State.fireIf_court, State.setCourt_court_ne _ _ (by omega)]
    rfl
  · rw [State.fireIf_court, State.setCourt_court]

theorem lower2_zero (v : Nat) : lower2 0 v = v * 98 / 100 := by
  unfold lower2
  split <;> omega

/-- Towards its target an effective pace rises by one thousand at least, and not past it (R45). -/
theorem raise1_bounds {target v : Nat} (h : v < target) : v < raise1 target v ∧ raise1 target v ≤ target := by
  unfold raise1
  omega

/-- An engine below its target rises before the courts do (R45). -/
theorem State.capUp_engine {s : State} (h : (s.court 17).eff < (s.court 17).target) : ∃ capping u,
    u = s.setCourt 17 { s.court 17 with eff := raise1 (s.court 17).target (s.court 17).eff } ∧
      s.capUp = { u with pace := { u.pace with capping := capping } } := by
  unfold State.capUp
  dsimp only
  rw [if_pos h]
  exact ⟨_, _, rfl, rfl⟩

/-- The state with a power estimate. -/
def State.estimated (s : State) (mw : Nat) : State := { s with pace := { s.pace with estimate := mw } }

/-- Below 98 % of the cap the engine's target rises first (R45). -/
theorem State.powerEstimate_raisesEngine {s : State} {mw : Nat} (hcap : 100 * mw < 98 * (s.pace.capTenths * 100))
    (hcapping : s.pace.capping = true) (hlow : (s.court 17).eff < (s.court 17).target) :
    ∃ t, s.powerEstimate mw = t ∧ (∀ c < 17, t.court c = s.court c) ∧
      t.court 17 = { s.court 17 with eff := raise1 (s.court 17).target (s.court 17).eff } := by
  have hup : s.powerEstimate mw = (s.estimated mw).capUp := by
    unfold State.powerEstimate
    dsimp only
    rw [if_neg (by omega), if_pos ⟨hcap, hcapping⟩]
    rfl
  obtain ⟨capping, u, hu, heq⟩ := State.capUp_engine (s := s.estimated mw) hlow
  have hcourt (c : Nat) : (s.powerEstimate mw).court c = u.court c := by
    rw [hup, heq]
    rfl
  refine ⟨_, rfl, fun c hc => ?_, ?_⟩
  · rw [hcourt, hu, State.setCourt_court_ne _ _ (by omega)]
    rfl
  · rw [hcourt, hu, State.setCourt_court]
    rfl

theorem State.powerEstimate_within {s : State} {mw : Nat} (hcap : mw ≤ s.pace.capTenths * 100)
    (hcapping : s.pace.capping = false) :
    s.powerEstimate mw = s.estimated mw := by
  unfold State.powerEstimate
  dsimp only
  rw [if_neg (by omega), if_neg (by rw [hcapping]; exact fun h => Bool.false_ne_true h.2)]
  rfl

end Sys2Proof.Machine
end

section
/-! The external regulator, the placement readings and the wake of an island (R39, R51, R57, R193), and the statement on
the pace. -/

namespace Sys2Proof.Machine
open Sys2Proof.Safety

/-! ### A regulator that is lost (R57) -/

/-- From `s` the regulator has been lost: every rail is limited to the setpoint that stands, source 53 has fired once, and
a retry follows in 1 ms (R57). -/
def State.RegulatorGone (s t : State) : Prop :=
  t.pace.silent = true ∧ t.pace.vddCin = s.pace.vddCin ∧ (t.src 53).fires = (s.src 53).fires + 1 ∧
    (∀ c < 18, (t.court c).rail = min (s.court c).rail (s.pace.vddCin - 50)) ∧ t.tiles = s.tiles ∧
    t.pace.retryAt = s.now + 200000

/-- The rails under the setpoint less 50 mV, and what else a loss changes, up to its firing (R57). -/
theorem State.regulatorLost_eq (s : State) : ∃ cs, s.regulatorLost =
      State.fireIf { s with pace := { s.pace with
        courts := cs, silent := true, retryAt := if s.pace.silent then s.pace.retryAt else s.now + 200000 } }
        (!s.pace.silent) 53 ∧
      ∀ k < 18, ((s.withCourts cs).court k).rail = min (s.court k).rail (s.pace.vddCin - 50) := by
  obtain ⟨cs, hfold, hcourt⟩ := State.foldl_courts (s := s)
    (g := fun u c => let v := u.court c; u.setCourt c (v.at c (min v.rail (s.pace.vddCin - 50))))
    (f := fun c v => v.at c (min v.rail (s.pace.vddCin - 50))) (fun _ _ => rfl) 18
  refine ⟨cs, ?_, fun k hk => ?_⟩
  · unfold State.regulatorLost
    dsimp only
    rw [hfold]
    rfl
  · rw [hcourt, if_pos hk]
    rfl

/-- A loss sends nothing to the regulator. -/
theorem State.regulatorLost_pmb (s : State) : s.regulatorLost.pace.pmbSent = s.pace.pmbSent ∧
    s.regulatorLost.pace.pmbMode = s.pace.pmbMode ∧ s.regulatorLost.boot = s.boot := by
  obtain ⟨cs, heq, -⟩ := s.regulatorLost_eq
  rw [heq]
  refine ⟨?_, ?_, State.fireIf_boot ..⟩ <;> rw [State.fireIf_pace]

theorem State.regulatorLost_gone {s : State} (hrun : s.power.st = .run) (hsilent : s.pace.silent = false) :
    s.RegulatorGone s.regulatorLost := by
  obtain ⟨cs, heq, hrails⟩ := s.regulatorLost_eq
  rw [heq, hsilent]
  refine ⟨?_, ?_, ?_, fun c hc => ?_, State.fireIf_tiles .., ?_⟩
  · rw [State.fireIf_pace]
  · rw [State.fireIf_pace]
  · refine Eq.trans (State.fires_fireIf (c := !false) (n := 53) ?_ rfl rfl) rfl
    exact hrun
  · rw [State.fireIf_court]
    exact hrails c hc
  · rw [State.fireIf_pace]
    rfl

/-- A second loss, before the regulator is heard again, changes nothing more. -/
theorem State.RegulatorGone.again {s t : State} (h : s.RegulatorGone t) : s.RegulatorGone t.regulatorLost := by
  obtain ⟨hsilent, hvdd, hfires, hrails, htiles, hretry⟩ := h
  obtain ⟨cs, heq, hagain⟩ := t.regulatorLost_eq
  have hpace (u : State) : (u.fireIf (!true) 53) = u := rfl
  rw [heq, hsilent, hpace]
  refine ⟨rfl, hvdd, hfires, fun c hc => ?_, htiles, hretry⟩
  refine (hagain c hc).trans ?_
  rw [hrails c hc, hvdd]
  omega

/-! ### Polls and alerts (R39, R57) -/

/-- The transactions of `cs`, after those sent so far (R39). -/
def State.sentWith (s : State) (cs : List PmbCmd) : List PmbTx :=
  s.pace.pmbSent ++ cs.map (pmbTx s.boot.bootRec.pmbAddr s.pace.pmbMode)

theorem State.sentWith_append (s : State) (a b : List PmbCmd) :
    (s.pmb a).sentWith b = s.sentWith (a ++ b) := by
  unfold State.sentWith
  rw [List.map_append, ← List.append_assoc]
  rfl

theorem State.sentWith_congr {s t : State} (h : t.pace.pmbSent = s.pace.pmbSent ∧ t.pace.pmbMode = s.pace.pmbMode ∧
    t.boot = s.boot) (cs : List PmbCmd) : t.sentWith cs = s.sentWith cs := by
  obtain ⟨hsent, hmode, hboot⟩ := h
  rw [State.sentWith, hsent, hmode, hboot, State.sentWith]

/-- STATUS_WORD is read and the faults are cleared, whatever it reports (R39). -/
theorem State.readStatus_sent (s : State) (fault : Bool) :
    (s.readStatus fault).pace.pmbSent = s.sentWith [.statusWord, .clearFaults] := by
  unfold State.readStatus
  dsimp only
  split
  · exact (State.regulatorLost_pmb _).1
  · rfl

theorem State.pmbFailed_pmb (s : State) : s.pmbFailed.pace.pmbSent = s.pace.pmbSent ∧
    s.pmbFailed.pace.pmbMode = s.pace.pmbMode ∧ s.pmbFailed.boot = s.boot := by
  unfold State.pmbFailed
  dsimp only
  split
  · exact State.regulatorLost_pmb { s with pace := { s.pace with pmbFails := s.pace.pmbFails + 1 } }
  · exact ⟨rfl, rfl, rfl⟩

/-- The second failure in a row, or a fault that STATUS_WORD reports after the first, is a lost regulator (R57). -/
theorem State.pmbFailed_gone {s : State} (hrun : s.power.st = .run) (hsilent : s.pace.silent = false) {fault : Bool}
    (h : 0 < s.pace.pmbFails ∨ fault = true) : s.RegulatorGone (s.pmbFailed.readStatus fault) := by
  unfold State.pmbFailed State.readStatus
  dsimp only
  by_cases hfails : 1 ≤ s.pace.pmbFails
  · rw [if_pos hfails]
    have hgone : s.RegulatorGone (State.pmb (State.regulatorLost
        { s with pace := { s.pace with pmbFails := s.pace.pmbFails + 1 } }) [.statusWord, .clearFaults]) :=
      State.regulatorLost_gone (s := { s with pace := { s.pace with pmbFails := s.pace.pmbFails + 1 } }) hrun hsilent
    split
    · exact hgone.again
    · exact hgone
  · rw [if_neg hfails, if_pos (h.resolve_left (by omega))]
    exact State.regulatorLost_gone (s := State.pmb
      { s with pace := { s.pace with pmbFails := s.pace.pmbFails + 1 } } [.statusWord, .clearFaults]) hrun hsilent

/-- The transactions of a poll. -/
def pollReads : List PmbCmd := [.readVout, .readIout, .readTemperature]

theorem exec_pmbusPoll {s : State} (hs : s.running = true) (hsilent : s.pace.silent = false) (r : Poll)
    (vout iout temp : Nat) : exec (.pmbusPoll r vout iout temp) s = .next
      (if r.good then ((s.pmb pollReads).polled vout iout temp).modeRead r.mode
        else ((s.pmb pollReads).pmbFailed).readStatus r.fault) := by
  change execPmbusPoll r vout iout temp s = _
  rw [execPmbusPoll, hsilent, hs]
  rfl

/-- VOUT_MODE is taken at start-up, in linear or VID mode (R39). -/
theorem State.modeRead_eq (s : State) (mode : Byte) : s.modeRead mode = { s with pace := { s.pace with
    pmbMode := if s.pace.modeDue = true ∧ mode.toNat / 32 < 2 then mode else s.pace.pmbMode
    modeDue := s.pace.modeDue && !decide (s.pace.modeDue = true ∧ mode.toNat / 32 < 2) } } := by
  have hcond : (s.pace.modeDue && decide (mode.toNat / 32 < 2)) = true ↔
      s.pace.modeDue = true ∧ mode.toNat / 32 < 2 := by
    rw [Bool.and_eq_true, decide_eq_true_eq]
  unfold State.modeRead
  by_cases h : s.pace.modeDue = true ∧ mode.toNat / 32 < 2
  · rw [if_pos (hcond.mpr h), if_pos h, decide_eq_true h, Bool.not_true, Bool.and_false]
  · rw [if_neg (mt hcond.mp h), if_neg h, decide_eq_false h, Bool.not_false, Bool.and_true]

/-- A good poll: the readings, and the setpoint once the output is within 10 mV of it (R37, R39). -/
theorem exec_pmbusPoll_good {s : State} (hs : s.running = true) (hsilent : s.pace.silent = false) (fault : Bool)
    (mode : Byte) (vout iout temp : Nat) :
    exec (.pmbusPoll ⟨true, fault, mode⟩ vout iout temp) s = .next { s with pace := { s.pace with
      pmbFails := 0, pmbVout := vout, pmbIout := iout, pmbTemp := temp, pmbSent := s.sentWith pollReads
      pmbMode := if s.pace.modeDue = true ∧ mode.toNat / 32 < 2 then mode else s.pace.pmbMode
      modeDue := s.pace.modeDue && !decide (s.pace.modeDue = true ∧ mode.toNat / 32 < 2)
      okVdd := if s.pace.vddCin ≤ vout + 10 ∧ vout ≤ s.pace.vddCin + 10 then s.pace.vddCin else s.pace.okVdd } } := by
  rw [exec_pmbusPoll hs hsilent, if_pos rfl, State.modeRead_eq]
  unfold State.polled
  simp only [Bool.and_eq_true, decide_eq_true_eq]
  rfl

theorem exec_pmbusPoll_firstFailure {s : State} (hs : s.running = true) (hsilent : s.pace.silent = false)
    (hfirst : s.pace.pmbFails = 0) (mode : Byte) (vout iout temp : Nat) :
    exec (.pmbusPoll ⟨false, false, mode⟩ vout iout temp) s = .next { s with pace := { s.pace with
      pmbFails := 1, pmbSent := s.sentWith (pollReads ++ [.statusWord, .clearFaults]) } } := by
  have hfails : ¬ 1 ≤ (s.pmb pollReads).pace.pmbFails := by
    change ¬ 1 ≤ s.pace.pmbFails
    omega
  rw [exec_pmbusPoll hs hsilent, if_neg Bool.false_ne_true, State.pmbFailed]
  dsimp only
  rw [if_neg hfails, State.readStatus, if_neg Bool.false_ne_true, ← State.sentWith_append]
  have hone : (s.pmb pollReads).pace.pmbFails + 1 = 1 := congrArg (· + 1) hfirst
  rw [hone]
  rfl

theorem exec_pmbusPoll_lost {s : State} (hrun : s.power.st = .run) (hs : s.running = true)
    (hsilent : s.pace.silent = false) {fault : Bool} (h : 0 < s.pace.pmbFails ∨ fault = true) (mode : Byte)
    (vout iout temp : Nat) :
    ∃ t, exec (.pmbusPoll ⟨false, fault, mode⟩ vout iout temp) s = .next t ∧ s.RegulatorGone t ∧
      t.pace.pmbSent = s.sentWith (pollReads ++ [.statusWord, .clearFaults]) := by
  refine ⟨_, by rw [exec_pmbusPoll hs hsilent, if_neg Bool.false_ne_true],
    State.pmbFailed_gone (s := s.pmb pollReads) hrun hsilent h, ?_⟩
  rw [State.readStatus_sent, State.sentWith_congr (State.pmbFailed_pmb _), State.sentWith_append]

theorem exec_pmbAlertN {s : State} (hs : s.running = true) (fault : Bool) :
    exec (.pmbAlertN fault) s = .next (s.readStatus fault) := by
  change execPmbAlertN fault s = _
  rw [execPmbAlertN, hs]
  rfl

/-- 1 ms after the last try the setpoint is sent again; where that fails, STATUS_WORD is read (R57). -/
theorem exec_regulatorRetry {s : State} (hs : s.running = true) (hsilent : s.pace.silent = true)
    (hdue : s.pace.retryAt ≤ s.now) :
    exec (.regulatorRetry true) s = .next { s with pace := { s.pace with
      silent := false, pmbFails := 0, pmbSent := s.sentWith [.voutCommand s.pace.vddCin] } } ∧
    exec (.regulatorRetry false) s = .next { s with pace := { s.pace with
      retryAt := s.now + 200000
      pmbSent := s.sentWith [.voutCommand s.pace.vddCin, .statusWord, .clearFaults] } } := by
  have hacts : (s.pace.silent && decide (s.pace.retryAt ≤ s.now) && s.running) = true := by
    rw [hsilent, hs, decide_eq_true hdue]
    rfl
  constructor
  · change execRegulatorRetry true s = _
    rw [execRegulatorRetry, hacts]
    rfl
  · change execRegulatorRetry false s = _
    rw [execRegulatorRetry, hacts]
    rfl

/-! ### Placement readings and islands (R51, R193) -/

/-- A table of rows of the same width, row after row. -/
theorem getElem?_flatMap_rows {α : Type} (f : Nat → Nat → α) (k n : Nat) :
    ((List.range n).flatMap fun c => (List.range k).map (f c)).length = n * k ∧
      ∀ c < n, ∀ m < k, ((List.range n).flatMap fun c => (List.range k).map (f c))[k * c + m]? = some (f c m) := by
  induction n with
  | zero => exact ⟨by simp, nofun⟩
  | succ n ih =>
    obtain ⟨hlen, hrows⟩ := ih
    simp only [List.range_succ (n := n), List.flatMap_append, List.flatMap_singleton]
    refine ⟨by simp [hlen, Nat.succ_mul], fun c hc m hm => ?_⟩
    by_cases hcn : c = n
    · subst hcn
      rw [List.getElem?_append_right (by rw [hlen, Nat.mul_comm]; omega), hlen, Nat.mul_comm c k, Nat.add_sub_cancel_left]
      simp [hm]
    · have hin : k * c + m < n * k := by
        calc k * c + m < k * c + k := by omega
          _ = (c + 1) * k := by rw [Nat.succ_mul, Nat.mul_comm]
          _ ≤ n * k := Nat.mul_le_mul_right k (by omega)
      rw [List.getElem?_append_left (by rwa [hlen])]
      exact hrows c (by omega) m hm

/-- The meter readings that dispatchers rank by, four of each court. -/
def State.meterTable (s : State) : List Nat :=
  (List.range 17).flatMap fun c => (List.range 4).map fun m => ((s.court c).meters[m]?).getD 0

theorem exec_placementRefresh {s : State} (hs : s.running = true) {busy : List Nat} (hlen : busy.length = 1088) :
    exec (.placementRefresh busy) s = .next { s with pace := { s.pace with
      placeTemps := s.pace.temps, placePaces := s.meterTable, placeBusy := busy } } := by
  have hbusy : (busy.length == 1088) = true := beq_iff_eq.mpr hlen
  change execPlacementRefresh busy s = _
  rw [execPlacementRefresh, hbusy, hs]
  rfl

theorem exec_islandWake {s : State} (hs : s.running = true) {i : Nat} (hi : i < 12) :
    exec (.islandWake i) s = .next (if i ∈ s.pace.wakeAsked then s.startIsland i else s) := by
  simp [exec, execIslandWake, ok, when_, hi, State.live_of_running hs]

/-! ### The statement -/

/-- The part of the statement that is about one court in a period of the loop. -/
theorem Court.loop_corrects {v : Court} {p : Pace} (hsilent : p.silent = false) {c : Nat} (hc : c < 18) (now : Nat)
    {meters : List Nat} {slow : Nat} (hslow : slow = meters.min?.getD 0) (trim : Int) :
    let w : Court := { v.loop c p now meters with trim := trim }
    let free := v.parked = false ∧ v.ramp = none
    (¬ free → w.rail = v.rail ∧ w.need = v.need) ∧
    (free → 99 * v.eff ≤ 100 * slow → 100 * slow ≤ 104 * v.eff →
      w.need = v.rail ∧ w.rail = min v.rail (p.vddCin - 50)) ∧
    (free → 100 * slow < 99 * v.eff →
      min 1000 (v.rail + 5) ≤ w.need ∧ w.need ≤ min 1000 (v.rail + 50) ∧ w.rail ≤ w.need ∧
        w.rail ≤ max v.rail (min p.vddCin p.okVdd - 50)) ∧
    (free → 104 * v.eff < 100 * slow →
      max 400 (v.rail - 50) ≤ w.need ∧ w.need ≤ max 400 (v.rail - 5) ∧ w.rail ≤ w.need) ∧
    (free → w.bias = if c < 17 ∧ w.rail < 550 then 200 else 0) := by
  intro w free
  have hmeters : ({ v with meters := meters } : Court).slowest = slow :=
    (Court.slowest_eq_min? _).trans hslow.symm
  obtain ⟨hstep, hmost⟩ := Court.correction_bounds { v with meters := meters }
  refine ⟨fun hbusy => Court.loop_of_not_free hbusy c p now meters, fun hfree hlow hhigh => ?_, fun hfree hbelow => ?_,
    fun hfree habove => ?_, fun hfree => ?_⟩ <;>
    obtain ⟨x, want, hx, hwant, hneed, hrail, hbias⟩ := Court.loop_of_free hfree hsilent c now meters
  · have hasked : ({ v with meters := meters } : Court).asked = v.rail :=
      Court.asked_of_within (by rw [hmeters]; exact hlow) (by rw [hmeters]; exact hhigh)
    rw [hwant, hasked] at hneed hrail
    rw [Pace.allows, if_neg (Nat.lt_irrefl _)] at hrail
    exact ⟨(congrArg Court.need hx).trans hneed, (congrArg Court.rail hx).trans hrail⟩
  · have hasked := Court.asked_of_below (v := { v with meters := meters }) (by rw [hmeters]; exact hbelow)
    have hneedW : w.need = want := (congrArg Court.need hx).trans hneed
    have hrailW : w.rail = min want (p.allows v.rail want) := (congrArg Court.rail hx).trans hrail
    rw [hneedW, hrailW, hwant, hasked]
    dsimp only
    unfold Pace.allows Pace.ceiling
    refine ⟨by omega, by omega, Nat.min_le_left _ _, ?_⟩
    split <;> omega
  · have hasked := Court.asked_of_above (v := { v with meters := meters }) (by rw [hmeters]; exact habove)
    have hneedW : w.need = want := (congrArg Court.need hx).trans hneed
    have hrailW : w.rail = min want (p.allows v.rail want) := (congrArg Court.rail hx).trans hrail
    rw [hneedW, hrailW, hwant, hasked]
    dsimp only
    exact ⟨by omega, by omega, Nat.min_le_left _ _⟩
  · have hcourt : c ≠ 17 ↔ c < 17 := by omega
    have hbiasW : w.bias = if c ≠ 17 ∧ w.rail < 550 then 200 else 0 := by
      change (v.loop c p now meters).bias = if c ≠ 17 ∧ (v.loop c p now meters).rail < 550 then 200 else 0
      rw [hx]
      exact hbias
    rw [hbiasW]
    simp only [hcourt]

/-- Settles O40. -/
theorem paceAndRegulator : Obligations.PaceAndRegulator := by
  unfold Obligations.PaceAndRegulator
  constructor
  · intro readings mw s hlen hrun _ hheld trimmed meter slow cap floor
    have hrunning : s.running = true := State.running_iff.mpr ⟨hrun, State.inHold_eq_false hheld⟩
    refine ⟨fun hsilent => ?_, fun c hc halarmed hparked t0 hbelow => exec_paceAlarm hrunning hc halarmed hparked hbelow,
      fun c hc hparked hdelay hlull t0 hsince hlong => exec_courtPark hrunning hc hparked hdelay hlull hsince hlong,
      fun hcap habove => ?_, fun hcap hfloor => ?_, fun hcap hcapping hlow => ?_, fun hcap hcapping => ?_⟩
    · obtain ⟨t, rfl, hvdd, htiles, hrouter, hcourts⟩ := State.paceLoop_outcome hsilent readings
      refine ⟨_, exec_paceLoop hrunning hlen, hvdd, htiles, hrouter, fun c hc => ?_⟩
      rw [hcourts c hc]
      obtain ⟨heff, htarget⟩ := (s.court c).loop_targets c s.pace s.now (s.atBoundary.metersOf readings c)
      exact ⟨heff, htarget, rfl, Court.loop_corrects hsilent hc s.now (slow := slow c) rfl (s.atBoundary.delta 3 c)⟩
    · obtain ⟨t, rfl, h⟩ := State.powerEstimate_lowersCourts hrun hcap habove
      exact ⟨_, exec_powerEstimate hrunning mw, h⟩
    · obtain ⟨t, rfl, hcourts, hengine⟩ := State.powerEstimate_lowersEngine hcap hfloor
      exact ⟨_, exec_powerEstimate hrunning mw, hcourts, by rw [hengine, lower2_zero]⟩
    · obtain ⟨t, rfl, hcourts, hengine⟩ := State.powerEstimate_raisesEngine hcap hcapping hlow
      obtain ⟨hup, hmost⟩ := raise1_bounds hlow
      refine ⟨_, exec_powerEstimate hrunning mw, hcourts, ?_, ?_⟩ <;> rw [hengine]
      · exact hup
      · exact hmost
    · rw [exec_powerEstimate hrunning, State.powerEstimate_within hcap hcapping]
      rfl
  · intro vout iout temp i mode fault busy s hrun _ hheld hi hbusy tx reads asks lost
    have hrunning : s.running = true := State.running_iff.mpr ⟨hrun, State.inHold_eq_false hheld⟩
    refine ⟨fun hsilent => ⟨exec_pmbusPoll_good hrunning hsilent fault mode vout iout temp,
        fun hfirst => exec_pmbusPoll_firstFailure hrunning hsilent hfirst mode vout iout temp,
        fun h => exec_pmbusPoll_lost hrun hrunning hsilent h mode vout iout temp, ?_⟩,
      exec_pmbAlertN hrunning false, fun hsilent hdue => exec_regulatorRetry hrunning hsilent hdue, ?_, fun hasked => ?_,
      fun hnot => ?_⟩
    · exact ⟨_, exec_pmbAlertN hrunning true,
        State.regulatorLost_gone (s := s.pmb [.statusWord, .clearFaults]) hrun hsilent, s.readStatus_sent true⟩
    · obtain ⟨hrows, hrow⟩ := getElem?_flatMap_rows (fun c m => ((s.court c).meters[m]?).getD 0) 4 17
      refine ⟨_, exec_placementRefresh hrunning hbusy, rfl, hrows, fun c hc m hm => ?_, rfl⟩
      exact (congrArg (Option.getD · 0) (hrow c hc m hm) :)
    · rw [exec_islandWake hrunning hi, if_pos hasked]
      rfl
    · rw [exec_islandWake hrunning hi, if_neg hnot]

end Sys2Proof.Machine
end

section
/-! SUPPORT. The operations of the device that touch no tile. -/

namespace Sys2Proof.Machine
open Sys2Proof.Safety

variable (s : State)

@[simp] theorem foldl_tiles {α : Type} (f : State → α → State) (h : ∀ s a, (f s a).tiles = s.tiles) (l : List
    α) (s : State) :
    (l.foldl f s).tiles = s.tiles := by
  induction l generalizing s with
  | nil => rfl
  | cons a r ih => rw [List.foldl_cons, ih, h]
@[simp] theorem ite_tiles (c : Prop) [Decidable c] (a b : State) :
    (if c then a else b).tiles = if c then a.tiles else b.tiles := by split <;> rfl
@[simp] theorem tiles_when (c : Bool) (s' s : State) : (when_ c s' s).tiles = if c then s'.tiles else s.tiles := by
  simp [when_]

/-! ### Machine/Ops.lean -/

@[simp] theorem State.fireAll_tiles (ns) : (s.fireAll ns).tiles = s.tiles := by simp [State.fireAll]
@[simp] theorem State.logAs_tiles (late source unit logical oldCap newCap action arg) :
    (s.logAs late source unit logical oldCap newCap action arg).tiles = s.tiles := by simp [State.logAs]

/-! ### Machine/TileCore.lean -/

@[simp] theorem State.wakeCourt_tiles (c) : (s.wakeCourt c).tiles = s.tiles := by simp [State.wakeCourt]
@[simp] theorem State.noteBad_tiles (p a) : (s.noteBad p a).tiles = s.tiles := by simp [State.noteBad]

/-! ### Machine/Windows.lean -/

@[simp] theorem State.startIsland_tiles (i) : (s.startIsland i).tiles = s.tiles := by simp [State.startIsland]
@[simp] theorem State.crossed_tiles (a) : (s.crossed a).tiles = s.tiles := by
  unfold State.crossed
  (repeat' split) <;> simp
@[simp] theorem State.askWake_tiles (a) : (s.askWake a).tiles = s.tiles := by
  unfold State.askWake
  (repeat' split) <;> simp
@[simp] theorem State.hostError_tiles : s.hostError.tiles = s.tiles := by simp [State.hostError]
@[simp] theorem State.crossFails_tiles (a) : (s.crossFails a).tiles = s.tiles := by simp [State.crossFails]
@[simp] theorem State.answerRead_tiles (by_ v n) : (s.answerRead by_ v n).tiles = s.tiles := by
  simp [State.answerRead]
@[simp] theorem State.failRead_tiles (by_ status) : (s.failRead by_ status).tiles = s.tiles := by
  simp [State.failRead]
@[simp] theorem State.regRead_tiles (by_ dev a n) (f : State → State × Nat) (h : ∀ u, (f u).1.tiles = u.tiles) :
    (s.regRead by_ dev a n f).tiles = s.tiles := by
  simp only [State.regRead]
  (repeat' split) <;> simp [h]

/-! ### Machine/Queues.lean -/

@[simp] theorem State.writeBuf_tiles (a bytes) : (s.writeBuf a bytes).tiles = s.tiles := by simp [State.writeBuf]
@[simp] theorem State.take_tiles (o) : (s.take o).1.tiles = s.tiles := by simp [State.take]
@[simp] theorem State.poolRefuse_tiles (cause op caller handle) :
    (s.poolRefuse cause op caller handle).tiles = s.tiles := by simp [State.poolRefuse]
@[simp] theorem State.poolFreeOp_tiles (caller handle) : (s.poolFreeOp caller handle).tiles = s.tiles := by
  simp [State.poolFreeOp]
@[simp] theorem State.poolGiveOp_tiles (caller handle owner) :
    (s.poolGiveOp caller handle owner).tiles = s.tiles := by simp [State.poolGiveOp]
@[simp] theorem State.readTake_tiles (owner srcId srcPhys tag) :
    (s.readTake owner srcId srcPhys tag).1.tiles = s.tiles := by
  unfold State.readTake
  (repeat' split) <;> simp
@[simp] theorem State.queueNotices_tiles (q a b) : (s.queueNotices q a b).tiles = s.tiles := by
  simp [State.queueNotices]
@[simp] theorem State.qRefuse_tiles (q) : (s.qRefuse q).tiles = s.tiles := by simp [State.qRefuse]
@[simp] theorem State.qPop_tiles (q) : (s.qPop q).1.tiles = s.tiles := by simp [State.qPop]
@[simp] theorem State.readPop_tiles (q srcId srcPhys tag) : (s.readPop q srcId srcPhys tag).1.tiles = s.tiles := by
  unfold State.readPop
  (repeat' split) <;> simp
@[simp] theorem State.qFlush_tiles (q) : (s.qFlush q).tiles = s.tiles := by simp [State.qFlush]
@[simp] theorem State.setQResult_tiles (q p r) : (s.setQResult q p r).tiles = s.tiles := by simp [State.setQResult]
@[simp] theorem State.gatePop_tiles (q p opnum) : (s.gatePop q p opnum).1.tiles = s.tiles := by simp [State.gatePop]
@[simp] theorem byTile_tiles (p : Nat) (s' s : State) :
    (byTile p s' s).tiles = if s.gated p then s'.tiles else s.tiles := by simp [byTile]

/-! ### Machine/Dispatcher.lean -/

@[simp] theorem State.dReady_tiles (c n) : (s.dReady c n).1.tiles = s.tiles := by simp [State.dReady]
@[simp] theorem State.dTdone_tiles (c p) : (s.dTdone c p).tiles = s.tiles := by
  unfold State.dTdone
  (repeat' split) <;> simp
@[simp] theorem State.setDResult_tiles (c p r) : (s.setDResult c p r).tiles = s.tiles := by simp [State.setDResult]
@[simp] theorem State.gateReady_tiles (c n p opnum) : (s.gateReady c n p opnum).1.tiles = s.tiles := by
  simp [State.gateReady]
@[simp] theorem State.beaten_tiles (c) : (s.beaten c).tiles = s.tiles := by simp [State.beaten]
@[simp] theorem State.gateBeaten_tiles (c p opnum) : (s.gateBeaten c p opnum).1.tiles = s.tiles := by
  simp [State.gateBeaten]
@[simp] theorem State.gateTdone_tiles (c p opnum) : (s.gateTdone c p opnum).1.tiles = s.tiles := by
  simp [State.gateTdone]
@[simp] theorem State.dropTask_tiles (t) : (s.dropTask t).tiles = s.tiles := by
  simp only [State.dropTask]
  (repeat' split) <;> simp

/-! ### Machine/Interface.lean -/

@[simp] theorem State.setDuplex_tiles (t d) : (s.setDuplex t d).tiles = s.tiles := by simp [State.setDuplex]
@[simp] theorem State.setCatchUp_tiles (p d) : (s.setCatchUp p d).tiles = s.tiles := by simp [State.setCatchUp]
@[simp] theorem State.noteBench_tiles (n) : (s.noteBench n).tiles = s.tiles := by
  simp only [State.noteBench]
  (repeat' split) <;> simp
@[simp] theorem State.withBench_tiles (f : State → State) (h : (f s).tiles = s.tiles) :
    (s.withBench f).tiles = s.tiles := by exact (State.noteBench_tiles _ _).trans h
@[simp] theorem State.fence_tiles (p) : (s.fence p).tiles = s.tiles := by simp [State.fence]
@[simp] theorem State.absorb_tiles (p tag data) : (s.absorb p tag data).tiles = s.tiles := by simp [State.absorb]
@[simp] theorem State.fly_tiles (m) : (s.fly m).tiles = s.tiles := by simp [State.fly]
@[simp] theorem State.noteOutcome_tiles (p tag bs) : (s.noteOutcome p tag bs).tiles = s.tiles := by
  unfold State.noteOutcome
  (repeat' split) <;> simp
@[simp] theorem State.noteFailure_tiles (p tag status) : (s.noteFailure p tag status).tiles = s.tiles := by
  unfold State.noteFailure
  split
  · split <;> simp
  · rfl
@[simp] theorem State.noteDone_tiles (p tag) : (s.noteDone p tag).tiles = s.tiles := by
  unfold State.noteDone
  (repeat' split) <;> simp
@[simp] theorem State.staleDrop_tiles (m court) : (s.staleDrop m court).tiles = s.tiles := by simp [State.staleDrop]

/-! ### Machine/EventRouter.lean -/

@[simp] theorem State.hostVector_tiles (v) : (s.hostVector v).tiles = s.tiles := by simp [State.hostVector]
@[simp] theorem State.startDelivery_tiles (n) : (s.startDelivery n).tiles = s.tiles := by simp [State.startDelivery]
@[simp] theorem State.confirmDelivery_tiles (n) : (s.confirmDelivery n).tiles = s.tiles := by
  simp [State.confirmDelivery]
@[simp] theorem State.dropDelivery_tiles (n) : (s.dropDelivery n).tiles = s.tiles := by simp [State.dropDelivery]
@[simp] theorem State.deliveryError_tiles (n status) : (s.deliveryError n status).tiles = s.tiles := by
  simp [State.deliveryError]
@[simp] theorem State.deliveryRetry_tiles (n may) : (s.deliveryRetry n may).tiles = s.tiles := by
  simp [State.deliveryRetry]
@[simp] theorem State.evrProt_tiles : s.evrProt.tiles = s.tiles := by simp [State.evrProt]
@[simp] theorem State.evrRefuse_tiles (cause master n) : (s.evrRefuse cause master n).tiles = s.tiles := by
  simp [State.evrRefuse]
@[simp] theorem State.writeTgt_tiles (master n v) : (s.writeTgt master n v).tiles = s.tiles := by
  simp [State.writeTgt]
@[simp] theorem State.writeFired_tiles (master w v) : (s.writeFired master w v).tiles = s.tiles := by
  simp [State.writeFired]
@[simp] theorem State.writeHold_tiles (master g v) : (s.writeHold master g v).tiles = s.tiles := by
  simp [State.writeHold]

/-! ### Machine/TimeUnit.lean -/

@[simp] theorem State.traceSync_tiles : s.traceSync.tiles = s.tiles := by simp [State.traceSync]
@[simp] theorem State.fireAlarm_tiles (k late stepped) : (s.fireAlarm k late stepped).tiles = s.tiles := by
  simp [State.fireAlarm]
@[simp] theorem State.stepAlarms_tiles (old late) : (s.stepAlarms old late).tiles = s.tiles := by
  simp [State.stepAlarms]
@[simp] theorem State.timeBad_tiles : s.timeBad.tiles = s.tiles := by simp [State.timeBad]
@[simp] theorem State.plainTick_tiles : s.plainTick.tiles = s.tiles := by simp [State.plainTick]
@[simp] theorem State.applyCommit_tiles (c) : (s.applyCommit c).tiles = s.tiles := by
  simp only [State.applyCommit]
  (repeat' split) <;> simp
@[simp] theorem State.writeCommit_tiles (master code) : (s.writeCommit master code).tiles = s.tiles := by
  simp [State.writeCommit]
@[simp] theorem State.writeRate_tiles (master v) : (s.writeRate master v).tiles = s.tiles := by simp [State.writeRate]
@[simp] theorem State.startSlew_tiles (offset) : (s.startSlew offset).tiles = s.tiles := by simp [State.startSlew]
@[simp] theorem State.alarmHeld_tiles : s.alarmHeld.tiles = s.tiles := by simp [State.alarmHeld]
@[simp] theorem State.writeAlmCtl_tiles (master k v) : (s.writeAlmCtl master k v).tiles = s.tiles := by
  simp [State.writeAlmCtl]
@[simp] theorem State.writeAlm_tiles (master k off v) : (s.writeAlm master k off v).tiles = s.tiles := by
  simp [State.writeAlm]
@[simp] theorem State.anchor_tiles : s.anchor.tiles = s.tiles := by simp [State.anchor]
@[simp] theorem State.carry_tiles : s.carry.tiles = s.tiles := by simp [State.carry]
@[simp] theorem State.sampleTime_tiles : s.sampleTime.tiles = s.tiles := by simp [State.sampleTime]
@[simp] theorem State.sampleAon_tiles (lag) : (s.sampleAon lag).tiles = s.tiles := by simp [State.sampleAon]

/-! ### Machine/FieldIo.lean -/

@[simp] theorem State.fioRefuse_tiles (cause block master offset) :
    (s.fioRefuse cause block master offset).tiles = s.tiles := by simp [State.fioRefuse]
@[simp] theorem State.seePad_tiles (n) : (s.seePad n).tiles = s.tiles := by simp [State.seePad]
@[simp] theorem State.padChange_tiles (n mv) : (s.padChange n mv).tiles = s.tiles := by simp [State.padChange]
@[simp] theorem State.captureEdge_tiles (n rising) : (s.captureEdge n rising).tiles = s.tiles := by
  simp [State.captureEdge]
@[simp] theorem State.pinEdge_tiles (n) : (s.pinEdge n).tiles = s.tiles := by simp [State.pinEdge]
@[simp] theorem State.mapPins_tiles (f : Nat → Pin → Pin) : (s.mapPins f).tiles = s.tiles := by simp [State.mapPins]
@[simp] theorem State.safeAll_tiles (c) : (s.safeAll c).tiles = s.tiles := by simp [State.safeAll]
@[simp] theorem State.safeEnd_tiles (c) : (s.safeEnd c).tiles = s.tiles := by simp [State.safeEnd]
@[simp] theorem State.writePinCfg_tiles (master n w) : (s.writePinCfg master n w).tiles = s.tiles := by
  simp [State.writePinCfg]
@[simp] theorem State.writePinBits_tiles (master w v set) : (s.writePinBits master w v set).tiles = s.tiles := by
  simp [State.writePinBits]
@[simp] theorem State.writePinReg_tiles (master n off w) : (s.writePinReg master n off w).tiles = s.tiles := by
  simp [State.writePinReg]
@[simp] theorem State.bankAt_tiles (b mv) : (s.bankAt b mv).tiles = s.tiles := by simp [State.bankAt]
@[simp] theorem State.chainTo_tiles (n a) : (s.chainTo n a).tiles = s.tiles := by simp [State.chainTo]
@[simp] theorem State.chainEvents_tiles (n t) : (s.chainEvents n t).tiles = s.tiles := by
  simp only [State.chainEvents]
  refine foldl_tiles _ (fun u a => ?_) _ _
  (repeat' split) <;> simp
@[simp] theorem State.timerEvents_tiles (n t) : (s.timerEvents n t).tiles = s.tiles := by simp [State.timerEvents]
@[simp] theorem State.capture_tiles (n) : (s.capture n).tiles = s.tiles := by simp [State.capture]
@[simp] theorem State.writeShadow_tiles (master n reg v) : (s.writeShadow master n reg v).tiles = s.tiles := by
  simp [State.writeShadow]
@[simp] theorem State.writeCnt_tiles (master n v) : (s.writeCnt master n v).tiles = s.tiles := by
  simp [State.writeCnt]
@[simp] theorem State.writeCtl_tiles (master n v) : (s.writeCtl master n v).tiles = s.tiles := by
  simp [State.writeCtl]
@[simp] theorem State.writeTmr_tiles (master n off v) : (s.writeTmr master n off v).tiles = s.tiles := by
  unfold State.writeTmr
  (repeat' split) <;> simp
@[simp] theorem State.writeSerTx_tiles (master e v) : (s.writeSerTx master e v).tiles = s.tiles := by
  simp [State.writeSerTx]
@[simp] theorem State.writeSerCtl_tiles (master e v) : (s.writeSerCtl master e v).tiles = s.tiles := by
  simp [State.writeSerCtl]
@[simp] theorem State.writeSer_tiles (master e off v) : (s.writeSer master e off v).tiles = s.tiles := by
  unfold State.writeSer
  (repeat' split) <;> simp
@[simp] theorem State.readSer_tiles (e) : (s.readSer e).1.tiles = s.tiles := by simp [State.readSer]
@[simp] theorem State.serUnit_tiles (e u) : (s.serUnit e u).tiles = s.tiles := by simp [State.serUnit]

/-! ### Machine/EngineIn.lean -/

@[simp] theorem State.setEngine_tiles (e) : (s.setEngine e).tiles = s.tiles := by simp [State.setEngine]
@[simp] theorem State.engErr_tiles (bit) : (s.engErr bit).tiles = s.tiles := by simp [State.engErr]
@[simp] theorem State.writeModel_tiles (addr data) : (s.writeModel addr data).1.tiles = s.tiles := by
  simp [State.writeModel]
@[simp] theorem State.freeBufs_tiles (l) : (s.freeBufs l).tiles = s.tiles := by simp [State.freeBufs]
@[simp] theorem State.startWait_tiles : s.startWait.tiles = s.tiles := by simp [State.startWait]
@[simp] theorem State.countStall_tiles : s.countStall.tiles = s.tiles := by
  unfold State.countStall
  (repeat' split) <;> simp
@[simp] theorem State.endWait_tiles : s.endWait.tiles = s.tiles := by
  unfold State.endWait
  (repeat' split) <;> simp
@[simp] theorem State.notePushed_tiles (e) : (s.notePushed e).tiles = s.tiles := by simp [State.notePushed]

/-! ### Machine/Engine.lean -/

@[simp] theorem State.tryExchange_tiles : s.tryExchange.tiles = s.tiles := by simp [State.tryExchange]
@[simp] theorem State.markMixed_tiles (k) : (s.markMixed k).tiles = s.tiles := by simp [State.markMixed]
@[simp] theorem State.lineDone_tiles (bank k b) : (s.lineDone bank k b).tiles = s.tiles := by simp [State.lineDone]
@[simp] theorem State.lateFrame_tiles (k h) : (s.lateFrame k h).tiles = s.tiles := by simp [State.lateFrame]
@[simp] theorem State.stopStream_tiles (k) : (s.stopStream k).tiles = s.tiles := by simp [State.stopStream]
@[simp] theorem State.writeEngReturn_tiles (master v) : (s.writeEngReturn master v).tiles = s.tiles := by
  simp [State.writeEngReturn]

/-! ### Machine/Resets.lean -/

@[simp] theorem State.bootUp_tiles (forceOther) : (s.bootUp forceOther).tiles = s.tiles := by simp [State.bootUp]
@[simp] theorem State.unpreempt_tiles (ch) : (s.unpreempt ch).tiles = s.tiles := by
  simp only [State.unpreempt]
  refine foldl_tiles _ (fun u a => ?_) _ _
  simp
@[simp] theorem State.chanReset_tiles (ch) : (s.chanReset ch).tiles = s.tiles := by simp [State.chanReset]
@[simp] theorem State.safeRouted_tiles (func i) : (s.safeRouted func i).tiles = s.tiles := by simp [State.safeRouted]
@[simp] theorem State.releasePin_tiles (n) : (s.releasePin n).tiles = s.tiles := by simp [State.releasePin]
@[simp] theorem State.releaseTimer_tiles (n) : (s.releaseTimer n).tiles = s.tiles := by simp [State.releaseTimer]
@[simp] theorem State.releaseSer_tiles (e) : (s.releaseSer e).tiles = s.tiles := by simp [State.releaseSer]
@[simp] theorem State.releaseChan_tiles (ch) : (s.releaseChan ch).tiles = s.tiles := by simp [State.releaseChan]
@[simp] theorem State.releaseAll_tiles (o) : (s.releaseAll o).tiles = s.tiles := by simp [State.releaseAll]
@[simp] theorem State.restartDone_tiles : s.restartDone.tiles = s.tiles := by simp [State.restartDone]
@[simp] theorem State.letGo_tiles (why) : (s.letGo why).tiles = s.tiles := by simp [State.letGo]
@[simp] theorem State.endCommand_tiles (m status) : (s.endCommand m status).tiles = s.tiles := by
  simp [State.endCommand]
@[simp] theorem State.abortAllMbx_tiles : s.abortAllMbx.tiles = s.tiles := by simp [State.abortAllMbx]
@[simp] theorem State.endRequests_tiles (p : Msg → Bool) : (s.endRequests p).tiles = s.tiles := by
  simp [State.endRequests]
@[simp] theorem State.endReached_tiles (p : Msg → Bool) : (s.endReached p).tiles = s.tiles := by
  simp [State.endReached]
@[simp] theorem State.mgmtRestart_tiles (other) : (s.mgmtRestart other).tiles = s.tiles := by simp [State.mgmtRestart]

/-! ### Machine/Faults.lean -/

@[simp] theorem State.remap_tiles (t old new) : (s.remap t old new).tiles = s.tiles := by simp [State.remap]
@[simp] theorem State.releaseLogical_tiles (t) : (s.releaseLogical t).tiles = s.tiles := by
  simp [State.releaseLogical]
@[simp] theorem State.noSpare_tiles (t p) : (s.noSpare t p).tiles = s.tiles := by simp [State.noSpare]
@[simp] theorem State.releaseHeld_tiles (d) : (s.releaseHeld d).tiles = s.tiles := by
  simp only [State.releaseHeld]
  refine foldl_tiles _ (fun u a => ?_) _ _
  (repeat' split) <;> simp
@[simp] theorem State.reportTile_tiles (source p arg) : (s.reportTile source p arg).tiles = s.tiles := by
  simp [State.reportTile]
@[simp] theorem State.portDies_tiles (p dead) : (s.portDies p dead).tiles = s.tiles := by simp [State.portDies]
@[simp] theorem State.abortCrossing_tiles (i) : (s.abortCrossing i).tiles = s.tiles := by simp [State.abortCrossing]
@[simp] theorem State.fenceMover_tiles (e) : (s.fenceMover e).tiles = s.tiles := by simp [State.fenceMover]

/-! ### Machine/Pace.lean -/

@[simp] theorem State.pmb_tiles (cs) : (s.pmb cs).tiles = s.tiles := by simp [State.pmb]
@[simp] theorem State.setVdd_tiles (mv) : (s.setVdd mv).tiles = s.tiles := by simp [State.setVdd]
@[simp] theorem State.paceLoop_tiles (l) : (s.paceLoop l).tiles = s.tiles := by
  simp only [State.paceLoop]
  split <;> (try simp only [State.setVdd_tiles]) <;> exact foldl_tiles _ (fun _ _ => by simp) _ _
@[simp] theorem State.tickRails_tiles : s.tickRails.tiles = s.tiles := by simp [State.tickRails]
@[simp] theorem State.mapEff_tiles (f : Court → Nat) : (s.mapEff f).tiles = s.tiles := by
  simp only [State.mapEff]
  refine foldl_tiles _ (fun u a => ?_) _ _
  simp
@[simp] theorem State.capDown_tiles : s.capDown.tiles = s.tiles := by simp [State.capDown]
@[simp] theorem State.capUp_tiles : s.capUp.tiles = s.tiles := by simp [State.capUp]
@[simp] theorem State.powerEstimate_tiles (mw) : (s.powerEstimate mw).tiles = s.tiles := by simp [State.powerEstimate]
@[simp] theorem State.regulatorLost_tiles : s.regulatorLost.tiles = s.tiles := by
  simp only [State.regulatorLost, State.fireIf_tiles]
  refine foldl_tiles _ (fun u a => ?_) _ _
  simp
@[simp] theorem State.readStatus_tiles (fault) : (s.readStatus fault).tiles = s.tiles := by simp [State.readStatus]
@[simp] theorem State.polled_tiles (vout iout temp) : (s.polled vout iout temp).tiles = s.tiles := by
  simp [State.polled]
@[simp] theorem State.modeRead_tiles (mode) : (s.modeRead mode).tiles = s.tiles := by simp [State.modeRead]
@[simp] theorem State.pmbFailed_tiles : s.pmbFailed.tiles = s.tiles := by simp [State.pmbFailed]

/-! ### Machine/Link.lean -/

@[simp] theorem State.setFabric_tiles (f) : (s.setFabric f).tiles = s.tiles := by simp [State.setFabric]
@[simp] theorem State.pumpPort_tiles (p) : (s.pumpPort p).tiles = s.tiles := by simp [State.pumpPort]
@[simp] theorem State.linkSend_tiles (p k) : (s.linkSend p k).tiles = s.tiles := by simp [State.linkSend]
@[simp] theorem State.routeOut_tiles (inP k) : (s.routeOut inP k).1.tiles = s.tiles := by simp [State.routeOut]
@[simp] theorem State.partDone_tiles (ftag status data) : (s.partDone ftag status data).tiles = s.tiles := by
  simp only [State.partDone]
  (repeat' split) <;> simp
@[simp] theorem State.failPacket_tiles (k) : (s.failPacket k).tiles = s.tiles := by simp [State.failPacket]
@[simp] theorem State.sendParts_tiles (m id l) : (s.sendParts m id l).tiles = s.tiles := by
  induction l generalizing s with
  | nil => rfl
  | cons h r ih => obtain ⟨i, t, part⟩ := h; simp [State.sendParts, ih]
@[simp] theorem State.toHub_tiles (m) : (s.toHub m).tiles = s.tiles := by
  unfold State.toHub
  (repeat' split) <;> simp
@[simp] theorem State.serveReq_tiles (p k) : (s.serveReq p k).tiles = s.tiles := by
  simp only [State.serveReq]
  (repeat' split) <;> simp
@[simp] theorem State.hubAnswer_tiles (x st data) : (s.hubAnswer x st data).tiles = s.tiles := by
  simp [State.hubAnswer]
@[simp] theorem State.hubDone_tiles (r) : (s.hubDone r).tiles = s.tiles := by
  unfold State.hubDone
  (repeat' split) <;> simp
@[simp] theorem State.dropPort_tiles (p) : (s.dropPort p).tiles = s.tiles := by simp [State.dropPort]
@[simp] theorem State.replayPort_tiles (p) : (s.replayPort p).tiles = s.tiles := by simp [State.replayPort]
@[simp] theorem State.member_tiles (dest b) : (s.member dest b).tiles = s.tiles := by simp [State.member]
@[simp] theorem State.tellSentOff_tiles (d) : (s.tellSentOff d).tiles = s.tiles := by simp [State.tellSentOff]
@[simp] theorem State.sendLink_tiles (p nak) : (s.sendLink p nak).tiles = s.tiles := by simp [State.sendLink]
@[simp] theorem State.tickLinks_tiles : s.tickLinks.tiles = s.tiles := by simp [State.tickLinks]
@[simp] theorem State.takePacket_tiles (p k) : (s.takePacket p k).1.tiles = s.tiles := by simp [State.takePacket]
@[simp] theorem State.passOn_tiles (p k) : (s.passOn p k).tiles = s.tiles := by simp [State.passOn]

/-! ### Machine/Members.lean -/

@[simp] theorem State.enableStream_tiles (k) : (s.enableStream k).1.tiles = s.tiles := by simp [State.enableStream]
@[simp] theorem State.flood_tiles (inP ports k) : (s.flood inP ports k).tiles = s.tiles := by simp [State.flood]
@[simp] theorem State.announce_tiles (k) : (s.announce k).tiles = s.tiles := by simp [State.announce]
@[simp] theorem State.markOut_tiles (d) : (s.markOut d).tiles = s.tiles := by simp [State.markOut]
@[simp] theorem State.fwLost_tiles (d announced own) : (s.fwLost d announced own).tiles = s.tiles := by
  simp [State.fwLost]
@[simp] theorem State.fwRejoined_tiles (d own) : (s.fwRejoined d own).tiles = s.tiles := by simp [State.fwRejoined]
@[simp] theorem State.fwNotice_tiles (src seq k) : (s.fwNotice src seq k).tiles = s.tiles := by simp [State.fwNotice]
@[simp] theorem State.fwTables_tiles (t) : (s.fwTables t).tiles = s.tiles := by simp [State.fwTables]
@[simp] theorem State.confirmTo_tiles (d number) : (s.confirmTo d number).tiles = s.tiles := by simp [State.confirmTo]
@[simp] theorem State.confirmed_tiles (captain number cap epoch noticeSeq) :
    (s.confirmed captain number cap epoch noticeSeq).tiles = s.tiles := by
  simp only [State.confirmed]
  (repeat' split) <;> simp
@[simp] theorem State.fwSentOff_tiles (p) : (s.fwSentOff p).tiles = s.tiles := by simp [State.fwSentOff]
@[simp] theorem State.syncTo_tiles (offset) : (s.syncTo offset).tiles = s.tiles := by simp [State.syncTo]
@[simp] theorem State.acceptBeacon_tiles (p k residence) : (s.acceptBeacon p k residence).tiles = s.tiles := by
  simp [State.acceptBeacon]

/-! ### Machine/Mailbox.lean -/

@[simp] theorem State.mbxForeign_tiles (m) : (s.mbxForeign m).tiles = s.tiles := by simp [State.mbxForeign]
@[simp] theorem State.setMbxTarget_tiles (m tile) : (s.setMbxTarget m tile).tiles = s.tiles := by
  unfold State.setMbxTarget
  (repeat' split) <;> simp
@[simp] theorem State.releaseMbx_tiles (m) : (s.releaseMbx m).tiles = s.tiles := by simp [State.releaseMbx]
@[simp] theorem State.doorbell_tiles (m dev master v) : (s.doorbell m dev master v).tiles = s.tiles := by
  simp [State.doorbell]
@[simp] theorem State.requestAbort_tiles (m status) : (s.requestAbort m status).tiles = s.tiles := by
  simp [State.requestAbort]
@[simp] theorem State.writeAbort_tiles (m dev master v) : (s.writeAbort m dev master v).tiles = s.tiles := by
  simp [State.writeAbort]
@[simp] theorem State.writeGive_tiles (m dev master v) : (s.writeGive m dev master v).tiles = s.tiles := by
  simp [State.writeGive]
@[simp] theorem State.readMbxTake_tiles (m dev srcId srcPhys tag) :
    (s.readMbxTake m dev srcId srcPhys tag).1.tiles = s.tiles := by
  simp only [State.readMbxTake]
  (repeat' split) <;> simp

/-! ### Machine/CmdCore.lean -/

@[simp] theorem State.persist_tiles (t) : (s.persist t).tiles = s.tiles := by
  unfold State.persist
  (repeat' split) <;> simp
@[simp] theorem State.giveRes_tiles (kind o i) : (s.giveRes kind o i).tiles = s.tiles := by
  unfold State.giveRes
  (repeat' split) <;> simp
@[simp] theorem State.freeRes_tiles (kind i) : (s.freeRes kind i).tiles = s.tiles := by
  unfold State.freeRes
  (repeat' split) <;> simp

/-! ### Machine/CmdUpdate.lean -/

@[simp] theorem State.setBoot_tiles (b) : (s.setBoot b).tiles = s.tiles := by simp [State.setBoot]
@[simp] theorem State.setUpdateBox_tiles (b) : (s.setUpdateBox b).tiles = s.tiles := by simp [State.setUpdateBox]
@[simp] theorem State.confirmTrial_tiles : s.confirmTrial.tiles = s.tiles := by simp [State.confirmTrial]
@[simp] theorem State.setCalBox_tiles (b) : (s.setCalBox b).tiles = s.tiles := by simp [State.setCalBox]

/-! ### Machine/CmdFault.lean -/

@[simp] theorem State.retire_tiles (p) : (s.retire p).tiles = s.tiles := by simp [State.retire]
@[simp] theorem State.retireLogical_tiles (u) : (s.retireLogical u).tiles = s.tiles := by
  unfold State.retireLogical
  (repeat' split) <;> simp

/-! ### Machine/CmdEngine.lean -/

@[simp] theorem State.setModelBox_tiles (b) : (s.setModelBox b).tiles = s.tiles := by simp [State.setModelBox]
@[simp] theorem State.join_tiles (m p) : (s.join m p).tiles = s.tiles := by simp [State.join]

/-! ### Machine/Ports.lean -/

@[simp] theorem State.feedCount_tiles (f k) : (s.feedCount f k).tiles = s.tiles := by simp [State.feedCount]
@[simp] theorem State.feedSend_tiles (f k) : (s.feedSend f k).tiles = s.tiles := by simp [State.feedSend]
@[simp] theorem State.ptpFrame_tiles (f frame st) : (s.ptpFrame f frame st).tiles = s.tiles := by
  simp only [State.ptpFrame]
  (repeat' split) <;> simp
@[simp] theorem State.arpFrame_tiles (f frame) : (s.arpFrame f frame).tiles = s.tiles := by
  unfold State.arpFrame
  simp
@[simp] theorem State.tickFeedTx_tiles (f) : (s.tickFeedTx f).tiles = s.tiles := by simp [State.tickFeedTx]
@[simp] theorem State.firmwareFrees_tiles (f) : (s.firmwareFrees f).tiles = s.tiles := by simp [State.firmwareFrees]
@[simp] theorem State.passToFirmware_tiles (f h frame st) : (s.passToFirmware f h frame st).tiles = s.tiles := by
  simp [State.passToFirmware]
@[simp] theorem State.closeHostWindows_tiles : s.closeHostWindows.tiles = s.tiles := by simp [State.closeHostWindows]
@[simp] theorem State.hostReset_tiles (c) : (s.hostReset c).tiles = s.tiles := by simp [State.hostReset]
@[simp] theorem State.aerLog_tiles (v) : (s.aerLog v).tiles = s.tiles := by simp [State.aerLog]
@[simp] theorem State.unsupported_tiles (a) : (s.unsupported a).tiles = s.tiles := by simp [State.unsupported]
@[simp] theorem State.configWrite_tiles (w) : (s.configWrite w).tiles = s.tiles := by
  unfold State.configWrite
  (repeat' split) <;> simp
@[simp] theorem State.dropSvc_tiles : s.dropSvc.tiles = s.tiles := by simp [State.dropSvc]
@[simp] theorem State.writeLog_tiles : s.writeLog.tiles = s.tiles := by simp [State.writeLog]
@[simp] theorem State.sendConsole_tiles : s.sendConsole.tiles = s.tiles := by simp [State.sendConsole]
@[simp] theorem State.tickLog_tiles : s.tickLog.tiles = s.tiles := by simp [State.tickLog]
@[simp] theorem State.bulkCommand_tiles (bytes) : (s.bulkCommand bytes).tiles = s.tiles := by simp [State.bulkCommand]

/-! ### Machine/Power.lean -/

@[simp] theorem State.haltUnits_tiles (on) : (s.haltUnits on).tiles = s.tiles := by simp [State.haltUnits]
@[simp] theorem State.portsDown_tiles (emulated) : (s.portsDown emulated).tiles = s.tiles := by simp [State.portsDown]
@[simp] theorem State.sleepRails_tiles (off) : (s.sleepRails off).tiles = s.tiles := by
  simp only [State.sleepRails]
  (repeat' split) <;> (try simp only [State.setVdd_tiles, State.pmb_tiles]) <;>
    exact foldl_tiles _ (fun _ _ => by simp) _ _
@[simp] theorem State.settleTime_tiles : s.settleTime.tiles = s.tiles := by
  unfold State.settleTime
  (repeat' split) <;> simp
@[simp] theorem State.enterSleep_tiles (st keep cfg w) : (s.enterSleep st keep cfg w).tiles = s.tiles := by
  have h : ∀ (g : Nat → Alarm → Alarm) (v : State),
      ((List.range 8).foldl (fun (u : State) k => u.setAlarm k (g k (u.alarm k))) v).tiles = v.tiles := by
    intro g v
    refine foldl_tiles _ (fun u a => ?_) _ _
    simp
  have h1 := h fun k a => { a with converted := a.armed && bitq cfg (8 + k) }
  simp only [State.enterSleep]
  split <;> simp [h1]
@[simp] theorem State.wakeFrom_tiles (w) : (s.wakeFrom w).tiles = s.tiles := by
  unfold State.wakeFrom
  (repeat' split) <;> simp
@[simp] theorem State.wakeRails_tiles : s.wakeRails.tiles = s.tiles := by
  simp only [State.wakeRails]
  split <;> (try simp only [State.setVdd_tiles]) <;> exact foldl_tiles _ (fun _ _ => by simp) _ _
@[simp] theorem State.endCycle_tiles : s.endCycle.tiles = s.tiles := by
  simp only [State.endCycle]
  exact foldl_tiles _ (fun _ _ => by simp) _ _
@[simp] theorem State.fireConverted_tiles (old) : (s.fireConverted old).tiles = s.tiles := by
  simp [State.fireConverted]
@[simp] theorem State.setS_tiles (i v) : (s.setS i v).tiles = s.tiles := by simp [State.setS]
@[simp] theorem State.drizDrive_tiles (n v) : (s.drizDrive n v).tiles = s.tiles := by simp [State.drizDrive]
@[simp] theorem State.takeKept_tiles (d) : (s.takeKept d).tiles = s.tiles := foldl_tiles _ (fun _ _ => by simp) _ _
@[simp] theorem State.slotSignals_tiles (slot) : (s.slotSignals slot).tiles = s.tiles := by simp [State.slotSignals]
@[simp] theorem State.takeSlot_tiles (slot) : (s.takeSlot slot).tiles = s.tiles := by simp [State.takeSlot]
@[simp] theorem State.openCycle_tiles (d) : (s.openCycle d).tiles = s.tiles := by simp [State.openCycle]
@[simp] theorem State.xferOut_tiles (x) : (s.xferOut x).tiles = s.tiles := by
  unfold State.xferOut
  split
  · rfl
  · exact (foldl_tiles _ (fun _ _ => by split <;> simp) _ _).trans rfl
@[simp] theorem State.runSteps_tiles (i rx l) : (s.runSteps i rx l).tiles = s.tiles := by
  induction l generalizing s i rx with
  | nil => simp [State.runSteps]
  | cons h r ih =>
    simp only [State.runSteps]
    split <;> simp [ih]
@[simp] theorem State.drizzleStart_tiles (d rx) : (s.drizzleStart d rx).tiles = s.tiles := by
  unfold State.drizzleStart
  (repeat' split) <;> simp

/-! ### Machine/TileSys.lean -/

@[simp] theorem State.noteFails_tiles (p addr arg l) : (s.noteFails p addr arg l).tiles = s.tiles := by
  simp only [State.noteFails]
  refine foldl_tiles _ (fun u a => ?_) _ _
  (repeat' split) <;> simp

/-! ### Machine/Debug.lean -/

@[simp] theorem State.setPath_tiles (m d) : (s.setPath m d).tiles = s.tiles := by simp [State.setPath]
@[simp] theorem State.traceFrost_tiles (on) : (s.traceFrost on).tiles = s.tiles := by simp [State.traceFrost]
@[simp] theorem State.enterFrost_tiles : s.enterFrost.tiles = s.tiles := by simp [State.enterFrost]
@[simp] theorem State.shiftTimes_tiles (d) : (s.shiftTimes d).tiles = s.tiles := by simp [State.shiftTimes]
@[simp] theorem State.lateAlarms_tiles : s.lateAlarms.tiles = s.tiles := by simp [State.lateAlarms]
@[simp] theorem State.leaveFrost_tiles : s.leaveFrost.tiles = s.tiles := by simp [State.leaveFrost]
@[simp] theorem State.dbgName_tiles (t) : (s.dbgName t).tiles = s.tiles := by simp [State.dbgName]
@[simp] theorem State.askHalt_tiles (p on) : (s.askHalt p on).tiles = s.tiles := by simp [State.askHalt]
@[simp] theorem State.setPatch_tiles (u v) : (s.setPatch u v).tiles = s.tiles := by simp [State.setPatch]
@[simp] theorem State.writePatchAddr_tiles (u v) : (s.writePatchAddr u v).tiles = s.tiles := by
  simp [State.writePatchAddr]
@[simp] theorem State.writePatchData_tiles (u v) : (s.writePatchData u v).tiles = s.tiles := by
  simp [State.writePatchData]

/-! ### Machine/Dma.lean -/

@[simp] theorem State.dmaFail_tiles (ch status) : (s.dmaFail ch status).tiles = s.tiles := by simp [State.dmaFail]
@[simp] theorem State.dmaRead_tiles (ch full len) : (s.dmaRead ch full len).tiles = s.tiles := by
  simp only [State.dmaRead]
  (repeat' split) <;> simp
@[simp] theorem State.dmaWrite_tiles (ch full off fixed data) :
    (s.dmaWrite ch full off fixed data).tiles = s.tiles := by
  simp only [State.dmaWrite]
  (repeat' split) <;> simp
@[simp] theorem State.dmaFetch_tiles (ch a) : (s.dmaFetch ch a).tiles = s.tiles := by simp [State.dmaFetch]
@[simp] theorem State.dmaOwnErr_tiles (ch) : (s.dmaOwnErr ch).tiles = s.tiles := by simp [State.dmaOwnErr]
@[simp] theorem State.dmaStart_tiles (ch) : (s.dmaStart ch).tiles = s.tiles := by simp [State.dmaStart]
@[simp] theorem State.dmaStopReq_tiles (ch) : (s.dmaStopReq ch).tiles = s.tiles := by simp [State.dmaStopReq]
@[simp] theorem State.writeDmaCtl_tiles (master ch v) : (s.writeDmaCtl master ch v).tiles = s.tiles := by
  simp [State.writeDmaCtl]
@[simp] theorem State.writeDmaReg_tiles (master ch off v) : (s.writeDmaReg master ch off v).tiles = s.tiles := by
  unfold State.writeDmaReg
  (repeat' split) <;> simp
@[simp] theorem State.dmaRegWrite_tiles (master o v) : (s.dmaRegWrite master o v).tiles = s.tiles := by
  simp [State.dmaRegWrite]
@[simp] theorem State.dmaGotDesc_tiles (ch b) : (s.dmaGotDesc ch b).tiles = s.tiles := by simp [State.dmaGotDesc]
@[simp] theorem State.dmaGotData_tiles (ch b) : (s.dmaGotData ch b).tiles = s.tiles := by simp [State.dmaGotData]
@[simp] theorem State.dmaAcked_tiles (ch tag) : (s.dmaAcked ch tag).tiles = s.tiles := by simp [State.dmaAcked]
@[simp] theorem State.dmaErrored_tiles (ch tag status) : (s.dmaErrored ch tag status).tiles = s.tiles := by
  simp [State.dmaErrored]
@[simp] theorem State.dmaResend_tiles (ch u) : (s.dmaResend ch u).tiles = s.tiles := by simp [State.dmaResend]
@[simp] theorem State.dmaResponse_tiles (r) : (s.dmaResponse r).tiles = s.tiles := by
  simp only [State.dmaResponse]
  (repeat' split) <;> simp
@[simp] theorem State.issueReads_tiles (e) : (s.issueReads e).tiles = s.tiles := by
  simp only [State.issueReads]
  refine foldl_tiles _ (fun u a => ?_) _ _
  (repeat' split) <;> simp
@[simp] theorem State.stageBeat_tiles (ch) : (s.stageBeat ch).tiles = s.tiles := by simp [State.stageBeat]
@[simp] theorem State.preempts_tiles (e k) : (s.preempts e k).tiles = s.tiles := by
  simp only [State.preempts]
  refine foldl_tiles _ (fun u a => ?_) _ _
  simp
@[simp] theorem State.noPreempts_tiles (e) : (s.noPreempts e).tiles = s.tiles := by
  simp only [State.noPreempts]
  refine foldl_tiles _ (fun u a => ?_) _ _
  simp
@[simp] theorem State.moveBeat_tiles (e k) : (s.moveBeat e k).tiles = s.tiles := by
  simp only [State.moveBeat]
  (repeat' split) <;> simp
@[simp] theorem State.dmaFinish_tiles (ch status) : (s.dmaFinish ch status).tiles = s.tiles := by
  simp [State.dmaFinish]
@[simp] theorem State.dmaEnd_tiles (ch) : (s.dmaEnd ch).tiles = s.tiles := by simp [State.dmaEnd]

/-! ### Machine/Regs.lean -/

@[simp] theorem State.rdCap_tiles (w mute o) : (s.rdCap w mute o).1.tiles = s.tiles := by
  unfold State.rdCap
  (repeat' split) <;> simp
@[simp] theorem State.wrDoorbell_tiles (w o v) : (s.wrDoorbell w o v).tiles = s.tiles := by
  unfold State.wrDoorbell
  (repeat' split) <;> simp
@[simp] theorem State.wrMbxByte_tiles (w o b) : (s.wrMbxByte w o b).tiles = s.tiles := by simp [State.wrMbxByte]
@[simp] theorem State.rdEvr_tiles (o) : (s.rdEvr o).1.tiles = s.tiles := by simp [State.rdEvr]
@[simp] theorem State.wrEvr_tiles (own o v) : (s.wrEvr own o v).tiles = s.tiles := by simp [State.wrEvr]
@[simp] theorem State.rdTime_tiles (o) : (s.rdTime o).1.tiles = s.tiles := by
  unfold State.rdTime
  (repeat' split) <;> simp
@[simp] theorem State.timeOwned_tiles (own t) : (s.timeOwned own t).tiles = s.tiles := by simp [State.timeOwned]
@[simp] theorem State.wrTime_tiles (own o v) : (s.wrTime own o v).tiles = s.tiles := by
  unfold State.wrTime
  (repeat' split) <;> simp
@[simp] theorem State.rdPins_tiles (o) : (s.rdPins o).1.tiles = s.tiles := by
  unfold State.rdPins
  (repeat' split) <;> simp
@[simp] theorem State.wrPins_tiles (own o v) : (s.wrPins own o v).tiles = s.tiles := by simp [State.wrPins]
@[simp] theorem State.rdTimer_tiles (o) : (s.rdTimer o).1.tiles = s.tiles := by simp [State.rdTimer]
@[simp] theorem State.rdSer_tiles (mute o) : (s.rdSer mute o).1.tiles = s.tiles := by
  unfold State.rdSer
  (repeat' split) <;> simp
@[simp] theorem State.rdQueue_tiles (w o) : (s.rdQueue w o).1.tiles = s.tiles := by
  unfold State.rdQueue
  (repeat' split) <;> simp
@[simp] theorem State.rdPool_tiles (o) : (s.rdPool o).1.tiles = s.tiles := by
  unfold State.rdPool
  (repeat' split) <;> simp
@[simp] theorem State.wrPool_tiles (own o v) : (s.wrPool own o v).tiles = s.tiles := by
  unfold State.wrPool
  (repeat' split) <;> simp
@[simp] theorem State.rcStream_tiles (k n c) : (s.rcStream k n c).1.tiles = s.tiles := by simp [State.rcStream]
@[simp] theorem State.rdStream_tiles (k o) : (s.rdStream k o).1.tiles = s.tiles := by
  unfold State.rdStream
  (repeat' split) <;> simp
@[simp] theorem State.rdEngine_tiles (o) : (s.rdEngine o).1.tiles = s.tiles := by
  unfold State.rdEngine
  (repeat' split) <;> simp
@[simp] theorem State.rdDisp_tiles (w c o) : (s.rdDisp w c o).1.tiles = s.tiles := by
  unfold State.rdDisp
  (repeat' split) <;> simp
@[simp] theorem State.rdDebug_tiles (o) : (s.rdDebug o).1.tiles = s.tiles := by
  unfold State.rdDebug
  (repeat' split) <;> simp
@[simp] theorem State.rdWord_tiles (w mute a) : (s.rdWord w mute a).1.tiles = s.tiles := by
  unfold State.rdWord
  (repeat' split) <;> simp
theorem readWords_tiles (rd : State → Nat → State × List Byte) (h : ∀ u i, (rd u i).1.tiles = u.tiles) (l :
    List Nat) (x : State × List Byte) :
    (l.foldl (fun y i => ((rd y.1 i).1, y.2 ++ (rd y.1 i).2)) x).1.tiles = x.1.tiles := by
  induction l generalizing x with
  | nil => rfl
  | cons a r ih => rw [List.foldl_cons, ih, h]
@[simp] theorem State.rdRegs_tiles (w mute a n) : (s.rdRegs w mute a n).1.tiles = s.tiles := by
  simp only [State.rdRegs]
  split
  · simp
  · split
    · simp
    · split
      · rfl
      · exact readWords_tiles
          (fun u i => ((u.rdWord w mute (a / 4 * 4 + 4 * i)).1, leBytes (u.rdWord w mute (a / 4 * 4 + 4 * i)).2 4))
          (fun _ _ => by simp) _ (s, [])

/-! ### Machine/Net.lean -/

@[simp] theorem State.keepAction_tiles (m r) : (s.keepAction m r).tiles = s.tiles := by simp [State.keepAction]
@[simp] theorem State.routerResponse_tiles (r) : (s.routerResponse r).tiles = s.tiles := by
  simp [State.routerResponse]
@[simp] theorem State.hostData_tiles (tag off bytes) : (s.hostData tag off bytes).tiles = s.tiles := by
  simp [State.hostData]
@[simp] theorem State.hostFails_tiles (q) : (s.hostFails q).tiles = s.tiles := by simp [State.hostFails]
@[simp] theorem State.hostResponse_tiles (r) : (s.hostResponse r).tiles = s.tiles := by
  simp only [State.hostResponse]
  (repeat' split) <;> simp
@[simp] theorem State.reportLate_tiles (target tag) : (s.reportLate target tag).tiles = s.tiles := by
  unfold State.reportLate
  simp
@[simp] theorem State.dropRemote_tiles (srcId srcPhys tag) : (s.dropRemote srcId srcPhys tag).tiles = s.tiles := by
  simp [State.dropRemote]
@[simp] theorem State.dmaLate_tiles (e tag) : (s.dmaLate e tag).tiles = s.tiles := by
  unfold State.dmaLate
  split
  · rfl
  · dsimp only
    split <;> simp only [State.reportLate_tiles, State.setDmaE_tiles, State.dmaErrored_tiles,
      State.dropRemote_tiles]
@[simp] theorem State.hostLate_tiles (tag) : (s.hostLate tag).tiles = s.tiles := by
  simp only [State.hostLate]
  (repeat' split) <;> simp
@[simp] theorem State.hubLate_tiles (tag) : (s.hubLate tag).tiles = s.tiles := by
  unfold State.hubLate
  (repeat' split) <;> simp
@[simp] theorem State.routerLate_tiles (n) : (s.routerLate n).tiles = s.tiles := by
  unfold State.routerLate
  simp
@[simp] theorem State.usedTag_tiles (tag) : (s.usedTag tag).tiles = s.tiles := by simp [State.usedTag]
@[simp] theorem State.bar0Word_tiles (w o) : (s.bar0Word w o).1.tiles = s.tiles := by
  unfold State.bar0Word
  (repeat' split) <;> simp
@[simp] theorem State.bar0Read_tiles (w o k) : (s.bar0Read w o k).1.tiles = s.tiles :=
  readWords_tiles (fun u i => ((u.bar0Word w (o + 4 * i)).1, leBytes (u.bar0Word w (o + 4 * i)).2 4))
    (fun _ _ => by simp) _ (s, [])
@[simp] theorem State.bar2_tiles (a) : (s.bar2 a).tiles = s.tiles := by
  simp only [State.bar2]
  (repeat' split) <;> simp
@[simp] theorem State.bar4Byte_tiles (o b) : (s.bar4Byte o b).tiles = s.tiles := by simp [State.bar4Byte]
@[simp] theorem State.bar4_tiles (a) : (s.bar4 a).tiles = s.tiles := by
  unfold State.bar4
  (repeat' split) <;> simp
@[simp] theorem State.accDone_tiles (status data) : (s.accDone status data).tiles = s.tiles := by simp [State.accDone]

end Sys2Proof.Machine
end

section
/-! SUPPORT. The registers that TileLegal speaks of (R59, R74, R81, R161), and the operations of one tile that leave
them as they are. -/

namespace Sys2Proof.Machine
open Sys2Proof.Safety

/-! ### The registers that legality speaks of -/

/-- The registers that `TileLegal` speaks of: SYS_EN, the return stack's depth and the receive ring's base, tail and
size. -/
structure Held where
  en : W16
  depth : Nat
  base : W16
  tail : W16
  log : Nat

/-- Those registers of one tile. -/
def Tile.held (t : Tile) : Held := ⟨t.en, t.rsDepth, t.rxBase, t.rxTail, t.rxLog⟩

/-- Those registers of every physical tile. -/
def heldBy (m : Table Tile) (p : Nat) : Held := (tget {} p m).held

/-! ### Operations of one tile that leave them -/

@[simp] theorem Tile.raise_held (t : Tile) (l : Nat) : (t.raise l).held = t.held := (rfl)

@[simp] theorem Tile.setD_held (t : Tile) (r v) : (t.setD r v).held = t.held := (rfl)

@[simp] theorem Tile.wr_held (t : Tile) (w r v) : (t.wr w r v).held = t.held := by cases w <;> rfl

@[simp] theorem Tile.wrF_held (t : Tile) (w r v) : (t.wrF w r v).held = t.held := by cases w <;> rfl

@[simp] theorem Tile.setP_held (t : Tile) (r v) : (t.setP r v).held = t.held := (rfl)

@[simp] theorem Tile.setG_held (t : Tile) (r v) : (t.setG r v).held = t.held := by
  unfold Tile.setG; split <;> rfl

@[simp] theorem Tile.land_held (t : Tile) : t.land.held = t.held := by rw [Tile.land_form]; rfl

@[simp] theorem Tile.retire_held (t : Tile) : t.retire.held = t.held := by rw [Tile.retire_eq]; rfl

@[simp] theorem Tile.seq_held (n t : Tile) (len : Nat) : (n.seq t len).held = n.held := Tile.retire_held _

@[simp] theorem Tile.jumpTo_held (n : Tile) (pc : W16) : (n.jumpTo pc).held = n.held := Tile.retire_held _

@[simp] theorem Tile.store_held (t : Tile) (a v) : (t.store a v).held = t.held := (rfl)

@[simp] theorem Tile.storeW_held (t : Tile) (a v) : (t.storeW a v).held = t.held := (rfl)

@[simp] theorem Tile.freshen_held (t : Tile) (a n) : (t.freshen a n).held = t.held := (rfl)

@[simp] theorem Tile.storeBytes_held (t : Tile) (a bs) : (t.storeBytes a bs).held = t.held := by
  induction bs generalizing t a with
  | nil => rfl
  | cons b r ih => exact ih ..

@[simp] theorem Tile.finish_held (t : Tile) (tag status) : (t.finish tag status).held = t.held := (rfl)

theorem Tile.netStore_held {t u : Tile} {a bs} (h : t.netStore a bs = some u) : u.held = t.held := by
  unfold Tile.netStore at h
  split at h
  · cases h
  · cases h; simp

theorem Tile.ringPut_held {t u : Tile} {free entry} (h : t.ringPut free entry = .wrote u) : u.held = t.held := by
  unfold Tile.ringPut at h
  split at h
  · cases h
  · extract_lets size head used need pad base t1 at_ at h
    split at h
    · cases h
    · split at h
      · cases h
      · rename_i v hv
        obtain rfl := RingRes.wrote.inj h
        obtain ⟨w, hw, hv⟩ := Option.bind_eq_some_iff.mp hv
        have hwt : w.held = t.held := by
          simp only [t1] at hw
          split at hw
          · obtain rfl := Option.some.inj hw; rfl
          · exact Tile.netStore_held hw
        exact (Tile.netStore_held hv).trans hwt

@[simp] theorem Tile.applyFlits_held (whole fuel n a bs) (t : Tile) :
    (t.applyFlits whole fuel n a bs).1.held = t.held := by
  induction fuel generalizing t n a bs with
  | zero => rfl
  | succ fuel ih =>
    unfold Tile.applyFlits
    split
    · rfl
    · dsimp only
      split
      · rfl
      · rw [ih, Tile.storeBytes_held]

@[simp] theorem Tile.netWrite_held (t : Tile) (a bs) : (t.netWrite a bs).1.held = t.held := by
  unfold Tile.netWrite
  dsimp only
  split <;> simp

@[simp] theorem Tile.netBeats_held (t : Tile) (a n bs) : (t.netBeats a n bs).1.held = t.held := by
  induction n generalizing t bs with
  | zero => rfl
  | succ n ih =>
    simp only [Tile.netBeats]
    split <;> simp [ih]

@[simp] theorem Tile.readBack_held (t : Tile) (a bs) : (t.readBack a bs).1.held = t.held := by
  unfold Tile.readBack
  rw [Tile.freshen_held]
  refine List.foldlRecOn (motive := fun u : Tile => u.held = t.held) _ _ rfl fun u hu e _ => ?_
  dsimp only
  split <;> simp [hu]

@[simp] theorem Tile.commitEntry_held (t : Tile) (e : Nat) : (t.commitEntry e).held = t.held := by
  unfold Tile.commitEntry; split <;> rfl

@[simp] theorem Tile.loadEntry_held (t : Tile) (e us) : (t.loadEntry e us).held = t.held := Tile.commitEntry_held ..

@[simp] theorem State.applyKept_held (s : State) (l) (t : Tile) : (s.applyKept l t).held = t.held := by
  unfold State.applyKept
  split
  · rfl
  · exact List.foldlRecOn (motive := fun u : Tile => u.held = t.held) _ _ rfl fun u hu e _ => by simp [hu]

/-! ### Operations of the device that leave them -/

@[simp] theorem State.tile_held (s : State) (p : Nat) : (s.tile p).held = heldBy s.tiles p := (rfl)

/-- A tile whose registers of legality stay changes no tile's. -/
@[simp] theorem State.setTile_held {s : State} {p : Nat} {t : Tile} (h : t.held = heldBy s.tiles p) :
    heldBy (s.setTile p t).tiles = heldBy s.tiles := by
  funext q
  rw [← State.tile_held]
  by_cases hq : q = p
  · subst hq; rw [State.setTile_tile, h]
  · rw [State.setTile_tile_ne _ _ hq, State.tile_held]

@[simp] theorem heldBy_ite (c : Prop) [Decidable c] (a b : Table Tile) :
    heldBy (if c then a else b) = if c then heldBy a else heldBy b := by split <;> rfl

/-- Replacing every tile by one with the same registers of legality changes no tile's. -/
theorem heldBy_map {f : Nat × Tile → Tile} (h : ∀ e, (f e).held = e.2.held) (m : Table Tile) :
    heldBy (m.map fun e => (e.1, f e)) = heldBy m := by
  funext p
  unfold heldBy
  induction m with
  | nil => rfl
  | cons e r ih =>
    simp only [List.map_cons, tget]
    split
    · exact h _
    · exact ih

@[simp] theorem foldl_held {α : Type} (f : State → α → State) (h : ∀ s a, heldBy (f s a).tiles = heldBy s.tiles)
    (l : List α) (s : State) : heldBy (l.foldl f s).tiles = heldBy s.tiles := by
  induction l generalizing s with
  | nil => rfl
  | cons a r ih => rw [List.foldl_cons, ih, h]

@[simp] theorem State.setLine_held (s : State) (p l : Nat) : heldBy (s.setLine p l).tiles = heldBy s.tiles := by
  simp [State.setLine]

@[simp] theorem State.setLineL_held (s : State) (t l : Nat) : heldBy (s.setLineL t l).tiles = heldBy s.tiles := by
  unfold State.setLineL
  (repeat' split) <;> simp

end Sys2Proof.Machine
end

section
/-! SUPPORT. The operations that write tiles but leave the registers that TileLegal speaks of. -/

namespace Sys2Proof.Machine
open Sys2Proof.Safety

variable (s : State)

/-! ### Machine/TileCore.lean -/

theorem State.tileTrap_held {p t} (h : t.held = heldBy s.tiles p) (code arg spc) :
    heldBy (s.tileTrap p code arg t spc).tiles = heldBy s.tiles := by
  have hl : t.land.held = heldBy s.tiles p := (Tile.land_held t).trans h
  unfold State.tileTrap
  dsimp only
  split
  · exact (congrArg heldBy (State.report_tiles ..)).trans (State.setTile_held hl)
  · exact State.setTile_held hl
@[simp] theorem State.resumeTile_held (p) : heldBy (s.resumeTile p).tiles = heldBy s.tiles := State.setTile_held rfl

/-! ### Machine/Windows.lean -/

@[simp] theorem State.writeFails_held (w) : heldBy (s.writeFails w).tiles = heldBy s.tiles := by
  simp [State.writeFails]

/-! ### Machine/Queues.lean -/

@[simp] theorem State.qPush_held (q e) : heldBy (s.qPush q e).1.tiles = heldBy s.tiles := by simp [State.qPush]
@[simp] theorem State.hwPush_held (q e producer) : heldBy (s.hwPush q e producer).1.tiles = heldBy s.tiles := by
  simp [State.hwPush]
@[simp] theorem State.writePush_held (q e master) : heldBy (s.writePush q e master).tiles = heldBy s.tiles := by
  simp [State.writePush]
@[simp] theorem State.gatePush_held (q p opnum e) : heldBy (s.gatePush q p opnum e).1.tiles = heldBy s.tiles := by
  simp [State.gatePush]

/-! ### Machine/Dispatcher.lean -/

@[simp] theorem State.dCancel_held (c n) : heldBy (s.dCancel c n).1.tiles = heldBy s.tiles := by
  simp only [State.dCancel]
  (repeat' split) <;> simp
@[simp] theorem State.gateCancel_held (c n p opnum) : heldBy (s.gateCancel c n p opnum).1.tiles = heldBy s.tiles := by
  simp [State.gateCancel]
@[simp] theorem State.startTask_held (p n) : heldBy (s.startTask p n).tiles = heldBy s.tiles :=
  (congrArg heldBy (State.wakeCourt_tiles ..)).trans (State.setTile_held rfl)

/-! ### Machine/Interface.lean -/

@[simp] theorem State.sendBy_held (p r) (put : State → Msg → State) (h : ∀ u m, heldBy (put u m).tiles =
    heldBy u.tiles) :
    heldBy (s.sendBy p r put).tiles = heldBy s.tiles := by
  simp only [State.sendBy]
  (repeat' split) <;> simp [h]
@[simp] theorem State.serveAt_held (m p) : heldBy (s.serveAt m p).1.tiles = heldBy s.tiles := by
  simp only [State.serveAt]
  (repeat' split) <;> try (simp; done)
  next h => simp [Tile.ringPut_held h]
@[simp] theorem State.routedAt_held (m t p) : heldBy (s.routedAt m t p).1.tiles = heldBy s.tiles := by
  unfold State.routedAt
  (repeat' split) <;> simp
@[simp] theorem State.serveRouted_held (m t p) : heldBy (s.serveRouted m t p).1.tiles = heldBy s.tiles := by
  unfold State.serveRouted
  simp
@[simp] theorem State.serveTile_held (m) : heldBy (s.serveTile m).1.tiles = heldBy s.tiles := by
  simp only [State.serveTile]
  (repeat' split) <;> simp
@[simp] theorem State.serveGate_held (m) : heldBy (s.serveGate m).1.tiles = heldBy s.tiles := by
  unfold State.serveGate
  (repeat' split) <;> simp
@[simp] theorem State.stray_held (p) : heldBy (s.stray p).tiles = heldBy s.tiles := by
  unfold State.stray
  split
  · rfl
  · exact State.setTile_held rfl
@[simp] theorem State.finishAt_held (p tag status) : heldBy (s.finishAt p tag status).tiles = heldBy s.tiles := by
  simp [State.finishAt]
@[simp] theorem State.resendOr_held (p q may) : heldBy (s.resendOr p q may).tiles = heldBy s.tiles := by
  unfold State.resendOr
  dsimp only
  split
  · rw [apply_ite State.tiles, State.noteDone_tiles, ite_self]
    refine (State.sendBy_held _ _ _ _ fun u m => ?_).trans (State.setTile_held rfl)
    simp
  · simp
@[simp] theorem State.doneAt_held (r) : heldBy (s.doneAt r).tiles = heldBy s.tiles := by
  unfold State.doneAt
  (repeat' split) <;> simp
@[simp] theorem State.retryAt_held (r) : heldBy (s.retryAt r).tiles = heldBy s.tiles := by
  unfold State.retryAt
  (repeat' split) <;> simp
@[simp] theorem State.errorAt_held (r) : heldBy (s.errorAt r).tiles = heldBy s.tiles := by
  unfold State.errorAt
  (repeat' split) <;> simp
@[simp] theorem State.complete_held (p q status) : heldBy (s.complete p q status).tiles = heldBy s.tiles := by
  unfold State.complete
  extract_lets t t1 t2 t3
  have h : t3.held = heldBy s.tiles p := by
    simp only [t3]
    split <;> rfl
  split
  · split
    next hu => exact State.setTile_held ((Tile.ringPut_held hu).trans h)
    all_goals simp [h]
  · exact State.setTile_held h

/-! ### Machine/EngineIn.lean -/

@[simp] theorem State.enginePush_held (q e) : heldBy (s.enginePush q e).tiles = heldBy s.tiles := by
  simp [State.enginePush]
@[simp] theorem State.pushBuf_held (k kind) : heldBy (s.pushBuf k kind).tiles = heldBy s.tiles := by
  simp only [State.pushBuf]
  (repeat' split) <;> simp
@[simp] theorem State.pushAll_held (k) : heldBy (s.pushAll k).tiles = heldBy s.tiles := by simp [State.pushAll]
@[simp] theorem State.flushStream_held (k) : heldBy (s.flushStream k).tiles = heldBy s.tiles := by
  simp [State.flushStream]
@[simp] theorem State.dueFlushes_held : heldBy s.dueFlushes.tiles = heldBy s.tiles := by simp [State.dueFlushes]
@[simp] theorem State.putRec_held (k kind b bytes) : heldBy (s.putRec k kind b bytes).tiles = heldBy s.tiles := by
  simp [State.putRec]
@[simp] theorem State.tryRec_held (k kind bytes) : heldBy (s.tryRec k kind bytes).1.tiles = heldBy s.tiles := by
  simp only [State.tryRec]
  (repeat' split) <;> simp
@[simp] theorem State.emit_held (k kind bytes) : heldBy (s.emit k kind bytes).tiles = heldBy s.tiles := by
  simp [State.emit]
@[simp] theorem State.drainHeld_held (l) : heldBy (s.drainHeld l).tiles = heldBy s.tiles := by
  induction l generalizing s with
  | nil => rfl
  | cons h r ih => simp only [State.drainHeld]; split <;> simp [ih]

/-! ### Machine/Engine.lean -/

@[simp] theorem State.closeItems_held (bank k l) : heldBy (s.closeItems bank k l).tiles = heldBy s.tiles := by
  simp [State.closeItems]
@[simp] theorem State.endPeriod_held (bank k x short) :
    heldBy (s.endPeriod bank k x short).tiles = heldBy s.tiles := by simp [State.endPeriod]
@[simp] theorem State.countLine_held (bank k x l gap processed) :
    heldBy (s.countLine bank k x l gap processed).tiles = heldBy s.tiles := by simp [State.countLine]
@[simp] theorem State.countLost_held (bank k x l n) : heldBy (s.countLost bank k x l n).tiles = heldBy s.tiles := by
  induction n generalizing s l with
  | zero => rfl
  | succ n ih => simp [State.countLost, ih]
@[simp] theorem State.emitStatus_held (bank k) : heldBy (s.emitStatus bank k).tiles = heldBy s.tiles := by
  simp [State.emitStatus]
@[simp] theorem State.switchAtLine_held (k l) : heldBy (s.switchAtLine k l).tiles = heldBy s.tiles := by
  simp [State.switchAtLine]
@[simp] theorem State.missLines_held (bank k n) : heldBy (s.missLines bank k n).tiles = heldBy s.tiles := by
  simp [State.missLines]
@[simp] theorem State.lostLines_held (k l n) : heldBy (s.lostLines k l n).tiles = heldBy s.tiles := by
  simp [State.lostLines]
@[simp] theorem State.fullLine_held (bank k x b) : heldBy (s.fullLine bank k x b).tiles = heldBy s.tiles := by
  simp [State.fullLine]
@[simp] theorem State.modelError_held (bank k l word) :
    heldBy (s.modelError bank k l word).tiles = heldBy s.tiles := by simp [State.modelError]
@[simp] theorem State.upToLine_held (k l next lost) : heldBy (s.upToLine k l next lost).tiles = heldBy s.tiles := by
  unfold State.upToLine
  (repeat' split) <;> simp
@[simp] theorem State.applyLine_held (bank k b) : heldBy (s.applyLine bank k b).tiles = heldBy s.tiles := by
  unfold State.applyLine
  (repeat' split) <;> simp
@[simp] theorem State.processLine_held (k) : heldBy (s.processLine k).tiles = heldBy s.tiles := by
  simp only [State.processLine]
  split
  · rfl
  · split <;> simp
@[simp] theorem State.makeRoom_held (k) : heldBy (s.makeRoom k).tiles = heldBy s.tiles := by simp [State.makeRoom]
@[simp] theorem State.releaseOne_held (k) : heldBy (s.releaseOne k).tiles = heldBy s.tiles := by
  simp [State.releaseOne]
@[simp] theorem State.releaseLines_held (k n) : heldBy (s.releaseLines k n).tiles = heldBy s.tiles := by
  induction n generalizing s with
  | zero => rfl
  | succ n ih => simp [State.releaseLines, ih]
@[simp] theorem State.releaseComplete_held (k n) : heldBy (s.releaseComplete k n).tiles = heldBy s.tiles := by
  induction n generalizing s with
  | zero => rfl
  | succ n ih =>
    simp only [State.releaseComplete]
    split <;> simp [ih]
@[simp] theorem State.storeFrame_held (k l h) : heldBy (s.storeFrame k l h).tiles = heldBy s.tiles := by
  simp [State.storeFrame]
@[simp] theorem State.placeFrame_held (k h) : heldBy (s.placeFrame k h).tiles = heldBy s.tiles := by
  simp [State.placeFrame]
@[simp] theorem State.takeFrame_held (h) : heldBy (s.takeFrame h).tiles = heldBy s.tiles := by simp [State.takeFrame]
@[simp] theorem State.packStop_held (k) : heldBy (s.packStop k).tiles = heldBy s.tiles := by simp [State.packStop]
@[simp] theorem State.stopDone_held (k) : heldBy (s.stopDone k).tiles = heldBy s.tiles := by simp [State.stopDone]
@[simp] theorem State.retryHeld_held : heldBy s.retryHeld.tiles = heldBy s.tiles := by simp [State.retryHeld]
@[simp] theorem State.acceptHeld_held (s0 h) : heldBy (State.acceptHeld s0 h).tiles = heldBy s0.tiles := by
  simp [State.acceptHeld]

/-! ### Machine/CmdCore.lean -/

theorem State.mapCopies_held (t) {f : Tile → Tile} (h : ∀ x, (f x).held = x.held) :
    heldBy (s.mapCopies t f).tiles = heldBy s.tiles := foldl_held _ (fun _ _ => State.setTile_held (h _)) _ _
@[simp] theorem State.stopAt_held (p) : heldBy (s.stopAt p).tiles = heldBy s.tiles := by
  unfold State.stopAt
  dsimp only
  split
  · rfl
  · exact State.setTile_held rfl

/-! ### Machine/Ports.lean -/

@[simp] theorem State.feedPush_held (f q e) : heldBy (s.feedPush f q e).tiles = heldBy s.tiles := by
  simp [State.feedPush]
@[simp] theorem State.feedFrame_held (f frame st) : heldBy (s.feedFrame f frame st).tiles = heldBy s.tiles := by
  simp only [State.feedFrame]
  (repeat' split) <;> simp
@[simp] theorem State.feedDrain_held (f l) : heldBy (s.feedDrain f l).tiles = heldBy s.tiles := by
  induction l generalizing s with
  | nil => simp [State.feedDrain]
  | cons h r ih => simp only [State.feedDrain]; split <;> simp [ih]
@[simp] theorem State.feedRetry_held (f) : heldBy (s.feedRetry f).tiles = heldBy s.tiles := by
  unfold State.feedRetry
  (repeat' split) <;> simp
@[simp] theorem State.feedAccept_held (f bytes) : heldBy (s.feedAccept f bytes).tiles = heldBy s.tiles := by
  simp [State.feedAccept]
@[simp] theorem State.receiveFrame_held (s0 f k) : heldBy (State.receiveFrame s0 f k).tiles = heldBy s0.tiles := by
  simp [State.receiveFrame]

/-! ### Machine/Debug.lean -/

@[simp] theorem State.resumeAll_held : heldBy s.resumeAll.tiles = heldBy s.tiles :=
  heldBy_map (fun e => by dsimp only; split <;> rfl) s.tiles
@[simp] theorem State.dbgHalt_held (p) : heldBy (s.dbgHalt p).tiles = heldBy s.tiles := by
  have h := s.askHalt_tiles p false
  unfold State.dbgHalt
  dsimp only
  split
  · refine (congrArg heldBy (State.fire_tiles ..)).trans ((State.setTile_held ?_).trans (congrArg heldBy h))
    rw [h]
    rfl
  · rw [State.askHalt_tiles]
@[simp] theorem State.tickHalts_held : heldBy s.tickHalts.tiles = heldBy s.tiles := by simp [State.tickHalts]
@[simp] theorem State.dbgResume_held (p) : heldBy (s.dbgResume p).tiles = heldBy s.tiles := by
  have h := s.askHalt_tiles p false
  unfold State.dbgResume
  dsimp only
  split
  · refine (State.setTile_held ?_).trans (congrArg heldBy h)
    rw [h]
    rfl
  · rw [State.askHalt_tiles]

/-! ### Machine/Regs.lean -/

@[simp] theorem State.writeConsumer_held (q v) : heldBy (s.writeConsumer q v).tiles = heldBy s.tiles := by
  simp [State.writeConsumer]
@[simp] theorem State.wrQueue_held (own o v) : heldBy (s.wrQueue own o v).tiles = heldBy s.tiles := by
  unfold State.wrQueue
  (repeat' split) <;> simp
@[simp] theorem State.wrEngine_held (own o v) : heldBy (s.wrEngine own o v).tiles = heldBy s.tiles := by
  unfold State.wrEngine
  (repeat' split) <;> simp
@[simp] theorem State.wrDisp_held (w c o v) : heldBy (s.wrDisp w c o v).tiles = heldBy s.tiles := by
  unfold State.wrDisp
  (repeat' split) <;> simp

/-! ### Machine/Net.lean -/

@[simp] theorem State.serveWindow_held (m p) : heldBy (s.serveWindow m p).1.tiles = heldBy s.tiles := by
  simp [State.serveWindow]
@[simp] theorem State.rdUnit_held (w a n) : heldBy (s.rdUnit w a n).1.tiles = heldBy s.tiles := by simp [State.rdUnit]
@[simp] theorem State.tileLate_held (p tag) : heldBy (s.tileLate p tag).tiles = heldBy s.tiles := by
  unfold State.tileLate
  (repeat' split) <;> simp
@[simp] theorem State.respond_held (r) : heldBy (s.respond r).tiles = heldBy s.tiles := by simp [State.respond]
@[simp] theorem State.debugTile_held (write addr data) :
    heldBy (s.debugTile write addr data).tiles = heldBy s.tiles := by simp [State.debugTile]

end Sys2Proof.Machine
end

section
/-! SUPPORT. The operations that start a tile from its Cold values keep every tile legal (R13, R196, R325 to R338). -/

namespace Sys2Proof.Machine
open Sys2Proof.Safety

/-- What `TileLegal` says of the registers that it speaks of. -/
def Held.Legal (h : Held) : Prop :=
  h.en.getLsbD 13 = true ∧ h.depth ≤ 8 ∧ h.base.toNat % 256 = 0 ∧ h.tail.toNat % 8 = 0 ∧
    (h.log = 0 ∨ 8 ≤ h.log ∧ h.log ≤ 14)

/-- Those registers are legal at every tile. -/
def AllLegal (f : Nat → Held) : Prop := ∀ p, (f p).Legal

/-- Every tile is legal. -/
@[simp] abbrev State.Legal (s : State) : Prop := AllLegal (heldBy s.tiles)

theorem State.legal_iff {s : State} : s.Legal ↔ ∀ p, TileLegal (s.tile p) := Iff.rfl

@[simp] theorem allLegal_ite (c : Prop) [Decidable c] (f g : Nat → Held) :
    AllLegal (if c then f else g) = if c then AllLegal f else AllLegal g := by split <;> rfl

@[simp] theorem allLegal_heldBy_nil : AllLegal (heldBy []) := fun _ => TileLegal_cold

theorem State.Legal.setTile {s : State} (h : s.Legal) {t : Tile} (ht : t.held.Legal) (p : Nat) :
    (s.setTile p t).Legal := fun q => by
  rw [← State.tile_held]
  by_cases hq : q = p
  · subst hq; rwa [State.setTile_tile]
  · rw [State.setTile_tile_ne _ _ hq]; exact h q

theorem foldl_legal {α : Type} {f : State → α → State} (hf : ∀ u a, u.Legal → (f u a).Legal) (l : List α)
    {s : State} (h : s.Legal) : (l.foldl f s).Legal :=
  List.foldlRecOn (motive := State.Legal) l f h fun u hu a _ => hf u a hu

@[simp] theorem Tile.cold_legal (t : Tile) (now : Nat) : (t.cold now).held.Legal := TileLegal_cold

variable {s : State}

/-! ### Restarts and pairs (R13, R196, R333 to R336) -/

theorem State.restartedTile_legal (s : State) (p : Nat) (started : Bool) : (s.restartedTile p started).held.Legal := by
  unfold State.restartedTile
  (repeat' split) <;> try exact TileLegal_cold
  exact (s.applyKept_held ..).symm ▸ TileLegal_cold

@[simp] theorem State.restartTile_legal (h : s.Legal) (p) : (s.restartTile p).Legal := by
  have h' := h.setTile (s.restartedTile_legal p ((s.tile p).run != .stopped)) p
  unfold State.restartTile
  split <;> simpa using h'

@[simp] theorem State.pair_legal (h : s.Legal) (t q auto) : (s.pair t q auto).Legal := by
  unfold State.pair
  split
  · exact h
  · rename_i p _
    refine h.setTile (p := q) ?_
    exact h p

theorem State.withBench_legal {f : State → State} (h : (f s).Legal) : (s.withBench f).Legal := by
  simpa only [State.withBench, State.Legal, State.noteBench_tiles] using h

@[simp] theorem State.rePair_legal (h : s.Legal) (t auto) : (s.rePair t auto).Legal := by
  simp only [State.rePair]
  split
  · exact h
  · split
    · exact h
    · split
      · exact State.withBench_legal (State.pair_legal h _ _ _)
      · exact h

@[simp] theorem State.dropPartner_legal (h : s.Legal) (t d) : (s.dropPartner t d).Legal := by
  simp [State.dropPartner, h]

@[simp] theorem State.diverge_legal (h : s.Legal) (t d) : (s.diverge t d).Legal := by
  simp [State.diverge, h]

@[simp] theorem State.unpair_legal (h : s.Legal) (t d) : (s.unpair t d).Legal :=
  h.setTile (Tile.cold_legal _ s.now) d.partner

/-! ### Requests that leave a tile (R150, R157, R334 to R336) -/

@[simp] theorem State.inject_legal (h : s.Legal) (p m) : (s.inject p m).Legal := by
  simp only [State.inject]
  (repeat' split) <;> simp [h]

theorem State.sendBy_legal {put : State → Msg → State} (hput : ∀ u m, u.Legal → (put u m).Legal) (h : s.Legal)
    (p r) : (s.sendBy p r put).Legal := by
  simp only [State.sendBy]
  split
  · have h1 : (if (s.sendMsg p r).kind = .write ∧ (s.tile p).goodBytes r ≠ 0 then
        put s { s.sendMsg p r with data := (s.sendMsg p r).data.take ((s.tile p).goodBytes r), cut := true }
        else s).Legal := by split <;> [exact hput _ _ h; exact h]
    simpa using h1
  · exact hput _ _ h

@[simp] theorem State.issue_legal (h : s.Legal) (p r) : (s.issue p r).Legal :=
  State.sendBy_legal (fun _ _ hu => State.inject_legal hu _ _) h p r

@[simp] theorem State.sendAt_legal (h : s.Legal) (p a g) : (s.sendAt p a g).Legal := by
  simp only [State.sendAt]
  split
  · simpa using h
  · refine State.issue_legal (h.setTile ?_ p) _ _
    exact (Tile.setG_held _ g true).symm ▸ h p

/-! ### Resets (R11, R13, R322) -/

@[simp] theorem State.restartCore_tiles (s : State) : s.restartCore.tiles = [] := rfl

@[simp] theorem State.deviceRestart_tiles (s : State) (why) : (s.deviceRestart why).tiles = [] := by
  simp only [State.deviceRestart]
  split <;> simp

@[simp] theorem State.coldStart_tiles (s : State) (testEn) : (s.coldStart testEn).tiles = [] := by
  simp [State.coldStart]

@[simp] theorem State.selfSendOff_tiles (s : State) (source) : (s.selfSendOff source).tiles = [] := by
  simp [State.selfSendOff]

@[simp] theorem State.courtRestart_legal (h : s.Legal) (c accepted) : (s.courtRestart c accepted).Legal := by
  refine foldl_legal (fun u i hu => ?_) _ ?_
  · exact State.restartTile_legal hu (64 * c + i)
  · simpa using h

@[simp] theorem State.leaveSleep_legal (h : s.Legal) (w) : (s.leaveSleep w).Legal := by
  simp only [State.leaveSleep, State.Legal, State.fireAll_tiles]
  split
  · simp
  · refine foldl_legal (fun u k hu => ?_) _ ?_
    · simpa using hu
    · split <;> simp [h]

@[simp] theorem State.loadIr_legal (h : s.Legal) (ir) : (s.loadIr ir).Legal := by
  simp only [State.loadIr]
  split <;> simp [h]

/-! ### Substitution, promotion and failing tiles (R325 to R338) -/

@[simp] theorem State.restoreTile_legal (h : s.Legal) (d late) : (s.restoreTile d late).Legal := by
  simp only [State.restoreTile]
  split
  · exact h
  · split
    · rw [State.Legal, State.dropTask_tiles, State.logAs_tiles]
      exact h.setTile ((s.applyKept_held ..).symm ▸ TileLegal_cold) _
    · rw [State.Legal, State.fire_tiles, State.dropTask_tiles, State.logAs_tiles]
      exact h.setTile ((s.applyKept_held ..).symm ▸ TileLegal_cold) _

@[simp] theorem State.restoreOrDefer_legal (h : s.Legal) (d) : (s.restoreOrDefer d).Legal := by
  simp only [State.restoreOrDefer]
  split <;> simp [h]

@[simp] theorem State.substitute_legal (h : s.Legal) (t q copyBad) : (s.substitute t q copyBad).Legal := by
  unfold State.substitute
  split
  · exact h
  · exact State.restoreOrDefer_legal (State.withBench_legal (by simpa using h)) _

@[simp] theorem State.substituteLowest_legal (h : s.Legal) (t copyBad) : (s.substituteLowest t copyBad).Legal := by
  unfold State.substituteLowest
  split
  · exact State.substitute_legal h _ _ _
  · split <;> simp [h]

@[simp] theorem State.promote_legal (h : s.Legal) (t d) : (s.promote t d).Legal := by
  simp [State.promote, h]

@[simp] theorem State.tileFails_legal (h : s.Legal) (p) : (s.tileFails p).Legal := by
  unfold State.tileFails
  split
  · split <;> simp [h]
  · split
    · simp [h]
    · exact State.withBench_legal (by simpa using h)

@[simp] theorem State.moveTile_legal (h : s.Legal) (c i) : (s.moveTile c i).Legal := by
  simp only [State.moveTile]
  split <;> simp [h]

@[simp] theorem State.moveCourt_legal (h : s.Legal) (c) : (s.moveCourt c).Legal :=
  State.withBench_legal (foldl_legal (fun _ i hu => State.moveTile_legal hu c i) _ h)

@[simp] theorem State.courtFails_legal (h : s.Legal) (c) : (s.courtFails c).Legal := by
  simp only [State.courtFails]
  split <;> simp [h]

@[simp] theorem State.unitFails_legal (h : s.Legal) (u arg) : (s.unitFails u arg).Legal := by
  cases u <;> simp only [State.unitFails]
  case dmaMover => split <;> simpa using h
  all_goals simp [h]

/-! ### The scrubber (R319) -/

@[simp] theorem State.scrubFix_legal (h : s.Legal) (m word) : (s.scrubFix m word).Legal := by
  cases m with
  | tile p =>
    have h1 (fixes) : AllLegal (heldBy (s.setTile p { s.tile p with fixes := fixes }).tiles) :=
      h.setTile (t := { s.tile p with fixes := fixes }) (h p) p
    simp only [State.scrubFix]
    (repeat' split) <;> simp only [State.Legal, State.fire_tiles, State.logAs_tiles, State.promote_legal,
      State.substituteLowest_legal, h1]
  | buffers => simp only [State.scrubFix]; split <;> simpa using h
  | mgmt => simp only [State.scrubFix]; split <;> simpa using h
  | model => simp only [State.scrubFix]; split <;> simpa using h

@[simp] theorem State.scrubBad_legal (h : s.Legal) (m word) : (s.scrubBad m word).Legal := by
  cases m with
  | tile p =>
    have h1 (bad) : AllLegal (heldBy (s.setTile p { s.tile p with bad := bad }).tiles) :=
      h.setTile (t := { s.tile p with bad := bad }) (h p) p
    simp only [State.scrubBad]
    (repeat' split) <;> simp only [State.Legal, State.report_tiles, State.reportTile_tiles, State.promote_legal, h1]
  | buffers => simpa [State.scrubBad] using h
  | mgmt => simpa [State.scrubBad] using h
  | model => simpa [State.scrubBad] using h

@[simp] theorem State.thermalTrip_tiles (s : State) : s.thermalTrip.tiles = [] := by
  simp [State.thermalTrip]

variable {s : State}

/-! ### Management's restart, starts and takeovers (R337, R340, R375, R376) -/

/-- The tile that management's return from its restart puts in place of one. -/
theorem State.mgmtDone_tile_held (s : State) (e : Nat × Tile) :
    (if e.2.run = RunState.resetWait then { s.applyKept (s.identOf e.1) e.2 with run := .running } else e.2).held =
      e.2.held := by
  split
  · exact s.applyKept_held ..
  · rfl

@[simp] theorem State.mgmtDone_legal (h : s.Legal) : s.mgmtDone.Legal := by
  simp only [State.mgmtDone, State.Legal, State.bootUp_tiles]
  rw [heldBy_map (State.mgmtDone_tile_held _)]
  refine foldl_legal (fun u e hu => State.rePair_legal hu _ _) _ ?_
  rw [State.Legal, foldl_tiles _ (fun u a => u.fenceMover_tiles a), foldl_tiles _ (fun u a => u.releaseAll_tiles a)]
  exact foldl_legal (fun u e hu => State.restoreTile_legal hu _ _) _ h

@[simp] theorem State.startPhys_legal (h : s.Legal) (p) : (s.startPhys p).Legal := by
  simp only [State.startPhys]
  split
  · exact h
  · have h1 := h.setTile (t := { (s.tile p).cold s.now with
      active := (s.tile p).active, dtValid := (s.tile p).dtValid, run := .running }) TileLegal_cold p
    split <;> simpa using h1

@[simp] theorem State.startLogical_legal (h : s.Legal) (t) : (s.startLogical t).Legal := by
  unfold State.startLogical
  (repeat' split) <;> simp [h]

@[simp] theorem State.loadTaken_legal (h : s.Legal) (t p mem) : (s.loadTaken t p mem).Legal := by
  unfold State.loadTaken
  split
  · exact h
  · exact h.setTile ((s.applyKept_held ..).symm ▸ h p) p

@[simp] theorem State.takeTile_legal (h : s.Legal) (t) : (s.takeTile t).Legal := by
  simp only [State.takeTile]
  split
  · refine State.startLogical_legal ?_ _
    split
    · exact State.loadTaken_legal (State.loadTaken_legal h _ _ _) _ _ _
    · exact State.loadTaken_legal h _ _ _
  · exact h

@[simp] theorem State.takeover_legal (h : s.Legal) (d) : (s.takeover d).Legal := by
  simp only [State.takeover]
  split
  · exact h
  · rw [State.Legal, State.setFabric_tiles]
    refine foldl_legal (fun u k hu => ?_) _ (foldl_legal (fun u c hu => ?_) _ h)
    · split <;> simpa using hu
    · exact foldl_legal (fun v i hv => State.takeTile_legal hv _) _ hu

/-! ### Membership (R364 to R377) -/

@[simp] theorem State.fwMember_legal (h : s.Legal) (p src a) : (s.fwMember p src a).Legal := by
  cases a <;> simp [State.fwMember, when_, h]

@[simp] theorem State.forFirmware_legal (h : s.Legal) (p src b) : (s.forFirmware p src b).Legal := by
  unfold State.forFirmware
  split <;> simp [h]

@[simp] theorem State.tickMembers_legal (h : s.Legal) : s.tickMembers.Legal := by
  unfold State.tickMembers
  split
  · exact foldl_legal (fun u e hu => State.fwMember_legal hu _ _ _) _ (by simpa using h)
  · exact h

@[simp] theorem State.elected_legal (h : s.Legal) : s.elected.Legal :=
  foldl_legal (fun u e hu => State.forFirmware_legal hu _ _ _) _ (by simpa using h)

@[simp] theorem State.hearStatus_legal (h : s.Legal) (src number) : (s.hearStatus src number).Legal := by
  unfold State.hearStatus
  extract_lets f s1 answer other
  have h1 : s1.Legal := by simpa only [s1, State.Legal, State.setFabric_tiles] using h
  have answered {u : State} (hu : u.Legal) : (answer u).Legal := by
    simp only [answer]
    split <;> simpa using hu
  split
  · simpa using h1
  · split
    · exact h1
    · refine answered ?_
      split
      · exact h1
      · exact State.elected_legal h1

@[simp] theorem State.takeFlood_legal (h : s.Legal) (p k seq n) : (s.takeFlood p k seq n).Legal := by
  unfold State.takeFlood
  split <;> simp [h]

@[simp] theorem State.readmit_legal (h : s.Legal) (p) : (s.readmit p).Legal := by
  have h1 := h.setTile (t := {}) TileLegal_cold p
  simpa only [State.readmit, State.Legal, State.report_tiles] using h1

theorem State.takeMember_legal (h : s.Legal) (a b) {f : State → State} (hf : ∀ u, u.Legal → (f u).Legal) :
    (s.takeMember a b f).Legal := by
  simp only [State.takeMember]
  (repeat' split) <;> simp [h, hf]

end Sys2Proof.Machine
end

section
/-! SUPPORT. The tile instructions keep every tile legal: the frame of one instruction, the return stack, the system
registers and gate operations. -/

namespace Sys2Proof.Machine
open Sys2Proof.Safety

variable {s : State}

/-! ### Gate operations (R111, R113, R175, R335) -/

theorem State.gateOp_legal (h : s.Legal) (p addr opc target entry) {apply : State → Nat → State × Option Result}
    (ha : ∀ u n, u.Legal → (apply u n).1.Legal) :
    ((s.gateOp p addr opc target entry apply).getD (s, none)).1.Legal := by
  have h0 : (s.setTile p { s.tile p with opnum := (s.tile p).opnum + 1 }).Legal :=
    h.setTile (t := { s.tile p with opnum := (s.tile p).opnum + 1 }) (h p) p
  have h1 := ha _ (s.tile p).opnum.toNat h0
  unfold State.gateOp
  split
  · exact h
  · dsimp only
    split
    · exact h1
    · dsimp only [Option.getD_some]
      split
      · exact State.diverge_legal h1 _ _
      · simpa only [State.Legal, State.setDuplex_tiles] using h1
    · split
      · exact h
      · split
        · simpa only [State.Legal, State.setDuplex_tiles, Option.getD_some] using h0
        · dsimp only [Option.getD_some]
          exact State.diverge_legal h0 _ _
    · simpa only [State.Legal, State.setCatchUp_tiles, Option.getD_some] using h0

theorem State.gateInstr_legal (h : s.Legal) (p addr opc target entry r)
    {apply : State → Nat → State × Option Result} {fin : Option Result → Tile → Tile}
    (ha : ∀ u n, u.Legal → (apply u n).1.Legal) (hf : ∀ res t, (fin res t).held = t.held) :
    (s.gateInstr p addr opc target entry r apply fin).Legal := by
  have ended (u : State) (res : Option Result) (hu : u.Legal) (l : List ReqFail) (arg : Nat) :
      ((u.setTile p (if res.isNone then (fin res (u.tile p)).raise 12 else fin res (u.tile p))).noteFails p addr arg
        l).Legal := by
    rw [State.Legal, State.noteFails_tiles]
    refine hu.setTile ?_ p
    split
    · exact (congrArg Held.Legal ((Tile.raise_held _ 12).trans (hf ..))).mpr (hu p)
    · exact (congrArg Held.Legal (hf ..)).mpr (hu p)
  have lost := State.gateOp_legal h p addr opc target entry (apply := fun s1 n => (s1, s1.outcomeOf addr p n))
    fun u n hu => hu
  have done := State.gateOp_legal h p addr opc target entry ha
  cases r with
  | good => exact ended _ _ done _ _
  | beaten => exact ended _ _ done _ _
  | found l => exact ended _ _ done _ _
  | missed l => exact ended _ _ lost _ _
  | lost applied l =>
    cases applied with
    | true => exact ended _ none done _ _
    | false => exact ended _ none lost _ _

/-! ### The return stack and the system registers (R72 to R77, R163) -/

theorem Tile.push_legal {n u : Tile} {a : W16} (h : n.held.Legal) (hu : n.push a = some u) : u.held.Legal := by
  obtain ⟨hen, -, hrest⟩ := h
  unfold Tile.push at hu
  split at hu
  · cases hu
  · obtain rfl := Option.some.inj hu
    exact ⟨hen, Nat.min_le_left _ _, hrest⟩

theorem Tile.pop_legal {n u : Tile} {a : W16} (h : n.held.Legal) (hu : n.pop = some (a, u)) : u.held.Legal := by
  obtain ⟨hen, hdepth, hrest⟩ := h
  unfold Tile.pop at hu
  split at hu
  · cases hu
  · obtain ⟨-, rfl⟩ := Prod.mk.inj (Option.some.inj hu)
    exact ⟨hen, (Nat.sub_le _ _).trans hdepth, hrest⟩

@[simp] theorem State.relevel_held (p) (t : Tile) : (s.relevel p t).held = t.held := by
  simp only [State.relevel]
  (repeat' split) <;> rfl

@[simp] theorem State.enableLevel_held (p) (t : Tile) : (s.enableLevel p t).held = t.held := by
  simp only [State.enableLevel]
  (repeat' split) <;> rfl

theorem toNat_and_ff00_mod (v : W16) : (v &&& 0xFF00).toNat % 256 = 0 := by
  rw [BitVec.toNat_and, show 256 = 2 ^ 8 from rfl, Nat.and_mod_two_pow]
  exact Nat.and_zero _

theorem toNat_and_fff8_mod (v : W16) : (v &&& 0xFFF8).toNat % 8 = 0 := by
  rw [BitVec.toNat_and, show 8 = 2 ^ 3 from rfl, Nat.and_mod_two_pow]
  exact Nat.and_zero _

/-- A SETS keeps line 13 enabled, masks the ring's base and tail, and keeps its size and the depth in range. -/
theorem State.sysWrite_legal (p) {t : Tile} (h : t.held.Legal) (a : Nat) (v : Byte) :
    (s.sysWrite p t a v).held.Legal := by
  obtain ⟨hen, hdepth, hbase, htail, hlog⟩ := h
  have hen' : t.en.getLsbD 13 = true := hen
  have keep : t.held.Legal := ⟨hen, hdepth, hbase, htail, hlog⟩
  unfold State.sysWrite
  split
  -- SYS_EVPEND, SYS_EVEN and SYS_EVEN_HI
  case h_1 | h_2 => rwa [State.relevel_held]
  case h_3 => exact ⟨by simp [Tile.held, hen'], hdepth, hbase, htail, hlog⟩
  case h_4 =>
    rw [State.enableLevel_held]
    exact ⟨by simp [Tile.held], hdepth, hbase, htail, hlog⟩
  -- SYS_RXBASE_HI, SYS_RXSIZE and SYS_RXTAIL_HI
  case h_20 => exact ⟨hen, hdepth, toNat_and_ff00_mod _, rfl, hlog⟩
  case h_21 =>
    refine ⟨hen, hdepth, hbase, rfl, ?_⟩
    dsimp only [Tile.held]
    split
    · exact .inr ‹_›
    · exact .inl rfl
  case h_22 => exact ⟨hen, hdepth, hbase, toNat_and_fff8_mod _, hlog⟩
  -- SYS_RSCTL
  case h_25 =>
    refine ⟨hen, ?_, hbase, htail, hlog⟩
    dsimp only [Tile.held]
    split
    · assumption
    · exact hdepth
  -- SYS_DTCMT
  case h_30 =>
    split
    · rwa [Tile.commitEntry_held]
    · exact keep
  all_goals exact keep

/-! ### One tile instruction (R69, R93, R95) -/

/-- An instruction's effect leaves the tiles legal. -/
def Eff.Legal : Eff → Prop
  | .go n | .jump n _ => n.held.Legal
  | .act n post => n.held.Legal ∧ ∀ u, u.Legal → (post u).Legal
  | .own f => ∀ u, u.Legal → (f u).Legal
  | .wait _ | .trap _ _ | .bad _ => True

@[simp] theorem Eff.go_legal {n : Tile} : (Eff.go n).Legal ↔ n.held.Legal := Iff.rfl

@[simp] theorem Eff.jump_legal {n : Tile} {pc} : (Eff.jump n pc).Legal ↔ n.held.Legal := Iff.rfl

@[simp] theorem Eff.act_legal {n : Tile} {post} :
    (Eff.act n post).Legal ↔ n.held.Legal ∧ ∀ u, u.Legal → (post u).Legal := Iff.rfl

@[simp] theorem Eff.bad_legal {a} : (Eff.bad a).Legal := trivial

/-- The state after a happening has every tile legal. -/
def Out.Legal : Out → Prop
  | .next t => t.Legal
  | _ => True

theorem ok_legal (h : s.Legal) (c) : (ok c s).Legal := by
  unfold ok
  split
  · exact h
  · trivial

theorem legal_when {s' : State} (h' : s'.Legal) (h : s.Legal) (c) : (when_ c s' s).Legal := by
  unfold when_
  split
  · exact h'
  · exact h

theorem State.tileTrap_legal (h : s.Legal) (p code arg spc) : (s.tileTrap p code arg (s.tile p) spc).Legal := by
  rwa [State.Legal, State.tileTrap_held s (State.tile_held s p)]

theorem State.badTrap_legal (h : s.Legal) (p a code arg spc) :
    ((s.noteBad p a).tileTrap p code arg (s.tile p) spc).Legal := by
  rwa [State.Legal, State.tileTrap_held _ (by simp), State.noteBad_tiles]

section

variable {body : Tile → Tile → Eff}

theorem State.tileStep_legal (h : s.Legal) (hb : ∀ o n, n.held.Legal → (body o n).Legal) (p len x dec) :
    (s.tileStep p len x dec body).Legal := by
  have hl : (s.tile p).land.held.Legal := by rw [Tile.land_held]; exact h p
  have h1 := hb (s.tile p) _ hl
  unfold State.tileStep
  dsimp only
  split
  · exact State.badTrap_legal h _ _ _ _ _
  · split
    · exact State.tileTrap_legal h _ _ _ _
    · split
      · split <;> rename_i hbody <;> rw [hbody] at h1
        · exact h.setTile (by rwa [Tile.seq_held]) p
        · refine h.setTile ?_ p
          exact h p
        · exact h.setTile (by rwa [Tile.jumpTo_held]) p
        · exact State.tileTrap_legal h _ _ _ _
        · exact State.badTrap_legal h _ _ _ _ _
        · exact h1.2 _ (h.setTile (by rw [Tile.seq_held]; exact h1.1) p)
        · exact h1 _ h
      · exact h.setTile (by rwa [Tile.seq_held]) p

theorem State.tileInsn_legal (h : s.Legal) (hb : ∀ o n, n.held.Legal → (body o n).Legal) (p len x dec) :
    (s.tileInsn p len x dec body).Legal :=
  State.tileStep_legal h hb _ _ _ _

theorem State.tileExec_legal (h : s.Legal) (p len x dec) (hb : ∀ o n, n.held.Legal → (body o n).Legal) :
    (s.tileExec p len x dec body).Legal :=
  ok_legal (legal_when (State.tileInsn_legal h hb _ _ _ _) h _) _

theorem State.tileExecW_legal (h : s.Legal) (p len x dec key) (hb : ∀ o n, n.held.Legal → (body o n).Legal) :
    (s.tileExecW p len x dec key body).Legal := by
  refine ok_legal ?_ _
  split
  · refine State.tileInsn_legal ?_ hb _ _ _ _
    rwa [State.Legal, State.resumeTile_held]
  · exact legal_when (State.tileInsn_legal h hb _ _ _ _) h _

end

variable {s : State}

/-! ### The tile instructions (R98 to R133) -/

@[simp] theorem Tile.setGuards_held (t : Tile) (v) : (t.setGuards v).held = t.held :=
  List.foldlRecOn (motive := fun u : Tile => u.held = t.held) _ _ rfl fun u hu i _ => by simp [hu]

@[simp] theorem Tile.popInto_held (t : Tile) (d g tag v) : (t.popInto d g tag v).held = t.held := by
  simp [Tile.popInto]

@[simp] theorem Tile.snapPcnt_held (t : Tile) (a) : (t.snapPcnt a).held = t.held := by
  unfold Tile.snapPcnt
  split <;> rfl

theorem callEff_legal {o n : Tile} (hn : n.held.Legal) (x len target) : (callEff o n x len target).Legal := by
  unfold callEff
  split
  · trivial
  · rename_i hu
    exact Tile.push_legal hn hu

theorem loadEff_legal {o n : Tile} (hn : n.held.Legal) (wide a dest) : (loadEff o n wide a dest).Legal := by
  unfold loadEff
  generalize (if wide then 2 else 1) = len
  split
  · trivial
  · exact hn

theorem storeByteEff_legal {o n : Tile} (hn : n.held.Legal) (a v) : (storeByteEff o n a v).Legal := by
  unfold storeByteEff
  split
  · trivial
  · rwa [Eff.go_legal, Tile.store_held]

theorem storeWordEff_legal {o n : Tile} (hn : n.held.Legal) (a v) : (storeWordEff o n a v).Legal := by
  unfold storeWordEff
  split
  · trivial
  · rwa [Eff.go_legal, Tile.storeW_held]

theorem execMov_legal (h : s.Legal) (p f) : (execMov p f s).Legal := by
  unfold execMov
  split
  · exact State.tileExec_legal h _ _ _ _ fun o n hn => by simpa using hn
  · split
    · exact ok_legal (legal_when (State.tileStep_legal h (body := fun _ n => .go n) (fun _ _ hn => hn) _ _ _ _) h _) _
    · exact ok_legal h _

/-! ### The custom instruction (R121 to R133) -/

@[simp] theorem Tile.uWrite_held (t : Tile) (r wide v) : (t.uWrite r wide v).held = t.held := by
  cases r <;> simp [Tile.uWrite]

@[simp] theorem UCtx.write_held (k : UCtx) (r wide v) : (k.write r wide v).n.held = k.n.held :=
  Tile.uWrite_held ..

@[simp] theorem UCtx.land_held (k : UCtx) : k.land.n.held = k.n.held := by
  unfold UCtx.land
  split
  · rfl
  · exact UCtx.write_held ..

@[simp] theorem UCtx.setFl_held (k : UCtx) (f) : (k.setFl f).n.held = k.n.held := (rfl)

@[simp] theorem UCtx.withMem_held (k : UCtx) (t) : (k.withMem t).n.held = k.n.held := (rfl)

@[simp] theorem UCtx.finish_held (k : UCtx) : k.finish.held = k.n.held := by
  unfold UCtx.finish
  split <;> rfl

theorem uStep_held {c u k k' j} (h : uStep c u k = .ok (k', j)) : k'.n.held = k.n.held := by
  unfold uStep at h
  dsimp only at h
  split at h
  · generalize (if uW u = true then 2 else 1) = len at h
    split at h <;> cases h
    exact UCtx.land_held k
  · (repeat' split at h) <;> cases h <;> simp

theorem uRun_held {c fuel us} {k k' : UCtx} (h : uRun c fuel us k = .ok k') : k'.n.held = k.n.held := by
  induction fuel generalizing us k with
  | zero => cases h; rfl
  | succ fuel ih =>
    cases us with
    | nil => cases h; rfl
    | cons u r =>
      unfold uRun at h
      split at h
      · split at h <;> cases h
        exact UCtx.land_held k
      · split at h
        · cases h
        · exact (ih h).trans (uStep_held ‹_›)

theorem custPlain_legal {k : UCtx} (hk : k.n.held.Legal) (f us) : (custPlain f us k).Legal := by
  unfold custPlain
  split
  · trivial
  · rename_i hr
    exact ⟨by rwa [UCtx.finish_held, uRun_held hr], fun u hu => hu⟩

theorem State.custom_legal (h : s.Legal) (p x c) {run : CustomArgs → List W24 → UCtx → Eff}
    (hr : ∀ f us k, k.n.held.Legal → (run f us k).Legal) : (s.custom p x c run).Legal :=
  State.tileExec_legal h _ _ _ _ fun o n hn => by
    dsimp only
    split
    · trivial
    · split
      · trivial
      · exact hr _ _ _ hn

/-! ### The system instructions (R83 to R87, R110 to R118) -/

theorem retEff_legal {n : Tile} (hn : n.held.Legal) :
    Eff.Legal (match n.pop with
      | none => .trap 4 0
      | some (a, n1) => .jump n1 a) := by
  split
  · trivial
  · rename_i hu
    exact Tile.pop_legal hn hu

theorem execSend_legal (h : s.Legal) (p x b g) : (execSend p x b g s).Legal :=
  State.tileExec_legal h _ _ _ _ fun o n hn => by
    dsimp only
    split
    · trivial
    · split
      · trivial
      · exact ⟨hn, fun u hu => State.sendAt_legal hu _ _ _⟩

theorem execQpush_legal (h : s.Legal) (p x d q g r) : (execQpush p x d q g r s).Legal :=
  State.tileExecW_legal h _ _ _ _ _ fun o n hn => by
    (repeat' split) <;> try trivial
    refine ⟨hn, fun u hu => State.gateInstr_legal hu _ _ _ _ _ _ (fun v m hv => ?_) fun _ _ => by simp⟩
    simpa using hv

theorem execQpop_legal (h : s.Legal) (p x d q g r) : (execQpop p x d q g r s).Legal :=
  State.tileExecW_legal h _ _ _ _ _ fun o n hn => by
    (repeat' split) <;> try trivial
    refine ⟨hn, fun u hu => State.gateInstr_legal hu _ _ _ _ _ _ (fun v m hv => ?_) fun res _ => ?_⟩
    · simpa using hv
    · cases res <;> simp

theorem execTready_legal (h : s.Legal) (p x d g r) : (execTready p x d g r s).Legal :=
  State.tileExecW_legal h _ _ _ _ _ fun o n hn => by
    split
    · trivial
    · split
      · trivial
      · refine ⟨hn, fun u hu => State.gateInstr_legal hu _ _ _ _ _ _ (fun v m hv => ?_) fun _ _ => by simp⟩
        split <;> simpa using hv

theorem execTcancel_legal (h : s.Legal) (p x d g r) : (execTcancel p x d g r s).Legal :=
  State.tileExecW_legal h _ _ _ _ _ fun o n hn => by
    split
    · trivial
    · split
      · trivial
      · refine ⟨hn, fun u hu => State.gateInstr_legal hu _ _ _ _ _ _ (fun v m hv => ?_) fun _ _ => by simp⟩
        simpa using hv

theorem execTdone_legal (h : s.Legal) (p x r) : (execTdone p x r s).Legal :=
  State.tileExecW_legal h _ _ _ _ _ fun o n hn => by
    dsimp only
    (repeat' split) <;> try trivial
    refine ⟨hn, fun u hu => State.gateInstr_legal hu _ _ _ _ _ _ (fun v m hv => ?_) fun res t => ?_⟩
    · simpa using hv
    · split <;> rfl

theorem execTime_legal (h : s.Legal) (p x b g r) : (execTime p x b g r s).Legal :=
  State.tileExec_legal h _ _ _ _ fun o n hn => by
    cases r <;> dsimp only
    case good | found => split <;> simp [hn]
    all_goals simp [hn]

theorem execStim_legal (h : s.Legal) (p x port d n) : (execStim p x port d n s).Legal :=
  State.tileExec_legal h _ _ _ _ fun o t ht => by
    split
    · trivial
    · refine ⟨ht, fun u hu => ?_⟩
      dsimp only
      split <;> simpa using hu

theorem execSleep_legal (h : s.Legal) (p x) : (execSleep p x s).Legal :=
  State.tileExec_legal h _ _ _ _ fun o n hn => ⟨hn, fun u hu => by
    dsimp only
    split
    · exact hu
    · refine hu.setTile ?_ p
      exact hu p⟩

theorem execRete_legal (h : s.Legal) (p x) : (execRete p x s).Legal :=
  State.tileExec_legal h _ _ _ _ fun o n hn => by
    (repeat' split) <;> [trivial; exact hn; exact hn]

theorem execTrap_legal (h : s.Legal) (p x imm) : (execTrap p x imm s).Legal :=
  State.tileExec_legal h _ _ _ _ fun _ _ hn => ⟨hn, fun _ hu => State.tileTrap_legal hu _ _ _ _⟩

theorem execFence_legal (h : s.Legal) (p x) : (execFence p x s).Legal :=
  State.tileExec_legal h _ _ _ _ fun o n hn => ⟨hn, fun u hu => by
    refine hu.setTile ?_ p
    exact hu p⟩

/-! ### One instruction of a debug step (R488) -/

theorem tileRun_legal (h : s.Legal) (i : Instr) : (tileRun i s).Legal := by
  cases i
  case mov => exact execMov_legal h _ _
  case add | adc | sub | sbc | and | or | xor | mul | muls | not | neg | inc | dec | swap | movp | movpw | movwp |
      addpw | addpb | movi | addi | movip | addip | subi | adci | sbci | andi | ori | xori | shl | shr | asr | rol |
      ror | rlc | rrc | lea | jmp | bra | jmpp | nop | cmpg | cmpgi | dadd | dsub | dadj | dshl | dshr | b2d | d2b |
      bset | bclr | btgl | btst | gand | gor | gxor | gmov | gtod | dtog | gets =>
    exact State.tileExec_legal h _ _ _ _ fun o n hn => by simpa using hn
  case customInstruction => exact State.custom_legal h _ _ _ fun f us k hk => custPlain_legal hk f us
  case ld | ldw | ldp => exact State.tileExec_legal h _ _ _ _ fun o n hn => loadEff_legal hn _ _ _
  case st => exact State.tileExec_legal h _ _ _ _ fun o n hn => storeByteEff_legal hn _ _
  case stw | stp => exact State.tileExec_legal h _ _ _ _ fun o n hn => storeWordEff_legal hn _ _
  case call | callp => exact State.tileExec_legal h _ _ _ _ fun o n hn => callEff_legal hn _ _ _
  case ret => exact State.tileExec_legal h _ _ _ _ fun o n hn => retEff_legal hn
  case djnz => exact State.tileExec_legal h _ _ _ _ fun o n hn => by dsimp only; split <;> simpa using hn
  case bcc => exact State.tileExec_legal h _ _ _ _ fun o n hn => by split <;> exact hn
  case send p x b g => exact execSend_legal h p x b g
  case qpush p x d q g r => exact execQpush_legal h p x d q g r
  case qpop p x d q g r => exact execQpop_legal h p x d q g r
  case tready p x d g r => exact execTready_legal h p x d g r
  case tcancel p x d g r => exact execTcancel_legal h p x d g r
  case tdone p x r => exact execTdone_legal h p x r
  case time p x b g r => exact execTime_legal h p x b g r
  case stim p x port d n => exact execStim_legal h p x port d n
  case sleep p x => exact execSleep_legal h p x
  case sets => exact State.tileExec_legal h _ _ _ _ fun o n hn => State.sysWrite_legal _ hn _ _
  case rete p x => exact execRete_legal h p x
  case trap p x imm => exact execTrap_legal h p x imm
  case fence p x => exact execFence_legal h p x
  all_goals exact h

end Sys2Proof.Machine
end

section
/-! SUPPORT. Debug steps and requests served keep every tile legal. -/

namespace Sys2Proof.Machine
open Sys2Proof.Safety

variable {s : State}

/-! ### Debug steps (R488) -/

@[simp] theorem State.runOne_legal (h : s.Legal) (p) : (s.runOne p).Legal := by
  unfold State.runOne
  extract_lets x i
  have h1 := tileRun_legal h i
  split
  · refine h.setTile ?_ p
    exact h p
  · split
    · rename_i hi
      rwa [hi] at h1
    · exact h

@[simp] theorem State.dbgStep_legal (h : s.Legal) (p) : (s.dbgStep p).Legal := by
  have ha : (s.askHalt p false).Legal := by simpa using h
  have h0 : ((s.askHalt p false).setTile p { s.tile p with run := .running }).Legal :=
    ha.setTile (t := { s.tile p with run := .running }) (h p) p
  unfold State.dbgStep
  dsimp only
  split
  · generalize (s.askHalt p false).setTile p { s.tile p with run := .running } = s0 at h0
    have h1 : (if (s.tile p).due then s0.runOne p else s0).Legal := by split <;> simp only [State.runOne_legal, h0]
    generalize (if (s.tile p).due then s0.runOne p else s0) = s1 at h1
    have h2 : (s1.runOne p).Legal := State.runOne_legal h1 p
    generalize s1.runOne p = s2 at h2
    rw [State.Legal, State.dbgHalt_held]
    split
    · exact State.runOne_legal h2 p
    · exact h2
  · exact h

theorem State.onDbgTile_legal (h : s.Legal) (t) {f : State → Nat → State} (hf : ∀ u p, u.Legal → (f u p).Legal) :
    (s.onDbgTile t f).Legal := by
  have h1 : (s.dbgName t).Legal := by simpa using h
  simp only [State.onDbgTile]
  split
  · exact h1
  · split
    · exact hf _ _ h1
    · exact h1

@[simp] theorem State.writeDbgTile_legal (h : s.Legal) (op t) : (s.writeDbgTile op t).Legal := by
  unfold State.writeDbgTile
  split
  · exact h
  · refine State.onDbgTile_legal h t fun u p hu => ?_
    split <;> simp [hu]

/-! ### Writes of unit space (R7, R198, R345, R484) -/

@[simp] theorem State.wrDebug_legal (h : s.Legal) (o v) : (s.wrDebug o v).Legal := by
  simp only [State.wrDebug]
  (repeat' split) <;> simp [h]

@[simp] theorem State.wrWord_legal (h : s.Legal) (w a v) : (s.wrWord w a v).Legal := by
  simp only [State.wrWord]
  (repeat' split) <;> simp [h]

@[simp] theorem State.wrFlit_legal (h : s.Legal) (w a bs) : (s.wrFlit w a bs).Legal := by
  unfold State.wrFlit
  (repeat' split) <;> simp [h]

@[simp] theorem State.wrFlits_legal (h : s.Legal) (w n a bs) : (s.wrFlits w n a bs).Legal := by
  induction n generalizing s a bs with
  | zero => exact h
  | succ n ih => exact ih (State.wrFlit_legal h _ _ _) _ _

@[simp] theorem State.wrUnit_legal (h : s.Legal) (w a bs) : (s.wrUnit w a bs).1.Legal := by
  simp only [State.wrUnit]
  (repeat' split) <;> simp [h]

@[simp] theorem State.wrBeats_legal (h : s.Legal) (w a n bs) : (s.wrBeats w a n bs).1.Legal := by
  induction n generalizing s bs with
  | zero => exact h
  | succ n ih =>
    simp only [State.wrBeats]
    split
    · refine ih ?_ _
      split <;> simp [h]
    · split
      · exact ih (State.wrUnit_legal h _ _ _) _
      · exact State.wrUnit_legal h _ _ _

/-! ### Requests served (R147 to R157, R318, R345) -/

@[simp] theorem State.serveUnit_legal (h : s.Legal) (m) : (s.serveUnit m).1.Legal := by
  unfold State.serveUnit
  extract_lets w n again st r st1 r1 st2 r2
  have ht {u : State × Resp} (hu : u.1.Legal) : (again u).1.Legal := by
    simp only [again]
    split <;> exact hu
  split
  · simpa using h
  · split
    · split
      · exact h
      · refine ht ?_
        simpa [r] using h
    · split
      · exact h
      · exact ht (State.wrUnit_legal h _ _ _)
    · split
      · exact h
      · exact ht (State.wrBeats_legal h _ _ _ _)
    · simpa using h
    · exact h
    · split <;> exact h

@[simp] theorem State.serve_legal (h : s.Legal) (m) : (s.serve m).1.Legal := by
  unfold State.serve
  (repeat' split) <;> simp [h]

@[simp] theorem State.deliver_legal (h : s.Legal) (m) : (s.deliver m).Legal := by
  simp only [State.deliver]
  (repeat' split) <;> simp [h]

@[simp] theorem State.abandonWorm_legal (h : s.Legal) (m arrived) : (s.abandonWorm m arrived).Legal := by
  simp only [State.abandonWorm]
  split <;> simp [h]

@[simp] theorem State.arrive_legal (h : s.Legal) (m kind) : (s.arrive m kind).Legal := by
  unfold State.arrive
  (repeat' split) <;> simp [h]

/-! ### Accesses of the host and of the debug master (R429, R484) -/

@[simp] theorem State.bar0Flit_legal (h : s.Legal) (w o bs) : (s.bar0Flit w o bs).Legal := by
  unfold State.bar0Flit
  split <;> simp [h]

@[simp] theorem State.bar0Write_legal (h : s.Legal) (w n o bs) : (s.bar0Write w n o bs).Legal := by
  induction n generalizing s o bs with
  | zero => exact h
  | succ n ih =>
    simp only [State.bar0Write]
    split
    · exact h
    · exact ih (State.bar0Flit_legal h _ _ _) _ _

@[simp] theorem State.bar0_legal (h : s.Legal) (a) : (s.bar0 a).Legal := by
  simp only [State.bar0]
  split <;> simp [h]

@[simp] theorem State.debugUnit_legal (h : s.Legal) (write addr data) : (s.debugUnit write addr data).Legal := by
  simp only [State.debugUnit]
  (repeat' split) <;> simp [h]

@[simp] theorem State.debugAccess_legal (h : s.Legal) (op space addr data) :
    (s.debugAccess op space addr data).Legal := by
  simp only [State.debugAccess]
  (repeat' split) <;> simp [h]

/-! ### Remote accesses inside a custom instruction (R132) -/

@[simp] theorem State.serveMid_legal (h : s.Legal) (p n mid) : (s.serveMid p n mid).Legal := by
  refine foldl_legal (fun u e hu => ?_) _ h
  split <;> simp [hu]

theorem uRunMid_legal (h : s.Legal) (c p mid fuel n us k) : (uRunMid c p mid fuel n us s k).1.Legal := by
  induction fuel generalizing s n us k with
  | zero => exact h
  | succ fuel ih =>
    cases us with
    | nil => exact h
    | cons u r =>
      have h1 := State.serveMid_legal h p n mid
      simp only [uRunMid]
      split
      · exact h1
      · split
        · exact h1
        · exact ih h1 _ _ _

theorem uRunMid_held {c p mid fuel n us} {k k' : UCtx} (h : (uRunMid c p mid fuel n us s k).2 = .ok k') :
    k'.n.held = k.n.held := by
  induction fuel generalizing s n us k with
  | zero => cases h; rfl
  | succ fuel ih =>
    cases us with
    | nil => cases h; rfl
    | cons u r =>
      simp only [uRunMid] at h
      split at h
      · exact (uRun_held h).trans (UCtx.withMem_held ..)
      · split at h
        · cases h
        · exact (ih h).trans ((uStep_held ‹_›).trans (UCtx.withMem_held ..))

theorem State.custMid_legal (h : s.Legal) {k : UCtx} (hk : k.n.held.Legal) (p f us mid) :
    (s.custMid p f us k mid).Legal := by
  have h1 := uRunMid_legal h f p mid us.length 0 us k
  simp only [State.custMid]
  split
  · exact fun u hu => State.badTrap_legal h1 _ _ _ _ _
  · rename_i hr
    refine ⟨by rwa [UCtx.finish_held, uRunMid_held hr], fun u hu => ?_⟩
    exact h1.setTile (hu p) p

theorem execCustomInstruction_legal (h : s.Legal) (p x c) : (execCustomInstruction p x c s).Legal :=
  State.custom_legal h _ _ _ fun f us k hk => by
    split
    · exact custPlain_legal hk _ _
    · exact State.custMid_legal h hk _ _ _ _

end Sys2Proof.Machine
end

section
/-! SUPPORT. Every command and every tick keeps every tile legal (O59). -/

namespace Sys2Proof.Machine
open Sys2Proof.Safety

section

variable (s : State)

/-! ### What 5 ns do (R14, R49, R276 to R306, R491) -/

@[simp] theorem State.push_tiles (cs) : (s.push cs).tiles = s.tiles := (rfl)

@[simp] theorem State.tickTime_tiles (edge) : (s.tickTime edge).tiles = s.tiles := by
  simp only [State.tickTime]
  (repeat' split) <;> simp

@[simp] theorem State.tickAlarms_tiles (edge) : (s.tickAlarms edge).tiles = s.tiles := by
  unfold State.tickAlarms
  split <;> simp

@[simp] theorem State.tickTimer_tiles (n) : (s.tickTimer n).tiles = s.tiles := by
  have h1 : (if (s.timer n).capDue && !(s.timer n).frozen then s.push [.timerCapture n] else s).tiles = s.tiles := by
    split <;> rfl
  simp only [State.tickTimer]
  generalize (if (s.timer n).capDue && !(s.timer n).frozen then s.push [.timerCapture n] else s) = s1 at h1
  (repeat' split) <;> simp [h1]

@[simp] theorem State.tickTimers_tiles : s.tickTimers.tiles = s.tiles := by
  simp only [State.tickTimers]
  (repeat' split) <;> simp

@[simp] theorem State.tickPins_tiles : s.tickPins.tiles = s.tiles := by simp [State.tickPins]

@[simp] theorem State.tickTrace_tiles : s.tickTrace.tiles = s.tiles := by
  simp only [State.tickTrace]
  (repeat' split) <;> rfl

@[simp] theorem State.tickLull_tiles (c) : (s.tickLull c).tiles = s.tiles := by
  unfold State.tickLull
  (repeat' split) <;> simp

@[simp] theorem State.tickWindows_tiles : s.tickWindows.tiles = s.tiles := by
  unfold State.tickWindows
  split <;> rfl

@[simp] theorem State.tickResync_tiles : s.tickResync.tiles = s.tiles := by
  unfold State.tickResync
  split <;> rfl

@[simp] theorem State.tickFabric_tiles : s.tickFabric.tiles = s.tiles := by
  simp only [State.tickFabric]
  split <;> rfl

@[simp] theorem State.tickEngine_held : heldBy s.tickEngine.tiles = heldBy s.tiles := by
  simp only [State.tickEngine]
  (repeat' split) <;> simp

@[simp] theorem State.tickFeed_held (f) : heldBy (s.tickFeed f).tiles = heldBy s.tiles := by
  simp only [State.tickFeed]
  (repeat' split) <;> simp

end

variable {s : State}

@[simp] theorem State.tickMgmt_legal (h : s.Legal) : s.tickMgmt.Legal := by
  unfold State.tickMgmt
  split <;> simp [h]

@[simp] theorem State.tickPairs_legal (h : s.Legal) : s.tickPairs.Legal := by
  unfold State.tickPairs
  split
  · exact h
  · exact foldl_legal (fun u e hu => State.rePair_legal hu _ _) _ h

@[simp] theorem State.tickRun_legal (h : s.Legal) (edge) : (s.tickRun edge).Legal := by
  simp only [State.tickRun]
  generalize hs2 : State.tickTrace _ = s2
  have h2 : s2.Legal := by simpa [← hs2] using h
  generalize hs3 : State.tickPairs _ = s3
  have h3 : s3.Legal := by
    rw [← hs3]
    exact State.tickPairs_legal (State.tickMgmt_legal (by simpa using h2))
  simp only [State.Legal, State.tickResync_tiles, State.tickWindows_tiles, State.tickLog_tiles,
    State.tickFabric_tiles]
  exact State.tickMembers_legal (by simpa using h3)

theorem tick_legal (h : s.Legal) : (tick s).Legal := by
  simp only [tick]
  split
  · exact h
  · split
    · exact h
    · split
      · refine State.tickRun_legal ?_ _
        exact h
      · exact h

variable {s : State}

theorem okWhen_legal {s' : State} (h : s.Legal) (h' : s'.Legal) (c c') : (ok c (when_ c' s' s)).Legal :=
  ok_legal (legal_when h' h _) _

/-- What a command leaves once it is answered has every tile legal. -/
def CmdRes.Legal : CmdRes → Prop
  | .done u _ _ | .wait u => u.Legal
  | .after u f => u.Legal ∧ ∀ v, v.Legal → (f v).Legal

@[simp] theorem CmdRes.done_legal {u st p} : (CmdRes.done u st p).Legal ↔ u.Legal := Iff.rfl

@[simp] theorem CmdRes.wait_legal {u} : (CmdRes.wait u).Legal ↔ u.Legal := Iff.rfl

@[simp] theorem CmdRes.after_legal {u f} :
    (CmdRes.after u f).Legal ↔ u.Legal ∧ ∀ v, v.Legal → (f v).Legal := Iff.rfl

@[simp] theorem CmdRes.ok_legal {u} : (CmdRes.ok u).Legal ↔ u.Legal := Iff.rfl

@[simp] theorem CmdRes.no_legal {u st} : (CmdRes.no u st).Legal ↔ u.Legal := Iff.rfl

@[simp] theorem CmdRes.held_legal {u o i} : (CmdRes.held u o i).Legal ↔ u.Legal := Iff.rfl

theorem CmdRes.finish_legal {r : CmdRes} (h : r.Legal) (m) : (r.finish m).Legal := by
  cases r with
  | done u st p => simpa only [CmdRes.finish, State.Legal, State.finishMbx_tiles, CmdRes.done_legal] using h
  | after u f => exact h.2 _ (by simpa only [State.Legal, State.finishMbx_tiles] using h.1)
  | wait u => exact h

theorem command_legal (h : s.Legal) (m code sel) {body : List Byte → CmdRes} (hb : ∀ p, (body p).Legal) :
    (command s m code sel body).Legal := by
  refine ok_legal ?_ _
  split
  · exact CmdRes.finish_legal (hb _) m
  · exact h

theorem memberRow_legal (h : s.Legal) (a b) {f : State → State} (hf : ∀ u, u.Legal → (f u).Legal) :
    (memberRow a b f s).Legal :=
  okWhen_legal h (State.takeMember_legal h a b fun u hu => legal_when (hf u hu) hu _) _ _

theorem State.regWrite_legal (h : s.Legal) (w a n) {f : State → State} (hf : ∀ u, u.Legal → (f u).Legal) :
    (s.regWrite w a n f).Legal := by
  unfold State.regWrite
  split
  · exact h
  · split
    · simpa using h
    · split
      · simpa using h
      · exact hf _ (by simpa using h)

/-! ### Rows with more than one case -/

theorem execSendCompletion_legal (h : s.Legal) (p tag) : (execSendCompletion p tag s).Legal := by
  refine ok_legal ?_ _
  split
  · exact h
  · exact legal_when (by simpa using h) h _

theorem execQueuePush_legal (h : s.Legal) (q entry by_) : (execQueuePush q entry by_ s).Legal := by
  refine ok_legal ?_ _
  split
  · exact legal_when (by simpa using h) h _
  · exact legal_when (by simpa using h) h _
  · exact State.regWrite_legal h _ _ _ fun u hu => by simpa using hu

theorem execDispReady_legal (h : s.Legal) (c slot by_) : (execDispReady c slot by_ s).Legal := by
  refine ok_legal ?_ _
  split
  · refine legal_when ?_ h _
    split <;> simpa using h
  · refine State.regWrite_legal h _ _ _ fun u hu => ?_
    split <;> simpa using hu

theorem execDispCancel_legal (h : s.Legal) (c slot by_ withReady) : (execDispCancel c slot by_ withReady s).Legal := by
  have raced {u : State} (hu : u.Legal) : (if withReady then u.beaten c else u).Legal := by
    split <;> simpa using hu
  refine ok_legal ?_ _
  split
  · refine legal_when ?_ h _
    simpa only [State.Legal, State.gateCancel_held] using raced h
  · refine State.regWrite_legal h _ _ _ fun u hu => ?_
    simpa only [State.Legal, State.dCancel_held] using raced hu

theorem execCancelLimitExpiry_legal (h : s.Legal) (c slot) : (execCancelLimitExpiry c slot s).Legal := by
  refine okWhen_legal h ?_ _ _
  split
  · simpa using h
  · rw [State.Legal, State.report_tiles]
    exact State.restartTile_legal (by simpa using h) _

theorem execCommitApply_legal (h : s.Legal) : (execCommitApply s).Legal := by
  refine ok_legal ?_ _
  split
  · exact h
  · exact legal_when (by simpa using h) h _

theorem execRelock_legal (h : s.Legal) : (execRelock s).Legal := by
  refine ok_legal ?_ _
  split
  · simpa using h
  · refine legal_when ?_ h _
    exact h

theorem execResponseTimeout_legal (h : s.Legal) (by_ tag) : (execResponseTimeout by_ tag s).Legal := by
  cases by_ <;> exact okWhen_legal h (by simpa using h) _ _

theorem execTagRestExpiry_legal (h : s.Legal) (by_ tag) : (execTagRestExpiry by_ tag s).Legal := by
  cases by_ with
  | tile p =>
    refine okWhen_legal h (h.setTile ?_ p) _ _
    exact h p
  | dma e => exact okWhen_legal h (by simpa using h) _ _
  | host | hub =>
    refine okWhen_legal h ?_ _ _
    exact h
  | router => exact ok_legal h _

theorem execTileSubstitution_legal (h : s.Legal) (t copyBad) : (execTileSubstitution t copyBad s).Legal := by
  refine ok_legal ?_ _
  split
  · exact h
  · exact legal_when (by simp [h]) h _

theorem execDuplexPromotion_legal (h : s.Legal) (t) : (execDuplexPromotion t s).Legal := by
  refine ok_legal ?_ _
  split
  · exact legal_when (by simp [h]) h _
  · exact h

theorem execHeartbeatSend_legal (h : s.Legal) : (execHeartbeatSend s).Legal := by
  refine okWhen_legal h ?_ _ _
  rw [State.Legal, State.setFabric_tiles]
  exact foldl_legal (fun u p hu => by simpa using hu) _ h

theorem execNotice_legal (h : s.Legal) (a seq b) : (execNotice a seq b s).Legal := by
  cases b with
  | change k =>
    refine okWhen_legal h ?_ _ _
    split <;> simp [h]
  | _ => exact memberRow_legal h _ _ fun u hu => by simp [hu]

theorem execSentOff_legal (h : s.Legal) (a) : (execSentOff a s).Legal :=
  okWhen_legal h (State.takeMember_legal h _ _ fun u hu => by simp [hu]) _ _

theorem execLoadTileImage_legal (h : s.Legal) (m) : (execLoadTileImage m s).Legal :=
  command_legal h _ _ _ fun p => by
    have stored {t : Nat} {a : W16} {bs : List Byte} {n : Nat} :
        (s.mapCopies t fun x => (x.storeBytes a bs).freshen a n).Legal := by
      rwa [State.Legal, State.mapCopies_held]
      simp
    dsimp only
    split
    · exact h
    · split
      · exact h
      · split
        · simpa using stored
        · exact stored

theorem execStartTile_legal (h : s.Legal) (m) : (execStartTile m s).Legal :=
  command_legal h _ _ _ fun p => by
    split
    · exact h
    · exact foldl_legal (fun u t hu => State.startLogical_legal hu t) _ h

theorem execSetPaceTarget_legal (h : s.Legal) (m) : (execSetPaceTarget m s).Legal :=
  command_legal h _ _ _ fun p => by
    dsimp only
    split
    · exact h
    · refine foldl_legal (fun u c hu => ?_) _ h
      simpa using hu

theorem execLoadDecodeTable_legal (h : s.Legal) (m) : (execLoadDecodeTable m s).Legal :=
  command_legal h _ _ _ fun p => by
    dsimp only
    split
    · exact h
    · split
      · exact h
      · rw [CmdRes.done_legal, State.Legal, State.mapCopies_held]
        · exact h
        · exact fun x => List.foldlRecOn (motive := fun y : Tile => y.held = x.held) _ _ rfl
            fun y hy e _ => (Tile.loadEntry_held ..).trans hy

theorem execSetDuplex_legal (h : s.Legal) (m) : (execSetDuplex m s).Legal := by
  refine command_legal h _ _ _ fun p => ?_
  extract_lets t q auto pair u
  have paired (prep : State → State) (r : Nat) (hp : (prep s).Legal) : (pair prep r).Legal := by
    simp only [pair]
    split
    · exact State.withBench_legal (State.pair_legal hp _ _ _)
    · exact h
  clear_value pair u q
  split
  · exact h
  · split
    · split
      · exact State.unpair_legal h _ _
      · exact h
    · split
      · exact h
      · split
        · split
          · exact paired id _ h
          · exact h
        · by_cases hq : 0x8000 ≤ q
          · rw [if_pos hq]
            split
            · exact h
            · split
              · exact h
              · split
                · exact paired (fun v => v.retireLogical u) _ (by simpa using h)
                · exact h
          · rw [if_neg hq]
            split
            · exact h
            · split
              · exact paired id _ h
              · exact h

theorem execModelLoadValidate_legal (h : s.Legal) (m) : (execModelLoadValidate m s).Legal :=
  command_legal h _ _ _ fun p => by
    dsimp only
    (repeat' split) <;> simpa [State.noModel] using h

theorem execModelLoad_legal (h : s.Legal) (m) : (execModelLoad m s).Legal :=
  command_legal h _ _ _ fun p => by
    dsimp only
    (repeat' split) <;> simpa [State.noModel] using h

theorem execModelSwitch_legal (h : s.Legal) (m) : (execModelSwitch m s).Legal :=
  command_legal h _ _ _ fun p => by
    dsimp only
    (repeat' split) <;> try exact h
    rw [CmdRes.ok_legal, State.Legal, State.tryExchange_tiles, State.setEngine_tiles]
    exact foldl_legal (fun u p hu => by simpa using hu) _ h

theorem execSleepExit_legal (h : s.Legal) : (execSleepExit s).Legal := by
  refine ok_legal ?_ _
  split
  · exact legal_when (by simp [h]) h _
  · exact h

theorem execDrizzleCycle_legal (h : s.Legal) (rx) : (execDrizzleCycle rx s).Legal := by
  refine ok_legal ?_ _
  split
  · exact legal_when (by simpa using h) h _
  · exact h

theorem execDrizzleWaitEnd_legal (h : s.Legal) (rx) : (execDrizzleWaitEnd rx s).Legal := by
  refine ok_legal ?_ _
  split
  · exact legal_when (by simpa using h) h _
  · exact h

theorem execDbgAccess_legal (h : s.Legal) (op space addr data) : (execDbgAccess op space addr data s).Legal :=
  okWhen_legal (State.loadIr_legal h _) (State.debugAccess_legal (State.loadIr_legal h _) _ _ _ _) _ _

theorem execRegisterWrite_legal (h : s.Legal) (r addr v) : (execRegisterWrite r addr v s).Legal :=
  okWhen_legal h (State.regWrite_legal h _ _ _ fun _ hu => State.wrWord_legal hu _ _ _) _ _

variable {s : State}

/-! ### Every command and every step -/

theorem execEventEntry_legal (h : s.Legal) (p) : (execEventEntry p s).Legal := by
  refine okWhen_legal h (h.setTile ?_ p) _ _
  exact h p

theorem execTileWake_legal (h : s.Legal) (p) : (execTileWake p s).Legal := by
  refine okWhen_legal h (h.setTile ?_ p) _ _
  split <;> exact h p

theorem execPaceCompareMatch_legal (h : s.Legal) (p) : (execPaceCompareMatch p s).Legal := by
  refine okWhen_legal h (h.setTile ?_ p) _ _
  exact h p

theorem exec_legal (h : s.Legal) (i : Instr) : Out.Legal (exec i s) := by
  have hr := tileRun_legal h i
  cases i
  case mov | add | adc | sub | sbc | and | or | xor | mul | muls | not | neg | inc | dec | swap | movp | movpw |
      movwp | addpw | addpb | movi | addi | movip | addip | subi | adci | sbci | andi | ori | xori | shl | shr |
      asr | rol | ror | rlc | rrc | ld | st | ldw | stw | ldp | stp | lea | jmp | call | ret | bra | jmpp | callp |
      djnz | bcc | nop | cmpg | cmpgi | dadd | dsub | dadj | dshl | dshr | b2d | d2b | bset | bclr | btgl | btst |
      gand | gor | gxor | gmov | gtod | dtog | send | qpush | qpop | time | stim | sleep | tready | tcancel |
      tdone | gets | sets | rete | trap | fence =>
    exact hr
  case customInstruction => exact execCustomInstruction_legal h _ _ _
  case eventEntry => exact execEventEntry_legal h _
  case tileWake => exact execTileWake_legal h _
  case paceCompareMatch => exact execPaceCompareMatch_legal h _
  case sysPcnt0 => exact State.tileExec_legal h _ _ _ _ fun o n hn => by simpa using hn
  case sysDtdat2 | sysDtcmt | sysRxsize =>
    exact State.tileExec_legal h _ _ _ _ fun o n hn => State.sysWrite_legal _ hn _ _
  -- happenings whose operation tells by itself when it does nothing
  case write | read | writeFixed | msg | event | dispTdone | poolTake | timeNs | timeAonLo | pinInputChange |
      vioLoss | serRx | refereeMajorityLoss | supplyOutOfRange | referenceClockLoss | coldStart | deviceRestart |
      linkWakeRequest | mbxTake | tapReset | vioRise | powerLoss | aonOscillatorStop =>
    unfold exec
    refine ok_legal ?_ _
    simp [h]
  case queuePop =>
    unfold exec
    refine ok_legal ?_ _
    (repeat' split) <;> simp [h]
  -- happenings under conditions of their own
  case done | retry | error | abandon | queueTailExpiry | lineTimeout | lineProcess | flushUsExpiry |
      enginePoolRetry | streamDrained | dmaStopComplete | dmaDescriptorComplete | eventFiring | deliveryStart |
      deliveryConfirm | deliveryResend | deliveryTimeout | holdIntervalEnd | secondTick | slewEnd | alarmFire |
      aonCalibration | syncLost | deglitchExpiry | timerBoundary | timerCompareMatch | chainedAction |
      timerCapture | serialUnitDone | lineJudgeStall | invalidCode | scrubVisit | refereeOutvote |
      lockstepMismatch | temperatureRead | courtSubstitution | managementRestart | courtRestart | tileRestart |
      paceLoop | paceAlarm | powerEstimate | courtPark | pmbusPoll | pmbAlertN | regulatorRetry |
      placementRefresh | islandWake | portUp | laneLoss | laneRestore | req | rsp | beacon | link | heartbeat |
      replayTimeout | replayLimit | neighbourSilent | statusSend | membershipUnconfirmed | candidateMove |
      captainQuorumLoss | beaconSend | delayExchange | holderExpiry | deadlineExpiry | hwAborted | calRecordWrite |
      wakeInput | trialSelfTest | backgroundErase | frameReceived | rateDetectTurn | hostAccess | msixSend |
      functionLevelReset | serviceBulkCommand | vendorAbort | vendorState | busReset | frostEnter | frostLeave |
      debugLine14 | debugHalt | debugResume | debugStep | dbgPatchAddr | testInstructionReplaced | rcRead |
      supplyRestored | feedBlockLock | feedLinkDown | hostLinkUp | configurationSpaceWrite | vbusRise |
      setConfiguration | suspend =>
    unfold exec
    refine okWhen_legal h ?_ _ _
    simp [h]
  case dispatch | frameHandoff | enginePushAccepted | dmaBeat | fabricSubstitution | commandTake =>
    unfold exec
    refine okWhen_legal h ?_ _ _
    (repeat' split) <;> simp [h]
  -- register writes
  case flush | poolGive | poolFree | engReturn | strmCmd | modelMemoryWrite | dmaRun | dmaStop | dmaReset |
      evrTgt | evrFired | evrHold | timeCommitAbsolute | timeCommitRelative | timeRate | arm | releaseAlarm |
      pinCfg | pinSet | pinClr | tmrShadowWrite | tmrCnt | tmrCtl | serTx | serCtl | mbxDoorbell | mbxAbort |
      mbxGive =>
    unfold exec
    refine ok_legal (State.regWrite_legal h _ _ _ fun u hu => ?_) _
    simp [hu]
  -- MEMBER packets
  case status | confirm | redirect | takeover | fullTables =>
    unfold exec
    refine memberRow_legal h _ _ fun u hu => ?_
    simp [hu]
  -- mailbox commands
  case getIdentity | claim | release | updateConfirm | updateStatus | calApply | calRevert | timeAdjustSlew |
      drizzleProgram | wakeRecordRead | feedRuleLoad | fabricJoin | logRead | countersRead =>
    unfold exec
    refine command_legal h _ _ _ fun p => ?_
    (repeat' split) <;> simp [h]
  case getCapabilities | abort | stopTile | setPowerCap | queryOwner | grantWindowOpen | grantWindowClose |
      updateBegin | updateChunk | updateVerify | updateActivate | updateCancel | calReadFactory | calWriteUser |
      faultLogRead | substituteTile | readmitTile | sendOff | timeSet | timeAdjustRate | timeSyncMode |
      powerStateSet | streamConfigure | streamEnable | streamStop | fabricLeave | fabricRouteSet | fabricMembers |
      authChallenge | authResponse | debugEnable =>
    unfold exec
    refine command_legal h _ _ _ fun p => ?_
    dsimp only
    (repeat' split) <;> simp [h]
  case echo =>
    unfold exec
    refine command_legal h _ _ _ fun p => ?_
    simp [h]
  -- rows with more than one case
  case sendCompletion => exact execSendCompletion_legal h _ _
  case queuePush => exact execQueuePush_legal h _ _ _
  case dispReady => exact execDispReady_legal h _ _ _
  case dispCancel => exact execDispCancel_legal h _ _ _ _
  case cancelLimitExpiry => exact execCancelLimitExpiry_legal h _ _
  case commitApply => exact execCommitApply_legal h
  case relock => exact execRelock_legal h
  case responseTimeout => exact execResponseTimeout_legal h _ _
  case tileSubstitution => exact execTileSubstitution_legal h _ _
  case duplexPromotion => exact execDuplexPromotion_legal h _
  case heartbeatSend => exact execHeartbeatSend_legal h
  case notice => exact execNotice_legal h _ _ _
  case sentOff => exact execSentOff_legal h _
  case loadTileImage => exact execLoadTileImage_legal h _
  case startTile => exact execStartTile_legal h _
  case setPaceTarget => exact execSetPaceTarget_legal h _
  case loadDecodeTable => exact execLoadDecodeTable_legal h _
  case setDuplex => exact execSetDuplex_legal h _
  case modelLoad => exact execModelLoad_legal h _
  case modelLoadValidate => exact execModelLoadValidate_legal h _
  case modelSwitch => exact execModelSwitch_legal h _
  case sleepExit => exact execSleepExit_legal h
  case drizzleCycle => exact execDrizzleCycle_legal h _
  case drizzleWaitEnd => exact execDrizzleWaitEnd_legal h _
  case dbgAccess => exact execDbgAccess_legal h _ _ _ _
  case registerWrite => exact execRegisterWrite_legal h _ _ _
  case tagRestExpiry => exact execTagRestExpiry_legal h _ _

theorem step_legal {t : State} (h : s.Legal) (hs : step s = .next t) : t.Legal := by
  unfold step at hs
  split at hs
  · obtain rfl := Host.Outcome.next.inj hs
    exact tick_legal h
  · rename_i c rest _
    have h1 := exec_legal (s := { s with pending := rest }) h c
    rwa [hs] at h1

/-- Settles O59: every operation of the model leaves the registers that legality speaks of, or writes them within their
ranges, or starts the tile from its Cold values. -/
theorem tilesStayLegal : Obligations.TilesStayLegal := by
  unfold Obligations.TilesStayLegal
  intro s t h hs
  exact State.legal_iff.mp (step_legal (State.legal_iff.mpr h) hs)

end Sys2Proof.Machine
end

section
/-! SUPPORT. What a landed load and a retirement leave of a tile (R67, R69, R87). -/

namespace Sys2Proof.Machine
open Sys2Proof.Safety

/-! ### A landed load changes registers alone (R69) -/

@[simp] theorem Tile.land_pc (t : Tile) : t.land.pc = t.pc := by rw [Tile.land_form]
@[simp] theorem Tile.land_vec (t : Tile) : t.land.vec = t.vec := by rw [Tile.land_form]
@[simp] theorem Tile.land_spc (t : Tile) : t.land.spc = t.spc := by rw [Tile.land_form]
@[simp] theorem Tile.land_sst (t : Tile) : t.land.sst = t.sst := by rw [Tile.land_form]
@[simp] theorem Tile.land_inh (t : Tile) : t.land.inh = t.inh := by rw [Tile.land_form]
@[simp] theorem Tile.land_evOn (t : Tile) : t.land.evOn = t.evOn := by rw [Tile.land_form]
@[simp] theorem Tile.land_wb (t : Tile) : t.land.wb = none := by rw [Tile.land_form]

theorem Tile.land_of_wb_none {t : Tile} (h : t.wb = none) : t.land = t := by rw [Tile.land.eq_def t, h]

theorem Tile.lineUp_iff {t : Tile} : t.lineUp = true ↔ t.pend &&& t.en ≠ 0 := bne_iff_ne

/-! ### What a retirement leaves of the tile -/

section
variable {s u : State} {p : Nat} {pc : W16} {m : Tile}

theorem retires_tile (h : Retires s u p pc m) : u.tile p = booked (u.tile p) m := h.2.1

theorem retires_pc (h : Retires s u p pc m) : (u.tile p).pc = pc := h.2.2.1

/-- An instruction that retires may also discard the prefetched words (R67). -/
theorem retires_discard (h : Retires s u p pc m) :
    Retires s (u.setTile p { u.tile p with prefetch := [] }) p pc m := by
  obtain ⟨hu, ht, hpc, hcnt, hpend⟩ := h
  refine ⟨?_, ?_, ?_, ?_, ?_⟩ <;> rw [State.setTile_tile]
  · rw [hu, State.setTile_setTile]
  · exact congrArg (fun t : Tile => { t with prefetch := [] }) ht
  · exact hpc
  · exact hcnt
  · exact hpend

/-- An instruction that retires may also stop the tile (R87). -/
theorem retires_stop (h : Retires s u p pc m) (r : RunState) :
    Retires s (u.setTile p { u.tile p with run := r }) p pc { m with run := r } := by
  obtain ⟨hu, ht, hpc, hcnt, hpend⟩ := h
  refine ⟨?_, ?_, ?_, ?_, ?_⟩ <;> rw [State.setTile_tile]
  · rw [hu, State.setTile_setTile]
  · exact congrArg (fun t : Tile => { t with run := r }) ht
  · exact hpc
  · exact hcnt
  · exact hpend

end

end Sys2Proof.Machine
end

section
/-! PROOF of O11: RETE, TRAP, FENCE and SLEEP (R67, R83 to R85, R87). -/

namespace Sys2Proof.Machine
open Sys2Proof.Safety

theorem Tile.lineUp_eq_false {t : Tile} (h : ¬ t.pend &&& t.en ≠ 0) : t.lineUp = false :=
  Bool.eq_false_iff.mpr fun hup => h (Tile.lineUp_iff.mp hup)

section
variable {s : State} {p : Nat} {x : Pfx}

theorem exec_rete_chains (hx : x.wide = false) (he : Executes s p 1 x) (hi : (s.tile p).inh = true)
    (hup : (s.tile p).land.lineUp = true) :
    ∃ t, exec (.rete p x) s = .next t ∧
      Retires s t p (s.tile p).vec { (s.tile p).land with act := 0, chain := true } := by
  refine tileExec_jump he (decN_none hx rfl) ?_
  simp [hi, hup]

theorem exec_rete_returns (hx : x.wide = false) (he : Executes s p 1 x) (hi : (s.tile p).inh = true)
    (hup : (s.tile p).land.lineUp = false) :
    ∃ t, exec (.rete p x) s = .next t ∧
      Retires s t p (s.tile p).spc { (s.tile p).land with
        act := 0, fl := Flags.ofByte (s.tile p).sst, evOn := true, inh := false, chain := false } := by
  refine tileExec_jump he (decN_none hx rfl) ?_
  simp [hi, hup]

theorem exec_rete_traps (hx : x.wide = false) (he : Executes s p 1 x) (hi : (s.tile p).inh = false) :
    exec (.rete p x) s = .next (trapped s p 9 0 (s.tile p).land (s.tile p).pc) := by
  rw [← tileTrap_eq s p 9 0 (s.tile p) (s.tile p).pc (by simp [hi])]
  refine tileExec_trap he (decN_none hx rfl) ?_
  simp [hi]

theorem exec_trap (hx : x.wide = false) (he : Executes s p 2 x) (imm : Byte) :
    ∃ u, exec (.trap p x imm) s = .next (u.tileTrap p 7 imm (u.tile p) (u.tile p).pc) ∧
      Retires s u p (following s p 2 x) (s.tile p).land :=
  tileExec_act he (decN_none hx rfl) rfl

theorem exec_fence (hx : x.wide = false) (he : Executes s p 1 x) :
    ∃ t, exec (.fence p x) s = .next t ∧ Retires s t p (following s p 1 x) (s.tile p).land ∧
      (t.tile p).prefetch = [] := by
  obtain ⟨u, hu, hr⟩ := tileExec_act he (decN_none hx rfl) (body := fun _ n =>
    .act n fun s1 => s1.setTile p { s1.tile p with prefetch := [] }) rfl
  refine ⟨_, hu, retires_discard hr, ?_⟩
  rw [State.setTile_tile]

theorem exec_sleep (hx : x.wide = false) (he : Executes s p 1 x) :
    ∃ u, Retires s u p (following s p 1 x) (s.tile p).land ∧
      exec (.sleep p x) s = .next
        (if (u.tile p).lineUp then u else u.setTile p { u.tile p with run := .sleeping, prefetch := [] }) := by
  obtain ⟨u, hu, hr⟩ := tileExec_act he (decN_none hx rfl) (body := fun _ n => .act n fun s1 =>
    let t := s1.tile p
    if t.lineUp then s1 else s1.setTile p { t with run := .sleeping, prefetch := [] }) rfl
  exact ⟨u, hr, hu⟩

end

/-- Settles O11: each of the four is a retirement, and FENCE and SLEEP then discard the prefetched words. -/
theorem returnTrapFenceSleep : Obligations.ReturnTrapFenceSleep := by
  unfold Obligations.ReturnTrapFenceSleep
  intro p x imm s hx
  refine ⟨fun he hi => ⟨fun hup => exec_rete_chains hx he hi (Tile.lineUp_iff.mpr hup),
    fun hup => exec_rete_returns hx he hi (Tile.lineUp_eq_false hup)⟩, fun he hi => exec_rete_traps hx he hi,
    fun he => ?_, fun he => ⟨exec_fence hx he, ?_⟩⟩
  · obtain ⟨u, hu, hr⟩ := exec_trap hx he imm
    have hinh : (u.tile p).inh = (s.tile p).inh := (congrArg Tile.inh (retires_tile hr)).trans (Tile.land_inh _)
    have hev : (u.tile p).evOn = (s.tile p).evOn := (congrArg Tile.evOn (retires_tile hr)).trans (Tile.land_evOn _)
    have hland : (u.tile p).land = u.tile p :=
      Tile.land_of_wb_none ((congrArg Tile.wb (retires_tile hr)).trans (Tile.land_wb _))
    refine ⟨u, hr, fun hno => ?_, fun hdbl => ?_⟩
    · rw [hu, tileTrap_eq _ _ _ _ _ _ (by rwa [hinh, hev]), hland, retires_pc hr]
    · exact ⟨_, hu, tileTrap_double _ _ _ _ _ _ (by rwa [hinh, hev])⟩
  · obtain ⟨u, hr, hu⟩ := exec_sleep hx he
    refine ⟨_, hu, ?_⟩
    by_cases hup : (u.tile p).lineUp = true
    · rw [if_pos hup]
      exact .inl ⟨Tile.lineUp_iff.mp hup, hr⟩
    · rw [if_neg hup]
      have h1 := retires_stop (retires_discard hr) .sleeping
      rw [State.setTile_tile, State.setTile_setTile] at h1
      rw [State.setTile_tile]
      refine .inr ⟨fun h => hup (Tile.lineUp_iff.mpr h), h1, rfl⟩

end Sys2Proof.Machine
end

section
/-! PROOF of O6: the memory instructions (R62, R64, R69, R104). -/

namespace Sys2Proof.Machine
open Sys2Proof.Safety

/-! ### Stores (R62, R64) -/

theorem Tile.byte_store {t : Tile} (ht : Memory.wf 0 t.mem = true) (a c : W16) (v : Byte) :
    (t.store a v).byte c = if c = a then v else t.byte c := by
  rw [Tile.byte, Tile.store, memGet_memPut ht]
  simp only [BitVec.toNat_inj]
  rfl

/-- A store of one byte, byte by byte. -/
theorem Tile.byte_store_getElem? {t : Tile} (ht : Memory.wf 0 t.mem = true) (a c : W16) (v : Byte) :
    (t.store a v).byte c = (([v][(c - a).toNat]?).getD (t.byte c)) := by
  rw [Tile.byte_store ht]
  by_cases h : c = a
  · subst h; simp
  · have h1 : 1 ≤ (c - a).toNat := by bv_omega
    rw [if_neg h, List.getElem?_eq_none (by simpa using h1), Option.getD_none]

/-- A store of 16 bits, byte by byte; its address wraps at the end of the memory. -/
theorem Tile.byte_storeW_getElem? {t : Tile} (ht : Memory.wf 0 t.mem = true) (a c v : W16) :
    (t.storeW a v).byte c =
      (([BitVec.ofNat 8 v.toNat, BitVec.ofNat 8 (v.toNat / 256)][(c - a).toNat]?).getD (t.byte c)) := by
  rw [Tile.storeW, Tile.byte_store (memPut_wf ht), Tile.byte_store ht]
  by_cases h1 : c = a + 1
  · have h2 : (c - a).toNat = 1 := by bv_omega
    rw [if_pos h1, h2]
    rfl
  · by_cases h0 : c = a
    · subst h0
      rw [if_neg h1, if_pos rfl]
      simp
    · have h2 : 2 ≤ (c - a).toNat := by bv_omega
      rw [if_neg h1, if_neg h0, List.getElem?_eq_none (by simpa using h2), Option.getD_none]

@[simp] theorem Tile.land_mem (t : Tile) : t.land.mem = t.mem := by rw [Tile.land_form]

theorem Tile.land_byte (t : Tile) (a : W16) : t.land.byte a = t.byte a := by rw [Tile.byte, Tile.land_mem, Tile.byte]

/-- The bytes of a pair. -/
theorem Tile.rd_true_bytes (t : Tile) (r : Fin 16) :
    BitVec.ofNat 8 (BitVec.ofNat 16 (t.rd true r)).toNat = t.d[r] ∧
      BitVec.ofNat 8 ((BitVec.ofNat 16 (t.rd true r)).toNat / 256) = t.d[r + 1] := by
  have h0 : (t.d[r]).toNat < 256 := (t.d[r]).isLt
  have h1 : (t.d[r + 1]).toNat < 256 := (t.d[r + 1]).isLt
  have hv : (BitVec.ofNat 16 (t.rd true r)).toNat = (t.d[r]).toNat + 256 * (t.d[r + 1]).toNat := by
    simp only [Tile.rd, if_true, Tile.dreg, nextReg, BitVec.toNat_ofNat]
    omega
  rw [hv]
  constructor <;> apply BitVec.eq_of_toNat_eq <;> rw [BitVec.toNat_ofNat] <;> omega

/-- The bytes of a pointer. -/
theorem setWidth_bytes (v : W16) :
    BitVec.ofNat 8 v.toNat = v.setWidth 8 ∧ BitVec.ofNat 8 (v.toNat / 256) = (v >>> 8).setWidth 8 := by
  constructor <;> apply BitVec.eq_of_toNat_eq <;> simp [Nat.shiftRight_eq_div_pow]

/-! ### The memory instructions (R104) -/

section
variable {s : State} {p : Nat} {x : Pfx}

theorem tileExec_load {len : Nat} {dec : Option (Nat × Nat)} {b : Fin 8} {disp : W16} {wide : Bool} {dest : LoadDest}
    (he : Executes s p len x) (hd : dec = none)
    (hbad : (s.tile p).anyBad ((s.tile p).p[b] + disp) (if wide then 2 else 1) = false) :
    ∃ t, s.tileExec p len x dec (fun o n => loadEff o n wide (o.ea b disp) dest) = .next t ∧
      Retires s t p (following s p len x) { (s.tile p).land with
        wb := some ⟨dest, if wide then (s.tile p).word ((s.tile p).p[b] + disp)
          else ((s.tile p).byte ((s.tile p).p[b] + disp)).zeroExtend 16⟩ } := by
  refine tileExec_go he hd ?_
  rw [loadEff, Tile.ea, hbad]
  rfl

/-- What a store leaves: the bytes `bs` from `a` on, and nothing else of the tile changed. -/
def StoredAt (o m : Tile) (a : W16) (bs : List Byte) : Prop :=
  m = { o.land with mem := m.mem } ∧ ∀ c : W16, m.byte c = ((bs[(c - a).toNat]?).getD (o.byte c))

theorem storedAt_store {o : Tile} (ho : Memory.wf 0 o.mem = true) (a : W16) (v : Byte) :
    StoredAt o (o.land.store a v) a [v] := by
  refine ⟨rfl, fun c => ?_⟩
  rw [Tile.byte_store_getElem? (by rwa [Tile.land_mem]), Tile.land_byte]

theorem storedAt_storeW {o : Tile} (ho : Memory.wf 0 o.mem = true) (a v : W16) :
    StoredAt o (o.land.storeW a v) a [BitVec.ofNat 8 v.toNat, BitVec.ofNat 8 (v.toNat / 256)] := by
  refine ⟨rfl, fun c => ?_⟩
  rw [Tile.byte_storeW_getElem? (by rwa [Tile.land_mem]), Tile.land_byte]

theorem exec_st (he : Executes s p (3 + b2n x.wide) x) (hm : Memory.wf 0 (s.tile p).mem = true) (r : Fin 16)
    (b : Fin 8) (disp : W16) (hbad : (s.tile p).storeBad ((s.tile p).p[b] + disp) 1 = false) :
    ∃ t m, exec (.st p x r b disp) s = .next t ∧ Retires s t p (following s p (3 + b2n x.wide) x) m ∧
      StoredAt (s.tile p) m ((s.tile p).p[b] + disp) [(s.tile p).d[r]] := by
  obtain ⟨t, ht, hr⟩ := tileExec_go he rfl (body := fun o n => storeByteEff o n (o.ea b disp) o.d[r])
    (by rw [storeByteEff, Tile.ea, hbad]; rfl)
  exact ⟨t, _, ht, hr, storedAt_store hm _ _⟩

theorem tileExec_storeWord {len : Nat} {dec : Option (Nat × Nat)} {b : Fin 8} {disp : W16} {v : Tile → W16}
    (he : Executes s p len x) (hd : dec = none) (hm : Memory.wf 0 (s.tile p).mem = true)
    (hbad : (s.tile p).storeBad ((s.tile p).p[b] + disp) 2 = false) :
    ∃ t m, s.tileExec p len x dec (fun o n => storeWordEff o n (o.ea b disp) (v o)) = .next t ∧
      Retires s t p (following s p len x) m ∧
      StoredAt (s.tile p) m ((s.tile p).p[b] + disp)
        [BitVec.ofNat 8 (v (s.tile p)).toNat, BitVec.ofNat 8 ((v (s.tile p)).toNat / 256)] := by
  obtain ⟨t, ht, hr⟩ := tileExec_go he hd (body := fun o n => storeWordEff o n (o.ea b disp) (v o))
    (by rw [storeWordEff, Tile.ea, hbad]; rfl)
  exact ⟨t, _, ht, hr, storedAt_storeW hm _ _⟩

end

/-- Settles O6: a load leaves its datum in flight, and a store is `StoredAt` of its bytes. -/
theorem memoryInstructions : Obligations.MemoryInstructions := by
  unfold Obligations.MemoryInstructions
  intro p x r q b disp s hm o ea len ran inFlight stored
  refine ⟨fun he hbad => tileExec_load (wide := false) he rfl hbad, fun he hbad => ⟨fun hr => ?_, ?_⟩,
    fun he hbad => exec_st he hm r b disp hbad, fun he hbad => ⟨fun hr => ?_, ?_⟩⟩
  · exact tileExec_load (wide := true) he (by rw [odd_eq_false hr]; rfl) hbad
  · exact tileExec_load (wide := true) he rfl hbad
  · obtain ⟨hlo, hhi⟩ := o.rd_true_bytes r
    have h := tileExec_storeWord (dec := if odd r then some (1, 2) else none) (b := b) (disp := disp)
      (v := fun o => BitVec.ofNat 16 (o.rd true r)) he (by rw [odd_eq_false hr]; rfl) hm hbad
    rwa [hlo, hhi] at h
  · obtain ⟨hlo, hhi⟩ := setWidth_bytes o.p[q]
    have h := tileExec_storeWord (b := b) (disp := disp) (v := fun o => o.p[q]) he rfl hm hbad
    rwa [hlo, hhi] at h

end Sys2Proof.Machine
end

section
/-! PROOF of O7: transfers of control and the return stack (R72 to R74, R105, R106). -/

namespace Sys2Proof.Machine
open Sys2Proof.Safety

/-! ### Transfers of control (R105, R106) -/

theorem flagCond_eq_branchTaken (c : Fin 8) (f : Flags) : flagCond c.val f = branchTaken c f := by
  fin_cases c <;> simp [flagCond, branchTaken]

theorem uint_pred {w a : Nat} (ha : a < 2 ^ w) : uint w ((a : Int) - 1) = (a + (2 ^ w - 1)) % 2 ^ w := by
  have h1 : ((a : Int) - 1) % ((2 ^ w : Nat) : Int) = ((a + (2 ^ w - 1) : Nat) : Int) % ((2 ^ w : Nat) : Int) := by
    rw [show ((a + (2 ^ w - 1) : Nat) : Int) = (a : Int) - 1 + ((2 ^ w : Nat) : Int) by omega, Int.add_emod_right]
  rw [uint, h1, ← Int.natCast_emod, Int.toNat_natCast]

@[simp] theorem Tile.land_rs (t : Tile) : t.land.rs = t.rs := by rw [Tile.land_form]
@[simp] theorem Tile.land_rsTop (t : Tile) : t.land.rsTop = t.rsTop := by rw [Tile.land_form]
@[simp] theorem Tile.land_rsDepth (t : Tile) : t.land.rsDepth = t.rsDepth := by rw [Tile.land_form]
@[simp] theorem Tile.land_rsTrap (t : Tile) : t.land.rsTrap = t.rsTrap := by rw [Tile.land_form]

/-- A double trap leaves the tile but for its cause and its halt (R86). -/
theorem tileTrap_double_tile {t : Tile} (h : t.inh = true ∧ t.evOn = false) (s : State) (p c : Nat) (a : Byte)
    (pc : W16) : (s.tileTrap p c a t pc).tile p =
      { t.land with cause := c, trapArg := a, dbl := true, dblAt := s.wall, run := .halted } := by
  have hc : (t.inh && !t.evOn) = true := by simp [h.1, h.2]
  rw [State.tileTrap]
  dsimp only
  rw [if_pos (by simpa using hc), State.tile, State.report_tiles]
  exact State.setTile_tile s p _

section
variable {s : State} {p : Nat} {x : Pfx}

theorem callEff_room {len : Nat} {target : W16} (h : ((s.tile p).rsTrap && (s.tile p).rsDepth == 8) = false) :
    callEff (s.tile p) (s.tile p).land x len target =
      .jump (pushed (s.tile p).land (following s p len x)) target := by
  rw [callEff, Tile.push_some _ (by simpa using h)]
  rfl

theorem callEff_full {len : Nat} {target : W16} (h : ((s.tile p).rsTrap && (s.tile p).rsDepth == 8) = true) :
    callEff (s.tile p) (s.tile p).land x len target = .trap 3 0 := by
  rw [callEff, Tile.push, Tile.land_rsTrap, Tile.land_rsDepth, h]
  rfl

/-- A trap that an instruction takes at its own address, with causes that leave the return stack (R74, R85, R86). -/
theorem took_trap {c : Instr} {code : Nat} (h : exec c s = .next (s.tileTrap p code 0 (s.tile p) (s.tile p).pc)) :
    if (s.tile p).inh = true ∧ (s.tile p).evOn = false then
      ∃ t, exec c s = .next t ∧ (t.tile p).dbl = true ∧ (t.tile p).run = .halted ∧ (t.tile p).cause = code ∧
        (t.tile p).pc = (s.tile p).pc ∧ (t.tile p).rs = (s.tile p).rs ∧ (t.tile p).rsTop = (s.tile p).rsTop ∧
        (t.tile p).rsDepth = (s.tile p).rsDepth
    else exec c s = .next (trapped s p code 0 (s.tile p).land (s.tile p).pc) := by
  split
  · rename_i hd
    refine ⟨_, h, ?_⟩
    rw [tileTrap_double_tile hd]
    simp
  · rename_i hd
    rw [h, tileTrap_eq _ _ _ _ _ _ hd]

theorem exec_ret (hx : x.wide = false) (he : Executes s p 1 x)
    (h : ((s.tile p).rsTrap && (s.tile p).rsDepth == 0) = false) :
    ∃ t, exec (.ret p x) s = .next t ∧ Retires s t p ((s.tile p).land.rs[(s.tile p).land.rsTop])
      { (s.tile p).land with
        rsTop := (s.tile p).land.rsTop - 1, rsDepth := (s.tile p).land.rsDepth - 1 } := by
  refine tileExec_jump he (decN_none hx rfl) ?_
  rw [Tile.pop_some (by simpa using h)]

theorem exec_ret_empty (hx : x.wide = false) (he : Executes s p 1 x)
    (h : ((s.tile p).rsTrap && (s.tile p).rsDepth == 0) = true) :
    exec (.ret p x) s = .next (s.tileTrap p 4 0 (s.tile p) (s.tile p).pc) := by
  refine tileExec_trap he (decN_none hx rfl) ?_
  rw [Tile.pop, Tile.land_rsTrap, Tile.land_rsDepth, h]
  rfl

theorem exec_bcc (he : Executes s p (2 + b2n x.wide) x) (c : Fin 8) (rel : W16) :
    ∃ t, exec (.bcc p x c rel) s = .next t ∧
      Retires s t p (if branchTaken c (s.tile p).fl then following s p (2 + b2n x.wide) x + rel
        else following s p (2 + b2n x.wide) x) (s.tile p).land := by
  cases h : branchTaken c (s.tile p).fl with
  | true => exact tileExec_jump he rfl (by rw [flagCond_eq_branchTaken, h]; rfl)
  | false => exact tileExec_go he rfl (by rw [flagCond_eq_branchTaken, h]; rfl)

theorem exec_djnz (he : Executes s p 3 x) {d : Fin 16} (hd : evenIf x.wide [d]) (rel : Byte) {n : Nat}
    (hn : n = ((s.tile p).rd x.wide d + (2 ^ opW x.wide - 1)) % 2 ^ opW x.wide) :
    ∃ t, exec (.djnz p x d rel) s = .next t ∧
      Retires s t p (if n = 0 then following s p 3 x else following s p 3 x + rel.signExtend 16)
        ((s.tile p).land.wr x.wide d n) := by
  rw [← uint_pred ((s.tile p).rd_lt x.wide d)] at hn
  split
  · rename_i h0
    refine tileExec_go he (decW_none hd) ?_
    rw [← hn, h0]
    rfl
  · rename_i h0
    refine tileExec_jump he (decW_none hd) ?_
    rw [← hn]
    exact if_neg h0

end

/-- Settles O7: a transfer is a jump of the shared frame, and a refused call or return a trap of it. -/
theorem controlAndReturnStack : Obligations.ControlAndReturnStack := by
  unfold Obligations.ControlAndReturnStack
  refine ⟨?_, ?_⟩
  · intro p x d b c abs rel rel8 s o l next n room some_
    refine ⟨fun hx => ⟨fun he => tileExec_go he (decN_none hx rfl) rfl,
      fun he => tileExec_jump he (decN_none hx rfl) rfl, fun he => tileExec_jump he (decN_none hx rfl) rfl,
      fun he hr => ?_, fun he hr => ?_, fun he hr => exec_ret hx he ((Bool.not_eq_true' _).mp hr)⟩,
      fun he => ⟨tileExec_jump he rfl rfl, exec_bcc he c rel⟩, fun he hd => exec_djnz he hd rel8 rfl⟩
    · exact tileExec_jump he (decN_none hx rfl) (callEff_room ((Bool.not_eq_true' _).mp hr))
    · exact tileExec_jump he (decN_none hx rfl) (callEff_room ((Bool.not_eq_true' _).mp hr))
  · intro p x b abs s hx htrap o took
    refine ⟨fun hfull he => took_trap ?_, fun hfull he => took_trap ?_, fun hempty he => took_trap ?_⟩
    · exact tileExec_trap he (decN_none hx rfl) (callEff_full (by simp [htrap, hfull, o]))
    · exact tileExec_trap he (decN_none hx rfl) (callEff_full (by simp [htrap, hfull, o]))
    · exact exec_ret_empty hx he (by simp [htrap, hempty, o])

end Sys2Proof.Machine
end

section
/-! PROOF of O17: event entry, wake, pace match and refused bytes (R78, R81, R87, R95). -/

namespace Sys2Proof.Machine
open Sys2Proof.Safety

theorem exec_eventEntry {s : State} {p : Nat} (hp : p < 1088) (hg : s.goes p = true) (hd : (s.tile p).due = true) :
    exec (.eventEntry p) s = .next (s.setTile p ((s.tile p).enter (s.tile p).pc)) := by
  change execEventEntry p s = _
  simp [execEventEntry, ok, when_, hp, hg, hd]

theorem State.goes_of_unasked {s : State} {p : Nat} (hr : (s.tile p).run = .running) (hf : s.dbgBlock.frost = false)
    (hs : s.running = true) (hh : p ∉ s.dbgBlock.haltDue) : s.goes p = true := by
  simp [State.goes, State.haltsNow, hr, hf, hs, hh]

theorem Tile.due_of_idle {t : Tile} (hw : t.wb = none) (hwait : t.waiting = none) (he : t.evOn = true)
    (hup : t.pend &&& t.en ≠ 0) : t.due = true := by
  simp [Tile.due, Tile.atBoundary, hw, hwait, he, Tile.lineUp_iff.mpr hup]

theorem exec_tileWake {s : State} {p : Nat} (hp : p < 1088) (hf : s.dbgBlock.frost = false) (hs : s.running = true)
    (hr : (s.tile p).run = .sleeping) (hup : (s.tile p).lineUp = true) :
    exec (.tileWake p) s = .next (s.setTile p (if (s.tile p).evOn then
      { s.tile p with run := .running }.enter (s.tile p).pc else { s.tile p with run := .running })) := by
  change execTileWake p s = _
  simp [execTileWake, ok, when_, hp, hf, hs, hr, hup]

theorem exec_paceCompareMatch {s : State} {p : Nat} (hp : p < 1088) (hs : s.running = true)
    (hh : (s.tile p).pcHit = true) :
    exec (.paceCompareMatch p) s = .next (s.setTile p { (s.tile p).raise 11 with pcHit := false }) := by
  change execPaceCompareMatch p s = _
  simp [execPaceCompareMatch, ok, when_, hp, hs, hh]

/-- A decode trap reads the bytes up to the one that shows it, whatever the guard (R93, R95). -/
theorem State.tileStep_decodeTrap {s : State} {p len : Nat} {x : Pfx} {c : Nat} {body : Tile → Tile → Eff}
    (hbad : (s.tile p).fetchBad len = false) (hno : ¬ ((s.tile p).inh = true ∧ (s.tile p).evOn = false)) :
    s.tileStep p len x (some c) body = trapped s p c 0 (s.tile p).land (s.tile p).pc := by
  rw [← tileTrap_eq s p c 0 (s.tile p) (s.tile p).pc hno, State.tileStep,
    if_neg (by simp [hbad])]

theorem exec_refusedBytes {s : State} {p code : Nat} {bs : List Byte} (hp : p < 1088)
    (hd : tileDecode p bs = .trap code) (hr : s.ready p = true)
    (hbad : (s.tile p).fetchBad (trapLen p bs) = false)
    (hno : ¬ ((s.tile p).inh = true ∧ (s.tile p).evOn = false)) :
    exec (.mov p (.decodeTrap bs)) s = .next (trapped s p code 0 (s.tile p).land (s.tile p).pc) := by
  change execMov p (.decodeTrap bs) s = _
  rw [execMov, hd]
  simp only [ok, when_, hp, hr, decide_true, if_true, State.tileStep_decodeTrap hbad hno]

/-- Settles O17: each row names the condition that its instruction tests. -/
theorem tileHappenings : Obligations.TileHappenings := by
  unfold Obligations.TileHappenings
  intro p bs code s hp hf hs o entry
  refine ⟨fun hr hw hwait hh he hup => ?_, fun hr hup => ?_, exec_paceCompareMatch hp hs, fun hd hr hbad hno =>
    exec_refusedBytes hp hd hr hbad hno⟩
  · exact exec_eventEntry hp (State.goes_of_unasked hr hf hs hh) (Tile.due_of_idle hw hwait he hup)
  · exact exec_tileWake hp hf hs hr (Tile.lineUp_iff.mpr hup)

end Sys2Proof.Machine
end

section
/-! PROOF of O18: forms that trap at decode, and skipped instructions (R60, R93 to R95, R103, R104, R114, R122). -/

namespace Sys2Proof.Machine
open Sys2Proof.Safety

section
variable {s : State} {p len : Nat} {x : Pfx} {dec : Option (Nat × Nat)} {body : Tile → Tile → Eff}

/-- While no instruction waits, one that may wait runs as any other (R111). -/
theorem State.tileExecW_of_ready (hr : s.ready p = true) (key : List Nat) :
    s.tileExecW p len x dec key body = s.tileExec p len x dec body := by
  have hwait : (s.tile p).waiting = none := by
    simp only [State.ready, Bool.and_eq_true, Option.isNone_iff_eq_none] at hr
    exact hr.2
  simp [State.tileExecW, State.tileExec, hwait]

theorem tileExec_decodeTrap {c k : Nat} (hp : p < 1088) (hr : s.ready p = true)
    (hbad : (s.tile p).fetchBad (pfxLen x + k) = false) (hno : ¬ ((s.tile p).inh = true ∧ (s.tile p).evOn = false))
    (hd : dec = some (c, k)) :
    s.tileExec p len x dec body = .next (trapped s p c 0 (s.tile p).land (s.tile p).pc) := by
  subst hd
  simp only [State.tileExec, State.tileInsn, decodeLen, ok, when_, hp, hr, decide_true, if_true, Option.map_some,
    State.tileStep_decodeTrap hbad hno]

theorem tileExec_skip (hp : p < 1088) (hr : s.ready p = true)
    (hbad : (s.tile p).fetchBad (pfxLen x + len) = false) (hg : (s.tile p).guardMet x = false) (hd : dec = none) :
    ∃ t, s.tileExec p len x dec body = .next t ∧ Retires s t p (following s p len x) (s.tile p).land := by
  subst hd
  refine ⟨_, ?_, retires_setTile s p (s.tile p).land (following s p len x)
    ((s.tile p).prefetchFor (pfxLen x + len))⟩
  simp [State.tileExec, State.tileInsn, decodeLen, ok, when_, hp, hr, State.tileStep, hbad, hg, Tile.seq, following]

end

/-! ### Decode outcomes -/

theorem odd_eq_true {r : Fin 16} (h : r.val % 2 = 1) : odd r = true := by simp [odd, h]

theorem not_odd_even {r : Fin 16} (h : ¬ r.val % 2 = 1) : r.val % 2 = 0 := by omega

theorem decW_trap {x : Pfx} (hx : x.wide = true) {rs : List (Fin 16)} {at_ : Nat} (h : ∃ r ∈ rs, r.val % 2 = 1) :
    decW x rs at_ = some (1, at_) := by
  obtain ⟨r, hr, ho⟩ := h
  rw [decW, hx, List.any_eq_true.mpr ⟨r, hr, odd_eq_true ho⟩]
  rfl

theorem decN_wide {x : Pfx} (hx : x.wide = true) (b : Bool) (at_ : Nat) : decN x b at_ = some (2, 1) := by
  rw [decN, hx]
  rfl

theorem decN_trap {x : Pfx} (hx : x.wide = false) {b : Bool} (hb : b = true) (at_ : Nat) :
    decN x b at_ = some (1, at_) := by
  rw [decN, hx, hb]
  rfl

theorem decShift_odd {x : Pfx} (hx : x.wide = true) {d : Fin 16} (hd : d.val % 2 = 1) (c : Fin 16) :
    decShift x d c = some (1, 2) := by
  simp [decShift, hx, odd_eq_true hd]

theorem decShift_long {x : Pfx} (hx : x.wide = false) (d : Fin 16) {c : Fin 16} (hc : 8 ≤ c.val) :
    decShift x d c = some (1, 2) := by
  simp [decShift, hx, hc]

theorem decShift_none {x : Pfx} {d c : Fin 16} (hd : d.val % 2 = 0) (hc : x.wide = true ∨ c.val < 8) :
    decShift x d c = none := by
  rcases hc with hx | hc
  · simp [decShift, hx, odd_eq_false hd]
  · simp [decShift, odd_eq_false hd, hc]

theorem decW_none_of_even {x : Pfx} {rs : List (Fin 16)} (at_ : Nat) (h : ∀ r ∈ rs, r.val % 2 = 0) :
    decW x rs at_ = none := by
  have hany : rs.any odd = false := List.any_eq_false.mpr fun r hr => by simp [odd_eq_false (h r hr)]
  simp [decW, hany]

theorem decN_none_of_good {x : Pfx} (hx : x.wide = false) {b : Bool} (hb : b = false) (at_ : Nat) :
    decN x b at_ = none := by
  simp [decN, hx, hb]

theorem decCust_wide {x : Pfx} (hx : x.wide = true) (c : CustomArgs) : decCust x c = some (2, 1) := by
  simp [decCust, hx]

theorem decCust_reserved {x : Pfx} (hx : x.wide = false) {c : CustomArgs} (hm : 8 ≤ c.mode.val) :
    decCust x c = some (if c.entry.val = 15 ∨ c.entry.val = 14 ∧ 14 ≤ c.mode.val then 2 else 1, 2) := by
  simp [decCust, hx, hm]

theorem decCust_none {x : Pfx} (hx : x.wide = false) {c : CustomArgs} (hm : c.mode.val < 8) : decCust x c = none := by
  simp [decCust, hx, hm]

theorem custLen_three {m : Nat} (hm : m ∈ [1, 2, 5, 7]) : custLen m = 3 := by
  revert m
  decide

theorem custLen_four {m : Nat} (hm : m ∈ [3, 4, 6]) : custLen m = 4 := by
  revert m
  decide

/-- Settles O18: each form is the frame of one instruction with its decode outcome. -/
theorem trappingAndSkippedForms : Obligations.TrappingAndSkippedForms := by
  unfold Obligations.TrappingAndSkippedForms
  intro p x d e c a b g v k n i r u mid s hp hr o hbad traps skips isOdd w pairs ones shifts imms2 imms3 narrow1 narrow2
    narrow3 evenD queue short disp words
  refine ⟨fun hno => ?_, fun hg hd he => ?_⟩
  · have trap {code at_ len : Nat} {dec : Option (Nat × Nat)} {body : Tile → Tile → Eff} {y : Instr} (hat : at_ < 6)
        (hy : exec y s = s.tileExec p len x dec body) (hdec : dec = some (code, at_)) : traps code y :=
      hy.trans (tileExec_decodeTrap hp hr (hbad at_ hat) hno hdec)
    have trapW {code at_ len : Nat} {dec : Option (Nat × Nat)} {key : List Nat} {body : Tile → Tile → Eff} {y : Instr}
        (hat : at_ < 6) (hy : exec y s = s.tileExecW p len x dec key body) (hdec : dec = some (code, at_)) :
        traps code y :=
      trap hat (hy.trans (State.tileExecW_of_ready hr key)) hdec
    have pushAt : (if d.val % 4 = 0 then 4 else 2) < 6 := by split <;> decide
    have popAt : (if d.val ≤ 11 then 4 else 2) < 6 := by split <;> decide
    clear_value traps
    refine ⟨fun hx hde => ?_, fun hx hd => ?_, fun hd => ?_, fun hx => ?_, fun hx hd => ?_, fun hx hc => ?_,
      fun hx hv => ?_, fun hx hd => ?_, fun hx hd => ?_, fun hx hm => ?_⟩
    · have h2 : ∃ q ∈ [d, e], q.val % 2 = 1 := by simpa using hde
      simp only [pairs, List.forall_mem_cons, List.not_mem_nil, false_imp_iff, implies_true, and_true]
      and_intros <;> exact trap (by decide) rfl (decW_trap hx h2)
    · have h1 : ∃ q ∈ [d], q.val % 2 = 1 := ⟨d, List.mem_singleton_self d, hd⟩
      simp only [ones, shifts, imms2, imms3, List.forall_mem_cons, List.not_mem_nil, false_imp_iff, implies_true,
        and_true]
      refine ⟨?ones, ?shifts, ?imms2, ?imms3, trap (by decide) rfl (decW_trap hx h1)⟩
      case ones => and_intros <;> exact trap (by decide) rfl (decW_trap hx h1)
      case shifts => and_intros <;> exact trap (by decide) rfl (decShift_odd hx hd c)
      case imms2 => and_intros <;> exact trap (by decide) rfl (decW_trap hx h1)
      case imms3 => and_intros <;> exact trap (by decide) rfl (decW_trap hx h1)
    · simp only [words, List.forall_mem_cons, List.not_mem_nil, false_imp_iff, implies_true, and_true]
      and_intros <;> exact trap (by decide) rfl (if_pos (odd_eq_true hd))
    · simp only [narrow1, narrow2, narrow3, evenD, queue, List.forall_mem_cons, List.not_mem_nil, false_imp_iff,
        implies_true, and_true]
      refine ⟨?narrow1, ?narrow2, ?narrow3, ?evenD, ?queue, trap (by decide) rfl (decCust_wide hx u)⟩
      case narrow1 =>
        refine ⟨?_, ?_, trapW (by decide) rfl (decN_wide hx _ _), ?_⟩
        all_goals and_intros <;> exact trap (by decide) rfl (decN_wide hx _ _)
      case narrow2 => and_intros <;> exact trap (by decide) rfl (decN_wide hx _ _)
      case narrow3 => and_intros <;> exact trap (by decide) rfl (decN_wide hx _ _)
      case evenD =>
        refine ⟨?_, ?_, ?_, ?_, ?_, trapW (by decide) rfl (decN_wide hx _ _), trapW (by decide) rfl (decN_wide hx _ _)⟩
        all_goals exact trap (by decide) rfl (decN_wide hx _ _)
      case queue => exact ⟨trapW (by decide) rfl (decN_wide hx _ _), trapW (by decide) rfl (decN_wide hx _ _)⟩
    · simp only [evenD, List.forall_mem_cons, List.not_mem_nil, false_imp_iff, implies_true, and_true]
      have hdec := decN_trap hx (odd_eq_true hd) 2
      refine ⟨?_, ?_, ?_, ?_, ?_, trapW (by decide) rfl hdec, trapW (by decide) rfl hdec⟩
      all_goals exact trap (by decide) rfl hdec
    · simp only [shifts, List.forall_mem_cons, List.not_mem_nil, false_imp_iff, implies_true, and_true]
      and_intros <;> exact trap (by decide) rfl (decShift_long hx d hc)
    · simp only [queue, List.forall_mem_cons, List.not_mem_nil, false_imp_iff, implies_true, and_true]
      exact ⟨trapW pushAt rfl (decN_trap hx (by simp [hv]) _), trapW popAt rfl (decN_trap hx (by simp [hv]) _)⟩
    · exact trapW pushAt rfl (decN_trap hx (by simp [hd]) _)
    · exact trapW popAt rfl (decN_trap hx (by simp [hd]) _)
    · exact trap (by decide) rfl (decCust_reserved hx hm)
  · have skip {len : Nat} {dec : Option (Nat × Nat)} {body : Tile → Tile → Eff} {y : Instr} (hlen : len < 6)
        (hy : exec y s = s.tileExec p len x dec body) (hdec : dec = none) : skips len y := by
      obtain ⟨t, ht, hret⟩ := tileExec_skip (body := body) hp hr (hbad len hlen) hg hdec
      exact ⟨t, hy.trans ht, hret⟩
    have skipW {len : Nat} {dec : Option (Nat × Nat)} {key : List Nat} {body : Tile → Tile → Eff} {y : Instr}
        (hlen : len < 6) (hy : exec y s = s.tileExecW p len x dec key body) (hdec : dec = none) : skips len y :=
      skip hlen (hy.trans (State.tileExecW_of_ready hr key)) hdec
    have hw : w < 2 := by simp only [w, b2n]; split <;> decide
    have hw2 : 2 + w < 6 := by omega
    have hw3 : 3 + w < 6 := by omega
    have hd0 : d.val % 2 = 0 := not_odd_even hd
    have he0 : e.val % 2 = 0 := not_odd_even he
    have hd1 : ∀ q ∈ [d], q.val % 2 = 0 := by simpa using hd0
    have hde : ∀ q ∈ [d, e], q.val % 2 = 0 := by simpa using ⟨hd0, he0⟩
    clear_value skips
    simp only [pairs, ones, imms2, imms3, shifts, short, disp, words, narrow1, narrow2, narrow3, evenD, queue,
      List.forall_mem_cons, List.not_mem_nil, false_imp_iff, implies_true, and_true]
    refine ⟨?pairs, ?cmpg, ?ones, ?imms2, ?imms3, ?djnz, fun hc => ?shifts, ?short, ?disp, ?words, fun hx => ?narrow⟩
    case pairs => and_intros <;> exact skip (by decide) rfl (decW_none_of_even _ hde)
    case cmpg => exact skip (by decide) rfl (decW_none_of_even _ hde)
    case ones => and_intros <;> exact skip (by decide) rfl (decW_none_of_even _ hd1)
    case imms2 => and_intros <;> exact skip hw2 rfl (decW_none_of_even _ hd1)
    case imms3 => and_intros <;> exact skip hw3 rfl (decW_none_of_even _ hd1)
    case djnz => exact skip (by decide) rfl (decW_none_of_even _ hd1)
    case shifts => and_intros <;> exact skip (by decide) rfl (decShift_none hd0 hc)
    case short => and_intros <;> exact skip hw2 rfl rfl
    case disp => and_intros <;> exact skip hw3 rfl rfl
    case words => and_intros <;> exact skip hw3 rfl (if_neg (by simp [odd_eq_false hd0]))
    case narrow =>
      have plain (at_ : Nat) : decN x false at_ = none := decN_none_of_good hx rfl at_
      have evenReg (at_ : Nat) : decN x (odd d) at_ = none := decN_none_of_good hx (odd_eq_false hd0) at_
      have custom {m : Nat} (hlen : custLen u.mode.val = m) (hm6 : m < 6) (hm8 : u.mode.val < 8) :
          skips m (.customInstruction p x ⟨u, mid⟩) := by
        subst hlen
        exact skip hm6 rfl (decCust_none hx hm8)
      refine ⟨?narrow1, ?narrow2, ?narrow3, ?evenD, fun h4 h11 hv => ?queue, fun hm => ?custom2, fun hm => ?custom3,
        fun hm => ?custom4⟩
      case narrow1 =>
        refine ⟨?_, ?_, skipW (by decide) rfl (plain _), ?_⟩
        all_goals and_intros <;> exact skip (by decide) rfl (plain _)
      case narrow2 => and_intros <;> exact skip (by decide) rfl (plain _)
      case narrow3 => and_intros <;> exact skip (by decide) rfl (plain _)
      case evenD =>
        refine ⟨?_, ?_, ?_, ?_, ?_, skipW (by decide) rfl (evenReg _), skipW (by decide) rfl (evenReg _)⟩
        all_goals exact skip (by decide) rfl (evenReg _)
      case queue =>
        exact ⟨skipW (by decide) rfl (decN_none_of_good hx (by simp [h4, hv]) _),
          skipW (by decide) rfl (decN_none_of_good hx (by simp [h11, hv]) _)⟩
      case custom2 => exact custom (by rw [hm]; rfl) (by decide) (by omega)
      case custom3 => exact custom (custLen_three hm) (by decide) (by simp at hm; omega)
      case custom4 => exact custom (custLen_four hm) (by decide) (by simp at hm; omega)

end Sys2Proof.Machine
end

section
/-! REFUTATION of O10: the read-back of SYS_RSCTL (R77, log 7). -/

namespace Sys2Proof.Machine
open Sys2Proof.Safety

/-- Refutes O10: SYS_RSCTL holds bit 7 beside DEPTH, and a SETS whose DEPTH is above 8 keeps the DEPTH of the tile
(log 7). The statement ranges over tiles that no step reaches: in one whose DEPTH is 128, that DEPTH reads as bit 7
although the byte 0x0F that was written has it clear. -/
theorem not_systemRegisters : ¬ Obligations.SystemRegisters := by
  unfold Obligations.SystemRegisters
  rintro ⟨-, readBack⟩
  obtain ⟨-, -, -, -, -, -, -, -, -, -, -, -, -, -, -, rsctl, -⟩ := readBack {} 0 { rsDepth := 128 } 0x0F
  have reads : (State.sysRead {} 0 (State.sysWrite {} 0 { rsDepth := 128 } 0x2C 0x0F) 0x2C).getLsbD 7 = true := rfl
  have wrote : (0x0F : Byte).getLsbD 7 = false := rfl
  rw [reads, wrote] at rsctl
  exact Bool.noConfusion rsctl

end Sys2Proof.Machine
end

section
/-! PROOF of O15: the custom instruction (R121 to R133). -/

namespace Sys2Proof.Machine
open Sys2Proof.Safety

@[simp] theorem custFields_entry (c : CustomArgs) : (custFields c).entry = c.entry := rfl

/-- What an entry of tile `p` starts on: its registers, the same with the load in flight landed, and free values in T0
to T3 (R69, R126). -/
def State.custStart (s : State) (p : Nat) : UCtx :=
  { m := s.tile p, n := (s.tile p).land, t := Vector.ofFn fun i => Config.freeWord (s.free + i.val), due := none }

theorem retires_free {s u : State} {p : Nat} {pc : W16} {m : Tile} (h : Retires s u p pc m) : u.free = s.free := by
  rw [h.1, State.setTile_free]

section
variable {s : State} {p : Nat} {x : Pfx} {c : CustomArgs} {run : CustomArgs → List W24 → UCtx → Eff}

/-- An active entry whose 16-bit uses of A and B name even registers runs (R124). -/
theorem State.custom_act {us : List W24} {m : Tile} {post : State → State} (hx : x.wide = false) (hm : c.mode.val < 8)
    (he : Executes s p (custLen c.mode.val) x) (hus : tfind? c.entry.val (s.tile p).active = some us)
    (hodd : custOdd (custFields c) us = false) (hrun : run (custFields c) us (s.custStart p) = .act m post) :
    ∃ u, s.custom p x c run = .next (post u) ∧ Retires s u p (following s p (custLen c.mode.val) x) m := by
  refine tileExec_act he (decCust_none hx hm) ?_
  simp only [custFields_entry, hus, hodd]
  exact hrun

/-- An entry that is not active traps with its number (R124). -/
theorem State.custom_trap (hx : x.wide = false) (hm : c.mode.val < 8) (he : Executes s p (custLen c.mode.val) x)
    (hus : tfind? c.entry.val (s.tile p).active = none) :
    s.custom p x c run = .next (s.tileTrap p 8 (BitVec.ofNat 8 c.entry.val) (s.tile p) (s.tile p).pc) := by
  refine tileExec_trap he (decCust_none hx hm) ?_
  simp only [custFields_entry, hus]

end

/-! ### What running the entry does -/

theorem custPlain_ok {f : CustomArgs} {us : List W24} {k k' : UCtx} (h : uRun f us.length us k = .ok k') :
    custPlain f us k = .act k'.finish fun u => { u with free := u.free + 4 } := by
  rw [custPlain, h]

theorem State.custMid_ok {s v : State} {p : Nat} {f : CustomArgs} {us : List W24} {k k' : UCtx}
    {mid : List (Nat × Msg)} (h : uRunMid f p mid us.length 0 us s k = (v, .ok k')) :
    s.custMid p f us k mid = .act k'.finish fun u => { v.setTile p (u.tile p) with free := v.free + 4 } := by
  rw [State.custMid, h]

section
variable {s : State} {p : Nat} {x : Pfx} {c : CustomArgs}

theorem exec_customInstruction (p : Nat) (x : Pfx) (c : CustomArgs) (mid : List (Nat × Msg)) (s : State) :
    exec (.customInstruction p x ⟨c, mid⟩) s =
      s.custom p x c fun f us k => if mid.isEmpty then custPlain f us k else s.custMid p f us k mid := rfl

/-- The instruction with no remote access between its micro-ops (R125 to R131). -/
theorem exec_custom_plain {us : List W24} {k : UCtx} (hx : x.wide = false) (hm : c.mode.val < 8)
    (he : Executes s p (custLen c.mode.val) x) (hus : tfind? c.entry.val (s.tile p).active = some us)
    (hodd : custOdd (custFields c) us = false)
    (hrun : uRun (custFields c) us.length us (s.custStart p) = .ok k) :
    ∃ u, Retires s u p (following s p (custLen c.mode.val) x) k.finish ∧
      exec (.customInstruction p x ⟨c, []⟩) s = .next { u with free := s.free + 4 } := by
  rw [exec_customInstruction]
  obtain ⟨u, hu, hr⟩ := State.custom_act (run := custPlain) hx hm he hus hodd (custPlain_ok hrun)
  rw [retires_free hr] at hu
  exact ⟨u, hr, hu⟩

/-- The instruction while remote accesses are served between its micro-ops (R132). -/
theorem exec_custom_mid {us : List W24} {mid : List (Nat × Msg)} {v : State} {k : UCtx} (hx : x.wide = false)
    (hm : c.mode.val < 8) (he : Executes s p (custLen c.mode.val) x)
    (hus : tfind? c.entry.val (s.tile p).active = some us) (hodd : custOdd (custFields c) us = false)
    (hmid : mid ≠ [])
    (hrun : uRunMid (custFields c) p mid us.length 0 us s (s.custStart p) = (v, .ok k)) :
    ∃ u, Retires s u p (following s p (custLen c.mode.val) x) k.finish ∧
      exec (.customInstruction p x ⟨c, mid⟩) s =
        .next { v.setTile p (u.tile p) with free := v.free + 4 } := by
  have hne : mid.isEmpty = false := by simpa using hmid
  simp only [exec_customInstruction, hne, Bool.false_eq_true, if_false]
  obtain ⟨u, hu, hr⟩ := State.custom_act (run := fun f us k => s.custMid p f us k mid) hx hm he hus hodd
    (State.custMid_ok hrun)
  exact ⟨u, hr, hu⟩

theorem exec_custom_inactive (hx : x.wide = false) (hm : c.mode.val < 8) (he : Executes s p (custLen c.mode.val) x)
    (hus : tfind? c.entry.val (s.tile p).active = none)
    (hno : ¬ ((s.tile p).inh = true ∧ (s.tile p).evOn = false)) (mid : List (Nat × Msg)) :
    exec (.customInstruction p x ⟨c, mid⟩) s =
      .next (trapped s p 8 (BitVec.ofNat 8 c.entry.val) (s.tile p).land (s.tile p).pc) := by
  rw [← tileTrap_eq _ _ _ _ _ _ hno, exec_customInstruction]
  exact State.custom_trap hx hm he hus

end

/-- Settles O15: an active entry retires with what its run leaves, and one that is not active traps. -/
theorem customInstruction : Obligations.CustomInstruction := by
  unfold Obligations.CustomInstruction
  intro p x c mid s hx hm o f len temps he
  exact ⟨fun us k hus hodd hrun => exec_custom_plain hx hm he hus hodd hrun,
    fun us v k hus hodd hmid hrun => exec_custom_mid hx hm he hus hodd hmid hrun,
    fun hus hno => exec_custom_inactive hx hm he hus hno mid⟩

end Sys2Proof.Machine
end

section
/-! PROOF of O23: requests that a logical tile serves (R44, R145 to R147, R150, R160 to R167). -/

namespace Sys2Proof.Machine
open Sys2Proof.Safety

/-! ### Arrival in tile space -/

/-- A request of tile space crosses into no island, so that one that is next of its sender is delivered (R154). -/
theorem State.arrive_tile {s : State} {m : Msg} {kind : MsgKind} (hkind : m.kind = kind)
    (hnext : s.nextOf (msgSent m) = true) (hrun : s.running = true) (hcut : m.cut = false) (hspace : m.space = 0) :
    s.arrive m kind = s.deliver m := by
  obtain ⟨hrun, hhold⟩ := State.running_iff.mp hrun
  simp [State.arrive, State.present, State.passes, hkind, hnext, hcut, hrun, hhold, hspace]

/-- A request of tile space is served at its tile, and its response goes out. -/
theorem State.deliver_tile {s : State} {m : Msg} (hdev : m.dev = s.device) (hspace : m.space = 0)
    (haddr : m.addr < 2 ^ 26) :
    s.deliver m = ((s.taken m).serveTile m).1.answering m ((s.taken m).serveTile m).2 := by
  unfold State.deliver State.serve
  rw [if_neg (not_not_intro hdev)]
  simp only [hspace, if_true]
  exact State.keepAction_of_not_isAction _ _ (isAction_eq_false_of_addr (by omega))

theorem answerTo_fromPhys (m : Msg) (a : Resp) (p : Nat) :
    answerTo m { a with fromPhys := p } = { answerTo m a with fromPhys := p } := by
  unfold answerTo
  split <;> rfl

/-! ### The way to the tile (R150, R166, R167) -/

/-- The request goes to physical tile `p`: its sender's interface routed it there, or else the map names `p` now. -/
def State.RoutesTo (s : State) (m : Msg) (p : Nat) : Prop :=
  m.phys = some p ∨ (m.phys = none ∧ s.physOf (m.addr / 65536 % 1024) = some p)

section
variable {s : State} {m : Msg} {l p : Nat}

/-- A logical tile without a physical one is answered as fenced. -/
theorem State.serveTile_unmapped (haddr : m.addr < 2 ^ 26) (hphys : m.phys = none)
    (hmap : s.physOf (m.addr / 65536 % 1024) = none) : s.serveTile m = (s, merr m 0x8B) := by
  have hlow : ¬ 0x4000000 ≤ m.addr := by omega
  simp [State.serveTile, hlow, hphys, hmap]

/-- The gate of the destination's court drops a stale request (R167). -/
theorem State.serveTile_stale (haddr : m.addr < 2 ^ 26) (hphys : m.phys = none)
    (hmap : s.physOf (m.addr / 65536 % 1024) = some p) (hstale : s.stale m = true) :
    s.serveTile m = (s.staleDrop m (p / 64), merr m 0x87) := by
  have hlow : ¬ 0x4000000 ≤ m.addr := by omega
  simp [State.serveTile, hlow, hphys, hmap, hstale]

/-- A gate forwards a request of a live sender, with CHK set. -/
theorem State.serveTile_forwarded (haddr : m.addr < 2 ^ 26) (hphys : m.phys = none)
    (hmap : s.physOf (m.addr / 65536 % 1024) = some p) (hfresh : s.stale m = false) :
    s.serveTile m = s.serveRouted { m with chk := true } (m.addr / 65536 % 1024) p := by
  have hlow : ¬ 0x4000000 ≤ m.addr := by omega
  simp [State.serveTile, hlow, hphys, hmap, hfresh]

/-- A request that its sender's interface routed directly passes no gate. -/
theorem State.serveTile_direct (haddr : m.addr < 2 ^ 26) (hphys : m.phys = some p) :
    s.serveTile m = s.serveRouted m (m.addr / 65536 % 1024) p := by
  have hlow : ¬ 0x4000000 ≤ m.addr := by omega
  simp [State.serveTile, hlow, hphys]

theorem State.serveRouted_fenced (hfence : s.isFenced p = true) :
    s.serveRouted m l p = (s, { merr m 0x8B with fromPhys := p }) := by
  simp [State.serveRouted, State.routedAt, hfence]

/-- The tile's interface drops a stale request that no gate has checked (R145, R167). -/
theorem State.serveRouted_stale (hfence : s.isFenced p = false) (hchk : m.chk = false) (hstale : s.stale m = true) :
    s.serveRouted m l p = (s.staleDrop m (p / 64), { merr m 0x87 with fromPhys := p }) := by
  simp [State.serveRouted, State.routedAt, hfence, hchk, hstale]

/-- An unfenced tile in no duplex pair serves a request of a live sender. -/
theorem State.serveRouted_served (hfence : s.isFenced p = false) (hfresh : s.stale m = false)
    (hd : tfind? l s.gates.duplex = none) (hcrc : m.badCrc = false) (hgateOp : m.kind ≠ .gateOp)
    (hother : ∀ n, m.kind ≠ .other n) :
    s.serveRouted m l p = ((s.serveAt m p).1, { (s.serveAt m p).2 with fromPhys := p }) := by
  cases hkind : m.kind with
  | gateOp => exact absurd hkind hgateOp
  | other n => exact absurd hkind (hother n)
  | _ => simp [State.serveRouted, State.routedAt, hfence, hfresh, hd, hcrc, hkind]

theorem State.serveTile_fenced (haddr : m.addr < 2 ^ 26) (hroute : s.RoutesTo m p)
    (hgate : m.phys = some p ∨ s.stale m = false) (hfence : s.isFenced p = true) :
    s.serveTile m = (s, { merr m 0x8B with fromPhys := p }) := by
  rcases hroute with hphys | ⟨hphys, hmap⟩
  · exact (State.serveTile_direct haddr hphys).trans (State.serveRouted_fenced hfence)
  · have hfresh : s.stale m = false := hgate.resolve_left (by simp [hphys])
    exact (State.serveTile_forwarded haddr hphys hmap hfresh).trans (State.serveRouted_fenced hfence)

theorem State.serveTile_served (haddr : m.addr < 2 ^ 26) (hroute : s.RoutesTo m p) (hfence : s.isFenced p = false)
    (hfresh : s.stale m = false) (hd : tfind? (m.addr / 65536 % 1024) s.gates.duplex = none)
    (hcrc : m.badCrc = false) (hgateOp : m.kind ≠ .gateOp) (hother : ∀ n, m.kind ≠ .other n) :
    s.serveTile m = ((s.serveAt m p).1, { (s.serveAt m p).2 with fromPhys := p }) := by
  rcases hroute with hphys | ⟨hphys, hmap⟩
  · exact (State.serveTile_direct haddr hphys).trans
      (State.serveRouted_served hfence hfresh hd hcrc hgateOp hother)
  · exact (State.serveTile_forwarded haddr hphys hmap hfresh).trans
      (State.serveRouted_served (m := { m with chk := true }) hfence hfresh hd hcrc hgateOp hother)
end

/-! ### The court that leaves lull (R44) -/

/-- A court that leaves lull changes pace records alone. -/
theorem State.wakeCourt_frame (s : State) (c : Nat) : ∃ pace, s.wakeCourt c = { s with pace := pace } := by
  unfold State.wakeCourt
  dsimp only
  split_ifs <;> exact ⟨_, rfl⟩

theorem State.wakeCourt_taken (s : State) (m : Msg) (c : Nat) :
    (s.taken m).wakeCourt c = (s.wakeCourt c).taken m := by
  have hcourt : (s.taken m).court c = s.court c := rfl
  unfold State.wakeCourt
  rw [hcourt]
  dsimp only
  split_ifs <;> rfl

@[simp] theorem State.wakeCourt_flight (s : State) (c : Nat) : (s.wakeCourt c).flight = s.flight := by
  obtain ⟨pace, h⟩ := s.wakeCourt_frame c
  rw [h]

@[simp] theorem State.wakeCourt_replies (s : State) (c : Nat) : (s.wakeCourt c).replies = s.replies := by
  obtain ⟨pace, h⟩ := s.wakeCourt_frame c
  rw [h]

/-! ### Bytes that the network stores in a tile without errors (R147, R164, R509) -/

section
variable {t : Tile}

theorem Tile.storeBytes_eq (t : Tile) (a : W16) (bs : List Byte) :
    t.storeBytes a bs = { t with mem := (t.storeBytes a bs).mem } := by
  obtain ⟨mem, h⟩ := t.storeBytes_frame a bs
  rw [h]

theorem Tile.storeBytes_bad (t : Tile) (a : W16) (bs : List Byte) : (t.storeBytes a bs).bad = t.bad := by
  rw [Tile.storeBytes_eq]

theorem Tile.storeBytes_wf (ht : Memory.wf 0 t.mem = true) (a : W16) (bs : List Byte) :
    Memory.wf 0 (t.storeBytes a bs).mem = true := by
  induction bs generalizing t a with
  | nil => exact ht
  | cons b r ih => exact ih (t := t.store a b) (memPut_wf ht) (a + 1)

theorem Tile.storeBytes_append (t : Tile) (a : W16) (xs ys : List Byte) :
    t.storeBytes a (xs ++ ys) = (t.storeBytes a xs).storeBytes (a + BitVec.ofNat 16 xs.length) ys := by
  induction xs generalizing t a with
  | nil => simp [Tile.storeBytes]
  | cons x r ih =>
    have hnext : a + 1 + BitVec.ofNat 16 r.length = a + BitVec.ofNat 16 (r.length + 1) := by
      rw [BitVec.ofNat_add, BitVec.add_assoc, BitVec.add_comm 1]
      rfl
    rw [List.cons_append, Tile.storeBytes, ih, hnext]
    rfl

/-- A byte after a store of several, whose addresses wrap at the end of the memory (R62). -/
theorem Tile.byte_storeBytes (ht : Memory.wf 0 t.mem = true) (a : W16) {bs : List Byte} (hlen : bs.length ≤ 65536)
    (c : W16) : (t.storeBytes a bs).byte c = (bs[(c - a).toNat]?).getD (t.byte c) := by
  have hoffset : (c - a).toNat = (c.toNat + 65536 - a.toNat) % 65536 := by
    have ha := a.isLt
    rw [BitVec.toNat_sub]
    congr 1
    omega
  rw [hoffset]
  exact Tile.memGet_storeBytes ht a hlen c.isLt

theorem Tile.freshen_of_good (h : t.bad = []) (a : W16) (n : Nat) : t.freshen a n = t := by
  rw [Tile.freshen, h]
  exact congrArg (fun b => { t with bad := b }) h.symm

theorem Tile.anyBad_of_good (h : t.bad = []) (a : W16) (n : Nat) : t.anyBad a n = false := by
  simp [Tile.anyBad, h]

theorem Tile.storeBad_of_good (h : t.bad = []) (a : W16) (n : Nat) : t.storeBad a n = false := by
  simp [Tile.storeBad, h]

/-- Flit after flit, the whole payload is stored. -/
theorem Tile.applyFlits_of_good (h : t.bad = []) (whole : List Nat) {fuel : Nat} (n : Nat) (a : W16) {bs : List Byte}
    (hfuel : bs.length ≤ fuel) : t.applyFlits whole fuel n a bs = (t.storeBytes a bs, none) := by
  induction fuel generalizing t n a bs with
  | zero =>
    obtain rfl : bs = [] := List.eq_nil_of_length_eq_zero (Nat.le_zero.mp hfuel)
    rfl
  | succ fuel ih =>
    cases bs with
    | nil => rfl
    | cons b r =>
      have hrest : ((b :: r).drop 4).length ≤ fuel := by
        rw [List.length_drop]
        omega
      have hnext :
          (t.storeBytes a ((b :: r).take 4)).storeBytes (a + 4) ((b :: r).drop 4) = t.storeBytes a (b :: r) := by
        conv_rhs => rw [← List.take_append_drop 4 (b :: r), Tile.storeBytes_append]
        by_cases hlen : 4 ≤ (b :: r).length
        · rw [List.length_take_of_le hlen]
          rfl
        · rw [List.drop_of_length_le (by omega)]
          rfl
      have hfree (l : List Nat) : (l.any fun _ => false) = false := List.any_eq_false.mpr fun _ _ => Bool.false_ne_true
      simp only [Tile.applyFlits, h, List.contains_nil, Bool.false_and, hfree, Bool.false_eq_true, if_false]
      rw [ih ((t.storeBytes_bad _ _).trans h) (n + 1) (a + 4) hrest, hnext]

theorem Tile.netWrite_of_good (h : t.bad = []) (a : W16) (bs : List Byte) :
    t.netWrite a bs = (t.storeBytes a bs, true) := by
  unfold Tile.netWrite
  rw [Tile.applyFlits_of_good h _ 0 a (Nat.le_succ _)]
  exact congrArg (·, true) (Tile.freshen_of_good ((t.storeBytes_bad a bs).trans h) a bs.length)

theorem Tile.netStore_of_good (h : t.bad = []) (a : W16) (bs : List Byte) :
    t.netStore a bs = some (t.storeBytes a bs) := by
  unfold Tile.netStore
  rw [Tile.storeBad_of_good h, Tile.freshen_of_good ((t.storeBytes_bad a bs).trans h)]
  rfl

/-- Beats of 8 bytes stored one over the other at one address. -/
def Tile.storeBeats (t : Tile) (a : W16) : Nat → List Byte → Tile
  | 0, _ => t
  | n + 1, bs => (t.storeBytes a (bs.take 8)).storeBeats a n (bs.drop 8)

theorem Tile.netBeats_of_good (h : t.bad = []) (a : W16) (n : Nat) (bs : List Byte) :
    t.netBeats a n bs = (t.storeBeats a n bs, true) := by
  induction n generalizing t bs with
  | zero => rfl
  | succ n ih =>
    simp only [Tile.netBeats, Tile.netWrite_of_good h, if_true]
    exact ih ((t.storeBytes_bad _ _).trans h) _

theorem Tile.storeBeats_eq (t : Tile) (a : W16) (n : Nat) (bs : List Byte) :
    t.storeBeats a n bs = { t with mem := (t.storeBeats a n bs).mem } := by
  induction n generalizing t bs with
  | zero => rfl
  | succ n ih =>
    rw [Tile.storeBeats, ih, Tile.storeBytes_eq]

/-- Each byte of a beat's place holds the last byte that was written to it. -/
theorem Tile.byte_storeBeats (ht : Memory.wf 0 t.mem = true) (a : W16) {n : Nat} {bs : List Byte}
    (hlen : bs.length ≤ 8 * n) (c : W16) :
    (t.storeBeats a n bs).byte c = if (c - a).toNat < 8 ∧ (c - a).toNat < bs.length then
      (bs[(bs.length - 1 - (c - a).toNat) / 8 * 8 + (c - a).toNat]?).getD 0 else t.byte c := by
  induction n generalizing t bs with
  | zero => rw [if_neg (by omega)]; rfl
  | succ n ih =>
    have hbeat : (bs.take 8).length ≤ 65536 := (List.length_take_le ..).trans (by decide)
    rw [Tile.storeBeats, ih (Tile.storeBytes_wf ht a _) (by rw [List.length_drop]; omega), List.length_drop,
      List.getElem?_drop, Tile.byte_storeBytes ht a hbeat, List.getElem?_take]
    generalize (c - a).toNat = j
    by_cases hplace : j < 8
    · by_cases hlater : j < bs.length - 8
      · have hstep : 8 + ((bs.length - 8 - 1 - j) / 8 * 8 + j) = (bs.length - 1 - j) / 8 * 8 + j := by omega
        rw [if_pos ⟨hplace, hlater⟩, if_pos ⟨hplace, by omega⟩, hstep]
      · rw [if_neg (fun h => hlater h.2), if_pos hplace]
        by_cases hfirst : j < bs.length
        · have hlast : (bs.length - 1 - j) / 8 * 8 + j = j := by omega
          rw [if_pos ⟨hplace, hfirst⟩, hlast, List.getElem?_eq_getElem hfirst]
          rfl
        · rw [if_neg (fun h => hfirst h.2), List.getElem?_eq_none (by omega)]
          rfl
    · rw [if_neg (fun h => hplace h.1), if_neg hplace, if_neg (fun h => hplace h.1)]
      rfl

/-! ### The receive ring (R160 to R163) -/

/-- The bytes of the receive ring that hold entries, with its tail modulo its size (log 145). -/
def Tile.ringUsed (t : Tile) : Nat :=
  (t.rxHead.toNat + 2 ^ t.rxLog - t.rxTail.toNat % 2 ^ t.rxLog) % 2 ^ t.rxLog

/-- The bytes that an entry takes in the ring: a multiple of 8. -/
def ringNeed (entry : List Byte) : Nat := (entry.length + 7) / 8 * 8

theorem Tile.ringPut_off (h : t.rxLog = 0) (free : Byte) (entry : List Byte) : t.ringPut free entry = .off := if_pos h

/-- No entry is written where it would not leave 8 bytes of the ring free (R161). -/
theorem Tile.ringPut_full {entry : List Byte} (hon : t.rxLog ≠ 0) (hhead : t.rxHead.toNat < 2 ^ t.rxLog)
    (hfull : 2 ^ t.rxLog < t.ringUsed +
      (if 2 ^ t.rxLog < t.rxHead.toNat + ringNeed entry then 2 ^ t.rxLog - t.rxHead.toNat else 0) + ringNeed entry + 8)
    (free : Byte) : t.ringPut free entry = .full := by
  simp only [Tile.ringPut, hon, if_false, Nat.mod_eq_of_lt hhead]
  exact if_pos hfull

/-- An entry that fits before the end of the ring is written at its head, and line 8 is set (R161, R162). -/
theorem Tile.ringPut_fits {entry : List Byte} (hgood : t.bad = []) (hon : t.rxLog ≠ 0)
    (hhead : t.rxHead.toNat < 2 ^ t.rxLog) (hfree : t.ringUsed + ringNeed entry + 8 ≤ 2 ^ t.rxLog)
    (hend : t.rxHead.toNat + ringNeed entry ≤ 2 ^ t.rxLog) (free : Byte) :
    t.ringPut free entry = .wrote { t with
      mem := (t.storeBytes (t.rxBase + t.rxHead) entry).mem
      rxHead := BitVec.ofNat 16 ((t.rxHead.toNat + ringNeed entry) % 2 ^ t.rxLog), pend := t.pend ||| 0x0100 } := by
  have hpad : (if 2 ^ t.rxLog < t.rxHead.toNat + ringNeed entry then 2 ^ t.rxLog - t.rxHead.toNat else 0) = 0 :=
    if_neg (Nat.not_lt.mpr hend)
  have hroom : ¬ 2 ^ t.rxLog < t.ringUsed + 0 + ringNeed entry + 8 := by omega
  have hat : BitVec.ofNat 16 t.rxHead.toNat = t.rxHead := BitVec.eq_of_toNat_eq (by simp)
  unfold Tile.ringUsed ringNeed at *
  unfold Tile.ringPut
  simp only [hon, if_false, Nat.mod_eq_of_lt hhead, hpad, hroom, if_true, Option.bind_some, hat,
    Tile.netStore_of_good hgood, Tile.raise]
  rw [Tile.storeBytes_eq]
  rfl
end

/-! ### Service at a tile without errors (R44, R147) -/

section
variable {s w : State} {m : Msg} {p : Nat}

theorem State.serveAt_write (hwake : s.wakeCourt (p / 64) = w) (hkind : m.kind = .write) (hgood : (s.tile p).bad = []) :
    s.serveAt m p = (w.setTile p ((s.tile p).storeBytes (BitVec.ofNat 16 m.addr) m.data), mok m) := by
  subst hwake
  simp only [State.serveAt, hkind, State.wakeCourt_tile, Tile.netWrite_of_good hgood, if_true]

theorem State.serveAt_writeFixed (hwake : s.wakeCourt (p / 64) = w) (hkind : m.kind = .writeFixed)
    (hgood : (s.tile p).bad = []) : s.serveAt m p = (w.setTile p
      ((s.tile p).storeBeats (BitVec.ofNat 16 m.addr) ((m.data.length + 7) / 8) m.data), mok m) := by
  subst hwake
  simp only [State.serveAt, hkind, State.wakeCourt_tile, Tile.netBeats_of_good hgood, if_true]

theorem State.serveAt_read (hwake : s.wakeCourt (p / 64) = w) (hkind : m.kind = .read) (hgood : (s.tile p).bad = []) :
    s.serveAt m p = (w, mresp m .done 0 ((s.tile p).bytes (BitVec.ofNat 16 m.addr) m.len)) := by
  subst hwake
  simp only [State.serveAt, hkind, State.wakeCourt_tile, Tile.anyBad_of_good hgood, Bool.false_eq_true, if_false]

/-- The ring entry of a message: its header and its payload (R160). -/
def messageEntry (m : Msg) : List Byte :=
  ringHeader 0 m.srcId m.data.length m.srcDev m.tag m.cap ++ m.data

theorem messageEntry_eq (m : Msg) : messageEntry m = leBytes (m.srcId % 4096) 2 ++ leBytes m.data.length 2 ++
    leBytes (m.srcDev % 16384) 2 ++ [BitVec.ofNat 8 m.tag, BitVec.ofNat 8 m.cap] ++ m.data := by
  simp [messageEntry, ringHeader]

theorem messageEntry_length (m : Msg) : (messageEntry m).length = 8 + m.data.length := by
  simp [messageEntry, ringHeader]
  omega

theorem State.serveAt_msg_off (hwake : s.wakeCourt (p / 64) = w) (hkind : m.kind = .msg) (hoff : (s.tile p).rxLog = 0) :
    s.serveAt m p = (w, merr m 0x8A) := by
  subst hwake
  simp only [State.serveAt, hkind, State.wakeCourt_tile, Tile.ringPut_off hoff]

theorem State.serveAt_msg_full (hwake : s.wakeCourt (p / 64) = w) (hkind : m.kind = .msg)
    (hfull : ∀ free, (s.tile p).ringPut free (messageEntry m) = .full) :
    s.serveAt m p = (w, merr m 0x89) := by
  unfold messageEntry at hfull
  subst hwake
  simp only [State.serveAt, hkind, State.wakeCourt_tile, hfull]

theorem State.serveAt_msg_wrote {u : Tile} (hwake : s.wakeCourt (p / 64) = w) (hkind : m.kind = .msg)
    (hwrote : ∀ free, (s.tile p).ringPut free (messageEntry m) = .wrote u) :
    s.serveAt m p = ({ w.setTile p u with free := w.free + 1 }, mok m) := by
  unfold messageEntry at hwrote
  subst hwake
  simp only [State.serveAt, hkind, State.wakeCourt_tile, hwrote]

theorem State.serveAt_event (hwake : s.wakeCourt (p / 64) = w) (hkind : m.kind = .event) :
    s.serveAt m p = (w.setTile p ((s.tile p).raise ((m.data.headD 0).toNat % 8)), mok m) := by
  subst hwake
  simp only [State.serveAt, hkind, State.setLine, State.wakeCourt_tile]
end

/-! ### The statement -/

/-- Settles O23. -/
theorem tileRequests : Obligations.TileRequests := by
  unfold Obligations.TileRequests
  intro m s hnext hrun hdev hspace haddr hcrc hcut logical off answered refused row c hrow
  have hgateOp : m.kind ≠ .gateOp := fun h => by simp [row, h] at hrow
  have hother (n : Nat) : m.kind ≠ .other n := fun h => by simp [row, h] at hrow
  have hexec {u : State} {a : Resp} (hserve : (s.taken m).serveTile m = (u, a)) :
      exec c s = .next (u.answering m a) := by
    have harrive {kind : MsgKind} (hkind : m.kind = kind) : ok true (s.arrive m kind) = .next (u.answering m a) := by
      rw [State.arrive_tile hkind hnext hrun hcut hspace, State.deliver_tile hdev hspace haddr, hserve]
      rfl
    simp only [row] at hrow
    split at hrow <;> cases hrow
    all_goals exact harrive (by assumption)
  have hanswer {u : State} (hflight : u.flight = s.flight) (hreplies : u.replies = s.replies) (f : Nat) (k : RespKind)
      (st : Nat) (d : List Byte) :
      (u.taken m).answering m { mresp m k st d with fromPhys := f } = answered u f k st d := by
    have hsent : (u.taken m).replies = s.replies := hreplies
    rw [State.answering, answerTo_fromPhys, answerTo_mresp, hsent, State.taken, hflight]
    rfl
  have hrefused {f st : Nat} (hserve : (s.taken m).serveTile m = (s.taken m, { merr m st with fromPhys := f })) :
      exec c s = .next (refused f st) := (hexec hserve).trans (congrArg _ (hanswer rfl rfl ..))
  refine ⟨fun hphys hmap => hrefused (State.serveTile_unmapped haddr hphys hmap), ?_⟩
  intro p hroute o w dropped
  have hdropped {f : Nat} (hserve : (s.taken m).serveTile m =
      ((s.taken m).staleDrop m (p / 64), { merr m 0x87 with fromPhys := f })) : dropped f := by
    obtain ⟨r, pw, wf, log, q, hdrop⟩ := (s.taken m).staleDrop_frame m (p / 64)
    have hreplies := congrArg State.replies (hanswer (u := s) rfl rfl f .error 0x87 [BitVec.ofNat 8 0x87, 0, 0, 0])
    refine ⟨_, hexec hserve, ?_⟩
    rw [hdrop]
    exact ⟨rfl, hreplies, tget_tput_self ..⟩
  refine ⟨fun hfence hgate => hrefused (State.serveTile_fenced haddr hroute hgate hfence), ?_, ?_, ?_⟩
  · intro hphys hstale
    have hmap := (hroute.resolve_left (by simp [hphys])).2
    exact hdropped (State.serveTile_stale haddr hphys hmap hstale)
  · intro hphys hfence hchk hstale
    exact hdropped ((State.serveTile_direct haddr hphys).trans (State.serveRouted_stale hfence hchk hstale))
  intro hfence hfresh hd hgood hwf hlen
  have hwake : (s.taken m).wakeCourt (p / 64) = w.taken m := s.wakeCourt_taken m (p / 64)
  have hflight : w.flight = s.flight := s.wakeCourt_flight _
  have hreplies : w.replies = s.replies := s.wakeCourt_replies _
  have hserved {u : State} {k : RespKind} {st : Nat} {d : List Byte} (huf : u.flight = s.flight)
      (hur : u.replies = s.replies) (hserve : (s.taken m).serveAt m p = (u.taken m, mresp m k st d)) :
      exec c s = .next (answered u p k st d) := by
    refine (hexec ?_).trans (congrArg _ (hanswer huf hur p k st d))
    rw [State.serveTile_served (s := s.taken m) haddr hroute hfence hfresh hd hcrc hgateOp hother, hserve]
  have hstored {x : Tile} {b : W16 → Byte} (hserve : (s.taken m).serveAt m p = ((w.setTile p x).taken m, mok m))
      (hframe : x = { o with mem := x.mem }) (hbytes : ∀ a, x.byte a = b a) :
      ∃ t, exec c s = .next t ∧ t = answered (w.setTile p (t.tile p)) p .done 0 [] ∧
        t.tile p = { o with mem := (t.tile p).mem } ∧ ∀ a, (t.tile p).byte a = b a := by
    have htile : (answered (w.setTile p x) p .done 0 []).tile p = x := State.setTile_tile w p x
    refine ⟨_, hserved (u := w.setTile p x) hflight hreplies hserve, ?_⟩
    rw [htile]
    exact ⟨rfl, hframe, hbytes⟩
  refine ⟨fun hkind => ?_, fun hkind => ?_, fun hkind => ?_, fun hkind hoff => ?_, fun hkind hlo hhi hhead => ?_,
    fun hkind => ?_⟩
  · exact hstored (State.serveAt_write hwake hkind hgood) (o.storeBytes_eq off m.data)
      (Tile.byte_storeBytes hwf off (by omega))
  · exact hstored (State.serveAt_writeFixed hwake hkind hgood) (o.storeBeats_eq off _ m.data)
      (Tile.byte_storeBeats hwf off (by omega))
  · exact hserved hflight hreplies (State.serveAt_read hwake hkind hgood)
  · exact hserved hflight hreplies (State.serveAt_msg_off hwake hkind hoff)
  · have hon : o.rxLog ≠ 0 := by omega
    rw [← messageEntry_eq]
    refine ⟨fun hfull => ?_, fun hfree hend => ?_⟩
    · exact hserved hflight hreplies (State.serveAt_msg_full hwake hkind (Tile.ringPut_full hon hhead hfull))
    · have hserve := State.serveAt_msg_wrote hwake hkind (Tile.ringPut_fits hgood hon hhead hfree hend)
      have hfits : (messageEntry m).length ≤ 65536 := by
        rw [messageEntry_length]
        omega
      refine ⟨_, hserved (u := { w.setTile p _ with free := w.free + 1 }) hflight hreplies hserve, rfl, ?_⟩
      have htile (x : Tile) : (answered { w.setTile p x with free := w.free + 1 } p .done 0 []).tile p = x :=
        State.setTile_tile w p x
      rw [htile]
      exact ⟨rfl, Tile.byte_storeBytes hwf _ hfits⟩
  · exact ⟨_, hserved (u := w.setTile p _) hflight hreplies (State.serveAt_event hwake hkind), rfl, rfl,
      State.setTile_tile w p _⟩

end Sys2Proof.Machine
end
section
/-! SUPPORT. The buffer pool: what a take, a give and a free of a master that reaches the pool do (R198 to R201). -/

namespace Sys2Proof.Machine
open Sys2Proof.Safety

/-! ### What an access that its master reaches does -/

theorem exec_poolTake_of_reaches {s : State} {i p tag : Nat}
    (h : s.reaches (s.askerWho (.access i p tag) s.device) (poolReg 0) 4 false = true) :
    exec (.poolTake (.access i p tag)) s =
      .next ((s.readTake i i p tag).1.answerRead (.access i p tag) (s.readTake i i p tag).2 4) := by
  simp [exec, execPoolTake, ok, State.regRead_of_reaches h, State.readerOf]

theorem exec_poolGive_of_reaches {s : State} {m : Nat} (h : s.reaches (s.whoIs m) (poolReg 0xC) 4 true = true)
    (v : W32) : exec (.poolGive m v) s = .next (s.poolGiveOp m (fld v 0 16) (fld v 16 12)) := by
  simp [exec, execPoolGive, ok, State.regWrite_of_reaches h]

theorem exec_poolFree_of_reaches {s : State} {m : Nat} (h : s.reaches (s.whoIs m) (poolReg 8) 4 true = true)
    (v : W32) : exec (.poolFree m v) s = .next (s.poolFreeOp m (fld v 0 16)) := by
  simp [exec, execPoolFree, ok, State.regWrite_of_reaches h]

/-! ### The checks of R199 -/

/-- The handle names the incarnation of a free buffer that was freed last. -/
abbrev Pool.FreedTwice (l : Pool) (h : Nat) : Prop :=
  tget 0x4FF (h % 2048) l.owner = 0x4FF ∧ h / 2048 = (tget 0 (h % 2048) l.gen + 31) % 32

/-- The handle is current and its buffer is the caller's. -/
def Pool.Owns (l : Pool) (caller h : Nat) : Prop :=
  ¬ l.FreedTwice h ∧ h / 2048 = tget 0 (h % 2048) l.gen ∧ tget 0x4FF (h % 2048) l.owner = caller

/-- The checks in their order. -/
theorem Pool.check_eq {h : Nat} (hh : h < 65536) (l : Pool) (caller : Nat) (dest : Option Nat) :
    l.check caller h dest =
      if tget 0x4FF (h % 2048) l.owner = 0x4FF ∧ h / 2048 = (tget 0 (h % 2048) l.gen + 31) % 32 then 1
      else if h / 2048 ≠ tget 0 (h % 2048) l.gen then 3
      else if tget 0x4FF (h % 2048) l.owner ≠ caller ∨ dest.any (fun o => !inOwnerTable o) = true then 2
      else 0 := by
  have hmod : h / 2048 % 32 = h / 2048 := Nat.mod_eq_of_lt (by omega)
  simp [Pool.check, Pool.ownerOf, Pool.genOf, hmod]

theorem Pool.check_eq_zero_iff {h : Nat} (hh : h < 65536) {l : Pool} {caller : Nat} (dest : Option Nat) :
    l.check caller h dest = 0 ↔ l.Owns caller h ∧ dest.any (fun o => !inOwnerTable o) = false := by
  rw [Pool.check_eq hh]
  by_cases ht : l.FreedTwice h
  · simp [Pool.Owns, ht]
  · rw [if_neg ht]
    by_cases hgen : h / 2048 = tget 0 (h % 2048) l.gen
    · by_cases how : tget 0x4FF (h % 2048) l.owner = caller <;> simp [Pool.Owns, ht, hgen, how]
    · simp [Pool.Owns, hgen]

/-! ### A refusal (R199) -/

section Refuse
variable (s : State) (cause op caller h : Nat)

theorem State.poolRefuse_pool : (s.poolRefuse cause op caller h).pool = { s.pool with
    err := s.pool.err ||| (1 <<< if cause = 1 then 0 else if cause = 2 then 1 else 2)
    cntDouble := if cause = 1 then inc16 s.pool.cntDouble else s.pool.cntDouble
    cntForeign := if cause = 2 then inc16 s.pool.cntForeign else s.pool.cntForeign
    cntStale := if cause = 3 then inc16 s.pool.cntStale else s.pool.cntStale
    offender := w32 (cause * 2 ^ 30 + op * 2 ^ 28 + caller % 4096 * 2 ^ 16 + h % 65536) } := by
  simp only [State.poolRefuse, apply_ite State.pool, State.report_pool, ite_self]

theorem State.poolRefuse_err : (s.poolRefuse cause op caller h).pool.err =
    s.pool.err ||| (if cause = 1 then 1 else if cause = 2 then 2 else 4) := by
  rw [State.poolRefuse_pool]
  split_ifs <;> rfl

theorem State.poolRefuse_offender : (s.poolRefuse cause op caller h).pool.offender =
    w32 (cause * 2 ^ 30 + op * 2 ^ 28 + caller % 4096 * 2 ^ 16 + h % 65536) := by rw [State.poolRefuse_pool]

theorem State.poolRefuse_keeps : (s.poolRefuse cause op caller h).pool.owner = s.pool.owner ∧
    (s.poolRefuse cause op caller h).pool.gen = s.pool.gen ∧
    (s.poolRefuse cause op caller h).pool.freed = s.pool.freed := by
  simp [State.poolRefuse_pool]

end Refuse

/-! ### Give and free -/

section GiveFree
variable {s : State} {caller h : Nat} (hh : h < 65536)
include hh

theorem State.poolFreeOp_of_owns (ho : s.pool.Owns caller h) : s.poolFreeOp caller h =
    { s with pool := { s.pool with
        owner := tdel (h % 2048) s.pool.owner
        gen := tput (h % 2048) ((tget 0 (h % 2048) s.pool.gen + 1) % 32) s.pool.gen
        freed := s.pool.freed ++ [h % 2048]
        enginePushed := s.pool.enginePushed.filter (· != h % 2048) } } := by
  have hc := (Pool.check_eq_zero_iff hh none).mpr ⟨ho, rfl⟩
  simp [State.poolFreeOp, hc, Pool.genOf]

theorem State.poolFreeOp_of_not_owns (ho : ¬ s.pool.Owns caller h) :
    s.poolFreeOp caller h = s.poolRefuse (s.pool.check caller h none) 0 caller h := by
  have hc : s.pool.check caller h none ≠ 0 := fun hc => ho ((Pool.check_eq_zero_iff hh none).mp hc).1
  simp [State.poolFreeOp, hc]

/-- What a refused POOL_FREE records. -/
theorem State.poolFreeOp_refusal {cause : Nat} (ho : ¬ s.pool.Owns caller h)
    (hc : s.pool.check caller h none = cause) :
    (s.poolFreeOp caller h).pool.owner = s.pool.owner ∧ (s.poolFreeOp caller h).pool.gen = s.pool.gen ∧
      (s.poolFreeOp caller h).pool.freed = s.pool.freed ∧
      (s.poolFreeOp caller h).pool.err = s.pool.err ||| (if cause = 1 then 1 else if cause = 2 then 2 else 4) ∧
      (s.poolFreeOp caller h).pool.offender = w32 (cause * 2 ^ 30 + caller % 4096 * 2 ^ 16 + h) := by
  subst hc
  obtain ⟨howner, hgen, hfreed⟩ := s.poolRefuse_keeps (s.pool.check caller h none) 0 caller h
  rw [State.poolFreeOp_of_not_owns hh ho]
  refine ⟨howner, hgen, hfreed, State.poolRefuse_err .., ?_⟩
  rw [State.poolRefuse_offender, Nat.zero_mul, Nat.add_zero, Nat.mod_eq_of_lt hh]

theorem State.poolGiveOp_of_owns {dest : Nat} (ho : s.pool.Owns caller h) (hd : inOwnerTable dest = true) :
    s.poolGiveOp caller h dest =
      { s with pool := { s.pool with owner := tput (h % 2048) dest s.pool.owner } } := by
  have hc := (Pool.check_eq_zero_iff hh (some dest)).mpr ⟨ho, by simpa using hd⟩
  simp [State.poolGiveOp, hc]

theorem State.poolGiveOp_of_refused {dest : Nat} (ho : ¬ (s.pool.Owns caller h ∧ inOwnerTable dest = true)) :
    s.poolGiveOp caller h dest = s.poolRefuse (s.pool.check caller h (some dest)) 1 caller h := by
  have hc : s.pool.check caller h (some dest) ≠ 0 := fun hc =>
    ho (by simpa using (Pool.check_eq_zero_iff hh (some dest)).mp hc)
  simp [State.poolGiveOp, hc]

end GiveFree

/-! ### Take -/

/-- A take by `o` is granted: the reserve does not bind it, or more buffers than the reserve are free (R198). -/
def Pool.Grants (l : Pool) (o : Nat) : Prop :=
  l.reserve < l.freeCount ∨ (0 < l.freeCount ∧ reserveFree o = true)

/-- The buffer that a take hands out: a fresh one, or the one freed longest ago. -/
def Pool.oldest (l : Pool) : Nat := if l.fresh < 2048 then l.fresh else l.freed.headD 0

section Take
variable (s : State) (o : Nat)

@[simp] theorem State.take_replies : (s.take o).1.replies = s.replies := by
  simp only [State.take]; split <;> (try split) <;> simp

@[simp] theorem State.take_gates : (s.take o).1.gates = s.gates := by
  simp only [State.take]; split <;> (try split) <;> simp

variable {s o}

theorem State.take_of_grants (h : s.pool.Grants o) :
    (s.take o).2 = some (tget 0 s.pool.oldest s.pool.gen * 2048 + s.pool.oldest) ∧
      (s.take o).1.pool.owner = tput s.pool.oldest o s.pool.owner ∧
      (s.take o).1.pool.freeCount + 1 = s.pool.freeCount := by
  have hpos : 0 < s.pool.freeCount := h.elim (Nat.zero_lt_of_lt) And.left
  have hg : (decide (s.pool.freeCount = 0) || decide (s.pool.freeCount ≤ s.pool.reserve) && !reserveFree o) =
      false := by
    rcases h with h | ⟨-, hr⟩
    · simp [h, hpos.ne']
    · simp [hr, hpos.ne']
  simp only [State.take, hg, Bool.false_eq_true, if_false, apply_ite State.pool, State.report_pool, ite_self]
  refine ⟨rfl, ?_, ?_⟩
  · by_cases hf : s.pool.fresh < 2048 <;> simp [hf, Pool.oldest, apply_ite Pool.owner]
  · unfold Pool.freeCount at hpos ⊢
    by_cases hf : s.pool.fresh < 2048 <;> simp [hf, apply_ite Pool.freed, apply_ite Pool.fresh] <;> omega

theorem State.take_of_not_grants (h : ¬ s.pool.Grants o) :
    (s.take o).2 = none ∧ (s.take o).1.pool.err = s.pool.err ||| 8 ∧
      (s.take o).1.pool.owner = s.pool.owner ∧ (s.take o).1.pool.freed = s.pool.freed := by
  have hg : (s.pool.freeCount = 0 || (s.pool.freeCount ≤ s.pool.reserve && !reserveFree o)) = true := by
    simp [Pool.Grants] at h ⊢
    by_cases h0 : s.pool.freeCount = 0
    · exact .inl h0
    · exact .inr ⟨h.1, by simpa using h.2 (by omega)⟩
  simp only [State.take, hg, if_true, apply_ite State.pool, State.report_pool, ite_self]
  simp

end Take

/-! ### The action read of POOL_TAKE (R176) -/

section ReadTake
variable {s : State} {i p tag : Nat}

theorem State.readTake_of_stored {word : Nat} (o : Nat) (h : storedRead s.pool.lastReads i p tag = some word) :
    s.readTake o i p tag = (s, word) := by
  simp [State.readTake, h]

theorem State.readTake_of_new (o : Nat) (h : storedRead s.pool.lastReads i p tag = none) :
    s.readTake o i p tag = ({ (s.take o).1 with pool := { (s.take o).1.pool with
      lastReads := noteRead (s.take o).1.pool.lastReads i p tag (takeWord (s.take o).2) } },
      takeWord (s.take o).2) := by
  simp [State.readTake, h]

end ReadTake

theorem State.answerRead_access_replies (s : State) (i p tag word n : Nat) :
    (s.answerRead (.access i p tag) word n).replies = s.replies ++
      [{ kind := .done, dstPhys := p, dstId := i, tag := tag, cap := if p < 1088 then s.capOf i else 0
         status := 0, data := leBytes word n, badCrc := false }] := rfl

theorem State.poolGiveOp_keeps {h : Nat} (hh : h < 65536) (s : State) (caller dest : Nat) :
    (s.poolGiveOp caller h dest).pool.gen = s.pool.gen ∧ (s.poolGiveOp caller h dest).pool.freed = s.pool.freed ∧
      (¬ (s.pool.Owns caller h ∧ inOwnerTable dest = true) →
        (s.poolGiveOp caller h dest).pool.owner = s.pool.owner) := by
  by_cases ho : s.pool.Owns caller h ∧ inOwnerTable dest = true
  · rw [State.poolGiveOp_of_owns hh ho.1 ho.2]
    exact ⟨rfl, rfl, fun hn => absurd ho hn⟩
  · rw [State.poolGiveOp_of_refused hh ho]
    obtain ⟨howner, hgen, hfreed⟩ := s.poolRefuse_keeps (s.pool.check caller h (some dest)) 1 caller h
    exact ⟨hgen, hfreed, fun _ => howner⟩

/-- The cause of a refused POOL_FREE (R199). -/
theorem Pool.check_of_not_owns {h : Nat} (hh : h < 65536) {l : Pool} {caller : Nat} (ho : ¬ l.Owns caller h) :
    l.check caller h none =
      if l.FreedTwice h then 1 else if h / 2048 ≠ tget 0 (h % 2048) l.gen then 3 else 2 := by
  rw [Pool.check_eq hh]
  by_cases ht : l.FreedTwice h
  · simp [ht]
  · rw [if_neg ht, if_neg ht]
    by_cases hgen : h / 2048 = tget 0 (h % 2048) l.gen
    · have how : tget 0x4FF (h % 2048) l.owner ≠ caller := fun how => ho ⟨ht, hgen, how⟩
      simp [hgen, how]
    · simp [hgen]

/-- Settles O21: a take by whether the reserve binds it, a give and a free by whether the checks of R199 pass. -/
theorem poolOperations : Obligations.PoolOperations := by
  unfold Obligations.PoolOperations
  intro i p tag m v s htake hfree hgive l free h b g dest owner gen twice own got n answer
  have hh : h < 65536 := Nat.mod_lt _ (by decide)
  have hfld : fld v 0 16 = h := fld_zero v 16
  have hdest : fld v 16 12 = dest := rfl
  have hcause (ho : ¬ own) := State.poolFreeOp_refusal hh ho (Pool.check_of_not_owns hh ho)
  rw [exec_poolTake_of_reaches htake, exec_poolGive_of_reaches hgive, exec_poolFree_of_reaches hfree, hfld, hdest]
  refine ⟨⟨_, rfl, fun hnew => ⟨?_, fun hg => ?_, fun hg => ?_⟩, fun word hword => ?_⟩,
    ⟨_, rfl, s.poolGiveOp_keeps hh m dest⟩, ⟨_, rfl, fun ho => (hcause ho).1⟩,
    fun ho => congrArg _ (State.poolFreeOp_of_owns hh ho),
    fun ho hd => congrArg _ (State.poolGiveOp_of_owns hh ho hd), fun ho => ⟨_, rfl, hcause ho⟩⟩
  · have hword : takeWord (s.take i).2 = if got then 2 ^ 31 + tget 0 n l.gen * 2048 + n else 0 := by
      by_cases hg : got
      · rw [if_pos hg, (State.take_of_grants hg).1, Nat.add_assoc]; rfl
      · rw [if_neg hg, (State.take_of_not_grants hg).1]; rfl
    rw [State.answerRead_access_replies, State.readTake_of_new i hnew, ← hword]
    simp [answer, State.capOf]
  · obtain ⟨-, howner, hcount⟩ := State.take_of_grants hg
    rw [State.readTake_of_new i hnew]
    exact ⟨howner, hcount⟩
  · obtain ⟨-, hkept⟩ := State.take_of_not_grants hg
    rw [State.readTake_of_new i hnew]
    exact hkept
  · rw [State.readTake_of_stored i hword]; rfl

end Sys2Proof.Machine
end
section
/-! SUPPORT. The hardware queues: who reaches their registers, and what a push does (R177 to R179, R183 to R188). -/

namespace Sys2Proof.Machine
open Sys2Proof.Safety

/-! ### Who reaches the registers of a queue -/

/-- The registers of the bench queues are closed to others than the firmware (R177). -/
theorem State.mayReach_benchQueue (s : State) {w : Who} {q off n : Nat} (hlo : 256 ≤ q) (hhi : q < 272)
    (hoff : off < 0x40) (hid : w.id ≠ 0x400) (write : Bool) : s.mayReach w (queueReg q off) n write = false := by
  obtain ⟨ha, ha'⟩ : 0x10094000 ≤ queueReg q off ∧ queueReg q off < 0x10094400 := by
    unfold queueReg
    omega
  have hblock : queueReg q off / 0x10000 = 0x1009 := by omega
  have hbench : benchQueues (queueReg q off) 4 = true := by
    simp only [benchQueues, touches, Bool.and_eq_true, decide_eq_true_eq]
    omega
  have hbell : inDoorbell (queueReg q off) 4 = false := by
    simp only [inDoorbell, within, Bool.and_eq_false_iff, decide_eq_false_iff_not]
    omega
  have hbar : inBar0 (queueReg q off) = false := by
    simp only [inBar0, within, Bool.or_eq_false_iff, Bool.and_eq_false_iff, decide_eq_false_iff_not]
    omega
  simp [State.mayReach, ownPath, regOpen, hblock, hbench, hbell, hbar, hid]

/-- A write of a bench queue's register by another than the firmware ends in error (R177). -/
theorem State.regWrite_benchQueue {s : State} {w : Who} {q off : Nat} (hlo : 256 ≤ q) (hhi : q < 272)
    (hoff : off < 0x40) (hid : w.id ≠ 0x400) (hlive : s.live = true) (hgen : s.genuine w = true)
    (f : State → State) : s.regWrite w (queueReg q off) 4 f = s.writeFails w := by
  simp [State.regWrite, hlive, hgen, State.mayReach_benchQueue s hlo hhi hoff hid]

/-- What is no master does nothing (R16). -/
theorem State.regWrite_of_unlisted {s : State} {w : Who} (h : inOwnerTable w.id = false) (a n : Nat)
    (f : State → State) : s.regWrite w a n f = s := by
  simp [State.regWrite, State.genuine, h]

/-! ### The push rows -/

section PushRows
variable {s : State} {q : Nat} (hq : q < 304) (e : W32)
include hq

theorem exec_queuePush_master (o : Nat) : exec (.queuePush q e (.master o)) s =
    .next (s.regWrite (s.whoIs o) (queueReg q 0) 4 fun u => u.writePush q e o) := by
  simp [exec, execQueuePush, ok, hq]

theorem exec_queuePush_of_reaches {o : Nat} (h : s.reaches (s.whoIs o) (queueReg q 0) 4 true = true) :
    exec (.queuePush q e (.master o)) s = .next (s.writePush q e o) := by
  rw [exec_queuePush_master hq, State.regWrite_of_reaches h]

theorem exec_queuePush_gate {p : Nat} (h : s.gated p = true) (n : Nat) :
    exec (.queuePush q e (.gate p n)) s = .next (s.gatePush q p n e).1 := by
  simp [exec, execQueuePush, ok, hq, byTile, when_, h]

theorem exec_queuePush_hardware (o : Nat) : exec (.queuePush q e (.hardware o)) s =
    .next (when_ (s.live && inOwnerTable o) (s.hwPush q e o).1 s) := by
  simp [exec, execQueuePush, ok, hq]

end PushRows

/-! ### Room and notices -/

theorem inc16_eq_min (n : Nat) : inc16 n = min 0xFFFF (n + 1) := by
  unfold inc16 satInc
  split <;> omega

theorem Queue.isEmpty_iff (v : Queue) : v.isEmpty = true ↔ v.fill = [] ∧ v.drain = [] := by
  simp [Queue.isEmpty]

theorem Queue.hasRoom_iff (v : Queue) :
    v.hasRoom = true ↔ (v.fill = [] ∧ v.drain = []) ∨ v.fill.length < 32 := by
  simp [Queue.hasRoom, Queue.isEmpty_iff]

/-- The notices of a change that leaves QUEUE_EN as it is (R186, R225). -/
theorem State.queueNotices_of_en {a b : Queue} (h : b.en = a.en) (s : State) (q : Nat) :
    s.queueNotices q a b =
      if q < 256 then
        (s.setQueue q b).fireIf (a.sticky &&& a.en == 0 && b.sticky &&& a.en != 0) (492 + q / 16)
      else if 272 ≤ q then (s.setQueue q b).fireIf (b.sticky &&& ~~~ a.sticky &&& a.en != 0) (q - 48)
      else s.setQueue q b := by
  have hsummary : (!a.summary && b.summary) = (a.sticky &&& a.en == 0 && b.sticky &&& a.en != 0) := by
    simp [Queue.summary, h, bne]
  unfold State.queueNotices
  split_ifs with hcourt hrecord
  · rw [hsummary]
  · rw [h, show 224 + (q - 272) = q - 48 by omega]
  · rfl

theorem Queue.push_of_empty {v : Queue} (h : v.fill = [] ∧ v.drain = []) (now : Nat) (e : W32) :
    v.push now e =
      { v with drain := [e], pushCnt := v.pushCnt + 1, sticky := v.sticky ||| 1, tailStart := some now } :=
  if_pos (v.isEmpty_iff.mpr h)

theorem Queue.push_of_nonempty {v : Queue} (h : ¬ (v.fill = [] ∧ v.drain = [])) (now : Nat) (e : W32) :
    v.push now e = { v with
      fill := v.fill ++ [e], pushCnt := v.pushCnt + 1
      sticky := if v.fill.length = 31 then v.sticky ||| 2 else v.sticky } := by
  have hn : ¬ v.isEmpty = true := mt v.isEmpty_iff.mp h
  simp [Queue.push, hn]

@[simp] theorem Queue.push_en (v : Queue) (now : Nat) (e : W32) : (v.push now e).en = v.en := by
  unfold Queue.push; split <;> rfl

/-! ### Pushes by register, gate operation and hardware -/

section Writers
variable (s : State) {q : Nat} (e : W32)

theorem State.writePush_court (hq : q < 256) (o : Nat) : s.writePush q e o = (s.qPush q e).1 := if_pos hq

theorem State.writePush_firmware (q : Nat) : s.writePush q e 0x400 = (s.qPush q e).1 := by simp [State.writePush]

theorem State.writePush_record {o : Nat} (hq : 272 ≤ q) (ho : o ≠ 0x400) : s.writePush q e o = s.qRefuse q := by
  simp [State.writePush, ho, hq, show ¬ q < 256 by omega]

theorem State.gatePush_court (hq : q < 256) (p n : Nat) :
    (s.gatePush q p n e).1 = (s.qPush q e).1.setQResult q p (mkResult (b2n (s.qPush q e).2) 0 n) := by
  simp [State.gatePush, hq, show ¬ 256 ≤ q by omega]

theorem State.gatePush_bench (hlo : 256 ≤ q) (hhi : q < 272) (p n : Nat) : (s.gatePush q p n e).1 = s := by
  simp [State.gatePush, hlo, hhi]

theorem State.gatePush_record (hq : 272 ≤ q) (p n : Nat) :
    (s.gatePush q p n e).1 = (s.qRefuse q).setQResult q p (mkResult 0 0 n) := by
  simp [State.gatePush, show ¬ q < 272 by omega, show ¬ q < 256 by omega, b2n]

theorem State.hwPush_of_room (h : (s.queue q).hasRoom = true) (hgive : (s.queue q).give = false) (o : Nat) :
    (s.hwPush q e o).1 = (s.qPush q e).1 := by
  simp [State.hwPush, h, hgive]

theorem State.hwPush_of_full (h : ¬ (s.queue q).hasRoom = true) (o : Nat) : (s.hwPush q e o).1 = s := by
  simp [State.hwPush, h]

end Writers

theorem State.qPush_of_room {s : State} {q : Nat} (h : (s.queue q).hasRoom = true) (e : W32) :
    s.qPush q e =
      (if (s.queue q).isEmpty && (s.queue q).line10 && decide ((s.queue q).owner < 1024) then
        (s.queueNotices q (s.queue q) ((s.queue q).push s.now e)).setLineL (s.queue q).owner 10
      else s.queueNotices q (s.queue q) ((s.queue q).push s.now e), true) := if_pos h

theorem State.qPush_of_full {s : State} {q : Nat} (h : ¬ (s.queue q).hasRoom = true) (e : W32) :
    s.qPush q e = (s.qRefuse q, false) := if_neg h

/-- Settles O19: the state after an accepted push and after a refused one, then each row by who pushes. -/
theorem queuePushes : Obligations.QueuePushes := by
  unfold Obligations.QueuePushes
  intro q p n o e s hq may v empty room w r noted taken recorded
  have hnoted (b : Queue) (hen : b.en = v.en) : s.queueNotices q v b = noted b := State.queueNotices_of_en hen s q
  have hpushed : v.push s.now e = w := by
    by_cases hempty : empty
    · simp only [w, if_pos hempty]; exact Queue.push_of_empty hempty s.now e
    · simp only [w, if_neg hempty]; exact Queue.push_of_nonempty hempty s.now e
  have hrefused : s.qRefuse q = noted r := by
    rw [show r = { v with sticky := v.sticky ||| 16, refCnt := inc16 v.refCnt } by simp only [r, inc16_eq_min]]
    exact hnoted _ rfl
  have htaken (hroom : room) : s.qPush q e = (taken, true) := by
    rw [State.qPush_of_room (v.hasRoom_iff.mpr hroom), hnoted _ (Queue.push_en ..), hpushed]
    simp [taken, empty, Queue.isEmpty_iff, v, and_assoc]
  have hfull (hroom : ¬ room) : s.qPush q e = (noted r, false) := by
    rw [State.qPush_of_full (mt v.hasRoom_iff.mp hroom), hrefused]
  have hmaster (hm : may o) := exec_queuePush_of_reaches hq e hm
  refine ⟨fun ho => ⟨?_, ?_⟩, fun hcourt => ⟨fun hroom => ⟨fun hg => ?_, fun hm => ?_⟩,
    fun hroom => ⟨fun hg => ?_, fun hm => ?_⟩⟩, fun hunit => ⟨fun hm hroom => ?_, fun hm hroom => ?_,
    fun ho hrecord hm => ?_, fun ho hbench hlive hgen => ?_, fun hg => ?_⟩, fun hroom hgive hlive ho => ?_,
    fun hroom => ?_⟩
  · rw [exec_queuePush_master hq, State.regWrite_of_unlisted ho]
  · simp [exec_queuePush_hardware hq, when_, ho]
  · rw [exec_queuePush_gate hq e hg, State.gatePush_court s e hcourt, htaken hroom]; rfl
  · rw [hmaster hm, State.writePush_court s e hcourt, htaken hroom]
  · rw [exec_queuePush_gate hq e hg, State.gatePush_court s e hcourt, hfull hroom]; rfl
  · rw [hmaster hm, State.writePush_court s e hcourt, hfull hroom]
  · rw [exec_queuePush_of_reaches hq e hm, State.writePush_firmware, htaken hroom]
  · rw [exec_queuePush_of_reaches hq e hm, State.writePush_firmware, hfull hroom]
  · rw [hmaster hm, State.writePush_record s e hrecord ho, hrefused]
  · rw [exec_queuePush_master hq, State.regWrite_benchQueue hunit hbench (by decide) ho hlive hgen]
  · rw [exec_queuePush_gate hq e hg]
    split_ifs with hrecord
    · rw [State.gatePush_record s e hrecord, hrefused]; rfl
    · rw [State.gatePush_bench s e hunit (by omega)]
  · rw [exec_queuePush_hardware hq, State.hwPush_of_room s e (v.hasRoom_iff.mpr hroom) hgive, htaken hroom]
    simp [when_, hlive, ho]
  · rw [exec_queuePush_hardware hq, State.hwPush_of_full s e (mt v.hasRoom_iff.mp hroom)]
    simp [when_]

end Sys2Proof.Machine
end
section
/-! SUPPORT. The hardware queues: pops, flushes and the tail timer (R176, R180 to R185, R188). -/

namespace Sys2Proof.Machine
open Sys2Proof.Safety

/-! ### The rows -/

section PopRows
variable {s : State} {q : Nat} (hq : q < 304)
include hq

theorem exec_queuePop_gate {p : Nat} (h : s.gated p = true) (n : Nat) :
    exec (.queuePop q (.gate p n)) s = .next (s.gatePop q p n).1 := by
  simp [exec, execQueuePop, ok, hq, byTile, when_, h]

/-- A bench queue does not answer gate operations (R177). -/
theorem exec_queuePop_gate_bench (hbench : 256 ≤ q ∧ q < 272) (p n : Nat) :
    exec (.queuePop q (.gate p n)) s = .next s := by
  simp [exec, execQueuePop, ok, hq, byTile, when_, State.gatePop, hbench]

theorem exec_queuePop_access (i p tag : Nat) : exec (.queuePop q (.access i p tag)) s =
    .next (s.regRead (.access i p tag) s.device (queueReg q 8) 8 fun u => u.readPop q i p tag) := by
  simp [exec, execQueuePop, ok, hq]

theorem exec_queuePop_of_reaches {i p tag : Nat}
    (h : s.reaches (s.askerWho (.access i p tag) s.device) (queueReg q 8) 8 false = true) :
    exec (.queuePop q (.access i p tag)) s =
      .next ((s.readPop q i p tag).1.answerRead (.access i p tag) (s.readPop q i p tag).2 8) := by
  rw [exec_queuePop_access hq, State.regRead_of_reaches h]

theorem exec_queuePop_bench {i p tag : Nat} (hbench : 256 ≤ q ∧ q < 272) (hi : i ≠ 0x400) (hlive : s.live = true)
    (hgen : s.genuine (s.askerWho (.access i p tag) s.device) = true) :
    exec (.queuePop q (.access i p tag)) s = .next (s.failRead (.access i p tag) 0x82) := by
  have hreach := s.mayReach_benchQueue (w := s.askerWho (.access i p tag) s.device) (off := 8) (n := 8)
    hbench.1 hbench.2 (by decide) hi false
  rw [exec_queuePop_access hq]
  simp [State.regRead, hlive, hgen, hreach]

theorem exec_flush (o : Nat) : exec (.flush o q) s =
    .next (s.regWrite (s.whoIs o) (queueReg q 0x10) 4 fun u => u.qFlush q) := by
  simp [exec, execFlush, ok, hq]

theorem exec_queueTailExpiry_of_due {t : Nat} (hlive : s.live = true) (hstart : (s.queue q).tailStart = some t)
    (hlimit : (s.queue q).tailLimit ≠ 0) (hdue : (s.queue q).tailLimit ≤ (s.now - t) / 200) :
    exec (.queueTailExpiry q) s = .next (s.queueNotices q (s.queue q)
      (if (s.queue q).isEmpty then { s.queue q with tailStart := none }
       else if (s.queue q).tailSwap && (s.queue q).drain.isEmpty then
         { s.queue q with tailStart := none, sticky := (s.queue q).sticky ||| 8
                          drain := (s.queue q).fill, fill := [] }
       else { s.queue q with tailStart := none, sticky := (s.queue q).sticky ||| 8 })) := by
  simp [exec, execQueueTailExpiry, ok, when_, hq, hlive, hstart, hlimit, State.usSince, hdue]

end PopRows

/-! ### What a pop takes -/

/-- The bank that a pop reads: the drain bank, or the fill bank where that is empty (R180). -/
def Queue.readBank (v : Queue) : List W32 := if v.drain = [] then v.fill else v.drain

/-- The fill bank that a pop leaves behind the bank it reads. -/
def Queue.restBank (v : Queue) : List W32 := if v.drain = [] then [] else v.fill

theorem Queue.pop_of_empty {v : Queue} (h : v.readBank = []) (now : Nat) : v.pop now = (v, none) := by
  have hdrain : v.drain = [] := by
    by_contra hne
    simp [Queue.readBank, hne] at h
  have hfill : v.fill = [] := by simpa [Queue.readBank, hdrain] using h
  simp [Queue.pop, hdrain, hfill]

theorem Queue.pop_of_cons {v : Queue} {e : W32} {r : List W32} (h : v.readBank = e :: r) (now : Nat) :
    v.pop now =
      (if r = [] then
        { v with drain := if v.restBank.length = 32 then v.restBank else []
                 fill := if v.restBank.length = 32 then [] else v.restBank
                 popCnt := v.popCnt + 1, tailStart := some now, sticky := v.sticky ||| 4 }
      else { v with drain := r, fill := v.restBank, popCnt := v.popCnt + 1, tailStart := some now },
        some (v.popCnt.toNat % 128 * 2 + 1, e)) := by
  by_cases hdrain : v.drain = []
  · have hfill : v.fill = e :: r := by simpa [Queue.readBank, hdrain] using h
    rcases eq_or_ne r [] with rfl | hr <;> simp [Queue.pop, Queue.restBank, *]
  · have hbank : v.drain = e :: r := by simpa [Queue.readBank, hdrain] using h
    rcases eq_or_ne r [] with rfl | hr
    · by_cases hlen : v.fill.length = 32 <;> simp [Queue.pop, Queue.restBank, hbank, hlen]
    · simp [Queue.pop, Queue.restBank, hbank, hr]

theorem Queue.pop_en (v : Queue) (now : Nat) : (v.pop now).1.en = v.en := by
  cases h : v.readBank with
  | nil => rw [Queue.pop_of_empty h]
  | cons e r => rw [Queue.pop_of_cons h]; split <;> rfl

/-! ### The action read of QUEUE_POP (R176) -/

section ReadPop
variable {s : State} {q i p tag : Nat}

theorem State.readPop_of_stored {word : Nat} (h : storedRead (s.queue q).lastReads i p tag = some word) :
    s.readPop q i p tag = (s, word) := by
  simp [State.readPop, h]

theorem State.readPop_of_new (h : storedRead (s.queue q).lastReads i p tag = none) :
    s.readPop q i p tag = ((s.qPop q).1.setQueue q { (s.qPop q).1.queue q with
      lastReads := noteRead ((s.qPop q).1.queue q).lastReads i p tag (popWord (s.qPop q).2) },
      popWord (s.qPop q).2) := by
  simp [State.readPop, h]

end ReadPop

/-! ### The state after a pop -/

section Popped
variable {s u : State} {q : Nat}

theorem State.qPop_capOf {o : Option (Nat × W32)} (h : s.qPop q = (u, o)) (i : Nat) : u.capOf i = s.capOf i := by
  have hgates : (s.qPop q).1.gates = s.gates := by
    simp only [State.qPop, State.queueNotices]
    split_ifs <;> simp
  rw [h] at hgates
  rw [State.capOf, hgates, State.capOf]

/-- The answer to a reader whose cap is known. -/
theorem State.answerRead_of_capOf {i cap : Nat} (h : u.capOf i = cap) (p tag word n : Nat) :
    u.answerRead (.access i p tag) word n = { u with replies := u.replies ++
      [{ kind := .done, dstPhys := p, dstId := i, tag := tag, cap := if p < 1088 then cap else 0
         status := 0, data := leBytes word n, badCrc := false }] } := by
  simp [State.answerRead, State.readerOf, h]

/-- A pop by a gate operation leaves its record (R177, R181). -/
theorem State.gatePop_of_some {t : Nat} {e : W32} (hbench : ¬ (256 ≤ q ∧ q < 272)) (h : s.qPop q = (u, some (t, e)))
    (p n : Nat) : (s.gatePop q p n).1 = u.setQResult q p (mkResult t e n) := by
  simp [State.gatePop, hbench, h]

theorem State.gatePop_of_none (hbench : ¬ (256 ≤ q ∧ q < 272)) (h : s.qPop q = (u, none)) (p n : Nat) :
    (s.gatePop q p n).1 = u.setQResult q p (mkResult 0 0 n) := by
  simp [State.gatePop, hbench, h]

end Popped

/-- Settles O20: the queue after a pop by the bank it reads, then each row by who pops. -/
theorem queuePopsAndUpkeep : Obligations.QueuePopsAndUpkeep := by
  unfold Obligations.QueuePopsAndUpkeep
  intro q p n i tag o s hq asker mayPop bench v d f noted popped t recorded answered noteRead
  have hnoted (b : Queue) (hen : b.en = v.en) : s.queueNotices q v b = noted b := State.queueNotices_of_en hen s q
  have htook {e : W32} {r : List W32} (hd : d = e :: r) : s.qPop q = (noted (popped r), some (t, e)) := by
    have hpop : v.pop s.now = (popped r, some (t, e)) := Queue.pop_of_cons hd s.now
    simp only [State.qPop]
    rw [hnoted _ (Queue.pop_en ..), hpop]
  have hempty (hd : d = []) : s.qPop q = (noted v, none) := by
    have hpop : v.pop s.now = (v, none) := Queue.pop_of_empty hd s.now
    simp only [State.qPop]
    rw [hnoted _ (Queue.pop_en ..), hpop]
  have hread {u : State} {o : Option (Nat × W32)} (hm : mayPop) (hnew : storedRead v.lastReads i p tag = none)
      (hpop : s.qPop q = (u, o)) :
      exec (.queuePop q (.access i p tag)) s = .next (answered (noteRead u (popWord o)) (popWord o)) := by
    rw [exec_queuePop_of_reaches hq hm, State.readPop_of_new hnew, hpop]
    exact congrArg _ (State.answerRead_of_capOf (u := noteRead u (popWord o)) (State.qPop_capOf hpop i) ..)
  refine ⟨fun hbench => ⟨exec_queuePop_gate_bench hq hbench p n,
      fun hi hlive hgen => exec_queuePop_bench hq hbench hi hlive hgen, fun ho hlive hgen => ?_⟩,
    fun e r hd => ⟨fun hn hg => ?_, fun hm hnew => hread hm hnew (htook hd)⟩,
    fun hd => ⟨fun hn hg => ?_, fun hm hnew => hread hm hnew (hempty hd)⟩,
    fun word hm hword => ?_, fun hm => ?_, fun t0 hlive hstart hlimit hdue => ?_⟩
  · rw [exec_flush hq, State.regWrite_benchQueue hbench.1 hbench.2 (by decide) ho hlive hgen]
  · rw [exec_queuePop_gate hq hg, State.gatePop_of_some hn (htook hd)]; rfl
  · rw [exec_queuePop_gate hq hg, State.gatePop_of_none hn (hempty hd)]; rfl
  · rw [exec_queuePop_of_reaches hq hm, State.readPop_of_stored hword]; rfl
  · rw [exec_flush hq, State.regWrite_of_reaches hm]; rfl
  · rw [exec_queueTailExpiry_of_due hq hlive hstart hlimit hdue, hnoted]
    · simp only [Queue.isEmpty_iff, Bool.and_eq_true, List.isEmpty_iff]
      rfl
    · split_ifs <;> rfl

end Sys2Proof.Machine
end
section
/-! SUPPORT. The dispatchers: requests, starts, ends and expired cancels of a court's slots (R189 to R197). -/

namespace Sys2Proof.Machine
open Sys2Proof.Safety

/-! ### The rows -/

section DispRows
variable {s : State} {c n : Nat} (hc : c < 16) (hn : n < 256)
include hc

theorem exec_dispTdone_of_gated {p : Nat} (h : s.gated p = true) (op : Nat) :
    exec (.dispTdone c p op) s = .next (s.gateTdone c p op).1 := by
  have hp : p < 1088 := by simp [State.gated] at h; exact h.1.2
  simp [exec, execDispTdone, ok, hc, hp, byTile, when_, h]

include hn

theorem exec_dispReady_gate {p : Nat} (h : s.gated p = true) (op : Nat) (beaten : Bool) :
    exec (.dispReady c n ⟨.gate p op, beaten⟩) s =
      .next (if beaten then s.gateBeaten c p op else s.gateReady c n p op).1 := by
  simp [exec, execDispReady, ok, hc, hn, byTile, when_, h]

theorem exec_dispReady_of_reaches {i p tag : Nat}
    (h : s.reaches (s.askerWho (.access i p tag) s.device) (dispReg c 0x50) 4 true = true) (beaten : Bool) :
    exec (.dispReady c n ⟨.access i p tag, beaten⟩) s =
      .next (if beaten then s.beaten c else (s.dReady c n).1) := by
  simp [exec, execDispReady, ok, hc, hn, State.regWrite_of_reaches h]

theorem exec_dispCancel_gate {p : Nat} (h : s.gated p = true) (op : Nat) :
    exec (.dispCancel c n (.gate p op) false) s = .next (s.gateCancel c n p op).1 := by
  simp [exec, execDispCancel, ok, hc, hn, byTile, when_, h]

theorem exec_dispCancel_of_reaches {i p tag : Nat}
    (h : s.reaches (s.askerWho (.access i p tag) s.device) (dispReg c 0x54) 4 true = true) (raced : Bool) :
    exec (.dispCancel c n (.access i p tag) raced) s =
      .next (((if raced then s.beaten c else s).dCancel c n).1) := by
  simp [exec, execDispCancel, ok, hc, hn, State.regWrite_of_reaches h]

end DispRows

/-! ### Slots -/

@[simp] theorem Disp.setSlot_slot (d : Disp) (n : Nat) (v : Slot) : (d.setSlot n v).slot n = v := by
  simp [Disp.setSlot, Disp.slot]

theorem Disp.setSlot_slot_ne (d : Disp) (v : Slot) {n k : Nat} (h : k ≠ n) : (d.setSlot n v).slot k = d.slot k :=
  tget_tput_ne _ v h _

@[simp] theorem Disp.setSlot_expired (d : Disp) (n : Nat) (v : Slot) : (d.setSlot n v).expired = d.expired := rfl

/-- Slot `n` holds `v` in `e`, and every other slot is as it was in `d`. -/
def Disp.Moves (d e : Disp) (n : Nat) (v : Slot) : Prop := (∀ k ≠ n, e.slot k = d.slot k) ∧ e.slot n = v

theorem Disp.setSlot_moves (d : Disp) (n : Nat) (v : Slot) : d.Moves (d.setSlot n v) n v :=
  ⟨fun _ h => d.setSlot_slot_ne v h, d.setSlot_slot n v⟩

theorem Disp.makeReady_moves (d : Disp) (n : Nat) : d.Moves (d.makeReady n) n
    { d.slot n with st := .ready, tile := 0xFF, again := false, readyAt := d.readySeq } :=
  Disp.setSlot_moves { d with readySeq := d.readySeq + 1 } n _

/-- TDONE of the tile that runs slot `n` (R118, R189). -/
theorem Disp.tdone_moves {d : Disp} {pos n : Nat} (h : d.runs pos = some n) : d.Moves (d.tdone pos) n
    (if (d.slot n).st = .running ∧ (d.slot n).again = true then
      { d.slot n with st := .ready, tile := 0xFF, again := false, readyAt := d.readySeq }
    else { d.slot n with st := .idle, tile := 0xFF, again := false }) := by
  unfold Disp.tdone
  simp only [h, Bool.and_eq_true, beq_iff_eq]
  split_ifs
  · exact d.makeReady_moves n
  · exact d.setSlot_moves n _

/-! ### Requests -/

section Requests
variable {s : State} {c n : Nat}

theorem State.dReady_fst (s : State) (c n : Nat) : (s.dReady c n).1 = s.setDisp c ((s.disp c).ready n).1 := rfl

/-- A ready request is applied unless its slot is Unset or Cancelling (R189). -/
theorem Disp.ready_applied (d : Disp) (n : Nat) :
    (d.ready n).2 = !decide ((d.slot n).st = .unset ∨ (d.slot n).st = .cancelling) := by
  cases h : (d.slot n).st <;> simp [Disp.ready, h]

theorem Disp.ready_of_discarded {d : Disp} (h : (d.slot n).st = .unset ∨ (d.slot n).st = .cancelling) :
    (d.ready n).1 = d.discarded := by
  rcases h with h | h <;> simp [Disp.ready, h]

theorem Disp.ready_of_idle {d : Disp} (h : (d.slot n).st = .idle) : (d.ready n).1 = d.makeReady n := by
  simp [Disp.ready, h]

theorem Disp.ready_of_running {d : Disp} (h : (d.slot n).st = .running) :
    (d.ready n).1 = d.setSlot n { d.slot n with again := true } := by
  simp [Disp.ready, h]

/-- A cancel request is applied unless its slot is Unset (R189). -/
theorem Disp.cancel_applied (d : Disp) (n now : Nat) : (d.cancel n now).2.1 = !decide ((d.slot n).st = .unset) := by
  cases h : (d.slot n).st <;> simp [Disp.cancel, h]

theorem State.dCancel_of_running (h : ((s.disp c).slot n).st = .running) : (s.dCancel c n).1 =
    (s.setDisp c ((s.disp c).setSlot n { (s.disp c).slot n with
      st := .cancelling, again := false, cancelAt := s.now, cancelLimit := (s.disp c).cancelLimit })).setLineL
        (64 * c + ((s.disp c).slot n).tile) 15 := by
  simp [State.dCancel, Disp.cancel, h]

theorem State.dCancel_of_ready (h : ((s.disp c).slot n).st = .ready) : (s.dCancel c n).1 =
    s.setDisp c ((s.disp c).setSlot n ((s.disp c).slot n).idle) := by
  simp [State.dCancel, Disp.cancel, h]

theorem State.beaten_eq (s : State) (c : Nat) : s.beaten c = s.setDisp c { s.disp c with
    discard := min 0xFFFF ((s.disp c).discard + 1), race := min 0xFFFF ((s.disp c).race + 1) } := by
  simp [State.beaten, Disp.discarded, inc16_eq_min]

/-- TDONE of a physical tile of the court that runs a slot. -/
theorem State.dTdone_of_court {p k : Nat} (hid : s.identOf p = some k) (hk : k / 64 = c) :
    s.dTdone c p = s.setDisp c ((s.disp c).tdone (k % 64)) := by
  simp [State.dTdone, hid, hk]

end Requests

/-! ### Records of gate operations -/

@[simp] theorem State.setDResult_disp (s : State) (c p : Nat) (r : Result) : (s.setDResult c p r).disp c =
    { s.disp c with results := tput p r (s.disp c).results } := by
  simp [State.setDResult]

theorem State.gateBeaten_disp (s : State) (c p op : Nat) : (s.gateBeaten c p op).1.disp c =
    { s.disp c with
      discard := min 0xFFFF ((s.disp c).discard + 1), race := min 0xFFFF ((s.disp c).race + 1)
      results := tput p (mkResult 0 0 op) (s.disp c).results } := by
  simp [State.gateBeaten, State.beaten_eq]

theorem State.gateReady_result (s : State) (c n p op : Nat) : tget {} p ((s.gateReady c n p op).1.disp c).results =
    mkResult (b2n ((s.disp c).ready n).2) 0 op := by
  simp [State.gateReady, State.dReady]

theorem State.gateCancel_result (s : State) (c n p op : Nat) : tget {} p ((s.gateCancel c n p op).1.disp c).results =
    mkResult (b2n ((s.disp c).cancel n s.now).2.1) 0 op := by
  simp [State.gateCancel, State.dCancel]

theorem State.gateTdone_disp (s : State) {c p k : Nat} (hid : s.identOf p = some k) (hk : k / 64 = c) (op : Nat) :
    (s.gateTdone c p op).1.disp c = { (s.disp c).tdone (k % 64) with
      results := tput p (mkResult 1 0 op) ((s.disp c).tdone (k % 64)).results } := by
  simp [State.gateTdone, State.dTdone_of_court hid hk]

theorem b2n_not_decide (c : Prop) [Decidable c] : b2n (!decide c) = if c then 0 else 1 := by
  by_cases h : c <;> simp [b2n, h]

/-! ### Lines of a duplex tile -/

/-- A line set for a logical tile is pending at the physical tile that serves it. -/
theorem State.setLineL_pend {s : State} {t q : Nat} (h : s.physOf t = some q) (line : Nat) :
    ((s.setLineL t line).tile q).pend = (s.tile q).pend ||| (1 <<< line) := by
  have hline (u : State) (p : Nat) : ((u.setLine p line).tile q).pend =
      if q = p then (u.tile q).pend ||| (1 <<< line) else (u.tile q).pend := by
    split_ifs with hp
    · subst hp; simp [State.setLine, Tile.raise]
    · simp [State.setLine, State.setTile_tile_ne _ _ hp]
  simp only [State.setLineL, h]
  split
  · rw [hline, hline, if_pos rfl]
    split_ifs
    · rw [BitVec.or_assoc, BitVec.or_self]
    · rfl
  · rw [hline, if_pos rfl]

/-! ### Start and restart -/

/-- The start of a task at a physical tile (R192). -/
theorem State.startTask_tile (s : State) (p n : Nat) : (s.startTask p n).tile p =
    { s.tile p with task := BitVec.ofNat 8 n, taskRun := true, pend := (s.tile p).pend ||| 0x0200 } := by
  simp [State.startTask, State.wakeCourt_tile, Tile.raise]

@[simp] theorem State.startTask_disp (s : State) (p n c : Nat) : (s.startTask p n).disp c = s.disp c := by
  unfold State.startTask State.wakeCourt
  dsimp only
  split_ifs <;> rfl

theorem State.restartedTile_taskRun (s : State) (p : Nat) (started : Bool) :
    (s.restartedTile p started).taskRun = false := by
  unfold State.restartedTile
  dsimp only
  split_ifs
  · rfl
  · rfl
  · obtain ⟨_, _, _, hk⟩ := s.applyKept_frame (s.identOf p) ((s.tile p).cold s.now)
    rw [hk]
    rfl

theorem State.dropTask_expired (s : State) (l c : Nat) :
    ((s.dropTask l).disp c).expired = (s.disp c).expired := by
  unfold State.dropTask
  dsimp only
  split
  · rfl
  · by_cases hc : c = l / 64
    · subst hc; simp
    · rw [State.setDisp_disp_ne _ _ hc]

theorem State.restartTile_expired (s : State) (p c : Nat) :
    ((s.restartTile p).disp c).expired = (s.disp c).expired := by
  unfold State.restartTile
  dsimp only
  split
  · rfl
  · exact State.dropTask_expired (s.setTile p _) _ c

theorem State.restartTile_tile (s : State) (p : Nat) :
    (s.restartTile p).tile p = s.restartedTile p ((s.tile p).run != .stopped) := by
  obtain ⟨d, hd⟩ := s.restartTile_frame p
  rw [hd]
  exact s.setTile_tile p _

/-! ### Dispatch and expiry -/

theorem exec_dispatch_of_pick {s : State} {c : Nat} (hc : c < 16) (hen : (s.disp c).en = true)
    (hfrost : s.dbgBlock.frost = false) (hrun : s.running = true) {a : Nat × Nat} (hpick : s.pick c = some a)
    (hduplex : tfind? (64 * c + a.2) s.gates.duplex = none) {q : Nat} (hq : s.physOf (64 * c + a.2) = some q) :
    exec (.dispatch c) s = .next ((s.setDisp c
      { (s.disp c).setSlot a.1 { (s.disp c).slot a.1 with st := .running, tile := a.2, again := false } with
        lastPos := a.2 }).startTask q a.1) := by
  obtain ⟨hst, hhold⟩ : s.power.st = .run ∧ s.inHold = false := by simpa [State.running] using hrun
  simp [exec, execDispatch, ok, when_, hc, hen, hfrost, hst, hhold, hpick, hq, hduplex]

theorem exec_cancelLimitExpiry_of_due {s : State} {c n q : Nat} (hc : c < 16) (hn : n < 256) (hlive : s.live = true)
    (hst : ((s.disp c).slot n).st = .cancelling) (hfrost : s.dbgBlock.frost = false)
    (hdue : ((s.disp c).slot n).cancelLimit ≤ (s.now - ((s.disp c).slot n).cancelAt) / 200)
    (hq : s.physOf (64 * c + ((s.disp c).slot n).tile) = some q) :
    exec (.cancelLimitExpiry c n) s = .next (((s.setDisp c
      { (s.disp c).setSlot n ((s.disp c).slot n).idle with expired := inc16 (s.disp c).expired }).restartTile q).report
        23 q (64 * c + ((s.disp c).slot n).tile) 3 n) := by
  simp [exec, execCancelLimitExpiry, ok, when_, hc, hn, hlive, hst, hfrost, hdue, hq, State.usSince]

/-- Settles O22: each request by its slot's state, then the start, the end and the expired cancel of a task. -/
theorem dispatcherOperations : Obligations.DispatcherOperations := by
  unfold Obligations.DispatcherOperations
  intro c n p op i tag s hc hn hg hr hcan d v slotIs others ready lost told cancel
  have hready := exec_dispReady_of_reaches hc hn hr false
  have hcancel := exec_dispCancel_of_reaches hc hn hcan false
  have hmoved {t : State} {e : Disp} {w : Slot} (ht : t.disp c = e) (h : d.Moves e n w) : others t ∧ slotIs t w := by
    subst ht
    exact h
  refine ⟨fun hst => ?_, ?_, ⟨_, exec_dispReady_gate hc hn hg op true, ?_, ?_, ?_, ?_⟩,
    ⟨_, exec_dispReady_gate hc hn hg op false, ?_⟩, ⟨_, exec_dispCancel_gate hc hn hg op, ?_⟩, ?_,
    fun hst => ⟨_, hready, ?_⟩, fun hst => ⟨_, hready, ?_⟩, fun hst => ⟨_, hcancel, ?_⟩, fun hst => ⟨_, hcancel, ?_⟩,
    fun k hid hk hruns => ⟨_, exec_dispTdone_of_gated hc hg op, ?_⟩,
    fun hen hfrost hrun a hpick ha hduplex q hq => ⟨_, exec_dispatch_of_pick hc hen hfrost hrun hpick hduplex hq, ?_⟩,
    fun hst hdue hfrost q hq => ⟨_, exec_cancelLimitExpiry_of_due hc hn ?_ hst hfrost hdue hq, ?_⟩⟩
  · simp [ready, hready, State.dReady_fst, Disp.ready_of_discarded hst, Disp.discarded, inc16_eq_min, d]
  · rw [exec_dispReady_of_reaches hc hn hr true, if_pos rfl, State.beaten_eq]
  · simp [told, State.gateBeaten_disp, mkResult]
  · simp [State.gateBeaten_disp, d]
  · simp [State.gateBeaten_disp, lost, d]
  · simp [State.gateBeaten_disp, lost, d]
  · simp only [told, Bool.false_eq_true, if_false, State.gateReady_result, Disp.ready_applied, b2n_not_decide]
    rw [mkResult, apply_ite (BitVec.ofNat 8)]; rfl
  · simp only [told, State.gateCancel_result, Disp.cancel_applied, b2n_not_decide]
    rw [mkResult, apply_ite (BitVec.ofNat 8)]; rfl
  · have hlost : lost.reaches (lost.askerWho (.access i p tag) lost.device) (dispReg c 0x54) 4 true = true := hcan
    rw [exec_dispCancel_of_reaches hc hn hcan true, exec_dispCancel_of_reaches hc hn hlost false, if_pos rfl,
      State.beaten_eq]
    rfl
  · rw [if_neg (by decide), State.dReady_fst, Disp.ready_of_idle hst]
    obtain ⟨hothers, hslot⟩ := hmoved (s.setDisp_disp c _) (d.makeReady_moves n)
    exact ⟨hothers, hslot, by rw [State.setDisp_disp]; rfl⟩
  · rw [if_neg (by decide), State.dReady_fst, Disp.ready_of_running hst]
    exact hmoved (s.setDisp_disp c _) (d.setSlot_moves n _)
  · rw [if_neg (by decide), State.dCancel_of_ready hst]
    exact hmoved (s.setDisp_disp c _) (d.setSlot_moves n v.idle)
  · rw [if_neg (by decide), State.dCancel_of_running hst]
    obtain ⟨hothers, hslot⟩ := hmoved ((State.setLineL_disp (s.setDisp c _) _ 15 c).trans (s.setDisp_disp c _))
      (d.setSlot_moves n _)
    exact ⟨hothers, hslot, fun q hq => State.setLineL_pend (s := s.setDisp c _) hq 15⟩
  · have hdisp := s.gateTdone_disp hid hk (p := p) op
    obtain ⟨hothers, hslot⟩ := hmoved hdisp (Disp.tdone_moves hruns)
    exact ⟨hothers, hslot, by rw [hdisp, tget_tput_self]; rfl⟩
  · subst ha
    obtain ⟨hothers, hslot⟩ := d.setSlot_moves a.1 { v with st := .running, tile := a.2, again := false }
    refine ⟨fun k hk => ?_, ?_, ?_, State.startTask_tile (s.setDisp c _) q a.1⟩
    · rw [State.startTask_disp, State.setDisp_disp]; exact hothers k hk
    · simp only [slotIs, State.startTask_disp, State.setDisp_disp]; exact hslot
    · rw [State.startTask_disp, State.setDisp_disp]
  · simp [State.gated] at hg
    exact hg.1.1
  · obtain ⟨hmem, hcold, -⟩ := (s.setDisp c _).restartedTile_cold q ((s.tile q).run != .stopped)
    simp only [State.report_disp, State.report_tile, State.restartTile_expired, State.restartTile_tile,
      State.setDisp_disp]
    exact ⟨inc16_eq_min _, State.restartedTile_taskRun .., hcold.1, hmem⟩

end Sys2Proof.Machine
end

section
/-! SUPPORT. The memories of the block and what PoolSound speaks of (R198): the relation of two states that hold the
same, and what the basic updates of a state leave as it is. -/

namespace Sys2Proof.Machine
open Sys2Proof.Safety

/-- The memory of every physical tile. -/
def memsOf (m : Table Tile) (p : Nat) : Mem := (tget {} p m).mem

/-- The two areas of every mailbox. -/
def areasOf (m : Table Mbx) (k : Nat) : Mem × Mem := ((tget {} k m).cmd, (tget {} k m).resp)

/-- From `s` to `t` no memory changes, nor the pool's free list and generations. -/
@[simp] abbrev State.Same (s t : State) : Prop :=
  memsOf t.tiles = memsOf s.tiles ∧ t.bufMem = s.bufMem ∧ t.mgmt.mem = s.mgmt.mem ∧ t.engine.mem = s.engine.mem ∧
    areasOf t.mgmt.boxes = areasOf s.mgmt.boxes ∧ t.boot.bank0 = s.boot.bank0 ∧ t.boot.bank1 = s.boot.bank1 ∧
    t.boot.copy0 = s.boot.copy0 ∧ t.boot.copy1 = s.boot.copy1 ∧ t.boot.slots = s.boot.slots ∧
    t.host.table = s.host.table ∧ t.pool.freed = s.pool.freed ∧ t.pool.gen = s.pool.gen

theorem State.tile_mem (s : State) (p : Nat) : (s.tile p).mem = memsOf s.tiles p := (rfl)

theorem State.mbx_cmd (s : State) (m : Nat) : (s.mbx m).cmd = (areasOf s.mgmt.boxes m).1 := (rfl)

theorem State.mbx_resp (s : State) (m : Nat) : (s.mbx m).resp = (areasOf s.mgmt.boxes m).2 := (rfl)

theorem State.Same.rfl {s : State} : s.Same s := by simp

theorem State.Same.trans {s t u : State} (h : s.Same t) (h' : t.Same u) : s.Same u := by simp_all

@[simp] theorem State.setTile_mems {s : State} {p : Nat} {t : Tile} (h : t.mem = (s.tile p).mem) :
    memsOf (s.setTile p t).tiles = memsOf s.tiles := by
  funext q
  by_cases hq : q = p
  · subst hq; rw [← State.tile_mem, State.setTile_tile, h, State.tile_mem]
  · rw [← State.tile_mem, State.setTile_tile_ne _ _ hq, State.tile_mem]

@[simp] theorem State.setMbx_areas {s : State} {m : Nat} {v : Mbx} (h : v.cmd = (s.mbx m).cmd)
    (h' : v.resp = (s.mbx m).resp) : areasOf (s.setMbx m v).mgmt.boxes = areasOf s.mgmt.boxes := by
  funext k
  by_cases hk : k = m
  · subst hk; exact Prod.ext (by rw [← State.mbx_cmd, State.setMbx_mbx, h, State.mbx_cmd])
      (by rw [← State.mbx_resp, State.setMbx_mbx, h', State.mbx_resp])
  · exact Prod.ext (by rw [← State.mbx_cmd, State.setMbx_mbx_ne _ _ hk, State.mbx_cmd])
      (by rw [← State.mbx_resp, State.setMbx_mbx_ne _ _ hk, State.mbx_resp])

@[simp] theorem State.setMbx_mem (s : State) (m : Nat) (v : Mbx) : (s.setMbx m v).mgmt.mem = s.mgmt.mem := (rfl)

@[simp] theorem State.setStream_mem (s : State) (k : Nat) (v : Stream) : (s.setStream k v).engine.mem = s.engine.mem :=
  rfl

@[simp] theorem memsOf_ite (c : Prop) [Decidable c] (a b : Table Tile) :
    memsOf (if c then a else b) = if c then memsOf a else memsOf b := apply_ite ..

@[simp] theorem State.ite_stored (c : Prop) [Decidable c] (a b : State) :
    (if c then a else b).bufMem = (if c then a.bufMem else b.bufMem) ∧
      (if c then a else b).mgmt.mem = (if c then a.mgmt.mem else b.mgmt.mem) ∧
      (if c then a else b).engine.mem = (if c then a.engine.mem else b.engine.mem) ∧
      areasOf (if c then a else b).mgmt.boxes = (if c then areasOf a.mgmt.boxes else areasOf b.mgmt.boxes) ∧
      (if c then a else b).boot.bank0 = (if c then a.boot.bank0 else b.boot.bank0) ∧
      (if c then a else b).boot.bank1 = (if c then a.boot.bank1 else b.boot.bank1) ∧
      (if c then a else b).boot.copy0 = (if c then a.boot.copy0 else b.boot.copy0) ∧
      (if c then a else b).boot.copy1 = (if c then a.boot.copy1 else b.boot.copy1) ∧
      (if c then a else b).boot.slots = (if c then a.boot.slots else b.boot.slots) ∧
      (if c then a else b).host.table = (if c then a.host.table else b.host.table) ∧
      (if c then a else b).pool.freed = (if c then a.pool.freed else b.pool.freed) ∧
      (if c then a else b).pool.gen = (if c then a.pool.gen else b.pool.gen) := by
  split <;> simp

@[simp] theorem foldl_same {α : Type} (f : State → α → State) (h : ∀ (u : State) a, u.Same (f u a)) (l : List α)
    (s : State) : s.Same (l.foldl f s) := by
  induction l generalizing s with
  | nil => exact State.Same.rfl
  | cons a r ih => exact (h s a).trans (ih _)

/-- Replacing every tile by one with the same memory changes no memory. -/
theorem memsOf_map {f : Nat × Tile → Tile} (h : ∀ e, (f e).mem = e.2.mem) (m : Table Tile) :
    memsOf (m.map fun e => (e.1, f e)) = memsOf m := by
  funext p
  unfold memsOf
  induction m with
  | nil => rfl
  | cons e r ih =>
    simp only [List.map_cons, tget]
    split
    · exact h _
    · exact ih

end Sys2Proof.Machine
end

section
/-! SUPPORT. Sound stores: what MemoriesCanonical and PoolSound ask of each memory and each list, and the ways in which
an operation keeps them. -/

namespace Sys2Proof.Machine
open Sys2Proof.Safety

/-! ### Sound stores -/

/-- A memory whose unlisted bytes read 0x00 is in its canonical form. -/
def BytesOk (m : Mem) : Prop := Memory.wf 0 m = true

/-- A memory of flash is in its canonical form. -/
def FlashOk (m : Mem) : Prop := Memory.wf 0xFF m = true

/-- Every tile's memory is in its canonical form. -/
def TilesOk (f : Nat → Mem) : Prop := ∀ p, BytesOk (f p)

/-- Both areas of every mailbox are in their canonical form. -/
def AreasOk (f : Nat → Mem × Mem) : Prop := ∀ m, BytesOk (f m).1 ∧ BytesOk (f m).2

/-- Every stored tile image is in its canonical form. -/
def SlotsOk (m : Table Mem) : Prop := ∀ e ∈ m, BytesOk e.2

/-- A free list names buffers that exist. -/
def FreedOk (l : List Nat) : Prop := ∀ b ∈ l, b < 2048

/-- Generations stay below 32. -/
def GenOk (m : Table Nat) : Prop := ∀ e ∈ m, e.2 < 32

@[simp] theorem bytesOk_nil : BytesOk [] := (rfl)

@[simp] theorem tilesOk_nil : TilesOk (memsOf []) := fun _ => bytesOk_nil

@[simp] theorem areasOk_nil : AreasOk (areasOf []) := fun _ => ⟨bytesOk_nil, bytesOk_nil⟩

@[simp] theorem freedOk_nil : FreedOk [] := nofun

@[simp] theorem genOk_nil : GenOk [] := nofun

@[simp] theorem bytesOk_ite (c : Prop) [Decidable c] (a b : Mem) :
    BytesOk (if c then a else b) = if c then BytesOk a else BytesOk b := apply_ite ..

@[simp] theorem flashOk_ite (c : Prop) [Decidable c] (a b : Mem) :
    FlashOk (if c then a else b) = if c then FlashOk a else FlashOk b := apply_ite ..

@[simp] theorem tilesOk_ite (c : Prop) [Decidable c] (a b : Nat → Mem) :
    TilesOk (if c then a else b) = if c then TilesOk a else TilesOk b := apply_ite ..

@[simp] theorem areasOk_ite (c : Prop) [Decidable c] (a b : Nat → Mem × Mem) :
    AreasOk (if c then a else b) = if c then AreasOk a else AreasOk b := apply_ite ..

@[simp] theorem slotsOk_ite (c : Prop) [Decidable c] (a b : Table Mem) :
    SlotsOk (if c then a else b) = if c then SlotsOk a else SlotsOk b := apply_ite ..

@[simp] theorem freedOk_ite (c : Prop) [Decidable c] (a b : List Nat) :
    FreedOk (if c then a else b) = if c then FreedOk a else FreedOk b := apply_ite ..

@[simp] theorem genOk_ite (c : Prop) [Decidable c] (a b : Table Nat) :
    GenOk (if c then a else b) = if c then GenOk a else GenOk b := apply_ite ..

theorem BytesOk.write {m : Mem} (h : BytesOk m) (a : Nat) (bs : List Byte) : BytesOk (memWrite 0 m a bs) :=
  memWrite_wf h

theorem BytesOk.put {m : Mem} (h : BytesOk m) (a : Nat) (v : Byte) : BytesOk (memPut 0 a v m) := memPut_wf h

theorem FlashOk.write {m : Mem} (h : FlashOk m) (a : Nat) (bs : List Byte) : FlashOk (memWrite 0xFF m a bs) :=
  memWrite_wf h

/-- What a table lists after a write is the new value or was listed before. -/
theorem forall_mem_tput {α : Type} {P : α → Prop} {m : Table α} (h : ∀ e ∈ m, P e.2) {v : α} (hv : P v) (k : Nat) :
    ∀ e ∈ tput k v m, P e.2 := by
  induction m with
  | nil => simpa [tput] using hv
  | cons e r ih =>
    obtain ⟨i, w⟩ := e
    obtain ⟨hw, hr⟩ := List.forall_mem_cons.mp h
    unfold tput
    (repeat' split) <;> simp only [List.forall_mem_cons]
    · exact ⟨hv, hr⟩
    · exact ⟨hv, hw, hr⟩
    · exact ⟨hw, ih hr⟩

theorem tfind?_forall {α : Type} {P : α → Prop} {m : Table α} (h : ∀ e ∈ m, P e.2) {k : Nat} {v : α}
    (hv : tfind? k m = some v) : P v := by
  induction m with
  | nil => cases hv
  | cons e r ih =>
    obtain ⟨hw, hr⟩ := List.forall_mem_cons.mp h
    unfold tfind? at hv
    split at hv
    · exact Option.some.inj hv ▸ hw
    · exact ih hr hv

/-! ### The ways in which an operation keeps them -/

/-- From `s` to `t` nothing of them changes but the port buffers and the pool, which stay sound. -/
@[simp] abbrev State.OnlyBuffers (s t : State) : Prop :=
  memsOf t.tiles = memsOf s.tiles ∧ t.mgmt.mem = s.mgmt.mem ∧ t.engine.mem = s.engine.mem ∧
    areasOf t.mgmt.boxes = areasOf s.mgmt.boxes ∧ t.boot.bank0 = s.boot.bank0 ∧ t.boot.bank1 = s.boot.bank1 ∧
    t.boot.copy0 = s.boot.copy0 ∧ t.boot.copy1 = s.boot.copy1 ∧ t.boot.slots = s.boot.slots ∧
    t.host.table = s.host.table ∧ (BytesOk s.bufMem → BytesOk t.bufMem) ∧
    (FreedOk s.pool.freed → FreedOk t.pool.freed) ∧ (GenOk s.pool.gen → GenOk t.pool.gen)

/-- From `s` to `t` nothing of them changes but the tiles' memories, which stay canonical. -/
@[simp] abbrev State.OnlyTiles (s t : State) : Prop :=
  (TilesOk (memsOf s.tiles) → TilesOk (memsOf t.tiles)) ∧ t.bufMem = s.bufMem ∧ t.mgmt.mem = s.mgmt.mem ∧
    t.engine.mem = s.engine.mem ∧ areasOf t.mgmt.boxes = areasOf s.mgmt.boxes ∧ t.boot.bank0 = s.boot.bank0 ∧
    t.boot.bank1 = s.boot.bank1 ∧ t.boot.copy0 = s.boot.copy0 ∧ t.boot.copy1 = s.boot.copy1 ∧
    t.boot.slots = s.boot.slots ∧ t.host.table = s.host.table ∧ t.pool.freed = s.pool.freed ∧ t.pool.gen = s.pool.gen

/-- Each of them that is sound in `s` is sound in `t`; tiles and stored images, which are copied into each other, are
taken together. -/
@[simp] abbrev State.Keeps (s t : State) : Prop :=
  (TilesOk (memsOf s.tiles) ∧ SlotsOk s.boot.slots → TilesOk (memsOf t.tiles) ∧ SlotsOk t.boot.slots) ∧
    (BytesOk s.bufMem → BytesOk t.bufMem) ∧ (BytesOk s.mgmt.mem → BytesOk t.mgmt.mem) ∧
    (BytesOk s.engine.mem → BytesOk t.engine.mem) ∧ (AreasOk (areasOf s.mgmt.boxes) → AreasOk (areasOf t.mgmt.boxes)) ∧
    (FlashOk s.boot.bank0 → FlashOk t.boot.bank0) ∧ (FlashOk s.boot.bank1 → FlashOk t.boot.bank1) ∧
    (FlashOk s.boot.copy0 → FlashOk t.boot.copy0) ∧ (FlashOk s.boot.copy1 → FlashOk t.boot.copy1) ∧
    (BytesOk s.host.table → BytesOk t.host.table) ∧ (FreedOk s.pool.freed → FreedOk t.pool.freed) ∧
    (GenOk s.pool.gen → GenOk t.pool.gen)

variable {s t u : State}

theorem State.Same.onlyBuffers (h : s.Same t) : s.OnlyBuffers t := by simp_all

theorem State.Same.onlyTiles (h : s.Same t) : s.OnlyTiles t := by simp_all

theorem State.OnlyBuffers.keeps (h : s.OnlyBuffers t) : s.Keeps t := by simp_all

theorem State.OnlyTiles.keeps (h : s.OnlyTiles t) : s.Keeps t := by simp_all

theorem State.Same.keeps (h : s.Same t) : s.Keeps t := h.onlyTiles.keeps

theorem State.OnlyBuffers.trans (h : s.OnlyBuffers t) (h' : t.OnlyBuffers u) : s.OnlyBuffers u := by simp_all

theorem State.OnlyTiles.trans (h : s.OnlyTiles t) (h' : t.OnlyTiles u) : s.OnlyTiles u := by simp_all

theorem State.Keeps.trans (h : s.Keeps t) (h' : t.Keeps u) : s.Keeps u := by simp_all

theorem State.OnlyBuffers.trans_same (h : s.OnlyBuffers t) (h' : t.Same u) : s.OnlyBuffers u := h.trans h'.onlyBuffers

theorem State.OnlyTiles.trans_same (h : s.OnlyTiles t) (h' : t.Same u) : s.OnlyTiles u := h.trans h'.onlyTiles

theorem State.Keeps.trans_same (h : s.Keeps t) (h' : t.Same u) : s.Keeps u := h.trans h'.keeps

theorem State.Same.trans_onlyBuffers (h : s.Same t) (h' : t.OnlyBuffers u) : s.OnlyBuffers u := h.onlyBuffers.trans h'

theorem State.Same.trans_onlyTiles (h : s.Same t) (h' : t.OnlyTiles u) : s.OnlyTiles u := h.onlyTiles.trans h'

theorem State.Same.trans_keeps (h : s.Same t) (h' : t.Keeps u) : s.Keeps u := h.keeps.trans h'

theorem State.OnlyBuffers.rfl : s.OnlyBuffers s := State.Same.rfl.onlyBuffers

theorem State.OnlyTiles.rfl : s.OnlyTiles s := State.Same.rfl.onlyTiles

theorem State.Keeps.rfl : s.Keeps s := State.Same.rfl.keeps

theorem State.keeps_memories (h : s.Keeps t) (hs : MemoriesCanonical s) : MemoriesCanonical t := by
  obtain ⟨tiles, buf, mgmt, engine, areas, bank0, bank1, copy0, copy1, table, -, -⟩ := h
  obtain ⟨hm, hbuf, hmgmt, hengine, hareas, h0, h1, c0, c1, htable, hslots⟩ := hs
  obtain ⟨htiles', hslots'⟩ := tiles ⟨hm, hslots⟩
  exact ⟨htiles', buf hbuf, mgmt hmgmt, engine hengine, areas hareas, bank0 h0, bank1 h1, copy0 c0, copy1 c1,
    table htable, hslots'⟩

theorem State.keeps_pool (h : s.Keeps t) (hs : PoolSound s.pool) : PoolSound t.pool := by
  obtain ⟨-, -, -, -, -, -, -, -, -, -, freed, gen⟩ := h
  exact ⟨freed hs.1, gen hs.2⟩

theorem foldl_onlyBuffers {α : Type} {f : State → α → State} (h : ∀ (u : State) a, u.OnlyBuffers (f u a)) (l : List α)
    (s : State) : s.OnlyBuffers (l.foldl f s) :=
  List.foldlRecOn (motive := s.OnlyBuffers) l f State.Same.rfl.onlyBuffers fun u hu a _ => hu.trans (h u a)

theorem foldl_onlyTiles {α : Type} {f : State → α → State} (h : ∀ (u : State) a, u.OnlyTiles (f u a)) (l : List α)
    (s : State) : s.OnlyTiles (l.foldl f s) :=
  List.foldlRecOn (motive := s.OnlyTiles) l f State.Same.rfl.onlyTiles fun u hu a _ => hu.trans (h u a)

theorem foldl_keeps {α : Type} {f : State → α → State} (h : ∀ (u : State) a, u.Keeps (f u a)) (l : List α)
    (s : State) : s.Keeps (l.foldl f s) :=
  List.foldlRecOn (motive := s.Keeps) l f State.Keeps.rfl fun u hu a _ => hu.trans (h u a)

/-! ### Basic writes -/

theorem TilesOk.tile (h : TilesOk (memsOf s.tiles)) (p : Nat) : BytesOk (s.tile p).mem := h p

theorem State.setTile_ok (h : TilesOk (memsOf s.tiles)) {t : Tile} (ht : BytesOk t.mem) (p : Nat) :
    TilesOk (memsOf (s.setTile p t).tiles) := fun q => by
  rw [← State.tile_mem]
  by_cases hq : q = p
  · subst hq; rwa [State.setTile_tile]
  · rw [State.setTile_tile_ne _ _ hq]; exact h q

theorem State.setTile_only {p : Nat} {t : Tile} (h : BytesOk (s.tile p).mem → BytesOk t.mem) :
    s.OnlyTiles (s.setTile p t) := by
  simpa using fun hs : TilesOk (memsOf s.tiles) => State.setTile_ok hs (h (hs p)) p

theorem State.setMbx_ok (h : AreasOk (areasOf s.mgmt.boxes)) {m : Nat} {v : Mbx} (hc : BytesOk v.cmd)
    (hr : BytesOk v.resp) : AreasOk (areasOf (s.setMbx m v).mgmt.boxes) := fun k => by
  rw [← State.mbx_cmd, ← State.mbx_resp]
  by_cases hk : k = m
  · subst hk; rw [State.setMbx_mbx]; exact ⟨hc, hr⟩
  · rw [State.setMbx_mbx_ne _ _ hk]; exact h k

theorem State.setMbx_keeps {m : Nat} {v : Mbx} (hc : BytesOk (s.mbx m).cmd → BytesOk v.cmd)
    (hr : BytesOk (s.mbx m).resp → BytesOk v.resp) : s.Keeps (s.setMbx m v) := by
  simpa +contextual using fun hs : AreasOk (areasOf s.mgmt.boxes) => State.setMbx_ok hs (hc (hs m).1) (hr (hs m).2)

end Sys2Proof.Machine
end

section
/-! SUPPORT. The memory of one tile: the operations that leave it, and those that keep its canonical form. -/

namespace Sys2Proof.Machine
open Sys2Proof.Safety

variable {t u : Tile}

@[simp] theorem Tile.raise_mem (t : Tile) (l : Nat) : (t.raise l).mem = t.mem := (rfl)

@[simp] theorem Tile.setD_mem (t : Tile) (r v) : (t.setD r v).mem = t.mem := (rfl)

@[simp] theorem Tile.wr_mem (t : Tile) (w r v) : (t.wr w r v).mem = t.mem := by cases w <;> rfl

@[simp] theorem Tile.wrF_mem (t : Tile) (w r v) : (t.wrF w r v).mem = t.mem := by cases w <;> rfl

@[simp] theorem Tile.setP_mem (t : Tile) (r v) : (t.setP r v).mem = t.mem := (rfl)

@[simp] theorem Tile.setG_mem (t : Tile) (r v) : (t.setG r v).mem = t.mem := by
  unfold Tile.setG; split <;> rfl

@[simp] theorem Tile.retire_mem (t : Tile) : t.retire.mem = t.mem := by rw [Tile.retire_eq]; rfl

@[simp] theorem Tile.seq_mem (n t : Tile) (len : Nat) : (n.seq t len).mem = n.mem := Tile.retire_mem _

@[simp] theorem Tile.jumpTo_mem (n : Tile) (pc : W16) : (n.jumpTo pc).mem = n.mem := Tile.retire_mem _

@[simp] theorem Tile.freshen_mem (t : Tile) (a n) : (t.freshen a n).mem = t.mem := (rfl)

@[simp] theorem Tile.finish_mem (t : Tile) (tag status) : (t.finish tag status).mem = t.mem := (rfl)

@[simp] theorem Tile.cold_mem (t : Tile) (now : Nat) : (t.cold now).mem = t.mem := (rfl)

@[simp] theorem Tile.commitEntry_mem (t : Tile) (e : Nat) : (t.commitEntry e).mem = t.mem := by
  unfold Tile.commitEntry; split <;> rfl

@[simp] theorem Tile.loadEntry_mem (t : Tile) (e us) : (t.loadEntry e us).mem = t.mem := Tile.commitEntry_mem ..

@[simp] theorem State.applyKept_mem (s : State) (l) (t : Tile) : (s.applyKept l t).mem = t.mem := by
  unfold State.applyKept
  split
  · rfl
  · exact List.foldlRecOn (motive := fun u : Tile => u.mem = t.mem) _ _ rfl fun u hu e _ => by simp [hu]

@[simp] theorem State.relevel_mem (s : State) (p) (t : Tile) : (s.relevel p t).mem = t.mem := by
  simp only [State.relevel]
  (repeat' split) <;> rfl

@[simp] theorem State.enableLevel_mem (s : State) (p) (t : Tile) : (s.enableLevel p t).mem = t.mem := by
  simp only [State.enableLevel]
  (repeat' split) <;> rfl

@[simp] theorem State.restartedTile_mem (s : State) (p started) : (s.restartedTile p started).mem = (s.tile p).mem := by
  unfold State.restartedTile
  (repeat' split) <;> simp

theorem Tile.store_ok (h : BytesOk t.mem) (a v) : BytesOk (t.store a v).mem := h.put _ _

theorem Tile.storeW_ok (h : BytesOk t.mem) (a v) : BytesOk (t.storeW a v).mem := Tile.store_ok (Tile.store_ok h _ _) _ _

theorem Tile.storeBytes_ok (h : BytesOk t.mem) (a bs) : BytesOk (t.storeBytes a bs).mem := Tile.storeBytes_wf h a bs

theorem Tile.netStore_ok (h : BytesOk t.mem) {a bs} (hu : t.netStore a bs = some u) : BytesOk u.mem := by
  unfold Tile.netStore at hu
  split at hu
  · cases hu
  · cases hu; exact Tile.storeBytes_ok h _ _

theorem Tile.ringPut_ok (h : BytesOk t.mem) {free entry} (hu : t.ringPut free entry = .wrote u) : BytesOk u.mem := by
  unfold Tile.ringPut at hu
  split at hu
  · cases hu
  · extract_lets size head used need pad base t1 at_ at hu
    split at hu
    · cases hu
    · split at hu
      · cases hu
      · rename_i v hv
        obtain rfl := RingRes.wrote.inj hu
        obtain ⟨w, hw, hv⟩ := Option.bind_eq_some_iff.mp hv
        have hwt : BytesOk w.mem := by
          simp only [t1] at hw
          split at hw
          · obtain rfl := Option.some.inj hw; exact h
          · exact Tile.netStore_ok h hw
        exact (Tile.netStore_ok hwt hv :)

theorem Tile.applyFlits_ok (h : BytesOk t.mem) (whole fuel n a bs) :
    BytesOk (t.applyFlits whole fuel n a bs).1.mem := by
  induction fuel generalizing t n a bs with
  | zero => exact h
  | succ fuel ih =>
    unfold Tile.applyFlits
    split
    · exact h
    · dsimp only
      split
      · exact h
      · exact ih (Tile.storeBytes_ok h _ _) _ _ _

theorem Tile.netWrite_ok (h : BytesOk t.mem) (a bs) : BytesOk (t.netWrite a bs).1.mem := by
  unfold Tile.netWrite
  dsimp only
  split <;> exact Tile.applyFlits_ok h _ _ _ _ _

theorem Tile.netBeats_ok (h : BytesOk t.mem) (a n bs) : BytesOk (t.netBeats a n bs).1.mem := by
  induction n generalizing t bs with
  | zero => exact h
  | succ n ih =>
    simp only [Tile.netBeats]
    split
    · exact ih (Tile.netWrite_ok h _ _) _
    · exact Tile.netWrite_ok h _ _

theorem Tile.readBack_ok (h : BytesOk t.mem) (a bs) : BytesOk (t.readBack a bs).1.mem := by
  unfold Tile.readBack
  rw [Tile.freshen_mem]
  refine List.foldlRecOn (motive := fun u : Tile => BytesOk u.mem) _ _ h fun u hu e _ => ?_
  dsimp only
  split
  · exact hu
  · exact Tile.store_ok hu _ _

end Sys2Proof.Machine
end

section
/-! SUPPORT. Operations of the model that change none of the memories, in the order of their definitions. -/

namespace Sys2Proof.Machine
open Sys2Proof.Safety

variable (s : State)

/-! ### Machine/Ops.lean -/

@[simp] theorem State.fireAll_same (ns) : s.Same (s.fireAll ns) := by simp [State.fireAll]

@[simp] theorem State.logAs_same (late source unit logical oldCap newCap action arg) :
    s.Same (s.logAs late source unit logical oldCap newCap action arg) := by
  simp [State.logAs]

/-! ### Machine/TileCore.lean -/

@[simp] theorem State.wakeCourt_same (c) : s.Same (s.wakeCourt c) := by simp [State.wakeCourt]

@[simp] theorem State.noteBad_same (p a) : s.Same (s.noteBad p a) := by simp [State.noteBad]

/-! ### Machine/Windows.lean -/

@[simp] theorem State.startIsland_same (i) : s.Same (s.startIsland i) := by simp [State.startIsland]

@[simp] theorem State.crossed_same (a) : s.Same (s.crossed a) := by
  unfold State.crossed
  (repeat' split) <;> simp

@[simp] theorem State.askWake_same (a) : s.Same (s.askWake a) := by
  unfold State.askWake
  (repeat' split) <;> simp

@[simp] theorem State.hostError_same : s.Same s.hostError := by simp [State.hostError]

@[simp] theorem State.crossFails_same (a) : s.Same (s.crossFails a) := by simp [State.crossFails]

@[simp] theorem State.answerRead_same (by_ v n) : s.Same (s.answerRead by_ v n) := by simp [State.answerRead]

@[simp] theorem State.failRead_same (by_ status) : s.Same (s.failRead by_ status) := by simp [State.failRead]

/-! ### Machine/Queues.lean -/

@[simp] theorem State.poolRefuse_same (cause op caller handle) : s.Same (s.poolRefuse cause op caller handle) := by
  simp [State.poolRefuse]

@[simp] theorem State.poolGiveOp_same (caller handle owner) : s.Same (s.poolGiveOp caller handle owner) := by
  simp [State.poolGiveOp]

@[simp] theorem State.queueNotices_same (q a b) : s.Same (s.queueNotices q a b) := by simp [State.queueNotices]

@[simp] theorem State.qRefuse_same (q) : s.Same (s.qRefuse q) := by simp [State.qRefuse]

@[simp] theorem State.qPop_same (q) : s.Same (s.qPop q).1 := by simp [State.qPop]

@[simp] theorem State.readPop_same (q srcId srcPhys tag) : s.Same (s.readPop q srcId srcPhys tag).1 := by
  unfold State.readPop
  (repeat' split) <;> simp

@[simp] theorem State.qFlush_same (q) : s.Same (s.qFlush q) := by simp [State.qFlush]

@[simp] theorem State.setQResult_same (q p r) : s.Same (s.setQResult q p r) := by simp [State.setQResult]

@[simp] theorem State.gatePop_same (q p opnum) : s.Same (s.gatePop q p opnum).1 := by simp [State.gatePop]

/-! ### Machine/Dispatcher.lean -/

@[simp] theorem State.dReady_same (c n) : s.Same (s.dReady c n).1 := by simp [State.dReady]

@[simp] theorem State.dTdone_same (c p) : s.Same (s.dTdone c p) := by
  unfold State.dTdone
  (repeat' split) <;> simp

@[simp] theorem State.setDResult_same (c p r) : s.Same (s.setDResult c p r) := by simp [State.setDResult]

@[simp] theorem State.gateReady_same (c n p opnum) : s.Same (s.gateReady c n p opnum).1 := by simp [State.gateReady]

@[simp] theorem State.beaten_same (c) : s.Same (s.beaten c) := by simp [State.beaten]

@[simp] theorem State.gateBeaten_same (c p opnum) : s.Same (s.gateBeaten c p opnum).1 := by simp [State.gateBeaten]

@[simp] theorem State.gateTdone_same (c p opnum) : s.Same (s.gateTdone c p opnum).1 := by simp [State.gateTdone]

@[simp] theorem State.dropTask_same (t) : s.Same (s.dropTask t) := by
  simp only [State.dropTask]
  (repeat' split) <;> simp

/-! ### Machine/Interface.lean -/

@[simp] theorem State.setDuplex_same (t d) : s.Same (s.setDuplex t d) := by simp [State.setDuplex]

@[simp] theorem State.setCatchUp_same (p d) : s.Same (s.setCatchUp p d) := by simp [State.setCatchUp]

@[simp] theorem State.noteBench_same (n) : s.Same (s.noteBench n) := by simp [State.noteBench]

@[simp] theorem State.fence_same (p) : s.Same (s.fence p) := by simp [State.fence]

@[simp] theorem State.absorb_same (p tag data) : s.Same (s.absorb p tag data) := by simp [State.absorb]

@[simp] theorem State.fly_same (m) : s.Same (s.fly m) := by simp [State.fly]

@[simp] theorem State.noteOutcome_same (p tag bs) : s.Same (s.noteOutcome p tag bs) := by
  unfold State.noteOutcome
  (repeat' split) <;> simp

@[simp] theorem State.noteFailure_same (p tag status) : s.Same (s.noteFailure p tag status) := by
  unfold State.noteFailure
  (repeat' split) <;> simp

@[simp] theorem State.noteDone_same (p tag) : s.Same (s.noteDone p tag) := by
  unfold State.noteDone
  (repeat' split) <;> simp

@[simp] theorem State.staleDrop_same (m court) : s.Same (s.staleDrop m court) := by simp [State.staleDrop]

/-! ### Machine/EventRouter.lean -/

@[simp] theorem State.confirmDelivery_same (n) : s.Same (s.confirmDelivery n) := by simp [State.confirmDelivery]

@[simp] theorem State.dropDelivery_same (n) : s.Same (s.dropDelivery n) := by simp [State.dropDelivery]

@[simp] theorem State.deliveryError_same (n status) : s.Same (s.deliveryError n status) := by
  simp [State.deliveryError]

@[simp] theorem State.deliveryRetry_same (n may) : s.Same (s.deliveryRetry n may) := by simp [State.deliveryRetry]

@[simp] theorem State.evrProt_same : s.Same s.evrProt := by simp [State.evrProt]

@[simp] theorem State.evrRefuse_same (cause master n) : s.Same (s.evrRefuse cause master n) := by
  simp [State.evrRefuse]

@[simp] theorem State.writeTgt_same (master n v) : s.Same (s.writeTgt master n v) := by simp [State.writeTgt]

@[simp] theorem State.writeFired_same (master w v) : s.Same (s.writeFired master w v) := by simp [State.writeFired]

@[simp] theorem State.writeHold_same (master g v) : s.Same (s.writeHold master g v) := by simp [State.writeHold]

/-! ### Machine/TimeUnit.lean -/

@[simp] theorem State.traceSync_same : s.Same s.traceSync := by simp [State.traceSync]

@[simp] theorem State.fireAlarm_same (k late stepped) : s.Same (s.fireAlarm k late stepped) := by
  simp [State.fireAlarm]

@[simp] theorem State.stepAlarms_same (old late) : s.Same (s.stepAlarms old late) := by simp [State.stepAlarms]

@[simp] theorem State.timeBad_same : s.Same s.timeBad := by simp [State.timeBad]

@[simp] theorem State.plainTick_same : s.Same s.plainTick := by simp [State.plainTick]

@[simp] theorem State.applyCommit_same (c) : s.Same (s.applyCommit c) := by
  simp only [State.applyCommit]
  (repeat' split) <;> simp

@[simp] theorem State.writeCommit_same (master code) : s.Same (s.writeCommit master code) := by
  simp [State.writeCommit]

@[simp] theorem State.writeRate_same (master v) : s.Same (s.writeRate master v) := by simp [State.writeRate]

@[simp] theorem State.startSlew_same (offset) : s.Same (s.startSlew offset) := by simp [State.startSlew]

@[simp] theorem State.alarmHeld_same : s.Same s.alarmHeld := by simp [State.alarmHeld]

@[simp] theorem State.writeAlmCtl_same (master k v) : s.Same (s.writeAlmCtl master k v) := by simp [State.writeAlmCtl]

@[simp] theorem State.writeAlm_same (master k off v) : s.Same (s.writeAlm master k off v) := by simp [State.writeAlm]

@[simp] theorem State.anchor_same : s.Same s.anchor := by simp [State.anchor]

@[simp] theorem State.carry_same : s.Same s.carry := by simp [State.carry]

@[simp] theorem State.sampleTime_same : s.Same s.sampleTime := by simp [State.sampleTime]

@[simp] theorem State.sampleAon_same (lag) : s.Same (s.sampleAon lag) := by simp [State.sampleAon]

/-! ### Machine/FieldIo.lean -/

@[simp] theorem State.fioRefuse_same (cause block master offset) :
    s.Same (s.fioRefuse cause block master offset) := by
  simp [State.fioRefuse]

@[simp] theorem State.seePad_same (n) : s.Same (s.seePad n) := by simp [State.seePad]

@[simp] theorem State.padChange_same (n mv) : s.Same (s.padChange n mv) := by simp [State.padChange]

@[simp] theorem State.captureEdge_same (n rising) : s.Same (s.captureEdge n rising) := by simp [State.captureEdge]

@[simp] theorem State.pinEdge_same (n) : s.Same (s.pinEdge n) := by simp [State.pinEdge]

@[simp] theorem State.mapPins_same (f : Nat → Pin → Pin) : s.Same (s.mapPins f) := by simp [State.mapPins]

@[simp] theorem State.safeAll_same (c) : s.Same (s.safeAll c) := by simp [State.safeAll]

@[simp] theorem State.safeEnd_same (c) : s.Same (s.safeEnd c) := by simp [State.safeEnd]

@[simp] theorem State.writePinCfg_same (master n w) : s.Same (s.writePinCfg master n w) := by simp [State.writePinCfg]

@[simp] theorem State.writePinBits_same (master w v set) : s.Same (s.writePinBits master w v set) := by
  simp [State.writePinBits]

@[simp] theorem State.writePinReg_same (master n off w) : s.Same (s.writePinReg master n off w) := by
  simp [State.writePinReg]

@[simp] theorem State.bankAt_same (b mv) : s.Same (s.bankAt b mv) := by simp [State.bankAt]

@[simp] theorem State.chainTo_same (n a) : s.Same (s.chainTo n a) := by simp [State.chainTo]

@[simp] theorem State.chainEvents_same (n t) : s.Same (s.chainEvents n t) := by
  simp only [State.chainEvents]
  refine foldl_same _ (fun u a => ?_) _ _
  (repeat' split) <;> simp

@[simp] theorem State.timerEvents_same (n t) : s.Same (s.timerEvents n t) := by simp [State.timerEvents]

@[simp] theorem State.capture_same (n) : s.Same (s.capture n) := by simp [State.capture]

@[simp] theorem State.writeShadow_same (master n reg v) : s.Same (s.writeShadow master n reg v) := by
  simp [State.writeShadow]

@[simp] theorem State.writeCnt_same (master n v) : s.Same (s.writeCnt master n v) := by simp [State.writeCnt]

@[simp] theorem State.writeCtl_same (master n v) : s.Same (s.writeCtl master n v) := by simp [State.writeCtl]

@[simp] theorem State.writeTmr_same (master n off v) : s.Same (s.writeTmr master n off v) := by
  simp only [State.writeTmr]
  (repeat' split) <;> simp

@[simp] theorem State.writeSerTx_same (master e v) : s.Same (s.writeSerTx master e v) := by simp [State.writeSerTx]

@[simp] theorem State.writeSerCtl_same (master e v) : s.Same (s.writeSerCtl master e v) := by simp [State.writeSerCtl]

@[simp] theorem State.writeSer_same (master e off v) : s.Same (s.writeSer master e off v) := by
  simp only [State.writeSer]
  (repeat' split) <;> simp

@[simp] theorem State.readSer_same (e) : s.Same (s.readSer e).1 := by simp [State.readSer]

@[simp] theorem State.serUnit_same (e u) : s.Same (s.serUnit e u) := by simp [State.serUnit]

/-! ### Machine/EngineIn.lean -/

@[simp] theorem State.notePushed_same (e) : s.Same (s.notePushed e) := by simp [State.notePushed]

/-! ### Machine/Engine.lean -/

@[simp] theorem State.tryExchange_same : s.Same s.tryExchange := by simp [State.tryExchange]

@[simp] theorem State.markMixed_same (k) : s.Same (s.markMixed k) := by simp [State.markMixed]

/-! ### Machine/Resets.lean -/

@[simp] theorem State.unpreempt_same (ch) : s.Same (s.unpreempt ch) := by simp [State.unpreempt]

@[simp] theorem State.chanReset_same (ch) : s.Same (s.chanReset ch) := by simp [State.chanReset]

@[simp] theorem State.safeRouted_same (func i) : s.Same (s.safeRouted func i) := by simp [State.safeRouted]

@[simp] theorem State.releasePin_same (n) : s.Same (s.releasePin n) := by simp [State.releasePin]

@[simp] theorem State.releaseTimer_same (n) : s.Same (s.releaseTimer n) := by simp [State.releaseTimer]

@[simp] theorem State.releaseSer_same (e) : s.Same (s.releaseSer e) := by simp [State.releaseSer]

@[simp] theorem State.releaseChan_same (ch) : s.Same (s.releaseChan ch) := by simp [State.releaseChan]

@[simp] theorem State.releaseAll_same (o) : s.Same (s.releaseAll o) := by simp [State.releaseAll]

@[simp] theorem State.endRequests_same (p : Msg → Bool) : s.Same (s.endRequests p) := by simp [State.endRequests]

@[simp] theorem State.endReached_same (p : Msg → Bool) : s.Same (s.endReached p) := by simp [State.endReached]

/-! ### Machine/Faults.lean -/

@[simp] theorem State.remap_same (t old new) : s.Same (s.remap t old new) := by simp [State.remap]

@[simp] theorem State.releaseLogical_same (t) : s.Same (s.releaseLogical t) := by simp [State.releaseLogical]

@[simp] theorem State.noSpare_same (t p) : s.Same (s.noSpare t p) := by simp [State.noSpare]

@[simp] theorem State.releaseHeld_same (d) : s.Same (s.releaseHeld d) := by
  simp only [State.releaseHeld]
  refine foldl_same _ (fun u a => ?_) _ _
  (repeat' split) <;> simp

@[simp] theorem State.reportTile_same (source p arg) : s.Same (s.reportTile source p arg) := by
  simp [State.reportTile]

@[simp] theorem State.portDies_same (p dead) : s.Same (s.portDies p dead) := by simp [State.portDies]

@[simp] theorem State.abortCrossing_same (i) : s.Same (s.abortCrossing i) := by simp [State.abortCrossing]

@[simp] theorem State.fenceMover_same (e) : s.Same (s.fenceMover e) := by simp [State.fenceMover]

/-! ### Machine/Pace.lean -/

@[simp] theorem State.pmb_same (cs) : s.Same (s.pmb cs) := by simp [State.pmb]

@[simp] theorem State.setVdd_same (mv) : s.Same (s.setVdd mv) := by simp [State.setVdd]

@[simp] theorem State.paceLoop_same (l) : s.Same (s.paceLoop l) := by simp [State.paceLoop]

@[simp] theorem State.tickRails_same : s.Same s.tickRails := by simp [State.tickRails]

@[simp] theorem State.mapEff_same (f : Court → Nat) : s.Same (s.mapEff f) := by simp [State.mapEff]

@[simp] theorem State.capDown_same : s.Same s.capDown := by simp [State.capDown]

@[simp] theorem State.capUp_same : s.Same s.capUp := by simp [State.capUp]

@[simp] theorem State.powerEstimate_same (mw) : s.Same (s.powerEstimate mw) := by simp [State.powerEstimate]

@[simp] theorem State.regulatorLost_same : s.Same s.regulatorLost := by simp [State.regulatorLost]

@[simp] theorem State.readStatus_same (fault) : s.Same (s.readStatus fault) := by simp [State.readStatus]

@[simp] theorem State.polled_same (vout iout temp) : s.Same (s.polled vout iout temp) := by simp [State.polled]

@[simp] theorem State.modeRead_same (mode) : s.Same (s.modeRead mode) := by simp [State.modeRead]

@[simp] theorem State.pmbFailed_same : s.Same s.pmbFailed := by simp [State.pmbFailed]

/-! ### Machine/Link.lean -/

@[simp] theorem State.setFabric_same (f) : s.Same (s.setFabric f) := by simp [State.setFabric]

@[simp] theorem State.pumpPort_same (p) : s.Same (s.pumpPort p) := by simp [State.pumpPort]

@[simp] theorem State.linkSend_same (p k) : s.Same (s.linkSend p k) := by simp [State.linkSend]

@[simp] theorem State.routeOut_same (inP k) : s.Same (s.routeOut inP k).1 := by simp [State.routeOut]

@[simp] theorem State.partDone_same (ftag status data) : s.Same (s.partDone ftag status data) := by
  simp only [State.partDone]
  (repeat' split) <;> simp

@[simp] theorem State.failPacket_same (k) : s.Same (s.failPacket k) := by simp [State.failPacket]

@[simp] theorem State.serveReq_same (p k) : s.Same (s.serveReq p k) := by
  unfold State.serveReq
  (repeat' split) <;> simp

@[simp] theorem State.hubAnswer_same (x st data) : s.Same (s.hubAnswer x st data) := by simp [State.hubAnswer]

@[simp] theorem State.hubDone_same (r) : s.Same (s.hubDone r) := by
  unfold State.hubDone
  (repeat' split) <;> simp

@[simp] theorem State.dropPort_same (p) : s.Same (s.dropPort p) := by simp [State.dropPort]

@[simp] theorem State.replayPort_same (p) : s.Same (s.replayPort p) := by simp [State.replayPort]

@[simp] theorem State.member_same (dest b) : s.Same (s.member dest b) := by simp [State.member]

@[simp] theorem State.tellSentOff_same (d) : s.Same (s.tellSentOff d) := by simp [State.tellSentOff]

@[simp] theorem State.sendLink_same (p nak) : s.Same (s.sendLink p nak) := by simp [State.sendLink]

@[simp] theorem State.tickLinks_same : s.Same s.tickLinks := by simp [State.tickLinks]

@[simp] theorem State.takePacket_same (p k) : s.Same (s.takePacket p k).1 := by simp [State.takePacket]

@[simp] theorem State.passOn_same (p k) : s.Same (s.passOn p k) := by simp [State.passOn]

/-! ### Machine/Members.lean -/

@[simp] theorem State.enableStream_same (k) : s.Same (s.enableStream k).1 := by simp [State.enableStream]

@[simp] theorem State.flood_same (inP ports k) : s.Same (s.flood inP ports k) := by simp [State.flood]

@[simp] theorem State.announce_same (k) : s.Same (s.announce k) := by simp [State.announce]

@[simp] theorem State.markOut_same (d) : s.Same (s.markOut d) := by simp [State.markOut]

@[simp] theorem State.fwLost_same (d announced own) : s.Same (s.fwLost d announced own) := by simp [State.fwLost]

@[simp] theorem State.fwRejoined_same (d own) : s.Same (s.fwRejoined d own) := by simp [State.fwRejoined]

@[simp] theorem State.fwNotice_same (src seq k) : s.Same (s.fwNotice src seq k) := by simp [State.fwNotice]

@[simp] theorem State.fwTables_same (t) : s.Same (s.fwTables t) := by simp [State.fwTables]

@[simp] theorem State.confirmTo_same (d number) : s.Same (s.confirmTo d number) := by simp [State.confirmTo]

@[simp] theorem State.fwSentOff_same (p) : s.Same (s.fwSentOff p) := by simp [State.fwSentOff]

@[simp] theorem State.syncTo_same (offset) : s.Same (s.syncTo offset) := by simp [State.syncTo]

@[simp] theorem State.acceptBeacon_same (p k residence) : s.Same (s.acceptBeacon p k residence) := by
  simp [State.acceptBeacon]

/-! ### Machine/Mailbox.lean -/

@[simp] theorem State.mbxForeign_same (m) : s.Same (s.mbxForeign m) := by simp [State.mbxForeign]

@[simp] theorem State.setMbxTarget_same (m tile) : s.Same (s.setMbxTarget m tile) := by
  unfold State.setMbxTarget
  (repeat' split) <;> simp

@[simp] theorem State.releaseMbx_same (m) : s.Same (s.releaseMbx m) := by simp [State.releaseMbx]

@[simp] theorem State.doorbell_same (m dev master v) : s.Same (s.doorbell m dev master v) := by simp [State.doorbell]

@[simp] theorem State.requestAbort_same (m status) : s.Same (s.requestAbort m status) := by simp [State.requestAbort]

@[simp] theorem State.writeAbort_same (m dev master v) : s.Same (s.writeAbort m dev master v) := by
  simp [State.writeAbort]

@[simp] theorem State.writeGive_same (m dev master v) : s.Same (s.writeGive m dev master v) := by
  simp [State.writeGive]

@[simp] theorem State.readMbxTake_same (m dev srcId srcPhys tag) :
    s.Same (s.readMbxTake m dev srcId srcPhys tag).1 := by
  simp only [State.readMbxTake]
  (repeat' split) <;> simp

/-! ### Machine/CmdCore.lean -/

@[simp] theorem State.giveRes_same (kind o i) : s.Same (s.giveRes kind o i) := by
  unfold State.giveRes
  (repeat' split) <;> simp

@[simp] theorem State.freeRes_same (kind i) : s.Same (s.freeRes kind i) := by
  unfold State.freeRes
  (repeat' split) <;> simp

/-! ### Machine/CmdUpdate.lean -/

@[simp] theorem State.setUpdateBox_same (b) : s.Same (s.setUpdateBox b) := by simp [State.setUpdateBox]

@[simp] theorem State.setCalBox_same (b) : s.Same (s.setCalBox b) := by simp [State.setCalBox]

/-! ### Machine/CmdFault.lean -/

@[simp] theorem State.retireLogical_same (u) : s.Same (s.retireLogical u) := by
  unfold State.retireLogical
  (repeat' split) <;> simp

/-! ### Machine/CmdEngine.lean -/

@[simp] theorem State.setModelBox_same (b) : s.Same (s.setModelBox b) := by simp [State.setModelBox]

@[simp] theorem State.join_same (m p) : s.Same (s.join m p) := by simp [State.join]

/-! ### Machine/Ports.lean -/

@[simp] theorem State.feedCount_same (f k) : s.Same (s.feedCount f k) := by simp [State.feedCount]

@[simp] theorem State.feedSend_same (f k) : s.Same (s.feedSend f k) := by simp [State.feedSend]

@[simp] theorem State.ptpFrame_same (f frame st) : s.Same (s.ptpFrame f frame st) := by
  simp only [State.ptpFrame]
  (repeat' split) <;> simp

@[simp] theorem State.arpFrame_same (f frame) : s.Same (s.arpFrame f frame) := by simp [State.arpFrame]

@[simp] theorem State.tickFeedTx_same (f) : s.Same (s.tickFeedTx f) := by simp [State.tickFeedTx]

@[simp] theorem State.closeHostWindows_same : s.Same s.closeHostWindows := by simp [State.closeHostWindows]

@[simp] theorem State.aerLog_same (v) : s.Same (s.aerLog v) := by simp [State.aerLog]

@[simp] theorem State.unsupported_same (a) : s.Same (s.unsupported a) := by simp [State.unsupported]

@[simp] theorem State.configWrite_same (w) : s.Same (s.configWrite w) := by
  unfold State.configWrite
  (repeat' split) <;> simp

@[simp] theorem State.dropSvc_same : s.Same s.dropSvc := by simp [State.dropSvc]

@[simp] theorem State.writeLog_same : s.Same s.writeLog := by simp [State.writeLog]

@[simp] theorem State.sendConsole_same : s.Same s.sendConsole := by simp [State.sendConsole]

@[simp] theorem State.tickLog_same : s.Same s.tickLog := by simp [State.tickLog]

/-! ### Machine/Power.lean -/

@[simp] theorem State.haltUnits_same (on) : s.Same (s.haltUnits on) := by simp [State.haltUnits]

@[simp] theorem State.sleepRails_same (off) : s.Same (s.sleepRails off) := by simp [State.sleepRails]

@[simp] theorem State.settleTime_same : s.Same s.settleTime := by
  unfold State.settleTime
  (repeat' split) <;> simp

@[simp] theorem State.wakeFrom_same (w) : s.Same (s.wakeFrom w) := by
  simp only [State.wakeFrom]
  (repeat' split) <;> simp

@[simp] theorem State.wakeRails_same : s.Same s.wakeRails := by simp [State.wakeRails]

@[simp] theorem State.endCycle_same : s.Same s.endCycle := by simp [State.endCycle]

@[simp] theorem State.fireConverted_same (old) : s.Same (s.fireConverted old) := by simp [State.fireConverted]

@[simp] theorem State.setS_same (i v) : s.Same (s.setS i v) := by simp [State.setS]

@[simp] theorem State.drizDrive_same (n v) : s.Same (s.drizDrive n v) := by simp [State.drizDrive]

@[simp] theorem State.takeKept_same (d) : s.Same (s.takeKept d) := by simp [State.takeKept]

@[simp] theorem State.slotSignals_same (slot) : s.Same (s.slotSignals slot) := by simp [State.slotSignals]

@[simp] theorem State.takeSlot_same (slot) : s.Same (s.takeSlot slot) := by simp [State.takeSlot]

@[simp] theorem State.openCycle_same (d) : s.Same (s.openCycle d) := by simp [State.openCycle]

@[simp] theorem State.xferOut_same (x) : s.Same (s.xferOut x) := by
  unfold State.xferOut
  (repeat' split) <;> simp

@[simp] theorem State.runSteps_same (i rx l) : s.Same (s.runSteps i rx l) := by
  induction l generalizing s i rx with
  | nil => simp [State.runSteps]
  | cons h r ih =>
    simp only [State.runSteps]
    split <;> simp [ih]

@[simp] theorem State.drizzleStart_same (d rx) : s.Same (s.drizzleStart d rx) := by
  unfold State.drizzleStart
  (repeat' split) <;> simp

/-! ### Machine/TileSys.lean -/

@[simp] theorem State.noteFails_same (p addr arg l) : s.Same (s.noteFails p addr arg l) := by
  simp only [State.noteFails]
  refine foldl_same _ (fun u a => ?_) _ _
  (repeat' split) <;> simp

/-! ### Machine/Debug.lean -/

@[simp] theorem State.setPath_same (m d) : s.Same (s.setPath m d) := by simp [State.setPath]

@[simp] theorem State.traceFrost_same (on) : s.Same (s.traceFrost on) := by simp [State.traceFrost]

@[simp] theorem State.enterFrost_same : s.Same s.enterFrost := by simp [State.enterFrost]

@[simp] theorem State.shiftTimes_same (d) : s.Same (s.shiftTimes d) := by simp [State.shiftTimes]

@[simp] theorem State.lateAlarms_same : s.Same s.lateAlarms := by simp [State.lateAlarms]

@[simp] theorem State.leaveFrost_same : s.Same s.leaveFrost := by simp [State.leaveFrost]

@[simp] theorem State.dbgName_same (t) : s.Same (s.dbgName t) := by simp [State.dbgName]

@[simp] theorem State.askHalt_same (p on) : s.Same (s.askHalt p on) := by simp [State.askHalt]

@[simp] theorem State.setPatch_same (u v) : s.Same (s.setPatch u v) := by simp [State.setPatch]

@[simp] theorem State.writePatchAddr_same (u v) : s.Same (s.writePatchAddr u v) := by simp [State.writePatchAddr]

@[simp] theorem State.writePatchData_same (u v) : s.Same (s.writePatchData u v) := by simp [State.writePatchData]

/-! ### Machine/Dma.lean -/

@[simp] theorem State.dmaFail_same (ch status) : s.Same (s.dmaFail ch status) := by simp [State.dmaFail]

@[simp] theorem State.dmaRead_same (ch full len) : s.Same (s.dmaRead ch full len) := by
  unfold State.dmaRead
  (repeat' split) <;> simp

@[simp] theorem State.dmaWrite_same (ch full off fixed data) : s.Same (s.dmaWrite ch full off fixed data) := by
  unfold State.dmaWrite
  (repeat' split) <;> simp

@[simp] theorem State.dmaFetch_same (ch a) : s.Same (s.dmaFetch ch a) := by simp [State.dmaFetch]

@[simp] theorem State.dmaOwnErr_same (ch) : s.Same (s.dmaOwnErr ch) := by simp [State.dmaOwnErr]

@[simp] theorem State.dmaStart_same (ch) : s.Same (s.dmaStart ch) := by simp [State.dmaStart]

@[simp] theorem State.dmaStopReq_same (ch) : s.Same (s.dmaStopReq ch) := by simp [State.dmaStopReq]

@[simp] theorem State.writeDmaCtl_same (master ch v) : s.Same (s.writeDmaCtl master ch v) := by
  simp [State.writeDmaCtl]

@[simp] theorem State.writeDmaReg_same (master ch off v) : s.Same (s.writeDmaReg master ch off v) := by
  simp only [State.writeDmaReg]
  (repeat' split) <;> simp

@[simp] theorem State.dmaRegWrite_same (master o v) : s.Same (s.dmaRegWrite master o v) := by simp [State.dmaRegWrite]

@[simp] theorem State.dmaGotDesc_same (ch b) : s.Same (s.dmaGotDesc ch b) := by simp [State.dmaGotDesc]

@[simp] theorem State.dmaGotData_same (ch b) : s.Same (s.dmaGotData ch b) := by simp [State.dmaGotData]

@[simp] theorem State.dmaAcked_same (ch tag) : s.Same (s.dmaAcked ch tag) := by simp [State.dmaAcked]

@[simp] theorem State.dmaErrored_same (ch tag status) : s.Same (s.dmaErrored ch tag status) := by
  simp [State.dmaErrored]

@[simp] theorem State.dmaResend_same (ch u) : s.Same (s.dmaResend ch u) := by simp [State.dmaResend]

@[simp] theorem State.dmaResponse_same (r) : s.Same (s.dmaResponse r) := by
  simp only [State.dmaResponse]
  (repeat' split) <;> simp

@[simp] theorem State.issueReads_same (e) : s.Same (s.issueReads e) := by
  simp only [State.issueReads]
  refine foldl_same _ (fun u a => ?_) _ _
  (repeat' split) <;> simp

@[simp] theorem State.stageBeat_same (ch) : s.Same (s.stageBeat ch) := by simp [State.stageBeat]

@[simp] theorem State.preempts_same (e k) : s.Same (s.preempts e k) := by simp [State.preempts]

@[simp] theorem State.noPreempts_same (e) : s.Same (s.noPreempts e) := by simp [State.noPreempts]

@[simp] theorem State.moveBeat_same (e k) : s.Same (s.moveBeat e k) := by simp [State.moveBeat]

@[simp] theorem State.dmaFinish_same (ch status) : s.Same (s.dmaFinish ch status) := by simp [State.dmaFinish]

@[simp] theorem State.dmaEnd_same (ch) : s.Same (s.dmaEnd ch) := by simp [State.dmaEnd]

/-! ### Machine/Regs.lean -/

@[simp] theorem State.rdCap_same (w mute o) : s.Same (s.rdCap w mute o).1 := by
  unfold State.rdCap
  (repeat' split) <;> simp

@[simp] theorem State.wrDoorbell_same (w o v) : s.Same (s.wrDoorbell w o v) := by
  simp only [State.wrDoorbell]
  (repeat' split) <;> simp

@[simp] theorem State.rdEvr_same (o) : s.Same (s.rdEvr o).1 := by simp [State.rdEvr]

@[simp] theorem State.wrEvr_same (own o v) : s.Same (s.wrEvr own o v) := by simp [State.wrEvr]

@[simp] theorem State.rdTime_same (o) : s.Same (s.rdTime o).1 := by
  unfold State.rdTime
  (repeat' split) <;> simp

@[simp] theorem State.timeOwned_same (own t) : s.Same (s.timeOwned own t) := by simp [State.timeOwned]

@[simp] theorem State.wrTime_same (own o v) : s.Same (s.wrTime own o v) := by
  unfold State.wrTime
  (repeat' split) <;> simp

@[simp] theorem State.rdPins_same (o) : s.Same (s.rdPins o).1 := by
  unfold State.rdPins
  (repeat' split) <;> simp

@[simp] theorem State.wrPins_same (own o v) : s.Same (s.wrPins own o v) := by simp [State.wrPins]

@[simp] theorem State.rdTimer_same (o) : s.Same (s.rdTimer o).1 := by simp [State.rdTimer]

@[simp] theorem State.rdSer_same (mute o) : s.Same (s.rdSer mute o).1 := by
  simp only [State.rdSer]
  (repeat' split) <;> simp

@[simp] theorem State.rdQueue_same (w o) : s.Same (s.rdQueue w o).1 := by
  unfold State.rdQueue
  (repeat' split) <;> simp

@[simp] theorem State.rdPool_same (o) : s.Same (s.rdPool o).1 := by
  unfold State.rdPool
  (repeat' split) <;> simp

@[simp] theorem State.rcStream_same (k n c) : s.Same (s.rcStream k n c).1 := by simp [State.rcStream]

@[simp] theorem State.rdStream_same (k o) : s.Same (s.rdStream k o).1 := by
  unfold State.rdStream
  (repeat' split) <;> simp

@[simp] theorem State.rdDisp_same (w c o) : s.Same (s.rdDisp w c o).1 := by
  unfold State.rdDisp
  (repeat' split) <;> simp

@[simp] theorem State.rdDebug_same (o) : s.Same (s.rdDebug o).1 := by
  unfold State.rdDebug
  (repeat' split) <;> simp

/-! ### Machine/Net.lean -/

@[simp] theorem State.keepAction_same (m r) : s.Same (s.keepAction m r) := by simp [State.keepAction]

@[simp] theorem State.routerResponse_same (r) : s.Same (s.routerResponse r) := by simp [State.routerResponse]

@[simp] theorem State.hostData_same (tag off bytes) : s.Same (s.hostData tag off bytes) := by simp [State.hostData]

@[simp] theorem State.hostFails_same (q) : s.Same (s.hostFails q) := by simp [State.hostFails]

@[simp] theorem State.hostResponse_same (r) : s.Same (s.hostResponse r) := by
  simp only [State.hostResponse]
  (repeat' split) <;> simp

@[simp] theorem State.reportLate_same (target tag) : s.Same (s.reportLate target tag) := by simp [State.reportLate]

@[simp] theorem State.dropRemote_same (srcId srcPhys tag) : s.Same (s.dropRemote srcId srcPhys tag) := by
  simp [State.dropRemote]

@[simp] theorem State.dmaLate_same (e tag) : s.Same (s.dmaLate e tag) := by
  simp only [State.dmaLate]
  (repeat' split) <;> simp

@[simp] theorem State.hostLate_same (tag) : s.Same (s.hostLate tag) := by
  simp only [State.hostLate]
  (repeat' split) <;> simp

@[simp] theorem State.hubLate_same (tag) : s.Same (s.hubLate tag) := by
  simp only [State.hubLate]
  (repeat' split) <;> simp

@[simp] theorem State.routerLate_same (n) : s.Same (s.routerLate n) := by simp [State.routerLate]

@[simp] theorem State.usedTag_same (tag) : s.Same (s.usedTag tag) := by simp [State.usedTag]

@[simp] theorem State.bar2_same (a) : s.Same (s.bar2 a) := by
  simp only [State.bar2]
  (repeat' split) <;> simp

@[simp] theorem State.accDone_same (status data) : s.Same (s.accDone status data) := by simp [State.accDone]

/-! ### Machine/TileCore.lean -/

@[simp] theorem State.resumeTile_same (p) : s.Same (s.resumeTile p) := by simp [State.resumeTile]

/-! ### Machine/Interface.lean -/

@[simp] theorem State.stray_same (p) : s.Same (s.stray p) := by simp [State.stray]

/-! ### Machine/CmdCore.lean -/

@[simp] theorem State.stopAt_same (p) : s.Same (s.stopAt p) := by simp [State.stopAt]

/-! ### Machine/Debug.lean -/

@[simp] theorem State.dbgHalt_same (p) : s.Same (s.dbgHalt p) := by simp [State.dbgHalt, State.tile_mem]

@[simp] theorem State.tickHalts_same : s.Same s.tickHalts := by simp [State.tickHalts]

@[simp] theorem State.dbgResume_same (p) : s.Same (s.dbgResume p) := by simp [State.dbgResume, State.tile_mem]

/-! ### Machine/Tick.lean -/

@[simp] theorem State.push_same (cs) : s.Same (s.push cs) := by simp [State.push]

@[simp] theorem State.tickTime_same (edge) : s.Same (s.tickTime edge) := by simp [State.tickTime]

@[simp] theorem State.tickAlarms_same (edge) : s.Same (s.tickAlarms edge) := by simp [State.tickAlarms]

@[simp] theorem State.tickTimer_same (n) : s.Same (s.tickTimer n) := by simp [State.tickTimer]

@[simp] theorem State.tickTimers_same : s.Same s.tickTimers := by simp [State.tickTimers]

@[simp] theorem State.tickPins_same : s.Same s.tickPins := by simp [State.tickPins]

@[simp] theorem State.tickTrace_same : s.Same s.tickTrace := by simp [State.tickTrace]

@[simp] theorem State.tickLull_same (c) : s.Same (s.tickLull c) := by simp [State.tickLull]

@[simp] theorem State.tickWindows_same : s.Same s.tickWindows := by simp [State.tickWindows]

@[simp] theorem State.tickResync_same : s.Same s.tickResync := by simp [State.tickResync]

@[simp] theorem State.tickFabric_same : s.Same s.tickFabric := by simp [State.tickFabric]

end Sys2Proof.Machine
end

section
/-! SUPPORT. Operations that write a tile, a buffer or a mailbox, and those that rest on them. -/

namespace Sys2Proof.Machine
open Sys2Proof.Safety

variable (s : State)

/-! ### Machine/TileCore.lean -/

@[simp] theorem Tile.enter_mem (t : Tile) (spc : W16) : (t.enter spc).mem = t.mem := (rfl)

/-! ### Machine/Ops.lean -/

@[simp] theorem State.setLine_same (p l : Nat) : s.Same (s.setLine p l) := by simp [State.setLine]

@[simp] theorem State.setLineL_same (t l : Nat) : s.Same (s.setLineL t l) := by
  unfold State.setLineL
  dsimp only
  (repeat' split) <;> simp

/-! ### Machine/TileCore.lean -/

@[simp] theorem State.tileTrap_same {p : Nat} {t : Tile} (h : t.mem = (s.tile p).mem) (code arg spc) :
    s.Same (s.tileTrap p code arg t spc) := by
  unfold State.tileTrap
  dsimp only
  split <;> simp [h]

/-! ### Machine/Windows.lean -/

@[simp] theorem State.writeFails_same (w) : s.Same (s.writeFails w) := by simp [State.writeFails]

/-! ### Machine/Queues.lean -/

@[simp] theorem State.writeBuf_onlyBuffers (a bytes) : s.OnlyBuffers (s.writeBuf a bytes) := by
  simpa [State.writeBuf] using fun h : BytesOk s.bufMem => h.write a bytes

@[simp] theorem State.take_onlyBuffers (o) : s.OnlyBuffers (s.take o).1 := by
  have drop (n : Nat) (h : FreedOk s.pool.freed) : FreedOk (s.pool.freed.drop n) :=
    fun b hb => h b (List.mem_of_mem_drop hb)
  simp only [State.take]
  (repeat' split) <;> simp +contextual [-List.drop_one, drop]

@[simp] theorem State.poolFreeOp_onlyBuffers (caller handle) : s.OnlyBuffers (s.poolFreeOp caller handle) := by
  have freed (h : FreedOk s.pool.freed) : FreedOk (s.pool.freed ++ [handle % 2048]) := fun b hb => by
    rcases List.mem_append.mp hb with hb | hb
    · exact h b hb
    · rw [List.mem_singleton.mp hb]
      exact Nat.mod_lt _ (by decide)
  have gen (h : GenOk s.pool.gen) (k n : Nat) : GenOk (tput k (n % 32) s.pool.gen) :=
    forall_mem_tput (P := fun n => n < 32) h (Nat.mod_lt _ (by decide)) k
  simp only [State.poolFreeOp]
  split
  · simp
  · simp +contextual [freed, gen]

@[simp] theorem State.readTake_onlyBuffers (owner srcId srcPhys tag) :
    s.OnlyBuffers (s.readTake owner srcId srcPhys tag).1 := by
  unfold State.readTake
  dsimp only
  (repeat' split) <;> simp +contextual

@[simp] theorem State.qPush_same (q e) : s.Same (s.qPush q e).1 := by simp [State.qPush]

@[simp] theorem State.hwPush_same (q e producer) : s.Same (s.hwPush q e producer).1 := by simp [State.hwPush]

@[simp] theorem State.writePush_same (q e master) : s.Same (s.writePush q e master) := by simp [State.writePush]

@[simp] theorem State.gatePush_same (q p opnum e) : s.Same (s.gatePush q p opnum e).1 := by simp [State.gatePush]

/-! ### Machine/Dispatcher.lean -/

@[simp] theorem State.dCancel_same (c n) : s.Same (s.dCancel c n).1 := by
  unfold State.dCancel
  dsimp only
  (repeat' split) <;> simp

@[simp] theorem State.gateCancel_same (c n p opnum) : s.Same (s.gateCancel c n p opnum).1 := by
  simp [State.gateCancel]

@[simp] theorem State.restartTile_same (p) : s.Same (s.restartTile p) := by
  unfold State.restartTile
  dsimp only
  (repeat' split) <;> simp

@[simp] theorem State.startTask_same (p n) : s.Same (s.startTask p n) := by simp [State.startTask]

/-! ### Machine/Interface.lean -/

@[simp] theorem State.pair_onlyTiles (t q auto) : s.OnlyTiles (s.pair t q auto) := by
  unfold State.pair
  split
  · exact State.Same.rfl.onlyTiles
  · next p _ =>
    have htiles (u : Tile) (hu : u.mem = (s.tile p).mem) (h : TilesOk (memsOf s.tiles)) :=
      State.setTile_ok h (hu ▸ h.tile p : BytesOk u.mem) q
    simp +contextual [htiles, State.setDuplex]

@[simp] theorem State.withBench_same (f : State → State) : (f s).Same (s.withBench f) := by simp [State.withBench]

@[simp] theorem State.rePair_onlyTiles (t auto) : s.OnlyTiles (s.rePair t auto) := by
  unfold State.rePair
  dsimp only
  (repeat' split) <;> simp +contextual

@[simp] theorem State.dropPartner_onlyTiles (t d) : s.OnlyTiles (s.dropPartner t d) := by
  simp +contextual [State.dropPartner]

theorem State.sendBy_onlyTiles (p r) {put : State → Msg → State} (h : ∀ (u : State) m, u.OnlyTiles (put u m)) :
    s.OnlyTiles (s.sendBy p r put) := by
  unfold State.sendBy
  extract_lets m n s1
  have h1 : s.OnlyTiles s1 := by
    simp only [s1]
    split
    · exact h ..
    · exact State.Same.rfl.onlyTiles
  split
  · exact h1.trans (State.Same.onlyTiles (by simp))
  · exact h ..

@[simp] theorem State.serveGate_same (m) : s.Same (s.serveGate m).1 := by
  unfold State.serveGate
  dsimp only
  (repeat' split) <;> simp

@[simp] theorem State.finishAt_same (p tag status) : s.Same (s.finishAt p tag status) := by simp [State.finishAt]

/-! ### Machine/EventRouter.lean -/

@[simp] theorem State.hostVector_same (v) : s.Same (s.hostVector v) := by
  simp only [State.hostVector]
  split <;> simp [HostPort.send]

@[simp] theorem State.startDelivery_same (n) : s.Same (s.startDelivery n) := by simp [State.startDelivery]

/-! ### Machine/EngineIn.lean -/

@[simp] theorem State.setEngine_same {e : Engine} (h : e.mem = s.engine.mem) : s.Same (s.setEngine e) := by
  simp [State.setEngine, h]

@[simp] theorem State.engErr_same (bit) : s.Same (s.engErr bit) := by simp [State.engErr]

@[simp] theorem State.writeModel_keeps (addr data) : s.Keeps (s.writeModel addr data).1 := by
  simp only [State.writeModel]
  split
  · simp
  · simpa [State.setEngine] using fun h : BytesOk s.engine.mem => h.write addr data

@[simp] theorem State.freeBufs_onlyBuffers (l) : s.OnlyBuffers (s.freeBufs l) :=
  foldl_onlyBuffers (fun _ _ => by simp +contextual) _ _

@[simp] theorem State.startWait_same : s.Same s.startWait := by simp [State.startWait]

@[simp] theorem State.countStall_same : s.Same s.countStall := by
  unfold State.countStall
  split
  · simp
  · dsimp only
    split <;> simp [State.setEngine]

@[simp] theorem State.endWait_same : s.Same s.endWait := by simp [State.endWait]

@[simp] theorem State.enginePush_same (q e) : s.Same (s.enginePush q e) := by simp [State.enginePush]

@[simp] theorem State.pushBuf_same (k kind) : s.Same (s.pushBuf k kind) := by
  unfold State.pushBuf
  dsimp only
  (repeat' split) <;> simp

@[simp] theorem State.pushAll_same (k) : s.Same (s.pushAll k) := by simp [State.pushAll]

@[simp] theorem State.flushStream_same (k) : s.Same (s.flushStream k) := by simp [State.flushStream]

@[simp] theorem State.dueFlushes_same : s.Same s.dueFlushes := by simp [State.dueFlushes]

@[simp] theorem State.putRec_onlyBuffers (k kind b bytes) : s.OnlyBuffers (s.putRec k kind b bytes) := by
  simp +contextual [State.putRec]

@[simp] theorem State.tryRec_onlyBuffers (k kind bytes) : s.OnlyBuffers (s.tryRec k kind bytes).1 := by
  unfold State.tryRec
  dsimp only
  (repeat' split) <;> simp +contextual

@[simp] theorem State.emit_onlyBuffers (k kind bytes) : s.OnlyBuffers (s.emit k kind bytes) := by
  simp +contextual [State.emit]

@[simp] theorem State.drainHeld_onlyBuffers (l) : s.OnlyBuffers (s.drainHeld l) := by
  induction l generalizing s with
  | nil => exact State.Same.rfl.onlyBuffers
  | cons h r ih =>
    unfold State.drainHeld
    split
    · simp
    · exact (State.emit_onlyBuffers ..).trans (ih _)

/-! ### Machine/Engine.lean -/

@[simp] theorem State.emitStatus_onlyBuffers (bank k) : s.OnlyBuffers (s.emitStatus bank k) :=
  foldl_onlyBuffers (fun _ _ => by simp +contextual) _ _

@[simp] theorem State.lineDone_onlyBuffers (bank k b) : s.OnlyBuffers (s.lineDone bank k b) :=
  foldl_onlyBuffers (fun _ _ => by simp +contextual) _ _

@[simp] theorem State.lateFrame_onlyBuffers (k h) : s.OnlyBuffers (s.lateFrame k h) := by
  simp +contextual [State.lateFrame]

@[simp] theorem State.stopStream_onlyBuffers (k) : s.OnlyBuffers (s.stopStream k) :=
  foldl_onlyBuffers (fun _ _ => by simp +contextual) _ _

@[simp] theorem State.stopDone_same (k) : s.Same (s.stopDone k) := by simp [State.stopDone]

@[simp] theorem State.retryHeld_onlyBuffers : s.OnlyBuffers s.retryHeld := by simp +contextual [State.retryHeld]

@[simp] theorem State.writeEngReturn_onlyBuffers (master v) : s.OnlyBuffers (s.writeEngReturn master v) := by
  simp +contextual [State.writeEngReturn]

/-! ### Machine/Resets.lean -/

@[simp] theorem State.bootUp_same (other) : s.Same (s.bootUp other) := by
  cases h : s.dbgBlock.testMode with
  | true => rw [State.bootUp_testMode other h]; exact .rfl
  | false =>
    obtain ⟨_, _, _, _, _, _, _, hs⟩ := s.bootUp_frame other h
    simp [hs]

@[simp] theorem State.restartDone_same : s.Same s.restartDone := by simp [State.restartDone]

@[simp] theorem State.letGo_same (why) : s.Same (s.letGo why) := by simp [State.letGo]

@[simp] theorem State.courtRestart_same (c accepted) : s.Same (s.courtRestart c accepted) := by
  simp [State.courtRestart]

/-! ### Machine/Faults.lean -/

@[simp] theorem State.promote_onlyTiles (t d) : s.OnlyTiles (s.promote t d) := by simp +contextual [State.promote]

/-! ### Machine/Link.lean -/

@[simp] theorem State.sendParts_same (m id l) : s.Same (s.sendParts m id l) := by
  induction l generalizing s with
  | nil => exact .rfl
  | cons h r ih =>
    obtain ⟨i, t, part⟩ := h
    refine State.Same.trans ?_ (ih _)
    dsimp only
    split <;> simp

@[simp] theorem State.toHub_same (m) : s.Same (s.toHub m) := by
  unfold State.toHub
  dsimp only
  (repeat' split) <;> simp

/-! ### Machine/Members.lean -/

@[simp] theorem State.startPhys_same (p) : s.Same (s.startPhys p) := by
  unfold State.startPhys
  dsimp only
  (repeat' split) <;> simp

@[simp] theorem State.startLogical_same (t) : s.Same (s.startLogical t) := by
  simp only [State.startLogical]
  (repeat' split) <;> simp

/-! ### Machine/CmdUpdate.lean -/

@[simp] theorem State.confirmTrial_same : s.Same s.confirmTrial := by
  simp [State.confirmTrial, State.setBoot, Boot.markRuling]

/-! ### Machine/CmdFault.lean -/

@[simp] theorem State.readmit_onlyTiles (p) : s.OnlyTiles (s.readmit p) := by
  refine State.OnlyTiles.trans (State.setTile_only (p := p) (t := {}) fun _ => bytesOk_nil) (State.Same.onlyTiles ?_)
  simp [State.readmit]

@[simp] theorem State.retire_same (p) : s.Same (s.retire p) := by simp [State.retire, Boot.writeRetired]

@[simp] theorem State.unpair_same (t d) : s.Same (s.unpair t d) := by simp [State.unpair]

/-! ### Machine/Debug.lean -/

@[simp] theorem State.resumeAll_same : s.Same s.resumeAll := by
  have h := memsOf_map (f := fun e => if e.2.run = RunState.dbgHalted then
    { e.2 with run := if e.2.dbgSlept then .sleeping else .running, dbgSlept := false } else e.2)
    (fun e => by dsimp only; split <;> rfl) s.tiles
  simp [State.resumeAll, h]

/-! ### Machine/Regs.lean -/

@[simp] theorem State.writeConsumer_same (q v) : s.Same (s.writeConsumer q v) := by simp [State.writeConsumer]

@[simp] theorem State.wrQueue_same (own o v) : s.Same (s.wrQueue own o v) := by
  unfold State.wrQueue
  dsimp only
  (repeat' split) <;> simp

@[simp] theorem State.wrPool_onlyBuffers (own o v) : s.OnlyBuffers (s.wrPool own o v) := by
  unfold State.wrPool
  dsimp only
  (repeat' split) <;> simp +contextual

@[simp] theorem State.rdEngine_same (o) : s.Same (s.rdEngine o).1 := by
  unfold State.rdEngine
  dsimp only
  (repeat' split) <;> simp

@[simp] theorem State.wrEngine_onlyBuffers (own o v) : s.OnlyBuffers (s.wrEngine own o v) := by
  unfold State.wrEngine
  dsimp only
  (repeat' split) <;> simp +contextual

@[simp] theorem State.wrDisp_same (w c o v) : s.Same (s.wrDisp w c o v) := by
  unfold State.wrDisp
  dsimp only
  (repeat' split) <;> simp

@[simp] theorem State.rdWord_same (w mute a) : s.Same (s.rdWord w mute a).1 := by
  unfold State.rdWord
  dsimp only
  (repeat' split) <;> simp

/-! ### Machine/Net.lean -/

@[simp] theorem State.tileLate_same (p tag) : s.Same (s.tileLate p tag) := by
  simp only [State.tileLate]
  (repeat' split) <;> simp

@[simp] theorem State.bar0Word_same (w o) : s.Same (s.bar0Word w o).1 := by
  simp only [State.bar0Word]
  (repeat' split) <;> simp

@[simp] theorem State.bar4Byte_keeps (o b) : s.Keeps (s.bar4Byte o b) := by
  unfold State.bar4Byte
  (repeat' split)
  · simp
  · simp
  · simpa using fun h : BytesOk s.host.table => h.write o [b]
  · simp

@[simp] theorem State.bar4_keeps (a) : s.Keeps (s.bar4 a) := by
  unfold State.bar4
  split
  · simp
  · exact foldl_keeps (fun u e => u.bar4Byte_keeps _ _) _ _

/-! ### Machine/Tick.lean -/

@[simp] theorem State.tickEngine_same : s.Same s.tickEngine := by simp [State.tickEngine]

end Sys2Proof.Machine
end

section
/-! SUPPORT. A request served at a tile, and an answered request there (R147 to R160). -/

namespace Sys2Proof.Machine
open Sys2Proof.Safety

variable (s : State)

@[simp] theorem State.serveAt_onlyTiles (m p) : s.OnlyTiles (s.serveAt m p).1 := by
  unfold State.serveAt
  refine State.OnlyTiles.trans (State.wakeCourt_same s (p / 64)).onlyTiles ?_
  generalize s.wakeCourt (p / 64) = u
  have write (h : TilesOk (memsOf u.tiles)) (a bs) := State.setTile_ok h (Tile.netWrite_ok (h.tile p) a bs) p
  have beats (h : TilesOk (memsOf u.tiles)) (a n bs) := State.setTile_ok h (Tile.netBeats_ok (h.tile p) a n bs) p
  dsimp only
  split
  · split <;> simp +contextual [write]
  · split <;> simp +contextual [beats]
  · split <;> simp
  · split
    · simp
    · simp
    · simp
    · next hput => exact State.setTile_only (fun h => Tile.ringPut_ok h hput)
  · simp
  · simp

@[simp] theorem State.complete_onlyTiles (p q status) : s.OnlyTiles (s.complete p q status) := by
  unfold State.complete
  extract_lets t t1 t2 t3
  have h3 (h : BytesOk (s.tile p).mem) : BytesOk t3.mem := by
    have h1 : BytesOk t1.mem := Tile.store_ok h _ _
    simp only [t3]
    split <;> exact h1
  have hput := State.setTile_only h3
  split
  · split
    · next hu => exact State.setTile_only fun h => Tile.ringPut_ok (h3 h) hu
    · exact hput.trans (State.Same.onlyTiles (by simp))
    · exact hput
  · exact hput

end Sys2Proof.Machine
end

section
/-! SUPPORT. Requests of a tile, their service at its partners, and their answers: only tiles change (R111, R147 to
R160, R335). -/

namespace Sys2Proof.Machine
open Sys2Proof.Safety

variable (s : State)

@[simp] theorem State.diverge_onlyTiles (t d) : s.OnlyTiles (s.diverge t d) := by
  simp +contextual [State.diverge]

@[simp] theorem State.inject_onlyTiles (p m) : s.OnlyTiles (s.inject p m) := by
  simp only [State.inject]
  (repeat' split) <;> simp +contextual

@[simp] theorem State.issue_onlyTiles (p r) : s.OnlyTiles (s.issue p r) :=
  State.sendBy_onlyTiles s p r fun u _ => u.inject_onlyTiles p _

@[simp] theorem State.sendAt_onlyTiles (p a g) : s.OnlyTiles (s.sendAt p a g) := by
  unfold State.sendAt
  extract_lets t d tag r t1
  split
  · exact State.Same.onlyTiles (by simp [t])
  · have h1 (h : BytesOk (s.tile p).mem) : BytesOk t1.mem := by
      rw [Tile.setG_mem]
      exact Tile.store_ok h _ _
    refine State.OnlyTiles.trans (State.setTile_only ?_) (State.issue_onlyTiles ..)
    exact h1

@[simp] theorem State.resendOr_onlyTiles (p q may) : s.OnlyTiles (s.resendOr p q may) := by
  unfold State.resendOr
  split
  · extract_lets q1 t s1 s2
    have h1 : s.Same s1 := by simp [s1, t]
    have h2 : s.OnlyTiles s2 := h1.trans_onlyTiles (State.sendBy_onlyTiles _ _ _ fun u m => by
      split <;> simp)
    split
    · exact h2.trans_same (by simp)
    · exact h2
  · exact State.Same.onlyTiles (by simp)

@[simp] theorem State.routedAt_onlyTiles (m t p) : s.OnlyTiles (s.routedAt m t p).1 := by
  have hserve := (s.serveAt_onlyTiles m p)
  unfold State.routedAt
  dsimp only
  split
  · simp
  split
  · simp
  split
  · simp
  · simp
  split
  · simp
  have hboth : s.OnlyTiles (match tfind? t s.gates.duplex with
      | some d =>
        if (m.kind == MsgKind.read) = true then (s.serveAt m p).1 else ((s.serveAt m p).1.serveAt m d.partner).1
      | none => (s.serveAt m p).1) := by
    split
    · split
      · exact hserve
      · exact hserve.trans (State.serveAt_onlyTiles ..)
    · exact hserve
  split <;> exact hboth

@[simp] theorem State.serveRouted_onlyTiles (m t p) :
    s.OnlyTiles (s.serveRouted m t p).1 := s.routedAt_onlyTiles m t p

@[simp] theorem State.serveTile_onlyTiles (m) : s.OnlyTiles (s.serveTile m).1 := by
  simp only [State.serveTile]
  split
  · exact .rfl
  split
  · exact State.serveRouted_onlyTiles ..
  split
  · exact .rfl
  split
  · exact State.Same.onlyTiles (by simp)
  · exact State.serveRouted_onlyTiles ..

@[simp] theorem State.doneAt_onlyTiles (r) : s.OnlyTiles (s.doneAt r) := by
  have hback (q : SendReq) := State.setTile_only (s := s) (p := r.dstPhys)
    (t := ((s.tile r.dstPhys).readBack q.loc (r.data.take q.len)).1) fun h => Tile.readBack_ok h _ _
  unfold State.doneAt
  dsimp only
  split
  · exact State.Same.onlyTiles (by simp)
  · next q _ =>
    split
    · exact State.resendOr_onlyTiles ..
    · split
      · split
        · exact (hback q).trans_same (by simp)
        · exact (hback q).trans_same (by simp)
      · exact State.Same.onlyTiles (by simp)

@[simp] theorem State.retryAt_onlyTiles (r) : s.OnlyTiles (s.retryAt r) := by
  unfold State.retryAt
  split
  · exact State.Same.onlyTiles (by simp)
  · exact State.resendOr_onlyTiles ..

@[simp] theorem State.errorAt_onlyTiles (r) : s.OnlyTiles (s.errorAt r) := by
  unfold State.errorAt
  split
  · exact State.Same.onlyTiles (by simp)
  · split
    · exact State.resendOr_onlyTiles ..
    · exact State.Same.onlyTiles (by simp)

end Sys2Proof.Machine
end

section
/-! SUPPORT. The inspection engine from the closing of items to the acceptance of a held push: only buffers change
(R202 to R240). -/

namespace Sys2Proof.Machine
open Sys2Proof.Safety

variable (s : State)

@[simp] theorem State.closeItems_onlyBuffers (bank k l) : s.OnlyBuffers (s.closeItems bank k l) :=
  foldl_onlyBuffers (fun _ _ => by simp +contextual -implicitDefEqProofs) _ _

@[simp] theorem State.endPeriod_onlyBuffers (bank k x short) : s.OnlyBuffers (s.endPeriod bank k x short) := by
  unfold State.endPeriod
  split
  · exact .rfl
  · extract_lets p s1
    have h1 : s.OnlyBuffers s1 := foldl_onlyBuffers (fun u _ => u.emit_onlyBuffers ..) _ _
    exact h1.trans_same (by simp)

@[simp] theorem State.countLine_onlyBuffers (bank k x l gap processed) :
    s.OnlyBuffers (s.countLine bank k x l gap processed) := by
  simp only [State.countLine]
  (repeat' split) <;> simp +contextual -implicitDefEqProofs

@[simp] theorem State.countLost_onlyBuffers (bank k x l n) : s.OnlyBuffers (s.countLost bank k x l n) := by
  induction n generalizing s l with
  | zero => exact .rfl
  | succ n ih => exact (s.countLine_onlyBuffers ..).trans (ih ..)

@[simp] theorem State.switchAtLine_onlyBuffers (k l) : s.OnlyBuffers (s.switchAtLine k l) := by
  unfold State.switchAtLine
  extract_lets bank s1
  have h1 : s.OnlyBuffers s1 := by
    simp only [s1]
    split <;> simp +contextual -implicitDefEqProofs
  exact h1.trans_same (by simp)

@[simp] theorem State.missLines_onlyBuffers (bank k n) : s.OnlyBuffers (s.missLines bank k n) := by
  simp only [State.missLines]
  (repeat' split) <;> simp +contextual -implicitDefEqProofs

@[simp] theorem State.lostLines_onlyBuffers (k l n) : s.OnlyBuffers (s.lostLines k l n) := by
  simp only [State.lostLines]
  split <;> simp +contextual -implicitDefEqProofs

@[simp] theorem State.fullLine_onlyBuffers (bank k x b) : s.OnlyBuffers (s.fullLine bank k x b) := by
  unfold State.fullLine
  extract_lets v m l px partial_ all others room g0 g past hit acc keep step items spans splits gone left held isSplit
    clips cnt v1 v2 v3 v4 v5 s1 s2 s3
  have h3 : s.Same s3 := by
    simp only [s3, s2, s1]
    split_ifs <;> simp
  exact h3.trans_onlyBuffers (State.closeItems_onlyBuffers ..)

@[simp] theorem State.modelError_onlyBuffers (bank k l word) : s.OnlyBuffers (s.modelError bank k l word) := by
  unfold State.modelError
  extract_lets v addr s1 s2 e
  have h1 : s.OnlyBuffers s1 := State.Same.trans_onlyBuffers (by simp) (State.closeItems_onlyBuffers ..)
  have h2 : s.OnlyBuffers s2 := (h1.trans (s1.emitStatus_onlyBuffers bank k)).trans_same (by simp [s2])
  exact h2.trans_same (by simp [e])

@[simp] theorem State.upToLine_onlyBuffers (k l next lost) : s.OnlyBuffers (s.upToLine k l next lost) := by
  unfold State.upToLine
  split
  · exact State.lostLines_onlyBuffers ..
  · next t _ =>
    extract_lets before u
    have hu : s.OnlyBuffers u := (s.lostLines_onlyBuffers ..).trans (State.switchAtLine_onlyBuffers ..)
    split
    · exact hu
    · exact ((hu.trans (u.lostLines_onlyBuffers k t 1)).trans_same (by simp)).trans (State.lostLines_onlyBuffers ..)

@[simp] theorem State.applyLine_onlyBuffers (bank k b) : s.OnlyBuffers (s.applyLine bank k b) := by
  unfold State.applyLine
  extract_lets x u s1
  have h1 : s.OnlyBuffers s1 := by
    simp only [s1]
    split
    · exact (s.missLines_onlyBuffers bank k 1).trans_same (by simp [u])
    · exact State.fullLine_onlyBuffers ..
  exact h1.trans (State.countLine_onlyBuffers ..)

@[simp] theorem State.processLine_onlyBuffers (k) : s.OnlyBuffers (s.processLine k) := by
  unfold State.processLine
  extract_lets v next
  split
  · exact .rfl
  · next b rest _ =>
    extract_lets lost s1 bank s2
    have h1 : s.OnlyBuffers s1 := State.Same.trans_onlyBuffers (by simp) (State.upToLine_onlyBuffers ..)
    have h2 : s.OnlyBuffers s2 := (h1.trans (s1.applyLine_onlyBuffers ..)).trans (State.lineDone_onlyBuffers ..)
    split
    · exact h2.trans (State.modelError_onlyBuffers ..)
    · exact h2.trans (State.emitStatus_onlyBuffers ..)

@[simp] theorem State.makeRoom_onlyBuffers (k) : s.OnlyBuffers (s.makeRoom k) := by
  unfold State.makeRoom
  split
  · exact State.processLine_onlyBuffers ..
  · exact .rfl

@[simp] theorem State.releaseOne_onlyBuffers (k) : s.OnlyBuffers (s.releaseOne k) := by
  unfold State.releaseOne
  extract_lets u v l b n cnt v1 v2
  have hu : s.OnlyBuffers u := s.makeRoom_onlyBuffers k
  split
  · exact hu.trans_same (by simp)
  · exact hu.trans (State.Same.trans_onlyBuffers (by simp) (State.freeBufs_onlyBuffers ..))

@[simp] theorem State.releaseLines_onlyBuffers (k n) : s.OnlyBuffers (s.releaseLines k n) := by
  induction n generalizing s with
  | zero => exact .rfl
  | succ n ih => exact (s.releaseOne_onlyBuffers k).trans (ih _)

@[simp] theorem State.releaseComplete_onlyBuffers (k n) : s.OnlyBuffers (s.releaseComplete k n) := by
  induction n generalizing s with
  | zero => exact .rfl
  | succ n ih =>
    simp only [State.releaseComplete]
    split
    · exact (s.releaseOne_onlyBuffers k).trans (ih _)
    · exact .rfl

@[simp] theorem State.storeFrame_onlyBuffers (k l h) : s.OnlyBuffers (s.storeFrame k l h) := by
  unfold State.storeFrame
  dsimp only
  split
  · exact State.lateFrame_onlyBuffers ..
  · exact State.Same.trans_onlyBuffers (by simp) (State.releaseComplete_onlyBuffers ..)

@[simp] theorem State.placeFrame_onlyBuffers (k h) : s.OnlyBuffers (s.placeFrame k h) := by
  unfold State.placeFrame
  extract_lets v tie l s1 d
  have h1 : s.Same s1 := by simp [s1]
  split
  · exact h1.trans_onlyBuffers (State.lateFrame_onlyBuffers ..)
  split
  · exact h1.trans_onlyBuffers (State.storeFrame_onlyBuffers ..)
  · exact (h1.trans_onlyBuffers (State.releaseLines_onlyBuffers ..)).trans (State.storeFrame_onlyBuffers ..)

@[simp] theorem State.takeFrame_onlyBuffers (h) : s.OnlyBuffers (s.takeFrame h) := by
  unfold State.takeFrame
  dsimp only
  split
  · exact State.Same.trans_onlyBuffers (by simp) (State.poolFreeOp_onlyBuffers ..)
  split
  · exact State.Same.trans_onlyBuffers (by simp) (State.poolFreeOp_onlyBuffers ..)
  · exact State.placeFrame_onlyBuffers ..

@[simp] theorem State.packStop_onlyBuffers (k) : s.OnlyBuffers (s.packStop k) := by
  unfold State.packStop
  extract_lets w next lost u v bank x s1 s2
  have hu : s.OnlyBuffers u := State.lostLines_onlyBuffers ..
  have h1 : s.OnlyBuffers s1 := hu.trans (State.Same.trans_onlyBuffers (by simp) (State.closeItems_onlyBuffers ..))
  have h2 : s.OnlyBuffers s2 := by
    simp only [s2]
    split
    · exact h1
    · exact h1.trans (State.endPeriod_onlyBuffers ..)
  exact h2.trans (State.Same.trans_onlyBuffers (by simp) (State.emitStatus_onlyBuffers ..))

@[simp] theorem State.acceptHeld_onlyBuffers (h) : s.OnlyBuffers (s.acceptHeld h) := by
  unfold State.acceptHeld
  extract_lets u e s1 s2
  have h2 : s.Same s2 := by simp [s2, s1, e, u]
  split
  · exact h2.trans_onlyBuffers (State.retryHeld_onlyBuffers ..)
  · exact h2.onlyBuffers

end Sys2Proof.Machine
end

section
/-! SUPPORT. The host, the mailboxes and the stored images (R385 to R398, R429). -/

namespace Sys2Proof.Machine
open Sys2Proof.Safety

variable (s : State)

@[simp] theorem State.hostReset_keeps (c) : s.Keeps (s.hostReset c) := by
  simp [State.hostReset, HostPort.reset, apply_ite HostPort.table]

@[simp] theorem State.sendUp_same (bytes) : s.Same (s.sendUp bytes) := by simp [State.sendUp]

@[simp] theorem State.finishMbx_keeps (m status payload) : s.Keeps (s.finishMbx m status payload) := by
  unfold State.finishMbx
  extract_lets v code flags el r r1 s1
  have h1 : s.Keeps s1 := State.setMbx_keeps (fun h => h) fun h => (h.write 16 payload).write 0 _
  refine h1.trans_same ?_
  split <;> simp

@[simp] theorem State.endCommand_keeps (m status) : s.Keeps (s.endCommand m status) := by
  unfold State.endCommand
  extract_lets f v code e s1
  have h1 : s.Same s1 := by simp [s1, e, apply_ite Engine.mem]
  exact h1.trans_keeps (State.finishMbx_keeps ..)

@[simp] theorem State.abortAllMbx_keeps : s.Keeps s.abortAllMbx := by
  unfold State.abortAllMbx
  refine foldl_keeps (fun u m => ?_) _ _
  dsimp only
  split
  · exact (u.endCommand_keeps m 0x0B).trans_same (by simp)
  · exact .rfl

theorem Boot.persist_slots {b : Boot} (h : SlotsOk b.slots) {m : Mem} (hm : BytesOk m) (t) :
    SlotsOk (b.persist t m).slots := by
  unfold Boot.persist
  extract_lets k n d r
  split
  · exact h
  · exact forall_mem_tput (P := BytesOk) h hm _

theorem Boot.persist_banks (b : Boot) (t m) : (b.persist t m).bank0 = b.bank0 ∧ (b.persist t m).bank1 = b.bank1 ∧
    (b.persist t m).copy0 = b.copy0 ∧ (b.persist t m).copy1 = b.copy1 := by
  unfold Boot.persist
  extract_lets k n d r
  split <;> simp

@[simp] theorem State.persist_keeps (t) : s.Keeps (s.persist t) := by
  unfold State.persist
  split
  · exact .rfl
  · next p _ =>
    have slots (h : TilesOk (memsOf s.tiles)) (hs : SlotsOk s.boot.slots) :=
      Boot.persist_slots hs (h.tile p) t
    simp +contextual [slots, Boot.persist_banks]

@[simp] theorem State.wrMbxByte_keeps (w o b) : s.Keeps (s.wrMbxByte w o b) := by
  unfold State.wrMbxByte
  dsimp only
  split
  · exact .rfl
  split
  · exact State.setMbx_keeps (fun h => h.put _ b) fun h => h
  · exact State.Same.keeps (by simp)

@[simp] theorem State.bulkCommand_keeps (bytes) : s.Keeps (s.bulkCommand bytes) := by
  unfold State.bulkCommand
  extract_lets x s1
  split
  · exact State.Same.keeps (by simp)
  · have h1 : s.Keeps s1 := State.setMbx_keeps (fun h => h.write 0 _) fun h => h
    exact h1.trans_same (by simp)

@[simp] theorem State.rdRegs_onlyBuffers (w mute a n) : s.OnlyBuffers (s.rdRegs w mute a n).1 := by
  unfold State.rdRegs
  extract_lets q r r' a0 k
  split
  · exact State.Same.onlyBuffers (by simp [r])
  split
  · exact State.readTake_onlyBuffers ..
  split
  · exact .rfl
  · exact List.foldlRecOn (motive := fun x : State × List Byte => s.OnlyBuffers x.1) _ _ .rfl fun x hx _ _ =>
      hx.trans_same (x.1.rdWord_same w mute _)

@[simp] theorem State.bar0Read_same (w o k) : s.Same (s.bar0Read w o k).1 :=
  List.foldlRecOn (motive := fun x : State × List Byte => s.Same x.1) _ _ .rfl fun x hx _ _ =>
    hx.trans (x.1.bar0Word_same w _)

end Sys2Proof.Machine
end

section
/-! SUPPORT. Restarts, substitution, restored images, moves of tiles and courts, members and the end of a sleep (R325
to R385). -/

namespace Sys2Proof.Machine
open Sys2Proof.Safety

variable (s : State)

@[simp] theorem State.restartCore_keeps : s.Keeps s.restartCore := by
  simp [State.restartCore]

@[simp] theorem State.deviceRestart_keeps (why) : s.Keeps (s.deviceRestart why) := by
  unfold State.deviceRestart
  extract_lets +onlyGivenNames held e s1
  have h1 : s.Keeps s1 := State.Same.trans_keeps (by simp) (State.restartCore_keeps _)
  split
  · exact h1.trans_same (by simp)
  · exact h1

@[simp] theorem State.coldStart_keeps (testEn) : s.Keeps (s.coldStart testEn) := by
  unfold State.coldStart
  extract_lets +onlyGivenNames s1
  have h1 : s.Keeps s1 := State.Same.trans_keeps (by simp) (State.restartCore_keeps _)
  exact h1.trans (by simp)

@[simp] theorem State.announceOff_same : s.Same s.announceOff := by simp [State.announceOff]

@[simp] theorem State.selfSendOff_keeps (source) : s.Keeps (s.selfSendOff source) :=
  State.Same.trans_keeps (by simp) (State.deviceRestart_keeps ..)

/-- A tile written with a memory that is canonical where the tiles and the stored images are. -/
theorem State.setTile_keeps {p : Nat} {t : Tile}
    (h : TilesOk (memsOf s.tiles) → SlotsOk s.boot.slots → BytesOk t.mem) :
    s.Keeps (s.setTile p t) := by
  simpa +contextual using fun (ht : TilesOk (memsOf s.tiles)) hs => State.setTile_ok ht (h ht hs) p

theorem Boot.image_ok {b : Boot} (h : SlotsOk b.slots) {t : Nat} {m : Mem} (hm : b.image t = some m) : BytesOk m := by
  obtain ⟨n, -, hn⟩ := Option.bind_eq_some_iff.mp hm
  split at hn
  · cases hn
  · exact tfind?_forall (P := BytesOk) h hn

theorem State.restoredMem_ok {t old : Nat} {bad : Bool} {m : Mem} (hm : s.restoredMem t old bad = some m)
    (ht : TilesOk (memsOf s.tiles)) (hs : SlotsOk s.boot.slots) : BytesOk m := by
  unfold State.restoredMem at hm
  split at hm
  · exact Boot.image_ok hs hm
  · exact Option.some.inj hm ▸ ht.tile old

@[simp] theorem State.restoreTile_keeps (d late) : s.Keeps (s.restoreTile d late) := by
  unfold State.restoreTile
  split
  · exact .rfl
  · next new _ =>
    extract_lets +onlyGivenNames started cap e u log
    have hlog (v : State) (a) : v.Same (log v a) := by simp [log]
    split
    · exact State.Same.keeps (by simp [log, u, e])
    · next m hm =>
      extract_lets +onlyGivenNames u1
      have h1 : s.Keeps (s.setTile new u1) := s.setTile_keeps fun ht hs => by
        rw [State.applyKept_mem]
        exact s.restoredMem_ok hm ht hs
      exact (h1.trans_same (hlog _ d.action)).trans_same (by simp)

@[simp] theorem State.restoreOrDefer_keeps (d) : s.Keeps (s.restoreOrDefer d) := by
  unfold State.restoreOrDefer
  dsimp only
  split
  · exact State.Same.keeps (by simp)
  · exact State.restoreTile_keeps ..

theorem State.withBench_keeps {f : State → State} (h : s.Keeps (f s)) : s.Keeps (s.withBench f) :=
  h.trans_same (s.withBench_same f)

@[simp] theorem State.substitute_keeps (t spare copyBad) : s.Keeps (s.substitute t spare copyBad) := by
  unfold State.substitute
  split
  · exact .rfl
  · exact (s.withBench_keeps (s.remap_same ..).keeps).trans (State.restoreOrDefer_keeps ..)

@[simp] theorem State.substituteLowest_keeps (t copyBad) : s.Keeps (s.substituteLowest t copyBad) := by
  unfold State.substituteLowest
  split
  · exact State.substitute_keeps ..
  · split
    · exact (s.noSpare_same ..).keeps
    · exact .rfl

@[simp] theorem State.tileFails_keeps (p) : s.Keeps (s.tileFails p) := by
  unfold State.tileFails
  split
  · split
    · exact (State.promote_onlyTiles ..).keeps
    · exact (State.dropPartner_onlyTiles ..).keeps
  · split
    · exact State.substituteLowest_keeps ..
    · exact s.withBench_keeps (s.fence_same p).keeps

@[simp] theorem State.moveTile_keeps (c i) : s.Keeps (s.moveTile c i) := by
  unfold State.moveTile
  extract_lets +onlyGivenNames t
  split
  · exact .rfl
  · exact State.Same.trans_keeps (by simp) (State.restoreOrDefer_keeps ..)

@[simp] theorem State.moveCourt_keeps (c) : s.Keeps (s.moveCourt c) := by
  unfold State.moveCourt
  generalize List.range 64 = l
  exact s.withBench_keeps (foldl_keeps (fun u i => u.moveTile_keeps c i) l s)

@[simp] theorem State.courtFails_keeps (c) : s.Keeps (s.courtFails c) := by
  unfold State.courtFails
  split
  · exact State.moveCourt_keeps ..
  · exact State.selfSendOff_keeps ..

@[simp] theorem State.unitFails_keeps (u arg) : s.Keeps (s.unitFails u arg) := by
  unfold State.unitFails
  split
  · exact State.Same.trans_keeps (by simp) (State.tileFails_keeps ..)
  · exact State.Same.trans_keeps (by simp) (State.courtFails_keeps ..)
  · dsimp only
    split <;> exact State.Same.keeps (by simp)
  · exact State.Same.trans_keeps (by simp) (State.selfSendOff_keeps ..)
  · exact State.Same.keeps (by simp)

@[simp] theorem State.mgmtRestart_keeps (other) : s.Keeps (s.mgmtRestart other) := by
  unfold State.mgmtRestart
  split
  · exact State.Same.keeps (by simp)
  split
  · exact .rfl
  · extract_lets +onlyGivenNames s1
    have h1 : s.Keeps s1 := s.abortAllMbx_keeps.trans_same (s.abortAllMbx.endReached_same _)
    exact h1.trans (by simp)

@[simp] theorem State.mgmtDone_keeps : s.Keeps s.mgmtDone := by
  unfold State.mgmtDone
  extract_lets +onlyGivenNames f e s0 sf s1 s2
  have h0 : s.Keeps s0 := State.Same.trans_keeps (by simp [e]) (foldl_keeps (fun u _ => u.restoreTile_keeps ..) _ _)
  have hf : s0.Same sf :=
    State.Same.trans (foldl_same _ (fun u _ => by simp) _ _) (foldl_same _ (fun u _ => by simp) _ _)
  have h1 : sf.Keeps s1 := foldl_keeps (fun u _ => (u.rePair_onlyTiles ..).keeps) _ _
  have h2 : s1.Same s2 :=
    ⟨memsOf_map (fun e => by split <;> simp) _, rfl, rfl, rfl, rfl, rfl, rfl, rfl, rfl, rfl, rfl, rfl, rfl⟩
  exact (((h0.trans_same hf).trans h1).trans_same h2).trans_same (by simp)

@[simp] theorem State.takeTile_keeps (t) : s.Keeps (s.takeTile t) := by
  unfold State.takeTile
  split
  · next i p hi _ =>
    have load {u : State} (hu : u.boot = s.boot) (q) : u.Keeps (u.loadTaken t q i) := by
      unfold State.loadTaken
      split
      · exact .rfl
      · exact u.setTile_keeps fun _ hs => by
          rw [State.applyKept_mem]
          exact Boot.image_ok (hu ▸ hs) hi
    have hboot : (s.loadTaken t p i).boot = s.boot := by
      unfold State.loadTaken
      split <;> rfl
    extract_lets +onlyGivenNames s1 s2
    have h2 : s1.Keeps s2 := by
      simp only [s2]
      split
      · exact load hboot _
      · exact .rfl
    exact ((load rfl p).trans h2).trans_same (by simp)
  · exact .rfl

@[simp] theorem State.takeover_keeps (d) : s.Keeps (s.takeover d) := by
  unfold State.takeover
  split
  · exact .rfl
  · extract_lets +onlyGivenNames courts s1 s2
    have h1 : s.Keeps s1 := foldl_keeps (fun u c => foldl_keeps (fun v i => v.takeTile_keeps _) _ _) _ _
    have h2 : s1.Same s2 := foldl_same _ (fun u k => by split <;> simp) _ _
    exact (h1.trans_same h2).trans_same (by simp)

@[simp] theorem State.fwMember_keeps (p src b) : s.Keeps (s.fwMember p src b) := by
  unfold State.fwMember
  split
  case h_3 =>
    unfold when_
    split
    · exact State.takeover_keeps ..
    · exact .rfl
  all_goals exact State.Same.keeps (by simp [when_])

@[simp] theorem State.confirmed_keeps (captain number cap epoch noticeSeq) :
    s.Keeps (s.confirmed captain number cap epoch noticeSeq) := by
  unfold State.confirmed
  extract_lets +onlyGivenNames f
  split
  · exact .rfl
  · extract_lets +onlyGivenNames lag ask g at_ good s1 s2
    have hask (u : State) : u.Same (ask u) := by
      simp only [ask]
      split <;> simp
    have h1 : s.Same s1 := State.Same.trans (by simp) (hask _)
    have h2 : s.Same s2 := by
      simp only [s2]
      split
      · exact h1.trans (by simp)
      · exact h1
    split
    · exact (State.Same.trans (by simp) (hask _)).keeps
    split
    · split
      · exact h2.trans_keeps (State.finishMbx_keeps ..)
      · exact h2.keeps
    · exact h2.keeps

@[simp] theorem State.loadIr_keeps (ir) : s.Keeps (s.loadIr ir) := by
  unfold State.loadIr
  extract_lets +onlyGivenNames s1
  have h1 : s.Keeps s1 := by
    simp only [s1]
    split
    · exact State.deviceRestart_keeps ..
    · exact .rfl
  exact h1.trans_same (by simp)

@[simp] theorem State.leaveSleep_keeps (w) : s.Keeps (s.leaveSleep w) := by
  unfold State.leaveSleep
  extract_lets +onlyGivenNames t old st u u1 u2 u3 s1 e s2
  have h1 : s.Keeps s1 := by
    simp only [s1]
    split
    · exact ((State.Same.trans_keeps (by simp [t]) (State.deviceRestart_keeps t none))).trans_same (by simp)
    · have hu1 : s.Same u1 := by
        simp only [u1]
        split <;> simp [u, t]
      have hu3 : u1.Same u3 := by simp [u3, u2]
      exact ((hu1.trans hu3).trans (foldl_same _ (fun u k => by simp) _ _)).keeps
  have h2 : s1.Same s2 := by simp [s2]
  exact (h1.trans_same h2).trans_same (by simp)

end Sys2Proof.Machine
end

section
/-! SUPPORT. Scrubbing, packets for the firmware, received frames and what a tick does (R221, R313, R343 to R377). -/

namespace Sys2Proof.Machine
open Sys2Proof.Safety

variable (s : State)

@[simp] theorem State.scrubFix_keeps (m word) : s.Keeps (s.scrubFix m word) := by
  cases m with
  | tile p =>
    unfold State.scrubFix
    extract_lets f add
    dsimp -zeta only
    extract_lets +onlyGivenNames r e s1 a s2
    have h1 : s.Same s1 := by simp [s1, e]
    have h2 : s1.Same s2 := by simp [s2]
    split
    · refine (h1.trans h2).trans_keeps ?_
      split
      · split
        · exact (State.promote_onlyTiles ..).keeps
        · exact .rfl
      · split
        · split
          · exact .rfl
          · exact State.substituteLowest_keeps ..
        · exact .rfl
    · exact h1.keeps
  | buffers | mgmt | model =>
    simp only [State.scrubFix]
    split <;> exact State.Same.keeps (by simp)

@[simp] theorem State.forFirmware_keeps (p src b) : s.Keeps (s.forFirmware p src b) := by
  unfold State.forFirmware
  split
  · exact State.fwMember_keeps ..
  · exact State.Same.keeps (by simp)

@[simp] theorem State.tickMembers_keeps : s.Keeps s.tickMembers := by
  unfold State.tickMembers
  split
  · exact State.Same.trans_keeps (by simp) (foldl_keeps (fun u _ => u.fwMember_keeps ..) _ _)
  · exact .rfl

@[simp] theorem State.elected_keeps : s.Keeps s.elected := by
  unfold State.elected
  exact State.Same.trans_keeps (by simp) (foldl_keeps (fun u _ => u.forFirmware_keeps ..) _ _)

@[simp] theorem State.hearStatus_keeps (src number) : s.Keeps (s.hearStatus src number) := by
  unfold State.hearStatus
  extract_lets f s1 answer other
  have h1 : s.Same s1 := by simp [s1]
  have hans (u : State) : u.Keeps (answer u) := by
    simp only [answer]
    split
    · exact State.confirmed_keeps ..
    · exact (State.confirmTo_same ..).keeps
  refine h1.trans_keeps ?_
  split
  · exact State.Same.keeps (by simp)
  split
  · exact .rfl
  · refine State.Keeps.trans ?_ (hans _)
    split
    · exact .rfl
    · exact State.elected_keeps _

@[simp] theorem State.takeFlood_keeps (p k seq n) : s.Keeps (s.takeFlood p k seq n) := by
  unfold State.takeFlood
  split
  · exact (State.flood_same ..).trans_keeps (State.forFirmware_keeps ..)
  · exact .rfl

@[simp] theorem State.feedPush_onlyBuffers (f q e) : s.OnlyBuffers (s.feedPush f q e) := by
  unfold State.feedPush
  dsimp only
  split
  · simp +contextual -implicitDefEqProofs
  · exact State.Same.onlyBuffers (by simp)

@[simp] theorem State.firmwareFrees_onlyBuffers (f) : s.OnlyBuffers (s.firmwareFrees f) := by
  unfold State.firmwareFrees
  split
  · exact State.Same.trans_onlyBuffers (by simp) (foldl_onlyBuffers (fun u _ => u.poolFreeOp_onlyBuffers ..) _ _)
  · exact .rfl

@[simp] theorem State.passToFirmware_onlyBuffers (f h frame st) : s.OnlyBuffers (s.passToFirmware f h frame st) := by
  unfold State.passToFirmware
  extract_lets s1 e s2
  exact State.Same.trans_onlyBuffers (by simp [s2, s1]) (State.firmwareFrees_onlyBuffers ..)

@[simp] theorem State.feedFrame_onlyBuffers (f frame st) : s.OnlyBuffers (s.feedFrame f frame st) := by
  unfold State.feedFrame
  extract_lets rule r
  have hr : s.OnlyBuffers r.1 := State.take_onlyBuffers ..
  split
  · exact hr.trans_same (by simp)
  · extract_lets s1
    have h1 : s.OnlyBuffers s1 := hr.trans (State.writeBuf_onlyBuffers ..)
    match rule with
    | none => exact h1.trans (State.passToFirmware_onlyBuffers ..)
    | some n =>
      dsimp -zeta only
      extract_lets s2 x
      have h2 : s.OnlyBuffers s2 := h1.trans_same (by simp [s2])
      split
      · exact h2.trans_same (by simp)
      · exact h2.trans (State.feedPush_onlyBuffers ..)

@[simp] theorem State.feedDrain_onlyBuffers (f l) : s.OnlyBuffers (s.feedDrain f l) := by
  induction l generalizing s with
  | nil => exact State.Same.onlyBuffers (by simp [State.feedDrain])
  | cons e r ih =>
    unfold State.feedDrain
    split
    · exact State.Same.onlyBuffers (by simp)
    · exact (State.feedFrame_onlyBuffers ..).trans (ih _)

@[simp] theorem State.feedRetry_onlyBuffers (f) : s.OnlyBuffers (s.feedRetry f) := by
  unfold State.feedRetry
  extract_lets s1
  have h1 : s.OnlyBuffers s1 := by
    simp only [s1]
    split
    · exact State.feedPush_onlyBuffers ..
    · exact .rfl
  exact h1.trans (State.feedDrain_onlyBuffers ..)

@[simp] theorem State.feedAccept_onlyBuffers (f bytes) : s.OnlyBuffers (s.feedAccept f bytes) := by
  unfold State.feedAccept
  extract_lets s1 q q1 s2
  exact State.Same.trans_onlyBuffers (by simp [s2, s1]) (State.feedDrain_onlyBuffers ..)

@[simp] theorem State.receiveFrame_onlyBuffers (f k) : s.OnlyBuffers (s.receiveFrame f k) := by
  unfold State.receiveFrame
  extract_lets t n
  refine State.OnlyBuffers.trans (t := t) (State.feedRetry_onlyBuffers ..) ?_
  split_ifs
  on_goal 6 => exact State.feedAccept_onlyBuffers ..
  all_goals exact State.Same.onlyBuffers (by simp)

@[simp] theorem State.tickPairs_onlyTiles : s.OnlyTiles s.tickPairs := by
  unfold State.tickPairs
  split
  · exact .rfl
  · exact State.Same.trans_onlyTiles (by simp) (foldl_onlyTiles (fun u _ => u.rePair_onlyTiles ..) _ _)

@[simp] theorem State.tickMgmt_keeps : s.Keeps s.tickMgmt := by
  unfold State.tickMgmt
  split
  · exact State.mgmtDone_keeps _
  · exact .rfl

@[simp] theorem State.tickFeed_onlyBuffers (f) : s.OnlyBuffers (s.tickFeed f) := by
  unfold State.tickFeed
  extract_lets v s1 s2
  have h1 : s.OnlyBuffers s1 := by
    simp only [s1]
    split
    · exact State.feedRetry_onlyBuffers ..
    · exact .rfl
  have h2 : s1.OnlyBuffers s2 := by
    simp only [s2]
    split
    · exact .rfl
    · exact State.firmwareFrees_onlyBuffers ..
  split
  · exact (h1.trans h2).trans_same (by simp)
  · exact h1.trans h2

@[simp] theorem State.tickRun_keeps (edge) : s.Keeps (s.tickRun edge) := by
  unfold State.tickRun
  generalize List.range 17 = courts, List.range 4 = feeds
  extract_lets s1 s2 s3
  have h2 : s.Same s2 := by simp [s2, s1]
  have h3 : s2.Keeps s3 := by
    have hlull : s2.Same (courts.foldl State.tickLull s2) := foldl_same _ (fun u c => u.tickLull_same c) _ _
    have hrails : s2.Same (courts.foldl State.tickLull s2).tickRails.tickHalts := hlull.trans (by simp)
    exact (hrails.trans_keeps (State.tickMgmt_keeps _)).trans (State.tickPairs_onlyTiles _).keeps
  have hfeed := foldl_keeps (f := fun u f => (State.tickFeed u f).tickFeedTx f)
    (fun u f => ((u.tickFeed_onlyBuffers f).trans_same (by simp)).keeps) feeds s3
  have hlinks := ((h2.trans_keeps h3).trans hfeed).trans_same (State.tickLinks_same _)
  exact (hlinks.trans (State.tickMembers_keeps _)).trans_same (by simp)

end Sys2Proof.Machine
end

section
/-! SUPPORT. Gate operations and the frame of one tile instruction (R69, R93, R95, R111, R335). -/

namespace Sys2Proof.Machine
open Sys2Proof.Safety

variable (s : State)

/-- A gate operation keeps the memories where its effect does (R111, R335). -/
theorem State.gateOp_keeps (p addr opc target entry) {apply : State → Nat → State × Option Result}
    (ha : ∀ (u : State) n, u.Keeps (apply u n).1) :
    s.Keeps ((s.gateOp p addr opc target entry apply).getD (s, none)).1 := by
  have h0 : s.Same (s.setTile p { s.tile p with opnum := (s.tile p).opnum + 1 }) := by simp
  have h1 := h0.trans_keeps (ha _ (s.tile p).opnum.toNat)
  unfold State.gateOp
  split
  · exact .rfl
  · dsimp only
    split
    · exact h1
    · dsimp only [Option.getD_some]
      split
      · exact h1.trans (State.diverge_onlyTiles ..).keeps
      · exact h1.trans_same (by simp)
    · split
      · exact .rfl
      · split
        · exact (h0.trans (State.setDuplex_same ..)).keeps
        · dsimp only [Option.getD_some]
          exact h0.trans_keeps (State.diverge_onlyTiles ..).keeps
    · exact (h0.trans (State.setCatchUp_same ..)).keeps

theorem State.gateDone_same {p : Nat} {t : Tile} (h : t.mem = (s.tile p).mem) (c addr arg l) :
    s.Same ((s.setTile p (if c = true then t.raise 12 else t)).noteFails p addr arg l) := by
  have ht : (if c = true then t.raise 12 else t).mem = (s.tile p).mem := by split <;> simp [h]
  simp [ht]

theorem State.gateInstr_keeps (p addr opc target entry r)
    {apply : State → Nat → State × Option Result} {fin : Option Result → Tile → Tile}
    (ha : ∀ (u : State) n, u.Keeps (apply u n).1) (hf : ∀ res t, (fin res t).mem = t.mem) :
    s.Keeps (s.gateInstr p addr opc target entry r apply fin) := by
  have ended (u : State) (res : Option Result) (arg l) :
      u.Same ((u.setTile p (if res.isNone then (fin res (u.tile p)).raise 12 else fin res (u.tile p))).noteFails p addr
        arg l) := State.gateDone_same u (hf ..) ..
  have lost := s.gateOp_keeps p addr opc target entry (apply := fun s1 n => (s1, s1.outcomeOf addr p n))
    fun u n => .rfl
  have done := s.gateOp_keeps p addr opc target entry ha
  unfold State.gateInstr
  dsimp only
  split
  · exact done.trans_same (ended ..)
  · exact done.trans_same (ended ..)
  · exact done.trans_same (ended ..)
  · exact lost.trans_same (ended ..)
  · next applied _ =>
    cases applied with
    | true => exact done.trans_same (ended _ none ..)
    | false => exact lost.trans_same (ended _ none ..)

theorem Tile.push_mem {n u : Tile} {a : W16} (hu : n.push a = some u) : u.mem = n.mem := by
  unfold Tile.push at hu
  split at hu <;> cases hu
  rfl

theorem Tile.pop_mem {n u : Tile} {a : W16} (hu : n.pop = some (a, u)) : u.mem = n.mem := by
  unfold Tile.pop at hu
  split at hu <;> cases hu
  rfl

@[simp] theorem Tile.clearPend_mem (t : Tile) (m) : (t.clearPend m).mem = t.mem := (rfl)

@[simp] theorem State.sysWrite_mem (p) (t : Tile) (a : Nat) (v : Byte) : (s.sysWrite p t a v).mem = t.mem := by
  unfold State.sysWrite
  split
  case h_1 | h_2 | h_4 => simp
  case h_30 => split <;> simp
  all_goals rfl

/-! ### One tile instruction (R69, R93, R95) -/

/-- A tile whose memory is canonical where the memories of `s` are. -/
def Tile.OkOf (s : State) (t : Tile) : Prop :=
  TilesOk (memsOf s.tiles) ∧ SlotsOk s.boot.slots → BytesOk t.mem

theorem Tile.OkOf.of_mem {s : State} {t u : Tile} (h : t.OkOf s) (hu : u.mem = t.mem) : u.OkOf s := fun hs =>
  hu ▸ h hs

theorem State.Keeps.tile {s u : State} (h : s.Keeps u) (p : Nat) : (u.tile p).OkOf s := fun hs => (h.1 hs).1 p

theorem State.Keeps.setTile {s u : State} (h : s.Keeps u) {t : Tile} (ht : t.OkOf s) (p : Nat) :
    s.Keeps (u.setTile p t) := by
  obtain ⟨htiles, hrest⟩ := h
  exact ⟨fun hs => ⟨State.setTile_ok (htiles hs).1 (ht hs) p, (htiles hs).2⟩, hrest⟩

/-- An instruction's effect on a device that comes from `s` keeps every memory of `s`. -/
def Eff.KeepsOf (s : State) : Eff → Prop
  | .go n | .jump n _ => n.OkOf s
  | .act n post => n.OkOf s ∧ ∀ u : State, s.Keeps u → s.Keeps (post u)
  | .own f => ∀ u : State, s.Keeps u → s.Keeps (f u)
  | .wait _ | .trap _ _ | .bad _ => True

/-- What comes of a happening keeps every memory of `s`. -/
def Out.KeepsOf (s : State) : Out → Prop
  | .next t => s.Keeps t
  | _ => True

theorem ok_keeps {s t : State} (h : s.Keeps t) (c) : Out.KeepsOf s (ok c t) := by
  unfold ok
  split
  · exact h
  · trivial

theorem keeps_when {s u s' : State} (h : s.Keeps s') (hu : s.Keeps u) (c) : s.Keeps (when_ c s' u) := by
  unfold when_
  split
  · exact h
  · exact hu

theorem State.badTrap_same (s : State) (p w c a pc) : s.Same ((s.noteBad p w).tileTrap p c a (s.tile p) pc) :=
  (s.noteBad_same p w).trans (State.tileTrap_same _ (by
    rw [State.tile_mem, State.tile_mem, (s.noteBad_same p w).1]) ..)

section Step
variable {s : State} {body : Tile → Tile → Eff}

theorem State.tileStep_keeps {u : State} (hu : s.Keeps u)
    (hb : ∀ o n : Tile, o.OkOf s → n.OkOf s → (body o n).KeepsOf s) (p len x dec) :
    s.Keeps (u.tileStep p len x dec body) := by
  have ht := hu.tile p
  have hl : (u.tile p).land.OkOf s := ht.of_mem (Tile.land_mem _)
  have h1 := hb _ _ ht hl
  have htrap (c a) : s.Keeps (u.tileTrap p c a (u.tile p) (u.tile p).pc) :=
    hu.trans_same (State.tileTrap_same u rfl ..)
  have hbad (w c a) : s.Keeps ((u.noteBad p w).tileTrap p c a (u.tile p) (u.tile p).pc) :=
    hu.trans_same (u.badTrap_same ..)
  unfold State.tileStep
  dsimp only
  split
  · exact hbad _ _ _
  split
  · exact htrap _ _
  split
  · split <;> rename_i hbody <;> rw [hbody] at h1
    · exact hu.setTile (Tile.OkOf.of_mem h1 (Tile.seq_mem ..)) p
    · exact hu.setTile (ht.of_mem (by simp)) p
    · exact hu.setTile (Tile.OkOf.of_mem h1 (Tile.jumpTo_mem ..)) p
    · exact htrap _ _
    · exact hbad _ _ _
    · exact h1.2 _ (hu.setTile (h1.1.of_mem (Tile.seq_mem ..)) p)
    · exact h1 u hu
  · exact hu.setTile (hl.of_mem (Tile.seq_mem ..)) p

theorem State.tileExec_keeps (p len x dec)
    (hb : ∀ o n : Tile, o.OkOf s → n.OkOf s → (body o n).KeepsOf s) :
    Out.KeepsOf s (s.tileExec p len x dec body) :=
  ok_keeps (keeps_when (State.tileStep_keeps .rfl hb ..) .rfl _) _

theorem State.tileExecW_keeps (p len x dec key)
    (hb : ∀ o n : Tile, o.OkOf s → n.OkOf s → (body o n).KeepsOf s) :
    Out.KeepsOf s (s.tileExecW p len x dec key body) := by
  refine ok_keeps ?_ _
  split
  · exact State.tileStep_keeps (State.resumeTile_same ..).keeps hb ..
  · exact keeps_when (State.tileStep_keeps .rfl hb ..) .rfl _

end Step

end Sys2Proof.Machine
end

section
/-! SUPPORT. The tile instructions (R98 to R133). -/

namespace Sys2Proof.Machine
open Sys2Proof.Safety

variable {s : State}

@[simp] theorem Tile.setGuards_mem (t : Tile) (v) : (t.setGuards v).mem = t.mem :=
  List.foldlRecOn (motive := fun u : Tile => u.mem = t.mem) _ _ rfl fun u hu i _ => by simp [hu]

@[simp] theorem Tile.popInto_mem (t : Tile) (d g tag v) : (t.popInto d g tag v).mem = t.mem := by simp [Tile.popInto]

@[simp] theorem Tile.snapPcnt_mem (t : Tile) (a) : (t.snapPcnt a).mem = t.mem := by
  unfold Tile.snapPcnt
  split <;> rfl

theorem callEff_keeps {o n : Tile} (hn : n.OkOf s) (x len target) : (callEff o n x len target).KeepsOf s := by
  unfold callEff
  split
  · trivial
  · next hu => exact hn.of_mem (Tile.push_mem hu)

theorem retEff_keeps {n : Tile} (hn : n.OkOf s) :
    Eff.KeepsOf s (match n.pop with
      | none => .trap 4 0
      | some (a, n1) => .jump n1 a) := by
  split
  · trivial
  · next hu => exact hn.of_mem (Tile.pop_mem hu)

theorem loadEff_keeps {o n : Tile} (hn : n.OkOf s) (wide a dest) : (loadEff o n wide a dest).KeepsOf s := by
  unfold loadEff
  generalize (if wide then 2 else 1) = len
  split
  · trivial
  · exact hn

theorem storeByteEff_keeps {o n : Tile} (hn : n.OkOf s) (a v) : (storeByteEff o n a v).KeepsOf s := by
  unfold storeByteEff
  split
  · trivial
  · exact fun hs => Tile.store_ok (hn hs) a v

theorem storeWordEff_keeps {o n : Tile} (hn : n.OkOf s) (a v) : (storeWordEff o n a v).KeepsOf s := by
  unfold storeWordEff
  split
  · trivial
  · exact fun hs => Tile.storeW_ok (hn hs) a v

theorem execMov_keeps (p f) : Out.KeepsOf s (execMov p f s) := by
  unfold execMov
  split
  · exact State.tileExec_keeps _ _ _ _ fun o n _ hn => hn.of_mem (by simp)
  · split
    · exact ok_keeps (keeps_when (State.tileStep_keeps .rfl (body := fun _ n => .go n) (fun _ _ _ hn => hn) ..) .rfl
        _) _
    · exact ok_keeps .rfl _

/-! ### The custom instruction (R121 to R133) -/

@[simp] theorem Tile.uWrite_mem (t : Tile) (r wide v) : (t.uWrite r wide v).mem = t.mem := by
  cases r <;> simp [Tile.uWrite]

@[simp] theorem UCtx.write_mems (k : UCtx) (r wide v) :
    (k.write r wide v).m.mem = k.m.mem ∧ (k.write r wide v).n.mem = k.n.mem := by simp [UCtx.write]

@[simp] theorem UCtx.land_mems (k : UCtx) : k.land.m.mem = k.m.mem ∧ k.land.n.mem = k.n.mem := by
  unfold UCtx.land
  split
  · exact ⟨rfl, rfl⟩
  · exact UCtx.write_mems ..

@[simp] theorem UCtx.setFl_mems (k : UCtx) (f) : (k.setFl f).m.mem = k.m.mem ∧ (k.setFl f).n.mem = k.n.mem :=
  ⟨rfl, rfl⟩

@[simp] theorem UCtx.finish_mem (k : UCtx) : k.finish.mem = k.n.mem := by
  unfold UCtx.finish
  split <;> rfl

/-- The memory that an entry works on, and the one it leaves, are canonical where the memories of `s` are. -/
def UCtx.OkOf (s : State) (k : UCtx) : Prop := k.m.OkOf s ∧ k.n.OkOf s

theorem UCtx.OkOf.of_mems {k k' : UCtx} (h : k.OkOf s) (hm : k'.m.mem = k.m.mem) (hn : k'.n.mem = k.n.mem) :
    k'.OkOf s := ⟨h.1.of_mem hm, h.2.of_mem hn⟩

/-- A micro-op other than a store leaves the memory. -/
theorem uStep_ok {c u j} {k k' : UCtx} (hk : k.OkOf s) (h : uStep c u k = .ok (k', j)) : k'.OkOf s := by
  unfold uStep at h
  dsimp only at h
  split at h
  · generalize (if uW u = true then 2 else 1) = len at h
    split at h <;> cases h
    exact hk.of_mems k.land_mems.1 k.land_mems.2
  · (repeat' split at h) <;> cases h <;> exact hk.of_mems (by simp) (by simp)

theorem Tile.storeAll_ok {t : Tile} (h : BytesOk t.mem) (ws) : BytesOk (t.storeAll ws).mem := by
  induction ws generalizing t with
  | nil => exact h
  | cons e r ih => exact ih (Tile.store_ok h _ _)

theorem Tile.storeRun_ok {t u : Tile} {ws} (h : t.OkOf s) (hu : t.storeRun ws = .ok u) : u.OkOf s := by
  unfold Tile.storeRun at hu
  dsimp only at hu
  split at hu <;> cases hu
  exact fun hs => Tile.storeAll_ok (h hs) ws

theorem uRun_ok {c fuel us} {k k' : UCtx} (hk : k.OkOf s) (h : uRun c fuel us k = .ok k') : k'.OkOf s := by
  induction fuel generalizing us k with
  | zero => cases h; exact hk
  | succ fuel ih =>
    cases us with
    | nil => cases h; exact hk
    | cons u r =>
      unfold uRun at h
      split at h
      · split at h
        · cases h
        · next hr =>
          cases h
          have hm := Tile.storeRun_ok hk.1 hr
          exact ⟨hm.of_mem rfl, hm.of_mem rfl⟩
      · split at h
        · cases h
        · next hu => exact ih (uStep_ok hk hu) h

theorem custPlain_keeps {k : UCtx} (hk : k.OkOf s) (f us) : (custPlain f us k).KeepsOf s := by
  unfold custPlain
  split
  · trivial
  · next hr => exact ⟨(uRun_ok hk hr).2.of_mem (UCtx.finish_mem _), fun u hu => hu⟩

theorem State.custom_keeps (p x c) {run : CustomArgs → List W24 → UCtx → Eff}
    (hr : ∀ f us k, k.OkOf s → (run f us k).KeepsOf s) : Out.KeepsOf s (s.custom p x c run) :=
  State.tileExec_keeps _ _ _ _ fun o n ho hn => by
    dsimp only
    split
    · trivial
    · split
      · trivial
      · exact hr _ _ _ ⟨ho, hn⟩

/-! ### The system instructions (R83 to R87, R110 to R118) -/

theorem execSend_keeps (p x b g) : Out.KeepsOf s (execSend p x b g s) :=
  State.tileExec_keeps _ _ _ _ fun o n _ hn => by
    dsimp only
    split
    · trivial
    · split
      · trivial
      · exact ⟨hn, fun u hu => hu.trans (State.sendAt_onlyTiles ..).keeps⟩

theorem execQpush_keeps (p x d q g r) : Out.KeepsOf s (execQpush p x d q g r s) :=
  State.tileExecW_keeps _ _ _ _ _ fun o n _ hn => by
    (repeat' split) <;> try trivial
    exact ⟨hn, fun u hu => hu.trans (State.gateInstr_keeps u _ _ _ _ _ _ (fun v m => (State.gatePush_same ..).keeps)
      fun _ _ => by simp)⟩

theorem execQpop_keeps (p x d q g r) : Out.KeepsOf s (execQpop p x d q g r s) :=
  State.tileExecW_keeps _ _ _ _ _ fun o n _ hn => by
    (repeat' split) <;> try trivial
    exact ⟨hn, fun u hu => hu.trans (State.gateInstr_keeps u _ _ _ _ _ _ (fun v m => (State.gatePop_same ..).keeps)
      fun res _ => by cases res <;> simp)⟩

theorem execTready_keeps (p x d g r) : Out.KeepsOf s (execTready p x d g r s) :=
  State.tileExecW_keeps _ _ _ _ _ fun o n _ hn => by
    split
    · trivial
    · split
      · trivial
      · refine ⟨hn, fun u hu => hu.trans (State.gateInstr_keeps u _ _ _ _ _ _ (fun v m => ?_) fun _ _ => by simp)⟩
        split
        · exact (State.gateBeaten_same ..).keeps
        · exact (State.gateReady_same ..).keeps

theorem execTcancel_keeps (p x d g r) : Out.KeepsOf s (execTcancel p x d g r s) :=
  State.tileExecW_keeps _ _ _ _ _ fun o n _ hn => by
    split
    · trivial
    · split
      · trivial
      · exact ⟨hn, fun u hu => hu.trans (State.gateInstr_keeps u _ _ _ _ _ _
          (fun v m => (State.gateCancel_same ..).keeps) fun _ _ => by simp)⟩

theorem execTdone_keeps (p x r) : Out.KeepsOf s (execTdone p x r s) :=
  State.tileExecW_keeps _ _ _ _ _ fun o n _ hn => by
    dsimp only
    (repeat' split) <;> try trivial
    refine ⟨hn, fun u hu => hu.trans (State.gateInstr_keeps u _ _ _ _ _ _
      (fun v m => (State.gateTdone_same ..).keeps) fun res t => ?_)⟩
    split <;> rfl

theorem execTime_keeps (p x b g r) : Out.KeepsOf s (execTime p x b g r s) :=
  State.tileExec_keeps _ _ _ _ fun o n _ hn => by
    have hm : ((n.setG g false).raise 12).OkOf s := hn.of_mem (by simp)
    cases r <;> dsimp only
    case lost | missed => exact ⟨hm, fun u hu => hu.trans_same (by simp)⟩
    case beaten => exact hm
    all_goals
      split
      · trivial
      · exact fun hs => by simpa using Tile.storeBytes_ok (hn hs) _ _

theorem execStim_keeps (p x port d n) : Out.KeepsOf s (execStim p x port d n s) :=
  State.tileExec_keeps _ _ _ _ fun o t _ ht => by
    split
    · trivial
    · refine ⟨ht, fun u hu => ?_⟩
      dsimp only
      split
      · exact hu.trans_same (by simp)
      · exact hu

theorem execSleep_keeps (p x) : Out.KeepsOf s (execSleep p x s) :=
  State.tileExec_keeps _ _ _ _ fun o n _ hn => ⟨hn, fun u hu => by
    dsimp only
    split
    · exact hu
    · refine hu.setTile ?_ p
      exact hu.tile p⟩

theorem execRete_keeps (p x) : Out.KeepsOf s (execRete p x s) :=
  State.tileExec_keeps _ _ _ _ fun o n _ hn => by
    (repeat' split) <;> [trivial; exact hn.of_mem rfl; exact hn.of_mem rfl]

theorem execTrap_keeps (p x imm) : Out.KeepsOf s (execTrap p x imm s) :=
  State.tileExec_keeps _ _ _ _ fun _ _ _ hn => ⟨hn, fun u hu => hu.trans_same (State.tileTrap_same u rfl ..)⟩

theorem execFence_keeps (p x) : Out.KeepsOf s (execFence p x s) :=
  State.tileExec_keeps _ _ _ _ fun o n _ hn => ⟨hn, fun u hu => by
    refine hu.setTile ?_ p
    exact hu.tile p⟩

theorem execSets_keeps (p x src sys) : Out.KeepsOf s (execSets p x src sys s) :=
  State.tileExec_keeps _ _ _ _ fun o n _ hn => hn.of_mem (by simp)

/-! ### One instruction of a debug step (R488) -/

theorem tileRun_keeps (i : Instr) : Out.KeepsOf s (tileRun i s) := by
  cases i
  case mov => exact execMov_keeps _ _
  case add | adc | sub | sbc | and | or | xor | mul | muls | not | neg | inc | dec | swap | movp | movpw | movwp |
      addpw | addpb | movi | addi | movip | addip | subi | adci | sbci | andi | ori | xori | shl | shr | asr | rol |
      ror | rlc | rrc | lea | jmp | bra | jmpp | nop | cmpg | cmpgi | dadd | dsub | dadj | dshl | dshr | b2d | d2b |
      bset | bclr | btgl | btst | gand | gor | gxor | gmov | gtod | dtog | gets =>
    exact State.tileExec_keeps _ _ _ _ fun o n _ hn => hn.of_mem (by simp)
  case customInstruction => exact State.custom_keeps _ _ _ fun f us k hk => custPlain_keeps hk f us
  case ld | ldw | ldp => exact State.tileExec_keeps _ _ _ _ fun o n _ hn => loadEff_keeps hn _ _ _
  case st => exact State.tileExec_keeps _ _ _ _ fun o n _ hn => storeByteEff_keeps hn _ _
  case stw | stp => exact State.tileExec_keeps _ _ _ _ fun o n _ hn => storeWordEff_keeps hn _ _
  case call | callp => exact State.tileExec_keeps _ _ _ _ fun o n _ hn => callEff_keeps hn _ _ _
  case ret => exact State.tileExec_keeps _ _ _ _ fun o n _ hn => retEff_keeps hn
  case djnz =>
    exact State.tileExec_keeps _ _ _ _ fun o n _ hn => by
      dsimp only
      split <;> exact hn.of_mem (by simp)
  case bcc => exact State.tileExec_keeps _ _ _ _ fun o n _ hn => by split <;> exact hn
  case send p x b g => exact execSend_keeps p x b g
  case qpush p x d q g r => exact execQpush_keeps p x d q g r
  case qpop p x d q g r => exact execQpop_keeps p x d q g r
  case tready p x d g r => exact execTready_keeps p x d g r
  case tcancel p x d g r => exact execTcancel_keeps p x d g r
  case tdone p x r => exact execTdone_keeps p x r
  case time p x b g r => exact execTime_keeps p x b g r
  case stim p x port d n => exact execStim_keeps p x port d n
  case sleep p x => exact execSleep_keeps p x
  case sets => exact execSets_keeps _ _ _ _
  case rete p x => exact execRete_keeps p x
  case trap p x imm => exact execTrap_keeps p x imm
  case fence p x => exact execFence_keeps p x
  all_goals exact State.Keeps.rfl

end Sys2Proof.Machine
end

section
/-! SUPPORT. Debug steps, accesses of unit space, requests served, and those inside a custom instruction (R132, R147,
R484, R488). -/

namespace Sys2Proof.Machine
open Sys2Proof.Safety

variable (s : State)

/-! ### Debug steps (R488) -/

@[simp] theorem State.runOne_keeps (p) : s.Keeps (s.runOne p) := by
  unfold State.runOne
  extract_lets x i
  have h1 := tileRun_keeps (s := s) i
  split
  · exact State.Same.keeps (by simp [x])
  · split
    · next hi => rw [hi] at h1; exact h1
    · exact .rfl

@[simp] theorem State.dbgStep_keeps (p) : s.Keeps (s.dbgStep p) := by
  unfold State.dbgStep
  extract_lets x s0 s1 s2 s3
  have ha : s.Same (s.askHalt p false) := by simp
  have hm : x.mem = ((s.askHalt p false).tile p).mem := by simp only [x, State.tile_mem, ha.1]
  have h0 : s.Same s0 := ha.trans (by simp [s0, hm])
  have h1 : s0.Keeps s1 := by
    simp only [s1]
    split
    · exact State.runOne_keeps ..
    · exact .rfl
  have h2 : s1.Keeps s2 := State.runOne_keeps ..
  have h3 : s2.Keeps s3 := by
    simp only [s3]
    split
    · exact State.runOne_keeps ..
    · exact .rfl
  split
  · exact (((h0.trans_keeps h1).trans h2).trans h3).trans_same (State.dbgHalt_same ..)
  · exact .rfl

@[simp] theorem State.writeDbgTile_keeps (op t) : s.Keeps (s.writeDbgTile op t) := by
  have h1 : s.Same (s.dbgName t) := by simp
  unfold State.writeDbgTile State.onDbgTile
  dsimp only
  split
  · exact .rfl
  · split
    · exact h1.keeps
    · split
      · refine h1.trans_keeps ?_
        split <;> simp +contextual -implicitDefEqProofs
      · exact h1.keeps

/-! ### Writes of unit space (R7, R198, R345, R484) -/

@[simp] theorem State.wrDebug_keeps (o v) : s.Keeps (s.wrDebug o v) := by
  unfold State.wrDebug
  dsimp only
  split
  · exact State.Same.keeps (by split <;> simp)
  split
  · exact .rfl
  split
  case h_2 => exact State.writeDbgTile_keeps ..
  all_goals exact State.Same.keeps (by simp)

@[simp] theorem State.wrWord_keeps (w a v) : s.Keeps (s.wrWord w a v) := by
  simp only [State.wrWord]
  split
  · exact State.Same.keeps (by simp)
  · exact foldl_keeps (fun u i => State.wrMbxByte_keeps ..) _ _
  all_goals (repeat' split) <;> simp +contextual -implicitDefEqProofs

@[simp] theorem State.wrFlit_keeps (w a bs) : s.Keeps (s.wrFlit w a bs) := by
  unfold State.wrFlit
  split
  · exact foldl_keeps (fun u i => State.wrMbxByte_keeps ..) _ _
  · split
    · exact State.wrWord_keeps ..
    · exact .rfl

@[simp] theorem State.wrFlits_keeps (w n a bs) : s.Keeps (s.wrFlits w n a bs) := by
  induction n generalizing s a bs with
  | zero => exact .rfl
  | succ n ih => exact (State.wrFlit_keeps ..).trans (ih ..)

@[simp] theorem State.serveWindow_onlyTiles (m p) : s.OnlyTiles (s.serveWindow m p).1 := by
  simp +contextual -implicitDefEqProofs [State.serveWindow]

@[simp] theorem State.wrUnit_keeps (w a bs) : s.Keeps (s.wrUnit w a bs).1 := by
  unfold State.wrUnit
  dsimp only
  split
  · exact State.writeModel_keeps ..
  split
  · exact (State.writeBuf_onlyBuffers ..).keeps
  split
  · simpa using fun h : BytesOk s.mgmt.mem => h.write (a - 0x2000000) bs
  split
  · exact (State.serveWindow_onlyTiles ..).keeps
  · exact State.wrFlits_keeps ..

@[simp] theorem State.wrBeats_keeps (w a n bs) : s.Keeps (s.wrBeats w a n bs).1 := by
  induction n generalizing s bs with
  | zero => exact .rfl
  | succ n ih =>
    unfold State.wrBeats
    extract_lets b s1 s2 r
    have h1 : s.Keeps s1 := State.wrFlit_keeps ..
    split
    · refine Keeps.trans (t := s2) ?_ (ih ..)
      simp only [s2]
      split
      · exact h1.trans (State.wrFlit_keeps ..)
      · exact h1
    · split
      · exact (State.wrUnit_keeps ..).trans (ih ..)
      · exact State.wrUnit_keeps ..

/-! ### Requests served (R147 to R157, R318, R345) -/

@[simp] theorem State.rdUnit_keeps (w a n) : s.Keeps (s.rdUnit w a n).1 := by
  simp only [State.rdUnit]
  (repeat' split) <;> simp +contextual -implicitDefEqProofs

@[simp] theorem State.serveUnit_keeps (m) : s.Keeps (s.serveUnit m).1 := by
  unfold State.serveUnit
  extract_lets w n again st r st1 r1 st2 r2
  have ht {u : State × Resp} (hu : s.Keeps u.1) : s.Keeps (again u).1 := by
    simp only [again]
    split <;> exact hu
  split
  · exact State.Same.keeps (by simp)
  · split
    · split
      · exact .rfl
      · exact ht (State.rdUnit_keeps ..)
    · split
      · exact .rfl
      · exact ht (State.wrUnit_keeps ..)
    · split
      · exact .rfl
      · exact ht (State.wrBeats_keeps ..)
    · exact State.Same.keeps (by simp)
    · exact .rfl
    · split <;> exact .rfl

@[simp] theorem State.serve_keeps (m) : s.Keeps (s.serve m).1 := by
  unfold State.serve
  split
  · exact (State.serveTile_onlyTiles ..).keeps
  · split
    · exact State.serveUnit_keeps ..
    · exact .rfl

@[simp] theorem State.deliver_keeps (m) : s.Keeps (s.deliver m) := by
  unfold State.deliver
  split
  · exact State.Same.keeps (by split <;> simp)
  · have h0 : s.Same { s with flight := s.flight.erase (msgSent m) } := by simp
    extract_lets r a e
    have h1 : s.Keeps r.1 := h0.trans_keeps (State.serve_keeps ..)
    exact h1.trans_same (by simp [e])

@[simp] theorem State.abandonWorm_keeps (m arrived) : s.Keeps (s.abandonWorm m arrived) := by
  unfold State.abandonWorm
  extract_lets s1 d cap
  have h1 : s.Same s1 := by simp [s1]
  split
  · exact h1.keeps
  · exact h1.trans_keeps (State.serve_keeps ..)

@[simp] theorem State.arrive_keeps (m kind) : s.Keeps (s.arrive m kind) := by
  unfold State.arrive
  split
  · split
    · exact State.deliver_keeps ..
    · exact State.Same.keeps (by simp)
  · exact .rfl

@[simp] theorem State.respond_onlyTiles (r) : s.OnlyTiles (s.respond r) := by
  simp +contextual -implicitDefEqProofs [State.respond]

/-! ### Accesses of the host and of the debug master (R429, R484) -/

@[simp] theorem State.bar0Flit_keeps (w o bs) : s.Keeps (s.bar0Flit w o bs) := by
  unfold State.bar0Flit
  split
  · exact .rfl
  · exact State.wrFlit_keeps ..

@[simp] theorem State.bar0Write_keeps (w n o bs) : s.Keeps (s.bar0Write w n o bs) := by
  induction n generalizing s o bs with
  | zero => exact .rfl
  | succ n ih =>
    simp only [State.bar0Write]
    split
    · exact .rfl
    · exact (State.bar0Flit_keeps ..).trans (ih ..)

@[simp] theorem State.bar0_keeps (a) : s.Keeps (s.bar0 a) := by
  simp only [State.bar0]
  split
  · exact State.Same.keeps (by simp)
  · exact (State.bar0Write_keeps ..).trans_same (State.usedTag_same ..)

@[simp] theorem State.debugTile_onlyTiles (write addr data) : s.OnlyTiles (s.debugTile write addr data) := by
  simp +contextual -implicitDefEqProofs [State.debugTile]

@[simp] theorem State.debugUnit_keeps (write addr data) : s.Keeps (s.debugUnit write addr data) := by
  have h1 : s.Same (s.crossed addr) := by simp
  simp only [State.debugUnit]
  (repeat' split)
  · exact State.Same.keeps (by simp)
  · exact State.Same.keeps (by simp)
  · exact (h1.trans_keeps (State.wrUnit_keeps ..)).trans_same (State.accDone_same ..)
  · exact (h1.trans_keeps (State.rdUnit_keeps ..)).trans_same (State.accDone_same ..)

@[simp] theorem State.debugAccess_keeps (op space addr data) : s.Keeps (s.debugAccess op space addr data) := by
  unfold State.debugAccess
  extract_lets e s1
  have h1 : s.Same s1 := by simp [s1]
  split
  · exact .rfl
  · split
    · exact h1.trans_keeps (State.debugTile_onlyTiles ..).keeps
    · split
      · exact h1.trans_keeps (State.debugUnit_keeps ..)
      · exact (h1.trans (by simp)).keeps

/-! ### Remote accesses inside a custom instruction (R132) -/

@[simp] theorem State.serveMid_keeps (p n mid) : s.Keeps (s.serveMid p n mid) := by
  unfold State.serveMid
  refine foldl_keeps (fun u e => ?_) _ _
  split
  · exact State.deliver_keeps ..
  · exact .rfl

theorem UCtx.withMem_ok {u : State} (h : s.Keeps u) (k : UCtx) (p) : (k.withMem (u.tile p)).OkOf s :=
  ⟨h.tile p, h.tile p⟩

theorem uRunMid_keeps {u : State} (h : s.Keeps u) (c p mid fuel n us k) :
    s.Keeps (uRunMid c p mid fuel n us u k).1 := by
  induction fuel generalizing u n us k with
  | zero => exact h
  | succ fuel ih =>
    cases us with
    | nil => exact h
    | cons i r =>
      have h1 := h.trans (State.serveMid_keeps u p n mid)
      simp only [uRunMid]
      split
      · exact h1
      · split
        · exact h1
        · exact ih h1 _ _ _

theorem uRunMid_ok {u : State} (h : s.Keeps u) {c p mid fuel n us} {k k' : UCtx} (hk : k.OkOf s)
    (hr : (uRunMid c p mid fuel n us u k).2 = .ok k') : k'.OkOf s := by
  induction fuel generalizing u n us k with
  | zero => cases hr; exact hk
  | succ fuel ih =>
    cases us with
    | nil => cases hr; exact hk
    | cons i r =>
      have h1 := h.trans (State.serveMid_keeps u p n mid)
      have hk1 := UCtx.withMem_ok s h1 k p
      simp only [uRunMid] at hr
      split at hr
      · exact uRun_ok hk1 hr
      · split at hr
        · cases hr
        · next hu => exact ih h1 (uStep_ok hk1 hu) hr

theorem State.custMid_keeps {k : UCtx} (hk : k.OkOf s) (p f us mid) : (s.custMid p f us k mid).KeepsOf s := by
  have h1 := uRunMid_keeps s .rfl f p mid us.length 0 us k
  simp only [State.custMid]
  split
  · exact fun u hu => h1.trans_same (State.badTrap_same ..)
  · next hr =>
    have hk' := uRunMid_ok s .rfl hk hr
    refine ⟨hk'.2.of_mem (UCtx.finish_mem _), fun u hu => ?_⟩
    exact h1.setTile (hu.tile p) p

theorem execCustomInstruction_keeps (p x c) : Out.KeepsOf s (execCustomInstruction p x c s) :=
  State.custom_keeps _ _ _ fun f us k hk => by
    split
    · exact custPlain_keeps hk _ _
    · exact State.custMid_keeps s hk _ _ _ _

end Sys2Proof.Machine
end

section
/-! SUPPORT. What 5 ns do, and the shapes that the rows of commands have. -/

namespace Sys2Proof.Machine
open Sys2Proof.Safety

variable (s : State)

/-! ### Faults and power (R313 to R329, R452 to R466) -/

@[simp] theorem State.scrubBad_keeps (m word) : s.Keeps (s.scrubBad m word) := by
  simp only [State.scrubBad]
  (repeat' split) <;> simp +contextual -implicitDefEqProofs

@[simp] theorem State.portsDown_keeps (emulated) : s.Keeps (s.portsDown emulated) := by
  simp only [State.portsDown]
  (repeat' split) <;> simp +contextual -implicitDefEqProofs

@[simp] theorem State.enterSleep_keeps (st keep cfg w) : s.Keeps (s.enterSleep st keep cfg w) := by
  simp +contextual -implicitDefEqProofs [State.enterSleep]

theorem tick_keeps : s.Keeps (tick s) := by
  have h1 : s.Same { s with aon := (s.aon.tick (s.delta 5 0) (s.delta 5 1)).1, wall := s.wall + 1 } := by simp
  unfold tick
  dsimp only
  split
  · exact .rfl
  · split
    · exact State.Same.keeps (by simp)
    · split
      · exact h1.trans_keeps (State.tickRun_keeps ..)
      · exact State.Same.keeps (by simp)

/-! ### The shapes of the rows -/

variable {s}

theorem okWhen_keeps {s' : State} (h : s.Keeps s') (c c') : Out.KeepsOf s (ok c (when_ c' s' s)) :=
  ok_keeps (keeps_when h .rfl _) _

/-- What a command leaves once it is answered keeps every memory of `s`. -/
def CmdRes.KeepsOf (s : State) : CmdRes → Prop
  | .done u _ _ | .wait u => s.Keeps u
  | .after u f => s.Keeps u ∧ ∀ v : State, v.Keeps (f v)

@[simp] theorem CmdRes.done_keeps {u st p} : (CmdRes.done u st p).KeepsOf s ↔ s.Keeps u := Iff.rfl

@[simp] theorem CmdRes.wait_keeps {u} : (CmdRes.wait u).KeepsOf s ↔ s.Keeps u := Iff.rfl

@[simp] theorem CmdRes.after_keeps {u f} :
    (CmdRes.after u f).KeepsOf s ↔ s.Keeps u ∧ ∀ v : State, v.Keeps (f v) := Iff.rfl

@[simp] theorem CmdRes.ok_keeps {u} : (CmdRes.ok u).KeepsOf s ↔ s.Keeps u := Iff.rfl

@[simp] theorem CmdRes.no_keeps {u st} : (CmdRes.no u st).KeepsOf s ↔ s.Keeps u := Iff.rfl

@[simp] theorem CmdRes.held_keeps {u o i} : (CmdRes.held u o i).KeepsOf s ↔ s.Keeps u := Iff.rfl

theorem CmdRes.finish_keeps {r : CmdRes} (h : r.KeepsOf s) (m) : s.Keeps (r.finish m) := by
  cases r with
  | done u st p => exact State.Keeps.trans h (State.finishMbx_keeps ..)
  | after u f => exact (State.Keeps.trans h.1 (State.finishMbx_keeps ..)).trans (h.2 _)
  | wait u => exact h

theorem command_keeps (m code sel) {body : List Byte → CmdRes} (hb : ∀ p, (body p).KeepsOf s) :
    Out.KeepsOf s (command s m code sel body) := by
  refine Machine.ok_keeps ?_ _
  split
  · exact CmdRes.finish_keeps (hb _) m
  · exact .rfl

theorem State.takeMember_keeps (a b) {f : State → State} (hf : ∀ u : State, u.Keeps (f u)) :
    s.Keeps (s.takeMember a b f) := by
  have h1 : s.Same (s.takePacket a.port (a.packet b)).1 := by simp
  unfold State.takeMember
  dsimp only
  split
  · exact h1.keeps
  · split
    · exact h1.trans_keeps (hf _)
    · exact (h1.trans (State.passOn_same ..)).keeps

theorem memberRow_keeps (a b) {f : State → State} (hf : ∀ u : State, u.Keeps (f u)) :
    Out.KeepsOf s (memberRow a b f s) :=
  okWhen_keeps (State.takeMember_keeps a b fun u => keeps_when (hf u) .rfl _) _ _

theorem State.regWrite_keeps (w a n) {f : State → State} (hf : ∀ u : State, u.Keeps (f u)) :
    s.Keeps (s.regWrite w a n f) := by
  unfold State.regWrite
  split
  · exact .rfl
  · split
    · exact State.Same.keeps (by simp)
    · split
      · exact State.Same.keeps (by simp)
      · exact (State.crossed_same ..).trans_keeps (hf _)

theorem State.regRead_keeps (b dev a n) {f : State → State × Nat} (hf : ∀ u : State, u.Keeps (f u).1) :
    s.Keeps (s.regRead b dev a n f) := by
  unfold State.regRead
  dsimp only
  split
  · exact .rfl
  · split
    · exact State.Same.keeps (by simp)
    · split
      · exact State.Same.keeps (by simp)
      · exact ((State.crossed_same ..).trans_keeps (hf _)).trans_same (State.answerRead_same ..)

end Sys2Proof.Machine
end

section
/-! SUPPORT. The firmware update and the calibration records (R411 to R427). -/

namespace Sys2Proof.Machine
open Sys2Proof.Safety

variable {s : State}

/-! ### The firmware's banks and records (R411 to R427) -/

@[simp] theorem Boot.writeJournal_stored (b : Boot) (j) :
    (b.writeJournal j).bank0 = b.bank0 ∧ (b.writeJournal j).bank1 = b.bank1 ∧ (b.writeJournal j).copy0 = b.copy0 ∧
      (b.writeJournal j).copy1 = b.copy1 ∧ (b.writeJournal j).slots = b.slots := ⟨rfl, rfl, rfl, rfl, rfl⟩

@[simp] theorem Boot.markRuling_stored (b : Boot) (f) :
    (b.markRuling f).bank0 = b.bank0 ∧ (b.markRuling f).bank1 = b.bank1 ∧ (b.markRuling f).copy0 = b.copy0 ∧
      (b.markRuling f).copy1 = b.copy1 ∧ (b.markRuling f).slots = b.slots := ⟨rfl, rfl, rfl, rfl, rfl⟩

@[simp] theorem Boot.blow_stored (b : Boot) :
    b.blow.bank0 = b.bank0 ∧ b.blow.bank1 = b.bank1 ∧ b.blow.copy0 = b.copy0 ∧ b.blow.copy1 = b.copy1 ∧
      b.blow.slots = b.slots := ⟨rfl, rfl, rfl, rfl, rfl⟩

/-- From `b` to `c` only the banks change, which stay in their canonical form. -/
@[simp] abbrev Boot.KeepsBanks (b c : Boot) : Prop :=
  (FlashOk b.bank0 → FlashOk c.bank0) ∧ (FlashOk b.bank1 → FlashOk c.bank1) ∧ c.copy0 = b.copy0 ∧ c.copy1 = b.copy1 ∧
    c.slots = b.slots

theorem State.setBoot_keeps {b : Boot} (h : s.boot.KeepsBanks b) : s.Keeps (s.setBoot b) := by
  simp_all [State.setBoot]

theorem Boot.setBank_keepsBanks {b : Boot} {n : Nat} {m : Mem} (h : FlashOk (b.bankMem n) → FlashOk m) :
    b.KeepsBanks (b.setBank n m) := by
  unfold Boot.setBank
  unfold Boot.bankMem at h
  split <;> simp_all

theorem Mem.wfFrom_filter {d : Byte} {lo : Nat} {m : Mem} (h : m.wfFrom d lo = true) (f : Nat × Byte → Bool) :
    Mem.wfFrom d lo (m.filter f) = true := by
  induction m generalizing lo with
  | nil => rfl
  | cons e r ih =>
    obtain ⟨a, v⟩ := e
    simp only [Mem.wfFrom, Bool.and_eq_true, decide_eq_true_eq] at h
    obtain ⟨⟨hlo, hv⟩, hr⟩ := h
    rw [List.filter_cons]
    split
    · simp [Mem.wfFrom, hlo, hv, ih hr]
    · exact Mem.wfFrom_mono (by omega) (ih hr)

theorem Boot.eraseSector_keepsBanks (b : Boot) (n k) : b.KeepsBanks (b.eraseSector n k) :=
  Boot.setBank_keepsBanks fun h : FlashOk (b.bankMem n) => Mem.wfFrom_filter h _

theorem execCalRecordWrite_keeps : Out.KeepsOf s (execCalRecordWrite s) :=
  okWhen_keeps (State.setBoot_keeps (by simp)) _ _

theorem execTrialSelfTest_keeps (pass) : Out.KeepsOf s (execTrialSelfTest pass s) := by
  refine okWhen_keeps ?_ _ _
  split
  · exact (State.setBoot_keeps (by simp)).trans (State.mgmtRestart_keeps ..)
  · split
    · exact State.setBoot_keeps (by simp)
    · exact (State.confirmTrial_same ..).keeps

theorem execBackgroundErase_keeps : Out.KeepsOf s (execBackgroundErase s) :=
  okWhen_keeps (State.setBoot_keeps (Boot.eraseSector_keepsBanks ..)) _ _

/-- A refusal changes nothing. -/
theorem CmdRes.no_self {st} : (CmdRes.no s st).KeepsOf s := State.Keeps.rfl

theorem execUpdateBegin_keeps (m fuseOk) : Out.KeepsOf s (execUpdateBegin m fuseOk s) :=
  command_keeps _ _ _ fun p => by
    extract_lets len resume b j b1 b2 k b3
    have h2 : b.KeepsBanks b2 := by
      simp only [b2]
      split <;> simp [b1]
    (repeat' split) <;> try exact CmdRes.no_self
    have h3 : s.boot.KeepsBanks b3 := by
      have he : Boot.KeepsBanks { b2 with erased := [] } b3 := Boot.eraseSector_keepsBanks ..
      simp_all [b]
    exact (State.setBoot_keeps (by simpa [b] using h3)).trans_same (State.setUpdateBox_same ..)

theorem execUpdateChunk_keeps (m) : Out.KeepsOf s (execUpdateChunk m s) :=
  command_keeps _ _ _ fun p => by
    extract_lets k n b j total want old data b1 b2 last
    have h1 : s.boot.KeepsBanks b1 := Boot.setBank_keepsBanks fun h => FlashOk.write h _ _
    (repeat' split) <;> try exact CmdRes.no_self
    · exact State.Keeps.rfl
    · exact State.setBoot_keeps (by simpa [b2] using h1)
    · exact State.setBoot_keeps h1

theorem execUpdateVerify_keeps (m) : Out.KeepsOf s (execUpdateVerify m s) :=
  command_keeps _ _ _ fun p => by
    dsimp only
    (repeat' split) <;> try exact CmdRes.no_self
    · exact State.setBoot_keeps (by simp)
    · exact State.setBoot_keeps (by simp)

theorem execUpdateActivate_keeps (m) : Out.KeepsOf s (execUpdateActivate m s) :=
  command_keeps _ _ _ fun p => by
    dsimp only
    (repeat' split) <;> try exact CmdRes.no_self
    exact ⟨State.setBoot_keeps (by simp), fun v => State.mgmtRestart_keeps ..⟩

theorem execUpdateCancel_keeps (m) : Out.KeepsOf s (execUpdateCancel m s) :=
  command_keeps _ _ _ fun p => by
    dsimp only
    (repeat' split) <;> try exact CmdRes.no_self
    · exact ⟨State.setBoot_keeps (by simp), fun v => State.mgmtRestart_keeps ..⟩
    · exact (State.setBoot_keeps (by simp)).trans_same (State.setUpdateBox_same ..)

theorem execCalWriteUser_keeps (m) : Out.KeepsOf s (execCalWriteUser m s) :=
  command_keeps _ _ _ fun p => by
    dsimp only
    (repeat' split) <;> try exact CmdRes.no_self
    exact (State.setBoot_keeps (by simp)).trans_same (State.setCalBox_same ..)

theorem execCalApply_keeps (m) : Out.KeepsOf s (execCalApply m s) :=
  command_keeps _ _ _ fun p => by
    dsimp only
    (repeat' split) <;> try exact CmdRes.no_self
    exact (State.setBoot_keeps (by simp)).trans_same (State.setCalBox_same ..)

theorem execCalRevert_keeps (m) : Out.KeepsOf s (execCalRevert m s) :=
  command_keeps _ _ _ fun p => by
    (repeat' split) <;> try exact CmdRes.no_self
    exact (State.setBoot_keeps (by simp)).trans_same (State.setCalBox_same ..)

end Sys2Proof.Machine
end

section
/-! SUPPORT. Rows with more than one case, and those whose operation takes an argument of its own. -/

namespace Sys2Proof.Machine
open Sys2Proof.Safety

variable {s : State}

/-! ### Rows of the tiles, the queues and the units -/

theorem byTile_keeps {s' : State} (h : s.Keeps s') (p) : s.Keeps (byTile p s' s) :=
  keeps_when h .rfl _

theorem execDispTdone_keeps (c phys opnum) : Out.KeepsOf s (execDispTdone c phys opnum s) :=
  ok_keeps (byTile_keeps (State.gateTdone_same ..).keeps _) _

theorem execPoolTake_keeps (b) : Out.KeepsOf s (execPoolTake b s) :=
  ok_keeps (State.regRead_keeps _ _ _ _ fun _ => (State.readTake_onlyBuffers ..).keeps) _

theorem execTimeNs_keeps (master size) : Out.KeepsOf s (execTimeNs master size s) :=
  ok_keeps (State.regRead_keeps _ _ _ _ fun _ => (State.sampleTime_same ..).keeps) _

theorem execTimeAonLo_keeps (master lag) : Out.KeepsOf s (execTimeAonLo master lag s) :=
  ok_keeps (State.regRead_keeps _ _ _ _ fun _ => (State.sampleAon_same ..).keeps) _

theorem execSerRx_keeps (b e) : Out.KeepsOf s (execSerRx b e s) :=
  ok_keeps (State.regRead_keeps _ _ _ _ fun _ => (State.readSer_same ..).keeps) _

theorem execMbxTake_keeps (b dev m) : Out.KeepsOf s (execMbxTake b dev m s) :=
  ok_keeps (State.regRead_keeps _ _ _ _ fun _ => (State.readMbxTake_same ..).keeps) _

theorem execRcRead_keeps (b addr) : Out.KeepsOf s (execRcRead b addr s) :=
  okWhen_keeps (State.regRead_keeps _ _ _ _ fun _ => (State.rdRegs_onlyBuffers ..).keeps) _ _

theorem execQueuePop_keeps (q b) : Out.KeepsOf s (execQueuePop q b s) := by
  refine ok_keeps ?_ _
  split
  · exact byTile_keeps (State.gatePop_same ..).keeps _
  · exact State.regRead_keeps _ _ _ _ fun _ => (State.readPop_same ..).keeps

theorem execQueuePush_keeps (q entry b) : Out.KeepsOf s (execQueuePush q entry b s) := by
  refine ok_keeps ?_ _
  split
  · exact byTile_keeps (State.gatePush_same ..).keeps _
  · exact keeps_when (State.hwPush_same ..).keeps .rfl _
  · exact State.regWrite_keeps _ _ _ fun _ => (State.writePush_same ..).keeps

theorem execDispReady_keeps (c slot b) : Out.KeepsOf s (execDispReady c slot b s) := by
  refine ok_keeps ?_ _
  split
  · refine byTile_keeps (State.Same.keeps ?_) _
    split
    · exact State.gateBeaten_same ..
    · exact State.gateReady_same ..
  · refine State.regWrite_keeps _ _ _ fun u => State.Same.keeps ?_
    split
    · exact State.beaten_same ..
    · exact State.dReady_same ..

theorem execDispCancel_keeps (c slot b withReady) : Out.KeepsOf s (execDispCancel c slot b withReady s) := by
  have raced (u : State) : u.Same (if withReady then u.beaten c else u) := by
    split
    · exact State.beaten_same ..
    · exact .rfl
  refine ok_keeps ?_ _
  split
  · exact byTile_keeps ((raced s).trans (State.gateCancel_same ..)).keeps _
  · exact State.regWrite_keeps _ _ _ fun u => ((raced u).trans (State.dCancel_same ..)).keeps

theorem execCancelLimitExpiry_keeps (c slot) : Out.KeepsOf s (execCancelLimitExpiry c slot s) := by
  refine okWhen_keeps ?_ _ _
  split
  · exact State.Same.keeps (by simp)
  · exact State.Same.keeps (by simp)

theorem execStrmCmd_keeps (master k v) : Out.KeepsOf s (execStrmCmd master k v s) :=
  ok_keeps (State.regWrite_keeps _ _ _ fun _ => keeps_when (State.flushStream_same ..).keeps .rfl _) _

theorem execDmaRun_keeps (master ch v) : Out.KeepsOf s (execDmaRun master ch v s) :=
  ok_keeps (State.regWrite_keeps _ _ _ fun _ => keeps_when (State.writeDmaCtl_same ..).keeps .rfl _) _

theorem execDmaStop_keeps (master ch v) : Out.KeepsOf s (execDmaStop master ch v s) :=
  ok_keeps (State.regWrite_keeps _ _ _ fun _ => keeps_when (State.writeDmaCtl_same ..).keeps .rfl _) _

theorem execRegisterWrite_keeps (r addr v) : Out.KeepsOf s (execRegisterWrite r addr v s) :=
  okWhen_keeps (State.regWrite_keeps _ _ _ fun _ => State.wrWord_keeps ..) _ _

theorem execSendCompletion_keeps (p tag) : Out.KeepsOf s (execSendCompletion p tag s) := by
  refine ok_keeps ?_ _
  split
  · exact .rfl
  · exact keeps_when (State.complete_onlyTiles ..).keeps .rfl _

theorem execResponseTimeout_keeps (b tag) : Out.KeepsOf s (execResponseTimeout b tag s) := by
  cases b <;> exact okWhen_keeps (State.Same.keeps (by simp)) _ _

theorem execTagRestExpiry_keeps (b tag) : Out.KeepsOf s (execTagRestExpiry b tag s) := by
  cases b with
  | tile p =>
    refine okWhen_keeps (State.Keeps.rfl.setTile ?_ p) _ _
    exact State.Keeps.rfl.tile p
  | dma e | host | hub => exact okWhen_keeps (State.Same.keeps (by simp)) _ _
  | router => exact ok_keeps .rfl _

theorem execCommitApply_keeps : Out.KeepsOf s (execCommitApply s) := by
  refine ok_keeps ?_ _
  split
  · exact .rfl
  · exact keeps_when (State.Same.keeps (by simp)) .rfl _

theorem execRelock_keeps : Out.KeepsOf s (execRelock s) := by
  refine ok_keeps ?_ _
  split
  · exact State.Same.keeps (by simp)
  · exact keeps_when (State.Same.keeps (by simp)) .rfl _

theorem execMsixSend_keeps (v) : Out.KeepsOf s (execMsixSend v s) :=
  okWhen_keeps (State.Same.keeps (by simp [HostPort.send])) _ _

/-! ### Rows of the protection, the fabric and the power domains -/

theorem State.thermalTrip_keeps (s : State) : s.Keeps s.thermalTrip := by
  unfold State.thermalTrip
  extract_lets s1 f
  have h1 : s.Same s1 := by simp [s1]
  have h2 : s1.Same { s1 with faults := { f with tripped := true } } := by simp
  exact ((h1.trans h2).trans (State.announceOff_same ..)).keeps.trans (State.deviceRestart_keeps ..)

theorem execTemperatureRead_keeps (readings) : Out.KeepsOf s (execTemperatureRead readings s) := by
  unfold execTemperatureRead
  extract_lets temps hot e warn s1 s2
  have h1 : s.Same s1 := by simp [s1, e]
  refine okWhen_keeps ?_ _ _
  simp only [s2]
  (repeat' split)
  · exact (h1.trans (State.letGo_same ..)).keeps
  · exact h1.keeps
  · exact h1.trans_keeps (State.thermalTrip_keeps ..)
  · exact h1.keeps

theorem execReq_keeps (p k) : Out.KeepsOf s (execReq p k s) := by
  unfold execReq
  refine okWhen_keeps (State.Same.keeps ?_) _ _
  have h1 : s.Same (s.takePacket p k).1 := by simp
  dsimp only
  split
  · (repeat' split)
    · exact .rfl
    · exact h1
    · exact h1.trans (State.serveReq_same ..)
    · exact h1.trans (State.passOn_same ..)
    · exact h1
    · exact h1.trans (State.passOn_same ..)
  · unfold when_
    split <;> simp

theorem execStatus_keeps (a number) : Out.KeepsOf s (execStatus a number s) :=
  memberRow_keeps _ _ fun _ => keeps_when (State.hearStatus_keeps ..) .rfl _

theorem execRedirect_keeps (a captain) : Out.KeepsOf s (execRedirect a captain s) :=
  memberRow_keeps _ _ fun u => keeps_when (State.Same.keeps (by simp)) .rfl _

theorem execHeartbeatSend_keeps : Out.KeepsOf s (execHeartbeatSend s) :=
  okWhen_keeps (State.Same.keeps (by simp)) _ _

theorem execNotice_keeps (a seq b) : Out.KeepsOf s (execNotice a seq b s) := by
  cases b with
  | change k =>
    have h1 : s.Same (s.takePacket a.port (a.packet (.notice seq k))).1 := by simp
    refine okWhen_keeps ?_ _ _
    split
    · exact h1.trans_keeps (State.takeFlood_keeps ..)
    · exact h1.keeps
  | _ => exact memberRow_keeps _ _ fun _ => State.forFirmware_keeps ..

theorem execSentOff_keeps (a) : Out.KeepsOf s (execSentOff a s) :=
  okWhen_keeps (State.takeMember_keeps _ _ fun _ => State.forFirmware_keeps ..) _ _

theorem execTileSubstitution_keeps (t copyBad) : Out.KeepsOf s (execTileSubstitution t copyBad s) := by
  refine ok_keeps ?_ _
  split
  · exact .rfl
  · exact keeps_when (State.substituteLowest_keeps ..) .rfl _

theorem execDuplexPromotion_keeps (t) : Out.KeepsOf s (execDuplexPromotion t s) := by
  refine ok_keeps ?_ _
  split
  · exact keeps_when (State.promote_onlyTiles ..).keeps .rfl _
  · exact .rfl

theorem execSleepExit_keeps : Out.KeepsOf s (execSleepExit s) := by
  refine ok_keeps ?_ _
  split
  · exact keeps_when (State.leaveSleep_keeps ..) .rfl _
  · exact .rfl

theorem execDrizzleCycle_keeps (rx) : Out.KeepsOf s (execDrizzleCycle rx s) := by
  refine ok_keeps ?_ _
  split
  · exact keeps_when (State.Same.keeps (by simp)) .rfl _
  · exact .rfl

theorem execDrizzleWaitEnd_keeps (rx) : Out.KeepsOf s (execDrizzleWaitEnd rx s) := by
  refine ok_keeps ?_ _
  split
  · exact keeps_when (State.Same.keeps (by simp)) .rfl _
  · exact .rfl

theorem execDbgAccess_keeps (op space addr data) : Out.KeepsOf s (execDbgAccess op space addr data s) := by
  have h1 : s.Keeps (s.loadIr 0x10) := State.loadIr_keeps ..
  exact ok_keeps (keeps_when (h1.trans (State.debugAccess_keeps ..)) h1 _) _

/-! ### Mailbox commands -/

theorem State.mapCopies_onlyTiles (t) {f : Tile → Tile} (h : ∀ x : Tile, BytesOk x.mem → BytesOk (f x).mem) :
    s.OnlyTiles (s.mapCopies t f) :=
  foldl_onlyTiles (fun _ _ => State.setTile_only (h _)) _ _

theorem execLoadTileImage_keeps (m) : Out.KeepsOf s (execLoadTileImage m s) :=
  command_keeps _ _ _ fun p => by
    extract_lets t n a s1
    have h1 : s.Keeps s1 := (State.mapCopies_onlyTiles t fun x hx => by simpa using Tile.storeBytes_ok hx _ _).keeps
    (repeat' split) <;> try exact CmdRes.no_self
    · exact h1.trans (State.persist_keeps ..)
    · exact h1

theorem execStartTile_keeps (m) : Out.KeepsOf s (execStartTile m s) :=
  command_keeps _ _ _ fun p => by
    split
    · exact CmdRes.no_self
    · exact State.Same.keeps (foldl_same _ (fun u t => State.startLogical_same ..) _ _)

theorem execSetPaceTarget_keeps (m) : Out.KeepsOf s (execSetPaceTarget m s) :=
  command_keeps _ _ _ fun p => by
    dsimp only
    split
    · exact CmdRes.no_self
    · exact State.Same.keeps (foldl_same _ (fun u c => by simp) _ _)

theorem foldl_loadEntry_mem {es : List (Nat × List W24)} (x : Tile) :
    (es.foldl (fun y e => y.loadEntry e.1 e.2) x).mem = x.mem :=
  List.foldlRecOn (motive := fun y : Tile => y.mem = x.mem) _ _ rfl fun _ hy _ _ => (Tile.loadEntry_mem ..).trans hy

theorem execLoadDecodeTable_keeps (m) : Out.KeepsOf s (execLoadDecodeTable m s) :=
  command_keeps _ _ _ fun p => by
    extract_lets t mask es bad kept b s1
    have h1 : s.Same s1 := by simp [s1, b]
    split
    · exact CmdRes.no_self
    · split
      · exact State.Keeps.rfl
      · exact h1.trans_keeps (State.mapCopies_onlyTiles t fun x hx => by rwa [foldl_loadEntry_mem]).keeps

theorem execSetDuplex_keeps (m) : Out.KeepsOf s (execSetDuplex m s) := by
  refine command_keeps _ _ _ fun p => ?_
  extract_lets t q auto pair u
  have paired (prep : State → State) (r : Nat) (hp : s.Same (prep s)) : (pair prep r).KeepsOf s := by
    simp only [pair]
    split
    · exact State.withBench_keeps _ (hp.trans_keeps (State.pair_onlyTiles ..).keeps)
    · exact State.Keeps.rfl
  clear_value pair u q
  split
  · exact CmdRes.no_self
  · split
    · split
      · exact (State.unpair_same ..).keeps
      · exact CmdRes.no_self
    · split
      · exact CmdRes.no_self
      · split
        · split
          · exact paired id _ .rfl
          · exact CmdRes.no_self
        · by_cases hq : 0x8000 ≤ q
          · rw [if_pos hq]
            split
            · exact CmdRes.no_self
            · split
              · exact CmdRes.no_self
              · split
                · exact paired (fun v => v.retireLogical u) _ (State.retireLogical_same ..)
                · exact CmdRes.no_self
          · rw [if_neg hq]
            split
            · exact CmdRes.no_self
            · split
              · exact paired id _ .rfl
              · exact CmdRes.no_self

theorem State.noModel_keeps {u : State} (h : s.Keeps u) (code) : (u.noModel code).KeepsOf s :=
  h.trans_same (State.setEngine_same _ rfl)

theorem execModelLoadValidate_keeps (m) : Out.KeepsOf s (execModelLoadValidate m s) :=
  command_keeps _ _ _ fun p => by
    extract_lets x s1 r
    have h1 : s.Same s1 := by simp [s1]
    (repeat' split) <;> try exact State.noModel_keeps .rfl _
    · exact h1.keeps.trans_same (State.setEngine_same _ rfl)
    all_goals exact State.noModel_keeps h1.keeps _

theorem execModelLoad_keeps (m) : Out.KeepsOf s (execModelLoad m s) :=
  command_keeps _ _ _ fun p => by
    dsimp only
    (repeat' split) <;> try exact State.noModel_keeps .rfl _
    exact (State.writeModel_keeps ..).trans_same (State.setModelBox_same ..)

theorem execModelSwitch_keeps (m) : Out.KeepsOf s (execModelSwitch m s) :=
  command_keeps _ _ _ fun p => by
    dsimp only
    (repeat' split) <;> try exact CmdRes.no_self
    rw [CmdRes.ok_keeps]
    refine State.Same.keeps ?_
    simp

end Sys2Proof.Machine
end

section
/-! SUPPORT. Every other row, every command and every step (O60). -/

namespace Sys2Proof.Machine
open Sys2Proof.Safety

variable {s : State}

/-! ### Rows whose operations need no argument of their own -/

theorem execPoolGive_keeps (master v) : Out.KeepsOf s (execPoolGive master v s) :=
  ok_keeps (State.regWrite_keeps _ _ _ fun _ => (State.poolGiveOp_same ..).keeps) _

theorem execPoolFree_keeps (master v) : Out.KeepsOf s (execPoolFree master v s) :=
  ok_keeps (State.regWrite_keeps _ _ _ fun _ => (State.poolFreeOp_onlyBuffers ..).keeps) _

theorem execDispatch_keeps (c) : Out.KeepsOf s (execDispatch c s) := by
  refine okWhen_keeps (State.Same.keeps ?_) _ _
  dsimp only
  (repeat' split) <;> simp

theorem execEventFiring_keeps (n) : Out.KeepsOf s (execEventFiring n s) :=
  okWhen_keeps (State.Same.keeps (by simp)) _ _

theorem execDeliveryConfirm_keeps (n) : Out.KeepsOf s (execDeliveryConfirm n s) :=
  okWhen_keeps (State.Same.keeps (by simp)) _ _

theorem execDeliveryResend_keeps (n) : Out.KeepsOf s (execDeliveryResend n s) :=
  okWhen_keeps (State.Same.keeps (by simp)) _ _

theorem execHoldIntervalEnd_keeps (g) : Out.KeepsOf s (execHoldIntervalEnd g s) :=
  okWhen_keeps (State.Same.keeps (by simp)) _ _

theorem execSecondTick_keeps : Out.KeepsOf s (execSecondTick s) :=
  okWhen_keeps (State.Same.keeps (by simp)) _ _

theorem execTimeCommitAbsolute_keeps (master) : Out.KeepsOf s (execTimeCommitAbsolute master s) :=
  ok_keeps (State.regWrite_keeps _ _ _ fun _ => (State.writeCommit_same ..).keeps) _

theorem execTimeCommitRelative_keeps (master) : Out.KeepsOf s (execTimeCommitRelative master s) :=
  ok_keeps (State.regWrite_keeps _ _ _ fun _ => (State.writeCommit_same ..).keeps) _

theorem execTimeRate_keeps (master v) : Out.KeepsOf s (execTimeRate master v s) :=
  ok_keeps (State.regWrite_keeps _ _ _ fun _ => (State.writeRate_same ..).keeps) _

theorem execSlewEnd_keeps : Out.KeepsOf s (execSlewEnd s) :=
  okWhen_keeps (State.Same.keeps (by simp)) _ _

theorem execAonCalibration_keeps (measured) : Out.KeepsOf s (execAonCalibration measured s) :=
  okWhen_keeps (State.Same.keeps (by simp)) _ _

theorem execSyncLost_keeps : Out.KeepsOf s (execSyncLost s) :=
  okWhen_keeps (State.Same.keeps (by simp)) _ _

theorem execVioRise_keeps (b mv) : Out.KeepsOf s (execVioRise b mv s) :=
  ok_keeps (State.Same.keeps (by simp)) _

theorem execChainedAction_keeps (n) : Out.KeepsOf s (execChainedAction n s) :=
  okWhen_keeps (State.Same.keeps (by simp)) _ _

theorem execFrameHandoff_keeps (f) : Out.KeepsOf s (execFrameHandoff f s) := by
  refine okWhen_keeps ?_ _ _
  split
  · exact .rfl
  · exact State.OnlyBuffers.keeps (by simp +contextual -implicitDefEqProofs)

theorem execLineTimeout_keeps (k) : Out.KeepsOf s (execLineTimeout k s) := by
  refine okWhen_keeps ?_ _ _
  simp +contextual -implicitDefEqProofs

theorem execEnginePoolRetry_keeps : Out.KeepsOf s (execEnginePoolRetry s) := by
  refine okWhen_keeps ?_ _ _
  simp +contextual -implicitDefEqProofs

theorem execEnginePushAccepted_keeps (q) : Out.KeepsOf s (execEnginePushAccepted q s) := by
  refine okWhen_keeps ?_ _ _
  split
  · exact .rfl
  · exact (State.acceptHeld_onlyBuffers ..).keeps

theorem execEngReturn_keeps (master v) : Out.KeepsOf s (execEngReturn master v s) :=
  ok_keeps (State.regWrite_keeps _ _ _ fun _ => (State.writeEngReturn_onlyBuffers ..).keeps) _

theorem execStreamDrained_keeps (k) : Out.KeepsOf s (execStreamDrained k s) := by
  refine okWhen_keeps ?_ _ _
  simp +contextual -implicitDefEqProofs

theorem execScrubVisit_keeps (m word single) : Out.KeepsOf s (execScrubVisit m word single s) := by
  refine okWhen_keeps ?_ _ _
  simp +contextual -implicitDefEqProofs

theorem execRefereeOutvote_keeps (k) : Out.KeepsOf s (execRefereeOutvote k s) :=
  okWhen_keeps (State.Same.keeps (by simp)) _ _

theorem execLockstepMismatch_keeps : Out.KeepsOf s (execLockstepMismatch s) := by
  refine okWhen_keeps ?_ _ _
  simp +contextual -implicitDefEqProofs

theorem execRefereeMajorityLoss_keeps : Out.KeepsOf s (execRefereeMajorityLoss s) :=
  ok_keeps (State.selfSendOff_keeps ..) _

theorem execSupplyOutOfRange_keeps (r) : Out.KeepsOf s (execSupplyOutOfRange r s) := by
  refine ok_keeps ?_ _
  simp +contextual -implicitDefEqProofs

theorem execSupplyRestored_keeps (r) : Out.KeepsOf s (execSupplyRestored r s) :=
  okWhen_keeps (State.letGo_same ..).keeps _ _

theorem execReferenceClockLoss_keeps : Out.KeepsOf s (execReferenceClockLoss s) :=
  ok_keeps (State.Same.keeps (by simp)) _

theorem execColdStart_keeps (c) : Out.KeepsOf s (execColdStart c s) := by
  refine ok_keeps ?_ _
  simp +contextual -implicitDefEqProofs

theorem execDeviceRestart_keeps : Out.KeepsOf s (execDeviceRestart s) := by
  refine ok_keeps ?_ _
  simp +contextual -implicitDefEqProofs

theorem execManagementRestart_keeps (c) : Out.KeepsOf s (execManagementRestart c s) :=
  okWhen_keeps (State.mgmtRestart_keeps ..) _ _

theorem execTileRestart_keeps (r) : Out.KeepsOf s (execTileRestart r s) := by
  refine okWhen_keeps ?_ _ _
  simp +contextual -implicitDefEqProofs

theorem execPaceLoop_keeps (readings) : Out.KeepsOf s (execPaceLoop readings s) :=
  okWhen_keeps (State.paceLoop_same ..).keeps _ _

theorem execPaceAlarm_keeps (c) : Out.KeepsOf s (execPaceAlarm c s) :=
  okWhen_keeps (State.Same.keeps (by simp)) _ _

theorem execPowerEstimate_keeps (mw) : Out.KeepsOf s (execPowerEstimate mw s) :=
  okWhen_keeps (State.powerEstimate_same ..).keeps _ _

theorem execCourtPark_keeps (c) : Out.KeepsOf s (execCourtPark c s) :=
  okWhen_keeps (State.Same.keeps (by simp)) _ _

theorem execPmbusPoll_keeps (r vout iout temp) : Out.KeepsOf s (execPmbusPoll r vout iout temp s) :=
  okWhen_keeps (State.Same.keeps (by simp)) _ _

theorem execPmbAlertN_keeps (fault) : Out.KeepsOf s (execPmbAlertN fault s) :=
  okWhen_keeps (State.readStatus_same ..).keeps _ _

theorem execRegulatorRetry_keeps (good) : Out.KeepsOf s (execRegulatorRetry good s) :=
  okWhen_keeps (State.Same.keeps (by simp)) _ _

theorem execPlacementRefresh_keeps (busy) : Out.KeepsOf s (execPlacementRefresh busy s) :=
  okWhen_keeps (State.Same.keeps (by simp)) _ _

theorem execPortUp_keeps (p h) : Out.KeepsOf s (execPortUp p h s) :=
  okWhen_keeps (State.Same.keeps (by simp)) _ _

theorem execLaneLoss_keeps (p lane) : Out.KeepsOf s (execLaneLoss p lane s) :=
  okWhen_keeps (State.Same.keeps (by simp)) _ _

theorem execLaneRestore_keeps (p) : Out.KeepsOf s (execLaneRestore p s) :=
  okWhen_keeps (State.Same.keeps (by simp)) _ _

theorem execRsp_keeps (p k) : Out.KeepsOf s (execRsp p k s) :=
  okWhen_keeps (State.Same.keeps (by simp)) _ _

theorem execLink_keeps (p k) : Out.KeepsOf s (execLink p k s) :=
  okWhen_keeps (State.Same.keeps (by simp)) _ _

theorem execReplayLimit_keeps (p) : Out.KeepsOf s (execReplayLimit p s) :=
  okWhen_keeps (State.Same.keeps (by simp)) _ _

theorem execDelayExchange_keeps (p t1 t2 t3 t4) : Out.KeepsOf s (execDelayExchange p t1 t2 t3 t4 s) :=
  okWhen_keeps (State.Same.keeps (by simp)) _ _

theorem execHeartbeat_keeps (p h) : Out.KeepsOf s (execHeartbeat p h s) := by
  refine okWhen_keeps ?_ _ _
  simp +contextual -implicitDefEqProofs

theorem execNeighbourSilent_keeps (p) : Out.KeepsOf s (execNeighbourSilent p s) := by
  refine okWhen_keeps ?_ _ _
  simp +contextual -implicitDefEqProofs

theorem execStatusSend_keeps : Out.KeepsOf s (execStatusSend s) := by
  refine okWhen_keeps ?_ _ _
  simp +contextual -implicitDefEqProofs

theorem execMembershipUnconfirmed_keeps : Out.KeepsOf s (execMembershipUnconfirmed s) :=
  okWhen_keeps (State.Same.keeps (by simp)) _ _

theorem execCandidateMove_keeps : Out.KeepsOf s (execCandidateMove s) :=
  okWhen_keeps (State.setFabric_same ..).keeps _ _

theorem execCaptainQuorumLoss_keeps : Out.KeepsOf s (execCaptainQuorumLoss s) :=
  okWhen_keeps (State.setFabric_same ..).keeps _ _

theorem execFabricSubstitution_keeps (d standby) : Out.KeepsOf s (execFabricSubstitution d standby s) := by
  refine okWhen_keeps ?_ _ _
  dsimp only
  (repeat' split) <;> simp +contextual -implicitDefEqProofs

theorem execBeaconSend_keeps : Out.KeepsOf s (execBeaconSend s) :=
  okWhen_keeps (State.Same.keeps (by simp)) _ _

theorem execBeacon_keeps (p k residence) : Out.KeepsOf s (execBeacon p k residence s) :=
  okWhen_keeps (State.Same.keeps (by simp)) _ _

theorem execHolderExpiry_keeps (m) : Out.KeepsOf s (execHolderExpiry m s) :=
  okWhen_keeps (State.Same.keeps (by simp)) _ _

theorem execCommandTake_keeps (m) : Out.KeepsOf s (execCommandTake m s) := by
  refine okWhen_keeps ?_ _ _
  dsimp only
  (repeat' split) <;> simp +contextual -implicitDefEqProofs

theorem execDeadlineExpiry_keeps (m) : Out.KeepsOf s (execDeadlineExpiry m s) := by
  refine okWhen_keeps ?_ _ _
  simp +contextual -implicitDefEqProofs

theorem execHwAborted_keeps (m) : Out.KeepsOf s (execHwAborted m s) := by
  refine okWhen_keeps ?_ _ _
  simp +contextual -implicitDefEqProofs

theorem execGetIdentity_keeps (m) : Out.KeepsOf s (execGetIdentity m s) :=
  command_keeps _ _ _ fun p => by
    (repeat' split) <;> exact State.Same.keeps (by simp)

theorem execGetCapabilities_keeps (m) : Out.KeepsOf s (execGetCapabilities m s) :=
  command_keeps _ _ _ fun p => by
    dsimp only
    (repeat' split) <;> exact State.Same.keeps (by simp)

theorem execEcho_keeps (m) : Out.KeepsOf s (execEcho m s) :=
  command_keeps _ _ _ fun _ => State.Same.keeps (by simp)

theorem execAbort_keeps (m) : Out.KeepsOf s (execAbort m s) :=
  command_keeps _ _ _ fun p => by
    dsimp only
    (repeat' split) <;> exact State.Same.keeps (by simp)

theorem execStopTile_keeps (m) : Out.KeepsOf s (execStopTile m s) :=
  command_keeps _ _ _ fun p => by
    dsimp only
    (repeat' split) <;> exact State.Same.keeps (by simp)

theorem execSetPowerCap_keeps (m) : Out.KeepsOf s (execSetPowerCap m s) :=
  command_keeps _ _ _ fun p => by
    dsimp only
    (repeat' split) <;> exact State.Same.keeps (by simp)

theorem execClaim_keeps (m) : Out.KeepsOf s (execClaim m s) :=
  command_keeps _ _ _ fun p => by
    (repeat' split) <;> exact State.Same.keeps (by simp)

theorem execRelease_keeps (m) : Out.KeepsOf s (execRelease m s) :=
  command_keeps _ _ _ fun p => by
    (repeat' split) <;> exact State.Same.keeps (by simp)

theorem execQueryOwner_keeps (m) : Out.KeepsOf s (execQueryOwner m s) :=
  command_keeps _ _ _ fun p => by
    dsimp only
    (repeat' split) <;> exact State.Same.keeps (by simp)

theorem execGrantWindowOpen_keeps (m) : Out.KeepsOf s (execGrantWindowOpen m s) :=
  command_keeps _ _ _ fun p => by
    dsimp only
    (repeat' split) <;> exact State.Same.keeps (by simp)

theorem execGrantWindowClose_keeps (m) : Out.KeepsOf s (execGrantWindowClose m s) :=
  command_keeps _ _ _ fun p => by
    dsimp only
    (repeat' split) <;> exact State.Same.keeps (by simp)

theorem execUpdateConfirm_keeps (m) : Out.KeepsOf s (execUpdateConfirm m s) :=
  command_keeps _ _ _ fun p => by
    (repeat' split) <;> exact State.Same.keeps (by simp)

theorem execUpdateStatus_keeps (m) : Out.KeepsOf s (execUpdateStatus m s) :=
  command_keeps _ _ _ fun p => by
    (repeat' split) <;> exact State.Same.keeps (by simp)

theorem execCalReadFactory_keeps (m) : Out.KeepsOf s (execCalReadFactory m s) :=
  command_keeps _ _ _ fun p => by
    dsimp only
    (repeat' split) <;> exact State.Same.keeps (by simp)

theorem execFaultLogRead_keeps (m) : Out.KeepsOf s (execFaultLogRead m s) :=
  command_keeps _ _ _ fun p => by
    dsimp only
    (repeat' split) <;> exact State.Same.keeps (by simp)

theorem execSubstituteTile_keeps (m copyBad) : Out.KeepsOf s (execSubstituteTile m copyBad s) :=
  command_keeps _ _ _ fun p => by
    dsimp only
    (repeat' split) <;> simp +contextual -implicitDefEqProofs

theorem execReadmitTile_keeps (m pass) : Out.KeepsOf s (execReadmitTile m pass s) :=
  command_keeps _ _ _ fun p => by
    dsimp only
    (repeat' split) <;> simp +contextual -implicitDefEqProofs

theorem execSendOff_keeps (m) : Out.KeepsOf s (execSendOff m s) :=
  command_keeps _ _ _ fun p => by
    dsimp only
    (repeat' split) <;> simp +contextual -implicitDefEqProofs

theorem execTimeSet_keeps (m) : Out.KeepsOf s (execTimeSet m s) :=
  command_keeps _ _ _ fun p => by
    dsimp only
    (repeat' split) <;> exact State.Same.keeps (by simp)

theorem execTimeAdjustRate_keeps (m) : Out.KeepsOf s (execTimeAdjustRate m s) :=
  command_keeps _ _ _ fun p => by
    dsimp only
    (repeat' split) <;> exact State.Same.keeps (by simp)

theorem execTimeAdjustSlew_keeps (m) : Out.KeepsOf s (execTimeAdjustSlew m s) :=
  command_keeps _ _ _ fun p => by
    (repeat' split) <;> exact State.Same.keeps (by simp)

theorem execTimeSyncMode_keeps (m) : Out.KeepsOf s (execTimeSyncMode m s) :=
  command_keeps _ _ _ fun p => by
    dsimp only
    (repeat' split) <;> exact State.Same.keeps (by simp)

theorem execStreamConfigure_keeps (m) : Out.KeepsOf s (execStreamConfigure m s) :=
  command_keeps _ _ _ fun p => by
    dsimp only
    (repeat' split) <;> exact State.Same.keeps (by simp)

theorem execStreamEnable_keeps (m) : Out.KeepsOf s (execStreamEnable m s) :=
  command_keeps _ _ _ fun p => by
    dsimp only
    (repeat' split) <;> exact State.Same.keeps (by simp)

theorem execStreamStop_keeps (m) : Out.KeepsOf s (execStreamStop m s) :=
  command_keeps _ _ _ fun p => by
    dsimp only
    (repeat' split) <;> simp +contextual -implicitDefEqProofs

theorem execFeedRuleLoad_keeps (m) : Out.KeepsOf s (execFeedRuleLoad m s) :=
  command_keeps _ _ _ fun p => by
    (repeat' split) <;> exact State.Same.keeps (by simp)

theorem execFabricJoin_keeps (m) : Out.KeepsOf s (execFabricJoin m s) :=
  command_keeps _ _ _ fun p => by
    (repeat' split) <;> exact State.Same.keeps (by simp)

theorem execFabricLeave_keeps (m) : Out.KeepsOf s (execFabricLeave m s) :=
  command_keeps _ _ _ fun p => by
    dsimp only
    (repeat' split) <;> exact State.Same.keeps (by simp)

theorem execFabricRouteSet_keeps (m) : Out.KeepsOf s (execFabricRouteSet m s) :=
  command_keeps _ _ _ fun p => by
    dsimp only
    (repeat' split) <;> exact State.Same.keeps (by simp)

theorem execFabricMembers_keeps (m) : Out.KeepsOf s (execFabricMembers m s) :=
  command_keeps _ _ _ fun p => by
    dsimp only
    (repeat' split) <;> exact State.Same.keeps (by simp)

theorem execLogRead_keeps (m) : Out.KeepsOf s (execLogRead m s) :=
  command_keeps _ _ _ fun p => by
    (repeat' split) <;> exact State.Same.keeps (by simp)

theorem execCountersRead_keeps (m) : Out.KeepsOf s (execCountersRead m s) :=
  command_keeps _ _ _ fun p => by
    (repeat' split) <;> exact State.Same.keeps (by simp)

theorem execRateDetectTurn_keeps (f) : Out.KeepsOf s (execRateDetectTurn f s) :=
  okWhen_keeps (State.Same.keeps (by simp)) _ _

theorem execFeedBlockLock_keeps (f fast) : Out.KeepsOf s (execFeedBlockLock f fast s) :=
  okWhen_keeps (State.Same.keeps (by simp)) _ _

theorem execFeedLinkDown_keeps (f) : Out.KeepsOf s (execFeedLinkDown f s) :=
  okWhen_keeps (State.Same.keeps (by simp)) _ _

theorem execFunctionLevelReset_keeps (c) : Out.KeepsOf s (execFunctionLevelReset c s) :=
  okWhen_keeps (State.hostReset_keeps ..) _ _

theorem execHostLinkUp_keeps (gen width) : Out.KeepsOf s (execHostLinkUp gen width s) :=
  okWhen_keeps (State.Same.keeps (by simp)) _ _

theorem execServiceBulkCommand_keeps (bytes) : Out.KeepsOf s (execServiceBulkCommand bytes s) :=
  okWhen_keeps (State.bulkCommand_keeps ..) _ _

theorem execVendorAbort_keeps : Out.KeepsOf s (execVendorAbort s) :=
  okWhen_keeps (State.writeAbort_same ..).keeps _ _

theorem execVendorState_keeps : Out.KeepsOf s (execVendorState s) :=
  okWhen_keeps (State.Same.keeps (by simp)) _ _

theorem execBusReset_keeps (r) : Out.KeepsOf s (execBusReset r s) :=
  okWhen_keeps (State.Same.keeps (by simp)) _ _

theorem execVbusRise_keeps : Out.KeepsOf s (execVbusRise s) :=
  okWhen_keeps (State.Same.keeps (by simp)) _ _

theorem execSetConfiguration_keeps : Out.KeepsOf s (execSetConfiguration s) :=
  okWhen_keeps (State.Same.keeps (by simp)) _ _

theorem execSuspend_keeps (on) : Out.KeepsOf s (execSuspend on s) :=
  okWhen_keeps (State.Same.keeps (by simp)) _ _

theorem execPowerStateSet_keeps (m) : Out.KeepsOf s (execPowerStateSet m s) :=
  command_keeps _ _ _ fun p => by
    dsimp only
    (repeat' split) <;> simp +contextual -implicitDefEqProofs

theorem execDrizzleProgram_keeps (m) : Out.KeepsOf s (execDrizzleProgram m s) :=
  command_keeps _ _ _ fun p => by
    (repeat' split) <;> exact State.Same.keeps (by simp)

theorem execWakeRecordRead_keeps (m) : Out.KeepsOf s (execWakeRecordRead m s) :=
  command_keeps _ _ _ fun p => by
    (repeat' split) <;> exact State.Same.keeps (by simp)

theorem execLinkWakeRequest_keeps (p) : Out.KeepsOf s (execLinkWakeRequest p s) :=
  ok_keeps (State.Same.keeps (by simp)) _

theorem execAonOscillatorStop_keeps : Out.KeepsOf s (execAonOscillatorStop s) :=
  ok_keeps (State.Same.keeps (by simp)) _

theorem execPowerLoss_keeps : Out.KeepsOf s (execPowerLoss s) := by
  refine ok_keeps ?_ _
  simp +contextual -implicitDefEqProofs

theorem execAuthChallenge_keeps (m) : Out.KeepsOf s (execAuthChallenge m s) :=
  command_keeps _ _ _ fun p => by
    dsimp only
    (repeat' split) <;> exact State.Same.keeps (by simp)

theorem execAuthResponse_keeps (m) : Out.KeepsOf s (execAuthResponse m s) :=
  command_keeps _ _ _ fun p => by
    dsimp only
    (repeat' split) <;> exact State.Same.keeps (by simp)

theorem execDebugEnable_keeps (m) : Out.KeepsOf s (execDebugEnable m s) :=
  command_keeps _ _ _ fun p => by
    dsimp only
    (repeat' split) <;> exact State.Same.keeps (by simp)

theorem execFrostEnter_keeps : Out.KeepsOf s (execFrostEnter s) :=
  okWhen_keeps (State.enterFrost_same ..).keeps _ _

theorem execFrostLeave_keeps : Out.KeepsOf s (execFrostLeave s) :=
  okWhen_keeps (State.leaveFrost_same ..).keeps _ _

theorem execDbgPatchAddr_keeps (u v) : Out.KeepsOf s (execDbgPatchAddr u v s) :=
  okWhen_keeps (State.writePatchAddr_same ..).keeps _ _

theorem execTapReset_keeps : Out.KeepsOf s (execTapReset s) :=
  ok_keeps (State.loadIr_keeps ..) _

theorem execTestInstructionReplaced_keeps (ir) : Out.KeepsOf s (execTestInstructionReplaced ir s) :=
  okWhen_keeps (State.loadIr_keeps ..) _ _

theorem execDmaStopComplete_keeps (ch) : Out.KeepsOf s (execDmaStopComplete ch s) :=
  okWhen_keeps (State.Same.keeps (by simp)) _ _

theorem execDmaBeat_keeps (e) : Out.KeepsOf s (execDmaBeat e s) := by
  have h1 : s.Same (s.issueReads e) := State.issueReads_same ..
  refine okWhen_keeps (State.Same.keeps ?_) _ _
  generalize s.issueReads e = s1 at h1
  split
  · exact h1.trans (s1.moveBeat_same e _)
  · exact h1.trans (s1.noPreempts_same e)

theorem execWrite_keeps (m) : Out.KeepsOf s (execWrite m s) :=
  ok_keeps (State.arrive_keeps ..) _

theorem execRead_keeps (m) : Out.KeepsOf s (execRead m s) :=
  ok_keeps (State.arrive_keeps ..) _

theorem execWriteFixed_keeps (m) : Out.KeepsOf s (execWriteFixed m s) :=
  ok_keeps (State.arrive_keeps ..) _

theorem execMsg_keeps (m) : Out.KeepsOf s (execMsg m s) :=
  ok_keeps (State.arrive_keeps ..) _

theorem execEvent_keeps (m) : Out.KeepsOf s (execEvent m s) :=
  ok_keeps (State.arrive_keeps ..) _

theorem execDone_keeps (r) : Out.KeepsOf s (execDone r s) :=
  okWhen_keeps (State.respond_onlyTiles ..).keeps _ _

theorem execRetry_keeps (r) : Out.KeepsOf s (execRetry r s) :=
  okWhen_keeps (State.respond_onlyTiles ..).keeps _ _

theorem execError_keeps (r) : Out.KeepsOf s (execError r s) :=
  okWhen_keeps (State.respond_onlyTiles ..).keeps _ _

theorem execAbandon_keeps (m arrived) : Out.KeepsOf s (execAbandon m arrived s) :=
  okWhen_keeps (State.abandonWorm_keeps ..) _ _

theorem execHostAccess_keeps (a) : Out.KeepsOf s (execHostAccess a s) := by
  refine okWhen_keeps ?_ _ _
  simp +contextual -implicitDefEqProofs

/-! ### Entry and wake -/

theorem execEventEntry_keeps (p) : Out.KeepsOf s (execEventEntry p s) :=
  okWhen_keeps (State.Same.keeps (by simp)) _ _

theorem execTileWake_keeps (p) : Out.KeepsOf s (execTileWake p s) := by
  refine okWhen_keeps (State.Keeps.rfl.setTile ?_ p) _ _
  split <;> exact State.Keeps.rfl.tile p

theorem execPaceCompareMatch_keeps (p) : Out.KeepsOf s (execPaceCompareMatch p s) := by
  refine okWhen_keeps (State.Keeps.rfl.setTile ?_ p) _ _
  exact State.Keeps.rfl.tile p

/-! ### Every command and every step -/

theorem exec_keeps (i : Instr) : Out.KeepsOf s (exec i s) := by
  have hr := tileRun_keeps (s := s) i
  cases i
  case mov | add | adc | sub | sbc | and | or | xor | mul | muls | not | neg | inc | dec | swap | movp | movpw |
      movwp | addpw | addpb | movi | addi | movip | addip | subi | adci | sbci | andi | ori | xori | shl | shr |
      asr | rol | ror | rlc | rrc | ld | st | ldw | stw | ldp | stp | lea | jmp | call | ret | bra | jmpp | callp |
      djnz | bcc | nop | cmpg | cmpgi | dadd | dsub | dadj | dshl | dshr | b2d | d2b | bset | bclr | btgl | btst |
      gand | gor | gxor | gmov | gtod | dtog | send | qpush | qpop | time | stim | sleep | tready | tcancel |
      tdone | gets | sets | rete | trap | fence =>
    exact hr
  case sysPcnt0 => exact State.tileExec_keeps _ _ _ _ fun o n _ hn => hn.of_mem (by simp)
  case sysDtdat2 | sysDtcmt | sysRxsize => exact State.tileExec_keeps _ _ _ _ fun o n _ hn => hn.of_mem (by simp)
  case queuePush => exact execQueuePush_keeps _ _ _
  case queuePop => exact execQueuePop_keeps _ _
  case flush => exact ok_keeps (State.regWrite_keeps _ _ _ fun _ => (State.qFlush_same ..).keeps) _
  case queueTailExpiry => exact okWhen_keeps (State.queueNotices_same ..).keeps _ _
  case poolTake => exact execPoolTake_keeps _
  case poolGive => exact execPoolGive_keeps _ _
  case poolFree => exact execPoolFree_keeps _ _
  case dispReady => exact execDispReady_keeps _ _ _
  case dispCancel => exact execDispCancel_keeps _ _ _ _
  case dispTdone => exact execDispTdone_keeps _ _ _
  case dispatch => exact execDispatch_keeps _
  case cancelLimitExpiry => exact execCancelLimitExpiry_keeps _ _
  case sendCompletion => exact execSendCompletion_keeps _ _
  case tagRestExpiry => exact execTagRestExpiry_keeps _ _
  case eventFiring => exact execEventFiring_keeps _
  case deliveryStart => exact okWhen_keeps (State.startDelivery_same ..).keeps _ _
  case deliveryConfirm => exact execDeliveryConfirm_keeps _
  case deliveryResend => exact execDeliveryResend_keeps _
  case deliveryTimeout => exact okWhen_keeps (State.dropDelivery_same ..).keeps _ _
  case holdIntervalEnd => exact execHoldIntervalEnd_keeps _
  case evrTgt => exact ok_keeps (State.regWrite_keeps _ _ _ fun _ => (State.writeTgt_same ..).keeps) _
  case evrFired => exact ok_keeps (State.regWrite_keeps _ _ _ fun _ => (State.writeFired_same ..).keeps) _
  case evrHold => exact ok_keeps (State.regWrite_keeps _ _ _ fun _ => (State.writeHold_same ..).keeps) _
  case secondTick => exact execSecondTick_keeps
  case timeNs => exact execTimeNs_keeps _ _
  case timeAonLo => exact execTimeAonLo_keeps _ _
  case timeCommitAbsolute => exact execTimeCommitAbsolute_keeps _
  case timeCommitRelative => exact execTimeCommitRelative_keeps _
  case commitApply => exact execCommitApply_keeps
  case timeRate => exact execTimeRate_keeps _ _
  case slewEnd => exact execSlewEnd_keeps
  case alarmFire => exact okWhen_keeps (State.fireAlarm_same ..).keeps _ _
  case arm => exact ok_keeps (State.regWrite_keeps _ _ _ fun _ => (State.writeAlmCtl_same ..).keeps) _
  case releaseAlarm => exact ok_keeps (State.regWrite_keeps _ _ _ fun _ => (State.writeAlmCtl_same ..).keeps) _
  case aonCalibration => exact execAonCalibration_keeps _
  case relock => exact execRelock_keeps
  case syncLost => exact execSyncLost_keeps
  case pinInputChange => exact ok_keeps (State.padChange_same ..).keeps _
  case deglitchExpiry => exact okWhen_keeps (State.pinEdge_same ..).keeps _ _
  case pinCfg => exact ok_keeps (State.regWrite_keeps _ _ _ fun _ => (State.writePinCfg_same ..).keeps) _
  case pinSet => exact ok_keeps (State.regWrite_keeps _ _ _ fun _ => (State.writePinBits_same ..).keeps) _
  case pinClr => exact ok_keeps (State.regWrite_keeps _ _ _ fun _ => (State.writePinBits_same ..).keeps) _
  case vioLoss => exact ok_keeps (State.bankAt_same ..).keeps _
  case vioRise => exact execVioRise_keeps _ _
  case timerBoundary => exact okWhen_keeps (State.timerEvents_same ..).keeps _ _
  case timerCompareMatch => exact okWhen_keeps (State.timerEvents_same ..).keeps _ _
  case chainedAction => exact execChainedAction_keeps _
  case timerCapture => exact okWhen_keeps (State.capture_same ..).keeps _ _
  case tmrShadowWrite => exact ok_keeps (State.regWrite_keeps _ _ _ fun _ => (State.writeShadow_same ..).keeps) _
  case tmrCnt => exact ok_keeps (State.regWrite_keeps _ _ _ fun _ => (State.writeCnt_same ..).keeps) _
  case tmrCtl => exact ok_keeps (State.regWrite_keeps _ _ _ fun _ => (State.writeCtl_same ..).keeps) _
  case serTx => exact ok_keeps (State.regWrite_keeps _ _ _ fun _ => (State.writeSerTx_same ..).keeps) _
  case serRx => exact execSerRx_keeps _ _
  case serCtl => exact ok_keeps (State.regWrite_keeps _ _ _ fun _ => (State.writeSerCtl_same ..).keeps) _
  case serialUnitDone => exact okWhen_keeps (State.serUnit_same ..).keeps _ _
  case frameHandoff => exact execFrameHandoff_keeps _
  case lineTimeout => exact execLineTimeout_keeps _
  case lineProcess => exact okWhen_keeps (State.processLine_onlyBuffers ..).keeps _ _
  case flushUsExpiry => exact okWhen_keeps (State.pushBuf_same ..).keeps _ _
  case strmCmd => exact execStrmCmd_keeps _ _ _
  case enginePoolRetry => exact execEnginePoolRetry_keeps
  case enginePushAccepted => exact execEnginePushAccepted_keeps _
  case modelMemoryWrite => exact ok_keeps (State.regWrite_keeps _ _ _ fun _ => (State.writeModel_keeps ..)) _
  case engReturn => exact execEngReturn_keeps _ _
  case streamDrained => exact execStreamDrained_keeps _
  case lineJudgeStall => exact okWhen_keeps (State.unitFails_keeps ..) _ _
  case invalidCode => exact okWhen_keeps (State.unitFails_keeps ..) _ _
  case scrubVisit => exact execScrubVisit_keeps _ _ _
  case refereeOutvote => exact execRefereeOutvote_keeps _
  case lockstepMismatch => exact execLockstepMismatch_keeps
  case refereeMajorityLoss => exact execRefereeMajorityLoss_keeps
  case supplyOutOfRange => exact execSupplyOutOfRange_keeps _
  case supplyRestored => exact execSupplyRestored_keeps _
  case referenceClockLoss => exact execReferenceClockLoss_keeps
  case temperatureRead => exact execTemperatureRead_keeps _
  case tileSubstitution => exact execTileSubstitution_keeps _ _
  case courtSubstitution => exact okWhen_keeps (State.courtFails_keeps ..) _ _
  case duplexPromotion => exact execDuplexPromotion_keeps _
  case coldStart => exact execColdStart_keeps _
  case deviceRestart => exact execDeviceRestart_keeps
  case managementRestart => exact execManagementRestart_keeps _
  case courtRestart => exact okWhen_keeps (State.courtRestart_same ..).keeps _ _
  case tileRestart => exact execTileRestart_keeps _
  case paceLoop => exact execPaceLoop_keeps _
  case paceAlarm => exact execPaceAlarm_keeps _
  case powerEstimate => exact execPowerEstimate_keeps _
  case courtPark => exact execCourtPark_keeps _
  case pmbusPoll => exact execPmbusPoll_keeps _ _ _ _
  case pmbAlertN => exact execPmbAlertN_keeps _
  case regulatorRetry => exact execRegulatorRetry_keeps _
  case placementRefresh => exact execPlacementRefresh_keeps _
  case islandWake => exact okWhen_keeps (State.startIsland_same ..).keeps _ _
  case portUp => exact execPortUp_keeps _ _
  case laneLoss => exact execLaneLoss_keeps _ _
  case laneRestore => exact execLaneRestore_keeps _
  case req => exact execReq_keeps _ _
  case rsp => exact execRsp_keeps _ _
  case link => exact execLink_keeps _ _
  case replayTimeout => exact okWhen_keeps (State.replayPort_same ..).keeps _ _
  case replayLimit => exact execReplayLimit_keeps _
  case heartbeatSend => exact execHeartbeatSend_keeps
  case delayExchange => exact execDelayExchange_keeps _ _ _ _ _
  case heartbeat => exact execHeartbeat_keeps _ _
  case neighbourSilent => exact execNeighbourSilent_keeps _
  case statusSend => exact execStatusSend_keeps
  case status => exact execStatus_keeps _ _
  case confirm => exact memberRow_keeps _ _ fun _ => (State.confirmed_keeps ..)
  case redirect => exact execRedirect_keeps _ _
  case notice => exact execNotice_keeps _ _ _
  case sentOff => exact execSentOff_keeps _
  case takeover => exact memberRow_keeps _ _ fun _ => (State.forFirmware_keeps ..)
  case membershipUnconfirmed => exact execMembershipUnconfirmed_keeps
  case candidateMove => exact execCandidateMove_keeps
  case captainQuorumLoss => exact execCaptainQuorumLoss_keeps
  case fabricSubstitution => exact execFabricSubstitution_keeps _ _
  case beaconSend => exact execBeaconSend_keeps
  case beacon => exact execBeacon_keeps _ _ _
  case fullTables => exact memberRow_keeps _ _ fun _ => (State.forFirmware_keeps ..)
  case mbxDoorbell => exact ok_keeps (State.regWrite_keeps _ _ _ fun _ => (State.doorbell_same ..).keeps) _
  case mbxAbort => exact ok_keeps (State.regWrite_keeps _ _ _ fun _ => (State.writeAbort_same ..).keeps) _
  case mbxTake => exact execMbxTake_keeps _ _ _
  case mbxGive => exact ok_keeps (State.regWrite_keeps _ _ _ fun _ => (State.writeGive_same ..).keeps) _
  case holderExpiry => exact execHolderExpiry_keeps _
  case commandTake => exact execCommandTake_keeps _
  case deadlineExpiry => exact execDeadlineExpiry_keeps _
  case hwAborted => exact execHwAborted_keeps _
  case getIdentity => exact execGetIdentity_keeps _
  case getCapabilities => exact execGetCapabilities_keeps _
  case echo => exact execEcho_keeps _
  case abort => exact execAbort_keeps _
  case loadTileImage => exact execLoadTileImage_keeps _
  case startTile => exact execStartTile_keeps _
  case stopTile => exact execStopTile_keeps _
  case loadDecodeTable => exact execLoadDecodeTable_keeps _
  case setPaceTarget => exact execSetPaceTarget_keeps _
  case setPowerCap => exact execSetPowerCap_keeps _
  case claim => exact execClaim_keeps _
  case release => exact execRelease_keeps _
  case queryOwner => exact execQueryOwner_keeps _
  case grantWindowOpen => exact execGrantWindowOpen_keeps _
  case grantWindowClose => exact execGrantWindowClose_keeps _
  case updateBegin => exact execUpdateBegin_keeps _ _
  case updateChunk => exact execUpdateChunk_keeps _
  case updateVerify => exact execUpdateVerify_keeps _
  case updateActivate => exact execUpdateActivate_keeps _
  case updateConfirm => exact execUpdateConfirm_keeps _
  case updateStatus => exact execUpdateStatus_keeps _
  case updateCancel => exact execUpdateCancel_keeps _
  case backgroundErase => exact execBackgroundErase_keeps
  case trialSelfTest => exact execTrialSelfTest_keeps _
  case calReadFactory => exact execCalReadFactory_keeps _
  case calWriteUser => exact execCalWriteUser_keeps _
  case calApply => exact execCalApply_keeps _
  case calRevert => exact execCalRevert_keeps _
  case calRecordWrite => exact execCalRecordWrite_keeps
  case faultLogRead => exact execFaultLogRead_keeps _
  case substituteTile => exact execSubstituteTile_keeps _ _
  case readmitTile => exact execReadmitTile_keeps _ _
  case setDuplex => exact execSetDuplex_keeps _
  case sendOff => exact execSendOff_keeps _
  case timeSet => exact execTimeSet_keeps _
  case timeAdjustRate => exact execTimeAdjustRate_keeps _
  case timeAdjustSlew => exact execTimeAdjustSlew_keeps _
  case timeSyncMode => exact execTimeSyncMode_keeps _
  case modelLoad => exact execModelLoad_keeps _
  case modelLoadValidate => exact execModelLoadValidate_keeps _
  case modelSwitch => exact execModelSwitch_keeps _
  case streamConfigure => exact execStreamConfigure_keeps _
  case streamEnable => exact execStreamEnable_keeps _
  case streamStop => exact execStreamStop_keeps _
  case feedRuleLoad => exact execFeedRuleLoad_keeps _
  case fabricJoin => exact execFabricJoin_keeps _
  case fabricLeave => exact execFabricLeave_keeps _
  case fabricRouteSet => exact execFabricRouteSet_keeps _
  case fabricMembers => exact execFabricMembers_keeps _
  case logRead => exact execLogRead_keeps _
  case countersRead => exact execCountersRead_keeps _
  case frameReceived => exact okWhen_keeps (State.receiveFrame_onlyBuffers ..).keeps _ _
  case rateDetectTurn => exact execRateDetectTurn_keeps _
  case feedBlockLock => exact execFeedBlockLock_keeps _ _
  case feedLinkDown => exact execFeedLinkDown_keeps _
  case msixSend => exact execMsixSend_keeps _
  case functionLevelReset => exact execFunctionLevelReset_keeps _
  case hostLinkUp => exact execHostLinkUp_keeps _ _
  case configurationSpaceWrite => exact okWhen_keeps (State.configWrite_same ..).keeps _ _
  case serviceBulkCommand => exact execServiceBulkCommand_keeps _
  case vendorAbort => exact execVendorAbort_keeps
  case vendorState => exact execVendorState_keeps
  case busReset => exact execBusReset_keeps _
  case vbusRise => exact execVbusRise_keeps
  case setConfiguration => exact execSetConfiguration_keeps
  case suspend => exact execSuspend_keeps _
  case powerStateSet => exact execPowerStateSet_keeps _
  case drizzleProgram => exact execDrizzleProgram_keeps _
  case wakeRecordRead => exact execWakeRecordRead_keeps _
  case wakeInput => exact okWhen_keeps (State.wakeFrom_same ..).keeps _ _
  case sleepExit => exact execSleepExit_keeps
  case drizzleCycle => exact execDrizzleCycle_keeps _
  case drizzleWaitEnd => exact execDrizzleWaitEnd_keeps _
  case linkWakeRequest => exact execLinkWakeRequest_keeps _
  case aonOscillatorStop => exact execAonOscillatorStop_keeps
  case powerLoss => exact execPowerLoss_keeps
  case eventEntry => exact execEventEntry_keeps _
  case tileWake => exact execTileWake_keeps _
  case paceCompareMatch => exact execPaceCompareMatch_keeps _
  case authChallenge => exact execAuthChallenge_keeps _
  case authResponse => exact execAuthResponse_keeps _
  case debugEnable => exact execDebugEnable_keeps _
  case frostEnter => exact execFrostEnter_keeps
  case frostLeave => exact execFrostLeave_keeps
  case debugLine14 => exact okWhen_keeps (State.writeDbgTile_keeps ..) _ _
  case debugHalt => exact okWhen_keeps (State.writeDbgTile_keeps ..) _ _
  case debugResume => exact okWhen_keeps (State.writeDbgTile_keeps ..) _ _
  case debugStep => exact okWhen_keeps (State.writeDbgTile_keeps ..) _ _
  case dbgPatchAddr => exact execDbgPatchAddr_keeps _ _
  case tapReset => exact execTapReset_keeps
  case testInstructionReplaced => exact execTestInstructionReplaced_keeps _
  case dmaRun => exact execDmaRun_keeps _ _ _
  case dmaStop => exact execDmaStop_keeps _ _ _
  case dmaStopComplete => exact execDmaStopComplete_keeps _
  case dmaReset => exact ok_keeps (State.regWrite_keeps _ _ _ fun _ => (State.writeDmaCtl_same ..).keeps) _
  case dmaBeat => exact execDmaBeat_keeps _
  case dmaDescriptorComplete => exact okWhen_keeps (State.dmaEnd_same ..).keeps _ _
  case write => exact execWrite_keeps _
  case read => exact execRead_keeps _
  case writeFixed => exact execWriteFixed_keeps _
  case msg => exact execMsg_keeps _
  case event => exact execEvent_keeps _
  case done => exact execDone_keeps _
  case retry => exact execRetry_keeps _
  case error => exact execError_keeps _
  case abandon => exact execAbandon_keeps _ _
  case responseTimeout => exact execResponseTimeout_keeps _ _
  case hostAccess => exact execHostAccess_keeps _
  case dbgAccess => exact execDbgAccess_keeps _ _ _ _
  case rcRead => exact execRcRead_keeps _ _
  case registerWrite => exact execRegisterWrite_keeps _ _ _
  case customInstruction => exact execCustomInstruction_keeps s _ _ _

theorem step_keeps {t : State} (hs : step s = .next t) : s.Keeps t := by
  unfold step at hs
  split at hs
  · obtain rfl := Host.Outcome.next.inj hs
    exact tick_keeps s
  · next c rest _ =>
    have h1 := exec_keeps (s := { s with pending := rest }) c
    rw [hs] at h1
    exact h1

/-- Settles O60: every operation of the model leaves each memory, writes it byte by byte in its canonical form, or
empties it, and the pool takes and frees buffers below 2048 with generations modulo 32. -/
theorem storageStaysSound : Obligations.StorageStaysSound := by
  unfold Obligations.StorageStaysSound
  exact ⟨fun _ _ hs h => State.keeps_memories (step_keeps h) hs, fun _ _ hs h => State.keeps_pool (step_keeps h) hs⟩

end Sys2Proof.Machine
end
